-- ==== Sys2Proof/Word.lean ====
section
/-! DEFINITION. The word types of the model and the sparse table type that every memory and every bank of
like registers is held in. The operations over them stand in Sys2Proof/Machine/Table.lean. -/

namespace Sys2Proof

/-- A byte of any memory of the part. -/
abbrev Byte := BitVec 8

/-- A 32-bit word; an FP32 code (Table 03-1) is held in one. -/
abbrev Word := BitVec 32

/-- A table of like things indexed by a number, listing only the entries that differ from the table's default,
at strictly rising indices. A memory is a `Tab Byte`. -/
abbrev Tab (α : Type) := List (Nat × α)

end Sys2Proof
end

