-- ==== Sys2Proof/Syntax.lean ====
section
/-! DEFINITION. The commands of the block: one constructor of Instr for each row of spec/opcode_table.json, with the
operands that come from outside the part (a port, a mailbox, bytes written, a message received, a sensor reading, the
cycles an arbitration cost). A link is given by its port; 8 + k gives the second ×8 link of a split spare port k (15 R365). A
command that the part reads from its own plan carries only the unit that runs it. -/

namespace Sys2Proof

/-- A time message of virtual lane 5 (11 Table 11-2). -/
structure TimeMsg where
  srcId : Nat
  roosterId : Nat
  depth : Nat
  gen : Nat
  tBeat : Nat
  tFrac : Nat
  rxDelta : Nat
  wallB0 : Nat
  wallW0 : Nat
deriving DecidableEq, Repr

/-- A link message as its receiving link unit has it (15 R367): the 16-byte message header's fields, the flits' lane and
KIND, and the bytes. -/
structure LinkMsg where
  lane : Nat
  kind : Nat
  dst : Nat
  src : Nat
  sigId : Nat
  sigInc : Nat
  addr : Nat
  num : Nat
  space : Nat
  data : List Byte
deriving DecidableEq, Repr

/-- One flit (15 Table 15-2): the header's fields and the 248 payload bytes. -/
structure Flit where
  crc : Nat
  lane : Nat
  dclass : Nat
  kind : Nat
  dst : Nat
  first : Bool
  last : Bool
  fill : Nat
  payload : List Byte
deriving DecidableEq, Repr

/-- An identity-remap entry (15 Table 15-10). -/
structure RemapEntry where
  ident : Nat
  valid : Bool
  dead : Bool
  home : Nat
  proxy : Nat
  spareFold : Nat
  effective : Nat
deriving DecidableEq, Repr

/-- A fault notice (16 Table 16-11). -/
structure FaultNotice where
  src : Nat
  cause : Nat
  detail : Nat
  beat : Nat
deriving DecidableEq, Repr

/-- A gear notice (20 Table 20-3). -/
structure GearNotice where
  srcId : Nat
  half : Nat
  gear : Nat
  left : Nat
  raise : Bool
  effective : Nat
deriving DecidableEq, Repr

/-- A dispatch record or an answer as it arrives (10 R242, R247): the sender's fabric address, the header and the row. -/
structure ExpertMsg where
  src : Nat
  data : List Byte
deriving DecidableEq, Repr

/-- An end marker of lane 1 or 2 (10 R244, R247): the router, the sending member, the epoch and, on lane 1, the rows it placed in
each slot of the receiver. -/
structure EndMarker where
  router : Nat
  src : Nat
  epoch : Nat
  counts : List Nat
deriving DecidableEq, Repr

/-- The I3C common command codes that the sideband target supports (23 R550). -/
inductive Ccc
  | entdaa (address : Nat)
  | setdasa (static address : Nat)
  | rstdaa
  | getpid
  | getbcr
  | getdcr
deriving DecidableEq, Repr

/-- The instructions of the test port that change nothing (22 R535). -/
inductive JtagOp
  | bypass | idcode | samplePreload
deriving DecidableEq, Repr

/-- The four events that reset one host port (18 R451). -/
inductive PortResetKind
  | functionLevel | hot | perst | linkDown
deriving DecidableEq, Repr

/-- What a read of one HBM line met (13 R318). -/
inductive EccOutcome
  | clean | corrected | uncorrectable
deriving DecidableEq, Repr

/-- How the move of a swap ended (10 R256, R258): what ECC found in what was read, and whether a fenced peer cut it off. -/
structure MoveResult where
  ecc : EccOutcome
  fencedPeer : Bool
deriving DecidableEq, Repr

/-- A table entry and the identity whose remap entry is to take it (15 R397). -/
structure RemapPlace where
  index : Fin 64
  ident : Nat
deriving DecidableEq, Repr

/-- The cycles that arbitration and waiting cost a command (02 R43, 04 R92, 05 R141, 09 R228, 15 R390): none is fixed by
the spec's rules of results, so they come with the completion. `both` counts the cycles in which an Ox's feeder was dry and its
drain blocked, which are among those of `stall` and of `outStall` (04 R92). -/
structure Waits where
  stall : Nat
  outStall : Nat
  both : Nat
  token : Nat
  ack : Nat
deriving DecidableEq, Repr

/-- A power sample (20 R496, Table 20-7): watts, 10 mV and 10 mA, the core power of each half, and the number of the rail
whose current passed its I_LIM and of the one that passed 150 % of it for 10 µs, if any. -/
structure PowerReading where
  watts : Nat
  vIn : Nat
  iIn : Nat
  coreW : Nat
  coreE : Nat
deriving DecidableEq, Repr

/-- The commands of the block: the rows of the opcode table. -/
inductive Instr
  | ident (p : Fin 2) (m : Fin 16)
  | status (p : Fin 2) (m : Fin 16)
  | logRead (p : Fin 2) (m : Fin 16)
  | logTail (p : Fin 2) (m : Fin 16)
  | setSteward (p : Fin 2) (m : Fin 16)
  | configGet (p : Fin 2) (m : Fin 16)
  | configSet (p : Fin 2) (m : Fin 16)
  | apertureSet (p : Fin 2) (m : Fin 16)
  | mapRead (p : Fin 2) (m : Fin 16)
  | planLoad (p : Fin 2) (m : Fin 16)
  | planArm (p : Fin 2) (m : Fin 16)
  | planUnload (p : Fin 2) (m : Fin 16)
  | runAtBeat (p : Fin 2) (m : Fin 16)
  | hold (p : Fin 2) (m : Fin 16)
  | resume (p : Fin 2) (m : Fin 16)
  | abortRound (p : Fin 2) (m : Fin 16)
  | evalRun (p : Fin 2) (m : Fin 16) (host : Tab Byte)
  | ckptTargets (p : Fin 2) (m : Fin 16)
  | ckptPolicy (p : Fin 2) (m : Fin 16)
  | ckptNow (p : Fin 2) (m : Fin 16)
  | restore (p : Fin 2) (m : Fin 16) (hostA hostB : Tab Byte)
  | rollback (p : Fin 2) (m : Fin 16)
  | spareEnlist (p : Fin 2) (m : Fin 16)
  | spareTakeover (p : Fin 2) (m : Fin 16)
  | fenceCore (p : Fin 2) (m : Fin 16)
  | timeRole (p : Fin 2) (m : Fin 16)
  | timeSyncWall (p : Fin 2) (m : Fin 16)
  | powerLimit (p : Fin 2) (m : Fin 16)
  | gearPolicy (p : Fin 2) (m : Fin 16)
  | telemetryRead (p : Fin 2) (m : Fin 16)
  | attest (p : Fin 2) (m : Fin 16)
  | fwStage (p : Fin 2) (m : Fin 16) (host : Tab Byte)
  | fwCommit (p : Fin 2) (m : Fin 16)
  | halt (p : Fin 2) (m : Fin 16)
  | resetPart (p : Fin 2) (m : Fin 16)
  | mailboxSubmit (p : Fin 2) (m : Fin 16) (offset : Nat) (data : List Byte)
  | consumedWrite (p : Fin 2) (m : Fin 16) (seq : Nat)
  | recordPost (p : Fin 2) (m : Fin 16)
  | deviceQueueHead
  | respStatus (p : Fin 2) (tag : Nat)
  | respLogTail (p : Fin 2) (tag : Nat)
  | respHalt (p : Fin 2) (tag key : Nat)
  | respResetPart (p : Fin 2) (tag key : Nat)
  | portReset (p : Fin 2) (kind : PortResetKind)
  | perstDeassert (p : Fin 2) (speed width : Nat)
  | msixUnmask (p : Fin 2) (vector : Fin 32)
  | bar2Read (p : Fin 2) (offset len : Nat)
  | bar2Write (p : Fin 2) (offset : Nat) (data : List Byte)
  | bar0WriteDiscard (p : Fin 2) (offset len : Nat)
  | pwrEnAssert (slotId : Fin 64) (within200ms : Bool)
  | startStepDone (ok : Bool) (ms : Nat)
  | pwrEnDeassert
  | inputPowerLoss
  | resetIn
  | warmResetStep (ok : Bool) (ms : Nat)
  | boardRefLoss
  | i3cCcc (c : Ccc)
  | sbCapWrite (bytes : List Byte)
  | sbHaltWrite (bytes : List Byte)
  | sbStatusWrite (bytes : List Byte)
  | jtagExtest
  | jtagInstruction (op : JtagOp)
  | periodStart
  | deadline
  | healthCut
  | commit
  | updateClose
  | checkpoint
  | residencyReady
  | gear
  | actStart
  | actEnd
  | mark
  | envelopeRamp (missed : Bool)
  | syncSend
  | syncRx (port : Fin 16) (msg : TimeMsg) (frac : Nat)
  | delayMeasure (port : Fin 16) (frac : Nat)
  | delayReqRx (port : Fin 16) (msg : TimeMsg) (frac heldFor : Nat)
  | delayRespRx (port : Fin 16) (msg : TimeMsg) (frac : Nat)
  | holdoverEntry
  | holdoverExpiry
  | slewDone
  | standbyTakeover
  | wallAdopt
  | counterSignal (id inc : Nat) (rep : Option Nat)
  | oxWs (x : Fin 120)
  | oxOs (x : Fin 120)
  | oxIs (x : Fin 120)
  | bankTokenPass (x : Fin 120) (bank : Fin 2)
  | bankTokenReturn (x : Fin 120) (bank : Fin 2)
  | queueCreditReturn (x : Fin 120) (q : Fin 2)
  | copy (g : Fin 60)
  | add (g : Fin 60)
  | sub (g : Fin 60)
  | mul (g : Fin 60)
  | fma (g : Fin 60)
  | scale (g : Fin 60)
  | axpby (g : Fin 60)
  | max (g : Fin 60)
  | min (g : Fin 60)
  | select (g : Fin 60)
  | fn (g : Fin 60)
  | fnMul (g : Fin 60)
  | dfn (g : Fin 60)
  | dfnMul (g : Fin 60)
  | reduceAdd (g : Fin 60)
  | reduceMax (g : Fin 60)
  | tableLoad (g : Fin 60)
  | lnFwd (g : Fin 60)
  | rmsFwd (g : Fin 60)
  | smFwd (g : Fin 60)
  | lsmFwd (g : Fin 60)
  | ceFwd (g : Fin 60)
  | lnBwd (g : Fin 60)
  | rmsBwd (g : Fin 60)
  | smBwd (g : Fin 60)
  | lsmBwd (g : Fin 60)
  | ceBwd (g : Fin 60)
  | spill (g : Fin 60)
  | reload (g : Fin 60)
  | uStats (g : Fin 60)
  | uFact (g : Fin 60)
  | uUsum (g : Fin 60)
  | uApply (g : Fin 60)
  | uCast (g : Fin 60)
  | gather (h : Fin 30)
  | scatterAdd (h : Fin 30)
  | spmm (h : Fin 30)
  | sample (h : Fin 30)
  | route (h : Fin 30)
  | dispatch (h : Fin 30)
  | sort (h : Fin 30)
  | ret (h : Fin 30)
  | combine (h : Fin 30)
  | epochClose (h : Fin 30)
  | gateGrad (h : Fin 30)
  | muleCopy (n : Fin 8)
  | stashPut (n : Fin 8)
  | stashGet (n : Fin 8)
  | xsend (port : Fin 8)
  | xsignal (port : Fin 8)
  | xmcast (port : Fin 8)
  | xreduce (port : Fin 8)
  | barrier (u : Fin 226)
  | endRep (u : Fin 226)
  | selectAlternative (u : Fin 226)
  | switch (u : Fin 226)
  | commandComplete (u : Fin 226) (w : Waits)
  | slipEvent (u : Fin 226) (elapsed : Nat)
  | planFinish
  | genBoundary
  | batchTake
  | reducedTrailerRx
  | pagingStart
  | pagerMoveDone (r : MoveResult)
  | residencyMapRx (router : Fin 256) (version : Nat) (digest : List Byte) (mapBytes : List Byte)
  | dispatchRecordRx (msg : ExpertMsg)
  | dispatchEndMarkerRx (msg : EndMarker)
  | answerRx (msg : ExpertMsg)
  | answerEndMarkerRx (msg : EndMarker)
  | messageRx (port : Fin 16) (msg : LinkMsg)
  | mcastRx (port : Fin 16) (msg : LinkMsg)
  | partialRx (port : Fin 16) (msg : LinkMsg)
  | carryCopy (port : Fin 8)
  | flitRx (port : Fin 16) (flit : Flit) (fecOk : Bool)
  | nakRx (port : Fin 16) (count : Nat)
  | controlFlitSend (port : Fin 16)
  | controlFlitRx (port : Fin 16) (credits : List Nat) (count : Nat) (nak : Bool)
  | flitForward (ingress : Fin 16) (src : Nat) (flit : Flit)
  | linkTrainDone (port : Fin 8) (width : Fin 4) (second : Bool)
  | peerIdentityRx (port : Fin 16) (modId : Nat) (role : Nat) (fold : Nat) (peerPort : Fin 8)
  | portRetrain (port : Fin 16)
  | portFailed (port : Fin 16)
  | echoRx (port : Fin 16) (src : Nat)
  | echoTimeout
  | redirectSet (port : Fin 16) (src : Nat)
  | remapEntryRx (port : Fin 16) (e : RemapEntry)
  | remapAdopt (r : RemapPlace)
  | faultNoticeRx (port : Fin 16) (n : FaultNotice)
  | gearNoticeRx (port : Fin 8) (n : GearNotice)
  | gearNoticeRenew
  | peerEntryExpire
  | meshStopFail (pos : Fin 240)
  | msCtrlWrite (pos : Fin 240) (v : Word)
  | fenceDrained (pos : Fin 240)
  | cowWriteHold (page : Fin 262144) (offset : Nat) (data : List Byte)
  | cowCopyDone (page : Fin 262144) (held : Nat)
  | patrolScrub (line : Nat) (ecc : EccOutcome)
  | ckptStreamStart
  | ckptClose
  | ckptTargetError (p : Fin 2)
  | snapshotClose
  | ckptNowEffect
  | restoreSourceError (p : Fin 2) (m : Fin 16) (hostA hostB : Tab Byte) (doneA doneB : Nat)
  | runStart
  | holdEffect
  | heldEnter
  | holdStop
  | resumeEffect
  | abortEffect
  | takeoverEffective
  | faultEnter
  | watchdogRestart (n : Fin 8)
  | watchdogExpiry (n : Fin 8)
  | roleMoveDone (n : Fin 8)
  | powerSample (r : PowerReading)
  | budgetTick
  | limitStep
  | railOvercurrent (rail : Fin 10)
  | clampEngage (half : Fin 2)
  | clampRelease (half : Fin 2)
  | trip (cause : Fin 16) (detail : Nat)
  | thermalSample (tj inlet outlet : Nat)
  | gearPreramp
  | gearRaiseDeferred (half : Fin 2)
  | mirrorRefresh
  | logEntryWrite
  | durableLogCopy
  | fuseAdvance
  | echoAnswerRx
  | peerEntryEffective
  | pwrEnReassertDelay
  | stackTemperatureReport (stack : Fin 8) (temp : Nat)
  | bar0CrossingRead (p : Fin 2) (offset len : Nat)
deriving DecidableEq, Repr

end Sys2Proof
end

