-- ==== Sys2Proof/Decode.lean ====
section
/-! DEFINITION. The table gives no row any bits (spec/opcode_table.json: every row's fields are empty), so no word spells
a command. -/

namespace Sys2Proof

/-- The command that a word spells by the table's bits: none, since no row carries bits. -/
def decodeTableWord (_nbits _w : Nat) : Option Instr := none

end Sys2Proof
end

