-- ==== Sys2Proof/Config.lean ====
section
/-! DEFINITION. What the spec leaves to the part's makers, to published files or to nobody: uninterpreted constants
with no body, so that nothing can be proved of their values. Each is named in a row of notes/assumptions. -/

namespace Sys2Proof.Config

/-- A byte whose value nothing fixes, drawn at counter `k` (log 5): what a stopped command had written (04 R112,
09 R229), what stands where the spec states no value. -/
opaque freeByte : Nat → BitVec 8

/-- A number whose value nothing fixes, drawn at counter `k` (log 5). -/
opaque freeNat : Nat → Nat

/-- A Bool whose value nothing fixes, drawn at counter `k` (log 5): whether an operation on which the spec states no
outcome succeeds. -/
opaque freeBool : Nat → Bool

/-- Byte `i` of the shipped function-table pair of slot `s` (05 R133): the images are published with each Filuidom
release (log 9). -/
opaque shippedTable : Nat → Nat → BitVec 8

/-- Table-set version that IDENT reports (05 R133) (log 9). -/
opaque tableSet : BitVec 32

/-- The tag of a K-block whose largest scale is a NaN scale (03 R56 gives none); the chunk that reads the block itself
is NaN, other rows' blocks of the same square take the tag (log 5). -/
opaque nanScaleTag : Nat → Int

/-- Module serial number (18 Table 18-3), set at manufacture (log 8). -/
opaque serial : BitVec 64

/-- Die stepping (18 Table 18-3), set at manufacture (log 8). -/
opaque stepping : BitVec 16

/-- SHA-384 digest of the boot ROM, fixed for the die stepping (22 R526) (log 8). -/
opaque bootRomDigest : Nat

/-- SHA-384 digest of the signing key pair fused into key slot `k` (22 R526) (log 8). -/
opaque keyDigest : Nat → Nat

/-- The first Filuidom image in the flash at manufacture: byte `i` of slot `k` (log 8). -/
opaque factoryImage : Nat → Nat → BitVec 8

/-- Length in bytes of the factory image of slot `k` (log 8). -/
opaque factoryImageLength : Nat → Nat

/-- Whether an RSASSA-PSS signature verifies (22 R528 check 3): modulus, message and signature as bytes; the scheme is
RFC 8017's, which the spec cites and does not repeat (log 10). -/
opaque rsaVerifies : List (BitVec 8) → List (BitVec 8) → List (BitVec 8) → Bool

/-- Whether a pure SLH-DSA-SHA2-192s signature verifies (22 R528 check 4): key, message, signature; the scheme is FIPS
205's, which the spec cites and does not repeat (log 10). -/
opaque slhVerifies : List (BitVec 8) → List (BitVec 8) → List (BitVec 8) → Bool

/-- Byte `i` of the RSA signature over a body with the part's identity key (22 R532), the salt drawn at counter `k`
(log 10). -/
opaque rsaSignature : List (BitVec 8) → Nat → Nat → BitVec 8

/-- Byte `i` of the SLH-DSA signature over a body with the part's identity key (22 R532) (log 10). -/
opaque slhSignature : List (BitVec 8) → Nat → Nat → BitVec 8

/-- Length of the certificate chain `c` (0 RSA, 1 SLH-DSA) in the identity partition (22 R531) (log 8). -/
opaque chainLength : Nat → Nat

/-- Byte `i` of the certificate chain `c` in the identity partition (22 R531) (log 8). -/
opaque certificateChain : Nat → Nat → BitVec 8

/-- Failures of the given class whose rule names what no field of a plan tells: which gradient buffers are two uses of one weight (07 R164),
how long a ring is whose ENTRIES the host writes (14 R338, class 0x0A). A function of class and plan bytes: stream, or 0xFF, and index of
each (log 11). -/
opaque planCheckRest : Nat → List (BitVec 8) → List (Nat × Nat)

/-- Which of a class's failures its report names, where there are several: the spec orders the classes only (12 R312; log 11). -/
opaque checkOrder : Nat → List (BitVec 8) → Nat

/-- The JTAG IDCODE (22 R535 names the instruction and gives no code) (log 8). -/
opaque idcode : BitVec 32

/-- The I3C provisioned identifier, BCR and DCR bytes that GETPID, GETBCR and GETDCR return (23 R550 gives none)
(log 8). -/
opaque i3cIdentity : Nat → Nat

/-- Byte `i` of a lane-7 management payload that says `what` with the fields `args`: the spec gives what an ECHO, its answer, a
REDIRECT_SET, an identity exchange and a remap entry carry, and no layout or TYPE (15 R376, R395) (log 137). -/
opaque mgmtByte : Nat → List Nat → Nat → BitVec 8

end Sys2Proof.Config
end

