-- ==== Sys2Proof/Machine/State.lean ====
section
/-! DEFINITION. The state of the part: every register, memory, queue, counter and pin the spec names, as plain data,
grouped as the spec's chapters group them; the reasons a command can stop; the machine before power-on. -/

namespace Sys2Proof.Machine

/-- Why the machine stops although its operand is well formed. -/
inductive Fault
  /-- A BAR2 or BAR0 access beyond the BAR's size: PCIe delivers no such request (18 Table 18-1). Raised by bar2Read,
  bar2Write, bar0WriteDiscard and bar0CrossingRead. Safe: nothing of the part is claimed of it. -/
  | outsideBar
deriving DecidableEq, Repr

/-- Why a command has no meaning. -/
inductive Refusal
  /-- The command's arm is not written yet. Safe. -/
  | notModelled (mnemonic : String)
  /-- An operand names nothing in the part (a payload of the wrong length, a code out of its field): Sys2Proof.wellFormed
  is false of it. Raised by the meaning of a command that has such an operand. Safe (log 15). -/
  | badOperand
deriving DecidableEq, Repr

/-- Device states (19 Table 19-1). -/
inductive DevState
  | cold | booting | idle | armed | running | held | faulted | halted
deriving DecidableEq, Repr

/-- What leaves the part: the model's outbox, oldest first (log 14). -/
inductive OutEvent
  /-- A message handed to a link port's egress. -/
  | link (port : Nat) (msg : LinkMsg)
  /-- A time message on lane 5: KIND 1 SYNC, 2 DELAY_REQ, 3 DELAY_RESP. -/
  | time (port kind : Nat) (msg : TimeMsg)
  /-- Idle flits, so many, in the slots that no flit filled (15 R368). -/
  | idleFlits (port count : Nat)
  /-- A fault notice on lane 7. -/
  | faultNotice (port : Nat) (n : FaultNotice)
  /-- A gear notice on lane 5. -/
  | gearNotice (port : Nat) (n : GearNotice)
  /-- Lane-7 management: an ECHO, its answer, a REDIRECT_SET, the identity exchange, a remap entry. -/
  | echo (port dst : Nat)
  | echoAnswer (port dst : Nat)
  | redirectSet (port dst : Nat)
  | identity (port modId role fold : Nat)
  | remapEntry (port : Nat) (e : RemapEntry)
  /-- A residency map sent on lane 6 to a module. -/
  | residencyMap (dst router version : Nat) (map : List Byte)
  /-- Link-layer traffic of a port. -/
  | flit (port : Nat) (f : Flit)
  | nak (port count : Nat)
  | controlFlit (port : Nat) (credits : List Nat) (count : Nat) (nak : Bool)
  /-- An acknowledgement of a received message to its sender. -/
  | ack (port dst : Nat)
  /-- An MSI-X message. -/
  | msix (port vector : Nat)
  /-- Posted writes of a port to host memory or a peer BAR. -/
  | hostWrite (port addr : Nat) (data : List Byte)
  /-- A closing read of a port. -/
  | hostRead (port addr len : Nat)
  /-- The completion of a host read. -/
  | readData (port : Nat) (data : List Byte)
  /-- What the sideband target or the test port drives. -/
  | sideband (value : Nat)
  | testPort (value : Nat)
deriving DecidableEq, Repr

/-- Pins, the sideband target and start-up (19 R460, 21, 23). -/
structure Device where
  state : DevState
  primed : Bool
  stopped : Bool
  enlisted : Bool
  pwrEn : Bool
  v56 : Bool
  reassertWait : Bool
  pgood : Bool
  vaux : Bool
  thermTrip : Bool
  alertTrip : Bool
  resetInLow : Bool
  slotId : Nat
  lastReset : Nat
  stepDone : Nat
  fail : Bool
  failCode : Nat
  tripWait : Bool
  afterTrip : Bool
  hbmKept : Bool
  bootMs : Nat
  warmStep : Nat
  warmBeat : Nat
  warmOrigin : Nat × Nat
  extest : Bool
  boardRef : Bool
  fwRunning : Bool
  fwVersion : Nat
  fwDigest : List Byte
  fwSlot : Nat
  fallback : Bool
  sbAlertTj : Bool
  sbAlertHbm : Bool
  sbErr : Bool
  sbHaltRefused : Bool
  sbCapPending : Bool
  sbCap : Nat
  sbCapForce : Nat
  sbTripCause : Nat
  sbTripDetail : Nat
  sbTripBeat : Nat
  sbTelem : Nat
  sbIndex : Nat
  sbAddr : Option Nat
deriving DecidableEq, Repr

/-- The power manager's and limiter's state of one half (20 R488 to R498): `ceilNow` and `clampNow` are the ceiling and the clamp
at the last beat boundary, `deferred` the gear of a raise that has been counted as deferred (R489). -/
structure HalfPower where
  req : Nat
  hostCeil : Nat
  limitStep : Nat
  peakStep : Nat
  thermStep : Nat
  clamp : Bool
  clampBeat : Nat
  clampCause : Nat
  clampTherm : Bool
  gear : Nat
  railGear : Nat
  raising : Bool
  raiseTo : Nat
  raiseFrom : Nat
  ceilNow : Nat
  clampNow : Bool
  deferred : Option Nat
deriving DecidableEq, Repr

/-- A peer gear entry (20 R492). -/
structure PeerEntry where
  src : Nat
  half : Nat
  gear : Nat
  effective : Nat
  received : Nat
  inForce : Bool
  heldW : Nat
  heldE : Nat
deriving DecidableEq, Repr

/-- Power and temperature (20). -/
structure Power where
  west : HalfPower
  east : HalfPower
  limit : Nat
  inForce : Nat
  budget : Nat
  refill : Nat
  above : Bool
  samples : List Nat
  msSum : Nat
  msCount : Nat
  p1ms : Nat
  history : List Nat
  over2450 : Nat
  over2600 : List Nat
  overLimit : Nat
  underLimit : Nat
  fullSince : Nat
  emptyBeat : Nat
  thermBeat : Nat
  coolSince : Nat
  coreW : Nat
  coreE : Nat
  peers : List PeerEntry
  renewBeat : Nat
  tj : Nat
  tStack : List Nat
  hot : List Bool
  tInlet : Nat
  tOutlet : Nat
  vIn : Nat
  iIn : Nat
  ramp : Nat
  setpoint : Nat
  lowVin : Nat
  highVin : Nat
  hotBeat : Nat
  msOn : Nat
  msHot : Nat
  msPeak : Nat
  preramp : Nat
deriving DecidableEq, Repr

/-- A recorded run-time hole or fence of the map-data partition (22 Table 22-1). -/
structure MapRecord where
  pos : Nat
  beat : Nat
deriving DecidableEq, Repr

/-- Die geography (02): fused state, site states, mesh-stop registers, the map. -/
structure Geometry where
  fusedCore : List Nat
  fusedHole : List Nat
  holes : List MapRecord
  fences : List MapRecord
  mapGen : Nat
  genBeat : Nat
  published : Bool
  map : Tab Byte
  site : Tab Nat
  logical : Tab Nat
  fence : Tab Bool
  fenced : Tab Bool
  coreOn : Tab Bool
  discards : Tab Nat
deriving DecidableEq, Repr

/-- A page-table entry (13 Table 13-1); its default is the IDLE contents. -/
structure Pte where
  valid : Bool
  wp : Bool
  copied : Bool
  poison : Bool
  ro : Bool
  region : Nat
  shadow : Nat
deriving DecidableEq, Repr

/-- A write held while its page is copied, with its requester (13 R323, R318). -/
structure HeldWrite where
  req : Nat
  page : Nat
  offset : Nat
  data : List Byte
deriving DecidableEq, Repr

/-- A sync counter (12 Table 12-7). -/
structure Ctr where
  value : Nat
  rep : Nat
  shortfall : Nat
  late : Bool
deriving DecidableEq, Repr

/-- An addition to a counter of a counter block at a command's completion: its key and the amount. -/
abbrev Bump := Nat × Nat

/-- What a command has taken in at its cycle 0 while it waits for queue bytes (04 R91) or bank tokens (05 R119): its descriptor,
the count of its shape word, the CODE its start conditions gave, the step counter, the scalars or group scalars it read, the
banks it names with RELEASE and TILE, and those whose token has yet to arrive. -/
structure Work where
  desc : Nat
  count : Nat
  code : Nat
  step : Nat
  vals : List Word
  banks : List (Nat × Bool × Nat)
  due : List Nat
deriving DecidableEq, Repr

/-- A unit command between its cycle 0 and its completion (12 R305, R297): `work` while its effects are still to come; `solo`
where nothing may overlap it (04 R88); `nonfin` if it set NONFIN with its results (05 R127); `tap` its tap record's key, whether
that starts empty, and the results folded (05 R128, R139); `release` the bank tokens it returns, with their tags (05 R142). -/
structure InFlight where
  desc : Nat
  unit : Nat
  op : Nat
  rep : Nat
  beat : Nat
  cycles : Nat
  code : Nat
  capped : Bool
  status : Nat
  statBits : Nat
  statKey : Option Nat
  bumps : List Bump
  sigId : Nat
  sigInc : Nat
  outs : List (Nat × Nat)
  planCyc : Nat
  slackCyc : Nat
  slipped : Bool
  gated : Bool
  work : Option Work
  solo : Bool
  nonfin : Option Nat
  tap : Option (Nat × Bool × List Nat)
  release : List (Nat × Nat)
deriving DecidableEq, Repr

/-- A unit stream (12 R283, R287, R289): the repetition, the position in it, the variant whose table it walks, the
jump of a SELECT in force, the END completed, and the commands in progress, oldest first. -/
structure Stream where
  rep : Nat
  pos : Nat
  variant : Nat
  jumpAt : Nat
  jumpTo : Nat
  closed : Bool
  flight : List InFlight
deriving DecidableEq, Repr

/-- Where the token of an accumulator bank is (04 R86, 05 R119). -/
inductive Token
  | atOx
  | toGoat (tag : Nat)
  | atGoat (tag : Nat)
  | toOx
deriving DecidableEq, Repr

/-- An Ox output tile not yet in its bank (04 R86): Ox, bank, tag, the command it belongs to (descriptor and repetition) and
16,384 FP32 words. -/
structure OxTile where
  ox : Nat
  bank : Nat
  tag : Nat
  desc : Nat
  rep : Nat
  words : List Word
deriving DecidableEq, Repr

/-- An Ox feeder queue (12 R301 to R304): the valid bytes of each flit waiting, credits at the producer, credits on the way
back, broken; the flits its producer has still to send for want of a credit (R302), and the bytes its feeder has consumed for
the command in hand (04 R91). -/
structure FeedQueue where
  flits : List (List Byte)
  unsent : List (List Byte)
  fed : List Byte
  credits : Nat
  returning : Nat
  broken : Bool
deriving DecidableEq, Repr

/-- A row-engine side-memory entry (06 R152). -/
structure SideEntry where
  key : Nat
  v0 : Word
  v1 : Word
deriving DecidableEq, Repr

/-- A swap of a residency change: member position, slot, outgoing and incoming expert, and what of it is done. -/
structure Swap where
  member : Nat
  slot : Nat
  out : Nat
  inn : Nat
deriving DecidableEq, Repr

/-- The pager's work at a residency boundary (10 R255 to R258): the router, the first beat of paging as a repetition and a
timetable position, whether it has begun, whether the new map is adopted, that map, all the swaps decided, and those the module
has still to do. -/
structure Paging where
  router : Nat
  startRep : Nat
  startIdx : Nat
  started : Bool
  adopted : Bool
  map : List Byte
  decided : List Swap
  swaps : List Swap
deriving DecidableEq, Repr

/-- The units' own state (04 to 10, 13): streams; bank tokens; tiles an Ox holds; feeder queues; side memories; VALID of the
function-table pairs; LOW of each router's gates and one past the highest epoch begun (10 R249); the rows that DISPATCH has placed
in each (router, epoch, member, slot) so far (R244); the counts that end markers
brought (R244); the index entries of received rows (R243); the rows in each Hen's reuse buffer (09 R208); the Mule and link
weights in force, the Mules' table first (12 R285, default weight 1); the pager's work. -/
structure Units where
  streams : Tab Stream
  tokens : Tab Token
  tiles : List OxTile
  queues : Tab FeedQueue
  side : Tab SideEntry
  tableValid : Tab Bool
  gates : Tab Nat
  begun : Tab Nat
  placed : Tab Nat
  markers : Tab Nat
  index : Tab Nat
  reuse : Tab (List Nat)
  weights : Tab Byte
  paging : List Paging
deriving DecidableEq, Repr

/-- A late event (11 R277): the timetable entry, the repetition, the shortfall. -/
structure LateEvent where
  entry : Nat
  rep : Nat
  shortfall : Nat
deriving DecidableEq, Repr

/-- A slip event (12 R307). -/
structure Slip where
  unit : Nat
  desc : Nat
  rep : Nat
  beat : Nat
deriving DecidableEq, Repr

/-- A late contribution (12 R310, 15 R386): the chain point it belongs to, its address and length, whether it has been copied;
`drop` for one that LATE_POLICY 0 discards when it arrives; `lost` once the period reset has cleared the shortfall that its
signals had still to cover. -/
structure Carry where
  port : Nat
  addr : Nat
  src : Nat
  bytes : Nat
  step : Nat
  ctr : Nat
  wait : Nat
  trailer : Bool
  copied : Bool
  drop : Bool
  lost : Bool
deriving DecidableEq, Repr

/-- Plan, time and step state (07, 08, 11, 12, 14, 19). -/
structure PlanState where
  loaded : Bool
  base : Nat
  length : Nat
  digest : List Byte
  ctrs : Tab Ctr
  ctrRep : Nat
  ctrShared : Bool
  sel : Tab Nat
  windows : Tab Byte
  variant : Nat
  step : Nat
  decisions : Nat
  slips : List Slip
  lateEvents : List LateEvent
  lateSet : List Nat
  carries : List Carry
  shortHops : List (Nat × Nat × Bool)
  started : Bool
  ran : Bool
  startBeat : Nat
  startRep : Nat
  nextRep : Nat
  repNow : Nat
  next : Nat
  shift : Nat
  holdBeat : Option Nat
  updateClose : Option Nat
  health : Nat
  healthCut : Nat
  healthRed : Nat
  rtrSeen : Nat
  trailer : Option Nat
  decision : Nat
  dstep : Nat
  dbeat : Nat
  droppedNow : Nat
  carriedNow : Nat
  slipsNow : Nat
  shadowBase : Nat
deriving DecidableEq, Repr

/-- Time (11). -/
structure Time where
  beat : Nat
  counting : Bool
  state : Nat
  role : Nat
  depth : Nat
  roosterId : Nat
  gen : Nat
  offset : Int
  accepted : Bool
  pairGen : Nat
  pairRooster : Nat
  parent : Nat
  lastSync : Nat
  holdoverBeat : Nat
  wallSet : Bool
  wallB0 : Nat
  wallW0 : Nat
  nextSet : Bool
  nextB0 : Nat
  nextW0 : Nat
  delaySent : Tab Nat
  sent : Nat
  syncDue : Bool
deriving DecidableEq, Repr

/-- One sequence slot (14 R343 to R347): its prompt's fields, prompt and generated tokens, log-probabilities of the generated
ones, the positions fed so far, the position its decode row was fed in the last iteration, its KV blocks. -/
structure Slot where
  state : Nat
  promptId : Nat
  sample : Nat
  plen : Nat
  maxNew : Nat
  kTop : Nat
  invTemp : Nat
  pTop : Nat
  stops : List Nat
  tokens : List Nat
  logps : List Nat
  fed : Nat
  lastFed : Option Nat
  blocks : List Nat
  finish : Nat
  step : Nat
deriving DecidableEq, Repr

/-- Acts and the slot manager (14): `kvFree` is the allocator's free list, head first, and `kvHead` the place of its head in the ring
that the KV region holds (13 R324, R325); `evalBox` is the port and mailbox of an EVAL_RUN whose entries are copied (19 R475). -/
structure Acts where
  act : Nat
  drained : Bool
  retries : Nat
  rep : Nat
  slots : Tab Slot
  genTarget : Nat
  batTarget : Nat
  sampleNext : Nat
  kvFree : List Nat
  kvHead : Nat
  evalBox : Option (Nat × Nat)
deriving DecidableEq, Repr

/-- One link port (15 R366 to R372, Table 15-11): `waiting` holds the flits handed to it and not yet sent, oldest first; `used`
counts, by lane and class, the flits sent whose buffers the peer has not freed (15 R371, R372), `freed` those whose buffers the
port has freed since its last control flit; `turn` is the lane whose turn it is in the weighted round robin, as an index of lanes
0, 1, 2, 3, 4, 6, and the flits it has sent in this turn. -/
structure Port where
  state : Nat
  degraded : Bool
  width : Nat
  split : Bool
  peer : Nat
  peerPort : Nat
  delayNs : Nat
  waiting : List Flit
  unacked : List Flit
  txCount : Nat
  rxCount : Nat
  discarding : Bool
  nakCount : Nat
  nakTimes : Nat
  used : List Nat
  freed : List Nat
  sinceControl : Nat
  turn : Nat × Nat
  retrains : List Nat
  retrainBeat : Nat
deriving DecidableEq, Repr

/-- The takeover in hand at a spare, or the redirect in force at a failed module (15 R395). -/
structure Takeover where
  ident : Nat
  effective : Nat
  port : Nat
  echoBeat : Nat
  entry : Option RemapEntry
deriving DecidableEq, Repr

/-- A message written but not yet acknowledged by its Mule, because a write of it is held while a page is copied (15 R382, 13
R323): the link it came by (16 for the loopback path), its sender, the bytes it wrote, the signal it carries, and whether its
sender is told. -/
structure Unacked where
  port : Nat
  src : Nat
  key : Nat
  len : Nat
  sigId : Nat
  sigInc : Nat
  tell : Bool
deriving DecidableEq, Repr

/-- The link unit (15): `ports` holds the links by number, 8 + k the second ×8 link of a split spare port k (R365); `unacked` the
messages received and not yet acknowledged, oldest first. -/
structure Fabric where
  modId : Nat
  role : Nat
  fold : Nat
  sx : Nat
  sy : Nat
  sz : Nat
  l7Mode : Nat
  traceNs : Nat
  identity : Nat
  ports : Tab Port
  remap : Tab RemapEntry
  pendingRemap : List RemapEntry
  remapClear : Bool
  redirect : Option Nat
  takeover : Option Takeover
  unacked : List Unacked
deriving DecidableEq, Repr

/-- A fault-record entry (16 R412). -/
structure FaultRecord where
  beat : Nat
  value : Nat
deriving DecidableEq, Repr

/-- Faults, watchdogs and the responder (16). -/
structure Faults where
  cause : Nat
  scope : Nat
  noticeSent : Bool
  frozen : Bool
  detail : Nat
  noticeSrc : Nat
  noticeGot : Bool
  beat : Nat
  pendingEntry : Bool
  seen : List (Nat × Nat)
  record : List FaultRecord
  holder : List Nat
  down : List Nat
  restartBeat : Tab Nat
  moving : List (Nat × Nat)
  respTag : Tab Nat
  respDone : Tab Bool
  respResult : Tab Nat
  respStatus : Tab Byte
  respLog : Tab Byte
deriving DecidableEq, Repr

/-- A target or source entry (17 Table 17-5). -/
structure Target where
  addr : Nat
  len : Nat
deriving DecidableEq, Repr

/-- Checkpoint state (17): `openTargets`, `openEvery` and `openKinds` are the target lists and the snapshot policy as they
stood when the latest checkpoint took effect (R427, R431); `device` is the device block it captured. -/
structure Ckpt where
  state : Nat
  poisoned : Bool
  snapOpen : Bool
  restoreBad : Bool
  failCode : Nat
  lastEffective : Nat
  lastClosed : Nat
  step : Nat
  bytes : Nat
  enable : Bool
  stream : Bool
  coldFull : Bool
  snapEvery : Nat
  snapKinds : Nat
  rate : Nat
  targets : Tab Target
  openTargets : Tab Target
  streamSet : List Nat
  fullCold : Bool
  started : Bool
  closedCount : Nat
  openEvery : Nat
  openKinds : Nat
  device : Tab Byte
  firstDone : Bool
deriving DecidableEq, Repr

/-- An accepted command: the copied header fields and body (18 R447). -/
structure Command where
  opcode : Nat
  irq : Bool
  seq : Nat
  length : Nat
  body : Tab Byte
  accepted : Nat
deriving DecidableEq, Repr

/-- A completion record (18 Table 18-5); `len` is its LENGTH: the body's bytes, or those written to a bulk target (19 R466);
`wrote` the address and length in HBM of what was written there, which is visible before the record is (00 R7). -/
structure Record where
  status : Nat
  opcode : Nat
  seq : Nat
  irq : Bool
  beat : Nat
  detail : Nat
  body : List Byte
  len : Nat
  wrote : Option (Nat × Nat)
deriving DecidableEq, Repr

/-- One mailbox (18 R445 to R451). -/
structure Mailbox where
  page : Tab Byte
  queue : List Command
  records : List Record
  shown : Option Record
  consumed : Bool
  posted : Nat
  resetting : Bool
  progress : Nat
  refuse : Nat
  lastAccepted : Nat
  ackSeq : Nat
  lastRefused : Nat
deriving DecidableEq, Repr

/-- A changing command in the device queue (19 R462): its mailbox, its SEQ, whether its R413 checks have passed and what
beat and what object it waits for. -/
structure Queued where
  port : Nat
  mbox : Nat
  seq : Nat
  checked : Bool
  waiting : Bool
  waitBeat : Nat
  arg : Nat
deriving DecidableEq, Repr

/-- Host ports (18, 19). -/
structure HostPorts where
  steward : Nat
  linkUp : Tab Bool
  downSince : Tab Nat
  speed : Tab Nat
  width : Tab Nat
  epoch : Tab Nat
  aperture : Tab Nat
  boxes : Tab Mailbox
  msixMask : Tab Bool
  msixPend : Tab Bool
  queue : List Queued
  mirrorGen : Nat
  mirrorBeat : Nat
  mirror : Tab Byte
deriving DecidableEq, Repr

/-- A log detail: the fields of an entry not yet written (22 R536, R537); `lost` once the buffer was full. -/
structure LogDetail where
  seq : Nat
  beat : Nat
  wall : Nat
  origin : Nat
  originDetail : Nat
  cls : Nat
  inst : Nat
  form : Nat
  old : Nat
  new : Nat
deriving DecidableEq, Repr

/-- A firmware image in a flash slot: its length and bytes. -/
structure FwImage where
  length : Nat
  bytes : List Byte
deriving DecidableEq, Repr

/-- Flash, fuses and the change log (22). -/
structure Trust where
  active : Nat
  bootCount : Nat
  images : Tab FwImage
  staged : Bool
  svnFuses : List Bool
  revoked : List Bool
  debugLock : Bool
  nextSeq : Nat
  head : Nat
  details : List LogDetail
  chain : List Byte
  window : Tab Byte
  sram : List (List Byte)
  durable : Tab Byte
  durableHead : Nat
  durableWait : List (List Byte)
  detailLost : Nat
deriving DecidableEq, Repr

/-- The state of the part. `pending`, `freeIdx` and `out` are the model's own (log 5, log 14). -/
structure State where
  pending : List Instr
  freeIdx : Nat
  out : List OutEvent
  dev : Device
  pwr : Power
  geo : Geometry
  mem : Tab Byte
  lineErr : Tab Nat
  pte : Tab Pte
  shadowNext : Tab Nat
  heldWrites : List HeldWrite
  unit : Units
  plan : PlanState
  time : Time
  acts : Acts
  fab : Fabric
  flt : Faults
  ck : Ckpt
  host : HostPorts
  trust : Trust
  cnt : Tab Nat
deriving DecidableEq, Repr

/-- The IDLE page-table entry (13 R316), the default of `pte`. -/
def Pte.idle : Pte :=
  { valid := true, wp := false, copied := false, poison := false, ro := false, region := 0xFF, shadow := 0 }

/-- A sync counter at reset (12 Table 12-7). -/
def Ctr.zero : Ctr := { value := 0, rep := 0, shortfall := 0, late := false }

/-- A stream with nothing in progress at the head of repetition 0 (12 R292). -/
def Stream.idle : Stream :=
  { rep := 0, pos := 0, variant := 0, jumpAt := 0, jumpTo := 0, closed := false, flight := [] }

/-- An empty feeder queue, its producer holding 256 credits (12 R292, R301). -/
def FeedQueue.empty : FeedQueue := { flits := [], unsent := [], fed := [], credits := 256, returning := 0, broken := false }

/-- An empty side-memory entry: key 0xFFFF (06 R152). -/
def SideEntry.empty : SideEntry := { key := 0xFFFF, v0 := 0, v1 := 0 }

/-- An empty sequence slot (14 Table 14-6). -/
def Slot.empty : Slot :=
  { state := 0, promptId := 0, sample := 0, plen := 0, maxNew := 0, kTop := 0, invTemp := 0, pTop := 0,
    stops := [], tokens := [], logps := [], fed := 0, lastFed := none, blocks := [], finish := 0, step := 0 }

/-- A link port that is down (15 Table 15-11). -/
def Port.down : Port :=
  { state := 0, degraded := false, width := 0, split := false, peer := 0, peerPort := 0, delayNs := 0, waiting := [], unacked := [],
    txCount := 0, rxCount := 0, discarding := false, nakCount := 0, nakTimes := 0, used := [], freed := [],
    sinceControl := 0, turn := (0, 0), retrains := [], retrainBeat := 0 }

/-- A free remap-table entry (15 Table 15-10). -/
def emptyRemap : RemapEntry :=
  { ident := 0, valid := false, dead := false, home := 0, proxy := 0, spareFold := 0, effective := 0 }

/-- An ended target list's entry (17 R427). -/
def Target.none : Target := { addr := 0, len := 0 }

/-- A mailbox at reset (18 Tables 18-5, 18-8). -/
def Mailbox.empty : Mailbox :=
  { page := [], queue := [], records := [], shown := Option.none, consumed := true, posted := 0, resetting := false,
    progress := 0, refuse := 0, lastAccepted := 0, ackSeq := 0, lastRefused := 0 }

/-- A flash slot that holds nothing. -/
def FwImage.none : FwImage := { length := 0, bytes := [] }

/-- The pins, sideband and start-up state before power-on (19 R460; log 4 for the pins). -/
def Device.reset : Device :=
  { state := .cold, primed := false, stopped := false, enlisted := false, pwrEn := false, v56 := false,
    reassertWait := false, pgood := false, vaux := false, thermTrip := false, alertTrip := false, resetInLow := false, slotId := 0,
    lastReset := 0, stepDone := 0, fail := false, failCode := 0, tripWait := false, afterTrip := false, hbmKept := false, bootMs := 0,
    warmStep := 0, warmBeat := 0, warmOrigin := (0, 0), extest := false, boardRef := true, fwRunning := false, fwVersion := 0,
    fwDigest := List.replicate 48 0, fwSlot := 0, fallback := false, sbAlertTj := false, sbAlertHbm := false,
    sbErr := false, sbHaltRefused := false, sbCapPending := false, sbCap := 2000, sbCapForce := 2000, sbTripCause := 0,
    sbTripDetail := 0, sbTripBeat := 0, sbTelem := 2000 * 2 ^ 96, sbIndex := 0, sbAddr := Option.none }

/-- One half's power state at power-on: G0 requests and ceilings, no step, no clamp (20 R488, Table 20-7). -/
def HalfPower.reset : HalfPower :=
  { req := 0, hostCeil := 0, limitStep := 0, peakStep := 0, thermStep := 0, clamp := false, clampBeat := 0,
    clampCause := 0, clampTherm := false, gear := 0, railGear := 0, raising := false, raiseTo := 0, raiseFrom := 0,
    ceilNow := 0, clampNow := false, deferred := Option.none }

/-- Power at power-on (20 Tables 20-7, 20-8, R496, R497). -/
def Power.reset : Power :=
  { west := HalfPower.reset, east := HalfPower.reset, limit := 2000, inForce := 2000, budget := 30000, refill := 0,
    above := false, samples := [], msSum := 0, msCount := 0, p1ms := 0, history := [], over2450 := 0, over2600 := [],
    overLimit := 0, underLimit := 0, fullSince := 0, emptyBeat := 0, thermBeat := 0, coolSince := 0,
    coreW := 0, coreE := 0, peers := [], renewBeat := 0, tj := 0, tStack := List.replicate 8 0,
    hot := List.replicate 8 false, tInlet := 0, tOutlet := 0, vIn := 0, iIn := 0, ramp := 0, setpoint := 0, lowVin := 0,
    highVin := 0, hotBeat := 0, msOn := 0, msHot := 0, msPeak := 0, preramp := 0 }

/-- Geography before the first map generation: no position fenced, none asked to be, no core on, which Table 02-4 leaves open (log 4,
log 8). -/
def Geometry.reset : Geometry :=
  { fusedCore := [], fusedHole := [], holes := [], fences := [], mapGen := 0, genBeat := 0, published := false, map := [],
    site := [], logical := [], fence := [], fenced := [], coreOn := [], discards := [] }

/-- The units idle (12 R292), tokens with the Ox, nothing valid in the table memories (05 R130). -/
def Units.reset : Units :=
  { streams := [], tokens := [], tiles := [], queues := [], side := [], tableValid := [], gates := [], begun := [], placed := [],
    markers := [], index := [], reuse := [], weights := [], paging := [] }

/-- No plan (07 Table 07-5, 08 Table 08-6, 12). -/
def PlanState.reset : PlanState :=
  { loaded := false, base := 0, length := 0, digest := List.replicate 48 0, ctrs := [], ctrRep := 0, ctrShared := false, sel := [], windows := [],
    variant := 0, step := 0, decisions := 0, slips := [], lateEvents := [], lateSet := [], carries := [], shortHops := [],
    started := false, ran := false, startBeat := 0, startRep := 0, nextRep := 0, repNow := 0, next := 0, shift := 0,
    holdBeat := Option.none, updateClose := Option.none, health := 0, healthCut := 0, healthRed := 0, rtrSeen := 0, trailer := Option.none, decision := 0, dstep := 0, dbeat := 0, droppedNow := 0,
    carriedNow := 0, slipsNow := 0, shadowBase := 0 }

/-- Time before the beat counter runs (11 Table 11-3: FREE, follower). -/
def Time.reset : Time :=
  { beat := 0, counting := false, state := 0, role := 2, depth := 0, roosterId := 0, gen := 0, offset := 0,
    accepted := false, pairGen := 0, pairRooster := 0, parent := 8, lastSync := 0, holdoverBeat := 0, wallSet := false, wallB0 := 0, wallW0 := 0, nextSet := false, nextB0 := 0,
    nextW0 := 0, delaySent := [], sent := 0, syncDue := false }

/-- No act, every slot EMPTY (14 Tables 14-1, 14-6). -/
def Acts.reset : Acts :=
  { act := 0, drained := false, retries := 0, rep := 0, slots := [], genTarget := 1, batTarget := 1,
    sampleNext := 0, kvFree := [], kvHead := 0, evalBox := Option.none }

/-- The link unit at reset (15 Tables 15-4, 15-10, 15-11). -/
def Fabric.reset : Fabric :=
  { modId := 0xFFF, role := 0, fold := 0, sx := 16, sy := 16, sz := 16, l7Mode := 0, traceNs := 0, identity := 0xFFF,
    ports := [], remap := [], pendingRemap := [], remapClear := false, redirect := Option.none,
    takeover := Option.none, unacked := [] }

/-- No fault, each Sheepdog in its own role, the responder pages empty (16 Tables 16-2, 16-7). -/
def Faults.reset : Faults :=
  { cause := 0, scope := 0, noticeSent := false, frozen := false, detail := 0, noticeSrc := 0, noticeGot := false, beat := 0,
    pendingEntry := false, seen := [], record := [], holder := [0, 1, 2, 3, 4, 5, 6, 7], down := [],
    restartBeat := [], moving := [], respTag := [], respDone := [], respResult := [], respStatus := [], respLog := [] }

/-- Checkpoint state at reset (17 Tables 17-7, 17-8). -/
def Ckpt.reset : Ckpt :=
  { state := 0, poisoned := false, snapOpen := false, restoreBad := false, failCode := 0, lastEffective := 0,
    lastClosed := 0, step := 0, bytes := 0, enable := false, stream := true, coldFull := false, snapEvery := 0,
    snapKinds := 3, rate := 112, targets := [], openTargets := [], streamSet := [], fullCold := false, started := false,
    closedCount := 0, openEvery := 0, openKinds := 0, device := [], firstDone := false }

/-- Host ports at reset: port A is steward, links down, apertures 0, vectors masked (18 R442, R457; log 4). -/
def HostPorts.reset : HostPorts :=
  { steward := 0, linkUp := [], downSince := [], speed := [], width := [], epoch := [], aperture := [], boxes := [],
    msixMask := [], msixPend := [], queue := [], mirrorGen := 0, mirrorBeat := 0, mirror := [] }

/-- Flash as manufactured and an empty log (22; log 8). -/
def Trust.reset : Trust :=
  { active := 0, bootCount := 0, images := [], staged := false, svnFuses := List.replicate 64 false,
    revoked := List.replicate 4 false, debugLock := true, nextSeq := 0, head := 0, details := [],
    chain := List.replicate 48 0, window := [], sram := [], durable := [], durableHead := 0, durableWait := [],
    detailLost := 0 }

/-- The pages of the log region, RO in every state (13 R316). -/
def logPages : Tab Pte := (List.range 32).map (fun i => (262112 + i, { Pte.idle with ro := true }))

/-- The part before power-on: COLD (19 R460), every field at the value the spec gives or the log names. -/
def State.reset : State :=
  { pending := [], freeIdx := 0, out := [], dev := Device.reset, pwr := Power.reset, geo := Geometry.reset, mem := [],
    lineErr := [], pte := logPages, shadowNext := [], heldWrites := [], unit := Units.reset, plan := PlanState.reset,
    time := Time.reset, acts := Acts.reset, fab := Fabric.reset, flt := Faults.reset, ck := Ckpt.reset,
    host := HostPorts.reset, trust := Trust.reset, cnt := [] }

end Sys2Proof.Machine
end

