-- ==== Sys2Proof/Machine/Table.lean ====
section
/-! DEFINITION. Sparse tables: reading, writing a range, the canonical form; and the little-endian byte and bit-field
helpers of 00_scope R5. -/

namespace Sys2Proof

/-- The entry at index `k`; `d` where the table lists none. -/
def Tab.get {α : Type} (d : α) : Tab α → Nat → α
  | [], _ => d
  | (j, v) :: t, k => if j = k then v else Tab.get d t k

/-- The listed entries of the values `vs` laid from index `b` on. -/
def Tab.cells {α : Type} [DecidableEq α] (d : α) : Nat → List α → Tab α
  | _, [] => []
  | b, v :: vs => if v = d then Tab.cells d (b + 1) vs else (b, v) :: Tab.cells d (b + 1) vs

/-- The table with `vs` written at the indices from `b` on. -/
def Tab.put {α : Type} [DecidableEq α] (d : α) (t : Tab α) (b : Nat) (vs : List α) : Tab α :=
  t.filter (fun e => decide (e.1 < b)) ++ (Tab.cells d b vs ++ t.filter (fun e => decide (b + vs.length ≤ e.1)))

/-- The table with the one entry at `k` replaced. -/
def Tab.set {α : Type} [DecidableEq α] (d : α) (t : Tab α) (k : Nat) (v : α) : Tab α :=
  Tab.put d t k [v]

/-- The table with the entry at `k` changed by `f`. -/
def Tab.upd {α : Type} [DecidableEq α] (d : α) (t : Tab α) (k : Nat) (f : α → α) : Tab α :=
  Tab.set d t k (f (Tab.get d t k))

/-- The `n` entries from index `b` on. -/
def Tab.range {α : Type} (d : α) (t : Tab α) (b n : Nat) : List α :=
  (List.range n).map (fun i => Tab.get d t (b + i))

/-- Every listed index is above `k` and the indices rise strictly. -/
def Tab.risesFrom {α : Type} : Nat → Tab α → Bool
  | _, [] => true
  | k, (j, _) :: t => decide (k ≤ j) && Tab.risesFrom (j + 1) t

/-- The canonical form: strictly rising indices, no entry equal to the default. -/
def Tab.wf {α : Type} [DecidableEq α] (d : α) (t : Tab α) : Bool :=
  Tab.risesFrom 0 t && t.all (fun e => decide (e.2 ≠ d))

namespace Machine

/-- The number a list of bytes spells, least significant byte first (00 R5). -/
def leNat : List Byte → Nat
  | [] => 0
  | b :: bs => b.toNat + 256 * leNat bs

/-- The `n` bytes of a number, least significant first (00 R5). -/
def natLe : Nat → Nat → List Byte
  | 0, _ => []
  | n + 1, v => BitVec.ofNat 8 v :: natLe n (v / 256)

/-- The number a list of bytes spells, most significant byte first. -/
def beNat (l : List Byte) : Nat := l.foldl (fun a b => 256 * a + b.toNat) 0

/-- The `n` bytes of a number, most significant first. -/
def natBe (n v : Nat) : List Byte := (natLe n v).reverse

/-- Bits [lo + w - 1 : lo] of a number (00 R4). -/
def bits (v lo w : Nat) : Nat := (v >>> lo) % 2 ^ w

/-- Bit `i` of a number. -/
def bit (v i : Nat) : Bool := v.testBit i

/-- The number whose fields, (low bit, value) each, are laid over one another. -/
def fields (l : List (Nat × Nat)) : Nat := l.foldl (fun a f => a + f.2 <<< f.1) 0

/-- A Bool as a bit. -/
def b2n (b : Bool) : Nat := if b then 1 else 0

/-- The signed value of a `w`-bit two's-complement number. -/
def signed (w v : Nat) : Int := if v < 2 ^ (w - 1) then (v : Int) else (v : Int) - (2 ^ w : Nat)

/-- The `w`-bit two's-complement code of an integer. -/
def unsigned (w : Nat) (v : Int) : Nat := (v % (2 ^ w : Nat)).toNat

/-- `v` rounded up to a multiple of `m`. -/
def roundUp (v m : Nat) : Nat := (v + m - 1) / m * m

/-- Quotient rounded up. -/
def ceilDiv (a b : Nat) : Nat := (a + b - 1) / b

/-- A count that stops at the largest 32-bit value. -/
def sat32 (v : Nat) : Nat := min v 0xFFFFFFFF

/-- A count that stops at the largest 64-bit value. -/
def sat64 (v : Nat) : Nat := min v 0xFFFFFFFFFFFFFFFF

/-- A count that stops at 0xFFFF. -/
def sat16 (v : Nat) : Nat := min v 0xFFFF

/-- A list cut or padded with `d` to length `n`. -/
def fit {α : Type} (d : α) (n : Nat) (l : List α) : List α := l.take n ++ List.replicate (n - l.length) d

/-- A list cut into pieces of `n` (the last may be shorter), at most `fuel` of them. -/
def pieces {α : Type} (n : Nat) : Nat → List α → List (List α)
  | 0, _ => []
  | f + 1, l => if l.isEmpty then [] else l.take n :: pieces n f (l.drop n)

/-- Insertion into a list kept in the order of `le`, after equal elements. -/
def insertBy {α : Type} (le : α → α → Bool) (a : α) : List α → List α
  | [] => [a]
  | b :: l => if le b a then b :: insertBy le a l else a :: b :: l

/-- The list in the order of `le`; equal elements keep their order. -/
def sortBy {α : Type} (le : α → α → Bool) : List α → List α :=
  List.foldl (fun acc a => insertBy le a acc) []

end Machine

end Sys2Proof
end

