-- ==== Sys2Proof/Machine/Counters.lean ====
section
/-! DEFINITION. The counter blocks: one sparse table `cnt` of saturating counts, keyed by block ID, instance and field;
a name for every field of every counter block of the spec. -/

namespace Sys2Proof.Machine

/-- Key of field `fld` of instance `inst` of counter block `blk` (block IDs: 18 R455). -/
def cntKey (blk inst fld : Nat) : Nat := (blk * 2 ^ 20 + inst) * 2 ^ 8 + fld

/-- The key of one of the four 64-bit counts: FLITS_TX and FLITS_RX (15 Table 15-12), PAGE_BYTES_OUT and PAGE_BYTES_IN
(10 Table 10-10). -/
def cntWide (key : Nat) : Bool :=
  (decide (key / 2 ^ 28 = 0x0F0C) && (decide (key % 2 ^ 8 = 5) || decide (key % 2 ^ 8 = 6)))
    || (decide (key / 2 ^ 28 = 0x0A0A) && (decide (key % 2 ^ 8 = 6) || decide (key % 2 ^ 8 = 7)))

/-- The value of a counter. -/
def State.cntGet (s : State) (key : Nat) : Nat := Tab.get 0 s.cnt key

/-- `n` added to a counter, which saturates. -/
def State.bump (s : State) (key n : Nat) : State :=
  { s with cnt := Tab.upd 0 s.cnt key (fun v => if cntWide key then sat64 (v + n) else sat32 (v + n)) }

/-- Every listed amount added to its counter. -/
def State.bumps (s : State) (l : List Bump) : State := l.foldl (fun s b => s.bump b.1 b.2) s

/-- Every counter of a block for which `f` of its field holds is cleared. -/
def State.clearCnt (s : State) (blk : Nat) (f : Nat → Bool) : State :=
  { s with cnt := s.cnt.filter (fun e => !(decide (e.1 / 2 ^ 28 = blk) && f (e.1 % 2 ^ 8))) }

/-- 04 Table 04-10. -/
def OxCnt.tagViol (n : Nat) : Nat := cntKey 0x040A n 0
/-- 04 Table 04-10. -/
def OxCnt.nanChunks (n : Nat) : Nat := cntKey 0x040A n 1
/-- 04 Table 04-10. -/
def OxCnt.sparseViol (n : Nat) : Nat := cntKey 0x040A n 2
/-- 04 Table 04-10. -/
def OxCnt.splitPasses (n : Nat) : Nat := cntKey 0x040A n 3
/-- 04 Table 04-10. -/
def OxCnt.slips (n : Nat) : Nat := cntKey 0x040A n 4
/-- 04 Table 04-10. -/
def OxCnt.chunkOrder (n : Nat) : Nat := cntKey 0x040A n 5
/-- 04 Table 04-10. -/
def OxCnt.shapeCapped (n : Nat) : Nat := cntKey 0x040A n 6
/-- 04 Table 04-10. -/
def OxCnt.gatedGroups (n : Nat) : Nat := cntKey 0x040A n 7
/-- 04 Table 04-10. -/
def OxCnt.feedStallCyc (n : Nat) : Nat := cntKey 0x040A n 8
/-- 04 Table 04-10. -/
def OxCnt.drainStallCyc (n : Nat) : Nat := cntKey 0x040A n 9
/-- 04 Table 04-10. -/
def OxCnt.commands (n : Nat) : Nat := cntKey 0x040A n 10

/-- 05 Table 05-10. -/
def GoatCnt.commands (n : Nat) : Nat := cntKey 0x050A n 0
/-- 05 Table 05-10. -/
def GoatCnt.nanOut (n : Nat) : Nat := cntKey 0x050A n 1
/-- 05 Table 05-10. -/
def GoatCnt.infOut (n : Nat) : Nat := cntKey 0x050A n 2
/-- 05 Table 05-10. -/
def GoatCnt.saturated (n : Nat) : Nat := cntKey 0x050A n 3
/-- 05 Table 05-10. -/
def GoatCnt.slips (n : Nat) : Nat := cntKey 0x050A n 4
/-- 05 Table 05-10. -/
def GoatCnt.tokenOrder (n : Nat) : Nat := cntKey 0x050A n 5
/-- 05 Table 05-10. -/
def GoatCnt.tableEmpty (n : Nat) : Nat := cntKey 0x050A n 6
/-- 05 Table 05-10. -/
def GoatCnt.tokenWaitCyc (n : Nat) : Nat := cntKey 0x050A n 7
/-- 05 Table 05-10. -/
def GoatCnt.outStallCyc (n : Nat) : Nat := cntKey 0x050A n 8
/-- 05 Table 05-10. -/
def GoatCnt.tableLoads (n : Nat) : Nat := cntKey 0x050A n 9

/-- 05 Table 05-11. -/
def GoatHealth.nonfin (n : Nat) : Nat := cntKey 0x050B n 0

/-- 06 Table 06-4. -/
def RowCnt.commands (n : Nat) : Nat := cntKey 0x0604 n 0
/-- 06 Table 06-4. -/
def RowCnt.rows (n : Nat) : Nat := cntKey 0x0604 n 1
/-- 06 Table 06-4. -/
def RowCnt.keyMiss (n : Nat) : Nat := cntKey 0x0604 n 2
/-- 06 Table 06-4. -/
def RowCnt.spills (n : Nat) : Nat := cntKey 0x0604 n 3
/-- 06 Table 06-4. -/
def RowCnt.reloads (n : Nat) : Nat := cntKey 0x0604 n 4
/-- 06 Table 06-4. -/
def RowCnt.badTarget (n : Nat) : Nat := cntKey 0x0604 n 5
/-- 06 Table 06-4. -/
def RowCnt.ignored (n : Nat) : Nat := cntKey 0x0604 n 6
/-- 06 Table 06-4. -/
def RowCnt.slips (n : Nat) : Nat := cntKey 0x0604 n 7

/-- 07 Table 07-6. -/
def HealthCnt.cuts : Nat := cntKey 0x0706 0 0
/-- 07 Table 07-6. -/
def HealthCnt.suppressed : Nat := cntKey 0x0706 0 1
/-- 07 Table 07-6. -/
def HealthCnt.carriedFlags : Nat := cntKey 0x0706 0 2
/-- 07 Table 07-6. -/
def HealthCnt.droppedTrailers : Nat := cntKey 0x0706 0 3
/-- 07 Table 07-6. -/
def HealthCnt.staleTrailers : Nat := cntKey 0x0706 0 4
/-- 07 Table 07-6. -/
def HealthCnt.formatChanges : Nat := cntKey 0x0706 0 5

/-- 08 Table 08-8. -/
def UpdCnt.commands (n : Nat) : Nat := cntKey 0x0808 n 0
/-- 08 Table 08-8. -/
def UpdCnt.goCmds (n : Nat) : Nat := cntKey 0x0808 n 1
/-- 08 Table 08-8. -/
def UpdCnt.suppressedCmds (n : Nat) : Nat := cntKey 0x0808 n 2
/-- 08 Table 08-8. -/
def UpdCnt.clippedBlocks (n : Nat) : Nat := cntKey 0x0808 n 3
/-- 08 Table 08-8. -/
def UpdCnt.clippedCmds (n : Nat) : Nat := cntKey 0x0808 n 4
/-- 08 Table 08-8. -/
def UpdCnt.slips (n : Nat) : Nat := cntKey 0x0808 n 5

/-- 09 Table 09-7. -/
def HenCnt.commands (n : Nat) : Nat := cntKey 0x0907 n 0
/-- 09 Table 09-7. -/
def HenCnt.oorIdx (n : Nat) : Nat := cntKey 0x0907 n 1
/-- 09 Table 09-7. -/
def HenCnt.reuseHits (n : Nat) : Nat := cntKey 0x0907 n 2
/-- 09 Table 09-7. -/
def HenCnt.rowFetches (n : Nat) : Nat := cntKey 0x0907 n 3
/-- 09 Table 09-7. -/
def HenCnt.updates (n : Nat) : Nat := cntKey 0x0907 n 4
/-- 09 Table 09-7. -/
def HenCnt.combined (n : Nat) : Nat := cntKey 0x0907 n 5
/-- 09 Table 09-7. -/
def HenCnt.nzProcessed (n : Nat) : Nat := cntKey 0x0907 n 6
/-- 09 Table 09-7. -/
def HenCnt.nzOver (n : Nat) : Nat := cntKey 0x0907 n 7
/-- 09 Table 09-7. -/
def HenCnt.malformed (n : Nat) : Nat := cntKey 0x0907 n 8
/-- 09 Table 09-7. -/
def HenCnt.nanChunks (n : Nat) : Nat := cntKey 0x0907 n 9
/-- 09 Table 09-7. -/
def HenCnt.tagViol (n : Nat) : Nat := cntKey 0x0907 n 10
/-- 09 Table 09-7. -/
def HenCnt.slips (n : Nat) : Nat := cntKey 0x0907 n 11
/-- 09 Table 09-7. -/
def HenCnt.shapeCapped (n : Nat) : Nat := cntKey 0x0907 n 12
/-- 09 Table 09-7. -/
def HenCnt.stallCyc (n : Nat) : Nat := cntKey 0x0907 n 13
/-- 09 Table 09-7. -/
def HenCnt.hazardCyc (n : Nat) : Nat := cntKey 0x0907 n 14

/-- 10 Table 10-9. -/
def ExpCnt.commands (n : Nat) : Nat := cntKey 0x0A09 n 0
/-- 10 Table 10-9. -/
def ExpCnt.tokens (n : Nat) : Nat := cntKey 0x0A09 n 1
/-- 10 Table 10-9. -/
def ExpCnt.slotsDropped (n : Nat) : Nat := cntKey 0x0A09 n 2
/-- 10 Table 10-9. -/
def ExpCnt.slotsMoved (n : Nat) : Nat := cntKey 0x0A09 n 3
/-- 10 Table 10-9. -/
def ExpCnt.notResident (n : Nat) : Nat := cntKey 0x0A09 n 4
/-- 10 Table 10-9. -/
def ExpCnt.quotaFull (n : Nat) : Nat := cntKey 0x0A09 n 5
/-- 10 Table 10-9. -/
def ExpCnt.gateNanRows (n : Nat) : Nat := cntKey 0x0A09 n 6
/-- 10 Table 10-9. -/
def ExpCnt.recordsSent (n : Nat) : Nat := cntKey 0x0A09 n 7
/-- 10 Table 10-9. -/
def ExpCnt.rowsSorted (n : Nat) : Nat := cntKey 0x0A09 n 8
/-- 10 Table 10-9. -/
def ExpCnt.answersSent (n : Nat) : Nat := cntKey 0x0A09 n 9
/-- 10 Table 10-9. -/
def ExpCnt.missingSrc (n : Nat) : Nat := cntKey 0x0A09 n 10
/-- 10 Table 10-9. -/
def ExpCnt.missingAns (n : Nat) : Nat := cntKey 0x0A09 n 11
/-- 10 Table 10-9. -/
def ExpCnt.slips (n : Nat) : Nat := cntKey 0x0A09 n 12
/-- 10 Table 10-9. -/
def ExpCnt.shapeCapped (n : Nat) : Nat := cntKey 0x0A09 n 13
/-- 10 Table 10-9. -/
def ExpCnt.stallCyc (n : Nat) : Nat := cntKey 0x0A09 n 14

/-- 10 Table 10-10. -/
def ExpModCnt.epochDiscDisp : Nat := cntKey 0x0A0A 0 0
/-- 10 Table 10-10. -/
def ExpModCnt.epochDiscAns : Nat := cntKey 0x0A0A 0 1
/-- 10 Table 10-10. -/
def ExpModCnt.dupAnswers : Nat := cntKey 0x0A0A 0 2
/-- 10 Table 10-10. -/
def ExpModCnt.mapAdoptions : Nat := cntKey 0x0A0A 0 3
/-- 10 Table 10-10. -/
def ExpModCnt.swaps : Nat := cntKey 0x0A0A 0 4
/-- 10 Table 10-10. -/
def ExpModCnt.mapMismatch : Nat := cntKey 0x0A0A 0 5
/-- 10 Table 10-10. -/
def ExpModCnt.pageBytesOut : Nat := cntKey 0x0A0A 0 6
/-- 10 Table 10-10. -/
def ExpModCnt.pageBytesIn : Nat := cntKey 0x0A0A 0 7

/-- 11 Table 11-6. -/
def TimeCnt.syncAccepted : Nat := cntKey 0x0B06 0 0
/-- 11 Table 11-6. -/
def TimeCnt.syncRefused : Nat := cntKey 0x0B06 0 1
/-- 11 Table 11-6. -/
def TimeCnt.holdovers : Nat := cntKey 0x0B06 0 2
/-- 11 Table 11-6. -/
def TimeCnt.lateDeadlines : Nat := cntKey 0x0B06 0 3
/-- 11 Table 11-6. -/
def TimeCnt.lateSignals : Nat := cntKey 0x0B06 0 4
/-- 11 Table 11-6. -/
def TimeCnt.roleChanges : Nat := cntKey 0x0B06 0 5
/-- 11 Table 11-6. -/
def TimeCnt.holdMax : Nat := cntKey 0x0B06 0 6

/-- 12 Table 12-13. -/
def PlanCnt.slipEvents : Nat := cntKey 0x0C0D 0 0
/-- 12 Table 12-13. -/
def PlanCnt.lateMarked : Nat := cntKey 0x0C0D 0 1
/-- 12 Table 12-13. -/
def PlanCnt.carried : Nat := cntKey 0x0C0D 0 2
/-- 12 Table 12-13. -/
def PlanCnt.droppedLate : Nat := cntKey 0x0C0D 0 3
/-- 12 Table 12-13. -/
def PlanCnt.staleSignals : Nat := cntKey 0x0C0D 0 4
/-- 12 Table 12-13. -/
def PlanCnt.variantSwitches : Nat := cntKey 0x0C0D 0 5
/-- 12 Table 12-13. -/
def PlanCnt.brokenChannels : Nat := cntKey 0x0C0D 0 6
/-- 12 Table 12-13. -/
def PlanCnt.planWritesDiscarded : Nat := cntKey 0x0C0D 0 7

/-- 13 Table 13-8. -/
def MemCnt.addrFaults : Nat := cntKey 0x0D08 0 0
/-- 13 Table 13-8. -/
def MemCnt.bar2Faults : Nat := cntKey 0x0D08 0 1
/-- 13 Table 13-8. -/
def MemCnt.eccCe : Nat := cntKey 0x0D08 0 2
/-- 13 Table 13-8. -/
def MemCnt.eccUe : Nat := cntKey 0x0D08 0 3
/-- 13 Table 13-8. -/
def MemCnt.cowCopies : Nat := cntKey 0x0D08 0 4
/-- 13 Table 13-8. -/
def MemCnt.cowHoldCyc : Nat := cntKey 0x0D08 0 5
/-- 13 Table 13-8. -/
def MemCnt.kvEmpty : Nat := cntKey 0x0D08 0 6
/-- 13 Table 13-8. -/
def MemCnt.kvBadFree : Nat := cntKey 0x0D08 0 7
/-- 13 Table 13-8. -/
def MemCnt.stashDropped : Nat := cntKey 0x0D08 0 8
/-- 13 Table 13-8. -/
def MemCnt.stashRecomp : Nat := cntKey 0x0D08 0 9
/-- 13 Table 13-8. -/
def MemCnt.overlapRejects : Nat := cntKey 0x0D08 0 10
/-- 13 Table 13-8. -/
def MemCnt.muleSlips : Nat := cntKey 0x0D08 0 11
/-- 13 Table 13-8. -/
def MemCnt.muleStallCyc : Nat := cntKey 0x0D08 0 12

/-- 14 Table 14-12. -/
def ActCnt.boundaries : Nat := cntKey 0x0E0C 0 0
/-- 14 Table 14-12. -/
def ActCnt.refills : Nat := cntKey 0x0E0C 0 1
/-- 14 Table 14-12. -/
def ActCnt.rollouts : Nat := cntKey 0x0E0C 0 2
/-- 14 Table 14-12. -/
def ActCnt.rollFull : Nat := cntKey 0x0E0C 0 3
/-- 14 Table 14-12. -/
def ActCnt.rollLost : Nat := cntKey 0x0E0C 0 4
/-- 14 Table 14-12. -/
def ActCnt.kvBlocked : Nat := cntKey 0x0E0C 0 5
/-- 14 Table 14-12. -/
def ActCnt.kvFull : Nat := cntKey 0x0E0C 0 6
/-- 14 Table 14-12. -/
def ActCnt.sampleRows : Nat := cntKey 0x0E0C 0 7
/-- 14 Table 14-12. -/
def ActCnt.sampleNan : Nat := cntKey 0x0E0C 0 8
/-- 14 Table 14-12. -/
def ActCnt.batches : Nat := cntKey 0x0E0C 0 9
/-- 14 Table 14-12. -/
def ActCnt.batchOutside : Nat := cntKey 0x0E0C 0 10
/-- 14 Table 14-12. -/
def ActCnt.boundaryOutside : Nat := cntKey 0x0E0C 0 11
/-- 14 Table 14-12. -/
def ActCnt.retries : Nat := cntKey 0x0E0C 0 12
/-- 14 Table 14-12. -/
def ActCnt.skips : Nat := cntKey 0x0E0C 0 13
/-- 14 Table 14-12. -/
def ActCnt.actsOpened : Nat := cntKey 0x0E0C 0 14

/-- 15 Table 15-12. -/
def LinkCnt.fecCorr (n : Nat) : Nat := cntKey 0x0F0C n 0
/-- 15 Table 15-12. -/
def LinkCnt.fecUncorr (n : Nat) : Nat := cntKey 0x0F0C n 1
/-- 15 Table 15-12. -/
def LinkCnt.crcErr (n : Nat) : Nat := cntKey 0x0F0C n 2
/-- 15 Table 15-12. -/
def LinkCnt.replays (n : Nat) : Nat := cntKey 0x0F0C n 3
/-- 15 Table 15-12. -/
def LinkCnt.retrains (n : Nat) : Nat := cntKey 0x0F0C n 4
/-- 15 Table 15-12. -/
def LinkCnt.flitsTx (n : Nat) : Nat := cntKey 0x0F0C n 5
/-- 15 Table 15-12. -/
def LinkCnt.flitsRx (n : Nat) : Nat := cntKey 0x0F0C n 6
/-- 15 Table 15-12. -/
def LinkCnt.lateOwn (n : Nat) : Nat := cntKey 0x0F0C n 7
/-- 15 Table 15-12. -/
def LinkCnt.lateIn (n : Nat) : Nat := cntKey 0x0F0C n 8
/-- 15 Table 15-12. -/
def LinkCnt.carries (n : Nat) : Nat := cntKey 0x0F0C n 9
/-- 15 Table 15-12. -/
def LinkCnt.carryAbandon (n : Nat) : Nat := cntKey 0x0F0C n 10
/-- 15 Table 15-12. -/
def LinkCnt.slips (n : Nat) : Nat := cntKey 0x0F0C n 11
/-- 15 Table 15-12. -/
def LinkCnt.stallCyc (n : Nat) : Nat := cntKey 0x0F0C n 12

/-- 16 Table 16-10. -/
def FaultCnt.faults : Nat := cntKey 0x100A 0 0
/-- 16 Table 16-10. -/
def FaultCnt.noticesRx : Nat := cntKey 0x100A 0 1
/-- 16 Table 16-10. -/
def FaultCnt.frozenCkpts : Nat := cntKey 0x100A 0 2
/-- 16 Table 16-10. -/
def FaultCnt.watchdogMoves : Nat := cntKey 0x100A 0 3
/-- 16 Table 16-10. -/
def FaultCnt.respRequests : Nat := cntKey 0x100A 0 4
/-- 16 Table 16-10. -/
def FaultCnt.respRefused : Nat := cntKey 0x100A 0 5
/-- 16 Table 16-10. -/
def FaultCnt.wrongState : Nat := cntKey 0x100A 0 6
/-- 16 Table 16-10. -/
def FaultCnt.heldResolved : Nat := cntKey 0x100A 0 7

/-- 17 Table 17-9. -/
def CkptCnt.effective : Nat := cntKey 0x1109 0 0
/-- 17 Table 17-9. -/
def CkptCnt.skipped : Nat := cntKey 0x1109 0 1
/-- 17 Table 17-9. -/
def CkptCnt.closed : Nat := cntKey 0x1109 0 2
/-- 17 Table 17-9. -/
def CkptCnt.failed : Nat := cntKey 0x1109 0 3
/-- 17 Table 17-9. -/
def CkptCnt.abandoned : Nat := cntKey 0x1109 0 4
/-- 17 Table 17-9. -/
def CkptCnt.poisonedPages : Nat := cntKey 0x1109 0 5
/-- 17 Table 17-9. -/
def CkptCnt.snapsShipped : Nat := cntKey 0x1109 0 6
/-- 17 Table 17-9. -/
def CkptCnt.snapsAbandoned : Nat := cntKey 0x1109 0 7
/-- 17 Table 17-9. -/
def CkptCnt.rollbacks : Nat := cntKey 0x1109 0 8
/-- 17 Table 17-9. -/
def CkptCnt.restores : Nat := cntKey 0x1109 0 9

/-- 18 Table 18-9. -/
def MbxCnt.accepted (n : Nat) : Nat := cntKey 0x1209 n 0
/-- 18 Table 18-9. -/
def MbxCnt.refused (n : Nat) : Nat := cntKey 0x1209 n 1
/-- 18 Table 18-9. -/
def MbxCnt.posted (n : Nat) : Nat := cntKey 0x1209 n 2
/-- 18 Table 18-9. -/
def MbxCnt.consumeIgnored (n : Nat) : Nat := cntKey 0x1209 n 3
/-- 18 Table 18-9. -/
def MbxCnt.obsWrites (n : Nat) : Nat := cntKey 0x1209 n 4
/-- 18 Table 18-9. -/
def MbxCnt.badWrites (n : Nat) : Nat := cntKey 0x1209 n 5
/-- 18 Table 18-9. -/
def MbxCnt.portResets (n : Nat) : Nat := cntKey 0x1209 n 6
/-- 18 Table 18-9. -/
def MbxCnt.irqs (n : Nat) : Nat := cntKey 0x1209 n 7

/-- 20 Table 20-8. -/
def PwrCnt.ceilChanges : Nat := cntKey 0x1408 0 0
/-- 20 Table 20-8. -/
def PwrCnt.noticesTx : Nat := cntKey 0x1408 0 1
/-- 20 Table 20-8. -/
def PwrCnt.noticesRx : Nat := cntKey 0x1408 0 2
/-- 20 Table 20-8. -/
def PwrCnt.noticeDropped : Nat := cntKey 0x1408 0 3
/-- 20 Table 20-8. -/
def PwrCnt.gearDeferred : Nat := cntKey 0x1408 0 4
/-- 20 Table 20-8. -/
def PwrCnt.rampMissed : Nat := cntKey 0x1408 0 5
/-- 20 Table 20-8. -/
def PwrCnt.clamps : Nat := cntKey 0x1408 0 6
/-- 20 Table 20-8. -/
def PwrCnt.clampBeats : Nat := cntKey 0x1408 0 7
/-- 20 Table 20-8. -/
def PwrCnt.budgetEmpty : Nat := cntKey 0x1408 0 8
/-- 20 Table 20-8. -/
def PwrCnt.hbmThrottleMs : Nat := cntKey 0x1408 0 9
/-- 20 Table 20-8. -/
def PwrCnt.hoursOn : Nat := cntKey 0x1408 0 10
/-- 20 Table 20-8. -/
def PwrCnt.hoursHot : Nat := cntKey 0x1408 0 11
/-- 20 Table 20-8. -/
def PwrCnt.hoursPeak : Nat := cntKey 0x1408 0 12

end Sys2Proof.Machine
end

