-- ==== Sys2Proof/Machine/Ops.lean ====
section
/-! DEFINITION. The named operations that every command shares: free values, the change log (22 R536, R537), device-state
changes (19 R461), MSI-X (18 R454), completion records (18 R448), latching a fault cause (16 R403). -/

namespace Sys2Proof.Machine

/-- A 64-bit number's low bits. -/
def mod64 (n : Nat) : Nat := n % 2 ^ 64

/-- A free number, and the state with the counter of free values advanced (log 5). -/
def State.drawNat (s : State) : Nat × State := (Config.freeNat s.freeIdx, { s with freeIdx := s.freeIdx + 1 })

/-- A free Bool, and the state with the counter of free values advanced (log 5). -/
def State.drawBool (s : State) : Bool × State := (Config.freeBool s.freeIdx, { s with freeIdx := s.freeIdx + 1 })

/-- `n` free bytes, and the state with the counter of free values advanced (log 5). -/
def State.drawBytes (s : State) (n : Nat) : List Byte × State :=
  ((List.range n).map (fun i => Config.freeByte (s.freeIdx + i)), { s with freeIdx := s.freeIdx + n })

/-- Something leaves the part (log 14). -/
def State.emit (s : State) (e : OutEvent) : State := { s with out := s.out ++ [e] }

/-- Code of a device state (19 Table 19-1). -/
def DevState.code : DevState → Nat
  | .cold => 0 | .booting => 1 | .idle => 2 | .armed => 3 | .running => 4 | .held => 5 | .faulted => 6 | .halted => 7

/-- The part is in one of the states from IDLE on (16 R410). -/
def DevState.fromIdle : DevState → Bool
  | .cold => false | .booting => false | _ => true

/-! ## The change log -/

/-- Origins of Table 22-6. -/
def fromFiluidom (sheepdog : Nat) : Nat × Nat := (0, sheepdog)
def fromMailbox (p m : Nat) : Nat × Nat := (1, p + 2 * m)
def fromResponder (p tag : Nat) : Nat × Nat := (2, p + 2 * tag)
def fromHardware (d : Nat) : Nat × Nat := (3, d)
def fromPeer (id : Nat) : Nat × Nat := (4, id)
def fromSideband : Nat × Nat := (5, 0)
def fromPlan (entry : Nat) : Nat × Nat := (7, entry)

/-- Filuidom as the Sheepdog that holds `role` now (01 R11, Table 01-2, 16 R406). -/
def State.dog (s : State) (role : Nat) : Nat × Nat := fromFiluidom (s.flt.holder.getD role role)

/-- The wall time of a beat in ns, or 0 before any pair is adopted (11 R278). -/
def State.wall (s : State) (beat : Nat) : Nat :=
  if s.time.wallSet then unsigned 64 ((s.time.wallW0 : Int) + 1000 * ((beat : Int) - s.time.wallB0)) else 0

/-- A change takes the next sequence number and its fields go into the detail buffer; if the 1,024 entries are taken, its
FORM is 2 and OLD and NEW are 0 (22 R536). -/
def State.logForm (s : State) (form : Nat) (origin : Nat × Nat) (cls inst old new : Nat) : State :=
  let full := decide (1024 ≤ s.trust.details.length)
  let d : LogDetail :=
    { seq := s.trust.nextSeq, beat := s.time.beat, wall := s.wall s.time.beat, origin := origin.1,
      originDetail := origin.2 % 2 ^ 24, cls := cls, inst := inst % 2 ^ 16, form := if full then 2 else form,
      old := if full then 0 else old % 2 ^ 128, new := if full then 0 else new % 2 ^ 128 }
  { s with trust.nextSeq := s.trust.nextSeq + 1, trust.details := s.trust.details ++ [d] }

/-- A logged change whose values fit 128 bits. -/
def State.log (s : State) (origin : Nat × Nat) (cls inst old new : Nat) : State :=
  s.logForm 0 origin cls inst old new

/-- Bits [127:0] of a digest (22 R537). -/
def digest128 (d : List Byte) : Nat := leNat (d.take 16)

/-- A logged change whose values are hashed (FORM 1, 22 R537). -/
def State.logHash (s : State) (origin : Nat × Nat) (cls inst : Nat) (old new : List Byte) : State :=
  s.logForm 1 origin cls inst (digest128 (sha384 old)) (digest128 (sha384 new))

/-! ## MSI-X -/

/-- Index of port `p`'s vector `v`. -/
def vecKey (p v : Nat) : Nat := p * 32 + v

/-- Vector `v` of port `p` is raised: a masked vector sets its pending bit, another sends its message (18 R454). -/
def State.raiseVector (s : State) (p v : Nat) : State :=
  if Tab.get true s.host.msixMask (vecKey p v) then
    { s with host.msixPend := Tab.set false s.host.msixPend (vecKey p v) true }
  else (s.emit (.msix p v)).bump (MbxCnt.irqs p) 1

/-- Vector `v` is raised on both ports. -/
def State.raiseBoth (s : State) (v : Nat) : State := (s.raiseVector 0 v).raiseVector 1 v

/-- The device state changes: logged with its old state, new state and origin (19 R461), vector 16 raised (18 Table
18-6). -/
def State.setDev (s : State) (d : DevState) (origin : Nat × Nat) : State :=
  if s.dev.state = d then s
  else
    (({ s with dev.state := d } : State).log origin 0x0001 0 s.dev.state.code d.code).raiseBoth 16

/-! ## Mailboxes -/

/-- Index of mailbox `m` of port `p`. -/
def boxKey (p m : Nat) : Nat := p * 16 + m

/-- A mailbox. -/
def State.box (s : State) (p m : Nat) : Mailbox := Tab.get Mailbox.empty s.host.boxes (boxKey p m)

/-- The state with a mailbox replaced. -/
def State.setBox (s : State) (p m : Nat) (b : Mailbox) : State :=
  { s with host.boxes := Tab.set Mailbox.empty s.host.boxes (boxKey p m) b }

/-- The command at the head of a mailbox's queue. -/
def State.head (s : State) (p m : Nat) : Option Command := (s.box p m).queue.head?

/-- Removes the first entry of mailbox (p, m) from the device queue. -/
def dropQueued (p m seq : Nat) : List Queued → List Queued
  | [] => []
  | q :: l => if q.port = p ∧ q.mbox = m ∧ q.seq = seq then l else q :: dropQueued p m seq l

/-- The command at the head of mailbox (p, m) ends in its one completion record (18 R448, 19 R462): it leaves the mailbox's
queue and the device queue, its SEQ is acknowledged, and its record waits to be posted; a mailbox that is resetting discards
the record (18 R451). `len` is the record's LENGTH, `wrote` what its bulk reply wrote to HBM. -/
def State.makeRecordLen (s : State) (p m status detail : Nat) (body : List Byte) (len : Nat) (wrote : Option (Nat × Nat)) : State :=
  match (s.box p m).queue with
  | [] => s
  | c :: rest =>
    let b := s.box p m
    let r : Record :=
      { status := status, opcode := c.opcode, seq := c.seq, irq := c.irq, beat := s.time.beat, detail := detail,
        body := body, len := len, wrote := wrote }
    let b' :=
      if b.resetting then { b with queue := rest, resetting := !rest.isEmpty }
      else { b with queue := rest, records := b.records ++ [r], ackSeq := c.seq, progress := 255 }
    { s.setBox p m b' with host.queue := dropQueued p m c.seq s.host.queue }

/-- A completion record whose LENGTH is that of its body. -/
def State.makeRecord (s : State) (p m status detail : Nat) (body : List Byte) : State :=
  s.makeRecordLen p m status detail body body.length none

/-- Status codes (18 R446). -/
def stOk : Nat := 0
def stWrongState : Nat := 2
def stBadArg : Nat := 3
def stDenied : Nat := 4
def stOverlap : Nat := 5
def stNoSpace : Nat := 6
def stTimeout : Nat := 7
def stFaulted : Nat := 8
def stUnsupported : Nat := 9

/-- Little-endian field of a command body. -/
def Command.field (c : Command) (off n : Nat) : Nat := leNat (Tab.range 0 c.body off n)

/-- Bytes of a command body. -/
def Command.bytes (c : Command) (off n : Nat) : List Byte := Tab.range 0 c.body off n

/-- Every command queued at mailbox (p, m), at most `fuel`, ends with `status` in issue order (16 R404). -/
def State.failQueue (s : State) (p m status : Nat) : Nat → State
  | 0 => s
  | n + 1 => if (s.box p m).queue.isEmpty then s else (s.makeRecord p m status 0 []).failQueue p m status n

/-- Every pending command of every mailbox ends with `status` (16 R404). -/
def State.failAll (s : State) (status : Nat) : State :=
  (List.range 32).foldl (fun s i => s.failQueue (i / 16) (i % 16) status 4) s

/-! ## Fault causes -/

/-- SCOPE of a cause (16 Table 16-3). -/
def scopeOf (cause : Nat) : Nat :=
  if cause ∈ [0x01, 0x02, 0x03, 0x04, 0x05, 0x0D, 0x0E] then 1 else 0

/-- A cause is latched (16 R403): the first since the last PLAN_ARM stays in FAULT_STATUS, every one is counted and logged,
and the module enters FAULTED at FAULT_ENTER (16 R404). -/
def State.raiseCause (s : State) (cause detail : Nat) : State :=
  let s1 := s.bump FaultCnt.faults 1
  let s2 : State :=
    if s.flt.cause = 0 then
      { s1 with flt.cause := cause, flt.scope := scopeOf cause, flt.detail := detail % 2 ^ 16, flt.beat := s.time.beat }
    else s1
  ({ s2 with flt.pendingEntry := true } : State).log (fromHardware detail) 0x0002 0 0
    (fields [(0, cause), (8, detail % 2 ^ 16)])

/-- Role `r` is between Sheepdogs: its holder expired and its standby has not taken it over (16 R406). -/
def State.roleMoving (s : State) (r : Nat) : Bool := s.flt.moving.any (fun m => m.1 == r)

/-- Work that role `r` owed at a beat is missed because the role moves: cause SHEEPDOG, with the Sheepdog that held it (16 R406). -/
def State.missWork (s : State) (r : Nat) : State := s.raiseCause 0x0D (s.flt.holder.getD r r)

/-! ## The health word -/

/-- Bits of the health word (07 Table 07-5). -/
def hNonfin : Nat := 1
def hCode : Nat := 2
def hMissing : Nat := 4
def hEcc : Nat := 8

/-- Bits of the health word set (07 R177). -/
def State.setHealth (s : State) (b : Nat) : State := { s with plan.health := s.plan.health ||| b }

end Sys2Proof.Machine
end

