-- ==== Sys2Proof/Machine/Memory.lean ====
section
/-! DEFINITION. The part's memories: where each space lies in the one byte table, HBM reads and writes through the page
table and ECC (13 R315 to R318), copy-on-write holds (13 R323), scratchpads and location words (13 Table 13-6). -/

namespace Sys2Proof

/-- The entries of a table with indices in [b, b + n). -/
def Tab.slice {α : Type} (t : Tab α) (b n : Nat) : Tab α :=
  t.filter (fun e => decide (b ≤ e.1) && decide (e.1 < b + n))

/-- The table `t` with the `n` entries from `d` on replaced by those of `u` from `b` on. -/
def Tab.graft {α : Type} (t u : Tab α) (b d n : Nat) : Tab α :=
  t.filter (fun e => decide (e.1 < d)) ++
    ((u.slice b n).map (fun e => (e.1 - b + d, e.2)) ++ t.filter (fun e => decide (d + n ≤ e.1)))

/-- The table with the `n` entries from `b` on at the default. -/
def Tab.clear {α : Type} (t : Tab α) (b n : Nat) : Tab α :=
  t.filter (fun e => decide (e.1 < b) || decide (b + n ≤ e.1))

namespace Machine

/-- The key of byte `off` of space `sp`: HBM is space 0. -/
def spaceKey (sp off : Nat) : Nat := sp * 2 ^ 48 + off

def oxSpace (x : Nat) : Nat := 0x1000 + x
def goatSpace (g : Nat) : Nat := 0x2000 + g
def henSpace (h : Nat) : Nat := 0x3000 + h
def muleSpace (n : Nat) : Nat := 0x4000 + n
def linkSpace : Nat := 0x5000
def redSpace (p : Nat) : Nat := 0x5100 + p
def bankSpace (x b : Nat) : Nat := 0x6000 + 2 * x + b
def tableSpace (g : Nat) : Nat := 0x7000 + g
def coefSpace (g : Nat) : Nat := 0x7100 + g
def schedSpace (g : Nat) : Nat := 0x7200 + g
def accSpace (h : Nat) : Nat := 0x8000 + h

/-- Bytes of a space: 04 R75, 05 R113, R130, 08 R187, 09 R202, 13 R315, R331, 15 R381, R384; a Hen's accumulator memory
(09 R202). -/
def spaceSize (sp : Nat) : Nat :=
  if sp = 0 then 2 ^ 39
  else if sp < 0x2000 then 0x400000
  else if sp < 0x3000 then 0x200000
  else if sp < 0x4000 then 0x400000
  else if sp < 0x5100 then 0x10000
  else if sp < 0x6000 then 0x400000
  else if sp < 0x7000 then 0x10000
  else if sp < 0x7100 then 32 * 6272
  else if sp < 0x8000 then 0x4000
  else 0x20000

/-- The byte at a key; beyond the space's size a free value (log 16). -/
def State.byteAt (s : State) (key : Nat) : Byte :=
  if key % 2 ^ 48 < spaceSize (key / 2 ^ 48) then Tab.get 0 s.mem key else Config.freeByte (s.freeIdx + key)

/-- `n` bytes from a key on, as they lie. -/
def State.bytesAt (s : State) (key n : Nat) : List Byte := (List.range n).map (fun i => s.byteAt (key + i))

/-- The little-endian number in `n` bytes at a key. -/
def State.natAt (s : State) (key n : Nat) : Nat := leNat (s.bytesAt key n)

/-- Bytes laid at a key; what lies beyond the space's size is not written (log 16). -/
def State.poke (s : State) (key : Nat) (data : List Byte) : State :=
  { s with mem := Tab.put 0 s.mem key (data.take (spaceSize (key / 2 ^ 48) - key % 2 ^ 48)) }

/-! ## Pages -/

/-- The page of an HBM byte address (13 R315). -/
def pageOf (a : Nat) : Nat := a / 2 ^ 21

/-- The page-table entry of a page. -/
def State.pteOf (s : State) (p : Nat) : Pte := Tab.get Pte.idle s.pte p

/-- A page-table entry changed. -/
def State.setPte (s : State) (p : Nat) (e : Pte) : State := { s with pte := Tab.set Pte.idle s.pte p e }

/-- The pages that [a, a + n) touches. -/
def pagesOf (a n : Nat) : List Nat :=
  if n = 0 then [] else (List.range (pageOf (a + n - 1) - pageOf a + 1)).map (fun i => pageOf a + i)

/-- A page that HBM does not have, or one with VALID = 0 (13 R315, R317). -/
def State.badPage (s : State) (p : Nat) : Bool := decide (2 ^ 18 ≤ p) || !(s.pteOf p).valid

/-- An access that HBM does not permit in some page it touches (13 R317). -/
def State.badAddr (s : State) (a n : Nat) : Bool := (pagesOf a n).any s.badPage

/-- The parts of [a, a + n), each within one page, as start and length. -/
def pageParts (a n : Nat) : List (Nat × Nat) :=
  (pagesOf a n).map (fun p =>
    let lo := Nat.max a (p * 2 ^ 21)
    (lo, Nat.min (a + n) ((p + 1) * 2 ^ 21) - lo))

/-- Who makes an HBM request: the requester index of 02 R43. -/
def isBar2 (req : Nat) : Bool := decide (req = 234) || decide (req = 235)

/-- A refused address (13 R317): a unit's adds to ADDR_FAULTS, is logged and takes the module to FAULTED; a BAR2 port's adds
to BAR2_FAULTS and is logged. -/
def State.addrFault (s : State) (req a : Nat) : State :=
  if isBar2 req then
    (s.bump MemCnt.bar2Faults 1).log (6, req - 234) 0x0080 req 0 a
  else
    ((s.bump MemCnt.addrFaults 1).log (fromHardware req) 0x0080 req 0 a).raiseCause 0x02 req

/-- The lines of [a, a + n) that hold an error, with its kind: 1 correctable, 2 uncorrectable. -/
def State.badLines (s : State) (a n : Nat) : List (Nat × Nat) :=
  s.lineErr.filter (fun e => decide (a < 64 * (e.1 + 1)) && decide (64 * e.1 < a + n))

/-- An uncorrectable error reported (13 R318): counted, the page poisoned, logged; `flag` sets the health word's ECC
bit. -/
def State.eccUe (s : State) (line : Nat) (flag : Bool) : State :=
  let p := pageOf (64 * line)
  let s1 := ((s.bump MemCnt.eccUe 1).setPte p { s.pteOf p with poison := true }).log (fromHardware (p % 8)) 0x0080 p 0
    (64 * line)
  if flag then s1.setHealth hEcc else s1

/-- A corrected error: counted, and the line written back (13 R318). -/
def State.eccCe (s : State) (line : Nat) : State :=
  { s.bump MemCnt.eccCe 1 with lineErr := Tab.set 0 s.lineErr line 0 }

/-- What a read of [a, a + n) in a page of HBM that it may read does besides delivering bytes (13 R318). -/
def State.lineNotes (s : State) (req a n : Nat) : State :=
  (s.badLines a n).foldl (fun s e => if e.2 = 2 then s.eccUe e.1 (!isBar2 req) else s.eccCe e.1) s

/-- What a read of HBM does besides delivering bytes, page by page (13 R315, R317, R318). -/
def State.hbmNoteRead (s : State) (req a n : Nat) : State :=
  (pageParts a n).foldl (fun s r => if s.badPage (pageOf r.1) then s.addrFault req r.1 else s.lineNotes req r.1 r.2) s

/-- The bytes a unit's read of HBM delivers: zeros from a page it may not read and from a line with an uncorrectable error
(13 R317, R318). -/
def State.hbmBytes (s : State) (a n : Nat) : List Byte :=
  (List.range n).map (fun i =>
    if s.badPage (pageOf (a + i)) || decide (Tab.get 0 s.lineErr ((a + i) / 64) = 2) then 0 else Tab.get 0 s.mem (a + i))

/-- Bytes written to lines of one page, whatever WP says: a line only partly covered and holding an uncorrectable error
keeps only the written bytes (13 R318). -/
def State.lineWrite (s : State) (req a : Nat) (data : List Byte) : State :=
  let n := data.length
  let s1 := (s.badLines a n).foldl (fun s e =>
    let whole := decide (a ≤ 64 * e.1) && decide (64 * (e.1 + 1) ≤ a + n)
    let s2 : State := { s with lineErr := Tab.set 0 s.lineErr e.1 0 }
    if whole then s2
    else if e.2 = 2 then
      let s3 := s2.eccUe e.1 (!isBar2 req)
      { s3 with mem := Tab.clear s3.mem (64 * e.1) 64 }
    else s2.bump MemCnt.eccCe 1) s
  s1.poke a data

/-- The first page of the shadow region, from the loaded plan's region table; `base` is given by the caller (13 R322). -/
def shadowPage (base stack k : Nat) : Nat := base + stack + 8 * k

/-- The first write to a page with WP = 1 is held, and every later write to it, while the page's copy is in progress
(13 R323 steps 1 and 2): the next free shadow page of the stack is taken. -/
def State.holdWrite (s : State) (shadowBase req p off : Nat) (data : List Byte) : State :=
  let first := !(s.heldWrites.any (fun h => h.page == p))
  let k := Tab.get 0 s.shadowNext (p % 8)
  let s1 : State :=
    if first then
      { s.setPte p { s.pteOf p with shadow := shadowPage shadowBase (p % 8) k } with
        shadowNext := Tab.set 0 s.shadowNext (p % 8) (k + 1) }
    else s
  { s1 with heldWrites := s1.heldWrites ++ [{ req := req, page := p, offset := off, data := data }] }

/-- A write within one page (13 R316, R317, R323). -/
def State.pageWrite (s : State) (shadowBase req a : Nat) (data : List Byte) : State :=
  let p := pageOf a
  let e := s.pteOf p
  if s.badPage p then s.addrFault req a
  else if e.ro then s.bump PlanCnt.planWritesDiscarded 1
  else if e.wp then s.holdWrite shadowBase req p (a % 2 ^ 21) data
  else s.lineWrite req a data

/-- A write to HBM, page by page; `fuel` bounds the pages. -/
def State.hbmWriteN (s : State) (shadowBase req : Nat) : Nat → Nat → List Byte → State
  | 0, _, _ => s
  | f + 1, a, data =>
    if data.isEmpty then s
    else
      let n := 2 ^ 21 - a % 2 ^ 21
      (s.pageWrite shadowBase req a (data.take n)).hbmWriteN shadowBase req f (a + n) (data.drop n)

/-- Base page of the shadow region of the page table's plan: kept in the plan state when the page table is rebuilt. -/
def State.shadowBase (s : State) : Nat := s.plan.shadowBase

/-- A unit's, link port's or host's write to HBM. -/
def State.hbmWrite (s : State) (req a : Nat) (data : List Byte) : State :=
  s.hbmWriteN s.shadowBase req (data.length / 2 ^ 21 + 2) a data

/-- The log holder's write to the log region, which RO does not stop (13 Table 13-3). -/
def State.logRegionWrite (s : State) (a : Nat) (data : List Byte) : State := s.lineWrite 224 a data

/-! ## Spaces of cores -/

/-- Physical position of logical position `i` of the map's order (02 R37), or 0xFF. -/
def State.physOf (s : State) (i : Nat) : Nat := Tab.get 0xFF s.geo.logical i

/-- The position of the core that serves space `sp`. -/
def State.spacePos (s : State) (sp : Nat) : Nat :=
  if sp < 0x2000 then s.physOf (sp - 0x1000)
  else if sp < 0x3000 then s.physOf (120 + (sp - 0x2000))
  else if sp < 0x4000 then s.physOf (180 + (sp - 0x3000))
  else s.physOf (210 + (sp - 0x4000))

/-- The core that serves space `sp` is fenced (02 R34); the link units and HBM, which no core serves, are not. -/
def State.spaceFenced (s : State) (sp : Nat) : Bool :=
  decide (0x1000 ≤ sp) && decide (sp < 0x5000) && Tab.get false s.geo.fence (s.spacePos sp)

/-- Packets discarded at a closed ejection port are counted (02 R35); how many packets a write makes the spec does not say:
a free number, at least one (log 5). -/
def State.discard (s : State) (pos : Nat) : State :=
  let d := s.drawNat
  { d.2 with geo.discards := Tab.upd 0 s.geo.discards pos (fun v => sat32 (v + d.1 + 1)) }

/-- A write into a space by requester `req`: HBM through the page table; a fenced core's space discards (02 R35). -/
def State.write (s : State) (req key : Nat) (data : List Byte) : State :=
  if key < 2 ^ 48 then s.hbmWrite req key data
  else if s.spaceFenced (key / 2 ^ 48) then s.discard (s.spacePos (key / 2 ^ 48))
  else s.poke key data

/-- The bytes a read of a space delivers: a fenced core's closed port discards the request (02 R35), and what the reader then
takes for its bytes the spec does not state (log 132). -/
def State.read (s : State) (key n : Nat) : List Byte :=
  if key < 2 ^ 48 then s.hbmBytes key n
  else if s.spaceFenced (key / 2 ^ 48) then (s.drawBytes n).1
  else s.bytesAt key n

/-- What a read of a space does besides delivering bytes: a request to a fenced core is counted at its port (02 R35). -/
def State.noteRead (s : State) (req key n : Nat) : State :=
  if n = 0 then s
  else if key < 2 ^ 48 then s.hbmNoteRead req key n
  else if s.spaceFenced (key / 2 ^ 48) then (s.drawBytes n).2.discard (s.spacePos (key / 2 ^ 48))
  else s

/-- The little-endian number a read delivers. -/
def State.readNat (s : State) (key n : Nat) : Nat := leNat (s.read key n)

/-- The key a location word names (13 Table 13-6); none for a reserved SPACE or an Ox queue. -/
def locKey (addr num space : Nat) : Nat :=
  match space with
  | 0 => addr
  | 1 => spaceKey (oxSpace num) addr
  | 2 => spaceKey (goatSpace num) addr
  | 3 => spaceKey (henSpace num) addr
  | _ => spaceKey (muleSpace num) addr

/-- The key of a 64-bit location word. -/
def locOfWord (w : Nat) : Nat := locKey (bits w 0 48) (bits w 48 8) (bits w 56 3)

/-- The Ox queue a key names, if it names one (12 R301): 2·ox + queue. -/
def queueOfKey (key : Nat) : Option Nat :=
  let sp := key / 2 ^ 48
  let off := key % 2 ^ 48
  if 0x1000 ≤ sp ∧ sp < 0x2000 ∧ 0x400000 ≤ off ∧ off < 0x420000 then
    some (2 * (sp - 0x1000) + (if off < 0x410000 then 0 else 1))
  else none

/-- A queue takes the flits its producer has credits for (12 R302): each costs one credit; `gone` where the consumer's closed port
discards them and returns their credits (02 R35). -/
def FeedQueue.send (f : FeedQueue) (gone : Bool) : FeedQueue :=
  let n := Nat.min f.credits f.unsent.length
  { f with
      unsent := f.unsent.drop n
      credits := f.credits - n
      flits := if gone then f.flits else f.flits ++ f.unsent.take n
      returning := if gone then f.returning + n else f.returning }

/-- The state with queue `q` changed. -/
def State.updQueue (s : State) (q : Nat) (f : FeedQueue → FeedQueue) : State :=
  { s with unit.queues := Tab.upd FeedQueue.empty s.unit.queues q f }

/-- Queue `q`. -/
def State.queue (s : State) (q : Nat) : FeedQueue := Tab.get FeedQueue.empty s.unit.queues q

/-- The producer of queue `q` sends what it has credits for. -/
def State.sendQueue (s : State) (q : Nat) : State :=
  let sp := oxSpace (q / 2)
  let s1 := s.updQueue q (fun f => f.send (s.spaceFenced sp))
  if s.spaceFenced sp && decide (0 < Nat.min (s.queue q).credits (s.queue q).unsent.length) then s1.discard (s.spacePos sp)
  else s1

/-- A command's output for an Ox queue, in flits of 256 bytes, the last of which may be partial: what there are credits for goes
at once, the rest waits for credits (12 R302, 05 R141). -/
def State.pushQueue (s : State) (q : Nat) (data : List Byte) : State :=
  (s.updQueue q (fun f => { f with unsent := f.unsent ++ pieces 256 data.length data })).sendQueue q

/-- A queue after its feeder has consumed `n` bytes: each flit wholly consumed has its credit on the way back (12 R303). -/
def FeedQueue.take (f : FeedQueue) : Nat → List (List Byte) → FeedQueue
  | _, [] => { f with flits := [] }
  | n, x :: l =>
    if n = 0 then { f with flits := x :: l }
    else if n < x.length then { f with flits := x.drop n :: l }
    else FeedQueue.take { f with returning := f.returning + 1 } (n - x.length) l

/-- The feeder consumes bytes until the command in hand has `n` of this queue: those that are there, and from a broken queue zeros
for the rest (12 R304, 04 R91). -/
def FeedQueue.feed (f : FeedQueue) (n : Nat) : FeedQueue :=
  let m := n - f.fed.length
  let got := f.flits.flatten.take m
  { f.take m f.flits with fed := f.fed ++ (if f.broken then fit 0 m got else got) }

/-- A write into a space or an Ox queue. -/
def State.writeAny (s : State) (req key : Nat) (data : List Byte) : State :=
  match queueOfKey key with
  | some q => s.pushQueue q data
  | none => s.write req key data

/-- Bytes whose values nothing fixes are laid over the given ranges: what a stopped command had written (04 R112, 05 R142,
09 R229; log 7). -/
def State.clobber (s : State) (req : Nat) (outs : List (Nat × Nat)) : State :=
  outs.foldl (fun s o =>
    let d := s.drawBytes o.2
    if o.1 < 2 ^ 48 then d.2.hbmWrite req o.1 d.1 else d.2.poke o.1 d.1) s

end Machine

end Sys2Proof
end

