-- ==== Sys2Proof/Machine/Plan.lean ====
section
/-! DEFINITION. The loaded plan as the units read it (12 R280 to R301), sync counters, waits and signals (12 R294 to R300),
and the beats of the timetable (11 R275, 19 R473). -/

namespace Sys2Proof.Machine

/-! ## The plan's bytes -/

/-- The little-endian number in `n` bytes at offset `off` of the loaded plan. -/
def State.planNat (s : State) (off n : Nat) : Nat := s.natAt (s.plan.base + off) n

/-- Bits [lo + w - 1 : lo] of the 64-byte plan header (12 Table 12-1). -/
def State.planHdr (s : State) (lo w : Nat) : Nat := bits (s.planNat 0 64) lo w

/-- Offset and length of plan section `i` (12 R282). -/
def State.secOff (s : State) (i : Nat) : Nat := s.planNat (0x40 + 16 * i) 8
def State.secLen (s : State) (i : Nat) : Nat := s.planNat (0x48 + 16 * i) 8

/-- Bits of the header of plan section 0, the timetable (12 R282). -/
def State.ttHdr (s : State) : Nat := s.planNat (s.secOff 0) 16
def State.period (s : State) : Nat := bits s.ttHdr 0 48
def State.repeats (s : State) : Nat := bits s.ttHdr 64 32
def State.ttCount (s : State) : Nat := bits s.ttHdr 96 17

/-- A timetable entry (11 Table 11-4). -/
structure Entry where
  offset : Nat
  kind : Nat
  arg : Nat
  ctr : Nat
  sig : Bool
  target : Nat
deriving DecidableEq, Repr

/-- Timetable entry `i`. -/
def State.entry (s : State) (i : Nat) : Entry :=
  let w := s.planNat (s.secOff 0 + 16 + 16 * i) 16
  { offset := bits w 0 48, kind := bits w 48 5, arg := bits w 56 8, ctr := bits w 64 15, sig := bit w 79,
    target := bits w 80 32 }

/-- The timetable's entries with their indices. -/
def State.entries (s : State) : List (Nat × Entry) := (List.range s.ttCount).map (fun i => (i, s.entry i))

/-- A region entry (13 Table 13-2). -/
structure Region where
  kind : Nat
  base : Nat
  pages : Nat
  arg0 : Nat
  arg1 : Nat
  arg2 : Nat
deriving DecidableEq, Repr

/-- Region `i` from the bytes of a region table at `off` of a plan at `base`. -/
def State.regionAt (s : State) (base off i : Nat) : Region :=
  let w := s.natAt (base + off + 32 * i) 32
  { kind := bits w 0 4, base := bits w 32 18, pages := bits w 64 19, arg0 := bits w 96 32, arg1 := bits w 128 32,
    arg2 := bits w 160 32 }

/-- Region `i` of the loaded plan. -/
def State.region (s : State) (i : Nat) : Region := s.regionAt s.plan.base (s.secOff 1) i

/-- The loaded plan's regions, with their indices. -/
def State.regions (s : State) : List (Nat × Region) :=
  ((List.range 256).map (fun i => (i, s.region i))).filter (fun r => decide (r.2.kind ≠ 0))

/-- KIND of the region that holds page `p` of the loaded plan; 0 for none. -/
def State.kindOfPage (s : State) (p : Nat) : Nat :=
  let e := s.pteOf p
  if e.region = 0xFF then 0 else (s.region e.region).kind

/-- The pages of a region. -/
def Region.pageList (r : Region) : List Nat := (List.range r.pages).map (fun i => r.base + i)

/-- Bits of variant entry `v` (12 Table 12-3). -/
def State.variantBits (s : State) (v lo w : Nat) : Nat := bits (s.planNat (s.secOff 3 + 64 * v) 64) lo w

/-- A structure of section 11 at `off`. -/
def State.varNat (s : State) (off n : Nat) : Nat := s.planNat (s.secOff 11 + off) n

/-- First descriptor and count of stream `u` in variant `v` (12 R283). -/
def State.streamTab (s : State) (v u : Nat) : Nat × Nat :=
  let w := s.varNat (s.variantBits v 0 40 + 8 * u) 8
  (bits w 0 40, bits w 40 24)

/-- Descriptor `i` of section 10 as a 512-bit number. -/
def State.descAt (s : State) (i : Nat) : Nat := s.planNat (s.secOff 10 + 64 * i) 64

/-- Queue-table entry of queue `q` of Ox `x`, at index 2x + q (12 Table 12-9). -/
def State.queueEntry (s : State) (i : Nat) : Nat := s.planNat (s.secOff 5 + 8 * i) 8

/-- The act control block's field (14 Table 14-2). -/
def State.acb (s : State) (lo w : Nat) : Nat := bits (s.planNat (s.secOff 9) 512) lo w

/-- An HBM address from its bits [47:8]. -/
def addr256 (v : Nat) : Nat := 256 * v

/-- The plan's 24-bit seed (12 Table 12-1). -/
def State.seed (s : State) : Nat := s.planHdr 128 24

/-- Counter IDs of the plan header (12 Table 12-1). -/
def State.gateCtr (s : State) : Nat := s.planHdr 176 15
def State.regearCtr (s : State) : Nat := s.planHdr 192 15
def State.rtrCtr (s : State) : Nat := s.planHdr 408 15
def State.expBase (s : State) : Nat := s.planHdr 208 15
def State.routers (s : State) : Nat := s.planHdr 224 16
def State.selEntries (s : State) : Nat := s.planHdr 240 16
def State.fmtInterval (s : State) : Nat := s.planHdr 152 16
def State.latePolicy (s : State) : Bool := decide (s.planHdr 168 1 = 1)
def State.rtrAddr (s : State) : Nat := addr256 (s.planHdr 368 40)
def State.trlAddr (s : State) : Nat := addr256 (s.planHdr 424 40)

/-! ## Sync counters -/

/-- The code for no counter (12 Table 12-6). -/
def noCtr : Nat := 0x7FFF

/-- MODE 1 in the counter table: a running counter (12 Table 12-8). -/
def State.ctrRunning (s : State) (id : Nat) : Bool := bit (s.planNat (s.secOff 4 + 4 * id) 4) 31

/-- STRIDE of a counter (12 Table 12-8). -/
def State.ctrStride (s : State) (id : Nat) : Nat := bits (s.planNat (s.secOff 4 + 4 * id) 4) 0 24

/-- The positions with no logical number at the latest map generation, in ascending physical index (12 Table 12-6). -/
def State.unnumbered (s : State) : List Nat :=
  (List.range 240).filter (fun p => !s.geo.logical.any (fun e => e.2 == p))

/-- A counter at a hole, which reads 0 (12 Table 12-6). Holes made since the latest map generation count, the homes stay. -/
def State.ctrAtHole (s : State) (id : Nat) : Bool :=
  let h := id / 128
  decide (226 ≤ h) && decide (h < 240) &&
    (let st := Tab.get 1 s.geo.site (s.unnumbered.getD (h - 226) 0)
     decide (st = 3) || decide (st = 4))

/-- A period counter of the armed plan: it shares its REP, kept once in `ctrRep`, with every other (12 R296). -/
def State.ctrPeriod (s : State) (id : Nat) : Bool := s.plan.ctrShared && !s.ctrRunning id

/-- A sync counter. -/
def State.ctr (s : State) (id : Nat) : Ctr :=
  if s.ctrAtHole id then Ctr.zero
  else
    let c := Tab.get Ctr.zero s.plan.ctrs id
    if s.ctrPeriod id then { c with rep := s.plan.ctrRep % 2 ^ 16 } else c

/-- A sync counter replaced. -/
def State.setCtr (s : State) (id : Nat) (c : Ctr) : State :=
  { s with plan.ctrs := Tab.set Ctr.zero s.plan.ctrs id (if s.ctrPeriod id then { c with rep := 0 } else c) }

/-- A late contribution that has not arrived when the period reset clears its shortfall: its signals are absorbed no more (12
R297), so it is never seen to arrive. -/
def State.lostAt (s : State) (y : Carry) : Bool := !y.copied && !s.ctrRunning y.wait && decide ((s.ctr y.wait).shortfall ≠ 0)

/-- The period reset (12 R296): every period counter takes VALUE 0, SHORTFALL 0, LATE 0 and REP `n`; LATE of a running one
is of its current repetition too (12 Table 12-7), so it is cleared. -/
def State.resetPeriod (s : State) (n : Nat) : State :=
  { s with
    plan.carries := (s.plan.carries.map (fun y => if s.lostAt y then { y with lost := true } else y)).filter
      (fun y => !(y.drop && y.lost))
    plan.ctrs := ((s.plan.ctrs.filter (fun e => s.ctrRunning e.1)).map (fun e => (e.1, { e.2 with late := false }))).filter
      (fun e => decide (e.2 ≠ Ctr.zero))
    plan.ctrRep := n }

/-- The counters keep their REP when the plan that gives their modes is unloaded. -/
def State.keepReps (s : State) : State :=
  if s.plan.ctrRep = 0 || !s.plan.ctrShared then { s with plan.ctrShared := false }
  else
    { s with
      plan.ctrRep := 0
      plan.ctrShared := false
      plan.ctrs := (List.range 32767).foldl (fun t id =>
        if s.ctrRunning id then t
        else Tab.upd Ctr.zero t id (fun c => { c with rep := s.plan.ctrRep % 2 ^ 16 })) s.plan.ctrs }

/-- Effective target of a wait or DEADLINE of repetition `n` (12 R296). -/
def State.effTarget (s : State) (id tgt n : Nat) : Nat :=
  if s.ctrRunning id then (tgt + n * s.ctrStride id) % 2 ^ 32 else tgt

/-- `v` has reached `t` in serial arithmetic (12 R298). -/
def reached (v t : Nat) : Bool := decide ((v + 2 ^ 32 - t % 2 ^ 32) % 2 ^ 32 < 2 ^ 31)

/-- A wait of a command of repetition `m` holds (12 R298). -/
def State.waitHolds (s : State) (id tgt m : Nat) : Bool :=
  if id = noCtr then true
  else
    let c := s.ctr id
    let t := s.effTarget id tgt m
    if s.ctrRunning id then reached c.value t
    else
      let d := (c.rep + 2 ^ 16 - m % 2 ^ 16) % 2 ^ 16
      if d = 0 then reached c.value t else decide (d < 2 ^ 15)

/-- A late contribution dropped: a gradient contribution in DROPPED_LATE, a trailer in DROPPED_TRAILERS (12 R310). -/
def State.dropLate (s : State) (trailer : Bool) : State :=
  if trailer then s.bump HealthCnt.droppedTrailers 1
  else { s.bump PlanCnt.droppedLate 1 with plan.droppedNow := s.plan.droppedNow + 1 }

/-- The signals of the late contributions that wait on counter `id` have covered its shortfall: they have arrived, and those that
LATE_POLICY 0 discards are dropped and counted (12 R310). -/
def State.discardLate (s : State) (id : Nat) : State :=
  let gone := fun (y : Carry) => y.drop && y.wait == id
  (s.plan.carries.filter gone).foldl (fun s y => s.dropLate y.trailer)
    { s with plan.carries := s.plan.carries.filter (fun y => !gone y) }

/-- A signal reaches a counter (12 R297, 11 R277): a stale one of a period counter changes nothing; a shortfall absorbs it,
and any remainder is added. `rep` is the sender's repetition; a signal of another module or of the link unit has none. -/
def State.applySignal (s : State) (id inc : Nat) (rep : Option Nat) : State :=
  if id = noCtr then s
  else
    let c := s.ctr id
    let stale := !s.ctrRunning id && (match rep with
      | some n => decide (c.rep ≠ n % 2 ^ 16)
      | none => false)
    if stale then s.bump PlanCnt.staleSignals 1
    else
      let a := Nat.min c.shortfall inc
      let s1 := s.setCtr id { c with value := (c.value + (inc - a)) % 2 ^ 32, shortfall := c.shortfall - a }
      if a = 0 then s1
      else if c.shortfall = a then (s1.bump TimeCnt.lateSignals 1).discardLate id
      else s1.bump TimeCnt.lateSignals 1

/-- A counter that still has signals to absorb (12 R295): a wait on it is short (15 R385). -/
def State.ctrShort (s : State) (id : Nat) : Bool := decide (id ≠ noCtr) && decide ((s.ctr id).shortfall ≠ 0)

/-! ## Beats of the plan -/

/-- The beat at which repetition `n` starts (12 R287, 19 R473). -/
def State.repStart (s : State) (n : Nat) : Nat :=
  s.plan.startBeat + (n - s.plan.startRep) * s.period + s.plan.shift

/-- The beat at which entry `e` of the repetition in progress fires (11 R275, 19 R473). -/
def State.entryBeat (s : State) (e : Entry) : Nat := s.repStart s.plan.repNow + e.offset

/-- From the hold beat on nothing of the plan fires or starts (19 R472), nor once a fault cause is latched (16 R404, 00 R8). -/
def State.planRuns (s : State) : Bool :=
  decide (s.dev.state = .running) && !s.flt.pendingEntry && (match s.plan.holdBeat with
    | none => true
    | some b => decide (s.time.beat < b))

/-- The next timetable entry, if its beat has come (11 R276): its index and itself. -/
def State.dueEntry (s : State) : Option (Nat × Entry) :=
  if s.planRuns && s.plan.started && decide (s.plan.next < s.ttCount) then
    let e := s.entry s.plan.next
    if s.entryBeat e ≤ s.time.beat then some (s.plan.next, e) else none
  else none

/-- The next entry is due and of KIND `k`. -/
def State.dueKind (s : State) (k : Nat) : Option (Nat × Entry) :=
  match s.dueEntry with
  | some (i, e) => if e.kind = k then some (i, e) else none
  | none => none

/-- The entry has fired: its signal is the last part of its action (11 R276), and the next entry follows. -/
def State.entryDone (s : State) (e : Entry) : State :=
  let s1 : State := { s with plan.next := s.plan.next + 1 }
  if e.sig then s1.applySignal e.ctr 1 (some s.plan.repNow) else s1

end Sys2Proof.Machine
end

