-- ==== Sys2Proof/Machine/CkptImage.lean ====
section
/-! DEFINITION. The port streams of a checkpoint or snapshot (17 R425, R426): their pieces, how a target list takes them, a
stream that is cut short (17 R430). -/

namespace Sys2Proof.Machine

/-- The pages of the given kinds, ascending. -/
def State.pagesOfKind (s : State) (ok : Nat → Bool) : List Nat :=
  sortBy (fun a b => decide (a ≤ b)) ((s.regions.filter (fun r => ok r.2.kind)).flatMap (fun r => r.2.pageList))

/-- The pages of a stream set that port `p` carries (17 R425). -/
def portPages (p : Nat) (l : List Nat) : List Nat := l.filter (fun g => decide (g % 8 / 4 = p))

/-- The image of a page: from its shadow if COPIED, else the live page (17 R424); whether a line of it is poisoned. -/
def State.pageImage (s : State) (g : Nat) : List Byte × Bool :=
  let e := s.pteOf g
  let a := (if e.copied then e.shadow else g) * 2 ^ 21
  (s.hbmBytes a (2 ^ 21), (s.badLines a (2 ^ 21)).any (fun l => l.2 == 2))

/-- Bytes of a port stream of `n` pages (17 Table 17-1). -/
def streamLength (n : Nat) : Nat := 0x200000 + n * 2 ^ 21 + 64 + 16 * n

/-- The trailer of a port stream (17 Table 17-1). -/
def streamTrailer (id : Nat) (images : List (List Byte × Bool)) : List Byte :=
  natLe 64 (fields [(0, 0x4E385452), (32, b2n (images.any (fun x => x.2))), (64, images.length), (96, mod64 id)])
    ++ images.flatMap (fun x => natLe 16 (fields [(0, crc64 x.1), (64, b2n x.2)]))

/-- The pieces of port `p`'s stream, with their offsets, in the order they are written (17 R428, Tables 17-1, 17-2). -/
def State.streamPieces (s : State) (p : Nat) (full : Bool) (pages : List Nat) : List (Nat × List Byte) :=
  let n := pages.length
  let images := pages.map s.pageImage
  let header := natLe 40 (fields [(0, 0x4E38434B), (32, 1), (48, p), (49, b2n full), (64, mod64 s.ck.lastEffective),
    (128, mod64 s.ck.step), (192, s.fab.modId % 2 ^ 12), (256, n)]) ++ s.plan.digest ++ natLe 8 (streamLength n)
  let index := pages.flatMap (fun g => natLe 4 (fields [(0, g), (18, s.kindOfPage g)]))
  [(0, fit 0 4096 header), (0x1000, fit 0 (roundUp (4 * n) 4096) index),
    (0x100000, if p = 0 then Tab.range 0 s.ck.device 0 524288 else List.replicate 524288 0)]
    ++ ((List.range n).zip images).map (fun x => (0x200000 + x.1 * 2 ^ 21, x.2.1))
    ++ [(0x200000 + n * 2 ^ 21, streamTrailer s.ck.lastEffective images)]

/-- The first `k` bytes of a list of pieces, in their order. -/
def cutPieces : Nat → List (Nat × List Byte) → List (Nat × List Byte)
  | _, [] => []
  | k, (o, d) :: l => if k = 0 then [] else (o, d.take k) :: cutPieces (k - d.length) l

/-- Bytes in a list of pieces. -/
def pieceBytes (l : List (Nat × List Byte)) : Nat := l.foldl (fun a x => a + x.2.length) 0

/-- A target list of port `p`: 0 checkpoints, 1 snapshots; an entry with LEN 0 ends it (17 R427). -/
def targetList (t : Tab Target) (p list : Nat) : List Target :=
  (Tab.range Target.none t (32 * p + 16 * list) 16).takeWhile (fun x => decide (x.len ≠ 0))

/-- Bytes that a list of targets holds. -/
def targetsLen (l : List Target) : Nat := l.foldl (fun a t => a + t.len) 0

/-- A piece at stream offset `o` spread over targets, the first of which begins at stream offset `c` (17 R425). -/
def spreadPiece (p o : Nat) (data : List Byte) : Nat → List Target → List OutEvent
  | _, [] => []
  | c, t :: l =>
    let lo := Nat.max o c
    let hi := Nat.min (o + data.length) (c + t.len)
    (if lo < hi then [.hostWrite p (t.addr + (lo - c)) ((data.drop (lo - o)).take (hi - lo))] else [])
      ++ spreadPiece p o data (c + t.len) l

/-- Pieces written to a target list as posted writes. -/
def State.shipPieces (s : State) (p : Nat) (ts : List Target) (l : List (Nat × List Byte)) : State :=
  { s with out := s.out ++ l.flatMap (fun x => spreadPiece p x.1 x.2 0 ts) }

/-- The closing reads: the last 4 bytes written in each target (17 R429); `last` is the stream's length. -/
def closingReads (p last : Nat) : Nat → List Target → List OutEvent
  | _, [] => []
  | c, t :: l =>
    (if c < last then [.hostRead p (t.addr + Nat.min t.len (last - c) - 4) 4] else []) ++ closingReads p last (c + t.len) l

/-- What reading the images of `pages` does to the state (17 R424, 13 R318): a line with an uncorrectable error is counted and
reported, its page counts as poisoned. -/
def State.noteImages (s : State) (pages : List Nat) : State :=
  pages.foldl (fun s g =>
    let e := s.pteOf g
    let a := (if e.copied then e.shadow else g) * 2 ^ 21
    let bad := (s.pageImage g).2
    let s1 := (s.badLines a (2 ^ 21)).foldl (fun s l => if l.2 = 2 then s.eccUe l.1 true else s.eccCe l.1) s
    if bad then { s1.bump CkptCnt.poisonedPages 1 with ck.poisoned := true } else s1) s

/-- The stream of port `p` as far as byte `k` of it has been written: a free number for a stream cut short (log 33). -/
def State.shipCut (s : State) (p : Nat) : State :=
  let pages := portPages p s.ck.streamSet
  let l := s.streamPieces p s.ck.fullCold pages
  let d := s.drawNat
  let k := d.1 % (pieceBytes l + 1)
  let read := ((cutPieces k l).length - 3)
  let s1 := (d.2.noteImages (pages.take read)).shipPieces p (targetList s.ck.openTargets p 0) (cutPieces k l)
  { s1 with ck.bytes := s1.ck.bytes + k }

/-- An open stream stops at once: what it had written stays written (17 R430). -/
def State.cutStream (s : State) : State :=
  if s.ck.state = 1 ∧ s.ck.started then
    let s1 := ({ s with ck.bytes := 0 } : State)
    { (s1.shipCut 0).shipCut 1 with ck.started := false }
  else { s with ck.started := false }

end Sys2Proof.Machine
end

