-- ==== Sys2Proof/Machine/Numbers.lean ====
section
/-! DEFINITION. Number formats, exact values, rounding and FP32 arithmetic (03_number_formats R44 to R67, 05 R114). -/

namespace Sys2Proof.Machine

/-- The element formats of Table 03-1. -/
inductive Elem
  | fp32 | bf16 | fp16 | e4m3 | e5m2 | e3m2 | e2m3 | e2m1 | int8 | int4
deriving DecidableEq, Repr

/-- The compositions of Table 03-3. -/
inductive Comp
  | plain | block | fine
deriving DecidableEq, Repr

/-- A tensor format: an element format in a composition. -/
structure Fmt where
  elem : Elem
  comp : Comp
deriving DecidableEq, Repr

/-- An exact value: NaN, an infinity, or (−1)^neg · num/den · 2^exp. -/
inductive Val
  | nan
  | inf (neg : Bool)
  | fin (neg : Bool) (num den : Nat) (exp : Int)
deriving DecidableEq, Repr

/-- Table 03-1's codes; 0xA to 0xF are reserved. -/
def elemOfCode (c : Nat) : Option Elem :=
  match c with
  | 0 => some .fp32 | 1 => some .bf16 | 2 => some .fp16 | 3 => some .e4m3 | 4 => some .e5m2
  | 5 => some .e3m2 | 6 => some .e2m3 | 7 => some .e2m1 | 8 => some .int8 | 9 => some .int4
  | _ => none

/-- Width of an element code in bits (Table 03-1). -/
def Elem.bits : Elem → Nat
  | .fp32 => 32 | .bf16 => 16 | .fp16 => 16 | .e4m3 => 8 | .e5m2 => 8
  | .e3m2 => 6 | .e2m3 => 6 | .e2m1 => 4 | .int8 => 8 | .int4 => 4

/-- Mantissa width of a floating-point element (Table 03-1). -/
def Elem.man : Elem → Nat
  | .fp32 => 23 | .bf16 => 7 | .fp16 => 10 | .e4m3 => 3 | .e5m2 => 2
  | .e3m2 => 2 | .e2m3 => 3 | .e2m1 => 1 | .int8 => 0 | .int4 => 0

/-- Exponent bias (Table 03-1). -/
def Elem.bias : Elem → Int
  | .fp32 => 127 | .bf16 => 127 | .fp16 => 15 | .e4m3 => 7 | .e5m2 => 15
  | .e3m2 => 3 | .e2m3 => 1 | .e2m1 => 1 | .int8 => 0 | .int4 => 0

/-- Magnitude code of the largest finite value (Table 03-1). -/
def Elem.maxMag : Elem → Nat
  | .fp32 => 0x7F7FFFFF | .bf16 => 0x7F7F | .fp16 => 0x7BFF | .e4m3 => 0x7E | .e5m2 => 0x7B
  | .e3m2 => 0x1F | .e2m3 => 0x1F | .e2m1 => 0x7 | .int8 => 127 | .int4 => 7

/-- Canonical NaN (Table 03-1); formats without a NaN answer 0. -/
def Elem.nan : Elem → Nat
  | .fp32 => 0x7FC00000 | .bf16 => 0x7FC0 | .fp16 => 0x7E00 | .e4m3 => 0x7F | .e5m2 => 0x7E
  | _ => 0

/-- The format has infinities (Table 03-1). -/
def Elem.hasInf : Elem → Bool
  | .fp32 => true | .bf16 => true | .fp16 => true | .e5m2 => true | _ => false

/-- The format is an integer one. -/
def Elem.isInt : Elem → Bool
  | .int8 => true | .int4 => true | _ => false

/-- The legal compositions of Table 03-4 (R49). -/
def legalFmt (e : Elem) (c : Comp) : Bool :=
  match c, e with
  | .plain, .fp32 => true | .plain, .bf16 => true | .plain, .fp16 => true
  | .plain, .e4m3 => true | .plain, .e5m2 => true | .plain, .int8 => true | .plain, .int4 => true
  | .plain, _ => false
  | .block, .fp32 => false | .block, .bf16 => false | .block, .fp16 => false
  | .block, _ => true
  | .fine, .e2m1 => true
  | .fine, _ => false

/-- The format a format byte names (Table 03-3, R49); none for a reserved code, a set reserved bit or an illegal
combination. -/
def fmtOfByte (b : Nat) : Option Fmt :=
  if bits b 6 2 ≠ 0 then none
  else
    match elemOfCode (bits b 0 4), bits b 4 2 with
    | some e, 0 => if legalFmt e .plain then some { elem := e, comp := .plain } else none
    | some e, 1 => if legalFmt e .block then some { elem := e, comp := .block } else none
    | some e, 2 => if legalFmt e .fine then some { elem := e, comp := .fine } else none
    | _, _ => none

/-- Plain FP32, the format byte 0x00. -/
def fmtF32 : Fmt := { elem := .fp32, comp := .plain }

/-- c_f of Table 03-4. -/
def Elem.cf : Elem → Int
  | .e4m3 => 8 | .e5m2 => 15 | .e3m2 => 4 | .e2m3 => 2 | .e2m1 => 2 | .int8 => 1 | .int4 => 1 | _ => 0

/-- emax_f of Table 03-4. -/
def Elem.emaxF : Elem → Int
  | .e4m3 => 8 | .e5m2 => 15 | .e3m2 => 4 | .e2m3 => 2 | .e2m1 => 2 | _ => 0

/-- Elements of a scale block: 32, 16 for fine-scaled, 1 for plain. -/
def Comp.blockLen : Comp → Nat
  | .plain => 1 | .block => 32 | .fine => 16

/-- Bytes of the value array of one tile (Table 03-5). -/
def Elem.tileBytes (e : Elem) : Nat := 16384 * e.bits / 8

/-- Bytes of the tag or scale slice of one tile (Table 03-5). -/
def Comp.sliceBytes : Comp → Nat
  | .plain => 16 | .block => 512 | .fine => 1024

/-- Exact value of an element code (R44), an INT element taken as its integer. -/
def decodeElem (e : Elem) (code : Nat) : Val :=
  if e.isInt then
    let i := signed e.bits (code % 2 ^ e.bits)
    .fin (decide (i < 0)) i.natAbs 1 0
  else
    let s := bit code (e.bits - 1)
    let m := e.man
    let mag := code % 2 ^ (e.bits - 1)
    let ex := mag >>> m
    let f := mag % 2 ^ m
    if e.hasInf && decide (ex = 2 ^ (e.bits - 1 - m) - 1) then (if f = 0 then .inf s else .nan)
    else if decide (e = .e4m3) && decide (mag = 0x7F) then .nan
    else if ex = 0 then .fin s f 1 (1 - e.bias - m)
    else .fin s (f + 2 ^ m) 1 ((ex : Int) - e.bias - m)

/-- Exact value of an element in its composition, before its scale (R50): block-scaled INT8 is i/64, INT4 is i/4. -/
def elemVal (f : Fmt) (code : Nat) : Val :=
  match f.comp, f.elem, decodeElem f.elem code with
  | .block, .int8, .fin s n d x => .fin s n d (x - 6)
  | .block, .int4, .fin s n d x => .fin s n d (x - 2)
  | _, _, v => v

/-- Exact value of a UE8M0 scale (R47). -/
def scale8 (s : Nat) : Val := if s = 0xFF then .nan else .fin false 1 1 ((s : Int) - 127)

/-- Exact value of a UE4M3 scale (R47). -/
def scale43 (s : Nat) : Val := if s ≥ 0x7F then .nan else decodeElem .e4m3 s

/-- Exact value of the scale byte of a composition; 1 for plain. -/
def scaleVal (c : Comp) (s : Nat) : Val :=
  match c with
  | .plain => .fin false 1 1 0
  | .block => scale8 s
  | .fine => scale43 s

/-- Exact product; zero times infinity is NaN (R71). -/
def mulVal : Val → Val → Val
  | .nan, _ => .nan
  | _, .nan => .nan
  | .inf a, .inf b => .inf (a != b)
  | .inf a, .fin b n _ _ => if n = 0 then .nan else .inf (a != b)
  | .fin a n _ _, .inf b => if n = 0 then .nan else .inf (a != b)
  | .fin a n d x, .fin b m c y => .fin (a != b) (n * m) (d * c) (x + y)

/-- ⌊log₂(n/d)⌋ of positive n and d. -/
def log2Q (n d : Nat) : Int :=
  let l : Int := (n.log2 : Int) - (d.log2 : Int)
  let ok := if 0 ≤ l then decide (d <<< l.toNat ≤ n) else decide (d ≤ n <<< (-l).toNat)
  if ok then l else l - 1

/-- ⌊log₂|x|⌋ of a non-zero finite value; none otherwise. -/
def Val.log2 : Val → Option Int
  | .fin _ n d x => if n = 0 then none else some (log2Q n d + x)
  | _ => none

/-- The value is NaN. -/
def Val.isNan : Val → Bool
  | .nan => true | _ => false

/-- The value is an infinity. -/
def Val.isInf : Val → Bool
  | .inf _ => true | _ => false

/-- The value is a zero of either sign. -/
def Val.isZero : Val → Bool
  | .fin _ n _ _ => n == 0 | _ => false

/-- The sign of a value (true for negative). -/
def Val.neg : Val → Bool
  | .nan => false | .inf s => s | .fin s _ _ _ => s

/-- Rounding modes of Table 03-6. -/
inductive RMode
  | rne | rtz | sr
deriving DecidableEq, Repr

/-- The mode of a rounding control's RMODE field; 3 is reserved and fails the load-time checks (R60). -/
def rmodeOf (c : Nat) : RMode :=
  match bits c 0 2 with
  | 1 => .rtz | 2 => .sr | _ => .rne

/-- The chosen neighbour of lo + r/d in units of the quantum (R61, R63): `u` is the 24-bit draw. -/
def pickRound (m : RMode) (u lo r d : Nat) : Nat :=
  match m with
  | .rne => if 2 * r > d then lo + 1 else if 2 * r < d then lo else if lo % 2 = 0 then lo else lo + 1
  | .rtz => lo
  | .sr => if u < r * 2 ^ 24 / d then lo + 1 else lo

/-- n/d · 2^e as a multiple of 2^k, rounded. -/
def roundAt (m : RMode) (u n d : Nat) (e k : Int) : Nat :=
  let sh := e - k
  let num := if 0 ≤ sh then n <<< sh.toNat else n
  let den := if 0 ≤ sh then d else d <<< (-sh).toNat
  pickRound m u (num / den) (num % den) den

/-- Exponent of the smallest normal value of a floating-point format. -/
def Elem.emin (e : Elem) : Int := 1 - e.bias

/-- Magnitude code of n/d · 2^x rounded into a floating-point format with unlimited exponent range above (R61). -/
def roundMag (el : Elem) (m : RMode) (u n d : Nat) (x : Int) : Nat :=
  if n = 0 then 0
  else
    let k := max (log2Q n d + x) el.emin - el.man
    let q := roundAt m u n d x k
    (k - (el.emin - el.man)).toNat * 2 ^ el.man + q

/-- A code with its sign bit. -/
def withSign (el : Elem) (neg : Bool) (mag : Nat) : Nat := mag + b2n neg * 2 ^ (el.bits - 1)

/-- Conversion of an exact value to a plain element (R60 to R63, Table 03-7): the code, and whether it counts as saturated
under 05 R127 (a finite result that overflowed, or an infinite one made finite). -/
def convPlain (el : Elem) (m : RMode) (sat : Bool) (u : Nat) (v : Val) : Nat × Bool :=
  if el.isInt then
    let lim := 2 ^ (el.bits - 1)
    match v with
    | .nan => (0, false)
    | .inf s => (if s then lim else lim - 1, true)
    | .fin s n d x =>
      let q := roundAt m u n d x 0
      if s then
        if q > lim then (lim, true) else ((2 ^ el.bits - q) % 2 ^ el.bits, false)
      else if q > lim - 1 then (lim - 1, true) else (q, false)
  else
    let infCode := if el.hasInf then el.maxMag + 1 else el.nan
    match v with
    | .nan => (el.nan, false)
    | .inf s =>
      if sat then (withSign el s el.maxMag, true)
      else if el.hasInf then (withSign el s infCode, false) else (el.nan, false)
    | .fin s n d x =>
      let mag := roundMag el m u n d x
      if mag > el.maxMag then
        if sat || decide (m = .rtz) then (withSign el s el.maxMag, true)
        else if el.hasInf then (withSign el s infCode, true) else (el.nan, true)
      else (withSign el s mag, false)

/-- The FP32 code of an exact value, RNE, overflow to infinity, subnormals kept (R59, R72, 05 R114). -/
def toF32 (v : Val) : Word := BitVec.ofNat 32 (convPlain .fp32 .rne false 0 v).1

/-- The exact value of an FP32 code. -/
def ofF32 (w : Word) : Val := decodeElem .fp32 w.toNat

/-- The canonical FP32 NaN (R45). -/
def nan32 : Word := 0x7FC00000

/-- FP32 +∞. -/
def pinf32 : Word := 0x7F800000

/-- FP32 −∞. -/
def ninf32 : Word := 0xFF800000

/-- FP32 one. -/
def one32 : Word := 0x3F800000

/-- The code is a NaN. -/
def isNan32 (w : Word) : Bool := (ofF32 w).isNan

/-- The code is an infinity. -/
def isInf32 (w : Word) : Bool := (ofF32 w).isInf

/-- The code is ±0. -/
def isZero32 (w : Word) : Bool := w.toNat % 2 ^ 31 == 0

/-- An exact finite sum; a zero sum of unlike signs is +0 (R73). -/
def addFin (a : Bool) (n : Nat) (x : Int) (b : Bool) (m : Nat) (y : Int) : Val :=
  let e := min x y
  let p : Int := (n <<< (x - e).toNat : Nat)
  let q : Int := (m <<< (y - e).toNat : Nat)
  let t := (if a then -p else p) + (if b then -q else q)
  if t = 0 then .fin (if n = 0 && m = 0 then a && b else false) 0 1 0
  else .fin (decide (t < 0)) t.natAbs 1 e

/-- Exact sum of two values whose denominators are 1 (R73's special cases). -/
def addVal : Val → Val → Val
  | .nan, _ => .nan
  | _, .nan => .nan
  | .inf a, .inf b => if a = b then .inf a else .nan
  | .inf a, .fin .. => .inf a
  | .fin .., .inf b => .inf b
  | .fin a n _ x, .fin b m _ y => addFin a n x b m y

/-- FP32 addition (05 R114, 03 R73). -/
def fadd (a b : Word) : Word := toF32 (addVal (ofF32 a) (ofF32 b))

/-- The sign of an FP32 code flipped; a NaN becomes the canonical one. -/
def fneg (a : Word) : Word := if isNan32 a then nan32 else a ^^^ 0x80000000

/-- FP32 subtraction. -/
def fsub (a b : Word) : Word := fadd a (fneg b)

/-- FP32 multiplication. -/
def fmul (a b : Word) : Word := toF32 (mulVal (ofF32 a) (ofF32 b))

/-- a·b + c rounded once (05 R114). -/
def ffma (a b c : Word) : Word := toF32 (addVal (mulVal (ofF32 a) (ofF32 b)) (ofF32 c))

/-- Exact quotient of two values. -/
def divVal : Val → Val → Val
  | .nan, _ => .nan
  | _, .nan => .nan
  | .inf _, .inf _ => .nan
  | .inf a, .fin b _ _ _ => .inf (a != b)
  | .fin a _ _ _, .inf b => .fin (a != b) 0 1 0
  | .fin a n d x, .fin b m c y =>
    if m = 0 then (if n = 0 then .nan else .inf (a != b)) else .fin (a != b) (n * c) (d * m) (x - y)

/-- FP32 division (06 R147, 08 R184). -/
def fdiv (a b : Word) : Word := toF32 (divVal (ofF32 a) (ofF32 b))

/-- ⌊√n⌋ by deciding the bits of the root from bit `k` − 1 down. -/
def rootBits (n : Nat) : Nat → Nat → Nat
  | 0, r => r
  | k + 1, r => if (r + 2 ^ k) * (r + 2 ^ k) ≤ n then rootBits n k (r + 2 ^ k) else rootBits n k r

/-- FP32 square root (08 R184): the root to 40 bits beyond the rounding point and a bit for what is left over, which
rounds as the exact root does. -/
def fsqrt (a : Word) : Word :=
  match ofF32 a with
  | .nan => nan32
  | .inf s => if s then nan32 else pinf32
  | .fin s n d x =>
    if n = 0 then a
    else if s then nan32
    else
      let odd := x % 2 ≠ 0
      let n2 := (if odd then 2 * n else n) <<< 80
      let x2 := (if odd then x - 1 else x) - 80
      let r := rootBits n2 64 0
      let t := 2 * r + (if r * r = n2 then 0 else 1)
      toF32 (.fin false t d (x2 / 2 - 1))

/-- A number that orders FP32 codes as their values, with +0 equal to −0; NaNs are excluded by the callers. -/
def key32 (w : Word) : Int :=
  let m : Int := (w.toNat % 2 ^ 31 : Nat)
  if bit w.toNat 31 then -m else m

/-- x < y of two FP32 values; false with a NaN. -/
def flt (a b : Word) : Bool := !isNan32 a && !isNan32 b && decide (key32 a < key32 b)

/-- x ≤ y of two FP32 values; false with a NaN. -/
def fle (a b : Word) : Bool := !isNan32 a && !isNan32 b && decide (key32 a ≤ key32 b)

/-- MAX of Table 05-2: +0 over −0, NaN if either is NaN. -/
def fmax (a b : Word) : Word :=
  if isNan32 a || isNan32 b then nan32
  else if key32 a < key32 b then b
  else if key32 b < key32 a then a
  else a &&& b

/-- MIN of Table 05-2: −0 over +0, NaN if either is NaN. -/
def fmin (a b : Word) : Word :=
  if isNan32 a || isNan32 b then nan32
  else if key32 a < key32 b then a
  else if key32 b < key32 a then b
  else a ||| b

/-- An integer as FP32, RNE. -/
def natToF32 (n : Nat) : Word := toF32 (.fin false n 1 0)

/-- The largest magnitude of the finite values of a list, as ⌊log₂⌋; none when all are zero. -/
def maxLog2 (l : List Val) : Option Int :=
  l.foldl (fun acc v =>
    match acc, v.log2 with
    | none, x => x
    | some a, none => some a
    | some a, some b => some (max a b)) none

/-- The tag byte of a square that holds the values `l` inside its logical shape (R55). -/
def tagByte (l : List Val) : Nat :=
  match maxLog2 l with
  | none => 0
  | some e => (max e (-127) + 127).toNat

/-- |a| ≤ |b| of two finite values. -/
def magLe : Val → Val → Bool
  | .fin _ n d x, .fin _ m c y =>
    let e := min x y
    decide ((n <<< (x - e).toNat) * c ≤ (m <<< (y - e).toNat) * d)
  | _, _ => true

/-- The finite value of largest magnitude of a list. -/
def maxMagVal (l : List Val) : Val :=
  l.foldl (fun a v => if magLe a v then v else a) (.fin false 0 1 0)

/-- A scaled INT or FP element from its exact value in element units (R61, Table 03-7: always saturating). -/
def convScaledElem (f : Fmt) (m : RMode) (u : Nat) (v : Val) : Nat × Bool :=
  match v with
  | .fin s n d x =>
    if f.elem.isInt then convPlain f.elem m true u (.fin s n d (x + (if f.elem = .int8 then 6 else 2)))
    else convPlain f.elem m true u (.fin s n d x)
  | _ => (0, false)

/-- Conversion of one block of exact values to a scaled format (R65 to R67): the scale byte, the codes and, per element,
whether it saturated. `u i` is the draw of element `i` of the block. -/
def convBlock (f : Fmt) (m : RMode) (u : Nat → Nat) (vs : List Val) : Nat × List (Nat × Bool) :=
  let bad := vs.any (fun v => v.isNan || v.isInf)
  let idx := List.range vs.length
  match f.comp with
  | .plain => (0, (idx.zip vs).map (fun p => convPlain f.elem m true (u p.1) p.2))
  | .block =>
    if bad then (0xFF, vs.map (fun _ => (0, false)))
    else
      match maxLog2 vs with
      | none => (0, (idx.zip vs).map (fun p => convScaledElem f m (u p.1) p.2))
      | some l =>
        let x := max (-127) (min 127 (l - f.elem.emaxF))
        ((x + 127).toNat, (idx.zip vs).map (fun p => convScaledElem f m (u p.1) (mulVal p.2 (.fin false 1 1 (-x)))))
  | .fine =>
    if bad then (0x7F, vs.map (fun _ => (0, false)))
    else
      match maxMagVal vs with
      | .fin _ n d x =>
        if n = 0 then (0, vs.map (fun v => (withSign f.elem v.neg 0, false)))
        else
          let s0 := min (roundMag .e4m3 .rne 0 n (d * 6) x) 0x7E
          let s := if s0 = 0 then 1 else s0
          (s, (idx.zip vs).map (fun p => convScaledElem f m (u p.1) (divVal p.2 (scale43 s))))
      | _ => (0, [])

/-- An FP32 code as FP32; a NaN yields the canonical NaN (03 R45). -/
def canon32 (w : Word) : Word := if isNan32 w then nan32 else w

/-- The generator of 07 R166: a 64-bit key and a 128-bit counter to 128 bits. -/
def gen (k : BitVec 64) (c : BitVec 128) : BitVec 128 :=
  let go := fun (st : BitVec 64 × BitVec 64 × BitVec 64) (_ : Nat) =>
    let x0 := (st.1 ^^^ st.2.2) * 0xA3B195C74D2E6F0B#64
    let x1 := (st.2.1 + x0.rotateLeft 23) * 0xC6E51F389B47D2A5#64
    (x0 ^^^ x1.rotateLeft 41, x1, st.2.2 + 0x7F4D0B36E91C5A83#64)
  let r := (List.range 4).foldl go (c.extractLsb' 0 64, c.extractLsb' 64 64, k)
  (r.2.1 ++ r.1 : BitVec (64 + 64))

/-- The counter of Table 07-2. -/
def genCounter (index mbatch layer step seed : Nat) : BitVec 128 :=
  BitVec.ofNat 128 (fields [(0, index % 2 ^ 32), (32, mbatch % 2 ^ 16), (48, layer % 2 ^ 16), (64, step % 2 ^ 40),
    (104, seed % 2 ^ 24)])

/-- The 24-bit draw of element `e` (07 R167). -/
def draw24 (key : Nat) (e mbatch layer step seed : Nat) : Nat :=
  bits (gen (BitVec.ofNat 64 key) (genCounter (e / 5) mbatch layer step seed)).toNat (24 * (e % 5)) 24

end Sys2Proof.Machine
end

