-- ==== Sys2Proof/Machine/Flags.lean ====
section
/-! DEFINITION. What a drain counts and flags: non-finite and saturated results (05 R127, R143, R144), the health bit, and
the statistics tap (05 R128). -/

namespace Sys2Proof.Machine

/-- What a drain counts of a command's results. -/
structure DrainCounts where
  nan : Nat
  inf : Nat
  sat : Nat
deriving DecidableEq, Repr

/-- The NaN and infinite results of a list, and the saturated ones given (05 R127). -/
def drainCounts (ws : List Word) (sat : Nat) : DrainCounts :=
  { nan := (ws.filter isNan32).length, inf := (ws.filter isInf32).length, sat := sat }

/-- Two commands' or two outputs' counts together. -/
def DrainCounts.join (a b : DrainCounts) : DrainCounts := { nan := a.nan + b.nan, inf := a.inf + b.inf, sat := a.sat + b.sat }

/-- No result counted. -/
def DrainCounts.zero : DrainCounts := { nan := 0, inf := 0, sat := 0 }

/-- A result was NaN or infinite. -/
def DrainCounts.nonfin (c : DrainCounts) : Bool := decide (0 < c.nan + c.inf)

/-- NONFIN, SAT and the three counts of a Goat status record, at the bits that 05 Table 05-9, 06 and 08 share. -/
def DrainCounts.status (c : DrainCounts) : Nat :=
  fields [(5, b2n c.nonfin), (6, b2n (decide (0 < c.sat))), (64, sat16 c.nan), (80, sat16 c.inf), (96, sat16 c.sat)]

/-- The counts a command of Goat `g` adds to GOAT_CNT (05 R144). -/
def DrainCounts.bumps (c : DrainCounts) (g : Nat) : List Bump :=
  [(GoatCnt.nanOut g, c.nan), (GoatCnt.infOut g, c.inf), (GoatCnt.saturated g, c.sat)]

/-- The key of NONFIN of GOAT_HEALTH where a HEALTH = 1 command of Goat `g` has a non-finite result (05 R127). -/
def DrainCounts.marks (c : DrainCounts) (g : Nat) (health : Bool) : Option Nat :=
  if health && c.nonfin then some (GoatHealth.nonfin g) else none

/-! ## Tap records: AMAX, FINITE, ZEROS, NONFIN, BIN_0 to BIN_11 (05 Table 05-3) -/

/-- The empty record. -/
def tapEmpty : List Nat := List.replicate 16 0

/-- The tap record in 64 bytes at a key. -/
def State.tapAt (s : State) (key : Nat) : List Nat := (List.range 16).map (fun i => s.natAt (key + 4 * i) 4)

/-- The 64 bytes of a tap record. -/
def tapBytes (t : List Nat) : List Byte := t.flatMap (natLe 4)

/-- One field of a record raised. -/
def tapBump (t : List Nat) (i : Nat) : List Nat := t.set i (sat32 (t.getD i 0 + 1))

/-- The bin of e = ⌊log₂|x|⌋ (05 Table 05-3). -/
def tapBin (e : Int) : Nat := if e < -20 then 0 else if 20 ≤ e then 11 else ((e + 24) / 4).toNat

/-- One result folded in (05 R128). -/
def tapFold (t : List Nat) (w : Word) : List Nat :=
  match ofF32 w with
  | .fin s n d x =>
    let t1 := tapBump (t.set 0 (Nat.max (t.getD 0 0) (w.toNat % 2 ^ 31))) 1
    match (Val.fin s n d x).log2 with
    | none => tapBump t1 2
    | some e => tapBump t1 (4 + tapBin e)
  | _ => tapBump t 3

/-- Two records combined: AMAX by maximum, every other field by saturating addition (05 R128, 07 R172). -/
def tapJoin (a b : List Nat) : List Nat :=
  (List.range 16).map (fun i =>
    if i = 0 then Nat.max (a.getD 0 0) (b.getD 0 0) else sat32 (a.getD i 0 + b.getD i 0))

/-- The record of a command's results alone. -/
def tapOf (ws : List Word) : List Nat := ws.foldl tapFold tapEmpty

/-- The record at a key takes in a command's record; with `clr` it starts empty (05 R128). -/
def State.joinTap (s : State) (key : Nat) (clr : Bool) (t : List Nat) : State :=
  s.poke key (tapBytes (tapJoin (if clr then tapEmpty else s.tapAt key) t))

end Sys2Proof.Machine
end

