-- ==== Sys2Proof/Machine/Links.lean ====
section
/-! DEFINITION. Links (15 R364 to R376): places on the torus and fabric addresses, flits and their headers, lane buffers and
credits, the egress choice of a port, what the module hands to a port. A link is numbered by its port; 8 + k numbers the second ×8
link of a split spare port k (R365). -/

namespace Sys2Proof.Machine

/-! ## Places (15 R374) -/

/-- Coordinate `d` (0 X, 1 Y, 2 Z) of a module ID (15 R374). -/
def coord (id d : Nat) : Nat := id / 16 ^ d % 16

/-- A module ID with coordinate `d` replaced. -/
def setCoord (id d v : Nat) : Nat := id - coord id d * 16 ^ d + v * 16 ^ d

/-- Fold of a module ID (15 R374). -/
def foldOf (id : Nat) : Nat := coord id 0 / 8 + 2 * coord id 1 + 32 * coord id 2

/-- Module ID of member `k` of fold `f`. -/
def memberId (f k : Nat) : Nat := f % 2 * 8 + k + 16 * (f / 2 % 16) + 256 * (f / 32)

/-- Ring size of dimension `d` (15 Table 15-4). -/
def State.ringOf (s : State) (d : Nat) : Nat :=
  match d with
  | 0 => s.fab.sx
  | 1 => s.fab.sy
  | _ => s.fab.sz

/-- The identity that the module holds: its own ID, or the one a spare has taken; 0xFFF for none. -/
def State.ownId (s : State) : Nat := if s.fab.role = 0 then s.fab.modId else s.fab.identity

/-- A module at distance `d` in the + direction of a ring of size `n` is reached by the + direction (11 R266, 15 R378). -/
def byPlus (n d : Nat) : Bool := decide (2 * d ≤ n)

/-- The neighbour of `id` in dimension `d`. -/
def State.neighbour (s : State) (id d : Nat) (plus : Bool) : Nat :=
  let n := Nat.max 1 (s.ringOf d)
  setCoord id d ((coord id d + (if plus then 1 else n - 1)) % n)

/-- The module's 13-bit fabric address (15 R374, R396). -/
def State.fabricAddr (s : State) : Nat :=
  if s.fab.role = 0 then s.fab.modId
  else if s.fab.identity = 0xFFF then 0x1000 + s.fab.fold else s.fab.identity

/-- A spare that holds no identity (15 R393). -/
def State.bareSpare (s : State) : Bool := decide (s.fab.role ≠ 0) && decide (s.fab.identity = 0xFFF)

/-- The entries in force of the remap table (15 R394). -/
def State.remaps (s : State) : List RemapEntry := (s.fab.remap.map (fun e => e.2)).filter (fun e => e.valid)

/-- The entry in force of identity `id`. -/
def State.remapOf (s : State) (id : Nat) : Option RemapEntry := s.remaps.find? (fun e => e.ident == id)

/-- A dead identity's position is a hole (15 R379). -/
def State.isHole (s : State) (id : Nat) : Bool := s.remaps.any (fun e => e.ident == id && e.dead)

/-- The fabric address of fold `f`'s spare: the identity it holds, if it holds one (15 R374). -/
def State.spareAddr (s : State) (f : Nat) : Nat :=
  ((s.remaps.find? (fun e => e.spareFold == f)).map (fun e => e.ident)).getD (0x1000 + f)

/-- The module next in a port's direction: the ring neighbour, the X pair of L7 mode 1, the spare of the fold, or in mode 2 of
fold f XOR 1, that L6 or L7 leads to (15 R364, R365). -/
def State.peerIn (s : State) (port : Nat) : Nat :=
  if port < 6 then s.neighbour s.ownId (port / 2) (decide (port % 2 = 0))
  else if port = 7 && decide (s.fab.l7Mode = 1) then s.ownId ^^^ 1
  else if port = 7 then s.spareAddr (foldOf s.ownId ^^^ 1)
  else s.spareAddr (foldOf s.ownId)

/-- The fabric address at the other end of a link, by the wiring of 15 R364 and R365. -/
def State.linkDst (s : State) (l : Nat) : Nat :=
  if s.fab.role = 0 then s.peerIn l
  else if l < 8 then memberId s.fab.fold l else memberId (s.fab.fold ^^^ 1) (l % 8)

/-- The port opposite `p` in its dimension (15 R384). -/
def oppositePort (p : Nat) : Nat := p ^^^ 1

/-! ## Ports -/

/-- A link of the module (15 Table 15-11). -/
def State.port (s : State) (p : Nat) : Port := Tab.get Port.down s.fab.ports p

/-- A link replaced. -/
def State.setPort (s : State) (p : Nat) (q : Port) : State := { s with fab.ports := Tab.set Port.down s.fab.ports p q }

/-- A link that carries traffic: UP (15 Table 15-11). -/
def State.portUp (s : State) (p : Nat) : Bool := decide ((s.port p).state = 2)

/-- A link carries a lane: it is UP, or MISWIRED and then lane 7 only (15 R376). -/
def Port.carries (q : Port) (lane : Nat) : Bool := decide (q.state = 2) || (decide (q.state = 5) && decide (lane = 7))

/-- The same, of a link of the module. -/
def State.carries (s : State) (p lane : Nat) : Bool := (s.port p).carries lane

/-- Links over which lane 7 leaves (15 R376). -/
def State.lane7Ports (s : State) : List Nat := (List.range 16).filter (fun p => s.carries p 7)

/-! ## Flits (15 R367) -/

/-- The 16-byte message header. -/
def msgHeader (m : LinkMsg) : List Byte :=
  natLe 16 (fields [(0, m.src), (16, m.sigId), (31, m.sigInc), (40, fields [(0, m.addr), (48, m.num), (56, m.space)]),
    (104, m.data.length)])

/-- The header of a flit as a number (15 Table 15-2). -/
def flitHeader (f : Flit) : Nat :=
  fields [(0, f.crc), (32, f.lane), (35, f.dclass), (37, f.kind), (41, f.dst), (54, b2n f.first), (55, b2n f.last),
    (56, f.fill)]

/-- The CRC that a flit must carry: CRC-32C over its 256 bytes with the CRC field 0. -/
def flitCrc (f : Flit) : Nat := crc32c (natLe 8 (flitHeader { f with crc := 0 }) ++ f.payload)

/-- A flit with its CRC. -/
def sealFlit (f : Flit) : Flit := { f with crc := flitCrc f }

/-- The flits of a message in class `cls`: the header and the bytes cut into payloads of 248. -/
def flitsOf (m : LinkMsg) (cls : Nat) : List Flit :=
  let body := msgHeader m ++ m.data
  let ps := pieces 248 body.length body
  ((List.range ps.length).zip ps).map (fun p =>
    sealFlit { crc := 0, lane := m.lane, dclass := cls, kind := m.kind, dst := m.dst, first := p.1 == 0,
                last := p.1 + 1 == ps.length, fill := p.2.length - 1, payload := fit 0 248 p.2 })

/-- A message of one flit whose payload is laid out whole by its own table, the rest 0: a time message, a gear notice, lane-7
management (11 R267, 16 R564, 20 R492). -/
def cardFlit (lane kind dst : Nat) (payload : List Byte) : Flit :=
  sealFlit { crc := 0, lane := lane, dclass := 0, kind := kind, dst := dst, first := true, last := true, fill := 247,
             payload := fit 0 248 payload }

/-! ## Lane buffers, credits, the egress choice (15 R368 to R372) -/

/-- Place of a lane's class in the lists of `used` and `freed`. -/
def creditIx (lane cls : Nat) : Nat := 3 * lane + cls

/-- Flits of a receiving port's lane buffer (15 Table 15-3). -/
def laneBuffer (lane : Nat) : Nat := if lane = 0 then 1024 else if lane = 5 || lane = 7 then 32 else 256

/-- An entry of a list of 24 counts changed. -/
def bump24 (l : List Nat) (i : Nat) (f : Nat → Nat) : List Nat := (fit 0 24 l).set i (f (l.getD i 0))

/-- The port holds a credit for a lane and class: eight flits are reserved to the class, the rest of the buffer is shared (15
R371, R372). -/
def Port.credit (q : Port) (lane cls : Nat) : Bool :=
  let u := fun c => q.used.getD (creditIx lane c) 0
  decide (u cls < 8) || decide ((u 0 - 8) + (u 1 - 8) + (u 2 - 8) < laneBuffer lane - 24)

/-- The next slot may hold a data flit: fewer than 1,024 wait for their acknowledgement (15 R369), and no control flit is due, as
one is after every 40 flits (R368). -/
def Port.slot (q : Port) : Bool := decide (q.unacked.length < 1024) && decide (q.sinceControl < 40)

/-- The oldest flit waiting on a lane whose class holds a credit, if the link carries the lane (15 R372). -/
def Port.head (q : Port) (lane : Nat) : Option Flit :=
  if q.carries lane then q.waiting.find? (fun f => f.lane == lane && q.credit lane f.dclass) else none

/-- The lanes of the weighted round robin (15 R372). -/
def robin : List Nat := [0, 1, 2, 3, 4, 6]

/-- The next flit of a port and whose turn it is after it (15 R372): lane 5 first, then lane 7, then the others in weighted round
robin, a lane of weight w sending up to w flits in its turn. -/
def Port.choose (q : Port) (weight : Nat → Nat) : Option (Flit × (Nat × Nat)) :=
  match q.head 5 with
  | some f => some (f, q.turn)
  | none =>
    match q.head 7 with
    | some f => some (f, q.turn)
    | none =>
      (List.range 7).findSome? (fun k =>
        let i := (q.turn.1 + k) % 6
        let n := if k = 0 then q.turn.2 else 0
        let lane := robin.getD i 0
        if n < weight lane then (q.head lane).map (fun f => (f, (i, n + 1))) else none)

/-- The weight of a lane at a port: nibble `lane` of the port's row of the link weight table in force (12 R285, 15 R372); 1 while
none is loaded. -/
def State.linkWeight (s : State) (p lane : Nat) : Nat :=
  (Tab.get 0x11 s.unit.weights (1024 + 4 * (p % 8) + lane / 2)).toNat / 16 ^ (lane % 2) % 16

/-- One data flit leaves a port: it takes a credit, waits in the replay buffer for its acknowledgement, and is counted
(15 R369, R372, Table 15-12). -/
def State.sendFlit (s : State) (port : Nat) (f : Flit) : State :=
  let q := s.port port
  let i := creditIx f.lane f.dclass
  ((s.setPort port { q with
      unacked := q.unacked ++ [f], txCount := (q.txCount + 1) % 2 ^ 16, sinceControl := q.sinceControl + 1,
      used := bump24 q.used i (fun v => v + 1) }).bump (LinkCnt.flitsTx (port % 8)) 1).emit (.flit port f)

/-- Up to so many waiting flits leave a port in the order of its egress choice, as long as each may. -/
def State.pump (s : State) (p : Nat) : Nat → State
  | 0 => s
  | n + 1 =>
    let q := s.port p
    if q.slot then
      match q.choose (s.linkWeight p) with
      | some (f, t) => ((s.setPort p { q with waiting := q.waiting.erase f, turn := t }).sendFlit p f).pump p n
      | none => s
    else s

/-- Every waiting flit that may leave a port leaves it. -/
def State.drain (s : State) (p : Nat) : State := s.pump p (s.port p).waiting.length

/-- Flits handed to a port wait their turn there. -/
def State.queueFlits (s : State) (p : Nat) (l : List Flit) : State :=
  let q := s.port p
  (s.setPort p { q with waiting := q.waiting ++ l }).drain p

/-- A message handed to a port in class `cls`: as its receiver will have it, and its flits. -/
def State.sendMsg (s : State) (port cls : Nat) (m : LinkMsg) : State := (s.emit (.link port m)).queueFlits port (flitsOf m cls)

/-- A one-flit message handed to a port, for the module at the other end of the link; `e` is what it says. -/
def State.sendCard (s : State) (port lane kind : Nat) (e : OutEvent) (payload : List Byte) : State :=
  (s.emit e).queueFlits port [cardFlit lane kind (s.linkDst port) payload]

/-- Lane-7 management whose layout the spec does not give: the type and the fields named, in bytes that nothing fixes (log 137). -/
def mgmtPayload (what : Nat) (args : List Nat) : List Byte := (List.range 248).map (Config.mgmtByte what args)

/-- A fault notice (16 Table 16-11). -/
def noticePayload (n : FaultNotice) : List Byte :=
  natLe 32 (fields [(0, 0x46), (8, n.src), (24, n.cause % 256), (32, n.detail % 2 ^ 16), (64, mod64 n.beat)])

/-- A gear notice (20 Table 20-3). -/
def gearPayload (n : GearNotice) : List Byte :=
  natLe 20 (fields [(0, 0x47), (8, n.srcId), (20, n.half), (22, n.gear), (24, n.left), (28, b2n n.raise), (32, mod64 n.effective)])

/-- A time message of KIND `kind`: 1 SYNC, 2 DELAY_REQ, 3 DELAY_RESP (11 Table 11-2). -/
def timePayload (kind : Nat) (m : TimeMsg) : List Byte :=
  natLe 40 (fields [(0, kind), (4, m.srcId), (16, m.roosterId), (28, m.depth), (36, m.gen), (64, m.tBeat), (128, m.tFrac),
    (144, m.rxDelta), (192, m.wallB0), (256, m.wallW0)])

/-- A time message leaves a link: KIND 6 on lane 5 (11 R266, R267). -/
def State.sendTime (s : State) (port kind : Nat) (m : TimeMsg) : State :=
  s.sendCard port 5 6 (.time port kind m) (timePayload kind m)

/-- A fault notice leaves a link: KIND 7 on lane 7 (16 R564). -/
def State.sendFaultNotice (s : State) (port : Nat) (n : FaultNotice) : State :=
  s.sendCard port 7 7 (.faultNotice port n) (noticePayload n)

/-- A gear notice leaves a link: a flit of KIND 7 on lane 5 (20 R492). -/
def State.sendGearNotice (s : State) (port : Nat) (n : GearNotice) : State :=
  s.sendCard port 5 7 (.gearNotice port n) (gearPayload n)

/-- Lane-7 management leaves a link (15 R376, R395). -/
def State.sendMgmt (s : State) (port what : Nat) (args : List Nat) (e : OutEvent) : State :=
  s.sendCard port 7 7 e (mgmtPayload what args)

/-- Lanes 0 to 4 and 6 are empty at every link that is up or retrains (15 R397). -/
def State.lanesEmpty (s : State) : Bool :=
  s.fab.ports.all (fun q => !(decide (q.2.state = 2) || decide (q.2.state = 3)) ||
    (q.2.waiting ++ q.2.unacked).all (fun f => decide (f.lane = 5) || decide (f.lane = 7)))

end Sys2Proof.Machine
end

