-- ==== Sys2Proof/Machine/Streams.lean ====
section
/-! DEFINITION. Unit streams: which command is at a stream's head and whether its cycle 0 has come (12 R287 to R305),
a command's start and completion (12 R297), stopping every unit (16 R404), the actions of HALT (16 R410). -/

namespace Sys2Proof.Machine

/-- A unit stream. -/
def State.stream (s : State) (u : Nat) : Stream := Tab.get Stream.idle s.unit.streams u

/-- A unit stream replaced. -/
def State.setStream (s : State) (u : Nat) (t : Stream) : State :=
  { s with unit.streams := Tab.set Stream.idle s.unit.streams u t }

/-- The command at the head of a stream (12 R305); none past the repetition's last descriptor. -/
def State.headDesc (s : State) (u : Nat) : Option Nat :=
  let t := s.stream u
  let tab := s.streamTab t.variant u
  if t.pos < tab.2 then some (s.descAt (tab.1 + t.pos)) else none

/-- Fields of the common header (12 Table 12-5). -/
def dUnit (d : Nat) : Nat := bits d 0 4
def dOpc (d : Nat) : Nat := bits d 4 4
def dW0 (d : Nat) : Nat := bits d 8 15
def dW0Tgt (d : Nat) : Nat := bits d 23 32
def dW1 (d : Nat) : Nat := bits d 55 15
def dW1Tgt (d : Nat) : Nat := bits d 70 32
def dSig (d : Nat) : Nat := bits d 102 15
def dInc (d : Nat) : Nat := bits d 117 8
def dDrop (d : Nat) : Bool := bit d 126

/-- The unit's core is fenced (02 R34). -/
def State.unitFenced (s : State) (u : Nat) : Bool := decide (u < 218) && Tab.get false s.geo.fence (s.physOf u)

/-- The requester index of a stream's unit (02 R43): a link port's is 226 on. -/
def requesterOf (u : Nat) : Nat := if u < 218 then u else u + 8

/-- Repetition `n` has begun: its period reset, the first event of its first beat, is done (12 R287, R296). -/
def State.repBegun (s : State) (n : Nat) : Bool := s.plan.started && decide (n ≤ s.plan.repNow)

/-- A queue that stream `u` produces has flits of it that wait for credits: its unit is stalled (12 R302, 05 R141). -/
def State.outStalled (s : State) (u : Nat) : Bool :=
  s.unit.queues.any (fun e => !e.2.unsent.isEmpty && decide (bits (s.queueEntry e.1) 0 8 = u))

/-- The last command started still takes in its operands, or nothing may overlap it: the unit has no later cycle 0 (04 R88,
05 R140). -/
def Stream.busy (t : Stream) : Bool :=
  match t.flight.getLast? with
  | some f => f.work.isSome || f.solo
  | none => false

/-- The unit may start a command of its repetition (12 R287, R305, 19 R472): the plan runs, no
fence, the repetition has begun, and the command before is far enough on. -/
def State.unitMay (s : State) (u : Nat) : Bool :=
  let t := s.stream u
  s.planRuns && !s.unitFenced u && !t.closed && s.repBegun t.rep && !t.busy && !s.outStalled u

/-- Both waits of a command hold (12 R298). -/
def State.waitsHold (s : State) (d rep : Nat) : Bool :=
  s.waitHolds (dW0 d) (dW0Tgt d) rep && s.waitHolds (dW1 d) (dW1Tgt d) rep

/-- The producer of queue `q` is stream `u` and holds its START credits (12 R302). -/
def State.queueReady (s : State) (q : Nat) : Bool :=
  decide (bits (s.queueEntry q) 8 8 + 1 ≤ (Tab.get FeedQueue.empty s.unit.queues q).credits)

/-- The descriptor at the head of stream `u`, if it is of OPC `opc` and its waits hold (12 R305). -/
def State.ready (s : State) (u opc : Nat) : Option Nat :=
  if s.unitMay u then
    match s.headDesc u with
    | some d => if dOpc d = opc && s.waitsHold d (s.stream u).rep then some d else none
    | none => none
  else none

/-- The EXEC command of unit kind `kind` and operation `op` (at [135:128]) at the head of stream `u`, if its cycle 0 has
come. -/
def State.readyExec (s : State) (u kind op : Nat) : Option Nat :=
  match s.ready u 0 with
  | some d => if dUnit d = kind && bits d 128 8 = op then some d else none
  | none => none

/-- The position after `pos`, past a SELECT's other alternatives (12 R289). -/
def Stream.step (t : Stream) (pos : Nat) : Nat := if pos = t.jumpAt ∧ t.jumpAt < t.jumpTo then t.jumpTo else pos

/-- A command takes its place among the commands in progress and the stream moves on. -/
def State.startCmd (s : State) (u : Nat) (f : InFlight) : State :=
  let t := s.stream u
  s.setStream u { t with pos := t.step (t.pos + 1), flight := t.flight ++ [f] }

/-- A command in progress with nothing yet said of its work: header fields, repetition and beat of cycle 0. -/
def State.newFlight (s : State) (u d : Nat) : InFlight :=
  { desc := (s.streamTab (s.stream u).variant u).1 + (s.stream u).pos, unit := dUnit d, op := bits d 128 8,
    rep := (s.stream u).rep, beat := s.time.beat, cycles := 1, code := 0, capped := false, status := 0, statBits := 7,
    statKey := none, bumps := [], sigId := dSig d, sigInc := dInc d, outs := [], planCyc := 0, slackCyc := 0,
    slipped := false, gated := false, work := none, solo := false, nonfin := none, tap := none, release := [] }

/-- What a command takes in at cycle 0, before anything is known of it. -/
def State.newWork (s : State) (d : Nat) : Work :=
  { desc := d, count := 0, code := 0, step := s.plan.step, vals := [], banks := [], due := [] }

/-- The last command of stream `u`, if its effects are still to come. -/
def State.parked (s : State) (u : Nat) : Option Work :=
  match (s.stream u).flight.getLast? with
  | some f => f.work
  | none => none

/-- The last command of stream `u` changed. -/
def State.setLast (s : State) (u : Nat) (g : InFlight → InFlight) : State :=
  let t := s.stream u
  match t.flight.getLast? with
  | some f => s.setStream u { t with flight := t.flight.dropLast ++ [g f] }
  | none => s

/-- A command at its cycle 0 that has its effects still to come: it keeps its budget, for its slip (12 R307). -/
def State.parkCmd (s : State) (u : Nat) (w : Work) (planCyc slackCyc statKey : Nat) : State :=
  s.startCmd u { s.newFlight u w.desc with
    work := some w, planCyc := planCyc, slackCyc := slackCyc, statKey := some statKey }

/-- The command that stream `u` had parked has its effects, as `f` says, and keeps its place, repetition and cycle 0. -/
def State.launch (s : State) (u : Nat) (f : InFlight) : State :=
  s.setLast u (fun g => { f with desc := g.desc, rep := g.rep, beat := g.beat, slipped := g.slipped, work := none })

/-- A gated operation (08 Table 08-4). -/
def updGated (uop : Nat) : Bool := decide (uop ∈ [0x02, 0x03, 0x04])

/-- Stream `u` holds a gated update command of the step decided that has not completed: one in progress, or one still to
come in this repetition whose wait on the gate counter already holds. The update window of 08 R197 is then open. -/
def State.gatedDue (s : State) (u : Nat) : Bool :=
  let t := s.stream u
  let tab := s.streamTab t.variant u
  let released := fun (d : Nat) =>
    (dW0 d = s.gateCtr && s.waitHolds (dW0 d) (dW0Tgt d) t.rep) || (dW1 d = s.gateCtr && s.waitHolds (dW1 d) (dW1Tgt d) t.rep)
  t.flight.any (fun f => f.gated) ||
    (s.planRuns && s.repBegun t.rep && (List.range (tab.2 - t.pos)).any (fun k =>
      let d := s.descAt (tab.1 + t.pos + k)
      dOpc d = 0 && dUnit d = 4 && updGated (bits d 128 8) && released d))

/-- The counter of slips of a unit kind (04 R93, 05 R142, 06 Table 06-4, 08 Table 08-8, 09 R228, 10, 13, 15). -/
def slipKey (kind u op : Nat) : Nat :=
  match kind with
  | 1 => OxCnt.slips u
  | 2 => GoatCnt.slips (u - 120)
  | 3 => RowCnt.slips (u - 120)
  | 4 => UpdCnt.slips (u - 120)
  | 5 => if op < 0x10 then HenCnt.slips (u - 180) else ExpCnt.slips (u - 180)
  | 6 => MemCnt.muleSlips
  | _ => LinkCnt.slips (u - 218)

/-- The counts of a completion's stall and wait cycles. -/
def waitBumps (kind u op : Nat) (w : Waits) : List Bump :=
  match kind with
  | 1 => [(OxCnt.feedStallCyc u, w.stall), (OxCnt.drainStallCyc u, w.outStall)]
  | 2 => [(GoatCnt.outStallCyc (u - 120), w.outStall), (GoatCnt.tokenWaitCyc (u - 120), w.token)]
  | 3 => [(GoatCnt.outStallCyc (u - 120), w.outStall), (GoatCnt.tokenWaitCyc (u - 120), w.token)]
  | 4 => [(GoatCnt.outStallCyc (u - 120), w.outStall), (GoatCnt.tokenWaitCyc (u - 120), w.token)]
  | 5 =>
    if op < 0x10 then [(HenCnt.stallCyc (u - 180), w.stall + w.outStall + w.token), (HenCnt.hazardCyc (u - 180), w.token)]
    else [(ExpCnt.stallCyc (u - 180), w.stall + w.outStall)]
  | 6 => [(MemCnt.muleStallCyc, w.stall + w.outStall)]
  | _ => [(LinkCnt.stallCyc (u - 218), w.stall + w.outStall)]

/-- A gated update command under SUPPRESS, which moves no count but COMMANDS and SUPPRESSED_CMDS (08 R196). -/
def InFlight.quiet (f : InFlight) : Bool := f.unit == 4 && f.gated && f.status == 5

/-- A slip event (12 R307): recorded in the ring of 4,096, counted, and counted by its unit. -/
def State.slip (s : State) (u : Nat) (f : InFlight) : State :=
  let e : Slip := { unit := u, desc := f.desc, rep := f.rep, beat := s.time.beat }
  let ring := s.plan.slips ++ [e]
  ({ s with plan.slips := ring.drop (ring.length - 4096), plan.slipsNow := s.plan.slipsNow + 1 } : State).bumps
    (if f.quiet then [] else [(PlanCnt.slipEvents, 1), (slipKey f.unit u f.op, 1)])

/-- Cycles from cycle 0 to completion. -/
def InFlight.elapsed (f : InFlight) (w : Waits) : Nat := f.cycles + (w.stall + w.outStall - w.both) + w.token + w.ack

/-- Stall cycles of a completion: a cycle both dry and blocked counts once (04 R92); bank-token waits are not stalls (05 R141);
a Hen's hazard waits are (09 R228). -/
def InFlight.stalls (f : InFlight) (w : Waits) : Nat :=
  (w.stall + w.outStall - w.both) + (if f.unit = 5 && decide (f.op < 0x04) then w.token else 0)

/-- The status record of a completing command: the fixed part with SLIP, STALLED, ELAPSED, STALL_CYC and, for a Goat,
TOKEN_WAIT_CYC (04 Table 04-9, 05 Table 05-9, 09 Table 09-6, 10 Table 10-8, 13 Table 13-7, 15 Table 15-8). -/
def InFlight.record (f : InFlight) (w : Waits) (slipped : Bool) : Nat :=
  let st := f.stalls w
  if f.unit = 1 then
    fields [(0, f.status), (4, b2n slipped), (9, b2n (decide (0 < st))), (32, f.elapsed w % 2 ^ 32), (64, sat32 st)]
  else
    fields [(0, f.status), (4, b2n slipped), (f.statBits, b2n (decide (0 < st))), (16, f.elapsed w % 2 ^ 32),
      (48, sat16 st), (112, if f.unit = 2 || f.unit = 3 || f.unit = 4 then sat16 w.token else 0)]

/-- A command completes (12 R297): its slip if it slipped, its counts, CODE of the health word if one of them is a counter
that CODE watches (07 Table 07-5), NONFIN of GOAT_HEALTH (05 R127), its tap record in its closing work (05 R139), its status
record, and then its signal. -/
def State.completeCmd (s : State) (u : Nat) (f : InFlight) (w : Waits) : State :=
  let late := decide (f.planCyc + f.slackCyc < f.elapsed w) && decide (f.statKey ≠ none)
  let s1 := if late && !f.slipped then s.slip u f else s
  let s1a := if f.code = 0 then s1 else s1.setHealth hCode
  let s1c : State := match f.nonfin with
    | some k => { s1a with cnt := Tab.set 0 s1a.cnt k 1 }
    | none => s1a
  let s1b := match f.tap with
    | some (key, clr, t) => s1c.joinTap key clr t
    | none => s1c
  let s2 := (s1b.bumps f.bumps).bumps (if f.quiet then [] else waitBumps f.unit u f.op w)
  let s3 := match f.statKey with
    | some k => s2.poke k (natLe 16 (f.record w (f.slipped || late)))
    | none => s2
  s3.applySignal f.sigId f.sigInc (some f.rep)

/-- A bank token that a stopped command had not yet returned stays with its Goat (05 R142). -/
def keepToken (t : Tab Token) (r : Nat × Nat) : Tab Token :=
  if Tab.get Token.atOx t r.1 = .toOx then Tab.set Token.atOx t r.1 (.atGoat r.2) else t

/-- Every command in progress of stream `u` ends with no status record, no signal and no token return, and what it was writing
holds values nothing fixes (04 R112, 05 R142, 09 R229, 16 R404; log 7); an Ox's feeders drop what they had consumed. -/
def State.stopStream (s : State) (u : Nat) : State :=
  let t := s.stream u
  let s1 := t.flight.foldl (fun s f => s.clobber (requesterOf u) f.outs) s
  let s2 : State := { s1 with unit.tokens := (t.flight.flatMap (fun f => f.release)).foldl keepToken s1.unit.tokens }
  let s3 : State := if u < 120 then
      (s2.updQueue (2 * u) (fun f => { f with fed := [] })).updQueue (2 * u + 1) (fun f => { f with fed := [] })
    else s2
  s3.setStream u { t with flight := [] }

/-- Every command in progress stops at once (16 R404); tiles still in an Ox are lost with their command. -/
def State.stopUnits (s : State) : State :=
  let s1 := (s.unit.streams.filter (fun e => !e.2.flight.isEmpty)).foldl (fun s e => s.stopStream e.1) s
  { s1 with unit.tiles := [] }

/-- No command is in progress. -/
def State.unitsIdle (s : State) : Bool := s.unit.streams.all (fun e => e.2.flight.isEmpty)

/-- A fault notice leaves through every port that is up (16 R405, R564). -/
def State.sendNotice (s : State) (n : FaultNotice) (except : Nat) : State :=
  (s.lane7Ports.filter (fun p => decide (p ≠ except))).foldl (fun s p => s.sendFaultNotice p n) s

/-- The 64-byte entry of the fault record (16 R412): the ring keeps the last 16, and the entry is appended to the change log
with the responder or the hardware as origin. -/
def State.faultRecord (s : State) (origin : Nat × Nat) (value : Nat) : State :=
  let r := s.flt.record ++ [{ beat := s.time.beat, value := value }]
  ({ s with flt.record := r.drop (r.length - 16) } : State).log origin 0x0002 1 0 value

/-- The entry of a RESET_PART request, which is written only where the request changes state: not where a warm reset in progress
absorbs it (16 R412, 21 R521). -/
def State.changeRecord (s : State) (origin : Nat × Nat) (value : Nat) : State :=
  if s.dev.warmStep = 0 then s.faultRecord origin value else s

/-- An open checkpoint stream or snapshot is abandoned (17 Table 17-6, R432). -/
def State.abandonStream (s : State) : State :=
  let s1 : State :=
    if s.ck.state = 1 then
      (({ s.cutStream with ck.state := 5 } : State).bump CkptCnt.abandoned 1).raiseBoth 17
    else s
  if s1.ck.snapOpen then ({ s1 with ck.snapOpen := false } : State).bump CkptCnt.snapsAbandoned 1 else s1

/-- What HALT and a warm reset do first (16 R410): R404's actions with no cause latched, the fault-record entry of the request if
there is one, the notice of R405 with CAUSE 0xFF; an open checkpoint stream is abandoned (17 Table 17-6). -/
def State.haltStop (s : State) (origin : Nat × Nat) (entry : Option Nat) : State :=
  let s1 := s.stopUnits.abandonStream
  let s2 := match entry with
    | some v => s1.faultRecord origin v
    | none => s1
  s2.sendNotice { src := s2.fabricAddr, cause := 0xFF, detail := 0, beat := s2.time.beat } 16

/-- What HALT does up to the records: the part is HALTED (16 R410). -/
def State.haltCore (s : State) (origin : Nat × Nat) (entry : Option Nat) : State :=
  (s.haltStop origin entry).setDev .halted origin

/-- The actions of HALT (16 R410): every pending command receives FAULTED while Filuidom runs (19 R463). -/
def State.haltActions (s : State) (origin : Nat × Nat) (entry : Option Nat) : State :=
  let s1 := s.haltCore origin entry
  if s1.dev.fwRunning then s1.failAll stFaulted else s1

/-- A warm reset's emptied remap table is adopted once those lanes are empty (16 R410); a spare then holds no identity. -/
def State.settleRemap (s : State) : State :=
  if s.fab.remapClear && s.lanesEmpty then
    { s with
      fab.remapClear := false
      fab.remap := []
      fab.redirect := none
      fab.identity := 0xFFF
      fab.modId := if s.fab.role = 0 then s.fab.modId else 0xFFF }
  else s

end Sys2Proof.Machine
end

