-- ==== Sys2Proof/Machine/Bulk.lean ====
section
/-! DEFINITION. Bulk targets and sources of the mailbox commands (19 R466), and the record of an EVAL_RUN that cannot finish
(19 R475). -/

namespace Sys2Proof.Machine

/-- A bulk target (19 R466). -/
structure Bulk where
  addr : Nat
  len : Nat
  space : Nat
  rest : Nat
deriving DecidableEq, Repr

/-- The bulk target at offset `off` of a command's body. -/
def Command.bulk (c : Command) (off : Nat) : Bulk :=
  { addr := c.field off 8, len := c.field (off + 8) 4, space := c.field (off + 12) 1, rest := c.field (off + 13) 3 }

/-- The whole range lies in one region of a kind that `ok` admits. -/
def State.inRegion (s : State) (a n : Nat) (ok : Nat → Bool) : Bool :=
  let r := (s.pteOf (pageOf a)).region
  decide (a + n ≤ 2 ^ 39) && decide (r ≠ 0xFF) && ok (s.region r).kind && (pagesOf a n).all (fun p => decide ((s.pteOf p).region = r))

/-- Two byte ranges meet. -/
def overlaps (a n b m : Nat) : Bool := decide (0 < n) && decide (0 < m) && decide (a < b + m) && decide (b < a + n)

/-- A bulk target or source is laid out as R466 gives and lies where it may. -/
def State.bulkOk (s : State) (t : Bulk) : Bool :=
  decide (t.len % 64 = 0) && decide (t.space ≤ 1) && decide (t.rest = 0)
    && (decide (t.space = 0) ||
      (decide (t.addr + t.len ≤ 2 ^ 39)
        && (!(decide (s.dev.state = .armed) || decide (s.dev.state = .running) || decide (s.dev.state = .held))
          || s.inRegion t.addr t.len (fun k => decide (k = 3) || decide (k = 8)))))

/-- A device range overlaps the plan region (19 Table 19-7, OVERLAP). -/
def State.hitsPlan (s : State) (t : Bulk) : Bool :=
  decide (t.space = 1) && s.plan.loaded
    && s.regions.any (fun r => decide (r.2.kind = 9) && overlaps t.addr t.len (r.2.base * 2 ^ 21) (r.2.pages * 2 ^ 21))

/-- Status of a bulk target that must take `need` bytes: OK, BAD_ARG or OVERLAP (19 R466, R485). -/
def State.bulkStatus (s : State) (t : Bulk) (need : Nat) : Nat :=
  if !s.bulkOk t || decide (t.len < need) then stBadArg else if s.hitsPlan t then stOverlap else stOk

/-- The Sheepdog that serves port `p`, as a requester (02 R43). -/
def portRequester (p : Nat) : Nat := 218 + 4 * p

/-- Data written at a bulk target: through the issuing port to host memory, or to HBM. -/
def State.bulkWrite (s : State) (p : Nat) (t : Bulk) (data : List Byte) : State :=
  if t.space = 0 then s.emit (.hostWrite p t.addr data) else s.hbmWrite (portRequester p) t.addr data

/-- The record of a bulk reply of `n` bytes at `t`. -/
def State.makeBulkRecord (s : State) (p m : Nat) (t : Bulk) (n : Nat) : State :=
  s.makeRecordLen p m stOk 0 [] n (if t.space = 0 then none else some (t.addr, n))

/-- The command at the head of mailbox (p, m) is rejected (16 R413): logged with opcode, SEQ, origin and device state, counted
if its status is WRONG_STATE, its record made, nothing else changed. -/
def State.reject (s : State) (p m status detail : Nat) : State :=
  match s.head p m with
  | some c =>
    let s1 := if status = stWrongState then s.bump FaultCnt.wrongState 1 else s
    (s1.log (fromMailbox p m) 0x0003 c.opcode c.seq (fields [(0, status), (16, s.dev.state.code)])).makeRecord p m status detail []
  | none => s

/-- A reply of `data` through the bulk target: written, or refused with nothing written (19 R466). -/
def State.bulkReply (s : State) (p m : Nat) (t : Bulk) (data : List Byte) : State :=
  let st := s.bulkStatus t data.length
  if st = stOk then (s.bulkWrite p t data).makeBulkRecord p m t data.length else s.reject p m st 0

/-- The bytes of a bulk source: `host` is host memory as the port reads it. -/
def State.bulkRead (s : State) (host : Tab Byte) (t : Bulk) (n : Nat) : List Byte :=
  if t.space = 0 then Tab.range 0 host t.addr n else s.hbmBytes t.addr n

/-- A pending EVAL_RUN ends with TIMEOUT: the plan was unloaded or the part left RUNNING and HELD (19 R475). -/
def State.evalTimeout (s : State) : State :=
  match s.acts.evalBox with
  | some (p, m) => ({ s with acts.evalBox := none } : State).makeRecord p m stTimeout 0 []
  | none => s

end Sys2Proof.Machine
end

