-- ==== Sys2Proof/Machine/ActRows.lean ====
section
/-! DEFINITION. The slot manager (14): the KV allocator (13 R324, R325), rings (14 R339 to R342), boundaries (14 R346 to R350),
the close of GENERATE (14 R351), batch takes (14 R355, R356), acts on the timetable, the retry choice (14 R358, R361). -/

namespace Sys2Proof.Machine

/-- The slot manager's requester index (14 R343). -/
def smReq : Nat := 210

/-- A slot. -/
def State.slot (s : State) (i : Nat) : Slot := Tab.get Slot.empty s.acts.slots i

/-- A slot replaced. -/
def State.setSlot (s : State) (i : Nat) (x : Slot) : State := { s with acts.slots := Tab.set Slot.empty s.acts.slots i x }

/-- A write by the slot manager. -/
def State.smWrite (s : State) (a : Nat) (data : List Byte) : State := s.write smReq a data

/-! ## Rings -/

/-- A field of the act control block that is an address (14 Table 14-2). -/
def State.acbAddr (s : State) (lo : Nat) : Nat := addr256 (s.acb lo 40)
def State.promptRing (s : State) : Nat := s.acbAddr 0
def State.rollRing (s : State) : Nat := s.acbAddr 40
def State.evalRing (s : State) : Nat := s.acbAddr 80
def State.maxCtx (s : State) : Nat := s.acb 448 24
def State.pfMax (s : State) : Nat := s.acb 480 14

/-- A ring header (14 Table 14-3). -/
structure Ring where
  addr : Nat
  entries : Nat
  bytes : Nat
  prod : Nat
  idx1 : Nat
  idx2 : Nat
  idx3 : Nat
deriving DecidableEq, Repr

/-- The ring whose header lies at `a`. -/
def State.ring (s : State) (a : Nat) : Ring :=
  let h := s.readNat a 64
  { addr := a, entries := bits h 0 32, bytes := bits h 32 32, prod := bits h 64 32, idx1 := bits h 96 32,
    idx2 := bits h 128 32, idx3 := bits h 160 32 }

/-- The address of entry `i` of a ring. -/
def Ring.entry (r : Ring) (i : Nat) : Nat := r.addr + 256 + r.bytes * (i % Nat.max 1 r.entries)

/-- `a - b` of ring indices (14 R339). -/
def idxDist (a b : Nat) : Nat := (a + 2 ^ 32 - b % 2 ^ 32) % 2 ^ 32

/-- An index field of a ring header is written: 2 PROD, 3 IDX1, 4 IDX2, 5 IDX3. -/
def State.setIdx (s : State) (a f v : Nat) : State := s.smWrite (a + 4 * f) (natLe 4 v)

/-! ## KV blocks -/

/-- The KV region of the loaded plan's acts (14 Table 14-2). -/
def State.kvRegion (s : State) : Region := s.region (s.acb 360 8)

/-- NB of the KV region (13 R324). -/
def State.kvBlocks (s : State) : Nat :=
  let r := s.kvRegion
  if r.kind ≠ 5 then 0 else Nat.min ((r.pages - r.arg1) * 2 ^ 21 / Nat.max 1 r.arg0) (r.arg1 * 2 ^ 21 / 4 - 1)

/-- Entries of the ring of 32-bit block indices in the region's first LIST_PAGES pages (13 R324, R325). -/
def State.kvRing (s : State) : Nat := s.kvRegion.arg1 * 2 ^ 21 / 4

/-- Address of the ring entry that stands `n` behind the head. -/
def State.kvListAt (s : State) (n : Nat) : Nat := s.kvRegion.base * 2 ^ 21 + 4 * ((s.acts.kvHead + n) % s.kvRing)

/-- A free: at the tail, which the ring in the region's first LIST_PAGES pages shows too; a bad one changes nothing (13 R325). -/
def State.kvRelease (s : State) (b : Nat) : State :=
  if s.kvBlocks ≤ b ∨ s.acts.kvFree.contains b then s.bump MemCnt.kvBadFree 1
  else
    let s1 : State := { s with acts.kvFree := s.acts.kvFree ++ [b] }
    s1.smWrite (s.kvListAt s.acts.kvFree.length) (natLe 4 b)

/-- `n` allocations in a row: the ring's head passes them. -/
def State.kvTakeN (s : State) (n : Nat) : List Nat × State :=
  (s.acts.kvFree.take n,
    { s with acts.kvFree := s.acts.kvFree.drop n, acts.kvHead := (s.acts.kvHead + Nat.min n s.acts.kvFree.length) % s.kvRing })

/-- An allocation: from the head; none from an empty list (13 R325). -/
def State.kvTake (s : State) : Option Nat × State :=
  match s.acts.kvFree with
  | b :: _ => (some b, (s.kvTakeN 1).2)
  | [] => (none, s.bump MemCnt.kvEmpty 1)

/-! ## Rollouts -/

/-- The bytes of a rollout entry (14 R341, Table 14-5); STEP of a rollout with no generated token is a free value. -/
def rolloutEntry (i : Nat) (x : Slot) (step beat : Nat) : List Byte :=
  let ids := x.tokens.flatMap (natLe 4)
  let head := natLe 64 (fields [(0, x.promptId), (64, x.sample % 2 ^ 8), (72, i), (80, x.finish), (96, x.plen % 2 ^ 24),
    (128, x.logps.length % 2 ^ 24), (160, step % 2 ^ 40), (256, mod64 beat)])
  let body := head ++ ids
  fit 0 (roundUp body.length 256) body ++ x.logps.flatMap (natLe 4)

/-- The blocks of a slot go back, in block-table order, and the slot is EMPTY (14 R346 step 2). -/
def State.freeSlot (s : State) (i : Nat) : State :=
  ((s.slot i).blocks.foldl (fun s b => s.kvRelease b) s).setSlot i Slot.empty

/-- The rollout ring is full: PROD - LRET = ENTRIES. -/
def State.rollFull (s : State) : Bool :=
  let r := s.ring s.rollRing
  decide (idxDist r.prod r.idx3 = r.entries)

/-- The rollout entry of slot `i` is written: the reward row, the entry, then PROD (14 R342). -/
def State.writeRollout (s : State) (i : Nat) : State :=
  let x := s.slot i
  let r := s.ring s.rollRing
  let k := r.prod % Nat.max 1 r.entries
  let w := 4 * s.acb 528 8
  let d := if x.logps.isEmpty then s.drawNat else (x.step, s)
  let s1 := d.2.smWrite (s.acbAddr 120 + w * k) (List.replicate w 0)
  let s2 := s1.smWrite (r.entry r.prod) (rolloutEntry i x d.1 s.time.beat)
  (s2.setIdx r.addr 2 ((r.prod + 1) % 2 ^ 32)).bump ActCnt.rollouts 1

/-- Retire slot `i` if it is DONE (14 R346 step 2): with the ring full it stays DONE. -/
def State.retire (s : State) (i : Nat) : State :=
  if (s.slot i).state ≠ 4 then s
  else if s.rollFull then s.bump ActCnt.rollFull 1
  else (s.writeRollout i).freeSlot i

/-- Retire slot `i` at the close of GENERATE (14 R351): an entry that finds the ring full is lost, counted and logged. -/
def State.retireLast (s : State) (i : Nat) : State :=
  let x := s.slot i
  if x.state ≠ 4 then s
  else if s.rollFull then
    ((s.bump ActCnt.rollLost 1).log (fromHardware smReq) 0x0022 i 0 (fields [(0, x.promptId), (64, x.sample)])).freeSlot i
  else (s.writeRollout i).freeSlot i

/-- All 64 slots in ascending order. -/
def State.eachSlot (s : State) (f : State → Nat → State) : State := (List.range 64).foldl f s

/-- Every PREFILL, DECODE and BLOCKED slot finishes with `reason`, and every DONE slot is retired (14 R351, 19 R474). -/
def State.closeSlots (s : State) (reason : Nat) : State :=
  (s.eachSlot (fun s i =>
    let x := s.slot i
    if x.state = 1 ∨ x.state = 2 ∨ x.state = 3 then s.setSlot i { x with state := 4, finish := reason } else s)).eachSlot
    State.retireLast

/-! ## A boundary (14 R346) -/

/-- The finish reason of a slot whose newest token is `tok` (14 Table 14-7, in table order); none if it goes on. -/
def State.finishTest (s : State) (x : Slot) (tok : Nat) : Option Nat :=
  if tok = 0xFFFFFFFF then some 7
  else if x.stops.contains tok then some 1
  else if x.logps.length = x.maxNew then some 2
  else if x.plen + x.logps.length = s.maxCtx then some 3
  else none

/-- Step 1, harvest: the result of a row fed at a prompt position before the last is discarded (14 R346, R347). -/
def State.harvest (s : State) (i : Nat) : State :=
  let x := s.slot i
  match x.lastFed with
  | none => s
  | some q =>
    let x0 := { x with lastFed := none }
    if q + 1 < x.plen then s.setSlot i x0
    else
      let a := s.acbAddr 280 + 8 * i
      let r := s.readNat a 8
      let tok := r % 2 ^ 32
      let x1 := { x0 with
        tokens := x.tokens ++ [tok], logps := x.logps ++ [r / 2 ^ 32],
        step := if x.logps.isEmpty then s.plan.step else x.step }
      let s1 := s.noteRead smReq a 8
      match s.finishTest x1 tok with
      | some why => s1.setSlot i { x1 with state := 4, finish := why }
      | none => s1.setSlot i x1

/-- Step 3, grow. -/
def State.grow (s : State) (i : Nat) : State :=
  let x := s.slot i
  if (x.state = 2 ∨ x.state = 3) ∧ x.blocks.length ≤ x.fed / 16 then
    match s.kvTake with
    | (some b, s1) => s1.setSlot i { x with state := 2, blocks := x.blocks ++ [b] }
    | (none, s1) => s1.setSlot i { x with state := 3 }
  else s

/-- Step 4, break a stall. -/
def State.breakStall (s : State) : State :=
  let live := (List.range 64).filter (fun i => decide ((s.slot i).state ≠ 0))
  if live.all (fun i => decide ((s.slot i).state = 3)) then
    match live.getLast? with
    | some i => ((s.setSlot i { s.slot i with state := 4, finish := 4 }).bump ActCnt.kvFull 1).retire i
    | none => s
  else s

/-- The token IDs of a prompt entry at `a` that the entry can hold (14 R340). -/
def State.promptTokens (s : State) (a len : Nat) : List Nat :=
  (List.range (Nat.min len s.maxCtx)).map (fun i => leNat (s.read (a + 64 + 4 * i) 4))

/-- Step 5, refill of slot `i` from the prompt at CONS: the slot and whether the refills of this boundary go on (14 R346,
R347, R340). -/
def State.refill (s : State) (prod : Nat) (i : Nat) : State × Bool :=
  let r := s.ring s.promptRing
  if (s.slot i).state ≠ 0 then (s, true)
  else if r.idx1 = prod then (s, false)
  else
    let a := r.entry r.idx1
    let h := s.readNat a 64
    let len := bits h 64 24
    let bad := decide (len = 0) || decide (s.maxCtx ≤ len) || decide (bits h 120 7 = 0)
    let need := if bad then 0 else ceilDiv len 16
    if s.acts.kvFree.length < need + s.acb 496 16 then (s, false)
    else
      let t := s.kvTakeN need
      let last := decide (bits h 88 8 ≤ s.acts.sampleNext + 1)
      let x : Slot :=
        { state := if bad then 4 else if len = 1 ∨ s.pfMax = 0 then 2 else 1, promptId := bits h 0 64,
          sample := s.acts.sampleNext, plen := len, maxNew := bits h 96 24, kTop := bits h 120 7, invTemp := bits h 128 32,
          pTop := bits h 160 32, stops := ((List.range 4).map (fun k => bits h (192 + 32 * k) 32)).filter (fun v => decide (v ≠ 0xFFFFFFFF)),
          tokens := s.promptTokens a len, logps := [], fed := 0, lastFed := none, blocks := t.1,
          finish := if bad then 8 else 0, step := 0 }
      let s1 := (t.2.noteRead smReq a (64 + 4 * Nat.min len s.maxCtx)).setSlot i x
      let s2 : State := { s1 with acts.sampleNext := if last then 0 else s.acts.sampleNext + 1 }
      let s3 := if last then s2.setIdx r.addr 3 ((r.idx1 + 1) % 2 ^ 32) else s2
      (s3.bump ActCnt.refills 1, true)

/-- Step 5: EMPTY slots in ascending order, until a refill cannot go ahead. -/
def State.refillFrom (s : State) (prod : Nat) : List Nat → State
  | [] => s
  | i :: l =>
    let r := s.refill prod i
    if r.2 then r.1.refillFrom prod l else r.1

/-! ### Publish -/

/-- The prefill tokens that slot `i` may still feed, with `room` left: prompt positions but the last (14 R347). -/
def Slot.pfCount (x : Slot) (room : Nat) : Nat := if x.state = 1 then Nat.min room (x.plen - 1 - x.fed) else 0

/-- Prefill packing (14 R347): rows (token, position, slot) packed in slot and position order, at most PF_MAX; a slot of which
only the last prompt token remains enters DECODE. -/
def State.packPrefill (s : State) : List (Nat × Nat × Nat) × State :=
  (List.range 64).foldl (fun acc i =>
    let x := acc.2.slot i
    let k := x.pfCount (s.pfMax - acc.1.length)
    let rows := (List.range k).map (fun j => (x.tokens.getD (x.fed + j) 0, x.fed + j, i))
    let fed := x.fed + k
    if x.state = 1 then
      (acc.1 ++ rows, acc.2.setSlot i { x with fed := fed, state := if fed + 1 = x.plen then 2 else 1 })
    else acc) ([], s)

/-- The decode row of slot `i` (14 R347, Table 14-9): token, position, sampler parameters; −1 and zeros for a slot fed
nothing. -/
def State.decodeRow (s : State) (i : Nat) : Nat × Nat × List Byte :=
  let x := s.slot i
  if x.state = 2 then
    (x.tokens.getD x.fed 0, x.fed,
      natLe 32 (fields [(0, x.kTop), (16, x.sample), (32, x.pTop), (64, (s.acb 576 64) ^^^ x.promptId),
        (128, x.fed + 1 - x.plen)]))
  else (0xFFFFFFFF, 0xFFFFFFFF, List.replicate 32 0)

/-- The iteration record (14 Table 14-8) with COUNT `dec` in SW_DEC and the given prefill rows; the slot numbers of unused
prefill rows are free values. -/
def State.writeIteration (s : State) (dec : Nat) (pf : List (Nat × Nat × Nat)) : State :=
  let a := s.acbAddr 240
  let n := s.pfMax
  let rows := (List.range 64).map s.decodeRow
  let col := fun (f : Nat × Nat × Nat → Nat) => fit 0xFF (4 * n) (pf.flatMap (fun r => natLe 4 (f r)))
  let d := s.drawBytes (4 * (n - pf.length))
  let s1 := (d.2.smWrite a (natLe 8 dec ++ natLe 8 pf.length)).smWrite (a + 0x100)
    (rows.flatMap (fun r => natLe 4 r.1) ++ rows.flatMap (fun r => natLe 4 r.2.1) ++ rows.flatMap (fun r => r.2.2))
  s1.smWrite (a + 0xB00) (col (fun r => r.1) ++ col (fun r => r.2.1) ++ (pf.flatMap (fun r => natLe 4 r.2.2) ++ d.1))

/-- The slot table, whose entries' layout the spec does not give: free bytes (log 32); the block tables (14 R345). -/
def State.writeTables (s : State) : State :=
  let d := s.drawBytes 4096
  let s1 := d.2.smWrite (s.acbAddr 160) d.1
  let n := ceilDiv s.maxCtx 16
  s1.smWrite (s.acbAddr 200)
    ((List.range 64).flatMap (fun i => fit 0xFF (4 * n) ((s.slot i).blocks.flatMap (natLe 4))))

/-- Every DECODE slot has been fed: its next position, and the row to harvest at the next boundary. -/
def State.feedRows (s : State) : State :=
  s.eachSlot (fun s i =>
    let x := s.slot i
    if x.state = 2 then s.setSlot i { x with fed := x.fed + 1, lastFed := some x.fed } else s)

/-- Step 6, publish, with DRAINED (14 R349). -/
def State.publish (s : State) (prod : Nat) : State :=
  let none_ := (List.range 64).all (fun i => decide ((s.slot i).state = 0))
  let drained := none_ && decide ((s.ring s.promptRing).idx1 = prod)
  let p := s.packPrefill
  let blocked := ((List.range 64).filter (fun i => decide ((s.slot i).state = 3))).length
  let s1 := (p.2.writeIteration (if drained then 0 else 64) p.1).writeTables
  ({ s1.feedRows with acts.drained := drained } : State).bump ActCnt.kvBlocked blocked

/-- A boundary in GENERATE (14 R346). -/
def State.boundary (s : State) : State :=
  let prod := (s.ring s.promptRing).prod
  let s1 := (((s.noteRead smReq s.promptRing 64).eachSlot State.harvest).eachSlot State.retire).eachSlot State.grow
  ((s1.breakStall.refillFrom prod (List.range 64)).publish prod).bump ActCnt.boundaries 1

/-- A counter has reached a target of the slot manager (14 R343, 12 R298). -/
def State.smReached (s : State) (lo target : Nat) : Bool := reached (s.ctr (s.acb lo 15)).value target

/-- GEN_BOUNDARY: a boundary at GEN_TRIG's next target; outside GENERATE only an empty record is published (14 R350). -/
def execGenBoundary (s : State) : Host.Outcome State Fault Refusal :=
  if s.planRuns && s.smReached 384 s.acts.genTarget then
    let s0 : State := { s with acts.genTarget := (s.acts.genTarget + 1) % 2 ^ 32 }
    let s1 := if s.acts.act = 1 then s0.boundary else (s0.writeIteration 0 []).bump ActCnt.boundaryOutside 1
    .next (s1.applySignal (s.acb 400 15) 1 none)
  else .next s

/-! ## Batches -/

/-- The batch's tables (14 Table 14-10) from the entries `idx, …` of ring `r`, `n` of them. -/
def State.writeBatch (s : State) (r : Ring) (idx n : Nat) (rewards : Bool) : State :=
  let a := s.acbAddr 320
  let sb := s.acb 512 7
  let ctx := s.maxCtx
  let w := s.acb 528 8
  let rows := (List.range n).map (fun k =>
    let e := r.entry (idx + k)
    let h := s.readNat e 64
    (e, (idx + k) % 2 ^ 32, bits h 96 24, bits h 128 24))
  let four := fun (d : Byte) (f : Nat × Nat × Nat × Nat → Nat) => fit d 256 (rows.flatMap (fun x => natLe 4 (f x)))
  let toks := rows.flatMap (fun x => fit 0xFF (4 * ctx) ((s.read (x.1 + 64) (4 * (x.2.2.1 + x.2.2.2))).take (4 * ctx)))
  let lps := rows.flatMap (fun x =>
    fit 0 (4 * ctx) (List.replicate (4 * x.2.2.1) 0 ++
      s.read (x.1 + roundUp (64 + 4 * (x.2.2.1 + x.2.2.2)) 256) (4 * x.2.2.2)))
  let rew := if rewards then
      rows.flatMap (fun x => s.read (s.acbAddr 120 + 4 * w * (x.2.1 % Nat.max 1 r.entries)) (4 * w))
    else []
  let b1 := a + 0x400
  let b2 := roundUp (b1 + 4 * sb * ctx) 256
  let b3 := roundUp (b2 + 4 * sb * ctx) 256
  let s0 := rows.foldl (fun s x => s.noteRead smReq x.1 64) s
  let s1 := (s0.smWrite a (natLe 8 n ++ natLe 8 (n * ctx))).smWrite (a + 0x100)
    (four 0xFF (fun x => x.2.1) ++ four 0 (fun x => x.2.2.1 + x.2.2.2) ++ four 0 (fun x => x.2.2.1))
  ((s1.smWrite b1 (fit 0xFF (4 * sb * ctx) toks)).smWrite b2 (fit 0 (4 * sb * ctx) lps)).smWrite b3 (fit 0 (4 * sb * w) rew)

/-- The ring, first index, end and index field of the open act's batches (14 R355). -/
def State.batchRing (s : State) : Option (Ring × Nat × Nat × Nat) :=
  let r := s.ring s.rollRing
  let e := s.ring s.evalRing
  match s.acts.act with
  | 2 => some (r, r.idx1, r.prod, 3)
  | 3 => some (r, r.idx2, r.idx1, 4)
  | 4 => some (e, e.idx1, e.prod, 3)
  | _ => none

/-- BATCH_TAKE: a batch at BAT_TRIG's next target (14 R343, R355); outside such an act the batch is empty. -/
def execBatchTake (s : State) : Host.Outcome State Fault Refusal :=
  if s.planRuns && s.smReached 416 s.acts.batTarget then
    let s0 : State := { s with acts.batTarget := (s.acts.batTarget + 1) % 2 ^ 32 }
    let s1 :=
      match s.batchRing with
      | some (r, first, last, f) =>
        let n := Nat.min (s.acb 512 7) (idxDist last first)
        ((s0.writeBatch r first n (decide (s.acts.act = 3))).setIdx r.addr f ((first + n) % 2 ^ 32)).bump ActCnt.batches 1
      | none => (s0.writeBatch (s.ring s.rollRing) 0 0 false).bump ActCnt.batchOutside 1
    .next (s1.applySignal (s.acb 432 15) 1 none)
  else .next s

/-! ## Acts on the timetable -/

/-- ACT_START opens an act (14 R336, Table 14-1). -/
def execActStart (s : State) : Host.Outcome State Fault Refusal :=
  match s.dueKind 0x08 with
  | some (_, e) =>
    .next (({ s with acts.act := e.arg % 4 + 1, acts.rep := s.plan.repNow % 2 ^ 16 } : State).bump ActCnt.actsOpened 1
      |>.entryDone e)
  | none => .next s

/-- The EVAL_RUN whose entries an ending EVALUATE act has run: its result is copied and its record made (19 R475). -/
def State.evalFinish (s : State) : State :=
  match s.acts.evalBox with
  | some (p, m) =>
    match s.head p m with
    | some c =>
      let s1 : State := { s with acts.evalBox := none }
      let n := c.field 32 4
      let src := c.field 24 8
      ((s1.bulkWrite p (c.bulk 40) (s1.hbmBytes src n)).hbmNoteRead (portRequester p) src n).makeBulkRecord p m (c.bulk 40) n
    | none => s
  | none => s

/-- ACT_END closes the act: GENERATE's slots are finished and retired (14 R351), EVALUATE's EVAL_RUN ends (19 R475). -/
def execActEnd (s : State) : Host.Outcome State Fault Refusal :=
  match s.dueKind 0x09 with
  | some (_, e) =>
    let s1 := if s.acts.act = 1 then s.closeSlots 5 else if s.acts.act = 4 then s.evalFinish else s
    .next (({ s1 with acts.act := 0 } : State).entryDone e)
  | none => .next s

/-! ## The commit decision (14 R358, R361) -/

/-- What the slot manager does under GO. -/
def State.smGo (s : State) : State :=
  if s.secLen 9 = 0 then s
  else
    let r := s.ring s.rollRing
    { s.setIdx r.addr 5 r.idx2 with acts.retries := 0 }

/-- What the slot manager does under SUPPRESS: a retry takes the same rollouts again, a skip retires them; the skip is logged
with the reduced health word. -/
def State.smSuppress (s : State) (red : Nat) : State :=
  if s.secLen 9 = 0 then s
  else
    let r := s.ring s.rollRing
    if s.acb 544 1 = 0 ∧ s.acts.retries < s.acb 552 8 then
      ({ s.setIdx r.addr 4 r.idx3 with acts.retries := s.acts.retries + 1 } : State).bump ActCnt.retries 1
    else
      (({ s.setIdx r.addr 5 r.idx2 with acts.retries := 0 } : State).bump ActCnt.skips 1).log (fromHardware smReq) 0x0022 1 0 red

end Sys2Proof.Machine
end

