-- ==== Sys2Proof/Machine/Registers.lean ====
section
/-! DEFINITION. Registers that software reads whole, composed from the fields of State as their tables lay them out, and the
telemetry blocks of 19 Table 19-6, 20 R501, 21 R524 and 22 R541. -/

namespace Sys2Proof.Machine

/-- FAULT_STATUS (16 Table 16-2). -/
def State.faultStatus (s : State) : Nat :=
  fields [(0, s.flt.cause % 2 ^ 8), (8, s.flt.scope % 2), (9, b2n s.flt.noticeSent), (10, b2n s.flt.frozen),
    (16, s.flt.detail % 2 ^ 16), (32, s.flt.noticeSrc % 2 ^ 12), (64, mod64 s.flt.beat)]

/-- TIME_STATUS (11 Table 11-3). -/
def State.timeStatus (s : State) : Nat :=
  fields [(0, s.time.state % 8), (3, s.time.role % 4), (5, s.time.depth % 2 ^ 8), (13, s.time.roosterId % 2 ^ 12),
    (25, s.time.gen % 2 ^ 28), (53, unsigned 11 s.time.offset)]

/-- Bits [3:0] of the live health word: NONFIN is the OR over the enabled Goats, CODE stands while a watched counter is
saturated (07 Table 07-5). -/
def State.liveHealth (s : State) : Nat :=
  let goats := List.range 60
  let nonfin := goats.any (fun g => decide (s.cntGet (GoatHealth.nonfin g) ≠ 0))
  let full := fun k => decide (s.cntGet k = 0xFFFFFFFF)
  let code := goats.any (fun g => full (GoatCnt.tokenOrder g) || full (GoatCnt.tableEmpty g) || full (RowCnt.keyMiss g))
    || (List.range 120).any (fun x => full (OxCnt.chunkOrder x))
  (s.plan.health % 16) ||| b2n nonfin ||| (2 * b2n code)

/-- A health word (07 Table 07-5). -/
def healthWord (b step : Nat) : Nat := fields [(0, b % 16), (16, step % 2 ^ 16)]

/-- START_STATUS (21 Table 21-9). -/
def State.startStatus (s : State) : Nat :=
  fields [(0, s.dev.lastReset % 8), (3, s.dev.stepDone % 16), (7, b2n s.dev.fail), (8, s.dev.failCode % 2 ^ 8),
    (16, b2n s.dev.tripWait), (17, b2n s.dev.hbmKept), (32, s.dev.bootMs % 2 ^ 32)]

/-- The responder status block (16 Table 16-5); bytes 48-55 hold START_STATUS while BOOTING (21 R524). -/
def State.statusBlock (s : State) : List Byte :=
  natLe 8 (fields [(0, s.dev.state.code), (3, s.host.steward)]) ++ natLe 16 s.faultStatus ++ natLe 8 (mod64 s.time.beat)
    ++ natLe 8 s.timeStatus ++ natLe 8 s.plan.healthRed
    ++ natLe 8 (if s.dev.state = .booting then s.startStatus else 0) ++ natLe 8 0

/-- Non-empty slots (14 Table 14-1). -/
def State.slotsActive (s : State) : Nat :=
  ((List.range 64).filter (fun i => decide ((Tab.get Slot.empty s.acts.slots i).state ≠ 0))).length

/-- ACT_STATUS (14 Table 14-1); SM_BUSY stands between steps of the model at 0, each of the slot manager's works being one
step. -/
def State.actStatus (s : State) : Nat :=
  fields [(0, s.acts.act % 8), (4, b2n s.acts.drained), (16, s.acts.retries % 2 ^ 16),
    (32, s.acts.rep % 2 ^ 16), (64, s.slotsActive % 2 ^ 7)]

/-- LINK_STATUS of port `p` (15 Table 15-11). -/
def State.linkStatus (s : State) (p : Nat) : Nat :=
  let q := s.port p
  fields [(0, q.state % 8), (3, b2n q.degraded), (4, q.width % 4), (6, b2n q.split), (8, q.peer % 2 ^ 13),
    (21, q.peerPort % 8), (24, q.delayNs % 2 ^ 16)]

/-- CKPT_STATUS (17 Table 17-8). -/
def State.ckptStatus (s : State) : Nat :=
  fields [(0, s.ck.state % 8), (3, b2n s.ck.poisoned), (4, b2n s.ck.snapOpen), (5, b2n s.ck.restoreBad),
    (8, s.ck.failCode % 2 ^ 8), (64, mod64 s.ck.lastEffective), (128, mod64 s.ck.lastClosed), (192, mod64 s.ck.step),
    (256, mod64 s.ck.bytes)]

/-- The checkpoint policy word (17 Table 17-7). -/
def State.policyWord (s : State) : Nat :=
  fields [(0, b2n s.ck.enable), (1, b2n s.ck.stream), (2, b2n s.ck.coldFull), (8, s.ck.snapEvery % 2 ^ 8),
    (16, s.ck.snapKinds % 8), (24, s.ck.rate % 2 ^ 7)]

/-- FABRIC_CFG (15 Table 15-4). -/
def State.fabricCfg (s : State) : Nat :=
  let f := s.fab
  fields [(0, f.modId % 2 ^ 12), (12, f.role % 2), (13, f.fold % 2 ^ 9), (22, f.sx % 32), (27, f.sy % 32), (32, f.sz % 32),
    (37, f.l7Mode % 4), (39, f.traceNs % 2 ^ 8)]

/-- GATE (08 Table 08-6). -/
def State.gateReg (s : State) : Nat :=
  fields [(0, s.plan.decision % 4), (8, s.plan.dstep % 2 ^ 40), (64, mod64 s.plan.dbeat)]

/-- A sync counter's state (12 Table 12-7). -/
def Ctr.word (c : Ctr) : Nat :=
  fields [(0, c.value % 2 ^ 32), (32, c.rep % 2 ^ 16), (48, c.shortfall % 2 ^ 32), (80, b2n c.late)]

/-- A page-table entry (13 Table 13-1). -/
def Pte.word (e : Pte) : Nat :=
  fields [(0, b2n e.valid), (1, b2n e.wp), (2, b2n e.copied), (3, b2n e.poison), (4, b2n e.ro), (8, e.region % 2 ^ 8),
    (16, if e.copied then e.shadow % 2 ^ 18 else 0)]

/-- A remap entry (15 Table 15-10). -/
def remapWord (e : RemapEntry) : Nat :=
  fields [(0, e.ident % 2 ^ 12), (12, b2n e.valid), (13, b2n e.dead), (14, e.home % 2),
    (16, if e.dead then e.proxy % 2 ^ 12 else 0), (32, e.spareFold % 2 ^ 9), (64, mod64 e.effective)]

/-- The ceiling that a peer entry puts on half `h` (20 R491, R492): its gear once in force, till then what its source's earlier
entries put there (log 147). -/
def PeerEntry.ceil (e : PeerEntry) (h : Nat) : Nat :=
  if bit e.half h then (if e.inForce then e.gear else if h = 0 then e.heldW else e.heldE) else 0

/-- The entry is in force, or takes over from one that is. -/
def PeerEntry.holds (e : PeerEntry) : Bool := e.inForce || decide (0 < e.ceil 0) || decide (0 < e.ceil 1)

/-- The power manager's own ceiling of a half (20 R491). -/
def State.pmCeil (s : State) (h : Nat) : Nat :=
  let p := if h = 0 then s.pwr.west else s.pwr.east
  s.pwr.peers.foldl (fun a e => Nat.max a (e.ceil h))
    (Nat.max (Nat.max p.limitStep p.peakStep) p.thermStep)

/-- The ceiling of a half (20 R488). -/
def State.ceiling (s : State) (h : Nat) : Nat :=
  Nat.max (if h = 0 then s.pwr.west else s.pwr.east).hostCeil (s.pmCeil h)

/-- PWR_STATUS (20 Table 20-7). -/
def State.pwrStatus (s : State) : Nat :=
  let w := s.pwr.west
  let e := s.pwr.east
  fields [(0, w.gear % 4), (2, e.gear % 4), (4, w.req % 4), (6, e.req % 4), (8, w.hostCeil % 4), (10, e.hostCeil % 4),
    (12, s.pmCeil 0 % 4), (14, s.pmCeil 1 % 4), (16, b2n w.clamp), (17, b2n e.clamp),
    (18, b2n (s.dev.sbAlertTj || s.dev.sbAlertHbm || s.dev.alertTrip)), (19, b2n (s.pwr.hot.any id)),
    (20, Nat.min 15 (s.pwr.peers.filter PeerEntry.holds).length), (32, s.pwr.inForce % 2 ^ 16),
    (48, s.pwr.p1ms % 2 ^ 16), (64, (s.pwr.history.foldl (· + ·) 0 / Nat.max 1 s.pwr.history.length) % 2 ^ 16),
    (80, s.pwr.budget % 2 ^ 15), (96, s.pwr.tj % 2 ^ 8), (104, s.pwr.tStack.foldl Nat.max 0 % 2 ^ 8),
    (112, s.pwr.tInlet % 2 ^ 8), (120, s.pwr.tOutlet % 2 ^ 8), (128, s.pwr.vIn % 2 ^ 16), (144, s.pwr.iIn % 2 ^ 16)]

/-- LOG_STATUS (22 Table 22-8). -/
def State.logStatus (s : State) : Nat :=
  fields [(0, mod64 s.trust.head), (64, s.trust.detailLost % 2 ^ 32), (96, s.trust.durableHead % 2 ^ 32),
    (128, s.trust.bootCount % 2 ^ 16), (144, b2n s.dev.fallback)]

/-- A counter block's bytes, `n` fields of 32 bits padded to `len` bytes. -/
def State.cntBytes (s : State) (blk inst n len : Nat) : List Byte :=
  fit 0 len ((List.range n).flatMap (fun f => natLe 4 (s.cntGet (cntKey blk inst f))))

/-- LINK_CNT (15 Table 15-12), with its two 64-bit counts. -/
def State.linkCntBytes (s : State) (p : Nat) : List Byte :=
  fit 0 64 ((List.range 13).flatMap (fun f => natLe (if f = 5 || f = 6 then 8 else 4) (s.cntGet (cntKey 0x0F0C p f))))

/-- EXP_MOD_CNT (10 Table 10-10), with its two 64-bit counts. -/
def State.expModBytes (s : State) : List Byte :=
  fit 0 64 ((List.range 8).flatMap (fun f => natLe (if f = 6 || f = 7 then 8 else 4) (s.cntGet (cntKey 0x0A0A 0 f))))

/-- A telemetry block: its ID, instances, bytes of an instance rounded up to 8, its place in the mirror. -/
structure Block where
  id : Nat
  count : Nat
  bytes : Nat
  mirror : Bool
deriving DecidableEq, Repr

/-- The telemetry blocks (19 Table 19-6, 20 R501, 21 R524, 22 R541), the mirror's in table order. -/
def blocks : List Block :=
  [⟨0x040A, 120, 64, true⟩, ⟨0x050A, 60, 64, true⟩, ⟨0x050B, 60, 8, true⟩, ⟨0x0604, 60, 32, true⟩, ⟨0x0705, 3, 8, true⟩,
   ⟨0x0706, 1, 32, true⟩, ⟨0x0806, 1, 16, true⟩, ⟨0x0808, 60, 32, true⟩, ⟨0x0907, 30, 64, true⟩, ⟨0x0A09, 30, 64, true⟩,
   ⟨0x0A0A, 1, 64, true⟩, ⟨0x0B03, 1, 8, true⟩, ⟨0x0B06, 1, 32, true⟩, ⟨0x0C07, 32768, 16, false⟩,
   ⟨0x0C0D, 1, 32, true⟩, ⟨0x0D01, 262144, 8, false⟩, ⟨0x0D08, 1, 64, true⟩, ⟨0x0E01, 1, 16, true⟩,
   ⟨0x0E0C, 1, 64, true⟩, ⟨0x0F0A, 64, 16, true⟩, ⟨0x0F0B, 8, 8, true⟩, ⟨0x0F0C, 8, 64, true⟩, ⟨0x1002, 1, 16, true⟩,
   ⟨0x100A, 1, 32, true⟩, ⟨0x1108, 1, 40, true⟩, ⟨0x1109, 1, 64, true⟩, ⟨0x1209, 2, 64, true⟩, ⟨0x1407, 1, 32, false⟩,
   ⟨0x1408, 1, 64, false⟩, ⟨0x1509, 1, 8, false⟩, ⟨0x1605, 131072, 64, false⟩, ⟨0x1608, 1, 32, false⟩]

/-- The bytes of instance `i` of a telemetry block. -/
def State.blockBytes (s : State) (b : Block) (i : Nat) : List Byte :=
  match b.id with
  | 0x0705 => natLe 8 ([healthWord s.liveHealth s.plan.step, s.plan.healthCut, s.plan.healthRed].getD i 0)
  | 0x0806 => natLe 16 s.gateReg
  | 0x0A0A => s.expModBytes
  | 0x0B03 => natLe 8 s.timeStatus
  | 0x0C07 => natLe 16 (s.ctr i).word
  | 0x0D01 => natLe 8 (s.pteOf i).word
  | 0x0E01 => natLe 16 s.actStatus
  | 0x0F0A => natLe 16 (remapWord (Tab.get emptyRemap s.fab.remap i))
  | 0x0F0B => natLe 8 (s.linkStatus i)
  | 0x0F0C => s.linkCntBytes i
  | 0x1002 => natLe 16 s.faultStatus
  | 0x1108 => natLe 40 s.ckptStatus
  | 0x1407 => natLe 32 s.pwrStatus
  | 0x1509 => natLe 8 s.startStatus
  | 0x1605 => Tab.range 0 s.trust.durable (64 * i) 64
  | 0x1608 => natLe 32 s.logStatus
  | _ => s.cntBytes b.id i (b.bytes / 4) b.bytes

/-- The block with ID `id`. -/
def blockOf (id : Nat) : Option Block := blocks.find? (fun b => decide (b.id = id))

/-- Table 18-3's identity block, its first 1,024 bits, as port `p` reads it. -/
def State.identityBlock (s : State) (p : Nat) : List Byte :=
  natLe 32 (fields [(0, 0x4E384944), (32, 1), (48, p), (49, b2n (decide (s.host.steward = p))), (50, s.dev.state.code),
    (64, Config.serial.toNat), (128, Config.stepping.toNat), (160, if s.dev.fwRunning then s.dev.fwVersion else 0),
    (192, if s.dev.fwRunning then Config.tableSet.toNat else 0), (224, Tab.get 0 s.host.speed p % 16),
    (228, Tab.get 0 s.host.width p % 32)])
  ++ fit 0 16 [0x53, 0x44, 0x2D, 0x4E, 0x38, 0x2D, 0x35, 0x31, 0x32]
  ++ fit 0 48 (if s.dev.fwRunning then s.dev.fwDigest else []) ++ List.replicate 32 0

end Sys2Proof.Machine
end

