-- ==== Sys2Proof/Machine/Gears.lean ====
section
/-! DEFINITION. Gears (20 R488 to R490, 11 R264): what a half's gear is at a beat boundary, its rail's voltage, a deferred
raise. -/

namespace Sys2Proof.Machine

/-- One half's power state. -/
def State.half (s : State) (h : Nat) : HalfPower := if h = 0 then s.pwr.west else s.pwr.east

/-- One half's power state replaced. -/
def State.setHalf (s : State) (h : Nat) (p : HalfPower) : State :=
  if h = 0 then { s with pwr.west := p } else { s with pwr.east := p }

/-- VCORE of a gear in mV (20 Table 20-2). -/
def gearMv (g : Nat) : Nat := [750, 720, 680, 620].getD g 620

/-- Core cycles per beat of a gear (11 Table 11-1). -/
def gearCycles (g : Nat) : Nat := [940, 846, 705, 470].getD g 470

/-- A plan is armed: the timetable's requests count (20 R488). -/
def State.planArmed (s : State) : Bool := s.plan.loaded

/-- The effective gear R488 asks of a half: the slowest of request, ceiling and clamp, the last two as they stood at the last
beat boundary (R489, R498); G3 during start-up (21 R517, R522). -/
def State.wantGear (s : State) (h : Nat) : Nat :=
  let p := s.half h
  if s.dev.state = .booting then 3
  else Nat.max (Nat.max (if s.planArmed then p.req else 0) p.ceilNow) (if p.clampNow then 3 else 0)

/-- A half's rail stands at the voltage of gear `g`: it never left it, or the raise started long enough ago at 5 mV/µs (20
R489). -/
def State.railAt (s : State) (h g : Nat) : Bool :=
  let p := s.half h
  decide (p.railGear ≤ g)
    || (p.raising && decide (p.raiseTo ≤ g) && decide (p.raiseFrom + ceilDiv (gearMv g - gearMv p.railGear) 5 ≤ s.time.beat))

/-- A half's rail starts towards the voltage of gear `g` (20 R489). -/
def State.startRaise (s : State) (h g : Nat) : State :=
  let p := s.half h
  if g < p.railGear && !(p.raising && decide (p.raiseTo ≤ g)) then
    s.setHalf h { p with raising := true, raiseTo := g, raiseFrom := s.time.beat }
  else s

/-- A half takes gear `g`, its rail at that gear's voltage. -/
def State.takeGear (s : State) (h g : Nat) : State :=
  let p := s.half h
  let done := decide (p.raiseTo ≤ g) || decide (p.railGear ≤ g)
  s.setHalf h { p with gear := g, railGear := g, raising := p.raising && !done, deferred := none }

/-- The gear of a half at a beat boundary (20 R488, R489): a lowering acts there and the voltage follows; a raise whose rail is
not at its voltage is deferred, its voltage raise started, and counted once. -/
def State.applyGear (s : State) (h : Nat) : State :=
  let p := s.half h
  let w := s.wantGear h
  if p.gear < w then s.setHalf h { p with gear := w, railGear := Nat.max p.railGear w, deferred := none }
  else if w = p.gear then s.setHalf h { p with deferred := none }
  else if p.deferred = some w then s
  else if s.railAt h w then s.takeGear h w
  else
    let s1 := s.startRaise h w
    (s1.setHalf h { s1.half h with deferred := some w }).bump PwrCnt.gearDeferred 1

/-- Both halves' gears follow. -/
def State.applyGears (s : State) : State := (s.applyGear 0).applyGear 1

/-- A half takes note of its ceiling and clamp. -/
def State.noteCeil (s : State) (h : Nat) : State := s.setHalf h { s.half h with ceilNow := s.ceiling h, clampNow := (s.half h).clamp }

/-- A beat boundary (20 R489, R498): the ceilings and clamps that have changed since the last one act, and the gears follow. -/
def State.gearBoundary (s : State) : State := ((s.noteCeil 0).noteCeil 1).applyGears

end Sys2Proof.Machine
end

