-- ==== Sys2Proof/WellFormed.lean ====
section
/-! DEFINITION. Well-formed commands: every operand lies in the field the spec gives it. The meanings of commands with
such operands refuse an ill-formed one by the name badOperand (log 15). -/

namespace Sys2Proof

/-- A number fits `w` bits. -/
def fits (w v : Nat) : Bool := decide (v < 2 ^ w)

/-- A time message's fields fit Table 11-2. -/
def TimeMsg.ok (m : TimeMsg) : Bool :=
  fits 12 m.srcId && fits 12 m.roosterId && fits 8 m.depth && fits 28 m.gen && fits 64 m.tBeat && fits 16 m.tFrac
    && fits 48 m.rxDelta && fits 64 m.wallB0 && fits 64 m.wallW0

/-- A link message's fields fit the message header of 15 R367. -/
def LinkMsg.ok (m : LinkMsg) : Bool :=
  fits 3 m.lane && fits 4 m.kind && fits 13 m.dst && fits 13 m.src && fits 15 m.sigId && fits 8 m.sigInc && fits 48 m.addr
    && fits 8 m.num && fits 3 m.space && fits 24 m.data.length

/-- A flit's fields fit Table 15-2, with 248 payload bytes. -/
def Flit.ok (f : Flit) : Bool :=
  fits 32 f.crc && fits 3 f.lane && fits 2 f.dclass && fits 4 f.kind && fits 13 f.dst && decide (f.fill < 248)
    && decide (f.payload.length = 248)

/-- A remap entry's fields fit Table 15-10. -/
def RemapEntry.ok (e : RemapEntry) : Bool :=
  fits 12 e.ident && fits 1 e.home && fits 12 e.proxy && fits 9 e.spareFold && fits 64 e.effective

/-- A fault notice's fields fit Table 16-11. -/
def FaultNotice.ok (n : FaultNotice) : Bool := fits 13 n.src && fits 8 n.cause && fits 16 n.detail && fits 64 n.beat

/-- A gear notice's fields fit Table 20-3; HALF 0 is reserved. -/
def GearNotice.ok (n : GearNotice) : Bool :=
  fits 12 n.srcId && fits 2 n.half && decide (n.half ≠ 0) && fits 2 n.gear && fits 4 n.left && fits 64 n.effective

/-- An end marker's fields fit Table 10-4's widths. -/
def EndMarker.ok (m : EndMarker) : Bool :=
  fits 8 m.router && fits 8 m.src && fits 16 m.epoch && decide (m.counts.length ≤ 32) && m.counts.all (fits 16)

/-- The wait cycles of a command of stream `u`: only an Ox can have its feeder dry and its drain blocked at once (04 R92), and a
Goat's only stall is that of its output (05 R141). -/
def Waits.ok (w : Waits) (u : Nat) : Bool :=
  if u < 120 then decide (w.both ≤ w.stall) && decide (w.both ≤ w.outStall)
  else decide (w.both = 0) && (decide (180 ≤ u) || decide (w.stall = 0))

/-- Every operand of a command lies in its field. -/
def wellFormed (i : Instr) : Bool :=
  match i with
  | .mailboxSubmit _ _ off data => decide (off + data.length ≤ 4096) && decide (0 < data.length)
  | .consumedWrite _ _ seq => fits 32 seq
  | .respStatus _ tag => fits 16 tag
  | .respLogTail _ tag => fits 16 tag
  | .respHalt _ tag key => fits 16 tag && fits 32 key
  | .respResetPart _ tag key => fits 16 tag && fits 32 key
  | .perstDeassert _ speed width => decide (1 ≤ speed) && decide (speed ≤ 6) && decide (width ∈ [1, 4, 8, 16])
  | .bar2Read _ _ len => decide (1 ≤ len) && decide (len ≤ 4096)
  | .bar2Write _ _ data => decide (1 ≤ data.length) && decide (data.length ≤ 512)
  | .startStepDone _ ms => fits 32 ms
  | .warmResetStep _ ms => fits 32 ms
  | .i3cCcc (.entdaa a) => fits 7 a
  | .i3cCcc (.setdasa st a) => fits 7 st && fits 7 a
  | .syncRx _ m f => m.ok && fits 16 f
  | .delayMeasure _ f => fits 16 f
  | .delayReqRx _ m f h => m.ok && fits 16 f && fits 48 h
  | .delayRespRx _ m f => m.ok && fits 16 f
  | .counterSignal id inc _ => fits 15 id && fits 8 inc
  | .residencyMapRx _ v d m => fits 32 v && decide (d.length = 48) && decide (m.length ≤ 2 ^ 20)
  | .dispatchRecordRx m => fits 13 m.src && decide (64 ≤ m.data.length) && fits 24 m.data.length
  | .dispatchEndMarkerRx m => m.ok
  | .answerRx m => fits 13 m.src && decide (16 ≤ m.data.length) && fits 24 m.data.length
  | .answerEndMarkerRx m => m.ok
  | .messageRx _ m => m.ok
  | .mcastRx _ m => m.ok
  | .partialRx _ m => m.ok
  | .flitRx _ f _ => f.ok
  | .nakRx _ c => fits 16 c
  | .controlFlitRx _ cr c _ => decide (cr.length = 24) && fits 16 c
  | .flitForward _ src f => fits 13 src && f.ok
  | .peerIdentityRx _ modId role fold _ => fits 12 modId && fits 1 role && fits 9 fold
  | .echoRx _ src => fits 13 src
  | .redirectSet _ src => fits 13 src
  | .remapEntryRx _ e => e.ok
  | .remapAdopt r => fits 12 r.ident
  | .faultNoticeRx _ n => n.ok
  | .gearNoticeRx _ n => n.ok
  | .cowWriteHold _ off data => decide (off + data.length ≤ 2 ^ 21) && decide (0 < data.length)
  | .patrolScrub line _ => fits 33 line
  | .powerSample r => fits 16 r.watts && fits 16 r.vIn && fits 16 r.iIn && fits 16 r.coreW && fits 16 r.coreE
  | .trip cause detail => decide (1 ≤ cause.val) && decide (cause.val ≤ 6) && fits 8 detail
  | .thermalSample tj i o => fits 8 tj && fits 8 i && fits 8 o
  | .stackTemperatureReport _ t => fits 8 t
  | .commandComplete u w => w.ok u.val
  | _ => true

end Sys2Proof
end

