-- ==== Sys2Proof/Machine/Idle.lean ====
section
/-! DEFINITION. What a step does on an empty queue, and the check of a command's operands. -/

namespace Sys2Proof.Machine

/-- An error may arise in a line of HBM as time goes by: whether, in which line and of which kind nothing fixes (13 R318; log
135). -/
def State.lineUpset (s : State) : State :=
  let d := s.drawBool
  if d.1 then
    let l := d.2.drawNat
    let k := l.2.drawNat
    { k.2 with lineErr := Tab.upd 0 k.2.lineErr (l.1 % 2 ^ 33) (fun e => Nat.max e (1 + k.1 % 2)) }
  else d.2

/-- A tick: the beat counter counts the next beat where it runs, and its boundary is where gears change (11 R263, R264; log 1). -/
def State.tick (s : State) : State :=
  ((if s.time.counting then ({ s with time.beat := mod64 (s.time.beat + 1) } : State).gearBoundary else s).lineUpset).settleRemap

/-- A command whose operands are well formed goes on; another is refused (log 15). -/
def checked (i : Instr) (s : State) : Host.Outcome State Fault Refusal :=
  if wellFormed i then .next s else .refused .badOperand

end Sys2Proof.Machine
end

