-- ==== Sys2Proof/Machine/Operands.lean ====
section
/-! DEFINITION. Operand forms: elements, tags and scales in storage (03 R51 to R56), converted outputs (03 R55, R60 to R67, 05
R125 to R127), the compressed form (05 R129, 09 R214, R215), pattern blocks (05 R115 to R118), shape words (10 R245). -/

namespace Sys2Proof.Machine

/-! ## Elements in storage -/

/-- The code of position `p` of a tile whose value bytes `rd` reads from 0 on (03 R52). -/
def codeIn (e : Elem) (rd : Nat → Byte) (p : Nat) : Nat :=
  match e.bits with
  | 6 => bits (leNat [rd (3 * (p / 4)), rd (3 * (p / 4) + 1), rd (3 * (p / 4) + 2)]) (6 * (p % 4)) 6
  | 4 => bits (rd (p / 2)).toNat (4 * (p % 2)) 4
  | w => leNat ((List.range (w / 8)).map (fun i => rd (p * (w / 8) + i)))

/-- The place in its tile's tag or scale slice of the byte that governs position `p` (03 R53, R54). -/
def auxIn (c : Comp) (p : Nat) : Nat :=
  let r := p / 128
  let k := p % 128
  match c with
  | .plain => 4 * (r / 32) + k / 32
  | .block => 4 * r + k / 32
  | .fine => 8 * r + k / 16

/-- A tensor in storage: its format and how to read its value array and its tag or scale array. -/
structure Tensor where
  fmt : Fmt
  val : Nat → Byte
  aux : Nat → Byte

/-- The code of position `p` of tile `n`. -/
def Tensor.code (t : Tensor) (n p : Nat) : Nat := codeIn t.fmt.elem (fun i => t.val (n * t.fmt.elem.tileBytes + i)) p

/-- The tag or scale byte that governs position `p` of tile `n`. -/
def Tensor.auxAt (t : Tensor) (n p : Nat) : Nat := (t.aux (n * t.fmt.comp.sliceBytes + auxIn t.fmt.comp p)).toNat

/-- The exact value of position `p` of tile `n`, scale applied (03 R50). -/
def Tensor.value (t : Tensor) (n p : Nat) : Val :=
  match t.fmt.comp with
  | .plain => elemVal t.fmt (t.code n p)
  | c => mulVal (elemVal t.fmt (t.code n p)) (scaleVal c (t.auxAt n p))

/-- The tensor whose value array starts at key `v` and whose tag or scale array at key `a`. -/
def State.tensor (s : State) (f : Fmt) (v a : Nat) : Tensor :=
  { fmt := f, val := fun i => s.byteAt (v + i), aux := fun i => s.byteAt (a + i) }

/-- A tensor in HBM as a unit's reads deliver it. -/
def State.hbmTensor (s : State) (f : Fmt) (v a : Nat) : Tensor :=
  { fmt := f, val := fun i => (s.hbmBytes (v + i) 1).headD 0, aux := fun i => (s.hbmBytes (a + i) 1).headD 0 }

/-! ## Bytes a command writes -/

/-- The bytes a command writes, keyed by tile, array (0 values, 1 tags or scales) and place in the tile. -/
abbrev Patch := Tab (Option Byte)

/-- Key of a byte of a patch. -/
def patchKey (n arr off : Nat) : Nat := n * 2 ^ 24 + arr * 2 ^ 23 + off

/-- Where the tiles of an output lie: keys of the value and the tag or scale array, bytes of a tile in each, the Ox queue if
the output goes to one. -/
structure Place where
  key : Nat
  aux : Nat
  tileLen : Nat
  sliceLen : Nat
  queue : Option Nat
deriving DecidableEq, Repr

/-- The memory key of a byte of a patch. -/
def Place.keyOf (d : Place) (k : Nat) : Nat :=
  let n := k / 2 ^ 24
  if k % 2 ^ 24 < 2 ^ 23 then d.key + n * d.tileLen + k % 2 ^ 23 else d.aux + n * d.sliceLen + k % 2 ^ 23

/-- A byte as the command's earlier writes leave it. -/
def State.under (s : State) (d : Place) (o : Patch) (k : Nat) : Byte :=
  match Tab.get none o k with
  | some b => b
  | none => s.byteAt (d.keyOf k)

/-- One byte added to a patch. -/
def Patch.put (o : Patch) (k : Nat) (b : Byte) : Patch := Tab.set none o k (some b)

/-- Bytes added to a patch. -/
def Patch.puts (o : Patch) (k : Nat) (l : List Byte) : Patch := Tab.put none o k (l.map some)

/-- The code of position `p` of tile `n` laid into a patch (03 R52). -/
def State.layCode (s : State) (d : Place) (e : Elem) (o : Patch) (n p code : Nat) : Patch :=
  match e.bits with
  | 6 =>
    let k := patchKey n 0 (3 * (p / 4))
    let w := leNat [s.under d o k, s.under d o (k + 1), s.under d o (k + 2)]
    let j := 6 * (p % 4)
    Patch.puts o k (natLe 3 (w - (bits w j 6) <<< j + code <<< j))
  | 4 =>
    let k := patchKey n 0 (p / 2)
    let w := (s.under d o k).toNat
    let j := 4 * (p % 2)
    Patch.put o k (BitVec.ofNat 8 (w - (bits w j 4) <<< j + code <<< j))
  | w => Patch.puts o (patchKey n 0 (p * (w / 8))) (natLe (w / 8) code)

/-- The runs of neighbouring bytes in a list of (key, byte) in key order. -/
def runsOf : List (Nat × Byte) → List (Nat × List Byte)
  | [] => []
  | (k, b) :: l =>
    match runsOf l with
    | (j, bs) :: rest => if j = k + 1 then (k, b :: bs) :: rest else (k, [b]) :: (j, bs) :: rest
    | [] => [(k, [b])]

/-- A patch's bytes in its order. -/
def Patch.bytes (o : Patch) : List (Nat × Byte) := o.filterMap (fun e => e.2.map (fun b => (e.1, b)))

/-- The keys and lengths of what a patch writes. -/
def Patch.outs (d : Place) (o : Patch) : List (Nat × Nat) :=
  match d.queue with
  | some _ => []
  | none => (runsOf (o.bytes.map (fun e => (d.keyOf e.1, e.2)))).map (fun r => (r.1, r.2.length))

/-- A patch written by requester `req`: into an Ox queue tile by tile, each tile's value bytes before its slice (04 R80), or
into memory. -/
def State.flush (s : State) (req : Nat) (d : Place) (o : Patch) : State :=
  match d.queue with
  | some _ => s.writeAny req d.key (o.bytes.map (fun e => e.2))
  | none => (runsOf (o.bytes.map (fun e => (d.keyOf e.1, e.2)))).foldl (fun s r => s.write req r.1 r.2) s

/-! ## Converted outputs -/

/-- An output element: its tile and position, whether it lies in the tile grid and in the shape, its FP32 result and its index
in the enumeration. -/
structure OutEl where
  tile : Nat
  pos : Nat
  grid : Bool
  shape : Bool
  word : Word
  idx : Nat
deriving DecidableEq, Repr

/-- One square or scale block converted: its tag or scale byte, the codes of its positions, and how many results count as
saturated. `l` holds its elements in ascending position. -/
def convGroup (f : Fmt) (rc : Nat) (draw : Nat → Nat) (l : List OutEl) : Nat × List (Nat × Nat) × Nat :=
  let ins := l.filter (fun e => e.shape)
  let outs := (l.filter (fun e => !e.shape)).map (fun e => (e.pos, 0))
  match f.comp with
  | .plain =>
    let cs := ins.map (fun e => (e.pos, convPlain f.elem (rmodeOf rc) (bit rc 2) (draw e.idx) (ofF32 e.word)))
    (tagByte (cs.map (fun c => decodeElem f.elem c.2.1)), cs.map (fun c => (c.1, c.2.1)) ++ outs,
      (cs.filter (fun c => c.2.2)).length)
  | _ =>
    let r := convBlock f (rmodeOf rc) (fun i => draw ((ins.map (fun e => e.idx)).getD i 0)) (ins.map (fun e => ofF32 e.word))
    (r.1, (ins.zip r.2).map (fun x => (x.1.pos, x.2.1)) ++ outs, (r.2.filter (fun c => c.2)).length)

/-- The last element written to each position, in ascending tile and position. -/
def lastEls (els : List OutEl) : List OutEl :=
  (els.foldl (fun (t : Tab (Option OutEl)) e => Tab.set none t (e.tile * 16384 + e.pos) (some e)) []).filterMap (fun x => x.2)

/-- The elements of an output grouped by square or scale block, keyed by tile and place in the slice. -/
def groupsOf (c : Comp) (els : List OutEl) : Tab (List OutEl) :=
  els.foldl (fun t e => Tab.upd [] t (e.tile * 1024 + auxIn c e.pos) (fun l => l ++ [e])) []

/-- Saturated results of one square or scale block, overwritten ones among them: the last result of each position is converted with
the block, then what those overwrote as a block of its own, and so on back (05 R127; log 134). `n` bounds the rounds. -/
def satOf (f : Fmt) (rc : Nat) (draw : Nat → Nat) : Nat → List OutEl → Nat
  | 0, _ => 0
  | n + 1, l =>
    let top := lastEls l
    (convGroup f rc draw top).2.2 + satOf f rc draw n (l.filter (fun e => !top.any (fun x => x.idx == e.idx)))

/-- What an output's conversion gives: its patch, the tag and scale bytes written, the saturated results. -/
structure Converted where
  patch : Patch
  auxBytes : Nat
  sat : Nat
deriving DecidableEq, Repr

/-- A code is ±0: every bit but the sign of a floating-point code, every bit of an integer one (05 R129). -/
def zeroCode (e : Elem) (c : Nat) : Bool := if e.isInt then decide (c = 0) else decide (c % 2 ^ (e.bits - 1) = 0)

/-- The 512 blocks of a tile of codes, −0 taken as +0, in the packed form: header and body (09 R214, R215). -/
def packTile (e : Elem) (code : Nat → Nat) : List Byte :=
  let clean := fun p => if zeroCode e (code p) then 0 else code p
  let d := e.tileBytes
  let w := e.bits
  let blocks := (List.range 512).map (fun i =>
    let l := (List.range 32).map (fun k => clean (32 * i + k))
    let nz := l.filter (fun c => decide (c ≠ 0))
    let pack := fun (cs : List Nat) => natLe (ceilDiv (cs.length * w) 8) (cs.foldr (fun c a => c + a * 2 ^ w) 0)
    if 4 + ceilDiv (nz.length * w) 8 < 4 * w then
      (false, nz.length, natLe 4 (l.foldr (fun c a => b2n (decide (c ≠ 0)) + 2 * a) 0) ++ pack nz)
    else (true, nz.length, pack ((List.range 32).map (fun k => code (32 * i + k)))))
  let body := blocks.flatMap (fun b => b.2.2)
  let dc := blocks.foldr (fun b a => b2n b.1 + 2 * a) 0
  let nz := blocks.foldl (fun a b => a + b.2.1) 0
  natLe (d / 64) (fields [(0, dc), (512, body.length), (544, nz)]) ++ body

/-- An output converted and laid out (05 R125 to R129): elements beyond the grid are not written, those outside the shape are
written as +0. In the compressed form a position the command does not write counts as +0 (log 24). -/
def State.convert (s : State) (d : Place) (f : Fmt) (rc : Nat) (draw : Nat → Nat) (compress : Bool) (els : List OutEl) :
    Converted :=
  let all := els.filter (fun e => e.grid)
  let cells := lastEls all
  let gs := (groupsOf f.comp cells).map (fun g => (g.1, convGroup f rc draw g.2))
  let codes := gs.flatMap (fun g => g.2.2.1.map (fun c => (g.1 / 1024, c.1, c.2)))
  let vals : Patch :=
    if compress then
      let tiles := (codes.map (fun c => c.1)).foldl (fun (t : Tab Nat) n => Tab.set 0 t n 1) []
      tiles.foldl (fun o t =>
        let mine : Tab Nat := (codes.filter (fun c => c.1 == t.1)).foldl (fun m c => Tab.set 0 m c.2.1 c.2.2) []
        Patch.puts o (patchKey t.1 0 0) (packTile f.elem (fun p => Tab.get 0 mine p))) []
    else codes.foldl (fun o c => s.layCode d f.elem o c.1 c.2.1 c.2.2) []
  { patch := gs.foldl (fun o g => Patch.put o (patchKey (g.1 / 1024) 1 (g.1 % 1024)) (BitVec.ofNat 8 g.2.1)) vals,
    auxBytes := gs.length,
    sat := (groupsOf f.comp all).foldl (fun a g => a + satOf f rc draw g.2.length g.2) 0 }

/-! ## Pattern blocks -/

/-- A pattern block (05 Table 05-1). -/
structure Pat where
  kind : Nat
  fmt : Nat
  rnd : Nat
  addr : Nat
  dest : Nat
  aux : Nat
  n : List Nat
  st : List Int
  gridTc : Nat
  gridTr : Nat
  lastRows : Nat
  lastCols : Nat
deriving DecidableEq, Repr

/-- The pattern block at 64-byte unit `a` of Goat `g`'s scratchpad. -/
def State.pat (s : State) (g a : Nat) : Pat :=
  let w := s.natAt (spaceKey (goatSpace g) (64 * a)) 64
  { kind := bits w 0 2, fmt := bits w 8 8, rnd := bits w 16 4, addr := bits w 32 64, dest := bits w 96 15,
    aux := bits w 128 48, n := [bits w 176 16, bits w 192 16, bits w 208 16, bits w 224 16],
    st := [signed 32 (bits w 240 32), signed 32 (bits w 272 32), signed 32 (bits w 304 32), signed 32 (bits w 336 32)],
    gridTc := bits w 368 16, gridTr := bits w 384 16, lastRows := bits w 400 8, lastCols := bits w 408 8 }

/-- Count and stride of dimension `i`. -/
def Pat.cnt (p : Pat) (i : Nat) : Nat := p.n.getD i 1
def Pat.str (p : Pat) (i : Nat) : Int := p.st.getD i 0

/-- Elements a pattern enumerates. -/
def Pat.total (p : Pat) : Nat := p.cnt 0 * p.cnt 1 * p.cnt 2 * p.cnt 3

/-- Element offset of enumeration index `k`, i0 innermost (05 R116). -/
def Pat.offset (p : Pat) (k : Nat) : Int :=
  (k % p.cnt 0 : Nat) * p.str 0 + (k / p.cnt 0 % p.cnt 1 : Nat) * p.str 1
    + (k / (p.cnt 0 * p.cnt 1) % p.cnt 2 : Nat) * p.str 2 + (k / (p.cnt 0 * p.cnt 1 * p.cnt 2) : Nat) * p.str 3

/-- Tile and position of an element offset (05 R116); a negative offset, which only a block written at run time can hold, lies
in no storage. -/
def tilePos (e : Int) : Nat × Nat := if e < 0 then (2 ^ 31, 0) else (e.toNat / 16384, e.toNat % 16384)

/-- A tile lies in the tensor's grid (05 R117). -/
def Pat.inGrid (p : Pat) (n : Nat) : Bool := decide (p.gridTc = 0) || decide (n < p.gridTr * p.gridTc)

/-- Rows or columns valid in the last tile: 0 stands for 128. -/
def orFull (v : Nat) : Nat := if v = 0 then 128 else v

/-- An element lies in the logical shape (05 R117). -/
def Pat.inShape (p : Pat) (n pos : Nat) : Bool :=
  decide (p.gridTc = 0) || (p.inGrid n
    && !(decide (n / p.gridTc = p.gridTr - 1) && decide (orFull p.lastRows ≤ pos / 128))
    && !(decide (n % p.gridTc = p.gridTc - 1) && decide (orFull p.lastCols ≤ pos % 128)))

/-- The space and place that a KIND 2 stream names (05 Table 05-1). -/
def destKey (dest addr : Nat) : Nat := locKey (addr % 2 ^ 48) (bits dest 0 8) (if bits dest 8 3 = 3 then 0 else bits dest 8 3 + 1)

/-- Key of address `a` of a stream of Goat `g`. -/
def Pat.keyOf (p : Pat) (g a : Nat) : Nat := if p.kind = 2 then destKey p.dest a else spaceKey (goatSpace g) (a % 2 ^ 21)

/-- Where an output stream's tiles lie; a compressed tile is D + D/64 bytes (09 R214). -/
def Pat.place (p : Pat) (g : Nat) (f : Fmt) (compress : Bool) : Place :=
  let d := f.elem.tileBytes
  { key := p.keyOf g p.addr, aux := p.keyOf g p.aux, tileLen := if compress then d + d / 64 else d,
    sliceLen := f.comp.sliceBytes, queue := if p.kind = 2 then queueOfKey (p.keyOf g p.addr) else none }

/-- Ox and bank that a KIND 1 stream of Goat `g` names (05 R118): 2·ox + bank. -/
def Pat.bankOf (p : Pat) (g : Nat) : Nat := 2 * (2 * g + bits p.addr 1 1) + bits p.addr 0 1

/-- RELEASE and TILE of a KIND 1 stream (05 R118). -/
def Pat.release (p : Pat) : Bool := bit p.addr 2
def Pat.tile (p : Pat) : Nat := bits p.addr 16 16

/-- The FP32 values of an input stream of Goat `g` in enumeration order (05 R114 to R118). A format byte with no meaning, which
only a block written at run time can hold, leaves the values free (log 5). -/
def State.readPat (s : State) (g : Nat) (p : Pat) : List Word :=
  if p.kind = 1 then
    let b := p.bankOf g
    (List.range p.total).map (fun k =>
      let e := tilePos (p.offset k)
      if p.inShape e.1 e.2 then BitVec.ofNat 32 (s.natAt (spaceKey (bankSpace (b / 2) (b % 2)) (4 * (e.1 * 16384 + e.2))) 4)
      else 0)
  else
    match fmtOfByte p.fmt with
    | some f =>
      let t := s.tensor f (p.keyOf g p.addr) (p.keyOf g p.aux)
      (List.range p.total).map (fun k =>
        let e := tilePos (p.offset k)
        if p.inShape e.1 e.2 then
          (if f = fmtF32 then BitVec.ofNat 32 (t.code e.1 e.2) else toF32 (t.value e.1 e.2))
        else 0)
    | none => (List.range p.total).map (fun k => BitVec.ofNat 32 (Config.freeNat (s.freeIdx + k)))

/-- The output elements of a stream, from its results in enumeration order. -/
def Pat.outEls (p : Pat) (res : List Word) : List OutEl :=
  ((List.range res.length).zip res).map (fun x =>
    let e := tilePos (p.offset x.1)
    { tile := e.1, pos := e.2, grid := p.inGrid e.1 && decide (0 ≤ p.offset x.1), shape := p.inShape e.1 e.2, word := x.2,
      idx := x.1 })

/-- Elements per cycle of a stream (05 Table 05-7). -/
def Pat.rate (p : Pat) : Nat :=
  if p.kind = 2 then
    match fmtOfByte p.fmt with
    | some f => Nat.min 128 (2048 / f.elem.bits)
    | none => 128
  else if p.str 0 = 1 then 128 else 32

/-- Cycles of a stream, without what its tags and scales add (05 R138). -/
def Pat.cycles (p : Pat) : Nat := p.cnt 1 * p.cnt 2 * p.cnt 3 * ceilDiv (p.cnt 0) p.rate

/-! ## Shape words -/

/-- COUNT of the shape word at a key (10 Table 10-5). -/
def State.shapeCount (s : State) (key : Nat) : Nat := s.natAt key 4

end Sys2Proof.Machine
end

