-- ==== Sys2Proof/Machine/OxRows.lean ====
section
/-! DEFINITION. The Ox cores (04): operands read along K, the anchored exact chunk (03 R68 to R73), weight-, output- and
input-stationary commands, the drain and the bank tokens (04 R86, 05 R119, R120), queue credits (12 R303). -/

namespace Sys2Proof.Machine

/-! ## The descriptor -/

/-- An Ox descriptor (04 Table 04-8). -/
structure OxCmd where
  mode : Nat
  acc : Nat
  last : Bool
  bank0 : Nat
  sparse : Nat
  mask : Nat
  win : Bool
  transA : Bool
  transB : Bool
  qA : Bool
  qB : Bool
  swSel : Nat
  fmtA : Nat
  fmtB : Nat
  fmtC : Nat
  aAddr : Nat
  bAddr : Nat
  accAddr : Nat
  cAddr : Nat
  maskAddr : Nat
  winAddr : Nat
  m : Nat
  n : Nat
  k : Nat
  chunk0 : Nat
  fill : Word
  diag : Int
  swAddr : Nat
  planCyc : Nat
  slackCyc : Nat
  statAddr : Nat
deriving DecidableEq, Repr

/-- The fields of an Ox descriptor (04 Table 04-8). -/
def oxCmd (d : Nat) : OxCmd :=
  { mode := bits d 128 2, acc := bits d 130 2, last := bit d 132, bank0 := bits d 133 1, sparse := bits d 134 2,
    mask := bits d 136 2, win := bit d 138, transA := bit d 139, transB := bit d 140, qA := bit d 141, qB := bit d 142,
    swSel := bits d 143 2, fmtA := bits d 160 8, fmtB := bits d 168 8, fmtC := bits d 176 8, aAddr := bits d 192 14,
    bAddr := bits d 208 14, accAddr := bits d 224 14, cAddr := bits d 240 14, maskAddr := bits d 256 14,
    winAddr := bits d 272 14, m := bits d 288 13, n := bits d 304 13, k := bits d 320 24, chunk0 := bits d 352 29,
    fill := BitVec.ofNat 32 (bits d 384 32), diag := signed 16 (bits d 416 16), swAddr := bits d 432 14,
    planCyc := bits d 448 32, slackCyc := bits d 480 16, statAddr := bits d 496 14 }

/-- Key of 256-byte unit `a` of Ox `x`'s scratchpad. -/
def oxKey (x a : Nat) : Nat := spaceKey (oxSpace x) (256 * a)

/-! ## Operands along K -/

/-- The tag that the square or scale block of position `p` of tile `n` gives (03 R56). -/
def Tensor.tagOf (t : Tensor) (n p : Nat) : Int :=
  let b := t.auxAt n p
  match t.fmt.comp with
  | .plain => (b : Int) - 127
  | .block => (b : Int) - 127 + t.fmt.elem.cf
  | .fine =>
    match scale43 b with
    | .nan => Config.nanScaleTag b
    | v => match v.log2 with
      | some l => l + t.fmt.elem.cf + 1
      | none => -127

/-- An operand as its feeder delivers it: the value at (m, k), the tag of a K-block, and whether the element violates its
square's tag (03 R57). -/
structure KMat where
  val : Nat → Nat → Val
  tag : Nat → Nat → Int
  viol : Nat → Nat → Bool

/-- |v| is at least 2^(E + 1) for a finite v. -/
def tagViolates (v : Val) (e : Int) : Bool :=
  match v.log2 with
  | some l => decide (e + 1 ≤ l)
  | none => false

/-- The largest of the tags; −127 for none. -/
def maxTag (l : List Int) : Int :=
  match l with
  | [] => -127
  | a :: r => r.foldl max a

/-- A tensor read along K from storage coordinates: `at_ m k` is the stored row and column, none for padding; `ks m kb` are
the K positions of a K-block. -/
def kmatOf (t : Tensor) (tc : Nat) (at_ : Nat → Nat → Option (Nat × Nat)) (ks : Nat → List Nat) : KMat :=
  let place := fun (rc : Nat × Nat) => ((rc.1 / 128) * tc + rc.2 / 128, 128 * (rc.1 % 128) + rc.2 % 128)
  { val := fun m k => match at_ m k with
      | some rc => t.value (place rc).1 (place rc).2
      | none => .fin false 0 1 0,
    tag := fun m kb => maxTag ((ks kb).filterMap (fun k => (at_ m k).map (fun rc => t.tagOf (place rc).1 (place rc).2))),
    viol := fun m k => match at_ m k with
      | some rc => decide (t.fmt.comp = .plain) &&
          tagViolates (t.value (place rc).1 (place rc).2) (t.tagOf (place rc).1 (place rc).2)
      | none => false }

/-- A tensor block in Ox `x`'s scratchpad: its tag or scale array follows its `tiles` value tiles at the next 256-byte
boundary (04 R80). -/
def State.oxTensor (s : State) (x a : Nat) (f : Fmt) (tiles : Nat) : Tensor :=
  s.tensor f (oxKey x a) (oxKey x a + roundUp (tiles * f.elem.tileBytes) 256)

/-- A tensor block arriving through a feeder queue: each tile's value bytes, then its slice (04 R80). -/
def queueTensor (f : Fmt) (q : List Byte) : Tensor :=
  let v := f.elem.tileBytes
  let a := f.comp.sliceBytes
  { fmt := f, val := fun i => q.getD (i / v * (v + a) + i % v) 0, aux := fun i => q.getD (i / a * (v + a) + v + i % a) 0 }

/-- Bytes of a queue operand of `tiles` tiles. -/
def queueBytes (f : Fmt) (tiles : Nat) : Nat := tiles * (f.elem.tileBytes + f.comp.sliceBytes)

/-- A window block (04 Table 04-7). -/
structure Window where
  h : Nat
  w : Nat
  c : Nat
  kh : Nat
  kw : Nat
  sh : Nat
  sw : Nat
  dh : Nat
  dw : Nat
  pt : Nat
  pb : Nat
  pl : Nat
  pr : Nat
deriving DecidableEq, Repr

/-- The window block at a key. -/
def State.window (s : State) (key : Nat) : Window :=
  let b := s.natAt key 16
  { h := bits b 0 16, w := bits b 16 16, c := bits b 32 16, kh := bits b 48 4 + 1, kw := bits b 52 4 + 1, sh := bits b 64 8,
    sw := bits b 72 8, dh := bits b 80 8, dw := bits b 88 8, pt := bits b 96 8, pb := bits b 104 8, pl := bits b 112 8,
    pr := bits b 120 8 }

/-- OW of 04 R96. -/
def Window.outW (v : Window) : Nat := (v.w + v.pl + v.pr - v.dw * (v.kw - 1) - 1) / v.sw + 1

/-- Image row and channel that element (m, k) of the expanded A reads; none for padding (04 R96). -/
def Window.at_ (v : Window) (m k : Nat) : Option (Nat × Nat) :=
  let oh := m / v.outW
  let ow := m % v.outW
  let kh := k / (v.kw * v.c)
  let kw := k / v.c % v.kw
  let c := k % v.c
  let h : Int := (oh * v.sh + kh * v.dh : Nat) - (v.pt : Int)
  let w : Int := (ow * v.sw + kw * v.dw : Nat) - (v.pl : Int)
  if 0 ≤ h ∧ h < v.h ∧ 0 ≤ w ∧ w < v.w then some (h.toNat * v.w + w.toNat, c) else none

/-- Tiles of a stored tensor of `r` rows and `c` columns. -/
def tilesOf (r c : Nat) : Nat := ceilDiv r 128 * ceilDiv c 128

/-- Stored rows and columns of A: those of the image under WIN, turned by TRANS_A (04 R94, R95). -/
def OxCmd.shapeA (c : OxCmd) (v : Window) : Nat × Nat :=
  let (r, k) := if c.win then (v.h * v.w, v.c) else (c.m, c.k)
  if c.transA then (k, r) else (r, k)

/-- Stored rows and columns of B. -/
def OxCmd.shapeB (c : OxCmd) : Nat × Nat := if c.transB then (c.n, c.k) else (c.k, c.n)

/-- A's tensor: from its queue the bytes the feeder consumed. -/
def State.oxA (s : State) (x : Nat) (c : OxCmd) (f : Fmt) (v : Window) : Tensor :=
  if c.qA then queueTensor f (s.queue (2 * x)).fed else s.oxTensor x c.aAddr f (tilesOf (c.shapeA v).1 (c.shapeA v).2)

/-- B's tensor. -/
def State.oxB (s : State) (x : Nat) (c : OxCmd) (f : Fmt) : Tensor :=
  if c.qB then queueTensor f (s.queue (2 * x + 1)).fed else s.oxTensor x c.bAddr f (tilesOf c.shapeB.1 c.shapeB.2)

/-- The 32 stored K positions of a K-block (03 R56). -/
def kblock (kb : Nat) : List Nat := (List.range 32).map (fun i => 32 * kb + i)

/-- A along K; under WIN a K-block's positions at or beyond K′ do not exist (04 R97). -/
def OxCmd.matA (c : OxCmd) (t : Tensor) (v : Window) (kEff : Nat) : KMat :=
  let turn := fun (rc : Nat × Nat) => if c.transA then (rc.2, rc.1) else rc
  let at_ := fun m k => if c.win then (v.at_ m k).map turn else some (turn (m, k))
  kmatOf t (ceilDiv (c.shapeA v).2 128) at_ (fun kb => if c.win then (kblock kb).filter (fun k => decide (k < kEff)) else kblock kb)

/-- B along K: column j of B, or row j of its stored transpose. -/
def OxCmd.matB (c : OxCmd) (t : Tensor) : KMat :=
  kmatOf t (ceilDiv c.shapeB.2 128) (fun j k => some (if c.transB then (j, k) else (k, j))) kblock

/-! ## The anchored exact chunk -/

/-- ⌊|p| / 2^lsb⌋ with the sign of p (03 R70). -/
def quantum (lsb : Int) : Val → Int
  | .fin neg n d x =>
    let sh := x - lsb
    let q : Nat := if 0 ≤ sh then (n <<< sh.toNat) / d else n / (d <<< (-sh).toNat)
    if neg then -(q : Int) else q
  | _ => 0

/-- A product is a negative zero. -/
def negZero : Val → Bool
  | .fin neg n _ _ => neg && n == 0
  | _ => false

/-- The chunk of the products `ps` under anchor `a` (03 R70 to R72). -/
def chunkOf (a : Int) (ps : List Val) : Word :=
  let infs := ps.filter Val.isInf
  if ps.any Val.isNan then nan32
  else if infs.any Val.neg && infs.any (fun v => !v.neg) then nan32
  else if !infs.isEmpty then (if infs.any Val.neg then ninf32 else pinf32)
  else
    let lsb := a - 103
    let t := ps.foldl (fun t p => t + quantum lsb p) 0
    if t = 0 then (if ps.all negZero then 0x80000000 else 0)
    else toF32 (.fin (decide (t < 0)) t.natAbs 1 lsb)

/-- Chunk `ch` of output element (i, j) (03 R57, R68, R69). -/
def chunkAt (a b : KMat) (i j kEff ch : Nat) : Word :=
  let ks := (List.range (Nat.min 128 (kEff - 128 * ch))).map (fun d => 128 * ch + d)
  if ks.any (fun k => a.viol i k || b.viol j k) then nan32
  else
    let kbs := (List.range (ceilDiv ks.length 32)).map (fun d => 4 * ch + d)
    chunkOf (maxTag (kbs.map (fun kb => a.tag i kb + b.tag j kb)) + 2) (ks.map (fun k => mulVal (a.val i k) (b.val j k)))

/-- The chunk results of element (i, j) in ascending order. -/
def chunksAt (a b : KMat) (i j kEff : Nat) : List Word :=
  (List.range (ceilDiv kEff 128)).map (fun ch => chunkAt a b i j kEff ch)

/-- Violating K-blocks of one row or column (04 R111). -/
def violBlocks (a : KMat) (m kEff : Nat) : Nat :=
  ((List.range (ceilDiv kEff 32)).filter (fun kb =>
    (kblock kb).any (fun k => decide (k < kEff) && a.viol m k))).length

/-! ## Sparsity -/

/-- Non-zero elements of group `g` of row or column `m` (04 R98). -/
def groupNz (a : KMat) (m kEff g : Nat) : Nat :=
  (([0, 1, 2, 3].map (fun d => 4 * g + d)).filter (fun k => decide (k < kEff) && !(a.val m k).isZero)).length

/-- A group of the `n` held rows or columns in K range [lo, hi) holds more than `lim` non-zeros. -/
def overGroup (a : KMat) (n kEff lo hi lim : Nat) : Bool :=
  (List.range n).any (fun m => (List.range (Nat.min hi kEff / 4 + 1)).any (fun g =>
    decide (lo ≤ 4 * g) && decide (4 * g < hi) && decide (lim < groupNz a m kEff g)))

/-- Held tiles that violate their declaration, and the extra passes (04 R100); `span` is the K positions of a held tile. A last tile that
K' cuts short is halved at half of `span`, and an upper half beyond K' still counts its pass, which the rule leaves open (log 133). -/
def sparseSplits (a : KMat) (n kEff span sparse : Nat) : Nat × Nat :=
  (List.range (ceilDiv kEff span)).foldl (fun acc t =>
    let lo := span * t
    let hi := lo + span
    let mid := lo + span / 2
    if sparse = 1 && overGroup a n kEff lo hi 2 then (acc.1 + 1, acc.2 + 1)
    else if sparse = 2 && overGroup a n kEff lo hi 1 then
      (acc.1 + 1, acc.2 + 1 + b2n (overGroup a n kEff lo mid 2) + b2n (overGroup a n kEff mid hi 2))
    else acc) (0, 0)

/-! ## A command's results -/

/-- What an Ox command does: extents, code, counts, passes, and the accumulators of its output. -/
structure OxOut where
  mEff : Nat
  nEff : Nat
  kEff : Nat
  code : Nat
  capped : Bool
  splits : Nat
  extra : Nat
  viols : Nat
  nans : Nat
  gated : Nat
  passes : Nat
  cycles : Nat
  word : Nat → Nat → Word

/-- Lanes and stream interval of a format (04 Table 04-1). -/
def laneOf (e : Elem) : Nat :=
  match e.bits with
  | 4 => 4
  | 6 => 2
  | 8 => 2
  | _ => 1
def intervalOf (e : Elem) : Nat := if e.bits = 32 then 4 else 1

/-- The mask keeps output element (i, j) (04 R101). -/
def State.oxKeep (s : State) (x : Nat) (c : OxCmd) (i j : Nat) : Bool :=
  match c.mask with
  | 1 =>
    let p := 128 * (i % 128) + j
    bit (s.byteAt (oxKey x c.maskAddr + 2048 * (i / 128) + p / 8)).toNat (p % 8)
  | 2 => decide ((j : Int) - i ≤ c.diag)
  | _ => true

/-- Tile and place of output element (i, j): tiles follow M, or N in IS (04 Table 04-2). -/
def OxCmd.tilePlace (c : OxCmd) (i j : Nat) : Nat × Nat :=
  if c.mode = 2 then (j / 128, 128 * i + j % 128) else (i / 128, 128 * (i % 128) + j)

/-- Row and column of place `p` of output tile `t`. -/
def OxCmd.placeOf (c : OxCmd) (t p : Nat) : Nat × Nat :=
  if c.mode = 2 then (p / 128, 128 * t + p % 128) else (128 * t + p / 128, p % 128)

/-- Starting value of output element (i, j) (04 R83). -/
def State.oxInit (s : State) (x : Nat) (c : OxCmd) (i j : Nat) : Word :=
  match c.acc with
  | 1 => BitVec.ofNat 32 (s.natAt (oxKey x c.accAddr + 256 + 65536 * (c.tilePlace i j).1 + 4 * (c.tilePlace i j).2) 4)
  | 2 =>
    match fmtOfByte c.fmtC with
    | some f =>
      toF32 ((s.oxTensor x c.cAddr f (tilesOf c.m c.n)).value ((i / 128) * ceilDiv c.n 128 + j / 128)
        (128 * (i % 128) + j % 128))
    | none => 0
  | _ => 0

/-- Effective extents M′, N′, K′ under the shape word's count `n`, and whether it was capped (04 R107). -/
def OxCmd.extents (c : OxCmd) (n : Nat) : Nat × Nat × Nat × Bool :=
  match c.swSel with
  | 1 => if c.mode = 2 then (c.m, Nat.min n c.n, c.k, decide (c.n < n)) else (Nat.min n c.m, c.n, c.k, decide (c.m < n))
  | 2 => (c.m, c.n, Nat.min n c.k, decide (c.k < n))
  | _ => (c.m, c.n, c.k, false)

/-- The streamed extent: N′ in IS, else M′. -/
def OxCmd.streamed (c : OxCmd) (m n : Nat) : Nat := if c.mode = 2 then n else m

/-- The command with its effective extents in place of its caps: the shapes of what its producers send to its queues. -/
def OxCmd.bounded (c : OxCmd) (m n k : Nat) : OxCmd := { c with m := m, n := n, k := k }

/-- CODE of the start conditions: 1 CHUNK_ORDER (04 R83, R84, R107). -/
def State.oxCode (s : State) (x : Nat) (c : OxCmd) (ext kEff : Nat) : Nat :=
  let h := s.natAt (oxKey x c.accAddr) 8
  let held := bit h 31 && decide (bits h 0 29 = c.chunk0) && decide (bits h 32 13 = ext)
  if (c.acc = 1 && !held) || (!c.last && c.swSel = 2 && decide (kEff % 128 ≠ 0)) then 1 else 0

/-- Output tiles of an extent. -/
def OxCmd.tiles (c : OxCmd) (mEff nEff : Nat) : Nat := if c.mode = 2 then ceilDiv nEff 128 else ceilDiv mEff 128

/-- Completion cycle without stalls (04 Table 04-5). -/
def OxCmd.cycles (c : OxCmd) (p i l mEff nEff kEff : Nat) : Nat :=
  if (if c.mode = 2 then nEff else mEff) = 0 then 16
  else if kEff = 0 then 16 + 128 * c.tiles mEff nEff
  else
    match c.mode with
    | 0 => 128 * p + i * (p * mEff - 1) + 272
    | 2 => 128 * p + i * (p * nEff - 1) + 272
    | _ => 128 + i * (ceilDiv kEff l - 1) + 400

/-- What the command of Ox `x` computes, from the count of its shape word and the code of its start conditions, both of cycle 0. Three
points are the model's (log 133): a row group that gating keeps out leaves its starting value in the partial area at LAST = 0; a
CHUNK_ORDER command of a declared sparsity completes with no split passes counted; a command that issues no pass still takes its
queue operands. -/
def State.oxRun (s : State) (x : Nat) (c : OxCmd) (fa fb : Fmt) (cnt code : Nat) : OxOut :=
  let (m, n, k, capped) := c.extents cnt
  let ext := c.streamed m n
  let v := s.window (oxKey x c.winAddr)
  let l := Nat.min (laneOf fa.elem) (laneOf fb.elem)
  let i0 := Nat.max (intervalOf fa.elem) (intervalOf fb.elem)
  let i := if c.win && decide (v.c % 32 ≠ 0) then 2 * i0 else i0
  let span := 128 * l * 2 ^ c.sparse
  let base := ceilDiv k span
  let ca := if c.qA then c.bounded m n k else c
  let cb := if c.qB then c.bounded m n k else c
  let ma := ca.matA (s.oxA x ca fa v) v k
  let mb := cb.matB (s.oxB x cb fb)
  let runs := decide (ext ≠ 0) && decide (code = 0) && decide (k ≠ 0)
  let gates := if c.mask = 0 || n = 0 then []
    else (List.range (ceilDiv m 16)).filter (fun g =>
      (List.range 16).all (fun d => decide (m ≤ 16 * g + d) || (List.range n).all (fun j => !s.oxKeep x c (16 * g + d) j)))
  let rows := if runs then (List.range m).filter (fun r => !gates.contains (r / 16)) else []
  let cols := if runs then List.range n else []
  let sp := if runs && decide (c.sparse ≠ 0) then
      (if c.mode = 2 then sparseSplits ma m k span c.sparse else sparseSplits mb n k span c.sparse)
    else (0, 0)
  let p := base + sp.2
  { mEff := m, nEff := n, kEff := k, code := code, capped := capped, splits := sp.1, extra := sp.2,
    viols := (rows.map (fun r => violBlocks ma r k)).sum + (cols.map (fun j => violBlocks mb j k)).sum,
    nans := (rows.map (fun r => (cols.map (fun j => ((chunksAt ma mb r j k).filter isNan32).length)).sum)).sum,
    gated := if runs then gates.length * (if c.mode = 1 then 1 else p) else 0, passes := p,
    cycles := c.cycles p i l m n k,
    word := fun r j =>
      if code = 1 then nan32
      else if gates.contains (r / 16) || !runs then s.oxInit x c r j
      else (chunksAt ma mb r j k).foldl fadd (s.oxInit x c r j) }

/-- The 16,384 words of output tile `t`: +0 outside the extent, FILL for a dropped element at LAST = 1 (04 R86, R102,
R105). -/
def State.oxTileWords (s : State) (x : Nat) (c : OxCmd) (o : OxOut) (t : Nat) : List Word :=
  (List.range 16384).map (fun p =>
    let (i, j) := c.placeOf t p
    if o.mEff ≤ i ∨ o.nEff ≤ j then 0
    else if c.last && !s.oxKeep x c i j then (if isNan32 c.fill then nan32 else c.fill)
    else o.word i j)

/-! ## The drain -/

/-- Token of bank `b` of Ox `x`: at key 2x + b. -/
def State.token (s : State) (k : Nat) : Token := Tab.get Token.atOx s.unit.tokens k

/-- A bank's token moved. -/
def State.setToken (s : State) (k : Nat) (t : Token) : State :=
  { s with unit.tokens := Tab.set Token.atOx s.unit.tokens k t }

/-- The drain of Ox `x` writes its next tiles, each into its bank while it holds that bank's token, and passes the token on
(04 R86, R91). -/
def State.drainOx (s : State) (x : Nat) : Nat → State
  | 0 => s
  | f + 1 =>
    match s.unit.tiles.find? (fun t => t.ox == x) with
    | some t =>
      if s.token (2 * x + t.bank) = .atOx then
        let s1 := (s.poke (spaceKey (bankSpace x t.bank) 0) (t.words.flatMap (fun w => natLe 4 w.toNat))).setToken
          (2 * x + t.bank) (.toGoat t.tag)
        State.drainOx { s1 with unit.tiles := s1.unit.tiles.erase t } x f
      else s
    | none => s

/-- The Ox scratchpad after a command: the partial area of an unfinished product, or VALID cleared (04 R82, R85). NEXT_CHUNK counts the
whole chunks of K' only, and wraps at 2^29, which the field cannot hold (log 133). -/
def State.oxPartial (s : State) (x : Nat) (c : OxCmd) (o : OxOut) : State :=
  let key := oxKey x c.accAddr
  let ext := if c.mode = 2 then o.nEff else o.mEff
  if !c.last then
    let s1 := (List.range (c.tiles o.mEff o.nEff)).foldl (fun s' t =>
      s'.poke (key + 256 + 65536 * t) ((s.oxTileWords x c o t).flatMap (fun w => natLe 4 w.toNat))) s
    s1.poke key (natLe 256 (fields [(0, (c.chunk0 + o.kEff / 128) % 2 ^ 29), (31, 1), (32, ext)]))
  else if c.acc = 1 then
    let h := s.natAt key 4
    s.poke key (natLe 4 (h - bits h 31 1 * 2 ^ 31))
  else s

/-- The bytes that a command's feeders need from its A and its B queue: the tiles of its effective extents, whole (04 R80, R107);
none with a streamed extent of 0. A command that ends in CHUNK_ORDER takes them as if its passes had run (log 133). -/
def State.oxNeeds (s : State) (x : Nat) (c : OxCmd) (fa fb : Fmt) (cnt : Nat) : Nat × Nat :=
  let (m, n, k, _) := c.extents cnt
  let e := c.bounded m n k
  let sh := e.shapeA (s.window (oxKey x c.winAddr))
  if c.streamed m n = 0 then (0, 0)
  else (if c.qA then queueBytes fa (tilesOf sh.1 sh.2) else 0, if c.qB then queueBytes fb (tilesOf e.shapeB.1 e.shapeB.2) else 0)

/-- The ranges whose contents a stop of the command leaves undefined: the banks, and its partial area where it uses one (04 R85,
R112). -/
def OxCmd.loose (c : OxCmd) (x m n : Nat) : List (Nat × Nat) :=
  [(spaceKey (bankSpace x 0) 0, 65536), (spaceKey (bankSpace x 1) 0, 65536)]
    ++ (if !c.last || decide (c.acc = 1) then [(oxKey x c.accAddr, 256 + 65536 * c.tiles m n)] else [])

/-- The command in progress that an Ox command becomes: its status record's fixed part and its counts (04 Tables 04-9,
04-10). -/
def State.oxFlight (s : State) (x d : Nat) (c : OxCmd) (o : OxOut) : InFlight :=
  { s.newFlight x d with
      cycles := o.cycles, code := o.code, capped := o.capped, planCyc := c.planCyc, slackCyc := c.slackCyc,
      status := fields [(0, o.code), (5, b2n (decide (0 < o.splits))), (6, b2n (decide (0 < o.viols))),
        (7, b2n (decide (0 < o.nans))), (8, b2n o.capped), (16, sat16 o.extra), (96, sat16 o.nans), (112, sat16 o.viols)],
      statKey := some (oxKey x c.statAddr),
      bumps := [(OxCnt.tagViol x, o.viols), (OxCnt.nanChunks x, o.nans), (OxCnt.sparseViol x, o.splits),
        (OxCnt.splitPasses x, o.extra), (OxCnt.chunkOrder x, o.code), (OxCnt.shapeCapped x, b2n o.capped),
        (OxCnt.gatedGroups x, o.gated), (OxCnt.commands x, 1)],
      outs := c.loose x o.mEff o.nEff, solo := decide (c.streamed o.mEff o.nEff = 0) || decide (o.kEff = 0) }

/-- An Ox command whose feeders have what they need (04 R87, R91): its results, the partial area and the drain. -/
def State.oxIssue (s : State) (x : Nat) (w : Work) (fa fb : Fmt) : State :=
  let c := oxCmd w.desc
  let o := s.oxRun x c fa fb w.count w.code
  let f := s.oxFlight x w.desc c o
  let s1 := ((s.launch x f).updQueue (2 * x) (fun q => { q with fed := [] })).updQueue (2 * x + 1) (fun q => { q with fed := [] })
  if c.streamed o.mEff o.nEff = 0 then s1
  else
    let s2 := s1.oxPartial x c o
    if c.last then
      let g := ((s2.stream x).flight.getLast?).getD f
      let tiles := (List.range (c.tiles o.mEff o.nEff)).map (fun t =>
        ({ ox := x, bank := (c.bank0 + t) % 2, tag := t, desc := g.desc, rep := g.rep, words := s.oxTileWords x c o t } : OxTile))
      let s3 : State := { s2 with unit.tiles := s2.unit.tiles ++ tiles }
      s3.drainOx x s3.unit.tiles.length
    else s2

/-- The command in hand of Ox `x` takes in what its queues hold and issues once it has all it needs (04 R91). -/
def State.oxFeed (s : State) (x : Nat) : State :=
  match s.parked x with
  | some w =>
    let c := oxCmd w.desc
    match fmtOfByte c.fmtA, fmtOfByte c.fmtB with
    | some fa, some fb =>
      let n := s.oxNeeds x c fa fb w.count
      let s1 := (s.updQueue (2 * x) (fun q => q.feed n.1)).updQueue (2 * x + 1) (fun q => q.feed n.2)
      if n.1 ≤ (s1.queue (2 * x)).fed.length && n.2 ≤ (s1.queue (2 * x + 1)).fed.length then s1.oxIssue x w fa fb else s1
    | _, _ => s
  | none => s

/-- The command of MODE `mode` at the head of Ox `x`'s stream, if its cycle 0 has come. -/
def State.readyOx (s : State) (x mode : Nat) : Option Nat :=
  match s.ready x 0 with
  | some d => if dUnit d = 1 && bits d 128 2 = mode then some d else none
  | none => none

/-- Cycle 0 of an Ox command (04 R83, R107): the shape word is read and the start conditions are checked. -/
def State.oxBegin (s : State) (x d : Nat) : State :=
  let c := oxCmd d
  let cnt := s.shapeCount (oxKey x c.swAddr)
  let (m, n, k, _) := c.extents cnt
  let code := if c.streamed m n = 0 then 0 else s.oxCode x c (c.streamed m n) k
  let s1 := s.parkCmd x { s.newWork d with count := cnt, code := code } c.planCyc c.slackCyc (oxKey x c.statAddr)
  s1.setLast x (fun f => { f with outs := c.loose x m n })

/-- An Ox command of MODE `mode` starts. -/
def State.oxStep (s : State) (x mode : Nat) : State :=
  match s.readyOx x mode with
  | some d =>
    match fmtOfByte (oxCmd d).fmtA, fmtOfByte (oxCmd d).fmtB with
    | some _, some _ => (s.oxBegin x d).oxFeed x
    | _, _ => s
  | none => s

/-- OX_WS (04 Table 04-2, R87). -/
def execOxWs (x : Fin 120) (s : State) : Host.Outcome State Fault Refusal := .next (s.oxStep x.val 0)

/-- OX_OS (04 Table 04-2, R87). -/
def execOxOs (x : Fin 120) (s : State) : Host.Outcome State Fault Refusal := .next (s.oxStep x.val 1)

/-- OX_IS (04 Table 04-2, R87). -/
def execOxIs (x : Fin 120) (s : State) : Host.Outcome State Fault Refusal := .next (s.oxStep x.val 2)

/-! ## Tokens and credits -/

/-- BANK_TOKEN_RETURN (05 R120): a returned token reaches the Ox, whose drain goes on. -/
def execBankTokenReturn (x : Fin 120) (bank : Fin 2) (s : State) : Host.Outcome State Fault Refusal :=
  match s.token (2 * x.val + bank.val) with
  | .toOx =>
    let s1 := s.setToken (2 * x.val + bank.val) .atOx
    .next (s1.drainOx x.val s1.unit.tiles.length)
  | _ => .next s

/-- QUEUE_CREDIT_RETURN (12 R303): the credits of consumed flits reach the producer, which sends what it has waiting; the
feeder of a command in hand consumes what has come (04 R91). -/
def execQueueCreditReturn (x : Fin 120) (q : Fin 2) (s : State) : Host.Outcome State Fault Refusal :=
  let k := 2 * x.val + q.val
  let s1 := s.oxFeed x.val
  let s2 := s1.updQueue k (fun f => { f with returning := 0, credits := f.credits + f.returning })
  .next ((s2.sendQueue k).oxFeed x.val)

end Sys2Proof.Machine
end

