-- ==== Sys2Proof/Machine/HenRows.lean ====
section
/-! DEFINITION. The Hen cores (09): gather, scatter with accumulation, sparse by dense products; SAMPLE (14 R352). -/

namespace Sys2Proof.Machine

/-! ## Rows of tile-major tensors -/

/-- A tile-major tensor in a memory: keys of its value array and its scale array, tile columns, format. -/
structure RowBlock where
  val : Nat
  aux : Nat
  tc : Nat
  fmt : Fmt
deriving DecidableEq, Repr

/-- The tensor block of `rows` × `cols` at a key (04 R80). -/
def blockAt (key rows cols : Nat) (f : Fmt) : RowBlock :=
  { val := key, aux := key + roundUp (tilesOf rows cols * f.elem.tileBytes) 256, tc := ceilDiv cols 128, fmt := f }

/-- Tile and position of element (r, c). -/
def RowBlock.place (b : RowBlock) (r c : Nat) : Nat × Nat := ((r / 128) * b.tc + c / 128, 128 * (r % 128) + c % 128)

/-- Scale bytes of a row of `w` columns. -/
def scaleCount (f : Fmt) (w : Nat) : Nat := match f.comp with
  | .plain => 0
  | c => ceilDiv w c.blockLen

/-- B_row: a row's value bytes and scale bytes (09 R208). -/
def rowBytes (f : Fmt) (w : Nat) : Nat := ceilDiv (w * f.elem.bits) 8 + scaleCount f w

/-- The pieces of row `r` of `w` columns: keys and lengths, the value bytes tile by tile and then the scale bytes. -/
def RowBlock.rowPieces (b : RowBlock) (r w : Nat) : List (Nat × Nat) :=
  let e := b.fmt.elem
  let n := b.fmt.comp.sliceBytes / 128
  (List.range (ceilDiv w 128)).map (fun c =>
    (b.val + (b.place r (128 * c)).1 * e.tileBytes + 16 * (r % 128) * e.bits,
      ceilDiv (Nat.min 128 (w - 128 * c) * e.bits) 8))
  ++ (match b.fmt.comp with
    | .plain => []
    | cm => (List.range (ceilDiv w 128)).map (fun c =>
        (b.aux + (b.place r (128 * c)).1 * cm.sliceBytes + n * (r % 128),
          ceilDiv (Nat.min 128 (w - 128 * c)) cm.blockLen)))

/-- The bytes of a row in that order: its codes packed as R52 packs them, then its scale bytes (10 R242). -/
def State.rowAt (s : State) (b : RowBlock) (r w : Nat) : List Byte := (b.rowPieces r w).flatMap (fun p => s.read p.1 p.2)

/-- What reading a row does besides delivering its bytes. -/
def State.noteRow (s : State) (req : Nat) (b : RowBlock) (r w : Nat) : State :=
  (b.rowPieces r w).foldl (fun s p => s.noteRead req p.1 p.2) s

/-- A row's bytes laid at its pieces. -/
def State.putPieces (s : State) (req : Nat) : List (Nat × Nat) → List Byte → State
  | [], _ => s
  | p :: l, d => (s.write req p.1 (fit 0 p.2 d)).putPieces req l (d.drop p.2)

/-- Row `r` written. -/
def State.putRow (s : State) (req : Nat) (b : RowBlock) (r w : Nat) (data : List Byte) : State :=
  s.putPieces req (b.rowPieces r w) data

/-- The tensor as a reader of exact values has it. -/
def State.blockTensor (s : State) (b : RowBlock) : Tensor :=
  { fmt := b.fmt, val := fun i => (s.read (b.val + i) 1).headD 0, aux := fun i => (s.read (b.aux + i) 1).headD 0 }

/-- Row `r` as FP32 (03 R59): the codes themselves of an FP32 tensor. -/
def State.rowF32 (s : State) (b : RowBlock) (r w : Nat) : List Word :=
  let t := s.blockTensor b
  (List.range w).map (fun c =>
    let p := b.place r c
    if b.fmt = fmtF32 then BitVec.ofNat 32 (t.code p.1 p.2) else toF32 (t.value p.1 p.2))

/-- The bytes of FP32 words. -/
def wordBytes (l : List Word) : List Byte := l.flatMap (fun w => natLe 4 w.toNat)

/-- The whole stored grid of an output that starts with `rows` rows of `w` columns, zeros beyond (03 R51, R53). -/
def State.putGrid (s : State) (req : Nat) (b : RowBlock) (w : Nat) (rows : List (List Byte)) : State :=
  let grid := roundUp w 128
  let n := roundUp rows.length 128
  (List.range n).foldl (fun s r =>
    let d := rows.getD r []
    let v := ceilDiv (w * b.fmt.elem.bits) 8
    let vals := fit 0 (ceilDiv (grid * b.fmt.elem.bits) 8) (d.take v)
    s.putRow req b r grid (vals ++ d.drop v)) s

/-- Keys and lengths of the tiles of an output grid of `rows` × `w`. -/
def RowBlock.outs (b : RowBlock) (rows w : Nat) : List (Nat × Nat) :=
  let n := ceilDiv rows 128 * ceilDiv w 128
  [(b.val, n * b.fmt.elem.tileBytes), (b.aux, match b.fmt.comp with
    | .plain => 0
    | c => n * c.sliceBytes)]

/-! ## The descriptor -/

/-- A Hen descriptor of HOP 0x01 to 0x03 (09 Table 09-5). -/
structure HenCmd where
  tHbm : Bool
  acc : Bool
  swSel : Nat
  mesh : Bool
  fmtA : Nat
  fmtB : Nat
  idx : Nat
  src : Nat
  out : Nat
  tbl : Nat
  w : Nat
  count : Nat
  destNum : Nat
  destKind : Nat
  rows : Nat
  k : Nat
  cap : Nat
  sw : Nat
  stat : Nat
  planCyc : Nat
  slackCyc : Nat
deriving DecidableEq, Repr

/-- The fields of a Hen descriptor (09 Table 09-5). -/
def henCmd (d : Nat) : HenCmd :=
  { tHbm := bit d 136, acc := bit d 137, swSel := bits d 138 2, mesh := bit d 140, fmtA := bits d 144 8, fmtB := bits d 152 8,
    idx := bits d 160 14, src := bits d 176 14, out := bits d 192 14, tbl := bits d 208 48, w := bits d 256 16,
    count := bits d 272 20, destNum := bits d 292 8, destKind := bits d 300 3, rows := bits d 304 32, k := bits d 336 16,
    cap := bits d 352 32, sw := bits d 384 14, stat := bits d 400 14, planCyc := bits d 416 32, slackCyc := bits d 448 16 }

/-- Stream of Hen `h`, which is also its requester index (12 R283, 02 R43). -/
def henStream (h : Nat) : Nat := 180 + h

/-- Key of 256-byte unit `a` of Hen `h`'s scratchpad. -/
def henKey (h a : Nat) : Nat := spaceKey (henSpace h) (256 * a)

/-- Key of the output (09 R207): the own scratchpad, or that of the core O_DEST names. -/
def HenCmd.outKey (c : HenCmd) (h : Nat) : Nat :=
  if c.mesh then locKey (256 * c.out) c.destNum (c.destKind + 1) else henKey h c.out

/-- COUNT′ or K′ and whether the shape word was capped (09 R226). -/
def State.henBound (s : State) (h : Nat) (c : HenCmd) (sel v : Nat) : Nat × Bool :=
  if c.swSel = sel then
    let n := s.shapeCount (henKey h c.sw)
    (Nat.min n v, decide (v < n))
  else (v, false)

/-- Index `i` of the command's index array, as a signed number (09 R204). -/
def State.henIdx (s : State) (h : Nat) (c : HenCmd) (i : Nat) : Int := signed 32 (s.natAt (henKey h c.idx + 4 * i) 4)

/-- A Hen command in progress: `status` holds what its record fixes at cycle 0, `extra` the counts of 09 Table 09-7. -/
def State.henFlight (s : State) (h d : Nat) (c : HenCmd) (cycles status : Nat) (capped : Bool) (extra : List Bump)
    (outs : List (Nat × Nat)) : InFlight :=
  { s.newFlight (henStream h) d with
      cycles := cycles, planCyc := c.planCyc, slackCyc := c.slackCyc, capped := capped,
      status := status + fields [(5, b2n capped)], statBits := 9, statKey := some (henKey h c.stat),
      bumps := [(HenCnt.commands h, 1), (HenCnt.shapeCapped h, b2n capped)] ++ extra, outs := outs }

/-- A command whose bound is 0: it completes at cycle 16 with nothing done (09 R226). -/
def State.henShort (s : State) (h d : Nat) (c : HenCmd) (capped : Bool) : State :=
  s.startCmd (henStream h) (s.henFlight h d c 16 0 capped [] [])

/-! ## GATHER -/

/-- Cycle 0 of a Hen command clears its reuse buffer (09 R208). -/
def State.clearReuse (s : State) (h : Nat) : State := { s with unit.reuse := Tab.set [] s.unit.reuse h [] }

/-- The reuse buffer after the rows of `idx`, and the hits (09 R208): least recently used replaced, `cap` rows held. -/
def reuseRows (cap : Nat) : List Nat → List Nat × Nat
  | l => l.foldl (fun st x => if st.1.contains x then (x :: st.1.erase x, st.2 + 1) else ((x :: st.1).take cap, st.2)) ([], 0)

/-- GATHER (09 R207 to R209). -/
def State.gather (s : State) (h d : Nat) : State :=
  let c := henCmd d
  let u := henStream h
  match fmtOfByte c.fmtA with
  | none => s
  | some f =>
    let (n, capped) := s.henBound h c 1 c.count
    if n = 0 then s.henShort h d c capped
    else
      let tb := blockAt (if c.tHbm then c.tbl else henKey h c.src) c.rows c.w f
      let ob := blockAt (c.outKey h) c.count c.w f
      let idx := (List.range n).map (fun i => s.henIdx h c i)
      let good := fun (x : Int) => decide (0 ≤ x) && decide (x < c.rows)
      let ins := (idx.filter good).map Int.toNat
      let bRow := rowBytes f c.w
      let cap := if 262144 < bRow then 0 else Nat.min 4096 (262144 / Nat.max 1 bRow)
      let (held, hits) := reuseRows cap ins
      let fetches := ins.length - hits
      let oor := n - ins.length
      let rows := idx.map (fun x => if good x then s.rowAt tb x.toNat c.w else List.replicate bRow 0)
      let t := 48 + Nat.max (Nat.max (ceilDiv n 64) (fetches * ceilDiv bRow (if c.tHbm then 256 else 512)))
        (n * ceilDiv bRow (if c.mesh then 256 else 512))
      let s1 := (ins.eraseDups).foldl (fun s x => s.noteRow u tb x c.w) s
      let s2 := s1.putGrid u ob c.w rows
      let s3 : State := { s2 with unit.reuse := Tab.set [] s2.unit.reuse h held }
      s3.startCmd u (s.henFlight h d c t (fields [(64, sat32 oor), (96, sat32 hits)]) capped
        [(HenCnt.oorIdx h, oor), (HenCnt.reuseHits h, hits), (HenCnt.rowFetches h, fetches)] (ob.outs n c.w))

/-- GATHER at the head of Hen `h`'s stream. -/
def execGather (h : Fin 30) (s : State) : Host.Outcome State Fault Refusal :=
  match s.readyExec (henStream h.val) 5 0x01 with
  | some d => .next ((s.clearReuse h.val).gather h.val d)
  | none => .next s

/-! ## SCATTER_ADD -/

/-- The groups of one window, in order of their first position (09 R210): destination and partial row. -/
def windowGroups : List (Nat × List Word) → List (Nat × List Word)
  | l => l.foldl (fun gs x =>
      if gs.any (fun g => g.1 == x.1) then
        gs.map (fun g => if g.1 == x.1 then (g.1, List.zipWith fadd g.2 x.2) else g)
      else gs ++ [x]) []

/-- Destination rows by number, as the windows leave them. -/
abbrev RowTab := Tab (List Word)

/-- One window's groups added to their destinations; `row0` reads a row not yet touched. -/
def addGroups (row0 : Nat → List Word) (t : RowTab) (gs : List (Nat × List Word)) : RowTab :=
  gs.foldl (fun t g =>
    let old := Tab.get [] t g.1
    Tab.set [] t g.1 (List.zipWith fadd (if old.isEmpty then row0 g.1 else old) g.2)) t

/-- SCATTER_ADD (09 R210 to R213). -/
def State.scatterAdd (s : State) (h d : Nat) : State :=
  let c := henCmd d
  let u := henStream h
  match fmtOfByte c.fmtA with
  | none => s
  | some f =>
    let (n, capped) := s.henBound h c 1 c.count
    if n = 0 then s.henShort h d c capped
    else
      let sb := blockAt (henKey h c.src) c.count c.w f
      let db := blockAt (if c.tHbm then c.tbl else henKey h c.out) c.rows c.w fmtF32
      let good := fun (x : Int) => decide (0 ≤ x) && decide (x < c.rows)
      let wins := (List.range (ceilDiv n 64)).map (fun w =>
        ((List.range (Nat.min 64 (n - 64 * w))).map (fun i => 64 * w + i)))
      let kept := wins.map (fun ps => ps.filter (fun i => good (s.henIdx h c i)))
      let groups := kept.map (fun ps => windowGroups (ps.map (fun i => ((s.henIdx h c i).toNat, s.rowF32 sb i c.w))))
      let rows := groups.foldl (addGroups (fun r => s.rowF32 db r c.w)) []
      let nKept := (kept.map List.length).sum
      let updates := (groups.map List.length).sum
      let cSrc := ceilDiv (rowBytes f c.w) 512
      let cUpd := Nat.max (ceilDiv c.w 128) (ceilDiv (4 * c.w) (if c.tHbm then 256 else 512))
      let t := 48 + ((wins.zip groups).map (fun x => Nat.max (x.1.length * cSrc) (x.2.length * cUpd))).sum
      let oor := n - nKept
      let nan := rows.any (fun r => r.2.any isNan32)
      let s1 := rows.foldl (fun s r => s.noteRow u db r.1 c.w) s
      let s2 := rows.foldl (fun s r => s.putRow u db r.1 c.w (wordBytes r.2)) s1
      s2.startCmd u (s.henFlight h d c t (fields [(7, b2n nan), (64, sat32 oor), (96, sat32 updates)]) capped
        [(HenCnt.oorIdx h, oor), (HenCnt.updates h, updates), (HenCnt.combined h, nKept - updates)]
        (rows.flatMap (fun r => db.rowPieces r.1 c.w)))

/-- SCATTER_ADD at the head of Hen `h`'s stream. -/
def execScatterAdd (h : Fin 30) (s : State) : Host.Outcome State Fault Refusal :=
  match s.readyExec (henStream h.val) 5 0x02 with
  | some d => .next ((s.clearReuse h.val).scatterAdd h.val d)
  | none => .next s

/-! ## SPMM -/

/-- A compressed tile as SPMM reads it (09 R214 to R217): whether it is well formed, NZ, and the code of each position. -/
structure PackedTile where
  ok : Bool
  nz : Nat
  code : Nat → Nat

/-- The blocks of a packed body from block `i` on at byte `o`: codes by position, and the byte where the parse ends. -/
def unpackBlocks (e : Elem) (dc : Nat) (body : Nat → Nat → Nat) : Nat → Nat → Nat → Tab Nat → Nat × Tab Nat
  | 0, _, o, t => (o, t)
  | n + 1, i, o, t =>
    let w := e.bits
    if bit dc i then
      let v := body o (4 * w)
      unpackBlocks e dc body n (i + 1) (o + 4 * w) (Tab.put 0 t (32 * i) ((List.range 32).map (fun k => bits v (w * k) w)))
    else
      let map := body o 4
      let cols := (List.range 32).filter (fun k => bit map k)
      let len := ceilDiv (cols.length * w) 8
      let v := body (o + 4) len
      unpackBlocks e dc body n (i + 1) (o + 4 + len)
        (((List.range cols.length).zip cols).foldl (fun t x => Tab.set 0 t (32 * i + x.2) (bits v (w * x.1) w)) t)

/-- The compressed tile at a key. -/
def State.packedTile (s : State) (e : Elem) (key : Nat) : PackedTile :=
  let d := e.tileBytes
  let h := s.natAt key (d / 64)
  let len := bits h 512 32
  let r := unpackBlocks e (bits h 0 512) (fun o n => s.natAt (key + d / 64 + o) n) 512 0 0 []
  { ok := decide (len ≤ d) && decide (h >>> 559 = 0) && decide (r.1 = len), nz := bits h 544 15,
    code := fun p => Tab.get 0 r.2 p }

/-- Cycles of one tile of A (09 R222). -/
def tileCycles (z : Nat) : Nat := Nat.max 1 (ceilDiv z 32 + ceilDiv z 224)

/-- Chunk `ch` of output (i, j): products only where a's code is not zero, an absent one counting as +0 (09 R219). -/
def sparseChunk (a b : KMat) (present : Nat → Nat → Bool) (i j kEff ch : Nat) : Word :=
  let ks := (List.range (Nat.min 128 (kEff - 128 * ch))).map (fun d => 128 * ch + d)
  let on := ks.filter (fun k => present i k)
  if on.any (fun k => a.viol i k || b.viol j k) then nan32
  else
    let kbs := (List.range (ceilDiv ks.length 32)).map (fun d => 4 * ch + d)
    chunkOf (maxTag (kbs.map (fun kb => a.tag i kb + b.tag j kb)) + 2)
      (on.map (fun k => mulVal (a.val i k) (b.val j k)) ++ (if on.length < ks.length then [.fin false 0 1 0] else []))

/-- SPMM (09 R218 to R224). -/
def State.spmm (s : State) (h d : Nat) : State :=
  let c := henCmd d
  let u := henStream h
  match fmtOfByte c.fmtA, fmtOfByte c.fmtB with
  | some fa, some fb =>
    let (m, cap1) := s.henBound h c 1 c.count
    let (k, cap2) := s.henBound h c 2 c.k
    let capped := cap1 || cap2
    if m = 0 then s.henShort h d c capped
    else
      let stride := fa.elem.tileBytes + fa.elem.tileBytes / 64
      let tiles := (List.range (ceilDiv k 128)).map (fun t => s.packedTile fa.elem (henKey h c.src + t * stride))
      let tile := fun t => tiles.getD t { ok := false, nz := 0, code := fun _ => 0 }
      let aAux := henKey h c.src + roundUp (ceilDiv c.k 128 * stride) 256
      let aCode := fun (i kk : Nat) => (tile (kk / 128)).code (128 * i + kk % 128)
      let aSlice := fun (kk p : Nat) => (s.byteAt (aAux + (kk / 128) * fa.comp.sliceBytes + auxIn fa.comp p)).toNat
      let at0 : Tensor := { fmt := fa, val := fun _ => 0, aux := fun o => s.byteAt (aAux + o) }
      let ma : KMat :=
        { val := fun i kk => match fa.comp with
            | .plain => elemVal fa (aCode i kk)
            | cm => mulVal (elemVal fa (aCode i kk)) (scaleVal cm (aSlice kk (128 * i + kk % 128))),
          tag := fun i kb => maxTag ((kblock kb).map (fun kk => at0.tagOf (kk / 128) (128 * i + kk % 128))),
          viol := fun i kk => decide (fa.comp = .plain) &&
            tagViolates (elemVal fa (aCode i kk)) (at0.tagOf (kk / 128) (128 * i + kk % 128)) }
      let bb := blockAt (henKey h c.idx) c.k c.w fb
      let mb := kmatOf (s.blockTensor bb) bb.tc (fun j kk => some (kk, j)) kblock
      let present := fun (i kk : Nat) => !zeroCode fa.elem (aCode i kk)
      let chunks := List.range (ceilDiv k 128)
      let word := fun (i j ch : Nat) => if (tile ch).ok then sparseChunk ma mb present i j k ch else nan32
      let key := c.outKey h
      let start := fun (i j : Nat) =>
        if c.acc then canon32 (BitVec.ofNat 32 (s.natAt (key + (j / 128) * 65536 + 4 * (128 * i + j % 128)) 4)) else 0
      let res := (List.range m).map (fun i => (List.range c.w).map (fun j =>
        chunks.foldl (fun a ch => fadd a (word i j ch)) (start i j)))
      let nans := ((List.range m).map (fun i => ((List.range c.w).map (fun j =>
        (chunks.filter (fun ch => isNan32 (word i j ch))).length)).sum)).sum
      let good := chunks.filter (fun ch => (tile ch).ok)
      let nz := (good.map (fun ch => ((List.range m).map (fun i =>
        ((List.range (Nat.min 128 (k - 128 * ch))).filter (fun q => present i (128 * ch + q))).length)).sum)).sum
      let kbs := (List.range (ceilDiv k 32)).filter (fun kb => (tile (kb / 4)).ok)
      let viols := ((List.range m).map (fun i => (kbs.filter (fun kb =>
          (kblock kb).any (fun kk => decide (kk < k) && present i kk && ma.viol i kk))).length)).sum
        + ((List.range c.w).map (fun j => (kbs.filter (fun kb => (kblock kb).any (fun kk =>
            decide (kk < k) && mb.viol j kk && (List.range m).any (fun i => present i kk)))).length)).sum
      let bad := chunks.length - good.length
      let outBytes := 512 * roundUp c.w 128
      let o := ceilDiv outBytes (if c.mesh then 256 else 512)
      let t := 64 + (tiles.map (fun x => tileCycles (if x.ok then x.nz else 16384))).sum + o * (1 + b2n c.acc)
      let isOver := decide (c.cap < nz)
      let s1 := (List.range (ceilDiv c.w 128)).foldl (fun s' tcol =>
        s'.write u (key + tcol * 65536) ((List.range 16384).flatMap (fun p =>
          natLe 4 ((res.getD (p / 128) []).getD (128 * tcol + p % 128) 0).toNat))) s
      let s2 := s1.poke (spaceKey (accSpace h) 0) ((List.range 128).flatMap (fun i =>
        (List.range 256).flatMap (fun j => natLe 4 ((res.getD i []).getD j 0).toNat)))
      s2.startCmd u (s.henFlight h d c t
        (fields [(0, b2n (decide (0 < bad))), (6, b2n isOver), (7, b2n (decide (0 < nans))), (8, b2n (decide (0 < viols))),
          (96, sat32 nz)]) capped
        [(HenCnt.nzProcessed h, nz), (HenCnt.nzOver h, b2n isOver), (HenCnt.malformed h, bad), (HenCnt.nanChunks h, nans),
          (HenCnt.tagViol h, viols)] [(key, outBytes), (spaceKey (accSpace h) 0, 131072)])
  | _, _ => s

/-- SPMM at the head of Hen `h`'s stream. -/
def execSpmm (h : Fin 30) (s : State) : Host.Outcome State Fault Refusal :=
  match s.readyExec (henStream h.val) 5 0x03 with
  | some d => .next ((s.clearReuse h.val).spmm h.val d)
  | none => .next s

/-! ## SAMPLE (14 R352 to R354) -/

/-- One row's result: token, log-probability, and whether P_TOP cut the kept set short. -/
structure Sampled where
  token : Nat
  logp : Word
  cut : Bool
deriving DecidableEq, Repr

/-- The order of R352: by falling probability, then by index. -/
def rankBefore (a b : Nat × Word) : Bool :=
  decide (key32 b.2 < key32 a.2) || (decide (key32 a.2 = key32 b.2) && decide (a.1 ≤ b.1))

/-- Elements ranked by falling value, ties to the lower index. -/
def ranked (p : List Word) : List (Nat × Word) := sortBy rankBefore ((List.range p.length).zip p)

/-- The kept set: elements until their sum reaches P_TOP; the sum. -/
def keptSet (pTop : Word) : Word → List (Nat × Word) → List (Nat × Word) × Word
  | z, [] => ([], z)
  | z, x :: l =>
    let z1 := fadd z x.2
    if fle pTop z1 then ([x], z1)
    else
      let r := keptSet pTop z1 l
      (x :: r.1, r.2)

/-- The first kept element whose running sum passes `t`. -/
def pickAbove (t : Word) : Word → List (Nat × Word) → Option Nat
  | _, [] => none
  | c, x :: l =>
    let c1 := fadd c x.2
    if flt t c1 then some x.1 else pickAbove t c1 l

/-- One row sampled; none for a row with K_TOP 0, whose result the spec does not state. -/
def sampleRow (p : List Word) (kTop : Nat) (pTop : Word) (draw : Nat) (lp : Nat → Word) : Option Sampled :=
  if p.any isNan32 then some { token := 0xFFFFFFFF, logp := nan32, cut := false }
  else
    let top := (ranked p).take kTop
    let (kept, z) := keptSet pTop 0 top
    match kept with
    | [] => none
    | x :: _ =>
      let cut := decide (kept.length < top.length)
      let e :=
        if isZero32 z then x.1
        else
          let t := fmul (toF32 (.fin false draw 1 (-24))) z
          (pickAbove t 0 kept).getD (kept.getLastD x).1
      some { token := e, logp := lp e, cut := cut }

/-- SAMPLE at the head of Hen `h`'s stream. -/
def State.sampleCmd (s : State) (h d : Nat) : State :=
  let u := henStream h
  let v := bits d 224 18
  let cap := bits d 256 7
  let n0 := s.shapeCount (henKey h (bits d 288 14))
  let shaped := decide (bits d 137 2 = 1)
  let n := if shaped then Nat.min n0 cap else cap
  let capped := shaped && decide (cap < n0)
  let pb := blockAt (henKey h (bits d 160 14)) cap v fmtF32
  let lb := blockAt (henKey h (bits d 176 14)) cap v fmtF32
  let prm := fun (r lo w : Nat) => bits (s.natAt (henKey h (bits d 208 14) + 32 * r) 32) lo w
  let row := fun r =>
    sampleRow (s.rowF32 pb r v) (prm r 0 7) (BitVec.ofNat 32 (prm r 32 32))
      (draw24 (prm r 64 64) (prm r 128 32) (prm r 16 16) (bits d 272 16) (s.plan.step % 2 ^ 40) s.seed)
      (fun e => if bit d 136 then
          let p := lb.place r e
          BitVec.ofNat 32 ((s.blockTensor lb).code p.1 p.2)
        else 0)
  let res := (List.range n).map row
  let free := s.drawBytes (8 * n)
  let bytes := ((List.range n).zip res).flatMap (fun x => match x.2 with
    | some o => natLe 4 o.token ++ natLe 4 o.logp.toNat
    | none => (free.1.drop (8 * x.1)).take 8)
  let nan := (res.filter (fun o => match o with
    | some x => decide (x.token = 0xFFFFFFFF)
    | none => false)).length
  let cuts := (res.filter (fun o => match o with
    | some x => x.cut
    | none => false)).length
  let out := henKey h (bits d 192 14)
  let t := 48 + ((List.range n).map (fun r => ceilDiv v 64 + prm r 0 7 + 8)).sum
  (free.2.write u out bytes).startCmd u
    { s.newFlight u d with
        cycles := t, planCyc := bits d 320 32, slackCyc := bits d 352 16, capped := capped,
        status := fields [(0, if 0 < nan then 3 else 0), (5, b2n capped), (64, sat32 nan), (96, sat32 cuts)], statBits := 7,
        statKey := some (henKey h (bits d 304 14)),
        bumps := [(ActCnt.sampleRows, n), (ActCnt.sampleNan, nan), (HenCnt.shapeCapped h, b2n capped)],
        outs := [(out, 8 * n)] }

/-- SAMPLE (14 R352). -/
def execSample (h : Fin 30) (s : State) : Host.Outcome State Fault Refusal :=
  match s.readyExec (henStream h.val) 5 0x04 with
  | some d => .next ((s.clearReuse h.val).sampleCmd h.val d)
  | none => .next s

end Sys2Proof.Machine
end

