-- ==== Sys2Proof/Machine/Routing.lean ====
section
/-! DEFINITION. Routes of the torus (15 R374 to R380, R396): the hops of a packet with their ports and classes; where the traffic
of a ring leaves and arrives (R383, R384). -/

namespace Sys2Proof.Machine

/-- A hop of a route: the node it leaves (a module ID, or 0x1000 + fold for a spare), its link and the class it travels in. -/
structure Hop where
  node : Nat
  port : Nat
  cls : Nat
deriving DecidableEq, Repr

/-- The dimension in which a packet detours round a hole in dimension `d`; none if no other ring is larger than 1. -/
def State.detourDim (s : State) (d : Nat) : Option Nat := [(d + 1) % 3, (d + 2) % 3].find? (fun e => decide (1 < s.ringOf e))

/-- The port of a hop in dimension `d` from `at_` for a packet of source `src`: between paired modules in L7 mode 1 a packet
whose SRC has bit 0 set uses L7 (15 R378). -/
def State.hopPort (s : State) (src at_ d : Nat) (plus : Bool) : Nat :=
  if s.fab.l7Mode = 1 && decide (d = 0) && bit src 0 && decide (s.neighbour at_ 0 plus = (at_ ^^^ 1)) then 7
  else 2 * d + (if plus then 0 else 1)

/-- The hops between two positions (15 R378, R379): X, then Y, then Z, the shorter way, + on a tie; class 1 from the hop that
crosses the dateline of its dimension on; round a hole by way of the next dimension, in class 2 from then on. `last` is the
dimension of the previous hop and `cls` its class. -/
def State.legs (s : State) (src : Nat) : Nat → Nat → Nat → Nat → Nat → List Hop
  | 0, _, _, _, _ => []
  | fuel + 1, at_, goal, last, cls =>
    match [0, 1, 2].find? (fun d => decide (coord at_ d ≠ coord goal d)) with
    | none => []
    | some d =>
      let n := Nat.max 1 (s.ringOf d)
      let plus := byPlus n ((coord goal d + n - coord at_ d % n) % n)
      let next := s.neighbour at_ d plus
      match (if s.isHole next then s.detourDim d else none) with
      | some e =>
        let a1 := s.neighbour at_ e true
        let a2 := s.neighbour a1 d plus
        let a3 := s.neighbour a2 d plus
        [⟨at_, s.hopPort src at_ e true, 2⟩, ⟨a1, s.hopPort src a1 d plus, 2⟩, ⟨a2, s.hopPort src a2 d plus, 2⟩,
          ⟨a3, s.hopPort src a3 e false, 2⟩] ++ s.legs src fuel (s.neighbour a3 e false) goal d 2
      | none =>
        let crosses := if plus then decide (coord next d < coord at_ d) else decide (coord at_ d < coord next d)
        let c := if cls = 2 then 2 else if crosses then 1 else if last = d then cls else 0
        ⟨at_, s.hopPort src at_ d plus, c⟩ :: s.legs src fuel next goal d c

/-- The link of a spare that is wired to a module: its own fold's members on links 0 to 7, the other fold's on 8 to 15 (15 R365). -/
def wiredLink (fold id : Nat) : Nat := id % 8 + (if foldOf id = fold then 0 else 8)

/-- Where a packet of source `src` enters the torus, and the hop of a spare that sends it (15 R396): a spare's own packet enters
at the destination's member if that lies in its fold, else at the member of the same X (log 23). -/
def State.entryOf (s : State) (src dst : Nat) : List Hop × Nat :=
  match s.remapOf src with
  | some e =>
    let p := if e.dead then e.proxy else e.ident
    ([⟨0x1000 + e.spareFold, wiredLink e.spareFold p, 0⟩], p)
  | none =>
    if src < 0x1000 then ([], src)
    else
      let p := memberId (src - 0x1000) (dst % 8)
      ([⟨src, p % 8, 0⟩], p)

/-- Where a packet for `dst` leaves the torus, and the side hop's port (15 R396). -/
def State.exitOf (s : State) (dst at_ : Nat) : Nat × Option Nat :=
  match s.remapOf dst with
  | some e => (if e.dead then e.proxy else e.ident, some (if e.home = 0 then 6 else 7))
  | none => if dst < 0x1000 then (dst, none) else (memberId (dst - 0x1000) (at_ % 8), some 6)

/-- The whole route of a packet, a function of source, destination, remap table and configuration (15 R380). -/
def State.path (s : State) (src dst : Nat) : List Hop :=
  if src = dst then []
  else
    let a := s.entryOf src dst
    let z := s.exitOf dst a.2
    let mid := s.legs src 64 a.2 z.1 3 0
    let esc := if mid.any (fun h => h.cls == 2) then 2 else 0
    a.1 ++ mid ++ (match z.2 with
      | some p => [⟨z.1, p, esc⟩]
      | none => [])

/-- The node that the module is. -/
def State.ownNode (s : State) : Nat := if s.fab.role = 0 then s.fab.modId else 0x1000 + s.fab.fold

/-- The hop that a packet takes at this module; none where it does not pass it or ends at it. -/
def State.hopHere (s : State) (src dst : Nat) : Option Hop := (s.path src dst).find? (fun h => h.node == s.ownNode)


/-! ## Rings (15 R378, R383, R384) -/

/-- The module `n` places on from the module in a port's direction; the module at the other end of L6 or L7. -/
def State.onward (s : State) (p n : Nat) : Nat :=
  if p < 6 then
    let d := p / 2
    let size := Nat.max 1 (s.ringOf d)
    let k := n % size
    setCoord s.ownId d ((coord s.ownId d + (if p % 2 = 0 then k else size - k)) % size)
  else s.peerIn p

/-- The class in which traffic of `src` that runs round the ring in port `p`'s direction leaves for the module `next`: 1 from the
hop that crosses the dateline on, 2 from a hole on its way on (15 R378, R379). -/
def State.ringClass (s : State) (src p next : Nat) : Nat :=
  let d := p / 2
  let n := Nat.max 1 (s.ringOf d)
  let plus := decide (p % 2 = 0)
  let far := if plus then (coord next d + n - coord src d) % n else (coord src d + n - coord next d) % n
  let at_ := fun k => setCoord src d ((coord src d + (if plus then k else n - k)) % n)
  if (List.range far).any (fun k => decide (0 < k) && s.isHole (at_ k)) then 2
  else if (if plus then decide (coord next d < coord src d) else decide (coord src d < coord next d)) then 1 else 0

/-- The link and class by which a message of `src` for the module `next`, next in port `p`'s direction, leaves: the port itself
from the module's own place on the ring; by the route from a spare, or towards a hole (15 R378, R396). -/
def State.ringExit (s : State) (src p next : Nat) : Nat × Nat :=
  if s.fab.role = 0 && !s.isHole next then (p, if p < 6 then s.ringClass src p next else 0)
  else match s.path s.fabricAddr next with
    | h :: _ => (h.port, Nat.max h.cls (if p < 6 then s.ringClass src p next else 0))
    | [] => (p, 0)

/-- The port by whose direction a message of `src`, next to the module on a ring, comes: the port it arrives by, unless a spare
stands at either end; then the port at which the route of R378 would bring it (15 R396; log 139). -/
def State.ringEntry (s : State) (link src : Nat) : Nat :=
  if s.fab.role = 0 && (s.remapOf src).isNone then link % 8
  else
    match [0, 1, 2].find? (fun d => decide (coord src d ≠ coord s.ownId d)) with
    | some d =>
      let n := Nat.max 1 (s.ringOf d)
      oppositePort (2 * d + (if byPlus n ((coord s.ownId d + n - coord src d % n) % n) then 0 else 1))
    | none => link % 8

/-- The link at which a packet of `src` comes to the module by its route (15 R378, R379, R396); 16 for none. -/
def State.arrival (s : State) (src : Nat) : Nat :=
  match (s.path src s.fabricAddr).getLast? with
  | none => 16
  | some h =>
    if s.fab.role ≠ 0 then wiredLink s.fab.fold h.node
    else if 0x1000 ≤ h.node then (if h.node - 0x1000 = foldOf s.fab.modId then 6 else 7)
    else if h.port = 7 then 7 else oppositePort h.port

end Sys2Proof.Machine
end

