-- ==== Sys2Proof/Machine/Trailer.lean ====
section
/-! DEFINITION. Router entries (10 Table 10-1) and the contribution trailer (15 R387, Table 15-6): its fields, its combination,
the step tap records (07 R563). -/

namespace Sys2Proof.Machine

/-- A router entry (10 Table 10-1). -/
structure Router where
  e : Nat
  k : Nat
  depth : Nat
  renorm : Nat
  g : Nat
  s : Nat
  quota : Nat
  tMax : Nat
  qRes : Nat
  maxSwaps : Nat
  hyst : Nat
  imgPages : Nat
  hostFrom : Nat
  coldDim : Nat
  hostBase : Nat
  coldOff : Nat
  slotBase : Nat
  groupTab : Nat
  mapAddr : Nat
  usageWin : Nat
  recv : List Nat
  answ : List Nat
deriving DecidableEq, Repr

/-- Router entry `r` of the loaded plan (10 R232). -/
def State.router (s : State) (r : Nat) : Router :=
  let v := s.planNat (s.secOff 8 + 128 * r) 128
  let a := fun lo => addr256 (bits v lo 40)
  { e := bits v 0 11, k := bits v 11 4, depth := bits v 15 2, renorm := bits v 17 2, g := bits v 24 8 + 1,
    s := bits v 32 5 + 1, quota := bits v 48 16, tMax := bits v 64 20, qRes := bits v 96 16, maxSwaps := bits v 112 8,
    hyst := bits v 120 4, imgPages := bits v 128 16, hostFrom := bits v 144 11, coldDim := bits v 160 2,
    hostBase := bits v 176 43, coldOff := bits v 224 32, slotBase := a 256, groupTab := a 296, mapAddr := a 336,
    usageWin := a 376, recv := [a 416, a 456, a 496, a 536], answ := [a 576, a 616, a 656, a 696] }

/-! ## Trailers -/

/-- Bytes of usage vectors of the plan's routers: 4·E each, in router order. -/
def State.usageBytes (s : State) : Nat := (List.range s.routers).foldl (fun a r => a + 4 * (s.router r).e) 0

/-- Bytes of a trailer's payload (15 R387). -/
def State.payloadBytes (s : State) : Nat := 64 * s.selEntries + s.usageBytes

/-- Bytes of a trailer of the loaded plan. -/
def State.trailerBytes (s : State) : Nat := 576 + s.payloadBytes

/-- The little-endian number at `off` in a list of bytes. -/
def natIn (l : List Byte) (off n : Nat) : Nat := leNat (fit 0 n (l.drop off))

/-- A trailer header (15 Table 15-6). -/
def trailerHeader (health step contrib payload : Nat) : List Byte :=
  natLe 64 (fields [(0, health % 16), (16, step % 2 ^ 16), (64, sat32 contrib), (96, payload)])

/-- HEALTH, STEP and CONTRIB of a trailer. -/
def trHealth (t : List Byte) : Nat := bits (natIn t 0 64) 0 4
def trStep (t : List Byte) : Nat := bits (natIn t 0 64) 16 16
def trContrib (t : List Byte) : Nat := bits (natIn t 0 64) 64 32

/-- The trailer that stands for no trailer at all: clean, nothing combined, with the step's number, so that a mark it carries
is not stale to the next hop (15 R385, R388; log 29). -/
def State.emptyTrailer (s : State) : List Byte :=
  trailerHeader 0 s.plan.step 0 s.payloadBytes ++ List.replicate (512 + s.payloadBytes) 0

/-- Two trailers combined field by field (15 R387); `sel` is the number of tap records, `len` the whole length. -/
def joinTrailers (sel len : Nat) (a b : List Byte) : List Byte :=
  let pad := fit (0 : Byte) len
  let a := pad a
  let b := pad b
  let head := trailerHeader (trHealth a ||| trHealth b) (trStep a) (trContrib a + trContrib b) (bits (natIn a 0 64) 96 32)
  let late := List.zipWith (fun x y => x ||| y) ((a.drop 64).take 512) ((b.drop 64).take 512)
  let words := (List.range ((len - 576) / 4)).flatMap (fun i =>
    let x := natIn a (576 + 4 * i) 4
    let y := natIn b (576 + 4 * i) 4
    natLe 4 (if i < 16 * sel && i % 16 == 0 then Nat.max x y else sat32 (x + y)))
  head ++ late ++ words

/-- Bits set in a trailer's late map (15 R388). -/
def markTrailer (ids : List Nat) (t : List Byte) : List Byte :=
  ids.foldl (fun t m =>
    if m < 4096 then
      let i := 64 + m / 8
      t.set i ((t.getD i 0) ||| BitVec.ofNat 8 (2 ^ (m % 8)))
    else t) t

/-- The modules whose bits a trailer's late map sets, in ascending order. -/
def lateOf (t : List Byte) : List Nat :=
  let v := natIn t 64 512
  (List.range 4096).filter (fun m => bit v m)

/-- Selection entry `x` (07 Table 07-4). -/
def State.selEntry (s : State) (x : Nat) : Nat := s.planNat (s.secOff 7 + 8 * x) 8

/-- The step tap record of selection entry `x`: the records of its tap list combined in list order (07 R563). -/
def State.stepTap (s : State) (x : Nat) : List Nat :=
  let e := s.selEntry x
  (List.range (bits e 48 8)).foldl (fun acc i =>
    let w := s.planNat (s.secOff 12 + 4 * (bits e 32 16 + i)) 4
    tapJoin acc (s.tapAt (spaceKey (goatSpace (bits w 0 6)) (64 * bits w 8 15)))) tapEmpty

end Sys2Proof.Machine
end

