-- ==== Sys2Proof/Machine/LinkRows.lean ====
section
/-! DEFINITION. Link-port commands and collectives (15 R381 to R391): XSEND, XSIGNAL, XMCAST, XREDUCE, the carry of a late
contribution, and the messages that a link unit receives. -/

namespace Sys2Proof.Machine

/-- A link-port descriptor (15 Table 15-5). -/
structure LinkCmd where
  xop : Nat
  lane : Nat
  first : Bool
  last : Bool
  tr : Bool
  cfmt : Nat
  pfmt : Nat
  pos : Nat
  dstMod : Nat
  src : Nat
  dst : Nat
  bytes : Nat
  hops : Nat
  rsig : Nat
  rinc : Nat
  rbuf : Nat
  carryCtr : Nat
  carryAddr : Nat
  stat : Nat
  planCyc : Nat
  slackCyc : Nat
deriving DecidableEq, Repr

/-- The fields of a link-port descriptor (15 Table 15-5). -/
def linkCmd (d : Nat) : LinkCmd :=
  { xop := bits d 128 8, lane := bits d 136 3, first := bit d 139, last := bit d 140, tr := bit d 141, cfmt := bits d 142 1,
    pfmt := bits d 143 1, pos := bits d 144 4, dstMod := bits d 152 13, src := bits d 168 64, dst := bits d 232 64,
    bytes := bits d 296 24, hops := bits d 320 4, rsig := bits d 328 15, rinc := bits d 343 8, rbuf := bits d 351 14,
    carryCtr := bits d 368 15, carryAddr := addr256 (bits d 384 40), stat := bits d 424 8, planCyc := bits d 448 32,
    slackCyc := bits d 480 16 }

/-- Stream of port `p` and its requester index (12 R283, 02 R43). -/
def linkStream (p : Nat) : Nat := 218 + p

/-- The command of operation `xop` at the head of port `p`'s stream, if its cycle 0 has come; commands of a port do not overlap
(12 R305). -/
def State.readyLink (s : State) (p xop : Nat) : Option Nat :=
  if (s.stream (linkStream p)).flight.isEmpty then s.readyExec (linkStream p) 7 xop else none

/-- Mesh clock in MHz of the half that holds port `p` (15 R390, Table 15-1). -/
def State.meshMHz (s : State) (p : Nat) : Nat :=
  [1880, 1692, 1410, 940].getD (if p % 2 = 0 then s.pwr.west.gear else s.pwr.east.gear) 940

/-- ⌈n / r⌉ link cycles, r the smaller of 400 and 0.256·f_mesh bytes (15 R390). -/
def State.meshCycles (s : State) (p n : Nat) : Nat := ceilDiv (1000 * n) (Nat.min 400000 (256 * s.meshMHz p))

/-- λ of 15 R390. -/
def State.hopCycles (s : State) : Nat := 240 + s.fab.traceNs

/-- Bytes of one element of CFMT or PFMT. -/
def xWidth (f : Nat) : Nat := if f = 1 then 2 else 4

/-- Bytes of the contribution: as many elements as the partial (15 Table 15-5). -/
def LinkCmd.cBytes (c : LinkCmd) : Nat := c.bytes / xWidth c.pfmt * xWidth c.cfmt

/-- T without stalls (15 Table 15-7); `h` is the hop count of the route. -/
def State.linkCycles (s : State) (p : Nat) (c : LinkCmd) (h : Nat) : Nat :=
  match c.xop with
  | 4 =>
    if c.last then 96 + s.meshCycles p (c.cBytes + c.bytes)
    else 96 + Nat.max (s.meshCycles p c.cBytes) (ceilDiv c.bytes 400) + 2 * s.hopCycles
  | 3 => 64 + Nat.max (s.meshCycles p c.bytes) (ceilDiv c.bytes 400) + 2 * c.hops * s.hopCycles
  | x =>
    let n := if x = 2 then 0 else c.bytes
    64 + Nat.max (s.meshCycles p n) (ceilDiv n 400) + 2 * h * s.hopCycles

/-- The command in progress that a link-port command becomes (15 R391): CODE, CARRIED at bit 5, BYTES_TX. -/
def State.linkFlight (s : State) (p d : Nat) (c : LinkCmd) (h code : Nat) (carried : Bool) (sent : Nat)
    (outs : List (Nat × Nat)) : InFlight :=
  { s.newFlight (linkStream p) d with
      cycles := s.linkCycles p c h, planCyc := c.planCyc, slackCyc := c.slackCyc,
      status := fields [(0, code), (5, b2n carried), (64, sat32 sent)], statBits := 6,
      statKey := some (spaceKey linkSpace (256 * c.stat)), outs := outs }

/-! ## Messages arrive (15 R382, R383) -/

/-- The number of the path by which traffic of the module to itself goes: no link (10 R233). -/
def loopback : Nat := 16

/-- A message whose bytes have been acknowledged: its signal, with no repetition, and the acknowledgement to its sender (12 R297,
15 R382). -/
def State.ackMsg (s : State) (u : Unacked) : State :=
  let s1 := s.applySignal u.sigId u.sigInc none
  if u.tell then s1.emit (.ack u.port u.src) else s1

/-- A byte that a message wrote is still held while its page is copied (13 R323). -/
def State.ackHeld (s : State) (u : Unacked) : Bool :=
  s.heldWrites.any (fun h => decide (h.req = 226 + u.port % 8) && decide (u.key < 2 ^ 21 * h.page + h.offset + h.data.length)
    && decide (2 ^ 21 * h.page + h.offset < u.key + u.len))

/-- The messages that may be acknowledged and those that may not: one whose bytes are held, and every later one of its port (15
R373, R382). -/
def State.splitAcks (s : State) (l : List Unacked) : List Unacked × List Unacked :=
  l.foldl (fun acc u =>
    if acc.2.any (fun v => v.port == u.port) || s.ackHeld u then (acc.1, acc.2 ++ [u]) else (acc.1 ++ [u], acc.2)) ([], [])

/-- Every message received whose bytes have landed is acknowledged, in the order of arrival (15 R382). -/
def State.settleAcks (s : State) : State :=
  let x := s.splitAcks s.fab.unacked
  x.1.foldl State.ackMsg { s with fab.unacked := x.2 }

/-- A message that has arrived and been written waits for its acknowledgement. -/
def State.received (s : State) (u : Unacked) : State := ({ s with fab.unacked := s.fab.unacked ++ [u] } : State).settleAcks

/-- The bytes of a message written at its location by the link unit (15 R382). -/
def State.place (s : State) (link : Nat) (m : LinkMsg) : State :=
  if m.data.isEmpty then s else s.write (226 + link % 8) (locKey m.addr m.num m.space) m.data

/-- A message for this module: its bytes are written; its signal and acknowledgement follow theirs (15 R382). -/
def State.deliver (s : State) (link : Nat) (m : LinkMsg) : State :=
  (s.place link m).received
    { port := link, src := m.src, key := locKey m.addr m.num m.space, len := m.data.length, sigId := m.sigId, sigInc := m.sigInc,
      tell := decide (link < 16) }

/-- The wired port to which a failed module sends what is addressed to it (15 R395). -/
def State.redirectOf (s : State) (dst : Nat) : Option Nat := if dst = s.fab.modId then s.fab.redirect else none

/-- A message that comes for a failed module goes on to its spare (15 R395, R396). -/
def State.passOn (s : State) (w : Nat) (m : LinkMsg) : State := s.sendMsg w (((s.hopHere m.src m.dst).map (fun h => h.cls)).getD 0) m

/-- MESSAGE_RX (15 R382): the bytes are written, the signal applied, the sender acknowledged. -/
def execMessageRx (port : Fin 16) (msg : LinkMsg) (s : State) : Host.Outcome State Fault Refusal :=
  match checked (.messageRx port msg) s with
  | .next s =>
    if !s.portUp port.val then .next s
    else
      match s.redirectOf msg.dst with
      | some w => .next (s.passOn w msg)
      | none => if msg.dst = s.fabricAddr then .next (s.deliver port.val msg) else .next s
  | o => o

/-- The port in whose direction a multicast from `src` to its last receiver `dst` passes this module (15 R383). -/
def State.mcastPort (s : State) (src dst : Nat) : Nat :=
  match [0, 1, 2].find? (fun d => decide (coord src d ≠ coord dst d)) with
  | some d =>
    let n := Nat.max 1 (s.ringOf d)
    let dist := fun a => (coord a d + n - coord src d % n) % n
    if dist s.ownId < dist dst then 2 * d else 2 * d + 1
  | none => 0

/-- MCAST_RX (15 R383): written, signalled, acknowledged, and, until the last receiver, sent on unchanged in the same direction
(log 139). A spare without an identity takes no torus traffic (R393); a failed module leaves its place to its spare (R395). -/
def execMcastRx (port : Fin 16) (msg : LinkMsg) (s : State) : Host.Outcome State Fault Refusal :=
  match checked (.mcastRx port msg) s with
  | .next s =>
    if !s.portUp port.val || s.bareSpare then .next s
    else
      match s.fab.redirect with
      | some w => if w = port.val then .next s else .next (s.passOn w msg)
      | none =>
        let s1 := s.deliver port.val msg
        if msg.dst = s.fabricAddr then .next s1
        else
          let p := s1.mcastPort msg.src msg.dst
          let e := s1.ringExit msg.src p (s1.onward p 1)
          .next (s1.sendMsg e.1 e.2 msg)
  | o => o

/-- A late partial is counted and dropped (15 R385, 12 R310); a partial is late if a hop at its point has started without it. -/
def State.latePartial (s : State) (p addr : Nat) : State :=
  match s.plan.shortHops.find? (fun e => e.1 == p && e.2.1 == addr) with
  | some e =>
    ({ s with plan.shortHops := s.plan.shortHops.erase e } : State).bump (LinkCnt.lateIn (oppositePort p)) 1 |>.dropLate e.2.2
  | none => s

/-- PARTIAL_RX (15 R384, R385): the partial lies at its offset of the reduction buffer of its direction's port; one that arrives
after its hop has started is counted and dropped. -/
def execPartialRx (port : Fin 16) (msg : LinkMsg) (s : State) : Host.Outcome State Fault Refusal :=
  match checked (.partialRx port msg) s with
  | .next s =>
    if !s.portUp port.val then .next s
    else
      match s.redirectOf msg.dst with
      | some w => .next (s.passOn w msg)
      | none =>
        if msg.dst = s.fabricAddr then
          let p := s.ringEntry port.val msg.src
          .next (((s.poke (spaceKey (redSpace p) msg.addr) msg.data).latePartial p msg.addr).received
            { port := port.val, src := msg.src, key := 0, len := 0, sigId := msg.sigId, sigInc := msg.sigInc,
              tell := true })
        else .next s
  | o => o

/-! ## XSEND, XSIGNAL, XMCAST -/

/-- The message of a sending command. -/
def State.linkMsg (s : State) (c : LinkCmd) (kind dst : Nat) (data : List Byte) : LinkMsg :=
  { lane := c.lane, kind := kind, dst := dst, src := s.fabricAddr, sigId := c.rsig, sigInc := c.rinc, addr := bits c.dst 0 48,
    num := bits c.dst 48 8, space := bits c.dst 56 3, data := data }

/-- A source read by port `p` (13 R317, R318). -/
def State.linkRead (s : State) (p word n : Nat) : List Byte × State :=
  (s.read (locOfWord word) n, s.noteRead (226 + p) (locOfWord word) n)

/-- XSEND or XSIGNAL (15 R382): through the port that the route selects, or delivered here if the route has no hop. -/
def State.sendTo (s : State) (p d : Nat) (c : LinkCmd) : State :=
  let n := if c.xop = 2 then 0 else c.bytes
  let (data, s1) := s.linkRead p c.src n
  let m := s1.linkMsg c (if c.xop = 2 then 2 else 1) c.dstMod data
  let route := s1.path s1.fabricAddr c.dstMod
  let s2 := match route with
    | [] => s1.deliver loopback m
    | h :: _ => s1.sendMsg h.port h.cls m
  s2.startCmd (linkStream p) (s1.linkFlight p d c route.length 0 false n [])

/-- XSEND. -/
def execXsend (port : Fin 8) (s : State) : Host.Outcome State Fault Refusal :=
  match s.readyLink port.val 1 with
  | some d => .next (s.sendTo port.val d (linkCmd d))
  | none => .next s

/-- XSIGNAL: an XSEND of no bytes. -/
def execXsignal (port : Fin 8) (s : State) : Host.Outcome State Fault Refusal :=
  match s.readyLink port.val 2 with
  | some d => .next (s.sendTo port.val d (linkCmd d))
  | none => .next s

/-- XMCAST (15 R383): to the next HOPS modules in the port's direction, its flits addressed to the last of them (log 139). -/
def execXmcast (port : Fin 8) (s : State) : Host.Outcome State Fault Refusal :=
  match s.readyLink port.val 3 with
  | some d =>
    let p := port.val
    let c := linkCmd d
    let (data, s1) := s.linkRead p c.src c.bytes
    let e := s1.ringExit s1.fabricAddr p (s1.onward p 1)
    .next ((s1.sendMsg e.1 e.2 (s1.linkMsg c 4 (s1.onward p c.hops) data)).startCmd (linkStream p)
      (s1.linkFlight p d c c.hops 0 false c.bytes []))
  | none => .next s

/-! ## XREDUCE (15 R384 to R388) -/

/-- FP32 values of bytes in CFMT or PFMT. -/
def xVals (f : Nat) (l : List Byte) : List Word :=
  if f = 1 then (pieces 2 l.length l).map (fun b => BitVec.ofNat 32 (leNat b * 65536))
  else (pieces 4 l.length l).map (fun b => BitVec.ofNat 32 (leNat b))

/-- Values converted to PFMT by RNE with SAT = 0. -/
def xBytes (f : Nat) (l : List Word) : List Byte :=
  let e : Elem := if f = 1 then .bf16 else .fp32
  l.flatMap (fun w => natLe (xWidth f) (convPlain e .rne false 0 (ofF32 w)).1)

/-- Elementwise addition of two rows of values. -/
def xAdd (a b : List Word) : List Word := List.zipWith fadd a b

/-- The module at position `q` of a chain in which this module has position `pos` and which runs in port `p`'s direction. -/
def State.chainAt (s : State) (p pos q : Nat) : Nat :=
  let d := p / 2
  let n := Nat.max 1 (s.ringOf d)
  let back := (pos - q) % n
  let me := coord s.ownId d
  setCoord s.ownId d ((me + (if p % 2 = 0 then n - back else back)) % n)

/-- The modules that a hop marks late (15 R385). -/
def State.lateMarks (s : State) (p : Nat) (c : LinkCmd) (own up : Bool) : List Nat :=
  (if up then (List.range c.pos).map (s.chainAt p c.pos) else []) ++ (if own then [s.ownId] else [])

/-- The carry waiting at a hop's point (15 R386). -/
def State.carryAt (s : State) (p : Nat) (c : LinkCmd) : Option Carry :=
  s.plan.carries.find? (fun y => !y.drop && y.port == p && y.addr == c.carryAddr)

/-- A carry whose copy has not begun is abandoned (15 R386). -/
def State.abandonCarry (s : State) (y : Carry) : State :=
  (({ s with plan.carries := s.plan.carries.filter (fun x => x != y) } : State).bump (LinkCnt.carryAbandon y.port) 1).dropLate
    y.trailer

/-- What a hop sends or writes: its bytes and whether an upstream trailer was stale. -/
def State.hopResult (s : State) (p : Nat) (c : LinkCmd) (own up : Bool) (src : List Byte) (carry : List Byte) :
    List Byte × Bool :=
  let upstream := s.bytesAt (spaceKey (redSpace (oppositePort p)) (256 * c.rbuf)) c.bytes
  let noUp := c.first || up
  if c.tr then
    let sel := s.selEntries
    let len := s.trailerBytes
    let stale := !noUp && !own && decide (trStep upstream ≠ trStep src)
    let parts := (if noUp || stale then [] else [upstream]) ++ (if own then [] else [src])
    let acc := match parts with
      | [] => s.emptyTrailer
      | a :: rest => rest.foldl (joinTrailers sel len) (fit 0 len a)
    let acc := if carry.isEmpty then acc else joinTrailers sel len acc carry
    (fit 0 c.bytes (markTrailer s.plan.lateSet acc), stale)
  else
    let n := c.bytes / xWidth c.pfmt
    let acc := if noUp then List.replicate n (0 : Word) else xVals c.pfmt upstream
    let acc := if own then acc else xAdd acc (xVals c.cfmt src)
    let acc := if carry.isEmpty then acc else xAdd acc (xVals c.cfmt carry)
    (xBytes c.pfmt acc, false)

/-- The late contribution of a hop whose W0 was short is awaited: to be carried, or to be dropped when it arrives (15 R386, 12
R310). -/
def State.noteLate (s : State) (p d : Nat) (c : LinkCmd) : State :=
  { s with plan.carries := s.plan.carries ++
      [{ port := p, addr := c.carryAddr, src := locOfWord c.src, bytes := if c.tr then s.trailerBytes else c.cBytes,
         step := s.plan.step, ctr := c.carryCtr, wait := dW0 d, trailer := c.tr, copied := false, drop := !s.latePolicy,
         lost := false }] }

/-- The hop's marks go into the pending late set and the counts (15 R385, R388, Tables 12-13, 15-12). -/
def State.markLate (s : State) (p : Nat) (c : LinkCmd) (own up : Bool) : State :=
  let ids := s.lateMarks p c own up
  let s1 := s.bumps [(PlanCnt.lateMarked, ids.length), (LinkCnt.lateOwn p, b2n own), (LinkCnt.lateIn p, b2n up)]
  { s1 with plan.lateSet := ids.foldl (fun l m => if l.contains m then l else l ++ [m]) s1.plan.lateSet,
            plan.shortHops := s1.plan.shortHops ++ (if up then [(oppositePort p, 256 * c.rbuf, c.tr)] else []) }

/-- An XREDUCE whose cycle 0 has come. -/
def State.reduceHop (s : State) (p d : Nat) (c : LinkCmd) : State :=
  let own := s.ctrShort (dW0 d)
  let up := !c.first && s.ctrShort (dW1 d)
  let s1 := s.markLate p c own up
  let (src, s2) := s1.linkRead p c.src (if c.tr then s1.trailerBytes else c.cBytes)
  let cy := s2.carryAt p c
  let carry := match cy with
    | some y => if y.copied then s2.read y.addr y.bytes else []
    | none => []
  let s3 : State := match cy with
    | some y =>
      if y.copied then
        { s2.noteRead (226 + p) y.addr y.bytes with
          plan.carries := s2.plan.carries.filter (fun x => x != y), plan.carriedNow := s2.plan.carriedNow + b2n (!c.tr) }
      else s2.abandonCarry y
    | none => s2
  let r := s3.hopResult p c own up src carry
  let s4 : State := if c.tr then { s3 with plan.lateSet := [] } else s3
  let s5 := if r.2 then s4.bump HealthCnt.staleTrailers 1 else s4
  let s6 := if own then s5.noteLate p d c else s5
  let code := if own || up then b2n own + 2 * b2n up else if r.2 then 4 else 0
  let s7 :=
    if c.last then s6.write (226 + p) (locOfWord c.dst) r.1
    else
      let dst := s6.peerIn p
      let e := s6.ringExit s6.fabricAddr p dst
      s6.sendMsg e.1 e.2
        { lane := 0, kind := 3, dst := dst, src := s6.fabricAddr, sigId := c.rsig, sigInc := c.rinc, addr := 256 * c.rbuf,
          num := 0, space := 0, data := r.1 }
  s7.startCmd (linkStream p)
    (s.linkFlight p d c 1 code (!carry.isEmpty) (if c.last then 0 else r.1.length)
      (if c.last then [(locOfWord c.dst, r.1.length)] else []))

/-- XREDUCE. -/
def execXreduce (port : Fin 8) (s : State) : Host.Outcome State Fault Refusal :=
  match s.readyLink port.val 4 with
  | some d => .next (s.reduceHop port.val d (linkCmd d))
  | none => .next s

/-- CARRY_COPY (15 R386): the first waiting contribution of the port whose shortfall absorbed signals have covered is copied into
its carry area, and CARRY_CTR is signalled; a shortfall that the period reset cleared has not been covered (12 R297). -/
def execCarryCopy (port : Fin 8) (s : State) : Host.Outcome State Fault Refusal :=
  match s.plan.carries.find? (fun y => y.port == port.val && !y.copied && !y.drop && !y.lost && !s.ctrShort y.wait) with
  | some y =>
    let data := s.read y.src y.bytes
    let s1 := s.noteRead (226 + port.val) y.src y.bytes
    let s2 : State :=
      { s1 with plan.carries := s1.plan.carries.map (fun x => if x = y then { x with copied := true } else x) }
    let s3 := s2.hbmWrite (226 + port.val) y.addr data
    let flags := y.trailer && decide (trHealth data ≠ 0)
    let s4 := s3.bumps [(LinkCnt.carries port.val, 1), (PlanCnt.carried, b2n (!y.trailer)), (HealthCnt.carriedFlags, b2n flags)]
    .next (s4.applySignal y.ctr 1 none)
  | none => .next s

end Sys2Proof.Machine
end

