-- ==== Sys2Proof/Machine/GoatOps.lean ====
section
/-! DEFINITION. What the three engines of a Goat share (05): readiness, bank tokens, scalars, function tables, the drain that
converts and writes an output. -/

namespace Sys2Proof.Machine

/-- Stream index of Goat `g` (12 R283). -/
def goatStream (g : Nat) : Nat := 120 + g

/-- Key of 64-byte unit `a` of Goat `g`'s scratchpad. -/
def goatKey (g a : Nat) : Nat := spaceKey (goatSpace g) (64 * a)

/-- The command of unit kind `kind` and operation `op` at the head of Goat `g`'s stream, if its cycle 0 has come: nothing starts
while a TABLE_LOAD runs, and a TABLE_LOAD starts only after every earlier command (05 R134). -/
def State.readyGoat (s : State) (g kind op : Nat) : Option Nat :=
  let fl := (s.stream (goatStream g)).flight
  if fl.any (fun f => f.unit == 2 && f.op == 0x10) || (kind = 2 && op = 0x10 && !fl.isEmpty) then none
  else s.readyExec (goatStream g) kind op

/-! ## Bank tokens -/

/-- The banks that input streams name, each with its RELEASE and TILE (05 R118). -/
def namedBanks (g : Nat) (ps : List Pat) : List (Nat × Bool × Nat) :=
  (ps.filter (fun p => decide (p.kind = 1))).map (fun p => (p.bankOf g, p.release, p.tile))

/-- The tag of a token that its Goat holds. -/
def heldTag : Token → Option Nat
  | .atGoat t => some t
  | _ => none

/-- The token of bank `k`. -/
def State.bankToken (s : State) (k : Nat) : Token := Tab.get Token.atOx s.unit.tokens k

/-- The Goat returns the tokens it holds among those listed (05 R119, R120). -/
def State.returnTokens (s : State) (ks : List Nat) : State :=
  ks.foldl (fun (s : State) k =>
    if (heldTag (s.bankToken k)).isSome then { s with unit.tokens := Tab.set Token.atOx s.unit.tokens k Token.toOx } else s) s

/-- The four banks of the yoke of Goat `g`. -/
def goatBanks (g : Nat) : List Nat := [4 * g, 4 * g + 1, 4 * g + 2, 4 * g + 3]

/-- The tokens that the command in hand of Goat `g` finds (05 R119): a tag that differs from TILE gives TOKEN_ORDER and returns at
once every bank token the Goat holds; from then on each named token is returned as it arrives. A suppressed command (CODE 5)
reads no bank, so it compares no tag. -/
def State.bankStep (s : State) (g : Nat) : State :=
  match s.parked (goatStream g) with
  | some w =>
    let tags := w.banks.map (fun b => (b.1, b.2.2, heldTag (s.bankToken b.1)))
    let due := (tags.filter (fun b => b.2.2.isNone)).map (fun b => b.1)
    let bad := decide (w.code ≠ 5) && tags.any (fun b => match b.2.2 with
      | some t => decide (t ≠ b.2.1)
      | none => false)
    if w.code = 1 then
      (s.returnTokens w.due).setLast (goatStream g) (fun f =>
        { f with work := some { w with due := w.due.filter (fun k => (heldTag (s.bankToken k)).isNone) } })
    else if bad then
      (s.returnTokens (goatBanks g)).setLast (goatStream g) (fun f => { f with work := some { w with code := 1, due := due } })
    else s.setLast (goatStream g) (fun f => { f with work := some { w with due := due } })
  | none => s

/-- A command of Goat `g` at its cycle 0, with the scalars it read then and the banks its streams name (05 R119, R122). -/
def State.goatPark (s : State) (g : Nat) (w : Work) (ins : List Pat) (planCyc slackCyc statKey : Nat) : State :=
  (s.parkCmd (goatStream g) { w with banks := namedBanks g ins } planCyc slackCyc statKey).bankStep g

/-- The command in hand of Goat `g`, once it waits for no token. -/
def State.goatDue (s : State) (g : Nat) : Option Work :=
  match s.parked (goatStream g) with
  | some w => if w.due.isEmpty then some w else none
  | none => none

/-- The banks with RELEASE that a command returns with its last read, and the tags of their tokens (05 R120); RELEASE has no effect
under TOKEN_ORDER. -/
def Work.released (w : Work) : List (Nat × Nat) :=
  if w.code = 1 then [] else (w.banks.filter (fun b => b.2.1)).map (fun b => (b.1, b.2.2))

/-- What `f` does with the step counter as a command's cycle 0 read it (07 R167, Table 07-2). -/
def State.atStep (s : State) (n : Nat) (f : State → State) : State :=
  let t := f { s with plan.step := n }
  { t with plan.step := s.plan.step }

/-! ## Scalars and function tables -/

/-- α and β (05 R122). -/
def State.scalars (s : State) (g mode imm0 imm1 : Nat) : Word × Word :=
  if mode = 0 then (BitVec.ofNat 32 imm0, BitVec.ofNat 32 imm1)
  else (BitVec.ofNat 32 (s.natAt (spaceKey (goatSpace g) (imm0 % 2 ^ 21)) 4), 0)

/-- ⌊n/d · 2^x⌋ of a value. -/
def floorVal : Val → Int
  | .fin neg n d x =>
    let num := if 0 ≤ x then n <<< x.toNat else n
    let den := if 0 ≤ x then d else d <<< (-x).toNat
    if neg then -((num + den - 1) / den : Nat) else ((num / den : Nat) : Int)
  | _ => 0

/-- An integer times a power of two. -/
def scaledInt (i x : Int) : Val := .fin (decide (i < 0)) i.natAbs 1 x

/-- A value's negation. -/
def negVal : Val → Val
  | .fin s n d x => .fin (!s) n d x
  | .inf s => .inf (!s)
  | .nan => .nan

/-- A segment or the line beyond the domain (05 R131), once the index and the segment's start are known. -/
def tableSeg (rd : Nat → Word) (x : Word) (idx : Int) (xs : Val) : Word :=
  if idx < 0 then ffma (rd 12) x (rd 8)
  else if 255 < idx then ffma (rd 20) x (rd 16)
  else
    let o := 64 + 12 * idx.toNat
    let t := toF32 (addVal (ofF32 x) (negVal xs))
    ffma (ffma (rd (o + 8)) t (rd (o + 4))) t (rd o)

/-- A function table evaluated (05 R131); `rd` gives the FP32 word at a byte offset of the table. -/
def tableEval (rd : Nat → Word) (x : Word) : Word :=
  let h := (rd 0).toNat
  let mode := bits h 0 2
  if 2 ≤ mode then nan32
  else if isNan32 x then nan32
  else if x = pinf32 then canon32 (rd 24)
  else if x = ninf32 then canon32 (rd 28)
  else if mode = 0 then
    let w := signed 8 (bits h 8 8)
    let lo := rd 4
    if w < -126 || isNan32 lo || isInf32 lo then nan32
    else
      let idx := floorVal (mulVal (addVal (ofF32 x) (negVal (ofF32 lo))) (.fin false 1 1 (-w)))
      tableSeg rd x idx (addVal (ofF32 lo) (scaledInt idx w))
  else
    let eLo := signed 9 (bits h 16 9)
    if eLo < -149 || 95 < eLo then nan32
    else if isZero32 x then canon32 (rd 32)
    else if bit x.toNat 31 then canon32 (rd 36)
    else
      match (ofF32 x).log2 with
      | none => canon32 (rd 32)
      | some e =>
        let m3 := floorVal (mulVal (ofF32 x) (.fin false 8 1 (-e))) - 8
        tableSeg rd x (8 * (e - eLo) + m3) (scaledInt (8 + m3) (e - 3))

/-- Table `der` (0 forward, 1 derivative) of pair `slot` of Goat `g` (05 R130). -/
def State.table (s : State) (g slot der : Nat) (x : Word) : Word :=
  tableEval (fun o => BitVec.ofNat 32 (s.natAt (spaceKey (tableSpace g) (6272 * slot + 3136 * der + o)) 4)) x

/-- VALID of pair `slot` of Goat `g`. -/
def State.tableOk (s : State) (g slot : Nat) : Bool := Tab.get false s.unit.tableValid (32 * g + slot)

/-- Bytes written to a table, coefficient or schedule store of Goat `g`: a fenced Goat discards them (02 R35). -/
def State.toGoat (s : State) (g key : Nat) (data : List Byte) : State :=
  if s.unitFenced (120 + g) then s.discard (s.physOf (120 + g)) else s.poke key data

/-- The pair written and, where the Goat takes it, set VALID (05 R134, 02 R35). -/
def State.loadTable (s : State) (g slot : Nat) (data : List Byte) : State :=
  let s1 := s.toGoat g (spaceKey (tableSpace g) (6272 * slot)) data
  if s.unitFenced (120 + g) then s1
  else { s1 with unit.tableValid := Tab.set false s1.unit.tableValid (32 * g + slot) true }

/-! ## The drain -/

/-- The generator's fields that a command supplies (05 Table 05-6). -/
structure Draws where
  key : Nat
  layer : Nat
  mbatch : Nat
deriving DecidableEq, Repr

/-- The draw of element `e` of a command under key `key` (07 R167). -/
def State.draw (s : State) (r : Draws) (e : Nat) : Nat := draw24 r.key e r.mbatch r.layer (s.plan.step % 2 ^ 40) s.seed

/-- What writing one output gives: the state, what the drain counted, what was written, the cycles of the stream. -/
structure DrainOut where
  state : State
  counts : DrainCounts
  outs : List (Nat × Nat)
  cycles : Nat
  words : List Word
deriving DecidableEq, Repr

/-- Output elements of a stream of Goat `g` written (05 R125 to R129). A format byte with no meaning, which only a block
written at run time can hold, writes nothing (log 26). -/
def State.drainEls (s : State) (g : Nat) (p : Pat) (compress : Bool) (r : Draws) (els : List OutEl) : DrainOut :=
  match fmtOfByte p.fmt with
  | some f =>
    let ins := (els.filter (fun e => e.grid && e.shape)).map (fun e => e.word)
    let d := p.place g f compress
    let c := s.convert d f p.rnd (s.draw r) compress els
    { state := s.flush (goatStream g) d c.patch, counts := drainCounts ins c.sat, outs := c.patch.outs d,
      cycles := p.cycles + (if p.kind = 2 then ceilDiv c.auxBytes 256 else 0), words := ins }
  | none => { state := s, counts := DrainCounts.zero, outs := [], cycles := p.cycles, words := [] }

/-- One output stream written: `res` are its results in enumeration order. -/
def State.drainPat (s : State) (g : Nat) (p : Pat) (compress : Bool) (r : Draws) (res : List Word) : DrainOut :=
  s.drainEls g p compress r (p.outEls res)

/-- An output that goes to an Ox queue finds its START credits (12 R302). -/
def State.outReady (s : State) (g : Nat) (p : Pat) : Bool :=
  match fmtOfByte p.fmt with
  | some f => match (p.place g f false).queue with
    | some q => s.queueReady q
    | none => true
  | none => true

end Sys2Proof.Machine
end

