-- ==== Sys2Proof/Machine/RowRows.lean ====
section
/-! DEFINITION. The row engine (06): row statistics, normalisation, soft-maximum, cross-entropy, the side memory, SPILL and
RELOAD. -/

namespace Sys2Proof.Machine

/-- A row-engine descriptor (06 Table 06-3). -/
structure RowCmd where
  rop : Nat
  health : Bool
  statsW : Bool
  affine : Bool
  dgClr : Bool
  expSlot : Nat
  logSlot : Nat
  rsqrtSlot : Nat
  patX : Nat
  patY : Nat
  patG : Nat
  patB : Nat
  patO : Nat
  patDg : Nat
  patDb : Nat
  statAddr : Nat
  sideRow : Nat
  stashId : Nat
  eps : Word
  gscale : Word
  tgtAddr : Nat
  planCyc : Nat
  slackCyc : Nat
  count : Nat
deriving DecidableEq, Repr

/-- The fields of a row-engine descriptor (06 Table 06-3); COUNT 0 means 32,768. -/
def rowCmd (d : Nat) : RowCmd :=
  { rop := bits d 128 8, health := bit d 136, statsW := bit d 137, affine := bit d 138, dgClr := bit d 139,
    expSlot := bits d 144 5, logSlot := bits d 149 5, rsqrtSlot := bits d 154 5, patX := bits d 160 15, patY := bits d 176 15,
    patG := bits d 192 15, patB := bits d 208 15, patO := bits d 224 15, patDg := bits d 240 15, patDb := bits d 256 15,
    statAddr := bits d 272 15, sideRow := bits d 288 15, stashId := bits d 304 16, eps := BitVec.ofNat 32 (bits d 320 32),
    gscale := BitVec.ofNat 32 (bits d 352 32), tgtAddr := bits d 384 21, planCyc := bits d 416 32, slackCyc := bits d 448 16,
    count := if bits d 464 16 = 0 then 32768 else bits d 464 16 }

/-! ## Fixed orders (06 R147) -/

/-- The 128 lanes combined, lanes l and l + w for w = 64, 32, …, 1. -/
def treeOf {α : Type} (comb : α → α → α) : Nat → List α → List α
  | 0, l => l
  | f + 1, l => treeOf comb f (List.zipWith comb (l.take (l.length / 2)) (l.drop (l.length / 2)))

/-- The elements of lane `l`. -/
def laneElems {α : Type} (l : Nat) (v : List α) : List α :=
  (((List.range v.length).zip v).filter (fun e => e.1 % 128 == l)).map (fun e => e.2)

/-- rsum: a row sum in the fixed order. -/
def rsum (v : List Word) : Word :=
  ((treeOf fadd 7 ((List.range 128).map (fun l => (laneElems l v).foldl fadd 0))).headD 0)

/-- comb_ms: two lanes' maximum and scaled sum. -/
def combMs (ex : Word → Word) (a b : Word × Word) : Word × Word :=
  if b.1 = ninf32 then a
  else if a.1 = ninf32 then b
  else
    let m := fmax a.1 b.1
    (m, fadd (fmul a.2 (ex (fsub a.1 m))) (fmul b.2 (ex (fsub b.1 m))))

/-- One element taken into a lane. -/
def laneMs (ex : Word → Word) (a : Word × Word) (v : Word) : Word × Word :=
  if v = ninf32 then a
  else if a.1 = ninf32 then (v, one32)
  else if flt a.1 v then (v, fadd (fmul a.2 (ex (fsub a.1 v))) one32)
  else (a.1, fadd a.2 (ex (fsub v a.1)))

/-- smax_stats: (m, λ) of a row. -/
def smaxStats (ex lg : Word → Word) (x : List Word) : Word × Word :=
  if x.any (fun v => isNan32 v || v = pinf32) || x.all (fun v => v = ninf32) then (nan32, nan32)
  else
    let lanes := (List.range 128).map (fun l => (laneElems l x).foldl (laneMs ex) (ninf32, 0))
    let r := (treeOf (combMs ex) 7 lanes).headD (ninf32, 0)
    (r.1, lg r.2)

/-! ## Row arithmetic (06 Table 06-2) -/

/-- The three functions of a command and its constants. -/
structure RowEnv where
  ex : Word → Word
  lg : Word → Word
  rs : Word → Word
  eps : Word
  gscale : Word
  affine : Bool

/-- v · γ_k, left out without AFFINE. -/
def RowEnv.gam (e : RowEnv) (v g : Word) : Word := if e.affine then fmul v g else v

/-- The statistics of a forward row: (μ, ρ), (ρ, +0) or (m, λ). -/
def RowEnv.stats (e : RowEnv) (rop : Nat) (x : List Word) : Word × Word :=
  let n := natToF32 x.length
  match rop with
  | 0x01 =>
    let c := x.headD 0
    let d := x.map (fun v => fsub v c)
    let a := fdiv (rsum d) n
    let var := fmax (fsub (fdiv (rsum (d.map (fun v => fmul v v))) n) (fmul a a)) 0
    (fadd c a, e.rs (fadd var e.eps))
  | 0x02 => (e.rs (fadd (fdiv (rsum (x.map (fun v => fmul v v))) n) e.eps), 0)
  | _ => smaxStats e.ex e.lg x

/-- The output row of a forward operation from its statistics; one element for CE_FWD, whose target is `tau`. -/
def RowEnv.forward (e : RowEnv) (rop : Nat) (x gam bet : List Word) (st : Word × Word) (tau : Int) : List Word :=
  let idx := List.range x.length
  match rop with
  | 0x01 => idx.map (fun k =>
      let h := fmul (fsub (x.getD k 0) st.1) st.2
      if e.affine then ffma h (gam.getD k 0) (bet.getD k 0) else h)
  | 0x02 => idx.map (fun k => e.gam (fmul (x.getD k 0) st.1) (gam.getD k 0))
  | 0x03 => x.map (fun v => e.ex (fsub (fsub v st.1) st.2))
  | 0x04 => x.map (fun v => fsub (fsub v st.1) st.2)
  | _ =>
    if tau < 0 then [0]
    else if (x.length : Int) ≤ tau then [nan32]
    else [fsub (fadd st.1 st.2) (x.getD tau.toNat 0)]

/-- The output row of a backward operation, and what the row adds to DG and DB. -/
def RowEnv.backward (e : RowEnv) (rop : Nat) (x dy gam : List Word) (st : Word × Word) (tau : Int) :
    List Word × List Word × List Word :=
  let n := natToF32 x.length
  let idx := List.range x.length
  let at_ := fun (l : List Word) k => l.getD k 0
  let p := x.map (fun v => e.ex (fsub (fsub v st.1) st.2))
  match rop with
  | 0x11 =>
    let xh := x.map (fun v => fmul (fsub v st.1) st.2)
    let g := idx.map (fun k => e.gam (at_ dy k) (at_ gam k))
    let s1 := fdiv (rsum g) n
    let s2 := fdiv (rsum (idx.map (fun k => fmul (at_ g k) (at_ xh k)))) n
    (idx.map (fun k => fmul st.2 (fsub (at_ g k) (ffma (at_ xh k) s2 s1))), idx.map (fun k => fmul (at_ dy k) (at_ xh k)), dy)
  | 0x12 =>
    let xh := x.map (fun v => fmul v st.1)
    let g := idx.map (fun k => e.gam (at_ dy k) (at_ gam k))
    let s2 := fdiv (rsum (idx.map (fun k => fmul (at_ g k) (at_ xh k)))) n
    (idx.map (fun k => fmul st.1 (fsub (at_ g k) (fmul (at_ xh k) s2))), idx.map (fun k => fmul (at_ dy k) (at_ xh k)), [])
  | 0x13 =>
    let t := rsum (idx.map (fun k => fmul (at_ dy k) (at_ p k)))
    (idx.map (fun k => fmul (at_ p k) (fsub (at_ dy k) t)), [], [])
  | 0x14 =>
    let t := rsum dy
    (idx.map (fun k => ffma (fneg (at_ p k)) t (at_ dy k)), [], [])
  | _ =>
    if tau < 0 then (x.map (fun _ => 0), [], [])
    else if (x.length : Int) ≤ tau then (x.map (fun _ => nan32), [], [])
    else (idx.map (fun k => fmul (fsub (at_ p k) (if (k : Int) = tau then one32 else 0)) e.gscale), [], [])

/-! ## Side memory (06 R152) -/

/-- Entry `i` of Goat `g`'s side memory. -/
def State.sideAt (s : State) (g i : Nat) : SideEntry := Tab.get SideEntry.empty s.unit.side (32768 * g + i % 32768)

/-- The state with a side-memory entry replaced. -/
def State.setSide (s : State) (g i : Nat) (e : SideEntry) : State :=
  { s with unit.side := Tab.set SideEntry.empty s.unit.side (32768 * g + i % 32768) e }

/-! ## Commands -/

/-- A backward operation. -/
def rowBackward (rop : Nat) : Bool := decide (0x11 ≤ rop) && decide (rop ≤ 0x15)

/-- The operation reads targets. -/
def rowTargets (rop : Nat) : Bool := decide (rop = 0x05) || decide (rop = 0x15)

/-- Sweeps of an operation (06 Table 06-1). -/
def rowSweeps (rop : Nat) : Nat := if rowTargets rop then 1 else 2

/-- Function pairs that an operation evaluates (06 R147). -/
def RowCmd.slots (c : RowCmd) : List Nat :=
  if c.rop = 0x01 ∨ c.rop = 0x02 then [c.rsqrtSlot]
  else if c.rop = 0x03 ∨ c.rop = 0x04 ∨ c.rop = 0x05 then [c.expSlot, c.logSlot]
  else if c.rop = 0x13 ∨ c.rop = 0x14 ∨ c.rop = 0x15 then [c.expSlot]
  else []

/-- A pair's forward function; NaN for a pair that is not VALID (05 R132). -/
def State.tableFn (s : State) (g slot : Nat) (x : Word) : Word := if s.tableOk g slot then s.table g slot 0 x else nan32

/-- The functions of a command: ex(±0) is exactly 1 (06 R147). -/
def State.rowEnv (s : State) (g : Nat) (c : RowCmd) : RowEnv :=
  { ex := fun x => if isZero32 x then one32 else s.tableFn g c.expSlot x, lg := s.tableFn g c.logSlot,
    rs := s.tableFn g c.rsqrtSlot, eps := c.eps, gscale := c.gscale, affine := c.affine }

/-- Target τ of row `r`. -/
def State.target (s : State) (g : Nat) (c : RowCmd) (r : Nat) : Int :=
  signed 32 (s.natAt (spaceKey (goatSpace g) (c.tgtAddr + 4 * r)) 4)

/-- Elements of a row, and rows, of an input (06 R145). -/
def Pat.rowLen (p : Pat) : Nat := p.cnt 0 * p.cnt 1
def Pat.rows (p : Pat) : Nat := p.cnt 2 * p.cnt 3

/-- What the rows of a command give: outputs, the statistics of each row, what is added to DG and DB, rows with no key. -/
structure RowOut where
  out : List Word
  stats : List (Word × Word)
  dg : List (List Word)
  db : List (List Word)
  miss : Nat
deriving DecidableEq, Repr

/-- One row of a command taken in. -/
def State.rowStep (s : State) (g : Nat) (c : RowCmd) (x dy gam bet : List Word) (acc : RowOut) (r : Nat) : RowOut :=
  let e := s.rowEnv g c
  let tau := s.target g c r
  if rowBackward c.rop then
    let sd := s.sideAt g (c.sideRow + r)
    if sd.key = c.stashId then
      let b := e.backward c.rop x dy gam (sd.v0, sd.v1) tau
      { acc with out := acc.out ++ b.1, dg := acc.dg ++ [b.2.1], db := acc.db ++ [b.2.2] }
    else { acc with out := acc.out ++ x.map (fun _ => nan32), miss := acc.miss + 1 }
  else
    let st := e.stats c.rop x
    { acc with out := acc.out ++ e.forward c.rop x gam bet st tau, stats := acc.stats ++ [st] }

/-- A row of sums to which rows are added in ascending order (06 R150). -/
def addRows (n : Nat) (start : List Word) (rows : List (List Word)) : List Word :=
  rows.foldl (fun acc row => (List.range n).map (fun k => fadd (acc.getD k 0) (row.getD k 0))) start

/-- DG or DB written: from +0 with DG_CLR, else from its stored values. -/
def State.addInto (s : State) (g : Nat) (c : RowCmd) (pat n : Nat) (rows : List (List Word)) : DrainOut :=
  let p := s.pat g pat
  let start := if c.dgClr then List.replicate n (0 : Word) else s.readPat g p
  s.drainPat g p false { key := 0, layer := 0, mbatch := 0 } (addRows n start rows)

/-- The command in progress that a row-engine command becomes. -/
def State.rowFlight (s : State) (g d : Nat) (c : RowCmd) (code cycles : Nat) (cnt : DrainCounts) (bumps : List Bump)
    (outs : List (Nat × Nat)) (flag : Bool) : InFlight :=
  { s.newFlight (goatStream g) d with
      cycles := cycles, code := b2n flag, planCyc := c.planCyc, slackCyc := c.slackCyc, status := code + cnt.status,
      statBits := 7, statKey := some (goatKey g c.statAddr), bumps := cnt.bumps g ++ (RowCnt.commands g, 1) :: bumps,
      outs := outs }

/-- Input streams of a row operation. -/
def State.rowIns (s : State) (g : Nat) (c : RowCmd) : List Pat :=
  let two := decide (0x11 ≤ c.rop) && decide (c.rop ≤ 0x14)
  let gam := c.affine && decide (c.rop ∈ [0x01, 0x02, 0x11, 0x12])
  let bet := c.affine && decide (c.rop = 0x01)
  ([c.patX] ++ (if two then [c.patY] else []) ++ (if gam then [c.patG] else []) ++ (if bet then [c.patB] else [])).map (s.pat g)

/-- CODE of a row operation: TOKEN_ORDER before TABLE_EMPTY before STATS_MISSING (log 27). -/
def State.rowCode (s : State) (g : Nat) (c : RowCmd) (bad : Bool) (miss : Nat) : Nat :=
  if bad then 1
  else if c.slots.any (fun k => !s.tableOk g k) then 2
  else if 0 < miss then 3 else 0

/-- The rows of a row operation, statistics and outputs; nothing is read under TOKEN_ORDER (05 R119). -/
def State.rowRun (s : State) (g : Nat) (c : RowCmd) : RowOut :=
  let px := s.pat g c.patX
  let n := px.rowLen
  let xs := pieces n px.total (s.readPat g px)
  let ys := pieces n px.total (s.readPat g (s.pat g c.patY))
  let gam := if c.affine then s.readPat g (s.pat g c.patG) else []
  let bet := if c.affine && decide (c.rop = 0x01) then s.readPat g (s.pat g c.patB) else []
  (List.range px.rows).foldl (fun acc r => s.rowStep g c (xs.getD r []) (ys.getD r []) gam bet acc r)
    { out := [], stats := [], dg := [], db := [], miss := 0 }

/-- Rows whose target is at or beyond n, and rows whose target is negative (06 R151). -/
def State.badTargets (s : State) (g : Nat) (c : RowCmd) (n rows : Nat) : Nat × Nat :=
  if rowTargets c.rop then
    (((List.range rows).filter (fun r => decide ((n : Int) ≤ s.target g c r))).length,
      ((List.range rows).filter (fun r => decide (s.target g c r < 0))).length)
  else (0, 0)

/-- A row operation that holds the tokens it waits for. -/
def State.rowIssue (s : State) (g : Nat) (wk : Work) : State :=
  let c := rowCmd wk.desc
  let ins := s.rowIns g c
  let px := s.pat g c.patX
  let out := s.pat g c.patO
  let bad := decide (wk.code = 1)
  let o : RowOut := if bad then { out := [], stats := [], dg := [], db := [], miss := 0 } else s.rowRun g c
  let code := s.rowCode g c bad o.miss
  let res := if code = 1 || code = 2 then List.replicate out.total nan32 else o.out
  let w := s.drainPat g out false { key := 0, layer := 0, mbatch := 0 } res
  let s1 := w.state.returnTokens (wk.released.map (fun b => b.1))
  let stats := if c.statsW && !rowBackward c.rop then o.stats else []
  let s2 := ((List.range stats.length).zip stats).foldl (fun (s : State) e =>
    s.setSide g (c.sideRow + e.1) { key := c.stashId, v0 := e.2.1, v1 := e.2.2 }) s1
  let n := px.rowLen
  let wg : DrainOut := if !bad && (c.rop = 0x11 || c.rop = 0x12) then s2.addInto g c c.patDg n o.dg
    else { state := s2, counts := DrainCounts.zero, outs := [], cycles := 0, words := [] }
  let wb : DrainOut := if !bad && c.rop = 0x11 then wg.state.addInto g c c.patDb n o.db
    else { state := wg.state, counts := DrainCounts.zero, outs := [], cycles := 0, words := [] }
  let cnt := (w.counts.join wg.counts).join wb.counts
  let tg := s.badTargets g c n px.rows
  let r := (ins.map Pat.rate).foldl Nat.min 128
  let cyc := px.rows * (rowSweeps c.rop * ceilDiv n r + 48) + 32
  wb.state.launch (goatStream g)
    { s.rowFlight g wk.desc c code cyc cnt [(RowCnt.rows g, px.rows), (RowCnt.keyMiss g, o.miss), (RowCnt.badTarget g, tg.1),
        (RowCnt.ignored g, tg.2), (GoatCnt.tokenOrder g, b2n (decide (code = 1))), (GoatCnt.tableEmpty g, b2n (decide (code = 2)))]
        (w.outs ++ wg.outs ++ wb.outs) (code = 1 || code = 2 || 0 < o.miss) with
      nonfin := cnt.marks g c.health, release := wk.released }

/-- The row operation in hand of Goat `g` has its effects once it waits for no token. -/
def State.rowGo (s : State) (g : Nat) : State :=
  match s.goatDue g with
  | some w => s.rowIssue g w
  | none => s

/-- The row operation `rop` of Goat `g`, if its cycle 0 has come: its output's credits are there (12 R302); it waits for the bank
tokens its inputs name (05 R119). -/
def State.rowOp (s : State) (g rop : Nat) : State :=
  match s.readyGoat g 3 rop with
  | some d =>
    let c := rowCmd d
    if s.outReady g (s.pat g c.patO) then
      (s.goatPark g (s.newWork d) (s.rowIns g c) c.planCyc c.slackCyc (goatKey g c.statAddr)).rowGo g
    else s
  | none => s

/-- LN_FWD. -/
def execLnFwd (g : Fin 60) (s : State) : Host.Outcome State Fault Refusal := .next (s.rowOp g.val 0x01)
/-- RMS_FWD. -/
def execRmsFwd (g : Fin 60) (s : State) : Host.Outcome State Fault Refusal := .next (s.rowOp g.val 0x02)
/-- SM_FWD. -/
def execSmFwd (g : Fin 60) (s : State) : Host.Outcome State Fault Refusal := .next (s.rowOp g.val 0x03)
/-- LSM_FWD. -/
def execLsmFwd (g : Fin 60) (s : State) : Host.Outcome State Fault Refusal := .next (s.rowOp g.val 0x04)
/-- CE_FWD. -/
def execCeFwd (g : Fin 60) (s : State) : Host.Outcome State Fault Refusal := .next (s.rowOp g.val 0x05)
/-- LN_BWD. -/
def execLnBwd (g : Fin 60) (s : State) : Host.Outcome State Fault Refusal := .next (s.rowOp g.val 0x11)
/-- RMS_BWD. -/
def execRmsBwd (g : Fin 60) (s : State) : Host.Outcome State Fault Refusal := .next (s.rowOp g.val 0x12)
/-- SM_BWD. -/
def execSmBwd (g : Fin 60) (s : State) : Host.Outcome State Fault Refusal := .next (s.rowOp g.val 0x13)
/-- LSM_BWD. -/
def execLsmBwd (g : Fin 60) (s : State) : Host.Outcome State Fault Refusal := .next (s.rowOp g.val 0x14)
/-- CE_BWD. -/
def execCeBwd (g : Fin 60) (s : State) : Host.Outcome State Fault Refusal := .next (s.rowOp g.val 0x15)

/-! ## SPILL and RELOAD -/

/-- Entries SIDE_ROW to SIDE_ROW + COUNT − 1. -/
def State.sideRun (s : State) (g : Nat) (c : RowCmd) : List SideEntry :=
  (List.range c.count).map (fun i => s.sideAt g (c.sideRow + i))

/-- The words of a spill block (06 R154). -/
def spillWords (c : RowCmd) (es : List SideEntry) : List Word :=
  fit 0 16 [BitVec.ofNat 32 (c.stashId + c.count * 2 ^ 16)] ++ es.flatMap (fun e => [e.v0, e.v1])

/-- FP32 words written as they are, with the tags of their values (05 R114; no result is counted). -/
def State.drainRaw (s : State) (g : Nat) (p : Pat) (ws : List Word) : State × List (Nat × Nat) :=
  let els := p.outEls ws
  let d := p.place g fmtF32 false
  let c := s.convert d fmtF32 0 (fun _ => 0) false els
  let o := (els.filter (fun e => e.grid && e.shape)).foldl (fun o e => s.layCode d .fp32 o e.tile e.pos e.word.toNat) c.patch
  (s.flush (goatStream g) d o, o.outs d)

/-- SPILL (06 R154); an output that goes to an Ox queue needs its START credits at cycle 0 (12 R302). -/
def execSpill (g : Fin 60) (s : State) : Host.Outcome State Fault Refusal :=
  match s.readyGoat g.val 3 0x20 with
  | some d =>
    let c := rowCmd d
    if !s.outReady g.val (s.pat g.val c.patO) then .next s else
    let es := s.sideRun g.val c
    let ok := es.all (fun e => e.key == c.stashId)
    let w := if ok then s.drainRaw g.val (s.pat g.val c.patO) (spillWords c es) else (s, [])
    let s1 := if ok then (List.range c.count).foldl (fun (s : State) i => s.setSide g.val (c.sideRow + i)
      { s.sideAt g.val (c.sideRow + i) with key := 0xFFFF }) w.1 else s
    .next (s1.startCmd (goatStream g.val) (s.rowFlight g.val d c (if ok then 0 else 4) (ceilDiv c.count 16 + 64)
      DrainCounts.zero [(RowCnt.spills g.val, 1)] w.2 false))
  | none => .next s

/-- RELOAD (06 R155). -/
def execReload (g : Fin 60) (s : State) : Host.Outcome State Fault Refusal :=
  match s.readyGoat g.val 3 0x21 with
  | some d =>
    let c := rowCmd d
    let ws := s.readPat g.val (s.pat g.val c.patX)
    let h := (ws.headD 0).toNat
    let ok := decide (bits h 0 16 = c.stashId) && decide (bits h 16 16 = c.count)
    let s1 := if ok then (List.range c.count).foldl (fun (s : State) i => s.setSide g.val (c.sideRow + i)
      { key := c.stashId, v0 := ws.getD (16 + 2 * i) 0, v1 := ws.getD (17 + 2 * i) 0 }) s else s
    .next (s1.startCmd (goatStream g.val) (s.rowFlight g.val d c (if ok then 0 else 4) (ceilDiv c.count 16 + 64)
      DrainCounts.zero [(RowCnt.reloads g.val, 1)] [] false))
  | none => .next s

end Sys2Proof.Machine
end

