-- ==== Sys2Proof/Machine/ExpertRows.lean ====
section
/-! DEFINITION. The expert operations of the Hen cores (10): routing, dispatch, sorting, return, combine, epochs and gates, the
gate gradient; records, answers and end markers as the link unit receives them. -/

namespace Sys2Proof.Machine

/-! ## The descriptor -/

/-- A Hen expert descriptor (10 Table 10-6). -/
structure ExpCmd where
  hop : Nat
  router : Nat
  epoch : Nat
  qreset : Bool
  gscale : Bool
  unitW : Bool
  swSel : Nat
  slot : Nat
  epochEnd : Bool
  fmt : Nat
  t0 : Nat
  count : Nat
  h : Nat
  inA : Nat
  outA : Nat
  rec_ : Nat
  ans : Nat
  aux : Nat
  stat : Nat
  planCyc : Nat
  slackCyc : Nat
  sw : Nat
deriving DecidableEq, Repr

/-- The fields of a Hen expert descriptor (10 Table 10-6). -/
def expCmd (d : Nat) : ExpCmd :=
  { hop := bits d 128 8, router := bits d 136 8, epoch := bits d 144 16, qreset := bit d 160, gscale := bit d 161,
    unitW := bit d 162, swSel := bits d 163 2, slot := bits d 165 5, epochEnd := bit d 170, fmt := bits d 176 8,
    t0 := bits d 192 20, count := bits d 216 20, h := bits d 240 16, inA := addr256 (bits d 256 40),
    outA := addr256 (bits d 296 40), rec_ := addr256 (bits d 336 40), ans := addr256 (bits d 376 40), aux := bits d 416 14,
    stat := bits d 432 14, planCyc := bits d 448 32, slackCyc := bits d 480 16, sw := bits d 496 14 }

/-- COUNT′ and whether the shape word was capped (10 R245). -/
def State.expBound (s : State) (h : Nat) (c : ExpCmd) : Nat × Bool :=
  if c.swSel = 1 then
    let n := s.shapeCount (henKey h c.sw)
    (Nat.min n c.count, decide (c.count < n))
  else (c.count, false)

/-- An expert command in progress (10 Table 10-8). -/
def State.expFlight (s : State) (h d : Nat) (c : ExpCmd) (cycles code : Nat) (capped drops : Bool) (a b : Nat)
    (extra : List Bump) (outs : List (Nat × Nat)) : InFlight :=
  { s.newFlight (henStream h) d with
      cycles := cycles, planCyc := c.planCyc, slackCyc := c.slackCyc, capped := capped,
      status := fields [(0, code), (5, b2n capped), (6, b2n drops), (64, sat32 a), (96, sat32 b)], statBits := 7,
      statKey := some (henKey h c.stat), bumps := [(ExpCnt.commands h, 1), (ExpCnt.shapeCapped h, b2n capped)] ++ extra,
      outs := outs }

/-! ## Members and gates -/

/-- Module ID of member `g` of router `r`'s group (10 R232, R233). -/
def State.memberOf (s : State) (r : Router) (g : Nat) : Nat := s.readNat (r.groupTab + 2 * g) 2 % 4096

/-- The module's own place in a group; none if it is no member. -/
def State.ownMember (s : State) (r : Router) : Option Nat :=
  (List.range r.g).find? (fun g => decide (s.memberOf r g = s.ownId))

/-- LOW of a router's gate: 0 dispatch, 1 answer (10 R249). -/
def State.gateLow (s : State) (r gate : Nat) : Nat := Tab.get 0 s.unit.gates (2 * r + gate)

/-- A gate accepts epoch `x`. -/
def State.accepts (s : State) (r gate x : Nat) : Bool :=
  decide ((x + 65536 - s.gateLow r gate % 65536) % 65536 < 32768)

/-- Epoch `x` closed at a gate: LOW becomes x + 1 if x is accepted (10 R249). -/
def State.closeEpoch (s : State) (r gate x : Nat) : State :=
  if s.accepts r gate x then { s with unit.gates := Tab.set 0 s.unit.gates (2 * r + gate) ((x + 1) % 65536) } else s

/-- Epoch `x` of a router has begun: a command that names it has reached its cycle 0 (10 R249; log 34). -/
def State.beginEpoch (s : State) (r x : Nat) : State :=
  let cur := Tab.get 0 s.unit.begun r
  if (x + 1 + 65536 - cur) % 65536 < 32768 then { s with unit.begun := Tab.set 0 s.unit.begun r ((x + 1) % 65536) } else s

/-- Both gates of every router close all that has begun (10 R249). -/
def State.closeGates (s : State) : State :=
  (List.range 256).foldl (fun s r =>
    let low := Tab.get 0 s.unit.begun r
    { s with unit.gates := Tab.put 0 s.unit.gates (2 * r) [low, low] }) { s with unit.placed := [] }

/-! ## ROUTE (10 R235 to R240) -/

/-- A route entry (10 Table 10-3). -/
structure RouteEntry where
  expert : Nat
  dropped : Bool
  moves : Nat
  rank : Nat
  member : Nat
  slot : Nat
  qpos : Nat
  p : Word
  w : Word
deriving DecidableEq, Repr

/-- The 128 bits of a route entry. -/
def RouteEntry.word (e : RouteEntry) : Nat :=
  fields [(0, e.expert), (10, b2n e.dropped), (11, e.moves), (13, e.rank), (16, e.member), (24, e.slot), (32, e.qpos),
    (64, e.p.toNat), (96, e.w.toNat)]

/-- A route entry from its 128 bits. -/
def routeEntry (v : Nat) : RouteEntry :=
  { expert := bits v 0 10, dropped := bit v 10, moves := bits v 11 2, rank := bits v 13 3, member := bits v 16 8,
    slot := bits v 24 5, qpos := bits v 32 16, p := BitVec.ofNat 32 (bits v 64 32), w := BitVec.ofNat 32 (bits v 96 32) }

/-- A residency map entry (10 Table 10-2). -/
structure ResEntry where
  member : Nat
  slot : Nat
  res : Bool
deriving DecidableEq, Repr

/-- A residency map entry from its 16 bits. -/
def resEntry (v : Nat) : ResEntry := { member := bits v 0 8, slot := bits v 8 5, res := bit v 15 }

/-- What routing has done so far: quota left by expert, and the counts of Table 10-9. -/
structure RouteSt where
  quota : List Nat
  examined : Nat
  notRes : Nat
  full : Nat
deriving DecidableEq, Repr

/-- A dropped slot (10 R236). -/
def dropEntry (r moves : Nat) (v : Word) : RouteEntry :=
  { expert := 0, dropped := true, moves := moves, rank := r, member := 0, slot := 0, qpos := 0, p := v, w := v }

/-- One slot filled from the ranked list (10 R236): the entry, what is left of the list, the state after it. -/
def fillSlot (res : List ResEntry) (quota depth r : Nat) : Nat → List (Nat × Word) → RouteSt → RouteEntry × List (Nat × Word) × RouteSt
  | moves, [], st => (dropEntry r moves 0, [], st)
  | moves, (e, p) :: l, st =>
    let m := res.getD e { member := 0, slot := 0, res := false }
    let left := st.quota.getD e 0
    let st1 : RouteSt :=
      { st with examined := st.examined + 1, notRes := st.notRes + b2n (!m.res), full := st.full + b2n (decide (left = 0)) }
    if m.res && decide (0 < left) then
      ({ expert := e, dropped := false, moves := moves, rank := r, member := m.member, slot := m.slot, qpos := quota - left,
         p := p, w := p }, l, { st1 with quota := st1.quota.set e (left - 1) })
    else if moves = depth then (dropEntry r moves 0, l, st1)
    else fillSlot res quota depth r (moves + 1) l st1

/-- The K slots of a token filled in order. -/
def fillSlots (res : List ResEntry) (quota depth : Nat) : List Nat → List (Nat × Word) → RouteSt → List RouteEntry × RouteSt
  | [], _, st => ([], st)
  | r :: rs, l, st =>
    let (e, l1, st1) := fillSlot res quota depth r 0 l st
    let rest := fillSlots res quota depth rs l1 st1
    (e :: rest.1, rest.2)

/-- Renormalisation applies to a token with these entries (10 R236). -/
def renorms (rt : Router) (out : List RouteEntry) : Bool :=
  let kept := out.filter (fun e => !e.dropped)
  !(decide (rt.renorm = 0) || kept.isEmpty || (decide (rt.renorm = 2) && decide (kept.length = rt.k)))

/-- z: the sum of the kept probabilities in ascending rank. -/
def keptSum (out : List RouteEntry) : Word := (out.filter (fun e => !e.dropped)).foldl (fun z e => fadd z e.p) 0

/-- renormalise (10 R236). -/
def renormalise (rt : Router) (out : List RouteEntry) : List RouteEntry :=
  if renorms rt out then
    let z := keptSum out
    out.map (fun e => if e.dropped then e else { e with w := fdiv e.p z })
  else out

/-- One token routed (10 R236, R237). -/
def routeToken (rt : Router) (res : List ResEntry) (p : List Word) (st : RouteSt) : List RouteEntry × RouteSt :=
  if p.any isNan32 then ((List.range rt.k).map (fun r => dropEntry r 0 nan32), st)
  else
    let o := fillSlots res rt.quota rt.depth (List.range rt.k) (ranked p) st
    (renormalise rt o.1, o.2)

/-- ROUTE at the head of Hen `h`'s stream. -/
def State.route (s : State) (h d : Nat) : State :=
  let c := expCmd d
  let u := henStream h
  let rt := s.router c.router
  let (n, capped) := s.expBound h c
  let qKey := henKey h c.aux
  let quota0 := (List.range rt.e).map (fun e => if c.qreset then rt.quota else s.natAt (qKey + 2 * e) 2)
  let res := (List.range rt.e).map (fun e => resEntry (s.readNat (rt.mapAddr + 2 * e) 2))
  let pb := blockAt c.inA c.count rt.e fmtF32
  let rows := (List.range n).map (fun t => s.rowF32 pb t rt.e)
  let out := rows.foldl (fun (acc : List (List RouteEntry) × RouteSt) p =>
    let r := routeToken rt res p acc.2
    (acc.1 ++ [r.1], r.2)) ([], { quota := quota0, examined := 0, notRes := 0, full := 0 })
  let nan := (rows.filter (fun p => p.any isNan32)).length
  let wants := (rows.filter (fun p => !p.any isNan32)).flatMap (fun p => ((ranked p).take rt.k).map (fun x => x.1))
  let usage := wants.foldl (fun (t : Tab Nat) e => Tab.upd 0 t e (fun v => v + 1)) []
  let all := out.1.flatten
  let drops := (all.filter (fun e => e.dropped)).length
  let moved := (all.filter (fun e => !e.dropped && decide (0 < e.moves))).length
  let s0 := ((List.range n).foldl (fun s t => s.noteRow u pb t rt.e) (s.beginEpoch c.router c.epoch)).noteRead u rt.mapAddr (2 * rt.e)
  let s1 := s0.write u c.rec_ (all.flatMap (fun e => natLe 16 e.word))
  let s2 := s1.write u c.outA ((List.range rt.e).flatMap (fun e => natLe 4 (sat32 (s.readNat (c.outA + 4 * e) 4 + Tab.get 0 usage e))))
  let s3 := s2.poke qKey (out.2.quota.flatMap (natLe 2))
  s3.startCmd u (s.expFlight h d c (64 + n * ceilDiv rt.e 64 + out.2.examined) (if 0 < nan then 3 else 0) capped
    (decide (0 < drops)) drops moved
    [(ExpCnt.tokens h, n), (ExpCnt.slotsDropped h, drops), (ExpCnt.slotsMoved h, moved), (ExpCnt.notResident h, out.2.notRes),
      (ExpCnt.quotaFull h, out.2.full), (ExpCnt.gateNanRows h, nan)]
    [(c.rec_, 16 * rt.k * n), (c.outA, 4 * rt.e), (qKey, 2 * rt.e)])

/-- ROUTE (10 R236). -/
def execRoute (h : Fin 30) (s : State) : Host.Outcome State Fault Refusal :=
  match s.readyExec (henStream h.val) 5 0x10 with
  | some d => .next ((s.clearReuse h.val).route h.val d)
  | none => .next s

/-- The route record of token `t` at `rec_` (10 R239). -/
def State.routeRecord (s : State) (rt : Router) (rec_ t : Nat) : List RouteEntry :=
  (List.range rt.k).map (fun r => routeEntry (s.readNat (rec_ + 16 * (rt.k * t + r)) 16))

/-! ## Receiving (10 R243, R244, R247, R250) -/

/-- Format and row width of a batch, from the plan's own command on it: the SORT that compacts its rows (HOP 0x12) or the COMBINE
that sums its answers (HOP 0x14); the record carries neither (log 35). -/
def State.batchShape (s : State) (hop router epoch : Nat) : Option (Fmt × Nat) :=
  (List.range 30).findSome? (fun h =>
    let tab := s.streamTab s.plan.variant (henStream h)
    (List.range tab.2).findSome? (fun i =>
      let d := s.descAt (tab.1 + i)
      let c := expCmd d
      if dUnit d = 5 && dOpc d = 0 && decide (c.hop = hop) && decide (c.router = router) && decide (c.epoch = epoch) then
        (fmtOfByte c.fmt).map (fun f => (f, c.h))
      else none))

/-- Rows of one slot's receive tensor, rounded to whole tile rows (10 R243). -/
def Router.slotRows (rt : Router) : Nat := roundUp (rt.g * rt.quota) 128

/-- The receive area of an epoch as one tensor: slot s's rows start at s·⌈G·QUOTA/128⌉ tile rows (10 R243). -/
def Router.recvBlock (rt : Router) (epoch w : Nat) (f : Fmt) : RowBlock :=
  blockAt (rt.recv.getD (epoch % 4) 0) (rt.s * rt.slotRows) w f

/-- Row of the receive area that source `src` fills at `qpos` for slot `slot`. -/
def Router.recvRow (rt : Router) (slot src qpos : Nat) : Nat := slot * rt.slotRows + src * rt.quota + qpos

/-- Key of the index entry of a received row. -/
def indexKey (router epoch row : Nat) : Nat := (router * 4 + epoch % 4) * 2 ^ 32 + row

/-- The answer area of an epoch: K·T_MAX rows (10 R247). -/
def Router.answBlock (rt : Router) (base w : Nat) (f : Fmt) : RowBlock := blockAt base (rt.k * rt.tMax) w f

/-- Where the presence bitmap of an answer area starts: at the next 256-byte boundary after the rows (10 R247). -/
def Router.bitmap (rt : Router) (base w : Nat) (f : Fmt) : Nat :=
  let n := tilesOf (rt.k * rt.tMax) w
  let a := base + roundUp (n * f.elem.tileBytes) 256
  match f.comp with
  | .plain => a
  | c => a + roundUp (n * c.sliceBytes) 256

/-- Whether row `row` of an answer area is present. -/
def State.present (s : State) (map row : Nat) : Bool := bit (s.readNat (map + row / 8) 1) (row % 8)

/-- A presence bit set or cleared. -/
def State.setPresent (s : State) (req map row : Nat) (v : Bool) : State :=
  let b := s.readNat (map + row / 8) 1
  let m := 2 ^ (row % 8)
  s.write req (map + row / 8) (natLe 1 (if v then b ||| m else if bit b (row % 8) then b - m else b))

/-- A key of the kept end-marker counts: field 32 says that the marker has come. -/
def markerKey (router epoch src field : Nat) : Nat := ((router * 65536 + epoch) * 256 + src) * 64 + field

/-- The counts of batches whose area epoch `x` takes over are dropped (10 R243). -/
def State.dropMarkers (s : State) (router x : Nat) : State :=
  { s with unit.markers := s.unit.markers.filter (fun e =>
      let k := e.1 / 2 ^ 14
      !(decide (k / 65536 = router) && decide (k % 65536 ≠ x) && decide (k % 4 = x % 4))) }

/-- A dispatch record: refused by the gate, or each selection's row and index entry written (10 R242, R243, R250). Only the row's H
columns are written; whether a padding column beside them becomes +0 (03 R51) the spec does not say of single rows (log 140). -/
def State.recvRecord (s : State) (link : Nat) (data : List Byte) : State :=
  let v := natIn data 0 64
  let router := bits v 0 8
  let src := bits v 8 8
  let x := bits v 16 16
  if !s.accepts router 0 x then s.bump ExpModCnt.epochDiscDisp 1
  else
    let rt := s.router router
    match s.batchShape 0x12 router x with
    | none => s
    | some (f, w) =>
      let b := rt.recvBlock x w f
      (List.range (bits v 52 4)).foldl (fun s j =>
        let sel := bits v (64 + 56 * j) 56
        let row := rt.recvRow (bits sel 0 5) src (bits sel 8 16)
        let s1 := s.putRow (226 + link % 8) b row w (data.drop 64)
        let entry := 2 ^ 128 + fields [(0, src), (8, bits sel 5 3), (16, bits v 32 20), (64, bits sel 24 32)]
        { s1 with unit.index := Tab.set 0 s1.unit.index (indexKey router x row) entry })
        (s.dropMarkers router x)

/-- Bytes of an epoch's receive area and of its answer area with its bitmap (10 R243, R247). -/
def State.recvBytes (s : State) (router x : Nat) : Nat × Nat :=
  let rt := s.router router
  match s.batchShape 0x12 router x with
  | some (f, w) => (rt.recv.getD (x % 4) 0, tilesOf (rt.s * rt.slotRows) w * (f.elem.tileBytes + f.comp.sliceBytes) + 256)
  | none => (0, 0)
def State.answBytes (s : State) (router x : Nat) : Nat × Nat :=
  let rt := s.router router
  let base := rt.answ.getD (x % 4) 0
  match s.batchShape 0x14 router x with
  | some (f, w) => (base, rt.bitmap base w f + ceilDiv (rt.k * rt.tMax) 8 - base)
  | none => (0, 0)

/-- A dispatch end marker: a refused one adds nothing; another is kept and signals once the rows before it have landed (10 R244,
R250). -/
def State.recvMarker (s : State) (link : Nat) (m : EndMarker) : State :=
  if s.accepts m.router 0 m.epoch then
    let s1 := s.dropMarkers m.router m.epoch
    let base := markerKey m.router m.epoch m.src 0
    let area := s.recvBytes m.router m.epoch
    ({ s1 with unit.markers := Tab.put 0 s1.unit.markers base (fit 0 32 m.counts ++ [1]) } : State).received
      { port := link, src := m.src, key := area.1, len := area.2, sigId := s.expBase + 2 * m.router, sigInc := 1, tell := false }
  else s

/-- An answer: refused by the gate, a duplicate discarded, or written with its presence bit (10 R247, R250); the row's H columns
only (log 140). -/
def State.recvAnswer (s : State) (link : Nat) (data : List Byte) : State :=
  let req := 226 + link % 8
  let v := natIn data 0 16
  let router := bits v 0 8
  let x := bits v 8 16
  if !s.accepts router 1 x then s.bump ExpModCnt.epochDiscAns 1
  else
    let rt := s.router router
    match s.batchShape 0x14 router x with
    | none => s
    | some (f, w) =>
      let base := rt.answ.getD (x % 4) 0
      let row := rt.k * bits v 24 20 + bits v 44 3
      let map := rt.bitmap base w f
      if s.present map row then s.bump ExpModCnt.dupAnswers 1
      else (s.putRow req (rt.answBlock base w f) row w (data.drop 16)).setPresent req map row true

/-- An answer end marker: it signals once the answers before it have landed (10 R247, R250). -/
def State.recvAnswerMarker (s : State) (link : Nat) (m : EndMarker) : State :=
  if s.accepts m.router 1 m.epoch then
    let area := s.answBytes m.router m.epoch
    s.received
      { port := link, src := m.src, key := area.1, len := area.2, sigId := s.expBase + 2 * m.router + 1, sigInc := 1, tell := false }
  else s

/-- The link by which what a module sends comes: the loopback path for the module itself (10 R233). -/
def State.inLink (s : State) (src : Nat) : Nat := if src = s.ownId then loopback else s.arrival src

/-- A received expert message is acknowledged once its row has landed; a loopback one needs no link (10 R233, R261). -/
def State.ackExpert (s : State) (src : Nat) (area : Nat × Nat) : State :=
  s.received
    { port := s.inLink src, src := src, key := area.1, len := area.2, sigId := noCtr, sigInc := 0, tell := decide (s.inLink src < 16) }

/-- Router and epoch of a dispatch header and of an answer header (10 Table 10-4, R247). -/
def recordBatch (data : List Byte) : Nat × Nat := (bits (natIn data 0 64) 0 8, bits (natIn data 0 64) 16 16)
def answerBatch (data : List Byte) : Nat × Nat := (bits (natIn data 0 16) 0 8, bits (natIn data 0 16) 8 16)

/-- The bytes of an end marker on a link: router, member, epoch and the counts; the spec gives its fields and no layout
(log 36). -/
def EndMarker.bytes (m : EndMarker) : List Byte := natLe 1 m.router ++ natLe 1 m.src ++ natLe 2 m.epoch ++ m.counts.flatMap (natLe 2)

/-- An expert message that comes for a failed module goes on to its spare (15 R395). -/
def State.passExpert (s : State) (w lane src : Nat) (data : List Byte) : State :=
  s.passOn w
    { lane := lane, kind := 5, dst := s.fab.modId, src := src, sigId := noCtr, sigInc := 0, addr := 0, num := 0, space := 0,
      data := data }

/-- Fabric address of member `g` of router `r`'s group. -/
def State.memberAddr (s : State) (r g : Nat) : Nat := s.memberOf (s.router r) g

/-- DISPATCH_RECORD_RX (10 R243). -/
def execDispatchRecordRx (msg : ExpertMsg) (s : State) : Host.Outcome State Fault Refusal :=
  match checked (.dispatchRecordRx msg) s with
  | .next s =>
    if !s.plan.loaded then .next s
    else
      match s.fab.redirect with
      | some w => .next (s.passExpert w 1 msg.src msg.data)
      | none =>
        .next ((s.recvRecord (s.inLink msg.src) msg.data).ackExpert msg.src
          (s.recvBytes (recordBatch msg.data).1 (recordBatch msg.data).2))
  | o => o

/-- DISPATCH_END_MARKER_RX (10 R244). -/
def execDispatchEndMarkerRx (msg : EndMarker) (s : State) : Host.Outcome State Fault Refusal :=
  match checked (.dispatchEndMarkerRx msg) s with
  | .next s =>
    if !s.plan.loaded then .next s
    else
      match s.fab.redirect with
      | some w => .next (s.passExpert w 1 (s.memberAddr msg.router msg.src) (EndMarker.bytes msg))
      | none => .next (s.recvMarker (s.inLink (s.memberAddr msg.router msg.src)) msg)
  | o => o

/-- ANSWER_RX (10 R247). -/
def execAnswerRx (msg : ExpertMsg) (s : State) : Host.Outcome State Fault Refusal :=
  match checked (.answerRx msg) s with
  | .next s =>
    if !s.plan.loaded then .next s
    else
      match s.fab.redirect with
      | some w => .next (s.passExpert w 2 msg.src msg.data)
      | none =>
        .next ((s.recvAnswer (s.inLink msg.src) msg.data).ackExpert msg.src
          (s.answBytes (answerBatch msg.data).1 (answerBatch msg.data).2))
  | o => o

/-- ANSWER_END_MARKER_RX (10 R247). -/
def execAnswerEndMarkerRx (msg : EndMarker) (s : State) : Host.Outcome State Fault Refusal :=
  match checked (.answerEndMarkerRx msg) s with
  | .next s =>
    if !s.plan.loaded then .next s
    else
      match s.fab.redirect with
      | some w => .next (s.passExpert w 2 (s.memberAddr msg.router msg.src) (EndMarker.bytes msg))
      | none => .next (s.recvAnswerMarker (s.inLink (s.memberAddr msg.router msg.src)) msg)
  | o => o

/-! ## Sending -/

/-- An expert message to another module, KIND 5 (15 Table 15-2), on the lane given. -/
def State.sendExpert (s : State) (lane dst : Nat) (data : List Byte) : State :=
  match s.hopHere s.fabricAddr dst with
  | some h =>
    s.sendMsg h.port h.cls
      { lane := lane, kind := 5, dst := dst, src := s.fabricAddr, sigId := noCtr, sigInc := 0, addr := 0, num := 0, space := 0,
        data := data }
  | none => s

/-- End markers to every member, the module itself by loopback (10 R233, R244, R247). -/
def State.sendMarkers (s : State) (rt : Router) (router epoch lane : Nat) (counts : Nat → List Nat) : State :=
  let me := (s.ownMember rt).getD 0
  (List.range rt.g).foldl (fun s g =>
    let m : EndMarker := { router := router, src := me, epoch := epoch, counts := counts g }
    let id := s.memberOf rt g
    if id = s.ownId then (if lane = 1 then s.recvMarker loopback m else s.recvAnswerMarker loopback m) else s.sendExpert lane id (EndMarker.bytes m)) s

/-- The dispatch header (10 Table 10-4). -/
def recordHeader (router me epoch t : Nat) (sels : List RouteEntry) : List Byte :=
  natLe 64 (fields ([(0, router), (8, me), (16, epoch), (32, t), (52, sels.length)] ++
    ((List.range sels.length).zip sels).map (fun x =>
      (64 + 56 * x.1, fields [(0, x.2.slot), (5, x.2.rank), (8, x.2.qpos), (24, x.2.w.toNat)]))))

/-- Key of the rows placed for a batch in slot `sl` of member `g`. -/
def placedKey (router epoch g sl : Nat) : Nat := ((router * 65536 + epoch) * 256 + g) * 32 + sl

/-! ## DISPATCH (10 R241, R242, R244) -/

/-- The distinct members that a token's kept entries name, ascending (10 R241). -/
def membersOf (es : List RouteEntry) : List Nat :=
  (List.range 256).filter (fun g => es.any (fun e => !e.dropped && decide (e.member = g)))

/-- The record of one token to one member leaves, or loops back. -/
def State.sendRecord (s : State) (rt : Router) (c : ExpCmd) (me t g : Nat) (sels : List RouteEntry) (row : List Byte) : State :=
  let data := recordHeader c.router me c.epoch t sels ++ row
  let dst := s.memberOf rt g
  let s1 := if dst = s.ownId then s.recvRecord loopback data else s.sendExpert 1 dst data
  { s1 with unit.placed := sels.foldl (fun t e => Tab.upd 0 t (placedKey c.router c.epoch g e.slot) (fun v => v + 1)) s1.unit.placed }

/-- DISPATCH at the head of Hen `h`'s stream. -/
def State.dispatchCmd (s : State) (h d : Nat) : State :=
  let c := expCmd d
  let u := henStream h
  let rt := s.router c.router
  match fmtOfByte c.fmt with
  | none => s
  | some f =>
    let (n, capped) := s.expBound h c
    let me := (s.ownMember rt).getD 0
    let ib := blockAt c.inA c.count c.h f
    let work := (List.range n).flatMap (fun i =>
      let es := (s.routeRecord rt c.rec_ i).filter (fun e => !e.dropped)
      (membersOf es).map (fun g => (i, g, es.filter (fun e => decide (e.member = g)))))
    let s0 := (List.range n).foldl (fun s i => (s.noteRow u ib i c.h).noteRead u (c.rec_ + 16 * rt.k * i) (16 * rt.k))
      (s.beginEpoch c.router c.epoch)
    let s1 := work.foldl (fun s' x => s'.sendRecord rt c me (c.t0 + x.1) x.2.1 x.2.2 (s.rowAt ib x.1 c.h)) s0
    let s2 :=
      if c.epochEnd then
        let counts := fun g => (List.range rt.s).map (fun sl => Tab.get 0 s1.unit.placed (placedKey c.router c.epoch g sl))
        let s2 := s1.sendMarkers rt c.router c.epoch 1 counts
        { s2 with unit.placed := s2.unit.placed.filter (fun e => decide (e.1 / 8192 ≠ c.router * 65536 + c.epoch)) }
      else s1
    let t := 48 + work.length * (1 + ceilDiv (rowBytes f c.h) 256)
    s2.startCmd u (s.expFlight h d c t 0 capped false work.length 0 [(ExpCnt.recordsSent h, work.length)] [])

/-- DISPATCH (10 R241). -/
def execDispatch (h : Fin 30) (s : State) : Host.Outcome State Fault Refusal :=
  match s.readyExec (henStream h.val) 5 0x11 with
  | some d => .next ((s.clearReuse h.val).dispatchCmd h.val d)
  | none => .next s

/-! ## SORT (10 R246, R251) -/

/-- The received rows that SORT copies: source, position in its quota. -/
def State.sortedRows (s : State) (rt : Router) (c : ExpCmd) : List (Nat × Nat) :=
  (List.range rt.g).flatMap (fun src =>
    if Tab.get 0 s.unit.markers (markerKey c.router c.epoch src 32) = 1 then
      (List.range (Tab.get 0 s.unit.markers (markerKey c.router c.epoch src c.slot))).map (fun q => (src, q))
    else [])

/-- Members whose end marker has not come. -/
def State.missingSources (s : State) (rt : Router) (c : ExpCmd) : Nat :=
  ((List.range rt.g).filter (fun src => decide (Tab.get 0 s.unit.markers (markerKey c.router c.epoch src 32) ≠ 1))).length

/-- A row scaled by W: FP32 words (10 R246). -/
def scaleRow (w : Word) (l : List Word) : List Byte := wordBytes (l.map (fun x => fmul x w))

/-- SORT at the head of Hen `h`'s stream. -/
def State.sortCmd (s : State) (h d : Nat) : State :=
  let c := expCmd d
  let u := henStream h
  let rt := s.router c.router
  match fmtOfByte c.fmt with
  | none => s
  | some f =>
    let fo := if c.gscale then fmtF32 else f
    let rb := rt.recvBlock c.epoch c.h f
    let ob := blockAt c.outA (rt.g * rt.quota) c.h fo
    let rows := s.sortedRows rt c
    let miss := s.missingSources rt c
    let at_ := fun (x : Nat × Nat) => rt.recvRow c.slot x.1 x.2
    let entry := fun (x : Nat × Nat) => Tab.get 0 s.unit.index (indexKey c.router c.epoch (at_ x)) % 2 ^ 128
    let data := rows.map (fun x =>
      if c.gscale then scaleRow (BitVec.ofNat 32 (bits (entry x) 64 32)) (s.rowF32 rb (at_ x) c.h) else s.rowAt rb (at_ x) c.h)
    let s0 := rows.foldl (fun s x => s.noteRow u rb (at_ x) c.h) ((s.beginEpoch c.router c.epoch).closeEpoch c.router 0 c.epoch)
    let s1 := s0.putGrid u ob c.h data
    let s2 := s1.write u c.rec_ (rows.flatMap (fun x => natLe 16 (entry x)))
    let fan := henKey h c.aux
    let dests := (List.range (s.natAt fan 8)).map (fun i => locOfWord (s.natAt (fan + 8 + 8 * i) 8))
    let s3 := dests.foldl (fun s k => s.write u k (natLe 8 (fields [(0, rows.length), (32, c.epoch)]))) s2
    let bOut := if c.gscale then 4 * c.h else rowBytes f c.h
    let t := 48 + rt.g + rows.length * ceilDiv bOut 256
    s3.startCmd u (s.expFlight h d c t (if 0 < miss then 2 else 0) false false rows.length miss
      [(ExpCnt.rowsSorted h, rows.length), (ExpCnt.missingSrc h, miss)]
      (ob.outs rows.length c.h ++ [(c.rec_, 16 * rows.length)] ++ dests.map (fun k => (k, 8))))

/-- SORT (10 R246). -/
def execSort (h : Fin 30) (s : State) : Host.Outcome State Fault Refusal :=
  match s.readyExec (henStream h.val) 5 0x12 with
  | some d => .next ((s.clearReuse h.val).sortCmd h.val d)
  | none => .next s

/-! ## RETURN (10 R247) -/

/-- The answer header. -/
def answerHeader (router epoch idx : Nat) : List Byte :=
  natLe 16 (fields [(0, router), (8, epoch), (24, bits idx 16 20), (44, bits idx 8 3)])

/-- RETURN at the head of Hen `h`'s stream. -/
def State.returnCmd (s : State) (h d : Nat) : State :=
  let c := expCmd d
  let u := henStream h
  let rt := s.router c.router
  match fmtOfByte c.fmt with
  | none => s
  | some f =>
    let (n, capped) := s.expBound h c
    let ib := blockAt c.inA c.count c.h f
    let idx := fun i => s.readNat (c.rec_ + 16 * i) 16
    let s0 := (List.range n).foldl (fun s i => (s.noteRow u ib i c.h).noteRead u (c.rec_ + 16 * i) 16)
      (s.beginEpoch c.router c.epoch)
    let s1 := (List.range n).foldl (fun s' i =>
      let data := answerHeader c.router c.epoch (idx i) ++ s.rowAt ib i c.h
      let dst := s.memberOf rt (bits (idx i) 0 8)
      if dst = s.ownId then s'.recvAnswer loopback data else s'.sendExpert 2 dst data) s0
    let s2 := if c.epochEnd then s1.sendMarkers rt c.router c.epoch 2 (fun _ => []) else s1
    let t := 48 + n * (1 + ceilDiv (rowBytes f c.h + 16) 256)
    s2.startCmd u (s.expFlight h d c t 0 capped false n 0 [(ExpCnt.answersSent h, n)] [])

/-- RETURN (10 R247). -/
def execRet (h : Fin 30) (s : State) : Host.Outcome State Fault Refusal :=
  match s.readyExec (henStream h.val) 5 0x13 with
  | some d => .next ((s.clearReuse h.val).returnCmd h.val d)
  | none => .next s

/-! ## COMBINE (10 R248, R251) -/

/-- A token's y (10 R248): `ans` gives a present answer's row. -/
def combineRow (unitW : Bool) (w : Nat) (es : List RouteEntry) (ans : Nat → Option (List Word)) : List Word :=
  es.foldl (fun y x =>
    if x.dropped then y
    else match ans x.rank with
      | none => y
      | some a => List.zipWith (fun y a => if unitW then fadd y a else ffma x.w a y) y a) (List.replicate w 0)

/-- COMBINE at the head of Hen `h`'s stream. -/
def State.combineCmd (s : State) (h d : Nat) : State :=
  let c := expCmd d
  let u := henStream h
  let rt := s.router c.router
  match fmtOfByte c.fmt with
  | none => s
  | some f =>
    let (n, capped) := s.expBound h c
    let base := rt.answ.getD (c.epoch % 4) 0
    let ab := rt.answBlock base c.h f
    let map := rt.bitmap base c.h f
    let recs := (List.range n).map (fun i => s.routeRecord rt c.rec_ i)
    let kept := ((List.range n).zip recs).flatMap (fun x =>
      (x.2.filter (fun e => !e.dropped)).map (fun e => rt.k * (c.t0 + x.1) + e.rank))
    let got := kept.filter (fun r => s.present map r)
    let miss := kept.length - got.length
    let ys := ((List.range n).zip recs).map (fun x => wordBytes (combineRow c.unitW c.h x.2 (fun r =>
      let row := rt.k * (c.t0 + x.1) + r
      if s.present map row then some (s.rowF32 ab row c.h) else none)))
    let s0 := got.foldl (fun s r => s.noteRow u ab r c.h) ((s.beginEpoch c.router c.epoch).closeEpoch c.router 1 c.epoch)
    let s1 := s0.noteRead u c.rec_ (16 * rt.k * n)
    let ob := blockAt c.outA c.count c.h fmtF32
    let s2 := s1.putGrid u ob c.h ys
    let s3 := got.foldl (fun s r => s.setPresent u map r false) s2
    let t := 48 + got.length * ceilDiv (rowBytes f c.h) 256 + n * ceilDiv (4 * c.h) 256
    s3.startCmd u (s.expFlight h d c t (if 0 < miss then 2 else 0) capped false miss 0 [(ExpCnt.missingAns h, miss)]
      (ob.outs n c.h))

/-- COMBINE (10 R248). -/
def execCombine (h : Fin 30) (s : State) : Host.Outcome State Fault Refusal :=
  match s.readyExec (henStream h.val) 5 0x14 with
  | some d => .next ((s.clearReuse h.val).combineCmd h.val d)
  | none => .next s

/-! ## EPOCH_CLOSE -/

/-- EPOCH_CLOSE (10 R249, Table 10-7): the gate that GSCALE names. -/
def State.epochCloseCmd (s : State) (h d : Nat) : State :=
  let c := expCmd d
  ((s.beginEpoch c.router c.epoch).closeEpoch c.router (b2n c.gscale) c.epoch).startCmd (henStream h)
    (s.expFlight h d c 16 0 false false 0 0 [] [])

/-- EPOCH_CLOSE at the head of Hen `h`'s stream. -/
def execEpochClose (h : Fin 30) (s : State) : Host.Outcome State Fault Refusal :=
  match s.readyExec (henStream h.val) 5 0x15 with
  | some d => .next ((s.clearReuse h.val).epochCloseCmd h.val d)
  | none => .next s

/-! ## GATE_GRAD (10 R253) -/

/-- dot (10 R253): element j into lane j mod 128 by fma from +0, then the tree of R147. -/
def laneDot (a b : List Word) : Word :=
  let lane := fun l => ((List.zip a b).zipIdx.filter (fun x => x.2 % 128 == l)).foldl (fun z x => ffma x.1.1 x.1.2 z) 0
  (treeOf fadd 7 ((List.range 128).map lane)).headD 0

/-- The gate gradient of one token: values by expert (10 R253). -/
def gateRow (rt : Router) (es : List RouteEntry) (g : Nat → Word) : Tab Word :=
  let kept := es.filter (fun e => !e.dropped)
  let adj := renorms rt es
  let z := keptSum es
  let sm := kept.foldl (fun a e => ffma (g e.rank) e.w a) 0
  kept.foldl (fun t e => Tab.set 0 t e.expert (if adj then fdiv (fsub (g e.rank) sm) z else g e.rank)) []

/-- GATE_GRAD at the head of Hen `h`'s stream. -/
def State.gateGradCmd (s : State) (h d : Nat) : State :=
  let c := expCmd d
  let u := henStream h
  let rt := s.router c.router
  match fmtOfByte c.fmt with
  | none => s
  | some f =>
    let (n, capped) := s.expBound h c
    let ib := blockAt c.inA c.count c.h f
    let ab := rt.answBlock c.ans c.h f
    let map := rt.bitmap c.ans c.h f
    let rows := (List.range n).map (fun i => (i, s.routeRecord rt c.rec_ i))
    let kept := rows.flatMap (fun x =>
      (x.2.filter (fun e => !e.dropped)).map (fun e => rt.k * (c.t0 + x.1) + e.rank))
    let got := kept.filter (fun r => s.present map r)
    let miss := kept.length - got.length
    let out := rows.map (fun x =>
      let dy := s.rowF32 ib x.1 c.h
      let t := gateRow rt x.2 (fun r =>
        let row := rt.k * (c.t0 + x.1) + r
        if s.present map row then laneDot dy (s.rowF32 ab row c.h) else 0)
      wordBytes (Tab.range 0 t 0 rt.e))
    let s0 := (List.range n).foldl (fun s i => s.noteRow u ib i c.h) (s.beginEpoch c.router c.epoch)
    let s1 := (got.foldl (fun s r => s.noteRow u ab r c.h) s0).noteRead u c.rec_ (16 * rt.k * n)
    let ob := blockAt c.outA c.count rt.e fmtF32
    let s2 := s1.putGrid u ob rt.e out
    let t := 48 + (got.length + n) * ceilDiv (4 * c.h) 256 + n * ceilDiv (4 * rt.e) 256
    s2.startCmd u (s.expFlight h d c t 0 capped false miss 0 [] (ob.outs n rt.e))

/-- GATE_GRAD at the head of Hen `h`'s stream. -/
def execGateGrad (h : Fin 30) (s : State) : Host.Outcome State Fault Refusal :=
  match s.readyExec (henStream h.val) 5 0x16 with
  | some d => .next ((s.clearReuse h.val).gateGradCmd h.val d)
  | none => .next s

end Sys2Proof.Machine
end

