-- ==== Sys2Proof/Machine/MapGen.lean ====
section
/-! DEFINITION. Die geography (02): positions and occupants, map generation and logical numbers, mesh routes with hole detours,
distances, the worst-case table, the map block. -/

namespace Sys2Proof.Machine

/-! ## Positions, occupants, sites (02 R16 to R18) -/

/-- The column counted from the outer edge of the position's half: the East half mirrors the West half (02 R17). -/
def mirrorCol (c : Nat) : Nat := if c < 10 then c else 19 - c

/-- The physical index of row `r` and mirrored column `k` of a half (02 R16, R17). -/
def posAt (half r k : Nat) : Nat := 20 * r + (if half = 0 then k else 19 - k)

/-- Half of a position: 0 West, 1 East. -/
def halfOf (p : Nat) : Nat := if p % 20 < 10 then 0 else 1

/-- Occupant kind of a position: 0 Ox, 1 Goat, 2 Hen, 3 Mule, 4 Sheepdog (02 Table 02-1, R39). -/
def occupant (p : Nat) : Nat :=
  let edge := decide (p / 20 = 0) || decide (p / 20 = 11)
  (if edge then [4, 3, 2, 0, 1, 0, 2, 3, 2, 4] else [0, 1, 0, 0, 1, 0, 2, 0, 1, 0]).getD (mirrorCol (p % 20)) 0

/-- Position of Mule `n` (02 R17). -/
def mulePos (n : Nat) : Nat := posAt (n / 4) (if n % 4 < 2 then 0 else 11) (if n % 2 = 0 then 1 else 7)

/-- Position of Sheepdog `n` (02 R17). -/
def dogPos (n : Nat) : Nat := posAt (n / 4) (if n % 4 < 2 then 0 else 11) (if n % 2 = 0 then 0 else 9)

/-- The three positions of the yoke site in row `r` whose Goat has mirrored column `k + 1`: lower column, Goat, higher column. -/
def yokeSite (half r k : Nat) : List Nat :=
  if half = 0 then [posAt half r k, posAt half r (k + 1), posAt half r (k + 2)]
  else [posAt half r (k + 2), posAt half r (k + 1), posAt half r k]

/-- The yoke sites of a half in site order (02 R18). -/
def yokeSites (half : Nat) : List (List Nat) :=
  (List.range 12).flatMap (fun r => (if r = 0 || r = 11 then [3] else [0, 3, 7]).map (yokeSite half r))

/-- The Hen sites of a half in site order (02 R18). -/
def henSites (half : Nat) : List Nat :=
  (List.range 12).flatMap (fun r => (if r = 0 || r = 11 then [2, 6, 8] else [6]).map (posAt half r))

/-- The positions of the site of a position, which are enabled, fenced and powered together (02 R22). -/
def sitePositions (p : Nat) : List Nat :=
  if occupant p < 2 then ((yokeSites (halfOf p)).find? (fun l => l.contains p)).getD [p] else [p]

/-! ## Generation (02 R23 to R27, R32, R33) -/

/-- What generation applies R23 to R27 to. -/
structure Defects where
  cores : List Nat
  fused : List Nat
  run : List Nat
  fences : List Nat
deriving DecidableEq, Repr

/-- The state of a position's own defect; 0 if it is good. -/
def Defects.own (d : Defects) (p : Nat) : Nat :=
  if d.run.contains p then 4 else if d.fused.contains p then 3 else if d.cores.contains p then 2 else 0

/-- A site is usable: mesh stops and cores good, no fence recorded (02 R23, R33). -/
def Defects.usable (d : Defects) (site : List Nat) : Bool := site.all (fun p => decide (d.own p = 0) && !d.fences.contains p)

/-- The enabled yoke sites of a half (02 R24). -/
def Defects.yokes (d : Defects) (half : Nat) : List (List Nat) := ((yokeSites half).filter d.usable).take 30

/-- The enabled Hen sites of a half (02 R24). -/
def Defects.hens (d : Defects) (half : Nat) : List Nat := ((henSites half).filter (fun p => d.usable [p])).take 15

/-- Site state of a position as generated (02 R23, R24). -/
def Defects.siteState (d : Defects) (p : Nat) : Nat :=
  if d.own p ≠ 0 then d.own p
  else if !d.usable (sitePositions p) then 2
  else if occupant p < 2 then (if (d.yokes (halfOf p)).any (fun l => l.contains p) then 0 else 1)
  else if occupant p = 2 then (if (d.hens (halfOf p)).contains p then 0 else 1)
  else 0

/-- The holes, fused and of run time. -/
def Defects.holes (d : Defects) : List Nat := (List.range 240).filter (fun p => d.fused.contains p || d.run.contains p)

/-- A hole is admissible (02 R27). -/
def admissible (holes : List Nat) (p : Nat) : Bool :=
  let c := p % 20
  let r := p / 20
  decide (1 ≤ r) && decide (r ≤ 10) && ((decide (1 ≤ c) && decide (c ≤ 8)) || (decide (11 ≤ c) && decide (c ≤ 18)))
    && holes.all (fun q => decide (q = p) || decide (q % 20 + 1 < c) || decide (c + 1 < q % 20) || decide (q / 20 + 1 < r)
      || decide (r + 1 < q / 20))

/-- SHORT (02 R32). -/
def Defects.short (d : Defects) : Bool :=
  !d.holes.all (admissible d.holes)
    || (List.range 8).any (fun n => !d.usable [mulePos n] || !d.usable [dogPos n])
    || [0, 1].any (fun h => decide ((d.yokes h).length < 30) || decide ((d.hens h).length < 15))

/-- Positions of Ox 0 to 119, Goat 0 to 59, Hen 0 to 29, Mule 0 to 7, Sheepdog 0 to 7 (02 R25, R26, Table 02-6); 0xFF for a
logical number with no enabled site (02 R39). -/
def Defects.logical (d : Defects) : List Nat :=
  let ys := fit [] 30 (d.yokes 0) ++ fit [] 30 (d.yokes 1)
  let hs := fit 0xFF 15 (d.hens 0) ++ fit 0xFF 15 (d.hens 1)
  let fixed := ((List.range 8).map mulePos ++ (List.range 8).map dogPos).map (fun p => if d.siteState p = 0 then p else 0xFF)
  ys.flatMap (fun l => [l.getD 0 0xFF, l.getD 2 0xFF]) ++ ys.map (fun l => l.getD 1 0xFF) ++ hs ++ fixed

/-! ## Routes (02 R28 to R30) and distances (02 R21, R40) -/

/-- The next column or row toward a target. -/
def toward (a b : Nat) : Nat := if a < b then a + 1 else a - 1

/-- A seam link joins the two columns (02 R20). -/
def seamHop (a b : Nat) : Nat := if decide (a < 10) = decide (b < 10) then 0 else 1

/-- HOPS and SEAMS of the route from column `c` and row `r` to column `dc` and row `dr` (02 R28, R29). On a SHORT map whose holes the
rules admit no detour round, steps go through them and the count ends with the first argument (DESIGN CHOICE, log 146). -/
def routeLen (holes : List Nat) (dc dr : Nat) : Nat → Nat → Nat → Nat × Nat
  | 0, _, _ => (0, 0)
  | f + 1, c, r =>
    if c ≠ dc then
      let n := toward c dc
      if holes.contains (20 * r + n) then
        let x := routeLen holes dc dr f c (if r ≤ 5 then r + 1 else r - 1)
        (x.1 + 1, x.2)
      else
        let x := routeLen holes dc dr f n r
        (x.1 + 1, x.2 + seamHop c n)
    else if r ≠ dr then
      let n := toward r dr
      if holes.contains (20 * n + c) then
        let x := routeLen holes dc dr f c (if r < dr then r + 2 else r - 2)
        (x.1 + 4, x.2)
      else
        let x := routeLen holes dc dr f c n
        (x.1 + 1, x.2)
    else (0, 0)

/-- HOPS and SEAMS between two positions. -/
def routeOf (holes : List Nat) (a b : Nat) : Nat × Nat := routeLen holes (b % 20) (b / 20) 256 (a % 20) (a / 20)

/-- MESH_CYCLES of HOPS and SEAMS (02 R40). -/
def meshCyclesOf (x : Nat × Nat) : Nat := 2 * x.1 + 4 * x.2

/-- The two attachment stops of destinations 8 to 17: L0 to L7, PCIe A and B (02 Table 02-2). -/
def attachments (dest : Nat) : Nat × Nat :=
  let i := dest - 8
  let row := if 8 ≤ i then 5 else [1, 1, 3, 3, 7, 7, 9, 9].getD i 1
  let col := if i % 2 = 0 then 0 else 19
  (20 * row + col, 20 * (row + 1) + col)

/-- The stop at which traffic between position `p` and destination `dest` meets the edge (02 R21), or the Mule's position. -/
def attachment (holes : List Nat) (p dest : Nat) : Nat :=
  if dest < 8 then mulePos dest
  else
    let a := attachments dest
    if meshCyclesOf (routeOf holes p a.2) < meshCyclesOf (routeOf holes p a.1) then a.2 else a.1

/-- The distance entry of a position in site state 0 (02 R40). -/
def distanceOf (holes : List Nat) (p dest : Nat) : Nat :=
  let x := routeOf holes p (attachment holes p dest)
  fields [(0, x.1), (8, x.2), (16, meshCyclesOf x)]

/-- The distance entry of any position (02 R40). -/
def Defects.distance (d : Defects) (p dest : Nat) : Nat :=
  if d.siteState p = 0 then distanceOf d.holes p dest else 0xFFFFFFFF

/-! ## The worst-case table (02 R41) -/

/-- Every way to choose some of the elements of a list. -/
def choices : List Nat → List (List Nat)
  | [] => [[]]
  | a :: l => choices l ++ (choices l).map (a :: ·)

/-- Every die whose map has SHORT clear: some positions holes, some cores bad. -/
def shippedDies : List Defects :=
  ((choices (List.range 240)).flatMap (fun h =>
    (choices (List.range 240)).map (fun c => { cores := c, fused := h, run := [], fences := [] : Defects }))).filter
      (fun d => !d.short)

/-- The field-wise maximum of two distance entries. -/
def maxEntry (a b : Nat) : Nat :=
  fields [(0, Nat.max (bits a 0 8) (bits b 0 8)), (8, Nat.max (bits a 8 8) (bits b 8 8)), (16, Nat.max (bits a 16 16) (bits b 16 16))]

/-- The worst-case entry of logical row `i` and destination `dest`: each field the largest over every map with SHORT clear. -/
def worstEntry (i dest : Nat) : Nat :=
  shippedDies.foldl (fun m d => maxEntry m (d.distance (d.logical.getD i 0xFF) dest)) 0

/-- The worst-case table's bytes (02 Table 02-6). -/
def worstTable : List Byte := (List.range 226).flatMap (fun i => (List.range 18).flatMap (fun dest => natLe 4 (worstEntry i dest)))

/-! ## The map block (02 R37 to R40) -/

/-- A run-time hole comes before another in the hole table: earlier beat, then lower index (02 R39). -/
def holeBefore (a b : MapRecord) : Bool := decide (a.beat < b.beat) || (decide (a.beat = b.beat) && decide (a.pos ≤ b.pos))

/-- What generation applies R23 to R27 to, of this part. -/
def State.defects (s : State) : Defects :=
  { cores := s.geo.fusedCore, fused := s.geo.fusedHole, run := s.geo.holes.map (fun h => h.pos),
    fences := s.geo.fences.map (fun f => f.pos) }

/-- The hole table: 32 entries (02 R39). -/
def State.holeTable (s : State) : List Byte :=
  let fused := ((List.range 240).filter (fun p => s.geo.fusedHole.contains p)).map (fun p => fields [(0, p)])
  let run := (sortBy holeBefore s.geo.holes).map (fun h => fields [(0, h.pos), (8, 1), (16, h.beat % 2 ^ 48)])
  (fit 0xFFFFFFFFFFFFFFFF 32 ((fused ++ run).take 32)).flatMap (natLe 8)

/-- The header (02 Table 02-7). -/
def State.mapHeader (s : State) : List Byte :=
  let d := s.defects
  natLe 64 (fields [(0, 0x4D415038), (32, 1), (48, 64), (64, 0xC000), (96, s.geo.mapGen % 2 ^ 32),
    (128, leNat ((sha384 worstTable).take 4)), (160, (d.yokes 0).length), (168, (d.yokes 1).length), (176, (d.hens 0).length),
    (184, (d.hens 1).length), (192, s.geo.fusedHole.length % 256), (200, s.geo.holes.length % 256),
    (208, s.geo.fences.length % 256), (216, b2n d.short), (217, b2n (!s.geo.holes.isEmpty || !s.geo.fences.isEmpty)),
    (256, mod64 s.geo.genBeat)])

/-- The map block of the part's present records (02 Table 02-6). -/
def State.mapBlock (s : State) : Tab Byte :=
  let d := s.defects
  let t0 := Tab.put 0 [] 0 s.mapHeader
  let t1 := Tab.put 0 t0 0x40 (d.logical.flatMap (natLe 2))
  let t2 := Tab.put 0 t1 0x240 ((List.range 240).map (fun p => BitVec.ofNat 8 (d.siteState p + 8 * occupant p)))
  let t3 := Tab.put 0 t2 0x400 s.holeTable
  let t4 := Tab.put 0 t3 0x1000 ((List.range 240).flatMap (fun p => (List.range 18).flatMap (fun k => natLe 4 (d.distance p k))))
  Tab.put 0 t4 0x6000 worstTable

/-- The map carries SHORT (02 Table 02-7, bit 216). -/
def State.mapShort (s : State) : Bool := bit (leNat (Tab.range 0 s.geo.map 0 64)) 216

/-- Map generation (02 R32, R36, R42): site states, logical numbers and the block are new, MAP_GEN counts it, mesh stops not in
state 0 are fenced, cores in state 0 powered; it is logged with the old and new MAP_GEN. -/
def State.generateMap (s : State) (origin : Nat × Nat) : State :=
  let d := s.defects
  let old := s.geo.mapGen
  let ps := List.range 240
  let st := ps.map d.siteState
  let s1 : State :=
    { s with
      geo.mapGen := (old + 1) % 2 ^ 32
      geo.genBeat := s.time.beat
      geo.site := Tab.put 1 [] 0 st
      geo.logical := Tab.put 0xFF [] 0 d.logical
      geo.fence := Tab.put false [] 0 (st.map (fun x => decide (x ≠ 0)))
      geo.fenced := Tab.put false [] 0 (st.map (fun x => decide (x ≠ 0)))
      geo.coreOn := Tab.put false [] 0 (st.map (fun x => decide (x = 0))) }
  (({ s1 with geo.map := s1.mapBlock, geo.published := true } : State)).log origin 0x0041 0xFFFF old ((old + 1) % 2 ^ 32)

end Sys2Proof.Machine
end

