-- ==== Sys2Proof/Machine/FaultRows.lean ====
section
/-! DEFINITION. Entering FAULTED, fault notices, watchdogs and role moves, the responder (16), fences and mesh stops (02). -/

namespace Sys2Proof.Machine

/-! ## FAULTED -/

/-- The entry into FAULTED in one action (16 R404, R405): every unit stops, a scope 1 fault abandons an open stream (17 Table
17-6), the fault record, the notice, the state, FAULTED records for every pending command if Filuidom runs. -/
def State.enterFaulted (s : State) : State :=
  let s1 := s.stopUnits
  let s2 := if s1.flt.scope = 1 then s1.abandonStream else s1
  let s3 := s2.faultRecord (fromHardware s2.flt.detail) (fields [(0, s2.flt.cause % 2 ^ 8), (8, s2.flt.detail % 2 ^ 16)])
  let s4 := s3.sendNotice { src := s3.fabricAddr, cause := s3.flt.cause, detail := s3.flt.detail, beat := s3.flt.beat } 16
  let s5 : State := { s4 with flt.noticeSent := true, flt.pendingEntry := false }
  let s6 := s5.setDev .faulted (fromHardware s5.flt.detail)
  if s6.dev.fwRunning then s6.failAll stFaulted else s6

/-- FAULT_ENTER: in the cycle after a cause is latched (16 R404), from the states of 19 Table 19-2. -/
def execFaultEnter (s : State) : Host.Outcome State Fault Refusal :=
  if s.flt.pendingEntry then
    match s.dev.state with
    | .idle => .next s.enterFaulted
    | .armed => .next s.enterFaulted
    | .running => .next s.enterFaulted
    | .held => .next s.enterFaulted
    | .faulted => .next { s with flt.pendingEntry := false }
    | .halted => .next { s with flt.pendingEntry := false }
    | .booting => .next s
    | .cold => .next s
  else .next s

/-- FAULT_NOTICE_RX (16 R405): the first copy of a notice is forwarded through every other port that is up, sets FROZEN
and records NOTICE_SRC; later copies are dropped. -/
def execFaultNoticeRx (port : Fin 16) (n : FaultNotice) (s : State) : Host.Outcome State Fault Refusal :=
  match checked (.faultNoticeRx port n) s with
  | .next s =>
    if s.dev.state = .cold || s.flt.seen.contains (n.src, n.beat) then .next s
    else
      let src := if n.src < 0x1000 then n.src else 0xFFF
      let s1 : State :=
        { s with flt.seen := s.flt.seen ++ [(n.src, n.beat)], flt.frozen := true, flt.noticeGot := true,
                 flt.noticeSrc := if s.flt.noticeGot then s.flt.noticeSrc else src }
      .next (((s1.bump FaultCnt.noticesRx 1).sendNotice n port.val).raiseBoth 16)
  | o => o

/-- FROZEN is cleared, and the clearing is logged (16 R405). -/
def State.clearFrozen (s : State) (origin : Nat × Nat) : State :=
  if s.flt.frozen then ({ s with flt.frozen := false } : State).log origin 0x0030 0 1 0 else s

/-! ## Watchdogs and roles -/

/-- WATCHDOG_RESTART (16 R406). -/
def execWatchdogRestart (n : Fin 8) (s : State) : Host.Outcome State Fault Refusal :=
  if s.dev.fwRunning && !s.flt.down.contains n.val then
    .next { s with flt.restartBeat := Tab.set 0 s.flt.restartBeat n.val s.time.beat }
  else .next s

/-- The roles (other than diagnostics) that Sheepdog `n` holds (01 Table 01-2). -/
def State.rolesOf (s : State) (n : Nat) : List Nat :=
  [0, 1, 2, 4, 5, 6].filter (fun r => decide (s.flt.holder.getD r r = n))

/-- Standby `x` can take a role: it holds none, expects none, and has not expired. -/
def State.standbyFree (s : State) (x : Nat) : Bool :=
  (s.rolesOf x).isEmpty && !s.flt.down.contains x && s.flt.moving.all (fun m => decide (m.2 ≠ x))

/-- The standby that takes a role of the half `own` stands in (16 R406). -/
def State.standbyFor (s : State) (role : Nat) : Option Nat :=
  let own := if role < 4 then 3 else 7
  let other := if role < 4 then 7 else 3
  if s.standbyFree own then some own else if s.standbyFree other then some other else none

/-- WATCHDOG_EXPIRY (16 R406): 4 ms after its last restart the Sheepdog is held in reset, and the roles it holds or was to take
start to move; with no free standby the module takes cause SHEEPDOG. -/
def execWatchdogExpiry (n : Fin 8) (s : State) : Host.Outcome State Fault Refusal :=
  if s.dev.fwRunning && !s.flt.down.contains n.val
      && decide (Tab.get 0 s.flt.restartBeat n.val + 4000 ≤ s.time.beat) then
    let owed := (s.flt.moving.filter (fun m => decide (m.2 = n.val))).map (fun m => m.1)
    let s1 : State :=
      { s with flt.down := s.flt.down ++ [n.val], flt.moving := s.flt.moving.filter (fun m => decide (m.2 ≠ n.val)) }
    match s1.rolesOf n.val ++ owed with
    | [] => .next s1
    | r :: rs =>
      match s1.standbyFor r with
      | none => .next (s1.raiseCause 0x0D n.val)
      | some x => .next { s1 with flt.moving := s1.flt.moving ++ (r :: rs).map (fun role => (role, x)) }
  else .next s

/-- The command of each mailbox of port `p` that is executing, one the device queue has checked, ends with TIMEOUT
(16 R406). -/
def State.timeoutPort (s : State) (p : Nat) : State :=
  (s.host.queue.filter (fun q => q.port == p && q.checked)).foldl (fun s q => s.makeRecord p q.mbox stTimeout 0 []) s

/-- One role passes to its standby: logged and counted; a host port's service epoch rises and its executing commands end with
TIMEOUT (16 R406, 18 R450). The entry's ORIGIN_DETAIL is the standby that takes the role and its INSTANCE the role's number in
Table 01-2, which the spec gives no value for (DESIGN CHOICE, log 136). -/
def State.moveRole (s : State) (mv : Nat × Nat) : State :=
  let old := s.flt.holder.getD mv.1 mv.1
  let s1 : State := { s with flt.holder := s.flt.holder.set mv.1 mv.2 }
  let s2 := (s1.log (fromFiluidom mv.2) 0x0061 mv.1 old mv.2).bump FaultCnt.watchdogMoves 1
  if mv.1 = 0 || mv.1 = 4 then
    let p := mv.1 / 4
    ({ s2 with host.epoch := Tab.upd 0 s2.host.epoch p (fun e => (e + 1) % 2 ^ 8) } : State).timeoutPort p
  else s2

/-- ROLE_MOVE_DONE (16 R406): the roles of an expired Sheepdog are with their standby. -/
def execRoleMoveDone (n : Fin 8) (s : State) : Host.Outcome State Fault Refusal :=
  let mine := s.flt.moving.filter (fun m => decide (s.flt.holder.getD m.1 m.1 = n.val))
  let s1 := mine.foldl State.moveRole s
  .next { s1 with flt.moving := s.flt.moving.filter (fun m => decide (s.flt.holder.getD m.1 m.1 ≠ n.val)) }

/-! ## Warm-reset triggers -/

/-- A warm reset is triggered (21 R521, R522): the sequence starts at this beat; a trigger during one is absorbed and
logged; after an EXTEST only a power cycle moves the part (22 R535). -/
def State.triggerWarm (s : State) (code : Nat) (origin : Nat × Nat) : State :=
  if s.dev.extest then s
  else if s.dev.warmStep ≠ 0 then s.log origin 0x0001 code s.dev.state.code s.dev.state.code
  else
    { s with
      dev.warmStep := 1
      dev.warmBeat := s.time.beat
      dev.warmOrigin := origin
      dev.lastReset := code
      dev.hbmKept := true
      dev.fail := false
      dev.failCode := 0
      dev.tripWait := false }

/-! ## The responder -/

/-- The responder completes a request of port `p` (16 Table 16-7, 16 Table 16-10). -/
def State.respond (s : State) (p tag result : Nat) : State :=
  let s1 : State :=
    { s with flt.respTag := Tab.set 0 s.flt.respTag p tag, flt.respDone := Tab.set false s.flt.respDone p true,
             flt.respResult := Tab.set 0 s.flt.respResult p result }
  let s2 := s1.bump FaultCnt.respRequests 1
  if result = 1 || result = 2 || result = 4 then s2.bump FaultCnt.respRefused 1 else s2

/-- The responder works in every state from BOOTING on (16 R407). -/
def State.responderUp (s : State) : Bool := decide (s.dev.state ≠ .cold)

/-- RESP_STATUS (16 R408): the status block is refreshed. -/
def execRespStatus (p : Fin 2) (tag : Nat) (s : State) : Host.Outcome State Fault Refusal :=
  match checked (.respStatus p tag) s with
  | .next s =>
    if s.responderUp then
      .next (({ s with flt.respStatus := Tab.put 0 s.flt.respStatus (64 * p.val) s.statusBlock } : State).respond p.val tag 0)
    else .next s
  | o => o

/-- RESP_LOG_TAIL (16 R408): the last 32 entries of the SRAM copy, oldest first. -/
def execRespLogTail (p : Fin 2) (tag : Nat) (s : State) : Host.Outcome State Fault Refusal :=
  match checked (.respLogTail p tag) s with
  | .next s =>
    if s.responderUp then
      let tail := (s.trust.sram.drop (s.trust.sram.length - 32)).flatten
      .next (({ s with flt.respLog := Tab.put 0 s.flt.respLog (2048 * p.val) (fit 0 2048 tail) } : State).respond p.val tag 0)
    else .next s
  | o => o

/-- The value of the fault-record entry of a HALT (3) or RESET_PART (4) request (16 R412; log 17). -/
def requestRecord (op p tag : Nat) : Nat := fields [(0, op), (8, p), (16, tag % 2 ^ 16)]

/-- RESP_HALT (16 R409, R410): from either port with the key; a part that is BOOTING refuses it. -/
def execRespHalt (p : Fin 2) (tag key : Nat) (s : State) : Host.Outcome State Fault Refusal :=
  match checked (.respHalt p tag key) s with
  | .next s =>
    if !s.responderUp then .next s
    else if key ≠ 0x48414C54 then .next (s.respond p.val tag 2)
    else if s.dev.state = .booting then .next (s.respond p.val tag 4)
    else if s.dev.state = .halted then .next (s.respond p.val tag 0)
    else .next ((s.haltActions (fromResponder p.val tag) (some (requestRecord 3 p.val tag))).respond p.val tag 0)
  | o => o

/-- RESP_RESET_PART (16 R409, R410): from the steward port in every state from BOOTING on, from the observer only while
BOOTING, FAULTED or HALTED. -/
def execRespResetPart (p : Fin 2) (tag key : Nat) (s : State) : Host.Outcome State Fault Refusal :=
  match checked (.respResetPart p tag key) s with
  | .next s =>
    let open3 := s.dev.state = .booting || s.dev.state = .faulted || s.dev.state = .halted
    if !s.responderUp then .next s
    else if s.host.steward ≠ p.val && !open3 then .next (s.respond p.val tag 1)
    else if key ≠ 0x52534554 then .next (s.respond p.val tag 2)
    else if s.dev.extest then .next (s.respond p.val tag 4)
    else
      .next (((s.changeRecord (fromResponder p.val tag) (requestRecord 4 p.val tag)).triggerWarm 2 (fromResponder p.val tag)).respond p.val tag 0)
  | o => o

/-! ## Fences and mesh stops -/

/-- The logical index (in the map's order) of the core at physical position `pos`, if it has one. -/
def State.logicalAt (s : State) (pos : Nat) : Option Nat := (List.range 226).find? (fun i => decide (s.physOf i = pos))

/-- The feeder queues of a fenced Ox lose what they hold, and its credits go back, so that no sender blocks on them (02 R35, 12
R304). -/
def State.dropQueues (s : State) (x : Nat) : State :=
  let f := fun (q : FeedQueue) => { q with flits := [], fed := [], returning := q.returning + q.flits.length }
  (s.updQueue (2 * x) f).updQueue (2 * x + 1) f

/-- The queues that stream `u` produces break: what it has not sent is lost (12 R304). -/
def State.breakQueues (s : State) (u : Nat) : State :=
  let mine := (List.range 240).filter (fun q => s.plan.loaded && decide (bits (s.queueEntry q) 0 8 = u))
  let s1 := mine.foldl (fun (s : State) q =>
    (s.updQueue q (fun f => { f with broken := true, unsent := [] })).bump PlanCnt.brokenChannels 1) s
  if mine.isEmpty then s1 else s1.setHealth hMissing

/-- The banks of the yoke of stream `u` hold values nothing fixes once a fence stopped a command of one of its cores (04 R112, 05
R142; log 7). -/
def State.looseBanks (s : State) (u : Nat) : State :=
  if 120 ≤ u ∧ u < 180 then
    s.clobber (requesterOf u) ((goatBanks (u - 120)).map (fun k => (spaceKey (bankSpace (k / 2) (k % 2)) 0, 65536)))
  else s

/-- What closing the ports of the core of stream `u` does (02 R34, R35, 04 R112, 05 R142, 09 R229, 12 R304, 08 R198): its
command in progress ends with no record and no signal, MISSING is set if there was one, the queues it produces break, and a
fence inside an update window after GO takes cause FENCE_COMMIT. -/
def State.fenceUnit (s : State) (u pos : Nat) : State :=
  let gated := s.gatedDue u && decide (s.plan.decision = 1)
  let s1 := if (s.stream u).flight.isEmpty then s else ((s.stopStream u).looseBanks u).setHealth hMissing
  let s2 : State := { s1 with unit.tiles := s1.unit.tiles.filter (fun x => decide (x.ox ≠ u)) }
  let s3 := (if u < 120 then s2.dropQueues u else s2).breakQueues u
  if gated then s3.raiseCause 0x04 pos else s3

/-- FENCE of one mesh stop is set (02 R34, Table 02-4); an enabled core is taken out of service, site state 5 (02 Table 02-3). -/
def State.fencePos (s : State) (pos : Nat) : State :=
  if Tab.get false s.geo.fence pos then s
  else
    let s1 : State :=
      { s with geo.fence := Tab.set false s.geo.fence pos true,
               geo.site := if Tab.get 1 s.geo.site pos = 0 then Tab.set 1 s.geo.site pos 5 else s.geo.site }
    match s1.logicalAt pos with
    | some i => if i < 218 then s1.fenceUnit i pos else s1
    | none => s1

/-- A fence of a core fences every position of its site, so a yoke goes as one (02 R22, R34). -/
def State.fenceSite (s : State) (pos : Nat) : State := (sitePositions pos).foldl State.fencePos s

/-- MS_CTRL_WRITE (02 Table 02-4, R36), the diagnostic fence of R34: FENCE is the only writable bit; a 0 is ignored unless the
site state is 0. -/
def execMsCtrlWrite (pos : Fin 240) (v : Word) (s : State) : Host.Outcome State Fault Refusal :=
  if s.dev.state = .cold then .next s
  else if bit v.toNat 0 then .next (s.fenceSite pos.val)
  else if Tab.get 1 s.geo.site pos.val = 0 then
    .next { s with geo.fence := Tab.set false s.geo.fence pos.val false,
                   geo.fenced := Tab.set false s.geo.fenced pos.val false }
  else .next s

/-- The whole site of a position is drained: Filuidom removes the power of its cores, together (02 R22, R34). -/
def State.powerOffSite (s : State) (pos : Nat) : State :=
  if (sitePositions pos).all (fun x => Tab.get false s.geo.fenced x) then
    { s with geo.coreOn := (sitePositions pos).foldl (fun t x => Tab.set false t x false) s.geo.coreOn }
  else s

/-- FENCE_DRAINED (02 R34): both ports are closed and drained, FENCED reads 1, and with the site's last position Filuidom removes
the cores' power; a FENCE_CORE whose site is now all fenced makes its record (19 Table 19-3). -/
def execFenceDrained (pos : Fin 240) (s : State) : Host.Outcome State Fault Refusal :=
  if Tab.get false s.geo.fence pos.val && !Tab.get false s.geo.fenced pos.val then
    let s1 := ({ s with geo.fenced := Tab.set false s.geo.fenced pos.val true } : State).powerOffSite pos.val
    match s1.host.queue with
    | q :: _ =>
      let phys := q.arg
      if q.waiting && decide (((s1.head q.port q.mbox).map Command.opcode) = some 0x42)
          && (sitePositions phys).all (fun x => Tab.get false s1.geo.fenced x) then
        .next (s1.makeRecord q.port q.mbox stOk phys [])
      else .next s1
    | [] => .next s1
  else .next s

/-- MESH_STOP_FAIL (02 R31): the position becomes a run-time hole, recorded in flash with its beat, and cause MESH_STOP is
latched. -/
def execMeshStopFail (pos : Fin 240) (s : State) : Host.Outcome State Fault Refusal :=
  let st := Tab.get 1 s.geo.site pos.val
  if s.dev.state = .cold || st = 3 || st = 4 then .next s
  else
    let s1 : State :=
      { s with geo.site := Tab.set 1 s.geo.site pos.val 4,
               geo.holes := s.geo.holes ++ [{ pos := pos.val, beat := s.time.beat }] }
    .next ((s1.log (fromHardware pos.val) 0x0041 (0x0300 + pos.val) s.geo.mapGen pos.val).raiseCause 0x01 pos.val)

end Sys2Proof.Machine
end

