-- ==== Sys2Proof/Machine/PowerRows.lean ====
section
/-! DEFINITION. Power, gears and temperature (20): samples, the peak budget, limit and thermal steps, clamps, gear notices and
peer entries, rail ramps. -/

namespace Sys2Proof.Machine

/-! ## Gears -/

/-- GEAR_RAISE_DEFERRED (20 R489): at the first beat boundary at which the rail has its voltage. -/
def execGearRaiseDeferred (half : Fin 2) (s : State) : Host.Outcome State Fault Refusal :=
  let w := s.wantGear half.val
  if w < (s.half half.val).gear && s.railAt half.val w then .next (s.takeGear half.val w) else .next s

/-- The GEAR entries of repetition `n` from entry `from_` on: their number in the run (repetition, then entry), the beat at which
they fire, the entry. -/
def State.gearEntries (s : State) (n from_ : Nat) : List (Nat × Nat × Entry) :=
  (s.entries.filter (fun e => decide (e.2.kind = 7) && decide (from_ ≤ e.1))).map
    (fun e => (n * s.ttCount + e.1, s.repStart n + e.2.offset, e.2))

/-- The GEAR entries that have not fired, of the repetition in progress and of the next, if the run has one. -/
def State.gearsAhead (s : State) : List (Nat × Nat × Entry) :=
  (if s.plan.started then s.gearEntries s.plan.repNow s.plan.next else [])
    ++ (if s.repeats = 0 ∨ s.plan.nextRep < s.repeats then s.gearEntries s.plan.nextRep 0 else [])

/-- The first of them that has not been prepared. -/
def State.nextGearEntry (s : State) : Option (Nat × Nat × Entry) :=
  s.gearsAhead.find? (fun e => decide (s.pwr.preramp ≤ e.1))

/-- GEAR_PRERAMP (20 R489): 64 beats before a GEAR entry fires the voltage raise starts on the halves it names. -/
def execGearPreramp (s : State) : Host.Outcome State Fault Refusal :=
  if s.planRuns then
    match s.nextGearEntry with
    | some (i, beat, e) =>
      if beat ≤ s.time.beat + 64 then
        let s1 : State := { s with pwr.preramp := i + 1 }
        if s.roleMoving 1 then .next (s1.missWork 1)
        else
        let s2 := if bit e.arg 2 then s1.startRaise 0 (bits e.arg 0 2) else s1
        .next (if bit e.arg 3 then s2.startRaise 1 (bits e.arg 0 2) else s2)
      else .next s
    | none => .next s
  else .next s

/-! ## Gear notices -/

/-- The module's own lowering of a half for limit or thermal reasons. -/
def State.ownStep (s : State) (h : Nat) : Nat :=
  let p := s.half h
  Nat.max (Nat.max p.limitStep p.peakStep) p.thermStep

/-- Ring size of the dimension of a torus port. -/
def State.ringSize (s : State) (port : Nat) : Nat :=
  if port < 2 then s.fab.sx else if port < 4 then s.fab.sy else s.fab.sz

/-- A gear notice leaves through L0, L2 and L4 where the ring is larger than 1 (20 R492). -/
def State.sendGear (s : State) (half gear : Nat) (raise : Bool) : State :=
  let s1 := ([0, 2, 4].filter (fun p => decide (1 < s.ringSize p))).foldl (fun (s : State) p =>
    s.sendGearNotice p
      { srcId := if s.fab.role = 0 then s.fab.modId else s.fab.identity, half := half, gear := gear,
        left := s.ringSize p - 1, raise := raise, effective := s.time.beat + 64 }) s
  ({ s1 with pwr.renewBeat := s1.time.beat } : State).bump PwrCnt.noticesTx 1

/-- The notice of the steps now held: one for both halves when they agree, else one each; a RAISE once none is held. -/
def State.sendSteps (s : State) : State :=
  let w := s.ownStep 0
  let e := s.ownStep 1
  if w = 0 ∧ e = 0 then s.sendGear 3 0 true
  else if w = e then s.sendGear 3 w false
  else
    let s1 := if w = 0 then s else s.sendGear 1 w false
    if e = 0 then s1 else s1.sendGear 2 e false

/-- The power manager's own ceilings go from those of `old` to those of `s`: each change is counted and logged with its
reason (20 R491; log 20). The gears follow at the next beat boundary. -/
def State.ceilingChanged (s old : State) (origin : Nat × Nat) (reason : Nat) : State :=
  let one := fun (s : State) (h : Nat) =>
    if old.pmCeil h = s.pmCeil h then s
    else (s.bump PwrCnt.ceilChanges 1).log origin 0x0060 h (old.pmCeil h) (fields [(0, s.pmCeil h), (8, reason)])
  one (one s 0) 1

/-- Sheepdog 1, or the holder of its role, as an origin. -/
def State.powerManager (s : State) : Nat × Nat := s.dog 1

/-- What a notice leaves of a recorded entry: an entry of its source loses the halves that the notice names (20 R492; log 147). -/
def PeerEntry.without (n : GearNotice) (e : PeerEntry) : Option PeerEntry :=
  if e.src ≠ n.srcId then some e
  else if e.half &&& (n.half ^^^ 3) = 0 then none
  else some { e with half := e.half &&& (n.half ^^^ 3) }

/-- GEAR_NOTICE_RX (20 R492): the notice goes on along its ring; a RAISE takes its halves out of the source's entries, any other
takes their place in one entry, of 48. -/
def execGearNoticeRx (port : Fin 8) (n : GearNotice) (s : State) : Host.Outcome State Fault Refusal :=
  match checked (.gearNoticeRx port n) s with
  | .next s =>
    if s.dev.state = .cold then .next s
    else
      let s1 := s.bump PwrCnt.noticesRx 1
      let s2 := if n.left = 0 then s1 else s1.sendGearNotice (oppositePort port.val) { n with left := n.left - 1 }
      let others := s2.pwr.peers.filterMap (PeerEntry.without n)
      if n.raise then
        .next (({ s2 with pwr.peers := others } : State).ceilingChanged s2 (fromPeer n.srcId) 3)
      else if others.length = s2.pwr.peers.length && decide (48 ≤ others.length) then
        .next (s2.bump PwrCnt.noticeDropped 1)
      else
        let held := fun h => ((s2.pwr.peers.filter (fun e => e.src == n.srcId)).map (fun e => e.ceil h)).foldl Nat.max 0
        let e : PeerEntry :=
          { src := n.srcId, half := n.half, gear := n.gear, effective := n.effective, received := s2.time.beat,
            inForce := false, heldW := held 0, heldE := held 1 }
        .next { s2 with pwr.peers := others ++ [e] }
  | o => o

/-- PEER_ENTRY_EFFECTIVE (20 R492): a recorded entry takes effect at its EFFECTIVE beat, or at the next beat boundary. -/
def execPeerEntryEffective (s : State) : Host.Outcome State Fault Refusal :=
  match s.pwr.peers.find? (fun e => !e.inForce && decide (e.effective ≤ s.time.beat)) with
  | some e =>
    let on := fun (x : PeerEntry) => if x = e then { x with inForce := true } else x
    let s1 := ({ s with pwr.peers := s.pwr.peers.map on } : State).ceilingChanged s (fromPeer e.src) 3
    .next (if e.effective = s.time.beat then s1.gearBoundary else s1)
  | none => .next s

/-- PEER_ENTRY_EXPIRE (20 R492): an entry not renewed for 1,000,000 beats. -/
def execPeerEntryExpire (s : State) : Host.Outcome State Fault Refusal :=
  match s.pwr.peers.find? (fun e => decide (e.received + 1000000 ≤ s.time.beat)) with
  | some e => .next (({ s with pwr.peers := s.pwr.peers.erase e } : State).ceilingChanged s (fromPeer e.src) 3)
  | none => .next s

/-- GEAR_NOTICE_RENEW (20 R492): every 250,000 beats while the module's own lowering is in force. -/
def execGearNoticeRenew (s : State) : Host.Outcome State Fault Refusal :=
  if (decide (0 < s.ownStep 0) || decide (0 < s.ownStep 1)) && decide (s.pwr.renewBeat + 250000 ≤ s.time.beat) then
    .next s.sendSteps
  else .next s

/-! ## Samples and limits -/

/-- P_10µs: the mean of the last ten samples, once there are ten (20 R496). -/
def State.p10 (s : State) : Nat := if s.pwr.samples.length = 10 then s.pwr.samples.foldl (· + ·) 0 / 10 else 0

/-- P_1s: the rolling mean of the last 1,000 values of P_1ms (20 R496). -/
def State.p1s (s : State) : Nat := s.pwr.history.foldl (· + ·) 0 / Nat.max 1 s.pwr.history.length

/-- The limit L: the lower of POWER_LIMIT and the sideband cap in force (20 R496). -/
def State.limitNow (s : State) : Nat := Nat.min s.pwr.limit s.dev.sbCapForce

/-- A cause of a clamp that samples show: P_10µs above 2,600 W or P_1ms above 2,450 W for 5 ms, in every state from IDLE on; Tj at
or above 110 °C in every state with power (20 R496, R500, Tables 20-4, 20-5). -/
def State.clampCauseNow (s : State) : Bool :=
  (s.dev.state.fromIdle && (decide (2600 < s.p10) || decide (5 ≤ s.pwr.over2450)))
    || (decide (s.dev.state ≠ .cold) && decide (110 ≤ s.pwr.tj))

/-- A clamped half whose cause is present notes the beat (20 R498). -/
def State.noteClampCause (s : State) : State :=
  if s.clampCauseNow then
    { s with pwr.west.clampCause := s.time.beat, pwr.east.clampCause := s.time.beat }
  else s

/-- POWER_SAMPLE (20 R496): one reading of input power, voltage and current. -/
def execPowerSample (r : PowerReading) (s : State) : Host.Outcome State Fault Refusal :=
  match checked (.powerSample r) s with
  | .next s =>
    if s.dev.state = .cold then .next s
    else
      let l := s.pwr.samples ++ [r.watts]
      let s1 : State :=
        { s with
            pwr.samples := l.drop (l.length - 10), pwr.msSum := s.pwr.msSum + r.watts, pwr.msCount := s.pwr.msCount + 1,
            pwr.vIn := r.vIn, pwr.iIn := r.iIn, pwr.coreW := r.coreW, pwr.coreE := r.coreE,
            pwr.lowVin := if r.vIn < 4600 then s.pwr.lowVin + 1 else 0,
            pwr.highVin := if 6200 < r.vIn then s.pwr.highVin + 1 else 0 }
      let keep := s1.pwr.over2600.filter (fun b => decide (s1.time.beat < b + 10000))
      let s2 : State :=
        { s1 with pwr.over2600 := if 2600 < s1.p10 then keep ++ [s1.time.beat] else keep }
      .next s2.noteClampCause
  | o => o

/-- A milliseconds count passes another hour (20 Table 20-8). -/
def State.addMs (s : State) (old key : Nat) (yes : Bool) : Nat × State :=
  if yes then (if old + 1 = 3600000 then (0, s.bump key 1) else (old + 1, s)) else (old, s)

/-- SB_TELEM as it is refreshed every 1 ms (23 Table 23-9). -/
def State.telemWord (s : State) : Nat :=
  fields [(0, s.pwr.p1ms % 2 ^ 16), (16, s.pwr.vIn % 2 ^ 16), (32, s.pwr.iIn % 2 ^ 16), (48, s.pwr.tj % 2 ^ 8),
    (56, s.pwr.tStack.foldl Nat.max 0 % 2 ^ 8), (64, s.pwr.tInlet % 2 ^ 8), (72, s.pwr.tOutlet % 2 ^ 8),
    (80, s.pwr.west.gear % 4), (82, s.pwr.east.gear % 4), (96, s.pwr.inForce % 2 ^ 16)]

/-- A sideband cap not yet in force takes effect, logged (23 R552). -/
def State.takeCap (s : State) : State :=
  if s.dev.sbCap ≠ s.dev.sbCapForce && s.dev.state.fromIdle then
    let s1 := s.log fromSideband 0x0011 0x0003 s.dev.sbCapForce s.dev.sbCap
    { s1 with dev.sbCapForce := s1.dev.sbCap, dev.sbCapPending := false }
  else s

/-- BUDGET_TICK (20 R496, R497): the mean of the millisecond, the peak budget, the hour counts. -/
def execBudgetTick (s : State) : Host.Outcome State Fault Refusal :=
  if s.pwr.msCount = 0 then .next s
  else
    let p := s.pwr.msSum / s.pwr.msCount
    let hist := s.pwr.history ++ [p]
    let s0 := s.takeCap
    let above := decide (2000 < p)
    let cool := decide (s0.pwr.tj ≤ 85)
    let b0 := s0.pwr.budget
    let b1 :=
      if above then (if !s0.pwr.above && !cool then 0 else b0 - 1)
      else if cool && decide (s0.pwr.refill = 3) then Nat.min 30000 (b0 + 1) else b0
    let refill := if !above && cool then (s0.pwr.refill + 1) % 4 else s0.pwr.refill
    let full := decide (b1 = 30000) && cool
    let s1 : State :=
      { s0 with
          pwr.p1ms := p, pwr.msSum := 0, pwr.msCount := 0, pwr.history := hist.drop (hist.length - 1000),
          pwr.over2450 := if 2450 < p then s0.pwr.over2450 + 1 else 0, pwr.budget := b1, pwr.refill := refill,
          pwr.above := above, pwr.fullSince := if full then s0.pwr.fullSince else s0.time.beat }
    let s2 : State := { s1 with pwr.inForce := s1.limitNow }
    let s3 : State :=
      { s2 with pwr.underLimit := if s2.p1s + 100 ≤ s2.limitNow then s2.pwr.underLimit else s2.time.beat }
    let s4 := if b1 = 0 && decide (b0 ≠ 0) then s3.bump PwrCnt.budgetEmpty 1 else s3
    let on := s4.addMs s4.pwr.msOn PwrCnt.hoursOn s4.dev.pgood
    let hot := on.2.addMs on.2.pwr.msHot PwrCnt.hoursHot (decide (95 < on.2.pwr.tj))
    let peak := hot.2.addMs hot.2.pwr.msPeak PwrCnt.hoursPeak above
    let s5 : State := { peak.2 with pwr.msOn := on.1, pwr.msHot := hot.1, pwr.msPeak := peak.1 }
    .next ({ s5 with dev.sbTelem := s5.telemWord } : State).noteClampCause

/-- One gear slower, at most G3. -/
def slower (g : Nat) : Nat := Nat.min 3 (g + 1)

/-- The limit or peak step that Table 20-4 calls for now, if any: 1 lower the limit step, 2 raise it, 3 lower the peak step, 4
raise it. -/
def State.limitAction (s : State) : Nat :=
  let b := s.time.beat
  if s.limitNow < 2000 && decide (s.limitNow < s.p1s) && (decide (s.pwr.overLimit = 0) || decide (s.pwr.overLimit + 100000 ≤ b)) then 1
  else if s.pwr.budget = 0 && decide (2000 < s.pwr.p1ms) && (decide (s.pwr.emptyBeat = 0) || decide (s.pwr.emptyBeat + 1000 ≤ b)) then 3
  else if s.p1s + 100 ≤ s.limitNow && decide (s.pwr.underLimit + 1000000 ≤ b)
      && (decide (0 < s.pwr.west.limitStep) || decide (0 < s.pwr.east.limitStep)) then 2
  else if s.pwr.budget = 30000 && decide (s.pwr.tj ≤ 85) && decide (s.pwr.fullSince + 1000000 ≤ b)
      && (decide (0 < s.pwr.west.peakStep) || decide (0 < s.pwr.east.peakStep)) then 4
  else 0

/-- Neither half holds a limit step, whatever called for it (20 Table 20-4). -/
def State.noLimitStep (s : State) : Bool :=
  decide (s.pwr.west.limitStep = 0) && decide (s.pwr.east.limitStep = 0) && decide (s.pwr.west.peakStep = 0)
    && decide (s.pwr.east.peakStep = 0)

/-- LIMIT_STEP (20 Table 20-4): the step called for, its ceiling change and its notice; a raise sends a RAISE notice once
neither half holds a limit step. -/
def execLimitStep (s : State) : Host.Outcome State Fault Refusal :=
  if !s.dev.state.fromIdle then .next s
  else
    let b := s.time.beat
    match s.limitAction with
    | 1 =>
      let s1 : State :=
        if s.pwr.coreE ≤ s.pwr.coreW then { s with pwr.west.limitStep := slower s.pwr.west.limitStep }
        else { s with pwr.east.limitStep := slower s.pwr.east.limitStep }
      .next (({ s1 with pwr.overLimit := b } : State).ceilingChanged s s.powerManager 1).sendSteps
    | 2 =>
      let s1 : State :=
        { s with pwr.west.limitStep := s.pwr.west.limitStep - 1, pwr.east.limitStep := s.pwr.east.limitStep - 1,
                 pwr.underLimit := b, pwr.overLimit := 0 }
      let s2 := s1.ceilingChanged s s.powerManager 1
      .next (if s2.noLimitStep then s2.sendSteps else s2)
    | 3 =>
      let s1 : State :=
        { s with pwr.west.peakStep := slower s.pwr.west.peakStep, pwr.east.peakStep := slower s.pwr.east.peakStep,
                 pwr.emptyBeat := b }
      .next (s1.ceilingChanged s s.powerManager 1).sendSteps
    | 4 =>
      let s1 : State :=
        { s with pwr.west.peakStep := s.pwr.west.peakStep - 1, pwr.east.peakStep := s.pwr.east.peakStep - 1,
                 pwr.fullSince := b, pwr.emptyBeat := 0 }
      let s2 := s1.ceilingChanged s s.powerManager 1
      .next (if s2.noLimitStep then s2.sendSteps else s2)
    | _ => .next s

/-! ## Clamps -/

/-- The clamp of a half engages (20 R498): G3 from the next beat boundary, counted and logged, no notice. -/
def State.engageClamp (s : State) (h : Nat) (thermal : Bool) : State :=
  let p := s.half h
  if p.clamp then s.setHalf h { p with clampCause := s.time.beat, clampTherm := p.clampTherm || thermal }
  else
    (((s.setHalf h { p with clamp := true, clampBeat := s.time.beat, clampCause := s.time.beat, clampTherm := thermal }).bump
      PwrCnt.clamps 1).log (fromHardware h) 0x0060 (2 + h) 0 1)

/-- CLAMP_ENGAGE (20 R498): a cause that the samples show is present. -/
def execClampEngage (half : Fin 2) (s : State) : Host.Outcome State Fault Refusal :=
  if s.clampCauseNow then .next (s.engageClamp half.val (decide (110 ≤ s.pwr.tj))) else .next s

/-- RAIL_OVERCURRENT (20 R486, Table 20-4): rail 0 and 1 are VCORE_W and VCORE_E; any other clamps both halves; VAUX (rail 9)
has no limiter. -/
def execRailOvercurrent (rail : Fin 10) (s : State) : Host.Outcome State Fault Refusal :=
  if !s.dev.state.fromIdle || decide (rail.val = 9) then .next s
  else if rail.val = 0 then .next (s.engageClamp 0 false)
  else if rail.val = 1 then .next (s.engageClamp 1 false)
  else .next ((s.engageClamp 0 false).engageClamp 1 false)

/-- CLAMP_RELEASE (20 R498, Table 20-5), at a beat boundary: 1,000 beats since it engaged, its cause absent for 1,000 beats; a thermal one also
needs Tj at or below 105 °C for 10,000 beats. -/
def execClampRelease (half : Fin 2) (s : State) : Host.Outcome State Fault Refusal :=
  let p := s.half half.val
  let b := s.time.beat
  if p.clamp && decide (p.clampBeat + 1000 ≤ b) && decide (p.clampCause + 1000 ≤ b) && !s.clampCauseNow
      && (!p.clampTherm || (decide (s.pwr.tj ≤ 105) && decide (s.pwr.hotBeat + 10000 ≤ b))) then
    let s1 := (s.setHalf half.val { p with clamp := false, clampTherm := false }).bump PwrCnt.clampBeats (b - p.clampBeat)
    .next (s1.log (fromHardware half.val) 0x0060 (2 + half.val) 1 0).gearBoundary
  else .next s

/-! ## Temperature -/

/-- Tj at or above 100 °C (20 Table 20-5): ALERT# and vector 19, and a step slower on both halves, with a notice; again every
100,000 beats. -/
def State.thermLower (s : State) (first : Bool) : State :=
  if first || decide (s.pwr.thermBeat + 100000 ≤ s.time.beat) then
    let s1 : State :=
      { s with pwr.west.thermStep := slower s.pwr.west.thermStep, pwr.east.thermStep := slower s.pwr.east.thermStep,
               pwr.thermBeat := s.time.beat }
    (s1.ceilingChanged s s.powerManager 2).sendSteps
  else s

/-- Tj at or below 90 °C (20 Table 20-5): the alert is over; after 1,000,000 beats of it a step is given back on both halves. -/
def State.thermRaise (s : State) : State :=
  if decide (s.pwr.coolSince + 1000000 ≤ s.time.beat) && (decide (0 < s.pwr.west.thermStep) || decide (0 < s.pwr.east.thermStep)) then
    let s1 : State :=
      { s with pwr.west.thermStep := s.pwr.west.thermStep - 1, pwr.east.thermStep := s.pwr.east.thermStep - 1,
               pwr.coolSince := s.time.beat }
    let s2 := s1.ceilingChanged s s.powerManager 2
    if s2.ownStep 0 = 0 ∧ s2.ownStep 1 = 0 then s2.sendSteps else s2
  else s

/-- What a junction temperature does to the thermal steps (20 Table 20-5). -/
def State.thermSteps (s : State) (tj : Nat) : State :=
  if 100 ≤ tj then
    let first := !s.dev.sbAlertTj
    (if first then ({ s with dev.sbAlertTj := true } : State).raiseBoth 19 else s).thermLower first
  else if tj ≤ 90 then ({ s with dev.sbAlertTj := false } : State).thermRaise
  else s

/-- THERMAL_SAMPLE (20 R500, Table 20-5): Tj, inlet and outlet; the alert and the thermal step of 100 °C. -/
def execThermalSample (tj inlet outlet : Nat) (s : State) : Host.Outcome State Fault Refusal :=
  match checked (.thermalSample tj inlet outlet) s with
  | .next s =>
    if s.dev.state = .cold then .next s
    else
      let b := s.time.beat
      let s1 : State :=
        { s with
            pwr.tj := tj, pwr.tInlet := inlet, pwr.tOutlet := outlet,
            pwr.hotBeat := if 105 < tj then b else s.pwr.hotBeat,
            pwr.coolSince := if 90 < tj then b else s.pwr.coolSince,
            pwr.fullSince := if 85 < tj then b else s.pwr.fullSince }
      .next (s1.noteClampCause.thermSteps tj)
  | o => o

/-- STACK_TEMPERATURE_REPORT (20 R500, Table 20-5): the stack rows; the throttling of the stack's Mule delays only. -/
def execStackTemperatureReport (stack : Fin 8) (temp : Nat) (s : State) : Host.Outcome State Fault Refusal :=
  match checked (.stackTemperatureReport stack temp) s with
  | .next s =>
    if s.dev.state = .cold then .next s
    else
      let hot := if 95 ≤ temp then true else if temp ≤ 90 then false else s.pwr.hot.getD stack.val false
      let s1 : State :=
        { s with pwr.tStack := s.pwr.tStack.set stack.val temp, pwr.hot := s.pwr.hot.set stack.val hot }
      let s2 := if 95 ≤ temp then s1.bump PwrCnt.hbmThrottleMs 1 else s1
      if 95 ≤ temp && !s2.dev.sbAlertHbm then .next (({ s2 with dev.sbAlertHbm := true } : State).raiseBoth 19)
      else if s2.pwr.tStack.all (fun t => decide (t ≤ 90)) then .next { s2 with dev.sbAlertHbm := false }
      else .next s2
  | o => o

/-! ## The envelope -/

/-- ENVELOPE_RAMP (20 R493, R495): at an entry's pre-ramp beat the rails' phase counts and setpoints are set for its power;
while two ramps overlap the higher holds; a missed one is only counted, but one missed through a role move faults the module (16 R406). -/
def execEnvelopeRamp (missed : Bool) (s : State) : Host.Outcome State Fault Refusal :=
  let n := s.planNat (s.secOff 2) 4
  if s.planRuns && decide (0 < n) then
    let w := s.planNat (s.secOff 2 + 16 + 16 * (s.pwr.ramp % n)) 16
    let at_ := s.repStart (s.plan.startRep + s.pwr.ramp / n) + bits w 0 48
    if at_ ≤ s.time.beat + bits w 96 16 then
      let s1 : State := { s with pwr.ramp := s.pwr.ramp + 1 }
      if s.roleMoving 1 then .next ((s1.bump PwrCnt.rampMissed 1).missWork 1)
      else if missed then .next (s1.bump PwrCnt.rampMissed 1)
      else
        let part := fun i => if s.time.beat < at_ then Nat.max (bits w i 16) (bits s.pwr.setpoint (i - 48) 16) else bits w i 16
        .next { s1 with pwr.setpoint := fields [(0, part 48), (16, part 64), (32, part 80)] }
    else .next s
  else .next s

end Sys2Proof.Machine
end

