-- ==== Sys2Proof/Machine/ArmOps.lean ====
section
/-! DEFINITION. What arming, a rollback and a restore set (12 R292, R314, 17 R434): images of a variant, plan images, shipped
pairs, the reset of the plan's state, the device block. -/

namespace Sys2Proof.Machine

/-- The requester index of Sheepdog 5, the collector (02 R43). -/
def collector : Nat := 223

/-! ## Images -/

/-- Goat `g`'s block of a coefficient or schedule image at `off` of section 11 (12 R286). -/
def State.imageBlock (s : State) (off g : Nat) : List Byte :=
  s.bytesAt (s.plan.base + s.secOff 11 + off + 256 + (if s.varNat off 1 = 60 then 16384 * g else 0)) 16384

/-- The coefficient, schedule, Mule weight and link weight images of variant `v` loaded (08 R187, 12 R285, R290). -/
def State.loadVariantImages (s : State) (v : Nat) : State :=
  let at_ := fun lo => s.variantBits v lo 40
  let s1 := (List.range 60).foldl (fun s' g =>
    (s'.toGoat g (spaceKey (coefSpace g) 0) (s.imageBlock (at_ 192) g)).toGoat g (spaceKey (schedSpace g) 0)
      (s.imageBlock (at_ 256) g)) s
  let from_ := fun off n => s.bytesAt (s.plan.base + s.secOff 11 + off) n
  { s1 with unit.weights := Tab.put 0x11 s1.unit.weights 0 (from_ (at_ 64) 1024 ++ from_ (at_ 128) 256) }

/-- The shipped pairs written into slots 0 to 6 of every Goat (05 R133). -/
def State.writeShipped (s : State) : State :=
  (List.range 60).foldl (fun s g => (List.range 7).foldl (fun s slot =>
    s.loadTable g slot ((List.range 6272).map (Config.shippedTable slot))) s) s

/-- Units of a kind of Table 12-14. -/
def imageUnits (kind : Nat) : Nat := [120, 60, 30, 8].getD kind 0

/-- One plan image written where its directory entry says (12 R314). -/
def State.writeImage (s : State) (e : Nat) : State :=
  let data := s.bytesAt (s.plan.base + s.secOff 9 + bits e 64 40) (bits e 128 32)
  let kind := bits e 4 3
  let nums := if bit e 7 then List.range (imageUnits kind) else [bits e 8 8]
  nums.foldl (fun s n =>
    if bits e 0 2 = 0 then s.loadTable n (bits e 16 5) data
    else s.write collector (locKey (bits e 32 32) n (kind + 1)) data) s

/-- Every plan image written, in directory order (12 R314). -/
def State.writePlanImages (s : State) : State :=
  if s.secLen 9 = 0 then s
  else
    (List.range (s.planNat (s.secOff 9 + 512) 2)).foldl (fun s' i => s'.writeImage (s.planNat (s.secOff 9 + 576 + 32 * i) 32)) s

/-! ## The reset of plan state -/

/-- The number of the variant of the ceilings in force (12 R290). -/
def State.ceilingVariant (s : State) : Nat := 4 * s.ceiling 0 + s.ceiling 1

/-- Every selection code at its INIT (07 Table 07-4). -/
def State.initCodes (s : State) : Tab Nat :=
  Tab.put 0 [] 0 ((List.range s.selEntries).map (fun x => bits (s.selEntry x) 24 2))

/-- Slots emptied, the sampling of the prompts begun again, KV free list rebuilt in the allocator and in the region's first pages
(13 R324, R325, 17 R434 step 5). -/
def State.clearSlots (s : State) : State :=
  let l := List.range s.kvBlocks
  let s1 : State := { s with acts.slots := [], acts.sampleNext := 0, acts.kvFree := l, acts.kvHead := 0 }
  s1.smWrite (s1.kvListAt 0) (l.flatMap (natLe 4))

/-- Every queue empty, its producer with 256 credits; a broken one stays broken, which only PLAN_ARM ends (12 R292, R304). -/
def State.emptyQueues (s : State) : State :=
  { s with unit.queues := (s.unit.queues.filter (fun e => e.2.broken)).map (fun e => (e.1, { FeedQueue.empty with broken := true })) }

/-- The plan state that R292 lists, but for codes, windows and variant, with every unit at the head of repetition `rep`; the
slot manager's targets start with their counters, and what waits for a decision of the steps given up is dropped. -/
def State.resetRun (s : State) (rep : Nat) : State :=
  let streams := Tab.put Stream.idle [] 0 (List.replicate 226 { Stream.idle with rep := rep, variant := s.plan.variant })
  let s1 : State :=
    { s with
      plan.ctrs := []
      plan.ctrRep := 0
      plan.ctrShared := true
      plan.carries := []
      plan.lateSet := []
      plan.shortHops := []
      plan.decisions := 0
      plan.decision := 0
      plan.dstep := 0
      plan.dbeat := 0
      plan.trailer := none
      plan.rtrSeen := 0
      plan.carriedNow := 0
      plan.droppedNow := 0
      plan.slipsNow := 0
      plan.updateClose := none
      plan.started := false
      plan.ran := false
      plan.holdBeat := none
      plan.shift := 0
      plan.next := 0
      plan.nextRep := rep
      unit.streams := streams
      unit.tiles := []
      unit.markers := []
      unit.index := []
      unit.paging := []
      acts.genTarget := 1
      acts.batTarget := 1 }
  s1.emptyQueues.closeGates

/-- The usage window of every router starts at 0 (10 R254). -/
def State.clearUsage (s : State) : State :=
  (List.range s.routers).foldl (fun s r =>
    let rt := s.router r
    s.hbmWrite collector rt.usageWin (List.replicate (4 * rt.e) 0)) s

/-- FAULT_STATUS, CKPT_STATUS and ACT_STATUS at their reset values (19 R469, 14 Table 14-1). -/
def State.clearStatus (s : State) : State :=
  { s with
    flt.cause := 0
    flt.scope := 0
    flt.noticeSent := false
    flt.detail := 0
    flt.noticeSrc := 0
    flt.noticeGot := false
    flt.beat := 0
    ck.state := 0
    ck.poisoned := false
    ck.snapOpen := false
    ck.restoreBad := false
    ck.failCode := 0
    ck.lastEffective := 0
    ck.lastClosed := 0
    ck.step := 0
    ck.bytes := 0
    ck.firstDone := false
    ck.closedCount := 0
    acts.act := 0
    acts.drained := false
    acts.retries := 0
    acts.rep := 0 }

/-- Arming (19 R469): every state that R292, R187, R254, R285, R314 and R249 give, and the requests of the timetable at G0 (20
R488). -/
def State.armPlan (s : State) (origin : Nat × Nat) : State :=
  let v := s.ceilingVariant
  let s1 : State :=
    { s with plan.variant := v, plan.sel := s.initCodes, plan.windows := [], unit.queues := [], pwr.west.req := 0, pwr.east.req := 0 }
  let s2 := (((s1.resetRun 0).loadVariantImages v).writePlanImages).clearUsage.clearSlots
  let s3 := s2.clearStatus.clearFrozen origin
  { s3 with dev.primed := true, dev.stopped := false, plan.repNow := 0, plan.startRep := 0 }

/-! ## The device block -/

/-- REP as a device block holds it: the repetition in progress, or all ones if none has begun (17 Table 17-4). -/
def State.deviceRep (s : State) : Nat :=
  if s.plan.started then s.plan.repNow else (s.plan.nextRep + 2 ^ 64 - 1) % 2 ^ 64

/-- The device block (17 Table 17-4). -/
def State.deviceBlock (s : State) : Tab Byte :=
  let head := natLe 8 (mod64 s.plan.step) ++ natLe 8 s.deviceRep ++ natLe 1 s.plan.variant
  let t := Tab.put 0 [] 0 head
  let t := Tab.put 0 t 0x40 ((List.range 4096).map (fun x => BitVec.ofNat 8 (Tab.get 0 s.plan.sel x)))
  Tab.graft t s.plan.windows 0 0x1040 262144

/-- What a device block gives back: step counter, codes, window records, active variant (17 R434 step 3). -/
def State.takeDevice (s : State) (b : Tab Byte) : State :=
  let num := fun o n => leNat (Tab.range 0 b o n)
  { s with
    plan.step := num 0 8
    plan.variant := num 0x10 1 % 16
    plan.sel := Tab.put 0 [] 0 ((List.range 4096).map (fun x => num (0x40 + x) 1))
    plan.windows := Tab.graft [] b 0x1040 0 262144 }

/-- The rollout ring's SCORED, LCUR and LRET become its PROD, slots are emptied, free lists rebuilt (17 R434 step 5). -/
def State.rewindRollouts (s : State) : State :=
  let s1 :=
    if s.secLen 9 = 0 then s
    else
      let r := s.ring s.rollRing
      ((s.setIdx r.addr 3 r.prod).setIdx r.addr 4 r.prod).setIdx r.addr 5 r.prod
  s1.clearSlots

/-- Steps 3 to 6 of R434: the device block's items, the other plan state reset with every unit at the head of repetition
REP + 1, the rollout ring rewound, CKPT_STATUS.STATE NONE; the plan's images are written again before it is primed (12 R314), and
those of the restored variant with them (08 R187). -/
def State.returnTo (s : State) (b : Tab Byte) : State :=
  let rep := (leNat (Tab.range 0 b 8 8) + 1) % 2 ^ 64
  let s1 := (s.takeDevice b).resetRun rep
  let s2 := ((s1.loadVariantImages s1.plan.variant).writePlanImages).rewindRollouts
  { s2 with ck.state := 0, dev.primed := true, dev.stopped := false }

end Sys2Proof.Machine
end

