-- ==== Sys2Proof/Machine/HostRows.lean ====
section
/-! DEFINITION. Host ports (18): submission, consumption and posting, port resets, MSI-X, BAR0 and BAR2, the telemetry
mirror. -/

namespace Sys2Proof.Machine

/-- The port decodes its BARs: its link is up and start-up has reached step 6, or a warm reset keeps it so (21 R518,
R522). -/
def State.portLive (s : State) (p : Nat) : Bool :=
  Tab.get false s.host.linkUp p && decide (s.dev.state ≠ .cold) && (decide (6 ≤ s.dev.stepDone) || decide (s.dev.lastReset ≠ 0))

/-! ## Mailboxes -/

/-- Opcodes of Table 19-3 that read: they do not enter the device queue (19 R462). -/
def readOpcodes : List Nat := [0x01, 0x02, 0x03, 0x04, 0x11, 0x13, 0x14, 0x62, 0x70]

/-- An opcode that goes into the device queue: a changing command other than HALT and RESET_PART (19 R462, R463), or one that
Table 19-3 does not list, which is rejected there. -/
def entersQueue (op : Nat) : Bool := !readOpcodes.contains op && decide (op ≠ 0x80) && decide (op ≠ 0x81)

/-- The command a page holds (18 Table 18-4). -/
def commandOfPage (page : Tab Byte) (beat : Nat) : Command :=
  { opcode := leNat (Tab.range 0 page 0 2), irq := bit (leNat (Tab.range 0 page 2 1)) 0,
    seq := leNat (Tab.range 0 page 4 4), length := bits (leNat (Tab.range 0 page 8 2)) 0 12,
    body := Tab.graft [] page 0x40 0 0xFB8, accepted := beat }

/-- SEQ shown in a reply page (18 Table 18-5). -/
def Mailbox.shownSeq (b : Mailbox) : Nat := match b.shown with
  | some r => r.seq
  | none => 0

/-- Pending commands of a mailbox: accepted and their records not posted (18 R447). -/
def Mailbox.pendingCount (b : Mailbox) : Nat := b.queue.length + b.records.length

/-- The number of the first failed check of a submission, or 0 (18 R447). -/
def Mailbox.submitCheck (b : Mailbox) (page : Tab Byte) : Nat :=
  let seq := leNat (Tab.range 0 page 0xFF8 4)
  if b.resetting then 1
  else if 4 ≤ b.pendingCount then 2
  else if seq ≠ leNat (Tab.range 0 page 4 4) ∨ seq = 0 then 3
  else if seq = b.shownSeq ∨ b.queue.any (fun c => c.seq == seq) ∨ b.records.any (fun r => r.seq == seq) then 4
  else 0

/-- A submission (18 R447): accepted, the page is copied into the queue; refused, only the refusal is recorded. -/
def State.submit (s : State) (p m : Nat) (page : Tab Byte) : State :=
  let b : Mailbox := { s.box p m with page := page }
  let seq := leNat (Tab.range 0 page 0xFF8 4)
  match b.submitCheck page with
  | 0 =>
    let c := commandOfPage page s.time.beat
    let s1 := (s.setBox p m { b with queue := b.queue ++ [c], lastAccepted := seq }).bump (MbxCnt.accepted p) 1
    if entersQueue c.opcode then
      { s1 with host.queue := s1.host.queue ++
          [{ port := p, mbox := m, seq := seq, checked := false, waiting := false, waitBeat := 0, arg := 0 }] }
    else s1
  | n => (s.setBox p m { b with refuse := n, lastRefused := seq }).bump (MbxCnt.refused p) 1

/-- MAILBOX_SUBMIT: a host write into a command page; one that covers the SUBMIT word in full is a submission (18 R447). -/
def execMailboxSubmit (p : Fin 2) (m : Fin 16) (offset : Nat) (data : List Byte) (s : State) :
    Host.Outcome State Fault Refusal :=
  match checked (.mailboxSubmit p m offset data) s with
  | .next s =>
    if s.portLive p.val then
      let page := Tab.put 0 (s.box p.val m.val).page offset data
      if offset ≤ 0xFF8 ∧ 0x1000 ≤ offset + data.length then .next (s.submit p.val m.val page)
      else .next (s.setBox p.val m.val { s.box p.val m.val with page := page })
    else .next s
  | o => o

/-- CONSUMED_WRITE (18 R449). -/
def execConsumedWrite (p : Fin 2) (m : Fin 16) (seq : Nat) (s : State) : Host.Outcome State Fault Refusal :=
  match checked (.consumedWrite p m seq) s with
  | .next s =>
    if s.portLive p.val then
      let b := s.box p.val m.val
      if !b.consumed && b.shown.isSome && decide (b.shownSeq = seq) then .next (s.setBox p.val m.val { b with consumed := true })
      else .next (s.bump (MbxCnt.consumeIgnored p.val) 1)
    else .next s
  | o => o

/-- Bytes that a record's bulk reply wrote are still held while their page is copied, so no read would see them (13 R323). -/
def State.recordHeld (s : State) (p : Nat) (r : Record) : Bool :=
  match r.wrote with
  | some (a, n) =>
    s.heldWrites.any (fun h => decide (h.req = portRequester p) && overlaps a n (2 ^ 21 * h.page + h.offset) h.data.length)
  | none => false

/-- The command at the head of mailbox (p, m) is executing: the device queue has checked it (19 R462). -/
def State.executing (s : State) (p m : Nat) : Bool :=
  match s.head p m with
  | some c => s.host.queue.any (fun q => q.port == p && q.mbox == m && q.seq == c.seq && q.checked)
  | none => false

/-- RECORD_POST (18 R448): a waiting record is posted once the record shown is consumed or none is shown, and once what its bulk
reply wrote is visible (00 R7); its vector is raised
if its command had IRQ = 1. -/
def execRecordPost (p : Fin 2) (m : Fin 16) (s : State) : Host.Outcome State Fault Refusal :=
  let b := s.box p.val m.val
  match b.records with
  | r :: rest =>
    if (b.consumed || b.shown.isNone) && !s.recordHeld p.val r then
      let s1 := (s.setBox p.val m.val
        { b with records := rest, shown := some r, consumed := false, posted := (b.posted + 1) % 2 ^ 24,
                 progress := if s.executing p.val m.val then b.progress else 0 }).bump (MbxCnt.posted p.val) 1
      .next (if r.irq then s1.raiseVector p.val m.val else s1)
    else .next s
  | [] => .next s

/-- STATUS as the reply page shows it (18 R448). -/
def Mailbox.replyStatus (b : Mailbox) : Nat :=
  match b.shown with
  | some r => if !b.consumed then r.status else if b.pendingCount = 0 then 0x00FF else 1
  | none => 0x00FF

/-- The reply header (18 Table 18-5). -/
def State.replyHeader (s : State) (p m : Nat) : Nat :=
  let b := s.box p m
  let gen := b.posted + Tab.get 0 s.host.epoch p * 2 ^ 24
  match b.shown with
  | some r =>
    fields [(0, b.replyStatus), (16, r.opcode % 2 ^ 16), (32, r.seq % 2 ^ 32), (64, gen % 2 ^ 32),
      (96, r.len % 2 ^ 12), (128, mod64 r.beat), (192, mod64 r.detail)]
  | none => fields [(0, 0x00FF), (64, gen % 2 ^ 32)]

/-- A mailbox status word (18 Table 18-8). -/
def Mailbox.statusWord (b : Mailbox) : Nat :=
  fields [(0, b.pendingCount % 8), (3, b2n (!b.records.isEmpty)), (8, b.progress % 2 ^ 8), (16, b.refuse % 8),
    (32, b.lastAccepted % 2 ^ 32), (64, b.ackSeq % 2 ^ 32), (96, b.lastRefused % 2 ^ 32)]

/-! ## Port resets -/

/-- One mailbox is reset (18 R451): commands not started are discarded, an executing one runs on and its record will be
discarded; the status word keeps LAST_ACCEPTED, ACK_SEQ, REFUSE_REASON and LAST_REFUSED, and GEN its count (log 18). -/
def State.resetBox (s : State) (p m : Nat) : State :=
  let b := s.box p m
  let run := s.executing p m
  let b' : Mailbox :=
    { Mailbox.empty with queue := if run then b.queue.take 1 else [], resetting := run, posted := b.posted,
                         refuse := b.refuse, lastAccepted := b.lastAccepted, ackSeq := b.ackSeq,
                         lastRefused := b.lastRefused, progress := if run then b.progress else 0 }
  { s.setBox p m b' with
      host.queue := s.host.queue.filter (fun q => !(q.port == p && q.mbox == m) || (run && q.checked)) }

/-- The mailboxes, MSI-X pending bits and aperture of a port are reset and its service epoch rises (18 R450, R451). -/
def State.resetPort (s : State) (p : Nat) : State :=
  let s1 := (List.range 16).foldl (fun s m => s.resetBox p m) s
  { s1 with host.msixPend := Tab.clear s1.host.msixPend (32 * p) 32, host.aperture := Tab.set 0 s1.host.aperture p 0,
            host.epoch := Tab.upd 0 s1.host.epoch p (fun e => (e + 1) % 2 ^ 8) }

/-- Every mailbox status word is cleared (18 Table 18-9: power-on and RESET_PART). -/
def State.clearStatusWords (s : State) : State :=
  (List.range 32).foldl (fun s i =>
    s.setBox (i / 16) (i % 16)
      { s.box (i / 16) (i % 16) with progress := 0, refuse := 0, lastAccepted := 0, ackSeq := 0, lastRefused := 0 }) s

/-- An open checkpoint stream fails (17 R428, R430). -/
def State.failStream (s : State) (code : Nat) : State :=
  if s.ck.state = 1 then
    ((({ s.cutStream with ck.state := 4, ck.failCode := code } : State).bump CkptCnt.failed 1).log
      (s.dog 2) 0x0030 4 s.ck.lastEffective code).raiseBoth 17
  else s

/-- Code of a port reset's kind in the log (22 Table 22-7; log 18). -/
def resetKindCode : PortResetKind → Nat
  | .functionLevel => 0 | .hot => 1 | .perst => 2 | .linkDown => 3

/-- PORT_RESET (18 R451): a link-down or PERST# also takes the link down, which fails an open stream (17 Table 17-6). -/
def execPortReset (p : Fin 2) (kind : PortResetKind) (s : State) : Host.Outcome State Fault Refusal :=
  if s.dev.state = .cold then .next s
  else
    let s1 := ((s.resetPort p.val).log (fromHardware p.val) 0x0012 p.val 0 (resetKindCode kind)).bump (MbxCnt.portResets p.val) 1
    match kind with
    | .functionLevel => .next s1
    | .hot => .next s1
    | _ =>
      let s2 : State :=
        { s1 with host.linkUp := Tab.set false s1.host.linkUp p.val false,
                  host.downSince := Tab.set 0 s1.host.downSince p.val s1.time.beat,
                  host.speed := Tab.set 0 s1.host.speed p.val 0, host.width := Tab.set 0 s1.host.width p.val 0 }
      .next (if s2.ck.started then s2.failStream 2 else s2)

/-- PERST_DEASSERT (21 R518): the port trains its link, at the rate and width the training gives. -/
def execPerstDeassert (p : Fin 2) (speed width : Nat) (s : State) : Host.Outcome State Fault Refusal :=
  match checked (.perstDeassert p speed width) s with
  | .next s =>
    if s.dev.pgood then
      .next { s with host.linkUp := Tab.set false s.host.linkUp p.val true, host.speed := Tab.set 0 s.host.speed p.val speed,
                     host.width := Tab.set 0 s.host.width p.val width }
    else .next s
  | o => o

/-- MSIX_UNMASK (18 R454): a pending vector sends its one message. -/
def execMsixUnmask (p : Fin 2) (vector : Fin 32) (s : State) : Host.Outcome State Fault Refusal :=
  let k := vecKey p.val vector.val
  let s1 : State := { s with host.msixMask := Tab.set true s.host.msixMask k false }
  if Tab.get false s.host.msixPend k then
    .next ((({ s1 with host.msixPend := Tab.set false s1.host.msixPend k false } : State).emit
      (.msix p.val vector.val)).bump (MbxCnt.irqs p.val) 1)
  else .next s1

/-! ## BAR2 and BAR0 -/

/-- Device byte address of BAR2 offset `off` of port `p` (18 R457). -/
def State.bar2Addr (s : State) (p off : Nat) : Nat := Tab.get 0 s.host.aperture p * 2 ^ 30 + off

/-- The bytes a BAR2 read delivers (13 R317, R318): all ones for those of a page that is not there and for those of a line with an
uncorrectable error. -/
def State.bar2Bytes (s : State) (a n : Nat) : List Byte :=
  (List.range n).map (fun i =>
    if s.badPage (pageOf (a + i)) || decide (Tab.get 0 s.lineErr ((a + i) / 64) = 2) then 0xFF else Tab.get 0 s.mem (a + i))

/-- BAR2_READ (18 R457, R458): an HBM read of requester 234 or 235. -/
def execBar2Read (p : Fin 2) (offset len : Nat) (s : State) : Host.Outcome State Fault Refusal :=
  match checked (.bar2Read p offset len) s with
  | .next s =>
    if 2 ^ 36 < offset + len then .fault .outsideBar
    else if s.portLive p.val then
      let a := s.bar2Addr p.val offset
      .next ((s.hbmNoteRead (234 + p.val) a len).emit (.readData p.val (s.bar2Bytes a len)))
    else .next s
  | o => o

/-- BAR2_WRITE (18 R442, R458): the steward's write goes to HBM; the observer's is discarded and counted. -/
def execBar2Write (p : Fin 2) (offset : Nat) (data : List Byte) (s : State) : Host.Outcome State Fault Refusal :=
  match checked (.bar2Write p offset data) s with
  | .next s =>
    if 2 ^ 36 < offset + data.length then .fault .outsideBar
    else if s.portLive p.val then
      if s.host.steward = p.val then .next (s.hbmWrite (234 + p.val) (s.bar2Addr p.val offset) data)
      else .next (s.bump (MbxCnt.obsWrites p.val) 1)
    else .next s
  | o => o

/-- A BAR0 location that a write may change: the responder's request, the MSI-X table, a command page, a CONSUMED word (18
Table 18-2, R442). -/
def bar0Writable (off : Nat) : Bool :=
  (decide (0x1000 ≤ off) && decide (off < 0x1008)) || (decide (0x3000 ≤ off) && decide (off < 0x3200))
    || (decide (0x10000 ≤ off) && decide (off < 0x30000)
        && (decide (off % 0x2000 < 0x1000) || decide (0x1FF8 ≤ off % 0x2000)))

/-- BAR0_WRITE_DISCARD (18 R444): a write to a read-only or reserved location is discarded and counted. -/
def execBar0WriteDiscard (p : Fin 2) (offset len : Nat) (s : State) : Host.Outcome State Fault Refusal :=
  if 2 ^ 26 < offset + len then .fault .outsideBar
  else if s.portLive p.val && !bar0Writable offset then .next (s.bump (MbxCnt.badWrites p.val) 1)
  else .next s

/-- BAR0_CROSSING_READ (18 R444): a read across a 4 KiB boundary is answered with all ones and counted. -/
def execBar0CrossingRead (p : Fin 2) (offset len : Nat) (s : State) : Host.Outcome State Fault Refusal :=
  if 2 ^ 26 < offset + len then .fault .outsideBar
  else if s.portLive p.val && decide (0 < len) && decide (offset / 4096 ≠ (offset + len - 1) / 4096) then
    .next ((s.emit (.readData p.val (List.replicate len 0xFF))).bump (MbxCnt.badWrites p.val) 1)
  else .next s

/-! ## The telemetry mirror -/

/-- The blocks the mirror lists, with the offset of each one's instance 0 from `off` on. -/
def mirrorPlaces (off : Nat) : List Block → List (Nat × Block)
  | [] => []
  | b :: l => (off, b) :: mirrorPlaces (off + b.count * b.bytes) l

/-- The mirror's blocks in table order; the instances start behind the directory, whose last entry is 0 (18 R455). -/
def mirrorBlocks : List (Nat × Block) :=
  let l := blocks.filter (fun b => b.mirror)
  mirrorPlaces (0x40 + 8 * (l.length + 1)) l

/-- The mirror as one refresh leaves it (18 R455). -/
def State.mirrorBytes (s : State) (gen : Nat) : Tab Byte :=
  let dir := mirrorBlocks.flatMap (fun e => natLe 8 (fields [(0, e.2.id), (16, e.2.count), (32, e.1)]))
  let t0 := Tab.put 0 [] 0 (natLe 8 gen ++ natLe 8 (mod64 s.time.beat))
  let t1 := Tab.put 0 (Tab.put 0 t0 0x40 dir) 0xFFFF8 (natLe 8 gen)
  mirrorBlocks.foldl (fun t e =>
    (List.range e.2.count).foldl (fun t i => Tab.put 0 t (e.1 + i * e.2.bytes) (fit 0 e.2.bytes (s.blockBytes e.2 i))) t) t1

/-- MIRROR_REFRESH (18 R455): at a beat that is a multiple of 1,000, once; MIRROR_GEN rises at its start and at its end. -/
def execMirrorRefresh (s : State) : Host.Outcome State Fault Refusal :=
  if s.dev.fwRunning && decide (s.time.beat % 1000 = 0)
      && (decide (s.host.mirrorGen = 0) || decide (s.host.mirrorBeat ≠ s.time.beat)) then
    let gen := mod64 (s.host.mirrorGen + 2)
    .next { s with host.mirrorGen := gen, host.mirrorBeat := s.time.beat, host.mirror := s.mirrorBytes gen }
  else .next s

end Sys2Proof.Machine
end

