-- ==== Sys2Proof/Machine/MbxOps.lean ====
section
/-! DEFINITION. How mailbox commands run (16 R413, 19 R462 to R467): the checks at the head of the device queue, the body's
layout, commands that wait for a beat. -/

namespace Sys2Proof.Machine

/-! ## Table 19-3 -/

/-- Letters of the states in which a command is permitted: I, A, R, H, F, X as the states' codes. -/
def statesOf (op : Nat) : List Nat :=
  let i := 2; let a := 3; let r := 4; let h := 5; let f := 6; let x := 7
  match op with
  | 0x12 => [i] | 0x20 => [i] | 0x21 => [a, h] | 0x22 => [a, h] | 0x23 => [a, h] | 0x24 => [r] | 0x25 => [h]
  | 0x26 => [r, h] | 0x27 => [a, r, h] | 0x30 => [i, a, r, h] | 0x31 => [i, a, r, h] | 0x32 => [a, h] | 0x33 => [a, h]
  | 0x34 => [h, f] | 0x40 => [i] | 0x41 => [i] | 0x42 => [a, r, h] | 0x50 => [i, a, h] | 0x51 => [i, a, r, h]
  | 0x60 => [i, a, r, h, f] | 0x61 => [i, a, r, h] | 0x71 => [i, a, h] | 0x72 => [i]
  | _ => [i, a, r, h, f, x]

/-- The opcodes of Table 19-3. -/
def opcodes : List Nat :=
  [0x01, 0x02, 0x03, 0x04, 0x10, 0x11, 0x12, 0x13, 0x14, 0x20, 0x21, 0x22, 0x23, 0x24, 0x25, 0x26, 0x27, 0x30, 0x31, 0x32, 0x33,
    0x34, 0x40, 0x41, 0x42, 0x50, 0x51, 0x60, 0x61, 0x62, 0x70, 0x71, 0x72, 0x80, 0x81]

/-- The observer may issue SET_STEWARD: the steward port's link has been down for 100 ms, or the part is FAULTED or HALTED (18
R443). -/
def State.observerMoves (s : State) : Bool :=
  let st := s.host.steward
  decide (s.dev.state = .faulted) || decide (s.dev.state = .halted)
    || (!Tab.get false s.host.linkUp st && decide (Tab.get 0 s.host.downSince st + 100000 ≤ s.time.beat))

/-- Port `p`'s role permits opcode `op` (19 Table 19-3). -/
def State.roleOk (s : State) (p op : Nat) : Bool :=
  decide (s.host.steward = p) || readOpcodes.contains op || decide (op = 0x80) || (decide (op = 0x10) && s.observerMoves)
    || (decide (op = 0x81) && (decide (s.dev.state = .faulted) || decide (s.dev.state = .halted)))

/-- The first of R413's checks 1 to 3 that a command fails, or OK. -/
def State.gateStatus (s : State) (p op : Nat) : Nat :=
  if !opcodes.contains op then stUnsupported
  else if !s.roleOk p op then stDenied
  else if !(statesOf op).contains s.dev.state.code then stWrongState
  else if op = 0x34 ∧ s.dev.state = .faulted ∧ s.flt.scope = 1 then stWrongState
  else if op = 0x81 ∧ s.dev.extest then stWrongState
  else stOk

/-! ## Who serves -/

/-- Filuidom serves port `p`'s mailboxes: it runs, start-up is over, and the port's role is not between Sheepdogs (18 R459, 16
R406); a latched cause acts first (16 R404). -/
def State.serves (s : State) (p : Nat) : Bool :=
  s.dev.fwRunning && s.dev.state.fromIdle && !s.flt.pendingEntry && !s.roleMoving (4 * p)

/-- The first entry of the device queue and the command it stands for, at the head of its mailbox (19 R462). -/
def State.queueHead (s : State) : Option (Queued × Command) :=
  match s.host.queue with
  | q :: _ =>
    match s.head q.port q.mbox with
    | some c => if c.seq = q.seq && s.serves q.port then some (q, c) else none
    | none => none
  | [] => none

/-- The mailbox's command is the changing command in execution, of opcode `op`, and its effect is not yet waiting. -/
def State.changing (s : State) (p m op : Nat) : Option Command :=
  match s.queueHead with
  | some (q, c) =>
    if q.port = p && q.mbox = m && q.checked && !q.waiting && decide (c.opcode = op) then some c else none
  | none => none

/-- The changing command in execution, if it is of opcode `op` and waits for its beat or its object. -/
def State.waitingFor (s : State) (op : Nat) : Option (Queued × Command) :=
  match s.queueHead with
  | some (q, c) => if q.waiting && decide (c.opcode = op) then some (q, c) else none
  | none => none

/-- The same, once its beat has come. -/
def State.dueCmd (s : State) (op : Nat) : Option (Queued × Command) :=
  match s.waitingFor op with
  | some (q, c) => if q.waitBeat ≤ s.time.beat then some (q, c) else none
  | none => none

/-- The command at the head of mailbox (p, m) is one of opcode `op` that enters no queue and may run (19 R462, R463). -/
def State.reading (s : State) (p m op : Nat) : Option Command :=
  match s.head p m with
  | some c => if decide (c.opcode = op) && s.serves p then some c else none
  | none => none

/-- The mailbox's status word shows progress `v`. -/
def State.setProgress (s : State) (p m v : Nat) : State := s.setBox p m { s.box p m with progress := v }

/-- A command is acknowledged: its SEQ goes to ACK_SEQ (18 R459). -/
def State.acknowledge (s : State) (p m seq : Nat) : State := s.setBox p m { s.box p m with ackSeq := seq }

/-- DEVICE_QUEUE_HEAD (19 R462): the command at the head of the device queue is checked by R413's checks 1 to 3; one that fails
is rejected, another is acknowledged and may act. -/
def execDeviceQueueHead (s : State) : Host.Outcome State Fault Refusal :=
  match s.queueHead with
  | some (q, c) =>
    if q.checked then .next s
    else
      let st := s.gateStatus q.port c.opcode
      if st = stOk then
        let s1 := (s.acknowledge q.port q.mbox c.seq).setProgress q.port q.mbox 1
        .next { s1 with host.queue := { q with checked := true } :: s1.host.queue.drop 1 }
      else .next (s.reject q.port q.mbox st 0)
  | none => .next s

/-- The changing command in execution waits until `beat` (19 R465). -/
def State.await (s : State) (p m beat arg : Nat) : State :=
  let s1 := s.setProgress p m 128
  match s1.host.queue with
  | q :: l => { s1 with host.queue := { q with waiting := true, waitBeat := beat, arg := arg } :: l }
  | [] => s1

/-! ## Bodies -/

/-- LENGTH and the listed ranges of a command body (19 Table 19-4). -/
def bodyLayout (op : Nat) : Nat × List (Nat × Nat) :=
  match op with
  | 0x03 => (32, [(0, 12), (16, 16)]) | 0x10 => (1, [(0, 1)]) | 0x11 => (2, [(0, 2)])
  | 0x12 => (24, [(0, 2), (8, 16)]) | 0x13 => (2, [(0, 2)]) | 0x14 => (16, [(0, 16)]) | 0x20 => (16, [(0, 16)])
  | 0x23 => (8, [(0, 8)]) | 0x24 => (8, [(0, 8)]) | 0x25 => (8, [(0, 8)]) | 0x26 => (8, [(0, 8)])
  | 0x27 => (56, [(0, 20), (24, 12), (40, 16)]) | 0x30 => (272, [(0, 2), (16, 256)]) | 0x31 => (8, [(0, 8)])
  | 0x33 => (1040, [(0, 8), (16, 1024)]) | 0x34 => (8, [(0, 8)]) | 0x41 => (16, [(0, 2), (8, 8)]) | 0x42 => (2, [(0, 2)])
  | 0x50 => (1, [(0, 1)]) | 0x51 => (16, [(0, 16)]) | 0x60 => (2, [(0, 2)]) | 0x61 => (1, [(0, 1)])
  | 0x62 => (32, [(0, 2), (4, 8), (16, 16)]) | 0x70 => (64, [(0, 64)]) | 0x71 => (16, [(0, 16)])
  | _ => (0, [])

/-- A body has the table's LENGTH and zeros where the table lists nothing (19 R467). -/
def Command.bodyOk (c : Command) : Bool :=
  let l := bodyLayout c.opcode
  decide (c.length = l.1) && (List.range l.1).all (fun i =>
    l.2.any (fun r => decide (r.1 ≤ i) && decide (i < r.1 + r.2)) || decide (Tab.get 0 c.body i = 0))

/-- Runs the changing command in execution: rejected with `wrong`'s WRONG_STATE, then for its body, then `f` (16 R413). -/
def State.runChanging (s : State) (p m op : Nat) (wrong : Command → Bool) (f : Command → State) :
    Host.Outcome State Fault Refusal :=
  match s.changing p m op with
  | some c =>
    .next (if wrong c then s.reject p m stWrongState 0 else if !c.bodyOk then s.reject p m stBadArg 0 else f c)
  | none => .next s

/-- Runs a command that enters no queue: acknowledged, its body checked, then `f` (19 R462). -/
def State.runReading (s : State) (p m op : Nat) (f : State → Command → State) : Host.Outcome State Fault Refusal :=
  match s.reading p m op with
  | some c =>
    let s1 := s.acknowledge p m c.seq
    .next (if c.bodyOk then f s1 c else s1.reject p m stBadArg 0)
  | none => .next s

/-- A record with status OK and a body. -/
def State.ok (s : State) (p m : Nat) (body : List Byte) : State := s.makeRecord p m stOk 0 body

end Sys2Proof.Machine
end

