-- ==== Sys2Proof/Machine/StreamRows.lean ====
section
/-! DEFINITION. The commands every stream shares: BARRIER, END, SELECT, SWITCH (12 R288 to R291); completion and slip of
a unit command (12 R297, R307); the end of the last repetition (19 R461). -/

namespace Sys2Proof.Machine

/-- A stream moves on past a command that has no work of its own, which signals in cycle 1 (12 R288). -/
def State.passCmd (s : State) (u d : Nat) (t : Stream) : State :=
  (s.setStream u t).applySignal (dSig d) (dInc d) (some (s.stream u).rep)

/-- BARRIER: with DRAIN its cycle 0 comes only once every earlier command of its stream has completed (12 Table 12-4). -/
def execBarrier (u : Fin 226) (s : State) : Host.Outcome State Fault Refusal :=
  match s.ready u.val 1 with
  | some d =>
    let t := s.stream u.val
    if bit d 128 && !t.flight.isEmpty then .next s
    else .next (s.passCmd u.val d { t with pos := t.step (t.pos + 1) })
  | none => .next s

/-- A stream whose repetition is closed begins the next one, in the active variant (12 R287). -/
def State.openStream (s : State) (t : Stream) : Stream :=
  { t with closed := false, variant := s.plan.variant, pos := 0, jumpAt := 0, jumpTo := 0 }

/-- END closes the unit's repetition (12 R287); the next begins at once if its beat has come, otherwise at PERIOD_START. -/
def execEndRep (u : Fin 226) (s : State) : Host.Outcome State Fault Refusal :=
  match s.ready u.val 2 with
  | some d =>
    let t := s.stream u.val
    let t1 : Stream := { t with rep := t.rep + 1, pos := 0, jumpAt := 0, jumpTo := 0, closed := true }
    .next (s.passCmd u.val d (if s.repBegun t1.rep then s.openStream t1 else t1))
  | none => .next s

/-- The current code of selection entry `e` (12 R289, 07 R175). -/
def State.selCode (s : State) (e : Nat) : Nat := Tab.get 0 s.plan.sel e

/-- SELECT: alternative c runs, the other two are passed over (12 R289). -/
def execSelectAlternative (u : Fin 226) (s : State) : Host.Outcome State Fault Refusal :=
  match s.ready u.val 3 with
  | some d =>
    let t := s.stream u.val
    let c := s.selCode (bits d 128 12)
    let l0 := bits d 144 20
    let l1 := bits d 164 20
    let l2 := bits d 184 20
    let first := t.pos + 1 + (if c = 0 then 0 else if c = 1 then l0 else l0 + l1)
    let last := first + (if c = 0 then l0 else if c = 1 then l1 else l2)
    let t1 : Stream := { t with jumpAt := last, jumpTo := t.pos + 1 + l0 + l1 + l2 }
    .next (s.passCmd u.val d { t1 with pos := t1.step first })
  | none => .next s

/-- The position after SWITCH `k` in a stream of variant `v`; none if it holds no such SWITCH. -/
def State.afterSwitch (s : State) (v u k : Nat) : Option Nat :=
  let tab := s.streamTab v u
  ((List.range tab.2).find? (fun i =>
    let d := s.descAt (tab.1 + i)
    decide (dOpc d = 4) && decide (bits d 128 16 = k))).map (· + 1)

/-- SWITCH: the unit continues after the SWITCH of the same index in the active variant's stream (12 R291). -/
def execSwitch (u : Fin 226) (s : State) : Host.Outcome State Fault Refusal :=
  match s.ready u.val 4 with
  | some d =>
    let t := s.stream u.val
    match s.afterSwitch s.plan.variant u.val (bits d 128 16) with
    | some pos => .next (s.passCmd u.val d { t with variant := s.plan.variant, pos := pos, jumpAt := 0, jumpTo := 0 })
    | none => .next s
  | none => .next s

/-- Every output tile of an Ox command has reached its bank (04 R86). -/
def State.drained (s : State) (u : Nat) (f : InFlight) : Bool :=
  f.unit != 1 || !(s.unit.tiles.any (fun x => x.ox == u && x.desc == f.desc && x.rep == f.rep))

/-- A write that a command made to HBM is still held while its page is copied, so it is not yet acknowledged (13 R323, R333, 05
R121, 12 R297). -/
def State.writesHeld (s : State) (u : Nat) (f : InFlight) : Bool :=
  s.heldWrites.any (fun h => decide (h.req = requesterOf u) &&
    f.outs.any (fun o => decide (o.1 < 2 ^ 21 * h.page + h.offset + h.data.length) && decide (2 ^ 21 * h.page + h.offset < o.1 + o.2)))

/-- The oldest command in progress of stream `u`, if its work is done: its effects have come, its tiles are in their banks, what
it sent to a queue has gone, its writes are acknowledged; with the commands after it. -/
def State.doneHead (s : State) (u : Nat) : Option (InFlight × List InFlight) :=
  match (s.stream u).flight with
  | f :: rest =>
    if f.work.isNone && s.drained u f && !(rest.isEmpty && s.outStalled u) && !s.writesHeld u f then some (f, rest) else none
  | [] => none

/-- The oldest command in progress of a stream completes (12 R297); no command completes once a fault cause is latched (16 R404,
00 R8). -/
def execCommandComplete (u : Fin 226) (w : Waits) (s : State) : Host.Outcome State Fault Refusal :=
  match checked (.commandComplete u w) s with
  | .next s =>
    if s.flt.pendingEntry then .next s
    else
      match s.doneHead u.val with
      | some (f, rest) => .next ((s.setStream u.val { s.stream u.val with flight := rest }).completeCmd u.val f w)
      | none => .next s
  | o => o

/-- The first command in progress that has used more than its budget, marked slipped. -/
def markSlip (elapsed : Nat) : List InFlight → Option (InFlight × List InFlight)
  | [] => none
  | f :: l =>
    if f.statKey.isSome && !f.slipped && decide (f.planCyc + f.slackCyc < elapsed) then
      some (f, { f with slipped := true } :: l)
    else (markSlip elapsed l).map (fun r => (r.1, f :: r.2))

/-- A command in progress has used more than PLAN_CYC + SLACK_CYC cycles: a slip event (12 R307). -/
def execSlipEvent (u : Fin 226) (elapsed : Nat) (s : State) : Host.Outcome State Fault Refusal :=
  match markSlip elapsed (s.stream u.val).flight with
  | some (f, l) => .next ((s.setStream u.val { s.stream u.val with flight := l }).slip u.val f)
  | none => .next s

/-- Stream `u` has commands in the variant it walks. -/
def State.hasCommands (s : State) (u : Nat) : Bool := decide ((s.streamTab (s.stream u).variant u).2 ≠ 0)

/-- Every stream that has commands has completed the END of repetition REPEATS - 1, and some stream has: a plan of no
commands completes no END. -/
def State.allEnded (s : State) : Bool :=
  (List.range 226).any s.hasCommands
    && (List.range 226).all (fun u => (s.stream u).flight.isEmpty && (!s.hasCommands u || decide (s.repeats ≤ (s.stream u).rep)))

/-- The plan is finished: ARMED, not primed (19 Table 19-2); a pending EVAL_RUN ends (19 R475). -/
def execPlanFinish (s : State) : Host.Outcome State Fault Refusal :=
  if s.dev.state = .running && decide (s.repeats ≠ 0) && s.plan.started && s.allEnded then
    .next ({ s.evalTimeout.setDev .armed (fromHardware 223) with dev.primed := false, plan.started := false })
  else .next s

end Sys2Proof.Machine
end

