-- ==== Sys2Proof/Machine/StepRows.lean ====
section
/-! DEFINITION. The plan's timetable (11 R275 to R277): the period's start, deadlines, health cuts, the commit decision and
what follows from it (08 R195), residency changes (10 R254 to R258), gears and marks. -/

namespace Sys2Proof.Machine

/-- PERIOD_START: at the first beat of the next repetition, once every entry of the one before has fired, the period counters
are reset, and units whose END is done begin (12 R287, R296). -/
def execPeriodStart (s : State) : Host.Outcome State Fault Refusal :=
  let n := s.plan.nextRep
  if s.planRuns && (decide (s.repeats = 0) || decide (n < s.repeats)) && decide (s.repStart n ≤ s.time.beat)
      && (!s.plan.started || decide (s.ttCount ≤ s.plan.next)) then
    let s1 : State := { s.resetPeriod n with plan.started := true, plan.repNow := n, plan.nextRep := n + 1, plan.next := 0 }
    .next ((List.range 226).foldl (fun s u =>
      let t := s.stream u
      if t.closed && s.repBegun t.rep then s.setStream u (s.openStream t) else s) s1)
  else .next s

/-! ## Deadlines -/

/-- Some command of stream `u`, in some variant, signals counter `id` (12 R308). -/
def State.signals (s : State) (u id : Nat) : Bool :=
  (List.range 16).any (fun v =>
    let tab := s.streamTab v u
    (List.range tab.2).any (fun i => decide (dSig (s.descAt (tab.1 + i)) = id)))

/-- DEADLINE entry `idx` falls short (11 R277, 12 R308, 15 R386): the counter is raised, the shortfall recorded, a late event raised
(log 143), lateness counted, MISSING set if a fenced unit signals it; a carry whose copy has not begun is abandoned. -/
def State.fallShort (s : State) (idx id t : Nat) : State :=
  let c := s.ctr id
  let short := (t + 2 ^ 32 - c.value) % 2 ^ 32
  let s0 : State :=
    { s with plan.lateEvents := s.plan.lateEvents ++ [{ entry := idx, rep := s.plan.repNow, shortfall := short }] }
  let s1 := (s0.setCtr id { c with value := t % 2 ^ 32, shortfall := (c.shortfall + short) % 2 ^ 32, late := true }).bump
    TimeCnt.lateDeadlines 1
  let s2 := if (List.range 210).any (fun u => s.unitFenced u && s.signals u id) then s1.setHealth hMissing else s1
  (s.plan.carries.filter (fun y => y.ctr == id && !y.copied && !y.drop)).foldl (fun s y => s.abandonCarry y) s2

/-- DEADLINE (11 R277). -/
def execDeadline (s : State) : Host.Outcome State Fault Refusal :=
  match s.dueKind 0x01 with
  | some (i, e) =>
    let t := s.effTarget e.ctr e.target s.plan.repNow
    .next ((if reached (s.ctr e.ctr).value t then s else s.fallShort i e.ctr t).entryDone e)
  | none => .next s

/-! ## The health cut -/

/-- The trailer that the collector writes at the cut (07 R178): header, a late map of zeros, the step tap records. -/
def State.ownTrailer (s : State) (health : Nat) : List Byte :=
  trailerHeader health s.plan.step 1 s.payloadBytes ++ List.replicate 512 0
    ++ (List.range s.selEntries).flatMap (fun x => tapBytes (s.stepTap x))

/-- HEALTH_CUT (07 R178): the word is sampled, the live word cleared, the trailer written. -/
def execHealthCut (s : State) : Host.Outcome State Fault Refusal :=
  match s.dueKind 0x02 with
  | some (_, e) =>
    let c := s.ctr e.ctr
    let short := decide (e.ctr ≠ noCtr) &&
      (!reached c.value (s.effTarget e.ctr e.target s.plan.repNow) || decide (c.shortfall ≠ 0))
    let word := s.liveHealth ||| (if short then hMissing else 0)
    let s1 : State := { s.clearCnt 0x050B (fun _ => true) with plan.health := 0, plan.healthCut := healthWord word s.plan.step }
    .next (((s1.bump HealthCnt.cuts 1).hbmWrite collector s.trlAddr (s.ownTrailer word)).entryDone e)
  | none => .next s

/-! ## Gradient formats (07 R173 to R176) -/

/-- A step tap record of the reduced trailer. -/
def State.reducedTap (s : State) (x : Nat) : List Nat :=
  let b := s.read (s.rtrAddr + 576 + 64 * x) 64
  (List.range 16).map (fun i => natIn b (4 * i) 4)

/-- Window record of selection entry `x`. -/
def State.windowRec (s : State) (x : Nat) : List Nat :=
  let b := Tab.range 0 s.plan.windows (64 * x) 64
  (List.range 16).map (fun i => natIn b (4 * i) 4)

/-- The reduced tap records added into the window records (07 R173). -/
def State.addTaps (s : State) : State :=
  (List.range s.selEntries).foldl (fun s x =>
    { s with plan.windows := Tab.put 0 s.plan.windows (64 * x) (tapBytes (tapJoin (s.windowRec x) (s.reducedTap x))) }) s

/-- Where the usage vector of router `r` lies in a trailer (15 R387). -/
def State.usageAt (s : State) (r : Nat) : Nat :=
  576 + 64 * s.selEntries + (List.range r).foldl (fun a q => a + 4 * (s.router q).e) 0

/-- The reduced usage vectors added into the usage windows by saturating addition (10 R254). -/
def State.addUsage (s : State) : State :=
  (List.range s.routers).foldl (fun s r =>
    let rt := s.router r
    let sum := (List.range rt.e).flatMap (fun e =>
      natLe 4 (sat32 (s.readNat (rt.usageWin + 4 * e) 4 + s.readNat (s.rtrAddr + s.usageAt r + 4 * e) 4)))
    s.hbmWrite collector rt.usageWin sum) s

/-- The lowest bin kept: the first whose running count exceeds `lim`; 11 if none does (07 R175). -/
def lowBin (lim : Nat) : Nat → Nat → List Nat → Nat
  | _, _, [] => 11
  | b, cum, n :: l => if lim < cum + n then b else lowBin lim (b + 1) (cum + n) l

/-- choose (07 R175). -/
def chooseCode (w : List Nat) (ent prev : Nat) : Nat :=
  let nz := w.getD 1 0 - w.getD 2 0
  if bit ent 26 then bits ent 24 2
  else if nz = 0 then prev
  else if 0 < w.getD 3 0 then 2
  else
    let hi := ((ofF32 (BitVec.ofNat 32 (w.getD 0 0))).log2).getD 0
    let b := lowBin (nz >>> bits ent 16 5) 0 0 (w.drop 4)
    let lo : Int := if b = 0 then -128 else 4 * (b : Int) - 24
    if hi - lo ≤ signed 8 (bits ent 0 8) then 0
    else if hi - lo ≤ signed 8 (bits ent 8 8) then 1
    else 2

/-- Every selection entry evaluated; each code that changes is logged and counted (07 R175, R176). -/
def State.chooseCodes (s : State) : State :=
  (List.range s.selEntries).foldl (fun s x =>
    let old := s.selCode x
    let new := chooseCode (s.windowRec x) (s.selEntry x) old
    if new = old then s
    else
      (({ s with plan.sel := Tab.set 0 s.plan.sel x new } : State).bump HealthCnt.formatChanges 1).log (s.dog 5) 0x0022
        (0x1000 + x) old new) s

/-- The work of a regear boundary (12 R290): the ceilings become the variant, the codes are chosen, the windows start empty, the
new variant's images are loaded. -/
def State.regear (s : State) : State :=
  let v := s.ceilingVariant
  let old := s.plan.variant
  let s1 : State := { s with plan.variant := v }
  let s2 := if v = old then s1 else (s1.bump PlanCnt.variantSwitches 1).log (s.dog 5) 0x0022 0x2000 old v
  let s3 : State := { s2.chooseCodes with plan.windows := [] }
  s3.loadVariantImages v

/-! ## Residency boundaries (10 R254 to R257) -/

/-- Address of a map's version, after the last entry (10 R234). -/
def Router.versionAddr (rt : Router) : Nat := rt.mapAddr + 2 * rt.e

/-- The current residency map. -/
def State.resMap (s : State) (rt : Router) : List ResEntry :=
  (List.range rt.e).map (fun e => resEntry (s.readNat (rt.mapAddr + 2 * e) 2))

/-- The index that an empty slot counts as (10 R255). -/
def Router.emptyIndex (rt : Router) (m sl : Nat) : Nat := rt.e + (m * rt.s + sl)

/-- decide (10 R255): swaps of a non-resident expert for a resident one or an empty slot, which are filled first. -/
def decideSwaps (rt : Router) (w : Nat → Nat) (res : List ResEntry) : List Swap :=
  let at_ := fun e => res.getD e { member := 0, slot := 0, res := false }
  let ins := sortBy (fun a b => decide (w b < w a) || (decide (w a = w b) && decide (a ≤ b)))
    ((List.range rt.e).filter (fun e => !(at_ e).res))
  let outs := sortBy (fun a b => decide (w a < w b) || (decide (w a = w b) && decide (a ≤ b)))
    ((List.range rt.e).filter (fun e => (at_ e).res))
  let taken := fun m sl => res.any (fun x => x.res && x.member == m && x.slot == sl)
  let empty := (List.range rt.g).flatMap (fun m => ((List.range rt.s).filter (fun sl => !taken m sl)).map (fun sl =>
    { member := m, slot := sl, out := rt.emptyIndex m sl, inn := 0 : Swap }))
  let places := empty ++ outs.map (fun e => { member := (at_ e).member, slot := (at_ e).slot, out := e, inn := 0 : Swap })
  let weight := fun e => if e < rt.e then w e else 0
  ((ins.zip places).take rt.maxSwaps).takeWhile (fun x =>
    decide ((16 + rt.hyst) * weight x.2.out < 16 * w x.1)) |>.map (fun x => { x.2 with inn := x.1 })

/-- The new map: each swap's incoming expert takes the outgoing one's place; the version rises by one (10 R255). -/
def newMap (rt : Router) (words : List Nat) (version : Nat) (swaps : List Swap) : List Byte :=
  let l := swaps.foldl (fun l x =>
    let l1 := if x.out < rt.e then l.set x.out (bits (l.getD x.out 0) 0 15) else l
    l1.set x.inn (fields [(0, x.member), (8, x.slot), (15, 1)])) words
  l.flatMap (natLe 2) ++ natLe 4 ((version + 1) % 2 ^ 32)

/-- The entries of the timetable from the next one on, through the next two repetitions: repetition, index, entry. -/
def State.ahead (s : State) : List (Nat × Nat × Entry) :=
  let es := s.entries
  (es.drop s.plan.next).map (fun x => (s.plan.repNow, x.1, x.2))
    ++ es.map (fun x => (s.plan.repNow + 1, x.1, x.2)) ++ es.map (fun x => (s.plan.repNow + 2, x.1, x.2))

/-- The update-close entry of the commit in hand and what follows it (08 R197). -/
def State.fromClose (s : State) : List (Nat × Nat × Entry) := s.ahead.dropWhile (fun x => decide (x.2.2.kind ≠ 4))

/-- Where paging may start: the update-close entry, or the boundary's checkpoint if it has one before its residency-ready
entry (10 R257). -/
def State.pagingStart (s : State) : Nat × Nat :=
  match s.fromClose with
  | x :: l =>
    match l.find? (fun y => decide (y.2.2.kind = 3) || decide (y.2.2.kind = 5) || decide (y.2.2.kind = 6)) with
    | some y => if y.2.2.kind = 5 then (y.1, y.2.1) else (x.1, x.2.1)
    | none => (x.1, x.2.1)
  | [] => (s.plan.repNow, s.plan.next)

/-- A residency boundary of router `r`: the swaps decided, the window at 0, the pager's work set (10 R254, R255). -/
def State.residency (s : State) (r : Nat) : State :=
  let rt := s.router r
  let w := fun e => s.readNat (rt.usageWin + 4 * e) 4
  let swaps := decideSwaps rt w (s.resMap rt)
  let words := (List.range rt.e).map (fun e => s.readNat (rt.mapAddr + 2 * e) 2)
  let me := s.ownMember rt
  let at_ := s.pagingStart
  let p : Paging :=
    { router := r, startRep := at_.1, startIdx := at_.2, started := false, adopted := false,
      map := newMap rt words (s.readNat rt.versionAddr 4) swaps, decided := swaps, swaps := swaps.filter (fun x => decide (some x.member = me)) }
  { s.hbmWrite collector rt.usageWin (List.replicate (4 * rt.e) 0) with unit.paging := s.unit.paging ++ [p] }

/-- This commit is a residency boundary of some router (10 R254). -/
def State.residencyDue (s : State) : Bool :=
  (List.range s.routers).any (fun r => decide ((s.router r).qRes ≠ 0) && decide (s.plan.step % (s.router r).qRes = 0))

/-- Every router whose residency boundary this commit is. -/
def State.residencies (s : State) : State :=
  (List.range s.routers).foldl (fun s r =>
    let q := (s.router r).qRes
    if q ≠ 0 ∧ s.plan.step % q = 0 then s.residency r else s) s

/-! ## The commit decision (08 R195) -/

/-- The step record (12 Table 12-11). -/
def State.writeStepRecord (s : State) (step variant : Nat) : State :=
  let lateMap := s.read (s.rtrAddr + 64) 512
  let late := (lateMap.map (fun b => ((List.range 8).filter (fun i => bit b.toNat i)).length)).foldl (· + ·) 0
  let head := natLe 128 (fields [(0, mod64 step), (64, mod64 s.time.beat), (128, s.plan.healthRed), (192, s.plan.decision % 4),
    (194, variant % 16), (224, sat32 late), (256, sat32 s.plan.carriedNow), (288, sat32 s.plan.droppedNow),
    (320, sat32 s.plan.slipsNow)])
  let a := s.planHdr 320 48 + 1024 * (s.plan.decisions % 1024)
  let s1 := s.hbmWrite collector a (fit 0 1024 (head ++ lateMap))
  { s1 with plan.decisions := s.plan.decisions + 1, plan.carriedNow := 0, plan.droppedNow := 0, plan.slipsNow := 0 }

/-- Under SUPPRESS every carry of the step is emptied and counted as dropped (12 R310). -/
def State.emptyCarries (s : State) : State :=
  let mine := fun (y : Carry) => !y.drop && y.step == s.plan.step
  (s.plan.carries.filter mine).foldl (fun s y => s.dropLate y.trailer)
    { s with plan.carries := s.plan.carries.filter (fun y => !mine y) }

/-- A GO or SUPPRESS decision on the reduced health word `red` carried out (08 R195 steps 1 to 4). The collector makes step 1;
steps 2 to 4 are Sheepdog 5's work and the swaps of a residency boundary Sheepdog 2's (10 R255): a role that moves misses them (16 R406). -/
def State.decideStep (s : State) (red : Nat) : State :=
  let n := s.plan.step
  let variant := s.plan.variant
  let go := decide (red % 16 = 0)
  let s1 : State :=
    { s with
      plan.decision := if go then 1 else 2
      plan.dstep := n % 2 ^ 40
      plan.dbeat := s.time.beat
      plan.healthRed := healthWord red n
      plan.step := if go then mod64 (n + 1) else n
      plan.trailer := none }
  if s.roleMoving 5 then s1.missWork 5
  else
  let s2 :=
    if go then s1.addTaps.addUsage.smGo
    else (((s1.bump HealthCnt.suppressed 1).log (s.dog 5) 0x0022 0 0 s1.plan.healthRed).emptyCarries).smSuppress
      s1.plan.healthRed
  let s3 := (s2.writeStepRecord n variant).applySignal s.gateCtr 1 (some s.plan.repNow)
  let s4 := if go && decide (s.fmtInterval ≠ 0) && decide (s3.plan.step % s.fmtInterval = 0) then s3.regear else s3
  let s5 := if !go then s4 else if s.roleMoving 2 && s4.residencyDue then s4.missWork 2 else s4.residencies
  s5.applySignal s.regearCtr 1 (some s.plan.repNow)

/-- COMMIT (08 R195): GO or SUPPRESS with the reduced word, HELD without it. -/
def execCommit (s : State) : Host.Outcome State Fault Refusal :=
  match s.dueKind 0x03 with
  | some (_, e) =>
    let close := s.fromClose.head?.map (fun x => s.repStart x.1 + x.2.2.offset)
    let s0 : State := { s with plan.updateClose := close }
    match s.plan.trailer with
    | some red => .next ((s0.decideStep red).entryDone e)
    | none =>
      let s1 : State := { s0 with plan.decision := 3, plan.dstep := s.plan.step % 2 ^ 40, plan.dbeat := s.time.beat }
      .next (s1.entryDone e)
  | none => .next s

/-- The collector works: a plan is loaded, no fault cause is latched, and the module is neither FAULTED nor HALTED (16 R404, R415, 00
R8). -/
def State.collects (s : State) : Bool :=
  s.plan.loaded && !s.flt.pendingEntry && (decide (s.dev.state = .armed) || decide (s.dev.state = .running) || decide (s.dev.state = .held))

/-- REDUCED_TRAILER_RX (15 R389, 16 R415): RTR_CTR has advanced, and the collector reads the trailer header at RTR_ADDR; a HELD
decision is resolved. -/
def execReducedTrailerRx (s : State) : Host.Outcome State Fault Refusal :=
  let v := (s.ctr s.rtrCtr).value
  if s.collects && decide (s.rtrCtr ≠ noCtr) && decide (v ≠ s.plan.rtrSeen) then
    let t := s.read s.rtrAddr 64
    let s1 : State := { s.hbmNoteRead collector s.rtrAddr 64 with plan.rtrSeen := v }
    if trStep t = s.plan.step % 2 ^ 16 then
      if s.plan.decision = 3 then .next ((s1.decideStep (trHealth t)).bump FaultCnt.heldResolved 1)
      else .next { s1 with plan.trailer := some (trHealth t) }
    else .next (s1.bump HealthCnt.staleTrailers 1)
  else .next s

/-- A gated command is in progress. -/
def State.gatedRuns (s : State) : Bool := s.unit.streams.any (fun e => e.2.flight.any (fun f => f.gated))

/-- UPDATE_CLOSE (16 R415): a HELD decision not resolved by it, or a gated command still in progress, faults the module. -/
def execUpdateClose (s : State) : Host.Outcome State Fault Refusal :=
  match s.dueKind 0x04 with
  | some (_, e) =>
    let bad := decide (s.plan.updateClose ≠ none) && (decide (s.plan.decision = 3) || s.gatedRuns)
    let s1 := if bad then s.raiseCause 0x0B s.plan.dstep else s
    .next (({ s1 with plan.updateClose := none } : State).entryDone e)
  | none => .next s

/-! ## Paging -/

/-- RESIDENCY_READY (10 R258): a move not completed, or a map not adopted, by it faults the module. -/
def execResidencyReady (s : State) : Host.Outcome State Fault Refusal :=
  match s.dueKind 0x06 with
  | some (_, e) =>
    let s1 := match s.unit.paging with
      | p :: _ => s.raiseCause 0x06 p.router
      | [] => s
    .next (s1.entryDone e)
  | none => .next s

/-- Version of a map's bytes. -/
def mapVersion (map : List Byte) : Nat := natIn map (map.length - 4) 4

/-- The pager's work that is done leaves the list. -/
def State.prunePaging (s : State) : State :=
  { s with unit.paging := s.unit.paging.filter (fun p => !(p.adopted && p.swaps.isEmpty)) }

/-- What the log hashes of a map adoption, old and new: the version, and after the new one each swap as the incoming and the
outgoing expert (10 R258, 22 R537; log 142). -/
def swapBytes (version : Nat) (swaps : List Swap) : List Byte :=
  natLe 4 version ++ swaps.flatMap (fun x => natLe 2 x.inn ++ natLe 2 x.out)

/-- The new map of router `r` is adopted, counted and logged (10 R255, R258). -/
def State.adoptMap (s : State) (r : Nat) : State :=
  match s.unit.paging.find? (fun p => decide (p.router = r)) with
  | none => s
  | some p =>
    let rt := s.router r
    let s1 := (s.hbmWrite 220 rt.mapAddr p.map).bump ExpModCnt.mapAdoptions 1
    let s2 := s1.logHash (s.dog 2) 0x0042 r (swapBytes (s.readNat rt.versionAddr 4) []) (swapBytes (mapVersion p.map) p.decided)
    { s2 with unit.paging := s2.unit.paging.map (fun q => if q.router = r then { q with adopted := true } else q) }

/-- A pager message to another module: KIND 8 on lane 6 (15 Tables 15-2, 15-3), for the location that its header names. -/
def State.sendPager (s : State) (dst addr : Nat) (data : List Byte) : State :=
  match s.hopHere s.fabricAddr dst with
  | some h => s.sendMsg h.port h.cls
      { lane := 6, kind := 8, dst := dst, src := s.fabricAddr, sigId := noCtr, sigInc := 0, addr := addr, num := 0, space := 0,
        data := data }
  | none => s

/-- The lead sends the new map and its SHA-384 digest to every other member over lane 6 (10 R255; the order of the router, the
digest and the map in the message is the model's: log 142) and adopts it. -/
def State.leadMap (s : State) (p : Paging) : State :=
  let rt := s.router p.router
  if s.ownMember rt = some 0 then
    ((List.range rt.g).foldl (fun s g =>
      let id := s.memberOf rt g
      if id = s.ownId then s
      else (s.emit (.residencyMap id p.router (mapVersion p.map) p.map)).sendPager id 0 (natLe 1 p.router ++ sha384 p.map ++ p.map))
      s).adoptMap p.router
  else s

/-- PAGING_START (10 R257): once the update-close entry, and the boundary's checkpoint if it has one, have fired. -/
def execPagingStart (s : State) : Host.Outcome State Fault Refusal :=
  match s.unit.paging.find? (fun p => !p.started
      && (decide (p.startRep < s.plan.repNow) || (decide (p.startRep = s.plan.repNow) && decide (p.startIdx < s.plan.next)))) with
  | some p =>
    if s.collects && decide (s.plan.updateClose = none) then
      let s1 : State :=
        { s with unit.paging := s.unit.paging.map (fun q => if q.router = p.router then { q with started := true } else q) }
      .next (s1.leadMap p).prunePaging
    else .next s
  | none => .next s

/-- RESIDENCY_MAP_RX (10 R255): a member whose own digest agrees adopts the map; another faults. -/
def execResidencyMapRx (router : Fin 256) (version : Nat) (digest mapBytes : List Byte) (s : State) :
    Host.Outcome State Fault Refusal :=
  match checked (.residencyMapRx router version digest mapBytes) s with
  | .next s =>
    match s.unit.paging.find? (fun p => decide (p.router = router.val) && !p.adopted) with
    | some p =>
      if s.collects then
        if sha384 p.map = digest then .next (s.adoptMap router.val).prunePaging
        else .next ((s.bump ExpModCnt.mapMismatch 1).raiseCause 0x07 router.val)
      else .next s
    | none => .next s
  | o => o

/-- Module and page that hold page `j` of cold expert `e` (10 R256), or its host address. -/
inductive ColdPlace
  | ring (id page : Nat)
  | host (addr : Nat)
deriving DecidableEq, Repr

/-- Where page `j` of expert `e`'s cold image lies. -/
def State.coldPlace (s : State) (rt : Router) (e j : Nat) : ColdPlace :=
  if e < rt.hostFrom then
    let i := e * rt.imgPages + j
    let n := Nat.max 1 (s.ringOf rt.coldDim)
    let lead := s.memberOf rt 0
    let base := ((s.regions.find? (fun r => decide (r.2.kind = 7))).map (fun r => r.2.base)).getD 0
    .ring (setCoord lead rt.coldDim ((coord lead rt.coldDim + i % n) % n)) (base + rt.coldOff + i / n)
  else .host ((rt.hostBase + (e - rt.hostFrom) * rt.imgPages + j) * 2 ^ 21)

/-- One page written to a cold-pool location: here, on another module over lane 6, or in host memory (10 R256). -/
def State.coldWrite (s : State) (place : ColdPlace) (data : List Byte) : State :=
  match place with
  | .ring id page => if id = s.ownId then s.hbmWrite 220 (page * 2 ^ 21) data else s.sendPager id (page * 2 ^ 21) data
  | .host a => s.emit (.hostWrite s.host.steward a data)

/-- One page read from a cold-pool location: another module is asked for it over lane 6 with a message of no bytes (log 142), the
host by a read; what they hold is not this module's to know (log 5). -/
def State.coldRead (s : State) (place : ColdPlace) : List Byte × State :=
  match place with
  | .ring id page =>
    if id = s.ownId then (s.hbmBytes (page * 2 ^ 21) (2 ^ 21), s.hbmNoteRead 220 (page * 2 ^ 21) (2 ^ 21))
    else (s.drawBytes (2 ^ 21)).map (fun l => l) (fun s1 => s1.sendPager id (page * 2 ^ 21) [])
  | .host a => (s.drawBytes (2 ^ 21)).map id (fun s1 => s1.emit (.hostRead s.host.steward a (2 ^ 21)))

/-- Address of page `j` of a swap's slot. -/
def Router.slotPage (rt : Router) (x : Swap) (j : Nat) : Nat := rt.slotBase + (rt.imgPages * x.slot + j) * 2 ^ 21

/-- A swap moved (10 R256): the outgoing image is written back, then the incoming one read into the slot. -/
def State.moveSwap (s : State) (rt : Router) (x : Swap) : State :=
  let s1 :=
    if x.out < rt.e then
      ((List.range rt.imgPages).foldl (fun s j =>
        (s.coldWrite (s.coldPlace rt x.out j) (s.hbmBytes (rt.slotPage x j) (2 ^ 21))).hbmNoteRead 220 (rt.slotPage x j) (2 ^ 21))
        s).bump ExpModCnt.pageBytesOut (rt.imgPages * 2 ^ 21)
    else s
  let s2 := (List.range rt.imgPages).foldl (fun s j =>
    let d := s.coldRead (s.coldPlace rt x.inn j)
    d.2.hbmWrite 220 (rt.slotPage x j) d.1) s1
  (s2.bump ExpModCnt.pageBytesIn (rt.imgPages * 2 ^ 21)).bump ExpModCnt.swaps 1

/-- The cold-pool places of a swap: those written back to, then those read. -/
def State.swapPlaces (s : State) (rt : Router) (x : Swap) : List ColdPlace :=
  (if x.out < rt.e then (List.range rt.imgPages).map (s.coldPlace rt x.out) else [])
    ++ (List.range rt.imgPages).map (s.coldPlace rt x.inn)

/-- A module that holds a page of the swap cannot be reached: no route leads to it. -/
def State.cutOff (s : State) (place : ColdPlace) : Bool :=
  match place with
  | .ring id _ => decide (id ≠ s.ownId) && (s.hopHere s.fabricAddr id).isNone
  | .host _ => false

/-- Pages of this module that a swap reads: the slot that is written back, the cold-pool pages that lie here. -/
def State.swapReads (s : State) (rt : Router) (x : Swap) : List Nat :=
  (if x.out < rt.e then (List.range rt.imgPages).map (rt.slotPage x) else [])
    ++ (List.range rt.imgPages).filterMap (fun j => match s.coldPlace rt x.inn j with
      | .ring id page => if id = s.ownId then some (page * 2 ^ 21) else none
      | .host _ => none)

/-- A line of the page at `a` holds an uncorrectable error (13 R318). -/
def State.pageUe (s : State) (a : Nat) : Bool :=
  s.lineErr.any (fun e => decide (a / 64 ≤ e.1) && decide (e.1 < a / 64 + 2 ^ 15) && decide (e.2 = 2))

/-- A swap that can be moved is moved; one that meets an uncorrectable line, or a module that is not to be reached, faults the
module (10 R258). -/
def State.tryMove (s : State) (router : Nat) (x : Swap) : State :=
  let rt := s.router router
  match (s.swapReads rt x).find? s.pageUe with
  | some a => (s.hbmNoteRead 220 a (2 ^ 21)).raiseCause 0x05 (pageOf a)
  | none => if (s.swapPlaces rt x).any s.cutOff then s.raiseCause 0x06 router else s.moveSwap rt x

/-- PAGER_MOVE_DONE: the pager's first move in progress ends; an uncorrectable error on the way, or a fenced peer, faults the module
(10 R258). -/
def execPagerMoveDone (r : MoveResult) (s : State) : Host.Outcome State Fault Refusal :=
  match s.unit.paging.find? (fun p => p.started && !p.swaps.isEmpty) with
  | some p =>
    match p.swaps with
    | x :: rest =>
      if s.collects then
        let page := pageOf (s.router p.router).slotBase + (s.router p.router).imgPages * x.slot
        if r.fencedPeer then .next (s.raiseCause 0x06 p.router)
        else
          match r.ecc with
          | .uncorrectable => .next ((s.eccUe (page * 2 ^ 15) true).raiseCause 0x05 page)
          | o =>
            let s2 := s.tryMove p.router x
            if s2.flt.pendingEntry then .next s2
            else
              let s3 : State :=
                { s2 with unit.paging := s2.unit.paging.map (fun q => if q = p then { q with swaps := rest } else q) }
              .next (if o = .corrected then s3.prunePaging.bump MemCnt.eccCe 1 else s3.prunePaging)
      else .next s
    | [] => .next s
  | none => .next s

/-! ## Gears and marks -/

/-- GEAR: the entry's request for each half that ARG names (20 R488). -/
def execGear (s : State) : Host.Outcome State Fault Refusal :=
  match s.dueKind 0x07 with
  | some (_, e) =>
    let g := e.arg % 4
    let one := fun (s : State) h => if bit e.arg (2 + h) then s.setHalf h { s.half h with req := g } else s
    .next ((one (one s 0) 1).applyGears.entryDone e)
  | none => .next s

/-- MARK: the signal only. -/
def execMark (s : State) : Host.Outcome State Fault Refusal :=
  match s.dueKind 0x0A with
  | some (_, e) => .next (s.entryDone e)
  | none => .next s

end Sys2Proof.Machine
end

