-- ==== Sys2Proof/Machine/CkptRows.lean ====
section
/-! DEFINITION. Checkpoints, snapshots, rollback and restore (17), on the timetable, on the ports and from the mailboxes. -/

namespace Sys2Proof.Machine

/-! ## A checkpoint takes effect -/

/-- The kinds that a checkpoint write-protects (13 Table 13-3). -/
def protectedKind (k : Nat) : Bool := decide (k = 1) || decide (k = 6) || decide (k = 7)

/-- The stream set (17 R422) and whether it holds every kind-7 page. -/
def State.streamSet (s : State) : List Nat × Bool :=
  let full := !s.ck.firstDone || s.ck.coldFull
  let cold := (s.pagesOfKind (fun k => decide (k = 7))).filter (fun p => full || (s.pteOf p).copied)
  (sortBy (fun a b => decide (a ≤ b)) (s.pagesOfKind (fun k => decide (k = 1) || decide (k = 6)) ++ cold), full)

/-- The writes that a copy in progress holds are part of the checkpoint: they reach their pages (13 R322). -/
def State.releaseHeld (s : State) : State :=
  (s.heldWrites.foldl (fun (s : State) h => s.lineWrite h.req (h.page * 2 ^ 21 + h.offset) h.data) { s with heldWrites := [] }).settleAcks

/-- WP set and COPIED cleared on every page of kinds 1, 6 and 7, every stack's shadow pointer reset (13 R322). -/
def State.protect (s : State) : State :=
  { (s.pagesOfKind protectedKind).foldl (fun s p => s.setPte p { s.pteOf p with wp := true, copied := false }) s with
    shadowNext := [] }

/-- Checkpoint `id` takes effect (17 R421, R422, 13 R322): an open snapshot is abandoned, the stream set fixed, the device block
captured, pages protected; lists and policy as they stand are the ones it uses (17 R427, R431). -/
def State.ckptEffect (s : State) (id : Nat) : State :=
  let set := s.streamSet
  let s1 := if s.ck.snapOpen then s.bump CkptCnt.snapsAbandoned 1 else s
  let dev := s.deviceBlock
  let s2 := s1.releaseHeld.protect
  let s3 : State :=
    { s2 with
      ck.state := if s2.ck.stream then 1 else 3
      ck.poisoned := false
      ck.snapOpen := false
      ck.failCode := 0
      ck.lastEffective := id
      ck.step := s2.plan.step
      ck.bytes := 0
      ck.coldFull := false
      ck.openTargets := s2.ck.targets
      ck.openEvery := s2.ck.snapEvery
      ck.openKinds := s2.ck.snapKinds
      ck.streamSet := set.1
      ck.fullCold := set.2
      ck.started := false
      ck.device := dev
      ck.firstDone := true }
  (s3.bump CkptCnt.effective 1).raiseBoth 17

/-- Why a checkpoint may not take effect: 1 not enabled, 2 frozen, 3 a stream open; 0 if it may (17 R421). -/
def State.ckptBar (s : State) : Nat :=
  if !s.ck.enable then 1 else if s.flt.frozen then 2 else if s.ck.state = 1 then 3 else 0

/-- A CHECKPOINT entry or CKPT_NOW that does not take effect: counted and logged with its reason (17 R421). -/
def State.ckptSkip (s : State) (id why : Nat) (origin : Nat × Nat) : State :=
  (s.bump CkptCnt.skipped 1).log origin 0x0030 1 id why

/-- CHECKPOINT (17 R421): named by its beat; one that fires while frozen is counted so (16 R420). -/
def execCheckpoint (s : State) : Host.Outcome State Fault Refusal :=
  match s.dueKind 0x05 with
  | some (i, e) =>
    let id := s.entryBeat e
    let why := s.ckptBar
    let s1 := if s.flt.frozen then s.bump FaultCnt.frozenCkpts 1 else s
    .next ((if why ≠ 0 then s1.ckptSkip id why (fromPlan i) else if s.roleMoving 2 then s1.missWork 2 else s1.ckptEffect id).entryDone e)
  | none => .next s

/-! ## Streams -/

/-- The pages of the open checkpoint that a port carries. -/
def State.ckptPages (s : State) (p : Nat) : List Nat := portPages p s.ck.streamSet

/-- A port's list holds its port stream (17 R428). -/
def State.listHolds (s : State) (p list n : Nat) : Bool :=
  decide (streamLength n ≤ targetsLen (targetList s.ck.openTargets p list))

/-- CKPT_STREAM_START (17 R428): both ports start to write, or the checkpoint fails with NO_SPACE; how much is written at any
moment before the end the spec does not fix. -/
def execCkptStreamStart (s : State) : Host.Outcome State Fault Refusal :=
  if s.ck.state = 1 && !s.ck.started then
    let a := (s.ckptPages 0).length
    let b := (s.ckptPages 1).length
    if s.listHolds 0 0 a && s.listHolds 1 0 b then
      let d := s.drawNat
      .next { d.2 with ck.started := true, ck.bytes := d.1 % (streamLength a + streamLength b + 1) }
    else .next (s.failStream 1)
  else .next s

/-- One port's whole stream written, with its closing reads (17 R425, R428, R429); the CRC-64 of its trailer bytes. -/
def State.shipWhole (s : State) (p list : Nat) (full : Bool) (pages : List Nat) : State × Nat :=
  let l := s.streamPieces p full pages
  let ts := targetList s.ck.openTargets p list
  let s1 := ((s.noteImages pages).shipPieces p ts l)
  ({ s1 with out := s1.out ++ closingReads p (streamLength pages.length) 0 ts },
    crc64 (streamTrailer s.ck.lastEffective (pages.map s.pageImage)))

/-- CKPT_CLOSE (17 R429, R432): every closing read has completed; a due snapshot opens. -/
def execCkptClose (s : State) : Host.Outcome State Fault Refusal :=
  if s.ck.state = 1 && s.ck.started then
    let pa := s.ckptPages 0
    let pb := s.ckptPages 1
    let (s1, ca) := s.shipWhole 0 0 s.ck.fullCold pa
    let (s2, cb) := s1.shipWhole 1 0 s.ck.fullCold pb
    let n := s2.ck.closedCount + 1
    let s3 : State :=
      { s2 with
        ck.state := 2
        ck.started := false
        ck.lastClosed := s2.ck.lastEffective
        ck.closedCount := n
        ck.bytes := streamLength pa.length + streamLength pb.length
        ck.snapOpen := decide (s2.ck.openEvery ≠ 0) && decide (n % s2.ck.openEvery = 0) }
    .next (((s3.bump CkptCnt.closed 1).log (s.dog 2) 0x0030 2 (fields [(0, mod64 s3.ck.lastEffective), (64, mod64 s3.ck.step)])
      (fields [(0, ca), (64, cb)])).raiseBoth 17)
  else .next s

/-- CKPT_TARGET_ERROR (17 Table 17-6): the open stream fails. -/
def execCkptTargetError (p : Fin 2) (s : State) : Host.Outcome State Fault Refusal :=
  if s.ck.state = 1 && s.ck.started && p.val < 2 then .next (s.failStream 2) else .next s

/-- The pages of a snapshot: those of the checkpoint of SNAP_KINDS (17 R432). -/
def State.snapPages (s : State) (p : Nat) : List Nat :=
  portPages p (s.pagesOfKind (fun k => (decide (k = 1) && bit s.ck.openKinds 0) || (decide (k = 6) && bit s.ck.openKinds 1)
    || (decide (k = 7) && bit s.ck.openKinds 2)))

/-- SNAPSHOT_CLOSE (17 R432): the snapshot's image is written and its closing reads complete; lists too short take nothing. -/
def execSnapshotClose (s : State) : Host.Outcome State Fault Refusal :=
  if s.ck.snapOpen then
    let full := bit s.ck.openKinds 2
    let pa := s.snapPages 0
    let pb := s.snapPages 1
    let s2 :=
      if s.listHolds 0 1 pa.length && s.listHolds 1 1 pb.length then ((s.shipWhole 0 1 full pa).1.shipWhole 1 1 full pb).1 else s
    .next ((({ s2 with ck.snapOpen := false } : State).bump CkptCnt.snapsShipped 1).log (s.dog 2) 0x0030 3
      s2.ck.lastEffective s2.ck.step)
  else .next s

/-! ## Targets, policy, CKPT_NOW -/

/-- A target entry from its 16 bytes (17 Table 17-5), or none if its reserved bits or alignment are wrong. -/
def targetOf (w : Nat) : Option Target :=
  let a := bits w 0 64
  let l := bits w 64 48
  if a % 4096 = 0 ∧ l % 4096 = 0 then some { addr := a, len := l } else none

/-- The 16 entries of a list at `off` of a body. -/
def Command.targets (c : Command) (off : Nat) : List (Option Target) :=
  (List.range 16).map (fun i => targetOf (c.field (off + 16 * i) 16))

/-- CKPT_TARGETS (17 R427). -/
def execCkptTargets (p : Fin 2) (m : Fin 16) (s : State) : Host.Outcome State Fault Refusal :=
  s.runChanging p.val m.val 0x30 (fun _ => false) (fun c =>
    let port := c.field 0 1
    let list := c.field 1 1
    let ts := c.targets 16
    if 1 < port || 1 < list || ts.any Option.isNone then s.reject p.val m.val stBadArg 0
    else
      let key := 32 * port + 16 * list
      let s1 : State := { s with ck.targets := Tab.put Target.none s.ck.targets key (ts.map (fun t => t.getD Target.none)) }
      let old := (Tab.range Target.none s.ck.targets key 16).flatMap (fun t => natLe 8 t.addr ++ natLe 8 t.len)
      (s1.logHash (fromMailbox p.val m.val) 0x0011 (0x30 + 256 * port + 512 * list) old (c.bytes 16 256)).ok p.val m.val [])

/-- CKPT_POLICY (17 R431): a word with RATE outside 1 to 112 is refused; its reserved bits have no effect (00 R6). -/
def execCkptPolicy (p : Fin 2) (m : Fin 16) (s : State) : Host.Outcome State Fault Refusal :=
  s.runChanging p.val m.val 0x31 (fun _ => false) (fun c =>
    let w := c.field 0 8
    let rate := bits w 24 7
    if rate = 0 || 112 < rate then s.reject p.val m.val stBadArg 0
    else
      let s1 : State :=
        { s with
          ck.enable := bit w 0
          ck.stream := bit w 1
          ck.coldFull := bit w 2
          ck.snapEvery := bits w 8 8
          ck.snapKinds := bits w 16 3
          ck.rate := rate }
      (s1.log (fromMailbox p.val m.val) 0x0011 2 s.policyWord s1.policyWord).ok p.val m.val [])

/-- CKPT_NOW (17 R433): accepted, it waits for the first beat boundary at least 16 beats on. -/
def execCkptNow (p : Fin 2) (m : Fin 16) (s : State) : Host.Outcome State Fault Refusal :=
  s.runChanging p.val m.val 0x32 (fun _ => decide (s.ck.state = 1) || s.flt.frozen) (fun _ =>
    s.await p.val m.val (s.time.beat + 16) 0)

/-- CKPT_NOW_EFFECT (17 R421, R433): the checkpoint takes effect at its beat, or fires with no effect; while Sheepdog 2's role moves
its device block is missed, which faults the module (16 R406). -/
def execCkptNowEffect (s : State) : Host.Outcome State Fault Refusal :=
  match s.dueCmd 0x32 with
  | some (q, _) =>
    let why := s.ckptBar
    let o := fromMailbox q.port q.mbox
    if why = 0 && s.roleMoving 2 then .next ((s.missWork 2).makeRecord q.port q.mbox stFaulted 0 [])
    else if why = 0 then
      .next (((s.ckptEffect q.waitBeat).log o 0x0030 5 0 q.waitBeat).ok q.port q.mbox [])
    else .next ((s.ckptSkip q.waitBeat why o).makeRecord q.port q.mbox stWrongState 0 [])
  | none => .next s

/-! ## Rollback -/

/-- Every shadow copy goes back to its live page, then WP and COPIED are cleared on every page (17 R434 step 2); writes still held
for a copy are given up with the state they belong to. -/
def State.copyBack (s : State) : State :=
  let copied := (s.pagesOfKind protectedKind).filter (fun p => (s.pteOf p).copied)
  let s1 := copied.foldl (fun (s' : State) p =>
    let from_ := (s'.pteOf p).shadow * 2 ^ 21
    { s' with
      mem := Tab.graft s'.mem s'.mem from_ (p * 2 ^ 21) (2 ^ 21)
      lineErr := Tab.graft s'.lineErr s'.lineErr (from_ / 64) (p * 2 ^ 15) (2 ^ 15) }) s
  { s1 with pte := (s1.pte.map (fun e => (e.1, { e.2 with wp := false, copied := false }))).filter (fun e => decide (e.2 ≠ Pte.idle)),
            heldWrites := [], fab.unacked := [] }

/-- ROLLBACK (17 R434). -/
def execRollback (p : Fin 2) (m : Fin 16) (s : State) : Host.Outcome State Fault Refusal :=
  s.runChanging p.val m.val 0x34 (fun _ => false) (fun c =>
    let id := c.field 0 8
    if id ≠ s.ck.lastEffective || s.ck.state = 0 then s.reject p.val m.val stBadArg 0
    else
      let o := fromMailbox p.val m.val
      let s1 := (s.abandonStream.clearFrozen o).copyBack
      let s2 := (s1.returnTo s1.ck.device).bump CkptCnt.rollbacks 1
      let s3 := s2.log o 0x0031 0 id s2.plan.step
      (s3.setDev .armed o).ok p.val m.val [])

/-! ## Restore -/

/-- The bytes of a source list: its entries' ranges of host memory, one after another. -/
def sourceBytes (host : Tab Byte) (ts : List Target) (off n : Nat) : List Byte :=
  (List.range n).map (fun i => (go (off + i) ts).getD 0)
where
  go (b : Nat) : List Target → Option Byte
    | [] => none
    | t :: l => if b < t.len then some (Tab.get 0 host (t.addr + b)) else go (b - t.len) l

/-- A source list up to its end. -/
def listUpTo (ts : List (Option Target)) : List Target := (ts.map (fun t => t.getD Target.none)).takeWhile (fun t => decide (t.len ≠ 0))

/-- The pages that a port stream's index names. -/
def indexPages (host : Tab Byte) (ts : List Target) (n : Nat) : List Nat :=
  (List.range n).map (fun i => bits (leNat (sourceBytes host ts (0x1000 + 4 * i) 4)) 0 18)

/-- What R436 checks of port `p`'s sources for checkpoint `id`. -/
def State.sourceOk (s : State) (p id : Nat) (host : Tab Byte) (ts cold : List Target) : Bool :=
  let hb := sourceBytes host ts 0 96
  let h := leNat hb
  let n := bits h 256 32
  let tr := leNat (sourceBytes host ts (0x200000 + n * 2 ^ 21) 64)
  let idx := indexPages host ts n
  let mine := portPages p (s.pagesOfKind (fun k => decide (k = 1) || decide (k = 6)))
  let coldPages := portPages p (s.pagesOfKind (fun k => decide (k = 7)))
  let anyCold := !(s.pagesOfKind (fun k => decide (k = 7))).isEmpty
  decide (targetsLen ts ≥ 96) && decide (bits h 0 32 = 0x4E38434B) && decide (bits h 32 16 = 1) && decide (bits h 48 1 = p)
    && decide (bits h 64 64 = id) && decide (bits h 192 12 = s.ownId % 2 ^ 12)
    && decide ((hb.drop 40).take 48 = s.plan.digest) && decide (streamLength n ≤ targetsLen ts)
    && decide (bits tr 0 32 = 0x4E385452) && decide (bits tr 96 64 = id)
    && mine.all (fun g => idx.contains g)
    && ((cold.isEmpty && !anyCold) || decide (coldPages.length * 2 ^ 21 ≤ targetsLen cold))

/-- Pages written with the bytes a source gives, whatever their write protection; the CRC-64 of each (17 R437). -/
def State.loadPages (s : State) (l : List (Nat × List Byte)) : State × List Byte :=
  (l.foldl (fun s x => s.lineWrite 218 (x.1 * 2 ^ 21) x.2) s, l.flatMap (fun x => natLe 8 (crc64 x.2)))

/-- The pages that port `p` loads: kinds 1 and 6 from the checkpoint source, then kind 7 from the cold one. -/
def State.portLoads (s : State) (p : Nat) (host : Tab Byte) (ts cold : List Target) : List (Nat × List Byte) :=
  let n := bits (leNat (sourceBytes host ts 0 96)) 256 32
  let idx := indexPages host ts n
  let warm := ((List.range n).zip idx).filter (fun x => decide (s.kindOfPage x.2 = 1) || decide (s.kindOfPage x.2 = 6))
  let coldPages := portPages p (s.pagesOfKind (fun k => decide (k = 7)))
  warm.map (fun x => (x.2, sourceBytes host ts (0x200000 + x.1 * 2 ^ 21) (2 ^ 21)))
    ++ ((List.range coldPages.length).zip coldPages).map (fun x => (x.2, sourceBytes host cold (x.1 * 2 ^ 21) (2 ^ 21)))

/-- RESTORE is permitted in HELD (16 R418), and in ARMED before any RUN_AT_BEAT since PLAN_ARM or ROLLBACK (16 R414). -/
def State.restoreMay (s : State) : Bool := !s.plan.ran || decide (s.dev.state = .held)

/-- The command's source lists: A checkpoint, A cold, B checkpoint, B cold. -/
def Command.sources (c : Command) (p : Nat) : List Target × List Target :=
  (listUpTo (c.targets (16 + 512 * p)), listUpTo (c.targets (272 + 512 * p)))

/-- Every entry of the four lists is laid out as Table 17-5 gives. -/
def Command.sourcesOk (c : Command) : Bool := [16, 272, 528, 784].all (fun o => (c.targets o).all Option.isSome)

/-- What R436 asks of a RESTORE before it writes anything. -/
def State.restoreOk (s : State) (c : Command) (hostA hostB : Tab Byte) : Bool :=
  let id := c.field 0 8
  let (ta, ca) := c.sources 0
  let (tb, cb) := c.sources 1
  c.sourcesOk && s.sourceOk 0 id hostA ta ca && s.sourceOk 1 id hostB tb cb

/-- What RESTORE does before it loads: an open stream is abandoned, FROZEN cleared (17 Table 17-6, 16 R405). -/
def State.restoreBegin (s : State) (o : Nat × Nat) : State := s.abandonStream.clearFrozen o

/-- WP and COPIED clear on every page (17 R437). -/
def State.unprotect (s : State) : State :=
  { s with pte := (s.pte.map (fun e => (e.1, { e.2 with wp := false, copied := false }))).filter (fun e => decide (e.2 ≠ Pte.idle)),
           heldWrites := [], fab.unacked := [] }

/-- RESTORE (17 R435 to R437): `hostA` and `hostB` are host memory as the ports read it. -/
def execRestore (p : Fin 2) (m : Fin 16) (hostA hostB : Tab Byte) (s : State) : Host.Outcome State Fault Refusal :=
  match checked (.restore p m hostA hostB) s with
  | .next s =>
    s.runChanging p.val m.val 0x33 (fun _ => !s.restoreMay) (fun c =>
      if !s.restoreOk c hostA hostB then s.reject p.val m.val stBadArg 0
      else
        let o := fromMailbox p.val m.val
        let id := c.field 0 8
        let (ta, ca) := c.sources 0
        let (tb, cb) := c.sources 1
        let la := s.portLoads 0 hostA ta ca
        let lb := s.portLoads 1 hostB tb cb
        let s0 := (s.restoreBegin o).unprotect
        let (s1, da) := s0.loadPages la
        let (s2, db) := s1.loadPages lb
        let dev := Tab.put 0 [] 0 (sourceBytes hostA ta 0x100000 524288)
        let s3 := s2.returnTo dev
        let s4 : State := { s3 with ck.restoreBad := false, ck.firstDone := true }
        let s5 := (s4.log o 0x0031 1 id (fields [(0, la.length), (64, crc64 da)])).log o 0x0031 2 id
          (fields [(0, lb.length), (64, crc64 db)])
        ((s5.bump CkptCnt.restores 1).setDev .armed o).ok p.val m.val [])
  | o => o

/-- RESTORE_SOURCE_ERROR (17 R437): a source read fails after `doneA` and `doneB` pages of the two ports are loaded: TIMEOUT and
RESTORE_BAD. -/
def execRestoreSourceError (p : Fin 2) (m : Fin 16) (hostA hostB : Tab Byte) (doneA doneB : Nat) (s : State) :
    Host.Outcome State Fault Refusal :=
  match checked (.restoreSourceError p m hostA hostB doneA doneB) s with
  | .next s =>
    s.runChanging p.val m.val 0x33 (fun _ => !s.restoreMay) (fun c =>
      if !s.restoreOk c hostA hostB then s.reject p.val m.val stBadArg 0
      else
        let (ta, ca) := c.sources 0
        let (tb, cb) := c.sources 1
        let la := (s.portLoads 0 hostA ta ca).take doneA
        let lb := (s.portLoads 1 hostB tb cb).take doneB
        let s0 := (s.restoreBegin (fromMailbox p.val m.val)).unprotect
        let s2 := ((s0.loadPages la).1.loadPages lb).1
        ({ s2 with ck.restoreBad := true } : State).makeRecord p.val m.val stTimeout 0 [])
  | o => o

end Sys2Proof.Machine
end

