-- ==== Sys2Proof/Machine/LogRows.lean ====
section
/-! DEFINITION. The change log's writer, the durable log, firmware images and fuses (22). -/

namespace Sys2Proof.Machine

/-- The 64 bytes of a log entry (22 Table 22-5). -/
def State.logEntry (s : State) (d : LogDetail) : List Byte :=
  natLe 64 (fields [(0, mod64 d.beat), (64, mod64 d.wall), (128, d.origin % 2 ^ 8), (136, d.originDetail % 2 ^ 24),
    (160, d.cls % 2 ^ 16), (176, d.inst % 2 ^ 16), (192, d.seq % 2 ^ 32), (224, d.form % 4),
    (240, s.trust.bootCount % 2 ^ 16), (256, d.old % 2 ^ 128), (384, d.new % 2 ^ 128)])

/-- The classes that are copied to flash (22 Table 22-7). -/
def durableClass (c : Nat) : Bool :=
  decide (c ∈ [0x0001, 0x0002, 0x0010, 0x0020, 0x0031, 0x0040, 0x0041, 0x0060, 0x0061, 0x0070, 0x0080])

/-- Device address of the HBM ring (22 R540). -/
def logRing : Nat := 0x7FFC000000

/-- Entries of the HBM ring and of the log window (22 R540). -/
def ringEntries : Nat := 1048576
def windowEntries : Nat := 16384

/-- Entry `head` is written (22 R540): into the ring, the SRAM copy and the window, the chain digest takes it in, and only then
LOG_HEAD advances; vector 18 is raised at each multiple of 4,096. -/
def State.writeLogEntry (s : State) (d : LogDetail) : State :=
  let e := s.logEntry d
  let n := s.trust.head
  let s1 := s.logRegionWrite (logRing + 64 * (n % ringEntries)) e
  let sram := s1.trust.sram ++ [e]
  let s2 : State :=
    { s1 with
        trust.details := s1.trust.details.drop 1, trust.head := n + 1, trust.chain := sha384 (s1.trust.chain ++ e),
        trust.window := Tab.put 0 s1.trust.window (64 * (n % windowEntries)) e,
        trust.sram := sram.drop (sram.length - 4096),
        trust.durableWait := if durableClass d.cls then s1.trust.durableWait ++ [e] else s1.trust.durableWait,
        trust.detailLost := if d.form = 2 then sat32 (s1.trust.detailLost + 1) else s1.trust.detailLost }
  if (n + 1) % 4096 = 0 then s2.raiseBoth 18 else s2

/-- LOG_ENTRY_WRITE: the log holder writes the next numbered entry (22 R536), except while a reset is in progress. -/
def execLogEntryWrite (s : State) : Host.Outcome State Fault Refusal :=
  match s.trust.details with
  | d :: _ => if s.dev.fwRunning then .next (s.writeLogEntry d) else .next s
  | [] => .next s

/-- DURABLE_LOG_COPY: an entry of a durable class is copied to the flash ring of 131,072 (22 R541). -/
def execDurableLogCopy (s : State) : Host.Outcome State Fault Refusal :=
  match s.trust.durableWait with
  | e :: rest =>
    if s.dev.fwRunning then
      .next { s with trust.durableWait := rest,
                     trust.durable := Tab.put 0 s.trust.durable (64 * (s.trust.durableHead % 131072)) e,
                     trust.durableHead := (s.trust.durableHead + 1) % 2 ^ 32 }
    else .next s
  | [] => .next s

/-! ## Firmware images -/

/-- The bytes in flash slot `k`: the factory image until FW_STAGE writes the slot (log 8). -/
def State.slotImage (s : State) (k : Nat) : List Byte :=
  let i := Tab.get FwImage.none s.trust.images k
  if i.length = 0 then (List.range (Config.factoryImageLength k)).map (Config.factoryImage k) else i.bytes.take i.length

/-- A field of an image's header (22 R527). -/
def imageHdr (img : List Byte) (lo w : Nat) : Nat := bits (leNat (img.take 64)) lo w

/-- BODY_LEN, SVN, KEY_SLOT and FW_VERSION of an image. -/
def imageBody (img : List Byte) : Nat := imageHdr img 160 32
def imageSvn (img : List Byte) : Nat := imageHdr img 64 64
def imageKey (img : List Byte) : Nat := imageHdr img 48 2
def imageVersion (img : List Byte) : Nat := imageHdr img 128 32

/-- The signed message of an image (22 R527). -/
def signedMessage (img : List Byte) : List Byte := img.take (0x800 + imageBody img)

/-- The anti-rollback counter: fuses blown in thermometer code, 64 for any other pattern (22 R530). -/
def State.svnCounter (s : State) : Nat :=
  let n := (s.trust.svnFuses.filter id).length
  if s.trust.svnFuses = List.replicate n true ++ List.replicate (64 - n) false then n else 64

/-- An image passes every check of 22 R528, in its order. -/
def State.imageValid (s : State) (img : List Byte) : Bool :=
  let n := 0x800 + imageBody img
  decide (imageHdr img 0 32 = 0x4E384657) && decide (imageHdr img 32 16 = 1) && decide (n + 384 + 16224 ≤ img.length)
    && decide (img.length ≤ 2 ^ 24)
    && decide (leNat (sha384 ((img.drop 0x40).take 0x1F0)) = Config.keyDigest (imageKey img))
    && !(s.trust.revoked.getD (imageKey img) false)
    && Config.rsaVerifies ((img.drop 0x40).take 384) (signedMessage img) ((img.drop n).take 384)
    && Config.slhVerifies ((img.drop 0x200).take 48) (signedMessage img) ((img.drop (n + 384)).take 16224)
    && decide (s.svnCounter ≤ imageSvn img)

/-- The physical indices of an image's repair list that name this part (22 R527). -/
def repairsOf (img : List Byte) : List Nat :=
  ((List.range (Nat.min 32 (imageHdr img 200 8))).map (fun i => (img.drop (0x240 + 16 * i)).take 16)).filterMap (fun e =>
    if leNat (e.take 8) = Config.serial.toNat then some (leNat ((e.drop 8).take 1)) else none)

/-- One revoke bit blown, logged (22 R530). -/
def State.revokeSlot (s : State) (k : Nat) : State :=
  if s.trust.revoked.getD k false then s
  else ({ s with trust.revoked := s.trust.revoked.set k true } : State).log (s.dog 6) 0x0070 (0x10 + k) 0 1

/-- FUSE_ADVANCE (22 R530): only in IDLE after start-up, while the running image has ADVANCE = 1; the counter rises to the
image's SVN and the marked slots are revoked, the running image's own excepted. -/
def execFuseAdvance (s : State) : Host.Outcome State Fault Refusal :=
  let img := s.slotImage s.dev.fwSlot
  if s.dev.state = .idle && s.dev.fwRunning && decide (s.dev.stepDone = 9) && decide (imageHdr img 192 1 = 1) then
    let old := s.svnCounter
    let new := Nat.min 64 (imageSvn img)
    let s1 : State :=
      if old < new then
        ({ s with trust.svnFuses := List.replicate new true ++ List.replicate (64 - new) false } : State).log
          (s.dog 6) 0x0070 0x01 old new
      else s
    .next (([0, 1, 2, 3].filter (fun k => bit (imageHdr img 193 4) k && decide (k ≠ imageKey img))).foldl State.revokeSlot s1)
  else .next s

end Sys2Proof.Machine
end

