-- ==== Sys2Proof/Machine/ReadRows.lean ====
section
/-! DEFINITION. Commands that enter no queue (19 R462): the reads of 19 R467 and R481, ATTEST (22 R532, R533), APERTURE_SET (18
R457). -/

namespace Sys2Proof.Machine

/-! ## IDENT and STATUS -/

/-- IDENT's reply (19 Table 19-4). -/
def State.identReply (s : State) (p : Nat) : List Byte :=
  s.identityBlock p ++ natLe 8 s.fabricCfg ++ natLe 4 s.geo.mapGen
    ++ natLe 4 (fields [(0, b2n s.plan.loaded), (1, b2n s.dev.primed), (2, b2n s.dev.enlisted)])
    ++ (if s.plan.loaded then fit 0 48 s.plan.digest else List.replicate 48 0)
    ++ natLe 8 (if s.plan.loaded then s.planHdr 256 64 else 0)

/-- IDENT (19 R467). -/
def execIdent (p : Fin 2) (m : Fin 16) (s : State) : Host.Outcome State Fault Refusal :=
  s.runReading p.val m.val 0x01 (fun s _ => s.ok p.val m.val (s.identReply p.val))

/-- Opcode of the changing command at the head of the device queue, or 0 (19 Table 19-5). -/
def State.queueOpcode (s : State) : Nat :=
  match s.host.queue with
  | q :: _ => (((s.box q.port q.mbox).queue.find? (fun c => decide (c.seq = q.seq))).map Command.opcode).getD 0
  | [] => 0

/-- The beat for which it waits, or 0. -/
def State.queueBeat (s : State) : Nat :=
  match s.host.queue with
  | q :: _ => if q.waiting then q.waitBeat else 0
  | [] => 0

/-- STATUS's reply (19 Table 19-5). -/
def State.statusReply (s : State) : List Byte :=
  s.statusBlock ++ natLe 40 s.ckptStatus ++ natLe 24 s.actStatus
    ++ (List.range 8).flatMap (fun p => natLe 8 (s.linkStatus p)) ++ natLe 8 (s.queueOpcode % 2 ^ 16) ++ natLe 8 (mod64 s.queueBeat)

/-- STATUS (19 R467). -/
def execStatus (p : Fin 2) (m : Fin 16) (s : State) : Host.Outcome State Fault Refusal :=
  s.runReading p.val m.val 0x02 (fun s _ => s.ok p.val m.val s.statusReply)

/-! ## The log and the map -/

/-- The ring holds entry `n` (22 R540). -/
def State.ringHolds (s : State) (n : Nat) : Bool := decide (n < s.trust.head) && decide (s.trust.head ≤ n + ringEntries)

/-- A device range overlaps the log region, LOG_READ's own source (19 Table 19-7). -/
def hitsLog (t : Bulk) : Bool := decide (t.space = 1) && overlaps t.addr t.len logRing (2 ^ 39 - logRing)

/-- LOG_READ (19 R481): the entries that the ring still holds; an entry that it does not hold gives NO_SPACE. -/
def execLogRead (p : Fin 2) (m : Fin 16) (s : State) : Host.Outcome State Fault Refusal :=
  s.runReading p.val m.val 0x03 (fun s c =>
    let first := c.field 0 8
    let count := c.field 8 4
    let t := c.bulk 16
    let n := Nat.min count (s.trust.head - first)
    let st := s.bulkStatus t (if s.ringHolds first then 64 * n else 0)
    if count = 0 || 2 ^ 20 < count || st = stBadArg then s.reject p.val m.val stBadArg 0
    else if hitsLog t || st = stOverlap then s.reject p.val m.val stOverlap 0
    else if !s.ringHolds first then s.reject p.val m.val stNoSpace 0
    else
      let data := (List.range n).flatMap (fun i => s.hbmBytes (logRing + 64 * ((first + i) % ringEntries)) 64)
      s.bulkReply p.val m.val t data)

/-- LOG_TAIL (19 Table 19-4): the last 62 entries of the SRAM copy, oldest first. -/
def execLogTail (p : Fin 2) (m : Fin 16) (s : State) : Host.Outcome State Fault Refusal :=
  s.runReading p.val m.val 0x04 (fun s _ => s.ok p.val m.val (s.trust.sram.drop (s.trust.sram.length - 62)).flatten)

/-- MAP_READ (02 R37, 19 R481): WRONG_STATE before the map is published. -/
def execMapRead (p : Fin 2) (m : Fin 16) (s : State) : Host.Outcome State Fault Refusal :=
  s.runReading p.val m.val 0x14 (fun s c =>
    if s.geo.published then s.bulkReply p.val m.val (c.bulk 0) (Tab.range 0 s.geo.map 0 0xC000)
    else s.reject p.val m.val stWrongState 0)

/-! ## Configuration and telemetry -/

/-- The value of a configuration object (19 R480). -/
def State.configValue (s : State) (object : Nat) : Option (List Byte) :=
  match object with
  | 1 => some (natLe 8 s.fabricCfg)
  | 2 => some (natLe 8 s.policyWord)
  | 3 => some (natLe 2 s.limitNow)
  | 4 => some (natLe 1 (fields [(0, s.ceiling 0 % 4), (2, s.ceiling 1 % 4)]))
  | 5 => some (natLe 1 (s.time.role % 4))
  | _ => none

/-- CONFIG_GET (19 R480). -/
def execConfigGet (p : Fin 2) (m : Fin 16) (s : State) : Host.Outcome State Fault Refusal :=
  s.runReading p.val m.val 0x11 (fun s c =>
    match s.configValue (c.field 0 2) with
    | some v => s.ok p.val m.val v
    | none => s.reject p.val m.val stBadArg 0)

/-- The instances that a TELEMETRY_READ names (19 R481); none for an unknown block or a range beyond it. -/
def State.telemetry (s : State) (id first count : Nat) : Option (List Byte) :=
  match blockOf id with
  | some b =>
    if first + count ≤ b.count then
      some ((List.range count).flatMap (fun i => fit 0 b.bytes (s.blockBytes b (first + i))))
    else none
  | none => none

/-- Bytes of a reply body (18 Table 18-5). -/
def replyRoom : Nat := 4024

/-- TELEMETRY_READ (19 R481): in the reply if the target is zeros, which it must fit, else through the bulk target. -/
def execTelemetryRead (p : Fin 2) (m : Fin 16) (s : State) : Host.Outcome State Fault Refusal :=
  s.runReading p.val m.val 0x62 (fun s c =>
    match s.telemetry (c.field 0 2) (c.field 4 4) (c.field 8 4) with
    | some data =>
      if c.field 16 16 ≠ 0 then s.bulkReply p.val m.val (c.bulk 16) data
      else if data.length ≤ replyRoom then s.ok p.val m.val data
      else s.reject p.val m.val stBadArg 0
    | none => s.reject p.val m.val stBadArg 0)

/-! ## ATTEST (22 R532, R533) -/

/-- The fuse state of a report (22 Table 22-3). -/
def State.fuseState (s : State) : Nat :=
  fields [(0, s.svnCounter), (7, b2n (s.trust.revoked.getD 0 false)), (8, b2n (s.trust.revoked.getD 1 false)),
    (9, b2n (s.trust.revoked.getD 2 false)), (10, b2n (s.trust.revoked.getD 3 false)), (11, b2n s.trust.debugLock),
    (12, b2n s.dev.fallback)]

/-- Bytes 0x000 to 0x3FF of a report (22 Table 22-3). -/
def State.reportBody (s : State) (nonce : List Byte) : List Byte :=
  fit 0 0x400 (natLe 4 0x4E384154 ++ natLe 4 1 ++ natLe 8 Config.serial.toNat ++ natLe 8 (mod64 s.time.beat)
    ++ natLe 8 (s.wall s.time.beat) ++ nonce ++ natLe 48 Config.bootRomDigest ++ fit 0 48 s.dev.fwDigest
    ++ (if s.plan.loaded then fit 0 48 s.plan.digest else List.replicate 48 0)
    ++ sha384 (Tab.range 0 s.geo.map 0 0xC000) ++ natLe 8 s.fuseState ++ natLe 4 s.dev.fwVersion
    ++ natLe 1 s.dev.state.code ++ natLe 3 s.host.steward ++ natLe 8 (mod64 s.trust.head) ++ fit 0 48 s.trust.chain
    ++ natLe 4 s.geo.mapGen ++ natLe 2 s.fab.modId)

/-- One certificate chain of a report: its length, the certificates, zeros. -/
def chainArea (c : Nat) : List Byte :=
  let n := Nat.min (Config.chainLength c) 16380
  fit 0 16384 (natLe 4 n ++ (List.range n).map (Config.certificateChain c))

/-- The report (22 Table 22-3). -/
def State.report (s : State) (nonce : List Byte) (salt : Nat) : List Byte :=
  let body := s.reportBody nonce
  body ++ (List.range 384).map (Config.rsaSignature body salt) ++ (List.range 16224).map (Config.slhSignature body salt)
    ++ List.replicate 32 0 ++ chainArea 0 ++ chainArea 1

/-- ATTEST (22 R532, R533): the report of the state as the command starts; its log entry is numbered just after the capture. -/
def execAttest (p : Fin 2) (m : Fin 16) (s : State) : Host.Outcome State Fault Refusal :=
  s.runReading p.val m.val 0x70 (fun s c =>
    let t := c.bulk 48
    let st := s.bulkStatus t 50432
    if st ≠ stOk then s.reject p.val m.val st 0
    else
      let nonce := c.bytes 0 48
      let data := s.report nonce s.freeIdx
      let s1 : State := { s with freeIdx := s.freeIdx + 1 }
      (s1.logForm 1 (fromMailbox p.val m.val) 0x0071 0 0 (digest128 (sha384 nonce))).bulkReply p.val m.val t data)

/-! ## APERTURE_SET (18 R457) -/

/-- APERTURE_SET: the issuing port's base in GiB, 0 to 448. -/
def execApertureSet (p : Fin 2) (m : Fin 16) (s : State) : Host.Outcome State Fault Refusal :=
  s.runReading p.val m.val 0x13 (fun s c =>
    let base := c.field 0 2
    if 448 < base then s.reject p.val m.val stBadArg 0
    else
      let s1 : State := { s with host.aperture := Tab.set 0 s.host.aperture p.val base }
      (s1.log (fromMailbox p.val m.val) 0x0011 (0x0100 + p.val) (Tab.get 0 s.host.aperture p.val) base).ok p.val m.val [])

end Sys2Proof.Machine
end

