-- ==== Sys2Proof/Machine/TimeRows.lean ====
section
/-! DEFINITION. Time messages, lock, holdover and loss, wall time (11 R263 to R278), and a signal's arrival (12 R297). -/

namespace Sys2Proof.Machine

/-! ## The time tree (11 R266) -/

/-- The port from which the module with identity `me` receives the SYNC of Rooster `r`: the highest dimension in which the
two differ decides; none for the Rooster itself. -/
def State.treeParent (s : State) (me r : Nat) : Option Nat :=
  [2, 1, 0].findSome? (fun d =>
    let n := Nat.max 1 (s.ringOf d)
    let k := (coord me d + n - coord r d % n) % n
    if k = 0 then none else some (if byPlus n k then 2 * d + 1 else 2 * d))

/-- The ports of dimension `d` on which the module with identity `me` forwards the SYNC of Rooster `r`. -/
def State.treeDim (s : State) (me r d : Nat) : List Nat :=
  let n := Nat.max 1 (s.ringOf d)
  let k := (coord me d + n - coord r d % n) % n
  let plus := (decide (k = 0) || byPlus n k) && decide (k + 1 < n) && byPlus n (k + 1)
  let minus := (decide (k = 0) || !byPlus n k) && decide ((k + n - 1) % n ≠ 0) && !byPlus n ((k + n - 1) % n)
  (if plus then [2 * d] else []) ++ (if minus then [2 * d + 1] else [])

/-- The directions in which the module's place on the tree feeds others: ring ports (11 R266). -/
def State.treeRings (s : State) : List Nat :=
  let me := s.ownId
  let r := s.time.roosterId
  let same := fun d => decide (coord me d = coord r d)
  (if same 1 && same 2 then s.treeDim me r 0 else []) ++ (if same 2 then s.treeDim me r 1 else []) ++ s.treeDim me r 2

/-- The modules that the module sends its own SYNC to and the links that it takes: the next on its rings, by the ring's port or,
from a spare or towards a hole, by the route of 15 R396; an active also its fold's spare over L6, unless that spare has taken an
identity and with it that identity's place (11 R266). A spare that holds none sends to nobody. -/
def State.treeSends (s : State) : List Nat :=
  if s.bareSpare then []
  else
    s.treeRings.map (fun p => (s.ringExit s.fabricAddr p (s.onward p 1)).1)
      ++ (if s.fab.role = 0 && decide (0x1000 ≤ s.spareAddr (foldOf s.fab.modId)) then [6] else [])

/-- The lowest-numbered member of the fold whose link is up (11 R266); 8 for none. -/
def State.lowestUp (s : State) : Nat := ((List.range 8).find? (fun p => s.portUp p)).getD 8

/-- A link is down: neither up nor training again after it was up (15 R370). -/
def State.linkDown (s : State) (p : Nat) : Bool := decide ((s.port p).state ≠ 2) && decide ((s.port p).state ≠ 3)

/-- The link of the module's parent for a SYNC of Rooster `r`; 16 for none. It is the ring port of its place on the tree, or the
link at which the parent's packets come where a spare holds the parent's identity or the module is one (11 R266, 15 R396). A spare
with no identity keeps its member until that link goes down. -/
def State.parentPort (s : State) (r : Nat) : Nat :=
  if s.bareSpare then
    if s.time.parent < 8 && !s.linkDown s.time.parent then s.time.parent else s.lowestUp
  else
    match s.treeParent s.ownId r with
    | none => 16
    | some p =>
      let up := s.onward p 1
      if s.fab.role = 0 && (s.remapOf up).isNone then p else s.arrival up

/-! ## Sending -/

/-- The time message that the module sends now, at fraction `frac` of its beat (11 Table 11-2): the wall pair is the one to be
adopted, if there is one. -/
def State.timeMsg (s : State) (frac rx : Nat) : TimeMsg :=
  { srcId := s.ownId, roosterId := s.time.roosterId, depth := s.time.depth, gen := s.time.gen, tBeat := s.time.beat,
    tFrac := frac % 2 ^ 16, rxDelta := rx % 2 ^ 48,
    wallB0 := if s.time.nextSet then s.time.nextB0 else s.time.wallB0,
    wallW0 := if s.time.nextSet then s.time.nextW0 else s.time.wallW0 }

/-- SYNC leaves on every link of the tree that is up; the fraction of the beat at departure is free (log 5). -/
def State.sendSync (s : State) : State :=
  let d := s.drawNat
  (s.treeSends.filter (fun p => s.portUp p)).foldl (fun s' p => s'.sendTime p 1 (s.timeMsg d.1 0))
    { d.2 with time.sent := s.time.beat, time.syncDue := false }

/-- SYNC_SEND (11 R266): the Rooster at every beat that is a multiple of 64, another module once after each SYNC that it
accepts. -/
def execSyncSend (s : State) : Host.Outcome State Fault Refusal :=
  if !s.time.counting then .next s
  else if s.time.role = 0 then
    if s.time.beat % 64 = 0 && decide (s.time.sent ≠ s.time.beat) then .next s.sendSync else .next s
  else if s.time.syncDue then .next s.sendSync
  else .next s

/-- DELAY_MEASURE (11 R268): once after each training of the link, and at every 65,536th beat. -/
def execDelayMeasure (port : Fin 16) (frac : Nat) (s : State) : Host.Outcome State Fault Refusal :=
  match checked (.delayMeasure port frac) s with
  | .next s =>
    if s.portUp port.val && (decide (s.time.beat % 65536 = 0) || decide (Tab.get 0 s.time.delaySent port.val = 0)) then
      .next (({ s with time.delaySent := Tab.set 0 s.time.delaySent port.val (65536 * s.time.beat + frac + 1) } : State).sendTime
        port.val 2 (s.timeMsg frac 0))
    else .next s
  | o => o

/-- DELAY_REQ_RX (11 R268): the answer reports how long the port held the request. -/
def execDelayReqRx (port : Fin 16) (msg : TimeMsg) (frac heldFor : Nat) (s : State) : Host.Outcome State Fault Refusal :=
  match checked (.delayReqRx port msg frac heldFor) s with
  | .next s =>
    if s.portUp port.val then
      let t := 65536 * s.time.beat + frac + heldFor
      .next (s.sendTime port.val 3 { s.timeMsg t heldFor with tBeat := mod64 (t / 65536) })
    else .next s
  | o => o

/-- DELAY_RESP_RX (11 R268): the delay is ((t4 − t1) − RX_DELTA) / 2; one beyond TRACE_NS is logged (23 R560). -/
def execDelayRespRx (port : Fin 16) (msg : TimeMsg) (frac : Nat) (s : State) : Host.Outcome State Fault Refusal :=
  match checked (.delayRespRx port msg frac) s with
  | .next s =>
    let t1 := Tab.get 0 s.time.delaySent port.val
    if s.portUp port.val && decide (t1 ≠ 0) then
      let t4 := 65536 * s.time.beat + frac
      let ns := (t4 - (t1 - 1) - msg.rxDelta) * 1000 / 131072
      let s1 := s.setPort port.val { s.port port.val with delayNs := ns % 2 ^ 16 }
      .next (if s.fab.traceNs < ns then s1.log (fromHardware port.val) 0x0080 (0x0200 + port.val) s.fab.traceNs ns else s1)
    else .next s
  | o => o

/-! ## Receiving -/

/-- INSTANCE of a log entry of class 0x0050: the spec gives none (log 21). -/
def logRole : Nat := 0
def logStep : Nat := 1
def logTakeover : Nat := 2
def logDemotion : Nat := 3
def logWall : Nat := 4
def logPair : Nat := 5

/-- The next wall pair is adopted (11 R278). -/
def State.adoptWall (s : State) : State :=
  ({ s with time.wallSet := true, time.wallB0 := s.time.nextB0, time.wallW0 := s.time.nextW0, time.nextSet := false }
    : State).log (s.dog 5) 0x0050 logWall (fields [(0, s.time.wallB0), (64, s.time.wallW0)])
      (fields [(0, s.time.nextB0), (64, s.time.nextW0)])

/-- (GEN, ROOSTER_ID) `a` is newer than `b` (11 R270). -/
def newer (a b : Nat × Nat) : Bool := decide (b.1 < a.1) || (decide (a.1 = b.1) && decide (a.2 < b.2))

/-- HOLD_MAX rises to `n` (11 Table 11-6). -/
def State.holdMax (s : State) (n : Nat) : State := s.bump TimeCnt.holdMax (n - s.cntGet TimeCnt.holdMax)

/-- A HOLDOVER that ends now counts in HOLD_MAX (11 Table 11-6). -/
def State.holdoverEnds (s : State) : State := if s.time.state = 2 then s.holdMax (s.time.beat - s.time.holdoverBeat) else s

/-- The parent's time in units of 2⁻¹⁶ µs at the arrival of its SYNC: its time at departure and the port's delay (11 R268). -/
def State.parentTime (s : State) (port : Nat) (m : TimeMsg) : Nat :=
  65536 * m.tBeat + m.tFrac + (s.port port).delayNs * 65536 / 1000

/-- The module's time less its parent's, in ns (11 Table 11-3). -/
def State.offsetNs (s : State) (port : Nat) (m : TimeMsg) (frac : Nat) : Int :=
  (((65536 * s.time.beat + frac : Nat) : Int) - (s.parentTime port m : Nat)) * 1000 / 65536

/-- OFFSET saturates at ±1,023 (11 Table 11-3). -/
def satOffset (o : Int) : Int := max (-1023) (min 1023 o)

/-- What an accepted SYNC leaves whatever the time state: the pair, the depth, the wall pair it carries (11 R270, R278). -/
def State.noteSync (s : State) (port : Nat) (m : TimeMsg) (off : Int) : State :=
  let hop := if s.fab.role = 1 && decide (s.fab.identity ≠ 0xFFF) then 2 else 1
  let s1 : State :=
    { s with time.accepted := true, time.pairGen := m.gen, time.pairRooster := m.roosterId, time.gen := m.gen,
             time.roosterId := m.roosterId, time.depth := (m.depth + hop) % 2 ^ 8, time.offset := satOffset off,
             time.lastSync := s.time.beat, time.parent := port, time.syncDue := decide (s.time.role ≠ 0) }
  let s2 := s1.bump TimeCnt.syncAccepted 1
  let fresh := decide ((m.wallB0, m.wallW0) ≠ (0, 0)) && decide ((m.wallB0, m.wallW0) ≠ (s.time.wallB0, s.time.wallW0))
  let s3 : State := if fresh then { s2 with time.nextSet := true, time.nextB0 := m.wallB0, time.nextW0 := m.wallW0 } else s2
  if s3.time.nextSet && decide (s3.time.nextB0 ≤ s3.time.beat) then s3.adoptWall else s3

/-- An accepted SYNC by time state (11 R271, R273): FREE steps once and locks, HOLDOVER slews or is lost. -/
def State.acceptSync (s : State) (port : Nat) (m : TimeMsg) (frac : Nat) : State :=
  let off := s.offsetNs port m frac
  match s.time.state with
  | 0 =>
    let b := Nat.max s.time.beat (mod64 (s.parentTime port m / 65536))
    let s1 := ({ s with time.beat := b, time.state := 1 } : State).log (s.dog 5) 0x0050 logStep s.time.beat b
    s1.noteSync port m 0
  | 2 =>
    let s1 := s.holdoverEnds
    if off.natAbs > 256000 then (({ s1 with time.state := 4 } : State).noteSync port m off).raiseCause 0x09 0
    else ({ s1 with time.state := 3 } : State).noteSync port m off
  | _ => s.noteSync port m off

/-- A Rooster that receives a newer SYNC becomes a follower and logs it (11 R265, R274). -/
def State.demote (s : State) : State :=
  (({ s with time.role := 2, time.gen := (s.time.gen + 1) % 2 ^ 28, time.lastSync := s.time.beat } : State).bump
    TimeCnt.roleChanges 1).log (fromHardware 5) 0x0050 logDemotion 0 2

/-- The states in which the one step of BEAT_NOW may be taken (11 R263). -/
def DevState.mayStep : DevState → Bool
  | .cold => true | .booting => true | .idle => true | _ => false

/-- SYNC_RX (11 R270): accepted only from the module's parent and only if its pair is not older than the last one accepted.
A FREE module that may not step its counter any more does not accept it (log 22). A module whose identity a spare has taken is
no longer on the tree: it sends what comes for it to the spare (15 R395). -/
def execSyncRx (port : Fin 16) (msg : TimeMsg) (frac : Nat) (s : State) : Host.Outcome State Fault Refusal :=
  match checked (.syncRx port msg frac) s with
  | .next s =>
    if !(s.portUp port.val && s.time.counting) then .next s
    else if decide (s.fab.redirect ≠ none) && decide (s.fab.redirect ≠ some port.val) then
      .next (s.sendTime (s.fab.redirect.getD 6) 1 msg)
    else
      let pair := (msg.gen, msg.roosterId)
      if s.time.role = 0 && !newer pair (s.time.gen, s.ownId) then .next (s.bump TimeCnt.syncRefused 1)
      else
        let s1 := if s.time.role = 0 then s.demote else s
        let old := s1.time.accepted && newer (s1.time.pairGen, s1.time.pairRooster) pair
        if decide (s1.parentPort msg.roosterId ≠ port.val) || old then .next (s1.bump TimeCnt.syncRefused 1)
        else if s1.time.state = 0 && !s1.dev.state.mayStep then .next s1
        else .next (s1.acceptSync port.val msg frac)
  | o => o

/-! ## Holdover, takeover, wall time -/

/-- HOLDOVER_ENTRY (11 R272). -/
def execHoldoverEntry (s : State) : Host.Outcome State Fault Refusal :=
  if s.time.state = 1 && decide (s.time.role ≠ 0) && decide (s.time.lastSync + 256 ≤ s.time.beat) then
    .next (({ s with time.state := 2, time.holdoverBeat := s.time.beat } : State).bump TimeCnt.holdovers 1)
  else .next s

/-- HOLDOVER_EXPIRY (11 R272). -/
def execHoldoverExpiry (s : State) : Host.Outcome State Fault Refusal :=
  if s.time.state = 2 && decide (s.time.holdoverBeat + 10000000 ≤ s.time.beat) then
    .next (({ s.holdoverEnds with time.state := 4 } : State).raiseCause 0x09 0)
  else .next s

/-- SLEW_DONE (11 R273): the offset that slewing removes has fallen below 1 ns. -/
def execSlewDone (s : State) : Host.Outcome State Fault Refusal :=
  if s.time.state = 3 then .next { s with time.state := 1 } else .next s

/-- The module becomes Rooster, LOCKED and without a step, with its last accepted GEN + 1; a HOLDOVER ends (11 R271, R274, 19
R478). -/
def State.becomeRooster (s : State) : State :=
  let s1 := s.holdoverEnds
  { s1 with time.role := 0, time.state := 1, time.depth := 0, time.roosterId := s.ownId, time.lastSync := s.time.beat,
            time.syncDue := false, time.gen := ((if s.time.accepted then s.time.pairGen else s.time.gen) + 1) % 2 ^ 28 }

/-- STANDBY_TAKEOVER (11 R274). -/
def execStandbyTakeover (s : State) : Host.Outcome State Fault Refusal :=
  if s.time.role = 1 && s.time.counting && decide (s.time.lastSync + 512 ≤ s.time.beat) then
    let s1 := s.becomeRooster
    .next ((s1.bump TimeCnt.roleChanges 1).log (fromHardware 5) 0x0050 logTakeover 1 (fields [(0, 0), (8, s1.time.gen)]))
  else .next s

/-- WALL_ADOPT (11 R278). -/
def execWallAdopt (s : State) : Host.Outcome State Fault Refusal :=
  if s.time.nextSet && decide (s.time.nextB0 ≤ s.time.beat) then .next s.adoptWall else .next s

/-! ## Signals -/

/-- COUNTER_SIGNAL (12 R297): a signal reaches a sync counter; `rep` is its sender's repetition, none for one that the link
unit applies. -/
def execCounterSignal (id inc : Nat) (rep : Option Nat) (s : State) : Host.Outcome State Fault Refusal :=
  match checked (.counterSignal id inc rep) s with
  | .next s => .next (s.applySignal id inc rep)
  | o => o

end Sys2Proof.Machine
end

