-- ==== Sys2Proof/Machine/FabricRows.lean ====
section
/-! DEFINITION. The link layer (15 R366 to R373), through-traffic (15 R377 to R380), port identity (15 R376), and the identity
remap and takeover (15 R393 to R398). -/

namespace Sys2Proof.Machine

/-! ## Flits, replay, control flits (15 R368, R369) -/

/-- A data flit: neither idle nor control (15 R368). -/
def isDataFlit (f : Flit) : Bool := f.kind != 0 && f.kind != 15

/-- A flit ends at this module: it is addressed to it, is a multicast's, or is of a lane that goes from link to link. -/
def State.endsHere (s : State) (f : Flit) : Bool :=
  decide (f.dst = s.fabricAddr) || decide (f.kind = 4) || decide (f.lane = 5) || decide (f.lane = 7)

/-- One flit's buffer of a receiving port is free again (15 R368). -/
def State.freeBuffer (s : State) (p lane cls : Nat) : State :=
  let q := s.port p
  s.setPort p { q with freed := bump24 q.freed (creditIx lane cls) (fun v => v + 1) }

/-- FLIT_RX (15 R369): a good flit is delivered and counted, and its buffer freed unless it goes on; a bad one is discarded with every later flit and
NAK names the count. While flits are being discarded the receiver cannot tell by a flit alone where the replay begins: a free
Bool says so (log 30). -/
def execFlitRx (port : Fin 16) (flit : Flit) (fecOk : Bool) (s : State) : Host.Outcome State Fault Refusal :=
  match checked (.flitRx port flit fecOk) s with
  | .next s =>
    let p := port.val
    if !s.carries p flit.lane then .next s
    else
      let q := s.port p
      let badCrc := decide (flit.crc ≠ flitCrc flit)
      if !fecOk || badCrc then
        let s1 := s.bump (if fecOk then LinkCnt.crcErr (p % 8) else LinkCnt.fecUncorr (p % 8)) 1
        let s2 := s1.setPort p { q with discarding := true }
        .next (if q.discarding then s2 else s2.emit (.nak p q.rxCount))
      else
        let d := if q.discarding then s.drawBool else (true, s)
        if !d.1 then .next d.2
        else if !isDataFlit flit then .next (d.2.setPort p { q with discarding := false })
        else
          let s1 := (d.2.setPort p { q with discarding := false, rxCount := (q.rxCount + 1) % 2 ^ 16 }).bump
            (LinkCnt.flitsRx (p % 8)) 1
          .next (if s1.endsHere flit then s1.freeBuffer p flit.lane flit.dclass else s1)
  | o => o

/-- The flits that the peer has counted leave the replay buffer (15 R369). -/
def Port.acked (q : Port) (count : Nat) : Port :=
  let first := (q.txCount + 2 ^ 16 - q.unacked.length % 2 ^ 16) % 2 ^ 16
  let n := (count + 2 ^ 16 - first) % 2 ^ 16
  if n ≤ q.unacked.length then { q with unacked := q.unacked.drop n } else q

/-- Every flit of the replay buffer is sent again. -/
def State.replay (s : State) (p : Nat) : State := (s.port p).unacked.foldl (fun s f => s.emit (.flit p f)) s

/-- A link retrains (15 R370). -/
def State.retrain (s : State) (p : Nat) : State :=
  let q := s.port p
  (s.setPort p { q with
    state := 3, retrains := (q.retrains.filter (fun b => decide (s.time.beat < b + 1000000))) ++ [s.time.beat],
    retrainBeat := s.time.beat, nakTimes := 0 }).bump (LinkCnt.retrains (p % 8)) 1

/-- A NAK acted on (15 R369): the flits counted leave the replay buffer and the rest are sent again, the same count in a row is
counted, and at the eighth the port retrains instead (15 R370). -/
def State.takeNak (s : State) (p count : Nat) : State :=
  let q := (s.port p).acked count
  let n := if q.nakCount = count && decide (0 < q.nakTimes) then q.nakTimes + 1 else 1
  let s1 := (s.setPort p { q with nakCount := count, nakTimes := n }).bump (LinkCnt.replays (p % 8)) 1
  if 8 ≤ n then s1.retrain p else (s1.replay p).drain p

/-- NAK_RX (15 R369). -/
def execNakRx (port : Fin 16) (count : Nat) (s : State) : Host.Outcome State Fault Refusal :=
  match checked (.nakRx port count) s with
  | .next s => if s.carries port.val 7 then .next (s.takeNak port.val count) else .next s
  | o => o

/-- CONTROL_FLIT_SEND (15 R368): idle flits have filled the slots of the 40 that no flit took; the control flit carries the credits
freed since the last one, the count of data flits received, the NAK flag; flits that waited for it go on. -/
def execControlFlitSend (port : Fin 16) (s : State) : Host.Outcome State Fault Refusal :=
  let p := port.val
  if s.carries p 7 then
    let q := s.port p
    let s1 := if q.sinceControl < 40 then s.emit (.idleFlits p (40 - q.sinceControl)) else s
    .next (((s1.setPort p { q with freed := [], sinceControl := 0 }).emit
      (.controlFlit p (fit 0 24 q.freed) q.rxCount q.discarding)).drain p)
  else .next s

/-- CONTROL_FLIT_RX (15 R368): credits come back, counted flits leave the replay buffer, a set NAK flag replays; flits that waited
for a credit or for room go on. -/
def execControlFlitRx (port : Fin 16) (credits : List Nat) (count : Nat) (nak : Bool) (s : State) :
    Host.Outcome State Fault Refusal :=
  match checked (.controlFlitRx port credits count nak) s with
  | .next s =>
    let p := port.val
    if s.carries p 7 then
      let q := s.port p
      let u := (List.range 24).map (fun i => q.used.getD i 0 - credits.getD i 0)
      let s1 := s.setPort p { q.acked count with used := u }
      .next (if nak then s1.takeNak p count else s1.drain p)
    else .next s
  | o => o

/-- The port and class by which a through-traffic flit leaves: a failed module sends what is addressed to it to its spare (15
R395); every other flit follows the route (15 R378, R379, R396). -/
def State.forwardHop (s : State) (src : Nat) (f : Flit) : Option (Nat × Nat) :=
  match s.fab.redirect with
  | some p => if f.dst = s.fab.modId then some (p, f.dclass) else (s.hopHere src f.dst).map (fun h => (h.port, h.cls))
  | none => (s.hopHere src f.dst).map (fun h => (h.port, h.cls))

/-- A flit of a lane and class may leave a port now: the link carries the lane, a credit and a slot are there, and none of its
lane and class waits before it (15 R369, R372, R376). -/
def Port.open (q : Port) (lane cls : Nat) : Bool :=
  q.carries lane && q.credit lane cls && q.slot && !q.waiting.any (fun f => f.lane == lane && f.dclass == cls)

/-- FLIT_FORWARD (15 R377): from ingress to egress inside the link unit, on a lane with credit; its buffer is free again; the mesh
is not entered. A spare without an identity forwards nothing (15 R393). -/
def execFlitForward (ingress : Fin 16) (src : Nat) (flit : Flit) (s : State) : Host.Outcome State Fault Refusal :=
  match checked (.flitForward ingress src flit) s with
  | .next s =>
    if s.carries ingress.val flit.lane && !s.bareSpare then
      match s.forwardHop src flit with
      | some e =>
        if (s.port e.1).open flit.lane e.2 then
          let s1 := s.sendFlit e.1 (sealFlit { flit with dclass := e.2 })
          .next (if s.endsHere flit then s1 else s1.freeBuffer ingress.val flit.lane flit.dclass)
        else .next s
      | none => .next s
    else .next s
  | o => o

/-! ## Training, identity, failure (15 R366, R370, R376) -/

/-- A torus port of an active module (15 R376). -/
def State.isTorusPort (s : State) (p : Nat) : Bool :=
  decide (s.fab.role = 0) && ((decide (p < 6) && decide (1 < s.ringOf (p / 2))) || (decide (p = 7) && decide (s.fab.l7Mode = 1)))

/-- A spare's ports run split: two ×8 links each (15 R365). -/
def State.isSplit (s : State) : Bool := decide (s.fab.role = 1) && decide (s.fab.l7Mode = 2)

/-- The module's links: one for each port, two where they are split (15 R365). -/
def State.links (s : State) : List Nat := List.range (if s.isSplit then 16 else 8)

/-- The widths at which a link can train (15 R365, R366): in L7_MODE 2 a spare's links 0 to 7 have lanes 0 to 7 and its links 8 to 15
the others, and an active's L6 and L7 run at ×8; there is no second link elsewhere. -/
def State.widthOk (s : State) (l width : Nat) : Bool :=
  if s.isSplit then decide (width = (if l < 8 then 1 else 2))
  else decide (l < 8) && decide (1 ≤ width) && (!(decide (s.fab.l7Mode = 2) && decide (6 ≤ l)) || decide (width ≠ 3))

/-- ×16 is due on a link (15 R365, Table 15-11). -/
def State.dueWide (s : State) (l : Nat) : Bool := decide (s.fab.l7Mode ≠ 2) || (decide (s.fab.role = 0) && decide (l < 6))

/-- A link is training: for the first time, as a second link of a split port does when the port is made so, or again within the
limits of 15 R370. -/
def State.inTraining (s : State) (l : Nat) : Bool :=
  let q := s.port l
  decide (q.state = 1) || (decide (q.state = 0) && decide (8 ≤ l))
    || (decide (q.state = 3) && decide (s.time.beat < q.retrainBeat + 10000) && decide (q.retrains.length < 6))

/-- The identity exchange of a link (15 R376): MOD_ID, ROLE, FOLD and port number. -/
def State.sendIdentity (s : State) (l : Nat) : State :=
  s.sendMgmt l 0 [s.fab.modId, s.fab.role, s.fab.fold, l % 8] (.identity l s.fab.modId s.fab.role s.fab.fold)

/-- The number of a link: its port's, and 8 more for the second link of a split port (15 R365). -/
def linkOf (port : Fin 8) (second : Bool) : Nat := port.val + (if second then 8 else 0)

/-- LINK_TRAIN_DONE (15 R366, R376): the link is up at its width and tells its peer who it is; after a retrain it replays from the
last acknowledged count. A link at ×8 where ×16 is due is DEGRADED, and a torus port so trained is logged. Its delay is to be
measured (11 R268). -/
def execLinkTrainDone (port : Fin 8) (width : Fin 4) (second : Bool) (s : State) : Host.Outcome State Fault Refusal :=
  let l := linkOf port second
  let q := s.port l
  if s.dev.state = .cold || !s.inTraining l || !s.widthOk l width.val then .next s
  else
    let deg := s.dueWide l && decide (width.val ≠ 3)
    let q1 : Port := { q with state := 2, width := width.val, degraded := deg, split := s.isSplit }
    let q2 : Port :=
      if q.state = 3 then q1 else { q1 with unacked := [], txCount := 0, rxCount := 0, used := [], freed := [], sinceControl := 0 }
    let s1 : State := { s.setPort l q2 with time.delaySent := Tab.set 0 s.time.delaySent l 0 }
    let s2 := if deg && s.isTorusPort l then s1.log (fromHardware l) 0x0080 l 0 l else s1
    .next (((s2.replay l).sendIdentity l).drain l)

/-- The peers that a link may have (15 R364, R365): role, module ID of an active or fold of a spare, peer port. -/
def State.expectedPeers (s : State) (l : Nat) : List (Nat × Nat × Nat) :=
  if s.fab.role = 0 then
    let me := s.fab.modId
    if l < 6 then
      if 1 < s.ringOf (l / 2) then [(0, s.neighbour me (l / 2) (decide (l % 2 = 0)), oppositePort l)] else []
    else if l = 6 then [(1, foldOf me, me % 8)]
    else if s.fab.l7Mode = 1 then [(0, me ^^^ 1, 7)]
    else if s.fab.l7Mode = 2 then [(1, foldOf me ^^^ 1, me % 8)]
    else []
  else if l < 8 then [(0, memberId s.fab.fold l, 6)]
  else [(0, memberId (s.fab.fold ^^^ 1) (l % 8), 7)]

/-- The peer's fabric address as the exchange gives it (15 R374, R399). -/
def peerAddr (modId role fold : Nat) : Nat := if role = 0 || decide (modId ≠ 0xFFF) then modId else 0x1000 + fold

/-- PEER_IDENTITY_RX (15 R376). -/
def execPeerIdentityRx (port : Fin 16) (modId role fold : Nat) (peerPort : Fin 8) (s : State) :
    Host.Outcome State Fault Refusal :=
  match checked (.peerIdentityRx port modId role fold peerPort) s with
  | .next s =>
    let p := port.val
    let q := s.port p
    if q.state = 2 || q.state = 5 then
      let ok := (s.expectedPeers p).contains (role, if role = 0 then modId else fold, peerPort.val)
      .next ((s.setPort p { q with
        state := if ok then 2 else 5, peer := peerAddr modId role fold, peerPort := peerPort.val }).drain p)
    else .next s
  | o => o

/-- PORT_RETRAIN (15 R370): the link has lost lock, or no control flit has come for 2 µs (log 141). -/
def execPortRetrain (port : Fin 16) (s : State) : Host.Outcome State Fault Refusal :=
  if s.carries port.val 7 then .next (s.retrain port.val) else .next s

/-- PORT_FAILED (15 R370): a retrain of 10 ms, or the sixth within 1,000,000 beats; the module enters FAULTED. A spare without an
identity whose parent's link it is takes another parent (11 R266). -/
def execPortFailed (port : Fin 16) (s : State) : Host.Outcome State Fault Refusal :=
  let q := s.port port.val
  if q.state = 3 && (decide (q.retrainBeat + 10000 ≤ s.time.beat) || decide (6 ≤ q.retrains.length)) then
    let s1 := s.setPort port.val { q with state := 4 }
    let s2 : State := if s.bareSpare && decide (s.time.parent = port.val) then { s1 with time.parent := 8 } else s1
    .next (s2.raiseCause 0x08 (port.val % 8))
  else .next s

/-! ## Takeover (15 R395 to R398) -/

/-- ECHO_RX (15 R395): answered in hardware whatever the module's state. -/
def execEchoRx (port : Fin 16) (src : Nat) (s : State) : Host.Outcome State Fault Refusal :=
  match checked (.echoRx port src) s with
  | .next s => if s.carries port.val 7 then .next (s.sendMgmt port.val 2 [src] (.echoAnswer port.val src)) else .next s
  | o => o

/-- Links to the neighbours on the time tree, the parent's and those of SYNC, that are up (11 R266). -/
def State.treeLinks (s : State) : List Nat :=
  let up := if s.time.role = 0 then [] else [s.parentPort s.time.roosterId]
  (s.treeSends ++ up).eraseDups.filter (fun p => decide (p < 16) && s.portUp p)

/-- The 128-bit entry (15 Table 15-10). -/
def remapBits (e : RemapEntry) : Nat :=
  fields [(0, e.ident), (12, b2n e.valid), (13, b2n e.dead), (14, e.home), (16, e.proxy), (32, e.spareFold), (64, e.effective)]

/-- A remap entry known here waits for its beat and goes on along the time tree (15 R395, R397). -/
def State.spreadEntry (s : State) (e : RemapEntry) (from_ : Nat) : State :=
  let s1 : State := { s with fab.pendingRemap := s.fab.pendingRemap ++ [e] }
  (s1.treeLinks.filter (fun p => decide (p ≠ from_))).foldl (fun s p => s.sendMgmt p 4 [remapBits e] (.remapEntry p e)) s1

/-- The detour positions of a hole (15 R379): for each dimension and each way past the hole, the modules that the detour hops reach,
the last of them beyond the hole; and its proxy (R398). -/
def State.detourSet (s : State) (id : Nat) : List Nat :=
  ([0, 1, 2].filter (fun d => decide (1 < s.ringOf d))).flatMap (fun d => match s.detourDim d with
    | some e =>
      [true, false].flatMap (fun plus =>
        let before := s.neighbour id d (!plus)
        let beyond := s.neighbour id d plus
        [s.neighbour before e true, s.neighbour id e true, s.neighbour beyond e true, beyond])
    | none => []) ++ [id ^^^ 1]

/-- A new DEAD entry's detour positions or proxy include another dead identity, or the reverse (15 R398). -/
def State.deadClash (s : State) (id : Nat) : Bool :=
  ((s.remaps ++ s.fab.pendingRemap).filter (fun e => e.dead && e.ident != id)).any (fun e =>
    (s.detourSet id).contains e.ident || (s.detourSet e.ident).contains id)

/-- The remap entry of a takeover (15 Table 15-10). -/
def State.takeoverEntry (s : State) (t : Takeover) (dead : Bool) : RemapEntry :=
  { ident := t.ident, valid := true, dead := dead, home := b2n (decide (foldOf t.ident ≠ s.fab.fold)),
    proxy := if dead then t.ident ^^^ 1 else 0, spareFold := s.fab.fold, effective := t.effective }

/-- ECHO_ANSWER_RX (15 R395 step 2). -/
def execEchoAnswerRx (s : State) : Host.Outcome State Fault Refusal :=
  match s.fab.takeover with
  | some t =>
    if t.entry = none && decide (s.time.beat ≤ t.echoBeat + 100) then
      let e := s.takeoverEntry t false
      .next ((({ s with fab.takeover := some { t with entry := some e } } : State).sendMgmt t.port 3 [t.ident]
        (.redirectSet t.port t.ident)).spreadEntry e 16)
    else .next s
  | none => .next s

/-- ECHO_TIMEOUT (15 R395 step 3): no answer within 100 µs; a dead identity that clashes with another is refused with NO_SPACE
(15 R398). -/
def execEchoTimeout (s : State) : Host.Outcome State Fault Refusal :=
  match s.fab.takeover with
  | some t =>
    if t.entry = none && decide (t.echoBeat + 100 ≤ s.time.beat) then
      if s.deadClash t.ident then
        let s1 : State := { s with fab.takeover := none }
        .next (match s.host.queue with
          | q :: _ => if q.waiting then s1.makeRecord q.port q.mbox stNoSpace 0 [] else s1
          | [] => s1)
      else
        let e := s.takeoverEntry t true
        .next (({ s with fab.takeover := some { t with entry := some e } } : State).spreadEntry e 16)
    else .next s
  | none => .next s

/-- REDIRECT_SET (15 R395 step 2): the module sends what is addressed to it over the wired port and fences every core. -/
def execRedirectSet (port : Fin 16) (src : Nat) (s : State) : Host.Outcome State Fault Refusal :=
  match checked (.redirectSet port src) s with
  | .next s =>
    if s.fab.role = 0 && decide (6 ≤ port.val) && decide (port.val < 8) && s.carries port.val 7 then
      let s1 : State := { s with fab.redirect := some port.val }
      .next ((List.range 210).foldl (fun s i => if s.physOf i < 240 then s.fencePos (s.physOf i) else s) s1)
    else .next s
  | o => o

/-- REMAP_ENTRY_RX (15 R395 step 4, R397): kept until its beat, sent on along the tree. -/
def execRemapEntryRx (port : Fin 16) (e : RemapEntry) (s : State) : Host.Outcome State Fault Refusal :=
  match checked (.remapEntryRx port e) s with
  | .next s =>
    if s.carries port.val 7 && e.valid && !s.fab.pendingRemap.contains e && !s.remaps.contains e then
      .next (s.spreadEntry e port.val)
    else .next s
  | o => o

/-- REMAP_ADOPT (15 R397): at EFFECTIVE, while no plan runs and traffic is drained, the entry of the identity named takes effect in
the table entry named and is logged; a module that has not received it by then enters FAULTED. -/
def execRemapAdopt (r : RemapPlace) (s : State) : Host.Outcome State Fault Refusal :=
  match checked (.remapAdopt r) s with
  | .next s =>
    if (Tab.get emptyRemap s.fab.remap r.index.val).valid || !s.dev.state.fromIdle || (s.remapOf r.ident).isSome then .next s
    else
      match s.fab.pendingRemap.find? (fun e => e.ident == r.ident) with
      | none => .next (s.raiseCause 0x0A r.index.val)
      | some e =>
        if e.effective ≤ s.time.beat && s.dev.state ≠ .running && s.lanesEmpty then
          let s1 : State :=
            { s with fab.pendingRemap := s.fab.pendingRemap.erase e, fab.remap := Tab.set emptyRemap s.fab.remap r.index.val e }
          .next (s1.log (fromHardware r.index.val) 0x0040 r.index.val 0 (remapBits e))
        else .next s
  | o => o

/-- TAKEOVER_EFFECTIVE (15 R397, 19 R476): at EFFECTIVE, its entry adopted, the spare holds the identity and SPARE_TAKEOVER makes
its record. -/
def execTakeoverEffective (s : State) : Host.Outcome State Fault Refusal :=
  match s.fab.takeover with
  | some t =>
    match t.entry with
    | some e =>
      if t.effective ≤ s.time.beat && s.remaps.contains e then
        let s1 : State := { s with fab.identity := t.ident, fab.modId := t.ident, fab.takeover := none, dev.enlisted := false }
        let s2 := s1.log (fromHardware t.port) 0x0040 t.ident 0 (remapBits e)
        .next (match s2.host.queue with
          | q :: _ => if q.waiting then s2.makeRecord q.port q.mbox stOk (fields [(0, b2n e.dead), (1, e.home)]) [] else s2
          | [] => s2)
      else .next s
    | none => .next s
  | none => .next s

end Sys2Proof.Machine
end

