-- ==== Sys2Proof/Machine/GoatRows.lean ====
section
/-! DEFINITION. The Goat stream engine (05): the operations of Table 05-2, dropout (07 R169, R170), TABLE_LOAD. -/

namespace Sys2Proof.Machine

/-- A stream-engine descriptor (05 Table 05-6). -/
structure GoatCmd where
  op : Nat
  immMode : Nat
  health : Bool
  tap : Bool
  tapClr : Bool
  compress : Bool
  slot : Nat
  patX : Nat
  patY : Nat
  patZ : Nat
  patO : Nat
  imm0 : Nat
  imm1 : Nat
  tapAddr : Nat
  statAddr : Nat
  layer : Nat
  mbatch : Nat
  rkey : Nat
  planCyc : Nat
  slackCyc : Nat
  drop : Bool
deriving DecidableEq, Repr

/-- The fields of a stream-engine descriptor (05 Table 05-6). -/
def goatCmd (d : Nat) : GoatCmd :=
  { op := bits d 128 8, immMode := bits d 136 1, health := bit d 137, tap := bit d 138, tapClr := bit d 139,
    compress := bit d 140, slot := bits d 144 5, patX := bits d 160 15, patY := bits d 176 15, patZ := bits d 192 15,
    patO := bits d 208 15, imm0 := bits d 224 32, imm1 := bits d 256 32, tapAddr := bits d 288 15, statAddr := bits d 304 15,
    layer := bits d 320 16, mbatch := bits d 336 16, rkey := bits d 352 64, planCyc := bits d 416 32,
    slackCyc := bits d 448 16, drop := dDrop d }

/-- Input streams that an operation reads (05 Table 05-2). -/
def goatInputs (op : Nat) : Nat :=
  if op = 0x04 ∨ op = 0x09 ∨ op = 0x0D then 3
  else if op ∈ [0x01, 0x02, 0x03, 0x06, 0x07, 0x08, 0x0B, 0x0C] then 2
  else 1

/-- The operation reads a function table. -/
def usesTable (op : Nat) : Bool := decide (0x0A ≤ op) && decide (op ≤ 0x0D)

/-- An elementwise operation (05 Table 05-2); `f` and `f'` are the pair's tables. -/
def goatElem (op : Nat) (al be : Word) (f f' : Word → Word) (x y z : Word) : Word :=
  match op with
  | 0x00 => canon32 x
  | 0x01 => fadd x y
  | 0x02 => fsub x y
  | 0x03 => fmul x y
  | 0x04 => ffma x y z
  | 0x05 => ffma al x be
  | 0x06 => ffma al x (fmul be y)
  | 0x07 => fmax x y
  | 0x08 => fmin x y
  | 0x09 => canon32 (if isZero32 z then y else x)
  | 0x0A => f (ffma al x be)
  | 0x0B => fmul (f x) y
  | 0x0C => fmul y (f' x)
  | _ => fmul (fmul z y) (f' x)

/-- A reduction over i0 (05 Table 05-2). -/
def goatReduce (op n0 : Nat) (xs : List Word) : List Word :=
  (pieces n0 xs.length xs).map (fun l => if op = 0x0E then l.foldl fadd 0 else l.foldl fmax ninf32)

/-- Dropout of output element `e` (07 R169, R170). -/
def State.dropout (s : State) (c : GoatCmd) (e : Nat) (r : Word) : Word :=
  if c.drop then
    let w := s.planNat (s.secOff 6 + 16 * c.layer) 16
    let u := s.draw { key := bits w 0 64, layer := c.layer, mbatch := c.mbatch } e
    fmul r (if bits w 64 24 ≤ u then BitVec.ofNat 32 (bits w 96 32) else 0)
  else r

/-- CODE of a command: 1 TOKEN_ORDER, 2 TABLE_EMPTY (05 Table 05-9). -/
def State.goatCode (s : State) (g : Nat) (c : GoatCmd) (w : Work) : Nat :=
  if w.code = 1 then 1 else if usesTable c.op && !s.tableOk g c.slot then 2 else 0

/-- The results of a command in the output's enumeration order: canonical NaNs under TOKEN_ORDER and TABLE_EMPTY (05 R119,
R132). -/
def State.goatResults (s : State) (g : Nat) (c : GoatCmd) (ins : List Pat) (out : Pat) (code : Nat)
    (vals : List Word) : List Word :=
  let raw : List Word :=
    if code ≠ 0 then List.replicate out.total nan32
    else
      let xs := ins.map (s.readPat g)
      let x := xs.getD 0 []
      if c.op = 0x0E ∨ c.op = 0x0F then goatReduce c.op ((ins.getD 0 out).cnt 0) x
      else
        let al := vals.getD 0 0
        let be := vals.getD 1 0
        let y := xs.getD 1 []
        let z := xs.getD 2 []
        (List.range x.length).map (fun i =>
          goatElem c.op al be (s.table g c.slot 0) (s.table g c.slot 1) (x.getD i 0) (y.getD i 0) (z.getD i 0))
  ((List.range raw.length).zip raw).map (fun e => s.dropout c e.1 e.2)

/-- The input streams of a command. -/
def State.goatIns (s : State) (g : Nat) (c : GoatCmd) : List Pat :=
  ([c.patX, c.patY, c.patZ].take (goatInputs c.op)).map (s.pat g)

/-- A stream-engine command that holds the tokens it waits for: its output is converted and written, the tokens it releases are on
their way back; NONFIN and its tap follow with its completion (05 R120, R125 to R128, R139). -/
def State.goatIssue (s : State) (g : Nat) (w : Work) : State :=
  let c := goatCmd w.desc
  let ins := s.goatIns g c
  let out := s.pat g c.patO
  let code := s.goatCode g c w
  let r := s.drainPat g out c.compress { key := c.rkey, layer := c.layer, mbatch := c.mbatch }
    (s.goatResults g c ins out code w.vals)
  let f : InFlight :=
    { s.newFlight (goatStream g) w.desc with
        cycles := (ins.map Pat.cycles).foldl Nat.max r.cycles + 32, code := code, planCyc := c.planCyc, slackCyc := c.slackCyc,
        status := code + r.counts.status, statBits := 7, statKey := some (goatKey g c.statAddr),
        bumps := r.counts.bumps g ++ [(GoatCnt.commands g, 1), (GoatCnt.tokenOrder g, b2n (decide (code = 1))),
          (GoatCnt.tableEmpty g, b2n (decide (code = 2)))],
        outs := r.outs, nonfin := r.counts.marks g c.health,
        tap := if c.tap then some (goatKey g c.tapAddr, c.tapClr, tapOf r.words) else none, release := w.released }
  (r.state.returnTokens (w.released.map (fun b => b.1))).launch (goatStream g) f

/-- The stream-engine command in hand of Goat `g` has its effects once it waits for no token. -/
def State.goatGo (s : State) (g : Nat) : State :=
  match s.goatDue g with
  | some w => s.atStep w.step (fun s => s.goatIssue g w)
  | none => s

/-- The operation `op` of Goat `g`, if it is at the stream's head and its cycle 0 has come: its output's credits are there (12
R302), the scalars are read (05 R122), and the command waits for the bank tokens that its streams name (R119). -/
def State.goatStep (s : State) (g op : Nat) : State :=
  match s.readyGoat g 2 op with
  | some d =>
    let c := goatCmd d
    let (al, be) := s.scalars g c.immMode c.imm0 c.imm1
    if s.outReady g (s.pat g c.patO) then
      (s.goatPark g { s.newWork d with vals := [al, be] } (s.goatIns g c) c.planCyc c.slackCyc (goatKey g c.statAddr)).goatGo g
    else s
  | none => s

/-- COPY: x. -/
def execCopy (g : Fin 60) (s : State) : Host.Outcome State Fault Refusal := .next (s.goatStep g.val 0x00)
/-- ADD: x + y. -/
def execAdd (g : Fin 60) (s : State) : Host.Outcome State Fault Refusal := .next (s.goatStep g.val 0x01)
/-- SUB: x − y. -/
def execSub (g : Fin 60) (s : State) : Host.Outcome State Fault Refusal := .next (s.goatStep g.val 0x02)
/-- MUL: x · y. -/
def execMul (g : Fin 60) (s : State) : Host.Outcome State Fault Refusal := .next (s.goatStep g.val 0x03)
/-- FMA: fma(x, y, z). -/
def execFma (g : Fin 60) (s : State) : Host.Outcome State Fault Refusal := .next (s.goatStep g.val 0x04)
/-- SCALE: fma(α, x, β). -/
def execScale (g : Fin 60) (s : State) : Host.Outcome State Fault Refusal := .next (s.goatStep g.val 0x05)
/-- AXPBY: fma(α, x, [β · y]). -/
def execAxpby (g : Fin 60) (s : State) : Host.Outcome State Fault Refusal := .next (s.goatStep g.val 0x06)
/-- MAX: the larger of x and y. -/
def execMax (g : Fin 60) (s : State) : Host.Outcome State Fault Refusal := .next (s.goatStep g.val 0x07)
/-- MIN: the smaller of x and y. -/
def execMin (g : Fin 60) (s : State) : Host.Outcome State Fault Refusal := .next (s.goatStep g.val 0x08)
/-- SELECT: x if z is not ±0, else y. -/
def execSelect (g : Fin 60) (s : State) : Host.Outcome State Fault Refusal := .next (s.goatStep g.val 0x09)
/-- FN: f([fma(α, x, β)]). -/
def execFn (g : Fin 60) (s : State) : Host.Outcome State Fault Refusal := .next (s.goatStep g.val 0x0A)
/-- FN_MUL: [f(x)] · y. -/
def execFnMul (g : Fin 60) (s : State) : Host.Outcome State Fault Refusal := .next (s.goatStep g.val 0x0B)
/-- DFN: y · [f′(x)]. -/
def execDfn (g : Fin 60) (s : State) : Host.Outcome State Fault Refusal := .next (s.goatStep g.val 0x0C)
/-- DFN_MUL: [z · y] · [f′(x)]. -/
def execDfnMul (g : Fin 60) (s : State) : Host.Outcome State Fault Refusal := .next (s.goatStep g.val 0x0D)
/-- REDUCE_ADD: the sum over i0. -/
def execReduceAdd (g : Fin 60) (s : State) : Host.Outcome State Fault Refusal := .next (s.goatStep g.val 0x0E)
/-- REDUCE_MAX: the maximum over i0. -/
def execReduceMax (g : Fin 60) (s : State) : Host.Outcome State Fault Refusal := .next (s.goatStep g.val 0x0F)

/-- TABLE_LOAD (05 R134): 6,272 bytes of the scratchpad become pair SLOT, which is VALID from then on. -/
def execTableLoad (g : Fin 60) (s : State) : Host.Outcome State Fault Refusal :=
  match s.readyGoat g.val 2 0x10 with
  | some d =>
    let c := goatCmd d
    let x := s.pat g.val c.patX
    let s1 := s.loadTable g.val c.slot (s.bytesAt (spaceKey (goatSpace g.val) (x.addr % 2 ^ 21)) 6272)
    .next (s1.startCmd (goatStream g.val)
      { s.newFlight (goatStream g.val) d with
          cycles := 64, planCyc := c.planCyc, slackCyc := c.slackCyc, statKey := some (goatKey g.val c.statAddr),
          bumps := [(GoatCnt.commands g.val, 1), (GoatCnt.tableLoads g.val, 1)],
          outs := [(spaceKey (tableSpace g.val) (6272 * c.slot), 6272)] })
  | none => .next s

end Sys2Proof.Machine
end

