-- ==== Sys2Proof/Machine/MuleRows.lean ====
section
/-! DEFINITION. The Mules (13 R328 to R334): copies under five re-layouts, the stash; the copies of copy-on-write (13 R323) and the
patrol scrub (13 R318). -/

namespace Sys2Proof.Machine

/-! ## The descriptor -/

/-- A Mule descriptor (13 Table 13-5). -/
structure MuleCmd where
  xform : Nat
  sw : Bool
  reset : Bool
  fmt : Nat
  src : Nat
  dst : Nat
  n0 : Nat
  n1 : Nat
  n2 : Nat
  n3 : Nat
  perm : Nat
  pitch : Nat
  planCyc : Nat
  slackCyc : Nat
  swAddr : Nat
  stat : Nat
  fan : Nat
deriving DecidableEq, Repr

/-- The fields of a Mule descriptor (13 Table 13-5). -/
def muleCmd (d : Nat) : MuleCmd :=
  { xform := bits d 136 3, sw := bit d 139, reset := bit d 140, fmt := bits d 144 8, src := bits d 160 64, dst := bits d 224 64,
    n0 := bits d 288 16, n1 := bits d 304 16, n2 := bits d 320 16, n3 := bits d 336 16, perm := bits d 352 8,
    pitch := bits d 384 32, planCyc := bits d 416 32, slackCyc := bits d 448 16, swAddr := bits d 464 14, stat := bits d 478 14,
    fan := bits d 492 14 }

/-- Stream of Mule `n`, which is also its requester index (12 R283, 02 R43). -/
def muleStream (n : Nat) : Nat := 210 + n

/-- Key of 256-byte unit `a` of Mule `n`'s control memory. -/
def muleKey (n a : Nat) : Nat := spaceKey (muleSpace n) (256 * a)

/-- The command of operation `mop` at the head of Mule `n`'s stream, if its cycle 0 has come; Mule commands do not overlap (13
R334). -/
def State.readyMule (s : State) (n mop : Nat) : Option Nat :=
  if (s.stream (muleStream n)).flight.isEmpty then s.readyExec (muleStream n) 6 mop else none

/-- N1 after any shape-word bound, and whether the cap was met (10 R245, 13 Table 13-5). -/
def State.muleBound (s : State) (n : Nat) (c : MuleCmd) : MuleCmd × Bool :=
  if c.sw then
    let k := s.shapeCount (muleKey n c.swAddr)
    ({ c with n1 := Nat.min k c.n1 }, decide (c.n1 < k))
  else (c, false)

/-! ## Byte ranges (13 R332, R333) -/

/-- Ranges of a tensor block of `rows` × `cols` at a key (04 R80). -/
def blockRanges (key rows cols : Nat) (f : Fmt) : List (Nat × Nat) :=
  let t := tilesOf rows cols
  let b := blockAt key rows cols f
  [(b.val, t * f.elem.tileBytes), (b.aux, t * f.comp.sliceBytes)]

/-- Ranges of a linear tensor: its rows, and its rows of scale bytes (13 R332). -/
def linearRanges (key rows cols pitch : Nat) (f : Fmt) : List (Nat × Nat) :=
  (List.range rows).map (fun r => (key + r * pitch, ceilDiv (cols * f.elem.bits) 8))
    ++ (if f.comp = .plain then [] else [(key + rows * pitch, rows * scaleCount f cols)])

/-- Source dimension that becomes destination dimension `j` under XFORM 4. -/
def MuleCmd.permOf (c : MuleCmd) (j : Nat) : Nat := bits c.perm (2 * j) 2

/-- Source dimensions. -/
def MuleCmd.dims (c : MuleCmd) : List Nat := [c.n0, c.n1, c.n2, c.n3]

/-- Extent of destination dimension `j` under XFORM 4. -/
def MuleCmd.outDim (c : MuleCmd) (j : Nat) : Nat := c.dims.getD (c.permOf j) 0

/-- Bytes that XFORM 0 moves. -/
def MuleCmd.bytes (c : MuleCmd) : Nat := c.n0 * c.n1 * c.n2 * c.n3

/-- The ranges a COPY reads. -/
def MuleCmd.ins (c : MuleCmd) (f : Fmt) : List (Nat × Nat) :=
  let k := locOfWord c.src
  match c.xform with
  | 0 => [(k, c.bytes)]
  | 2 => linearRanges k c.n1 c.n0 c.pitch f
  | 4 => blockRanges k (c.n1 * c.n2 * c.n3) c.n0 f
  | _ => blockRanges k c.n1 c.n0 f

/-- The ranges a COPY writes. -/
def MuleCmd.outs (c : MuleCmd) (f : Fmt) : List (Nat × Nat) :=
  let k := locOfWord c.dst
  match c.xform with
  | 0 => [(k, c.bytes)]
  | 1 => blockRanges k c.n0 c.n1 f
  | 2 => blockRanges k c.n1 c.n0 f
  | 3 => linearRanges k c.n1 c.n0 c.pitch f
  | _ => blockRanges k (c.outDim 1 * c.outDim 2 * c.outDim 3) (c.outDim 0) f

/-- Bytes of a list of ranges. -/
def rangesLen (l : List (Nat × Nat)) : Nat := l.foldl (fun a r => a + r.2) 0

/-- Some range of one list meets one of the other. -/
def rangesMeet (a b : List (Nat × Nat)) : Bool :=
  a.any (fun x => b.any (fun y => decide (0 < x.2) && decide (0 < y.2) && decide (x.1 < y.1 + y.2) && decide (y.1 < x.1 + x.2)))

/-! ## What is written -/

/-- Codes packed one after another (03 R52). -/
def packCodes (e : Elem) (cs : List Nat) : List Byte :=
  natLe (ceilDiv (cs.length * e.bits) 8) (cs.foldr (fun c a => c + a * 2 ^ e.bits) 0)

/-- A tensor block of `rows` × `cols`, tile by tile: value bytes and tag or scale bytes. Outside the shape are +0 and scale 0
(03 R51, R53); a plain block gets its tags from its values (03 R55). -/
def blockTiles (f : Fmt) (rows cols : Nat) (code scale : Nat → Nat → Nat) : List (List Byte × List Byte) :=
  let tc := ceilDiv cols 128
  (List.range (tilesOf rows cols)).map (fun n =>
    let row := fun p => 128 * (n / tc) + p / 128
    let col := fun p => 128 * (n % tc) + p % 128
    let inside := fun p => decide (row p < rows) && decide (col p < cols)
    let vals := packCodes f.elem ((List.range 16384).map (fun p => if inside p then code (row p) (col p) else 0))
    let aux := match f.comp with
      | .plain => (List.range 16).map (fun q =>
          let ps := ((List.range 1024).map (fun i => 128 * (32 * (q / 4) + i / 32) + 32 * (q % 4) + i % 32)).filter inside
          BitVec.ofNat 8 (tagByte (ps.map (fun p => decodeElem f.elem (code (row p) (col p))))))
      | c =>
        let per := 128 / c.blockLen
        (List.range (128 * per)).map (fun q =>
          let p := 128 * (q / per) + c.blockLen * (q % per)
          BitVec.ofNat 8 (if inside p then scale (row p) (col p / c.blockLen) else 0))
    (vals, aux))

/-- A tensor block's bytes at location `key`: to an Ox queue tile by tile, each tile's slice after its values (04 R80). -/
def blockWrites (key rows cols : Nat) (f : Fmt) (tiles : List (List Byte × List Byte)) : List (Nat × List Byte) :=
  match queueOfKey key with
  | some _ => [(key, tiles.flatMap (fun t => t.1 ++ t.2))]
  | none => [(key, tiles.flatMap (fun t => t.1)), ((blockAt key rows cols f).aux, tiles.flatMap (fun t => t.2))]

/-- A row of a linear source. -/
def State.linearRow (s : State) (key r cols pitch : Nat) (f : Fmt) : List Byte :=
  s.read (key + r * pitch) (ceilDiv (cols * f.elem.bits) 8)

/-- What a COPY writes (13 R332): codes and scale bytes unchanged. -/
def State.copyWrites (s : State) (c : MuleCmd) (f : Fmt) : List (Nat × List Byte) :=
  let from_ := locOfWord c.src
  let to_ := locOfWord c.dst
  let codeAt := fun (rows cols r k : Nat) =>
    let b := blockAt from_ rows cols f
    let p := b.place r k
    (s.blockTensor b).code p.1 p.2
  let scaleAt := fun (rows cols r i : Nat) =>
    let b := blockAt from_ rows cols f
    let p := b.place r (f.comp.blockLen * i)
    (s.blockTensor b).auxAt p.1 p.2
  match c.xform with
  | 0 => [(to_, s.read from_ c.bytes)]
  | 1 => blockWrites to_ c.n0 c.n1 f (blockTiles f c.n0 c.n1 (fun r k => codeAt c.n1 c.n0 k r) (fun _ _ => 0))
  | 2 =>
    let scales := from_ + c.n1 * c.pitch
    let row := fun r => s.linearRow from_ r c.n0 c.pitch f
    blockWrites to_ c.n1 c.n0 f (blockTiles f c.n1 c.n0
      (fun r k => codeIn f.elem (fun i => (row r).getD i 0) k)
      (fun r i => s.readNat (scales + r * scaleCount f c.n0 + i) 1))
  | 3 =>
    (List.range c.n1).map (fun r => (to_ + r * c.pitch, packCodes f.elem ((List.range c.n0).map (codeAt c.n1 c.n0 r))))
      ++ (if f.comp = .plain then []
        else [(to_ + c.n1 * c.pitch, (List.range c.n1).flatMap (fun r =>
          (List.range (scaleCount f c.n0)).map (fun i => BitVec.ofNat 8 (scaleAt c.n1 c.n0 r i))))])
  | _ =>
    let d := fun j => c.outDim j
    let rows := d 1 * d 2 * d 3
    let code := fun r k =>
      let j := [k, r % d 1, r / d 1 % d 2, r / (d 1 * d 2)]
      let i := fun dim => ((List.range 4).find? (fun q => decide (c.permOf q = dim))).map (fun q => j.getD q 0) |>.getD 0
      codeAt (c.n1 * c.n2 * c.n3) c.n0 (i 1 + c.n1 * (i 2 + c.n2 * i 3)) (i 0)
    blockWrites to_ rows (d 0) f (blockTiles f rows (d 0) code (fun _ _ => 0))

/-! ## Running a command -/

/-- A Mule command in progress (13 Table 13-7). -/
def State.muleFlight (s : State) (n d : Nat) (c : MuleCmd) (capped : Bool) (cycles code written : Nat) (bumps : List Bump)
    (outs : List (Nat × Nat)) : InFlight :=
  { s.newFlight (muleStream n) d with
      cycles := cycles, planCyc := c.planCyc, slackCyc := c.slackCyc, capped := capped,
      status := fields [(0, code), (5, b2n capped), (64, sat32 written)], statBits := 6, statKey := some (muleKey n c.stat),
      bumps := bumps, outs := outs }

/-- The Mule's staging buffer (13 R331). -/
def stagingBytes : Nat := 2 ^ 21

/-- A move is refused: source and destination overlap and the source is larger than the staging buffer (13 R333). -/
def tooLarge (ins outs : List (Nat × Nat)) : Bool := rangesMeet ins outs && decide (stagingBytes < rangesLen ins)

/-- A refused move (13 R333). -/
def State.muleOverlap (s : State) (n d : Nat) (c : MuleCmd) (capped : Bool) : State :=
  s.startCmd (muleStream n) (s.muleFlight n d c capped 64 1 0 [(MemCnt.overlapRejects, 1)] [])

/-- Cycles of a move (13 R334). -/
def moveCycles (xform br bw : Nat) : Nat := 64 + ceilDiv (br + bw) (if xform = 1 || xform = 4 then 512 else 1024)

/-- COPY at the head of Mule `n`'s stream: the whole source is read before any byte is written (13 R332 to R334). -/
def State.muleCopy (s : State) (n d : Nat) : State :=
  let (c, capped) := s.muleBound n (muleCmd d)
  let u := muleStream n
  match (if c.xform = 0 then some fmtF32 else fmtOfByte c.fmt) with
  | none => s
  | some f =>
    let ins := c.ins f
    let outs := c.outs f
    if tooLarge ins outs then s.muleOverlap n d c capped
    else
      let writes := s.copyWrites c f
      let s1 := ins.foldl (fun s r => s.noteRead u r.1 r.2) s
      let s2 := writes.foldl (fun s w => s.writeAny u w.1 w.2) s1
      let bw := rangesLen outs
      s2.startCmd u (s.muleFlight n d c capped (moveCycles c.xform (rangesLen ins) bw) 0 bw [] outs)

/-- A destination that is an Ox queue needs its START credits at cycle 0 (12 R302). -/
def State.destReady (s : State) (d : Nat) : Bool :=
  match queueOfKey (locOfWord (muleCmd d).dst) with
  | some q => s.queueReady q
  | none => true

/-- MULE_COPY (13 R332). -/
def execMuleCopy (n : Fin 8) (s : State) : Host.Outcome State Fault Refusal :=
  match s.readyMule n.val 1 with
  | some d => .next (if s.destReady d then s.muleCopy n.val d else s)
  | none => .next s

/-! ## The stash (13 R326 to R329) -/

/-- The stash region that a command names, and the address of its directory. -/
def State.stashOf (s : State) (c : MuleCmd) : Region := s.region (bits c.pitch 16 8)
def Region.dir (r : Region) : Nat := r.base * 2 ^ 21
/-- First byte of the droppable area, and the byte at HIGH_WATER. -/
def Region.dropFrom (r : Region) : Nat := (r.base + r.arg0 + r.arg1) * 2 ^ 21
def Region.highWater (r : Region) : Nat := (r.base + r.arg2) * 2 ^ 21
/-- Address of the directory record a command names. -/
def Region.record (r : Region) (c : MuleCmd) : Nat := r.dir + 64 + 32 * bits c.pitch 0 16

/-- A directory record (13 Table 13-4). -/
def stashRecord (addr bytes : Nat) (stored : Bool) (step : Nat) : List Byte :=
  natLe 32 (fields [(0, addr / 256 % 2 ^ 40), (64, bytes % 2 ^ 32), (96, b2n stored), (128, step % 2 ^ 40)])

/-- The directory header with TOP (13 R326). -/
def State.setTop (s : State) (u : Nat) (r : Region) (top : Nat) : State := s.hbmWrite u r.dir (natLe 8 (top % 2 ^ 48))

/-- STASH_PUT at the head of Mule `n`'s stream (13 R328). An entry not stored has no address: its record's ADDR is free (log 5). -/
def State.stashPutCmd (s : State) (n d : Nat) : State :=
  let (c, capped) := s.muleBound n (muleCmd d)
  let u := muleStream n
  let r := s.stashOf c
  let top := if c.reset then r.dropFrom else s.readNat r.dir 8 % 2 ^ 48
  let size := c.bytes
  let from_ := locOfWord c.src
  let s0 := if c.reset then s.setTop u r top else s.noteRead u r.dir 8
  if top + size ≤ r.highWater then
    if tooLarge [(from_, size)] [(top, size)] then s.muleOverlap n d c capped
    else
      let s1 := (s0.noteRead u from_ size).write u top (s.read from_ size)
      let s2 := (s1.write u (r.record c) (stashRecord top size true s.plan.step)).setTop u r (top + roundUp size 256)
      s2.startCmd u (s.muleFlight n d c capped (moveCycles 0 size size) 0 size []
        [(top, size), (r.record c, 32), (r.dir, 8)])
  else
    let a := s0.drawNat
    let s1 := a.2.write u (r.record c) (stashRecord (256 * a.1) size false s.plan.step)
    s1.startCmd u (s.muleFlight n d c capped 80 2 0 [(MemCnt.stashDropped, 1)] [(r.record c, 32)])

/-- STASH_PUT (13 R328). -/
def execStashPut (n : Fin 8) (s : State) : Host.Outcome State Fault Refusal :=
  match s.readyMule n.val 2 with
  | some d => .next (s.stashPutCmd n.val d)
  | none => .next s

/-- The addresses of a fan-out block in Mule `n`'s control memory (10 R246, 13 R329). -/
def State.muleFan (s : State) (n : Nat) (c : MuleCmd) : List Nat :=
  let fan := muleKey n c.fan
  (List.range (s.natAt fan 8)).map (fun i => locOfWord (s.natAt (fan + 8 + 8 * i) 8))

/-- STASH_GET at the head of Mule `n`'s stream (13 R329). -/
def State.stashGetCmd (s : State) (n d : Nat) : State :=
  let c := muleCmd d
  let u := muleStream n
  let r := s.stashOf c
  let rec_ := s.readNat (r.record c) 32
  let size := bits rec_ 64 32
  let from_ := addr256 (bits rec_ 0 40)
  let to_ := locOfWord c.dst
  let fresh := bit rec_ 96 && decide (bits rec_ 128 40 = s.plan.step % 2 ^ 40)
  let dests := s.muleFan n c
  let tell := fun (s : State) (count : Nat) => dests.foldl (fun s k => s.write u k (natLe 8 count)) s
  let fanOuts := dests.map (fun k => (k, 8))
  let s0 := s.noteRead u (r.record c) 32
  if fresh then
    if tooLarge [(from_, size)] [(to_, size)] then s.muleOverlap n d c false
    else
      let s1 := (s0.noteRead u from_ size).writeAny u to_ (s.read from_ size)
      (tell s1 0).startCmd u (s.muleFlight n d c false (moveCycles 0 size size + 4 * dests.length) 0 size []
        ((to_, size) :: fanOuts))
  else
    (tell s0 0xFFFFFFFF).startCmd u (s.muleFlight n d c false (moveCycles 0 0 0 + 4 * dests.length) 3 0
      [(MemCnt.stashRecomp, 1)] fanOuts)

/-- STASH_GET (13 R329). -/
def execStashGet (n : Fin 8) (s : State) : Host.Outcome State Fault Refusal :=
  match s.readyMule n.val 3 with
  | some d => .next (if s.destReady d then s.stashGetCmd n.val d else s)
  | none => .next s

/-! ## Copy-on-write and scrub -/

/-- COW_WRITE_HOLD (13 R323): a write to a page with WP = 1 is held while the page is copied. -/
def execCowWriteHold (page : Fin 262144) (offset : Nat) (data : List Byte) (s : State) : Host.Outcome State Fault Refusal :=
  match checked (.cowWriteHold page offset data) s with
  | .next s =>
    let e := s.pteOf page.val
    if e.valid && e.wp && !e.ro then .next (s.holdWrite s.shadowBase (210 + page.val % 8) page.val offset data) else .next s
  | o => o

/-- Steps 3 to 5 of R323: the page's 2 MiB copied to its shadow page, COPIED set and WP cleared, held writes released in order. -/
def State.copyPage (s : State) (p : Nat) : State :=
  let e := s.pteOf p
  let u := 210 + p % 8
  let data := s.hbmBytes (p * 2 ^ 21) (2 ^ 21)
  let s1 := (s.hbmNoteRead u (p * 2 ^ 21) (2 ^ 21)).lineWrite u (e.shadow * 2 ^ 21) data
  let s2 := s1.setPte p { s1.pteOf p with copied := true, wp := false }
  let mine := s2.heldWrites.filter (fun h => h.page == p)
  mine.foldl (fun s h => s.lineWrite h.req (p * 2 ^ 21 + h.offset) h.data)
    { s2 with heldWrites := s2.heldWrites.filter (fun h => h.page != p) }

/-- COW_COPY_DONE (13 R323): `held` is the cycles that writers spent held; messages whose bytes have now landed are acknowledged (15
R382). -/
def execCowCopyDone (page : Fin 262144) (held : Nat) (s : State) : Host.Outcome State Fault Refusal :=
  if s.heldWrites.any (fun h => h.page == page.val) && (s.pteOf page.val).wp then
    .next ((s.copyPage page.val).bumps [(MemCnt.cowCopies, 1), (MemCnt.cowHoldCyc, held)]).settleAcks
  else .next s

/-- PATROL_SCRUB (13 R318): a line read by its Mule's patrol scrub, and what the read met; an uncorrectable line stays so until it
is written. -/
def execPatrolScrub (line : Nat) (ecc : EccOutcome) (s : State) : Host.Outcome State Fault Refusal :=
  match checked (.patrolScrub line ecc) s with
  | .next s =>
    if s.dev.state = .cold || decide (s.dev.stepDone < 5) then .next s
    else if ecc = .uncorrectable || decide (Tab.get 0 s.lineErr line = 2) then
      .next (({ s with lineErr := Tab.set 0 s.lineErr line 2 } : State).eccUe line false)
    else if ecc = .corrected then .next (s.eccCe line)
    else .next s
  | o => o

end Sys2Proof.Machine
end

