-- ==== Sys2Proof/Machine/UpdateRows.lean ====
section
/-! DEFINITION. The update engine (08): group scalars, the recurrence, clipping, the five operations and the commit gate that
the gated ones read at cycle 0. -/

namespace Sys2Proof.Machine

/-- An update descriptor (08 Table 08-7). -/
structure UpdCmd where
  uop : Nat
  health : Bool
  clr : Bool
  axis : Nat
  grecW : Bool
  group : Nat
  patW : Nat
  patG : Nat
  patM : Nat
  patV : Nat
  patC : Nat
  patOw : Nat
  patOm : Nat
  patOv : Nat
  patOwk : Nat
  patOgen : Nat
  recAddr : Nat
  grec : Nat
  stat : Nat
  layer : Nat
  mbatch : Nat
  planCyc : Nat
  slackCyc : Nat
deriving DecidableEq, Repr

/-- The fields of an update descriptor (08 Table 08-7). -/
def updCmd (d : Nat) : UpdCmd :=
  { uop := bits d 128 8, health := bit d 136, clr := bit d 137, axis := bits d 138 1, grecW := bit d 139,
    group := bits d 144 8, patW := bits d 160 15, patG := bits d 176 15, patM := bits d 192 15, patV := bits d 208 15,
    patC := bits d 224 15, patOw := bits d 240 15, patOm := bits d 256 15, patOv := bits d 272 15, patOwk := bits d 288 15,
    patOgen := bits d 304 15, recAddr := bits d 320 15, grec := bits d 336 15, stat := bits d 352 15, layer := bits d 368 16,
    mbatch := bits d 384 16, planCyc := bits d 400 32, slackCyc := bits d 432 16 }

/-- A coefficient entry (08 Table 08-1). -/
structure Coef where
  a1 : Word
  a2 : Word
  b1 : Word
  b2 : Word
  cg : Word
  cm : Word
  eps : Word
  d : Word
  lam : Word
  etaMul : Word
  rows : Nat
  cols : Nat
  vMode : Nat
  clip : Nat
  bias : Bool
  schedBase : Nat
  schedLen : Nat
  rkey : Nat
deriving DecidableEq, Repr

/-- Coefficient entry `i` of Goat `g` (08 R187). -/
def State.coef (s : State) (g i : Nat) : Coef :=
  let v := s.natAt (spaceKey (coefSpace g) (64 * i)) 64
  let f := fun k => BitVec.ofNat 32 (bits v (32 * k) 32)
  { a1 := f 0, a2 := f 1, b1 := f 2, b2 := f 3, cg := f 4, cm := f 5, eps := f 6, d := f 7, lam := f 8, etaMul := f 9,
    rows := bits v 320 32, cols := bits v 352 32, vMode := bits v 384 2, clip := bits v 386 2, bias := bit v 388,
    schedBase := bits v 392 10, schedLen := bits v 402 10 + 1, rkey := bits v 448 64 }

/-- sched(ent, t): the last segment whose START is at most `t` (08 R188). -/
def State.sched (s : State) (g : Nat) (e : Coef) (t : Nat) : Word :=
  let segs := (List.range e.schedLen).map (fun i => s.natAt (spaceKey (schedSpace g) (16 * (e.schedBase + i))) 16)
  match (segs.filter (fun v => decide (bits v 0 40 ≤ t))).getLast? with
  | some v => ffma (BitVec.ofNat 32 (bits v 96 32)) (natToF32 (t - bits v 0 40)) (BitVec.ofNat 32 (bits v 64 32))
  | none => nan32

/-- The lane tree of a reduction record's lanes (06 R147). -/
def laneTree (l : List Word) : Word := (treeOf fadd 7 l).headD 0

/-- FP32 words at a key. -/
def State.wordsAt (s : State) (key n : Nat) : List Word := (List.range n).map (fun i => BitVec.ofNat 32 (s.natAt (key + 4 * i) 4))

/-- What group_scalars gives (08 R184). -/
structure GroupScalars where
  p1 : Word
  p2 : Word
  k1 : Word
  k2 : Word
  rbar : Word
  rms : Word
  eta : Word
deriving DecidableEq, Repr

/-- group_scalars at cycle 0 (08 R184): the group record, the reduction record, the step being committed. -/
def State.groupScalars (s : State) (g : Nat) (c : UpdCmd) (e : Coef) : GroupScalars :=
  let p1 := fmul (BitVec.ofNat 32 (s.natAt (goatKey g c.grec) 4)) e.a1
  let p2 := fmul (BitVec.ofNat 32 (s.natAt (goatKey g c.grec + 4) 4)) e.b1
  let rl := s.wordsAt (goatKey g c.recAddr + 64) 128
  let ul := s.wordsAt (goatKey g c.recAddr + 576) 128
  { p1 := p1, p2 := p2, k1 := if e.bias then fdiv one32 (fsub one32 p1) else one32,
    k2 := if e.bias then fdiv one32 (fsub one32 p2) else one32, rbar := fdiv (laneTree rl) (natToF32 e.rows),
    rms := fsqrt (fdiv (laneTree ul) (natToF32 (e.rows * e.cols))),
    eta := fmul e.etaMul (s.sched g e (s.plan.step - 1)) }

/-- Group scalars as words, and back: what a command that waits for bank tokens keeps of its cycle 0. -/
def GroupScalars.words (k : GroupScalars) : List Word := [k.p1, k.p2, k.k1, k.k2, k.rbar, k.rms, k.eta]
def scalarsOf (l : List Word) : GroupScalars :=
  { p1 := l.getD 0 0, p2 := l.getD 1 0, k1 := l.getD 2 0, k2 := l.getD 3 0, rbar := l.getD 4 0, rms := l.getD 5 0,
    eta := l.getD 6 0 }

/-- pre: m′, v′ and the unclipped u of one element (08 R184). -/
def updPre (e : Coef) (k : GroupScalars) (g m v rv cv : Word) : Word × Word × Word :=
  let m1 := ffma e.a1 m (fmul e.a2 g)
  let mh := if e.bias then fmul m1 k.k1 else m1
  let num := ffma e.cg g (fmul e.cm mh)
  if e.vMode = 0 then (m1, 0, num)
  else
    let v1 := if e.vMode = 1 then ffma e.b1 v (fmul e.b2 (fmul g g)) else 0
    let vh := if e.vMode = 1 then v1 else if isZero32 k.rbar then 0 else fdiv (fmul rv cv) k.rbar
    let vh' := if e.bias then fmul vh k.k2 else vh
    (m1, v1, fdiv num (fadd (fsqrt vh') e.eps))

/-- The clip factor k (08 R184). -/
def clipK (e : Coef) (kblk rms : Word) : Word :=
  if e.clip = 1 then fmax one32 (fdiv kblk e.d) else if e.clip = 2 then fmax one32 (fdiv rms e.d) else one32

/-- post: w′ of one element (08 R184). -/
def updPost (e : Coef) (eta w u0 k : Word) : Word :=
  let u := fdiv u0 k
  ffma (fneg eta) (ffma e.lam w u) w

/-- The block RMS of 08 R186 over the elements of a block that lie in the shape. -/
def blockRms (us : List Word) : Word :=
  fsqrt (fdiv ((us.map (fun u => fmul u u)).foldl fadd 0) (natToF32 us.length))

/-! ## The input streams of a command -/

/-- Input patterns of an operation (08 Table 08-4). -/
def UpdCmd.inPats (c : UpdCmd) (e : Coef) : List Nat :=
  let m := if c.patM = 0 then [] else [c.patM]
  let v := if e.vMode = 1 then [c.patV] else if e.vMode = 2 then [c.patV, c.patC] else []
  match c.uop with
  | 0x01 => [c.patG, c.patV, c.patC]
  | 0x02 => [c.patV, c.patC]
  | 0x03 => [c.patG] ++ m ++ v
  | 0x04 => [c.patW, c.patG] ++ m ++ v
  | _ => [c.patW]

/-- Output patterns of an operation with the number that its key draws with (08 Table 08-4, R193, R194). -/
def UpdCmd.outPats (c : UpdCmd) (e : Coef) : List (Nat × Nat) :=
  let copies := (if c.patOwk = 0 then [] else [(c.patOwk, 3)]) ++ (if c.patOgen = 0 then [] else [(c.patOgen, 4)])
  match c.uop with
  | 0x01 => [(c.patV, 0), (c.patC, 0)]
  | 0x02 => [(c.patOv, 2)]
  | 0x03 => []
  | 0x04 => [(c.patOw, 0)] ++ (if c.patOm = 0 then [] else [(c.patOm, 1)]) ++ (if e.vMode = 1 then [(c.patOv, 2)] else [])
      ++ copies
  | _ => copies

/-- The element count E of a command. -/
def State.updCount (s : State) (g : Nat) (c : UpdCmd) : Nat :=
  (s.pat g (if c.uop = 0x01 || c.uop = 0x03 then c.patG else if c.uop = 0x02 then c.patC else c.patW)).total

/-- Elements per cycle (08 R200). -/
def updRate (uop : Nat) : Nat := if uop = 0x01 || uop = 0x02 then 128 else if uop = 0x04 then 32 else 64

/-- Bits and tag or scale bytes that a KIND 2 output writes (08 R200). -/
def Pat.portLoad (p : Pat) : Nat × Nat :=
  match fmtOfByte p.fmt with
  | some f =>
    if p.kind = 2 then
      let els := (p.outEls (List.replicate p.total 0)).filter (fun e => e.grid)
      let aux := (groupsOf f.comp els).length
      (els.length * f.elem.bits + 8 * aux, aux)
    else (0, 0)
  | none => (0, 0)

/-- T without stalls (08 R200); it depends on no data and not on the gate. -/
def State.updCycles (s : State) (g : Nat) (c : UpdCmd) (e : Coef) : Nat :=
  let ins := (c.inPats e).map (s.pat g)
  let outs := (c.outPats e).map (fun o => s.pat g o.1)
  let cs := (ins.map Pat.cycles ++ outs.map (fun p => p.cycles + ceilDiv p.portLoad.2 256)).foldl Nat.max 0
  let port := ceilDiv (outs.foldl (fun a p => a + p.portLoad.1) 0) 2048
  Nat.max (Nat.max (ceilDiv (s.updCount g c) (updRate c.uop)) cs) port + 96

/-! ## Effects -/

/-- What an operation leaves: the state, its counts, the ranges written, the counts of clipped blocks and commands. -/
structure UpdOut where
  state : State
  counts : DrainCounts
  outs : List (Nat × Nat)
  blocks : Nat
  clipped : Nat
deriving DecidableEq, Repr

/-- One output of a command written under its key RKEY xor `o` (08 R194). -/
def UpdOut.emit (a : UpdOut) (g : Nat) (c : UpdCmd) (e : Coef) (pat o : Nat) (els : Pat → List OutEl) : UpdOut :=
  let p := a.state.pat g pat
  let w := a.state.drainEls g p false { key := e.rkey ^^^ o, layer := c.layer, mbatch := c.mbatch } (els p)
  { a with state := w.state, counts := a.counts.join w.counts, outs := a.outs ++ w.outs }

/-- Nothing done yet. -/
def State.updStart (s : State) : UpdOut := { state := s, counts := DrainCounts.zero, outs := [], blocks := 0, clipped := 0 }

/-- 128 lanes at `off` of a reduction record and their count at `cnt`: values added in lane (count + e) mod 128 (08 R190,
R191). -/
def State.addLanes (s : State) (rec off cnt : Nat) (clr : Bool) (ws : List Word) : State :=
  let n0 := if clr then 0 else s.natAt (rec + cnt) 5
  let l0 := if clr then List.replicate 128 (0 : Word) else s.wordsAt (rec + off) 128
  let l := ((List.range ws.length).zip ws).foldl (fun l x =>
    let i := (n0 + x.1) % 128
    l.set i (fadd (l.getD i 0) x.2)) l0
  (s.poke (rec + off) (l.flatMap (fun w => natLe 4 w.toNat))).poke (rec + cnt) (natLe 5 ((n0 + ws.length) % 2 ^ 40))

/-- The final value of each location that a U_STATS stream names: squares added in enumeration order (08 R191). -/
def State.statEls (s : State) (g : Nat) (clr : Bool) (sq : List Word) (p : Pat) : List OutEl :=
  let old := s.readPat g p
  ((p.outEls sq).foldl (fun (t : Tab (Option OutEl)) x =>
    let k := x.tile * 16384 + x.pos
    let prev := match Tab.get none t k with
      | some y => y.word
      | none => if clr then 0 else old.getD x.idx 0
    Tab.set none t k (some { x with word := fadd prev x.word })) []).filterMap (fun x => x.2)

/-- U_STATS (08 R191). -/
def State.updStats (s : State) (g : Nat) (c : UpdCmd) (e : Coef) : UpdOut :=
  let sq := (s.readPat g (s.pat g c.patG)).map (fun v => fmul v v)
  let a := s.updStart.emit g c e c.patV 0 (s.statEls g c.clr sq)
  a.emit g c e c.patC 0 (a.state.statEls g c.clr sq)

/-- A result as its plain output format holds it, read back as FP32 (08 R191). -/
def readBack (p : Pat) (draw : Nat) (w : Word) : Word :=
  match fmtOfByte p.fmt with
  | some f =>
    let code := (convPlain f.elem (rmodeOf p.rnd) (bit p.rnd 2) draw (ofF32 w)).1
    if f = fmtF32 then BitVec.ofNat 32 code else toF32 (elemVal f code)
  | none => w

/-- U_FACT (08 R191). -/
def State.updFact (s : State) (g : Nat) (c : UpdCmd) (e : Coef) : UpdOut :=
  let old := s.readPat g (s.pat g c.patV)
  let sums := s.readPat g (s.pat g c.patC)
  let n := natToF32 (if c.axis = 0 then e.cols else e.rows)
  let res := List.zipWith (fun r x => ffma e.b1 r (fmul e.b2 (fdiv x n))) old sums
  let p := s.pat g c.patOv
  let a := s.updStart.emit g c e c.patOv 2 (fun p => p.outEls res)
  if c.axis = 0 then
    let r : Draws := { key := e.rkey ^^^ 2, layer := c.layer, mbatch := c.mbatch }
    let back := ((List.range res.length).zip res).map (fun x => readBack p (s.draw r x.1) x.2)
    { a with state := a.state.addLanes (goatKey g c.recAddr) 64 0 c.clr back,
             outs := a.outs ++ [(goatKey g c.recAddr, 13), (goatKey g c.recAddr + 64, 512)] }
  else a

/-- pre over every element of a command: m′, v′, u0 in enumeration order. -/
def State.updPres (s : State) (g : Nat) (c : UpdCmd) (e : Coef) (k : GroupScalars) : List (Word × Word × Word) :=
  let gs := s.readPat g (s.pat g c.patG)
  let rd := fun (p : Nat) => s.readPat g (s.pat g p)
  let ms := if c.patM = 0 then [] else rd c.patM
  let vs := if e.vMode = 0 then [] else rd c.patV
  let cs := if e.vMode = 2 then rd c.patC else []
  (List.range gs.length).map (fun i =>
    let v := vs.getD i 0
    updPre e k (gs.getD i 0) (ms.getD i 0) v v (cs.getD i 0))

/-- U_USUM (08 R191), from the group scalars of its cycle 0. -/
def State.updUsum (s : State) (g : Nat) (c : UpdCmd) (e : Coef) (k : GroupScalars) : UpdOut :=
  let sq := (s.updPres g c e k).map (fun x => fmul x.2.2 x.2.2)
  { s.updStart with state := s.addLanes (goatKey g c.recAddr) 576 8 c.clr sq,
                    outs := [(goatKey g c.recAddr, 13), (goatKey g c.recAddr + 576, 512)] }

/-- The factor k of each element of a U_APPLY: that of its block of 32 enumerated elements under CLIP = 1, over those in the
shape (08 R186, R192). -/
def State.clipKs (s : State) (g : Nat) (c : UpdCmd) (e : Coef) (k : GroupScalars) (us : List Word) : List Word :=
  let p := s.pat g c.patW
  let els := p.outEls us
  (pieces 32 us.length els).map (fun b =>
    clipK e (blockRms ((b.filter (fun x => x.grid && x.shape)).map (fun x => x.word))) k.rms)

/-- The group record after a committed update (08 R191, Table 08-3). -/
def State.putGrec (s : State) (g : Nat) (c : UpdCmd) (k : GroupScalars) : State :=
  let key := goatKey g c.grec
  ((s.poke key (natLe 4 k.p1.toNat)).poke (key + 4) (natLe 4 k.p2.toNat)).poke (key + 8)
    (natLe 5 ((s.natAt (key + 8) 5 + 1) % 2 ^ 40))

/-- U_APPLY (08 R191 to R194), from the group scalars of its cycle 0. -/
def State.updApply (s : State) (g : Nat) (c : UpdCmd) (e : Coef) (k : GroupScalars) : UpdOut :=
  let pre := s.updPres g c e k
  let us := pre.map (fun x => x.2.2)
  let ks := s.clipKs g c e k us
  let ws := s.readPat g (s.pat g c.patW)
  let w1 := (List.range us.length).map (fun i => updPost e k.eta (ws.getD i 0) (us.getD i 0) (ks.getD (i / 32) one32))
  let res := fun o => if o = 1 then pre.map (fun x => x.1) else if o = 2 then pre.map (fun x => x.2.1) else w1
  let a := (c.outPats e).foldl (fun a o => a.emit g c e o.1 o.2 (fun p => p.outEls (res o.2))) s.updStart
  { a with state := if c.grecW then a.state.putGrec g c k else a.state,
           outs := a.outs ++ (if c.grecW then [(goatKey g c.grec, 13)] else []),
           blocks := if e.clip = 1 then (ks.filter (fun x => Machine.flt one32 x)).length else 0,
           clipped := b2n (decide (e.clip = 2) && Machine.flt one32 (clipK e 0 k.rms)) }

/-- U_CAST (08 R191, R194). -/
def State.updCast (s : State) (g : Nat) (c : UpdCmd) (e : Coef) : UpdOut :=
  let ws := s.readPat g (s.pat g c.patW)
  (c.outPats e).foldl (fun a o => a.emit g c e o.1 o.2 (fun p => p.outEls ws)) s.updStart

/-- Every output of a command under TOKEN_ORDER: canonical NaNs (05 R119). -/
def State.updNan (s : State) (g : Nat) (c : UpdCmd) (e : Coef) : UpdOut :=
  (c.outPats e).foldl (fun a o => a.emit g c e o.1 o.2 (fun p => p.outEls (List.replicate p.total nan32))) s.updStart

/-- The effect of an operation. -/
def State.updRun (s : State) (g : Nat) (c : UpdCmd) (e : Coef) (k : GroupScalars) : UpdOut :=
  match c.uop with
  | 0x01 => s.updStats g c e
  | 0x02 => s.updFact g c e
  | 0x03 => s.updUsum g c e k
  | 0x04 => s.updApply g c e k
  | _ => s.updCast g c e

/-! ## The gate (08 R196) -/

/-- The command in progress that an update command becomes. -/
def State.updFlight (s : State) (g d : Nat) (c : UpdCmd) (e : Coef) (code : Nat) (o : UpdOut) (bumps : List Bump) : InFlight :=
  { s.newFlight (goatStream g) d with
      cycles := s.updCycles g c e, code := if code = 1 then 1 else 0, planCyc := c.planCyc, slackCyc := c.slackCyc,
      status := code + o.counts.status, statBits := 7, statKey := some (goatKey g c.stat),
      bumps := (UpdCnt.commands g, 1) :: bumps, outs := o.outs, gated := updGated c.uop }

/-- The page of the first uncorrectable line that ranges written to HBM cover only in part (13 R318). -/
def State.ueUnder (s : State) (outs : List (Nat × Nat)) : Option Nat :=
  outs.findSome? (fun o =>
    if o.1 < 2 ^ 48 then
      ((s.badLines o.1 o.2).find? (fun e => e.2 == 2 && !(decide (o.1 ≤ 64 * e.1) && decide (64 * (e.1 + 1) ≤ o.1 + o.2)))).map
        (fun e => pageOf (64 * e.1))
    else none)

/-- An update command that runs and holds the tokens it waits for. An uncorrectable error under a gated command's write breaks
Promise 7 (08 R198). -/
def State.updIssue (s : State) (g : Nat) (w : Work) : State :=
  let c := updCmd w.desc
  let e := s.coef g c.group
  let bad := decide (w.code = 1)
  let o := if bad then s.updNan g c e else s.updRun g c e (scalarsOf w.vals)
  let s1 := o.state.returnTokens (w.released.map (fun b => b.1))
  let s2 := match s.ueUnder o.outs with
    | some p => if updGated c.uop then s1.raiseCause 0x03 p else s1
    | none => s1
  s2.launch (goatStream g)
    { s.updFlight g w.desc c e (b2n bad) o
        (o.counts.bumps g ++ [(UpdCnt.goCmds g, b2n (updGated c.uop)), (UpdCnt.clippedBlocks g, o.blocks),
          (UpdCnt.clippedCmds g, o.clipped), (GoatCnt.tokenOrder g, b2n bad)]) with
      nonfin := o.counts.marks g c.health, release := w.released }

/-- A gated command under SUPPRESS: it reads and writes nothing, keeps its timing, and reports CODE 5 (08 R196). -/
def State.updSuppress (s : State) (g : Nat) (w : Work) : State :=
  let c := updCmd w.desc
  let f := s.updFlight g w.desc c (s.coef g c.group) 5 s.updStart [(UpdCnt.suppressedCmds g, 1)]
  (s.returnTokens (w.released.map (fun b => b.1))).launch (goatStream g) { f with release := w.released }

/-- The update command in hand of Goat `g` has its effects once it waits for no token. -/
def State.updGo (s : State) (g : Nat) : State :=
  match s.goatDue g with
  | some w => if w.code = 5 then s.updSuppress g w else s.atStep w.step (fun s => s.updIssue g w)
  | none => s

/-- The counter of a wait that a DEADLINE or a role move has left short (15 R385); none if neither is. -/
def State.shortWait (s : State) (d : Nat) : Option Nat :=
  [dW0 d, dW1 d].find? (fun i => s.ctrShort i)

/-- Cycle 0 of an update command: `code` is 5 under SUPPRESS; group_scalars is evaluated (08 R184), and the command waits for the
bank tokens its inputs name (05 R119). -/
def State.updBegin (s : State) (g d code : Nat) : State :=
  let c := updCmd d
  let e := s.coef g c.group
  let w : Work := { s.newWork d with code := code, vals := (s.groupScalars g c e).words }
  (s.goatPark g w ((c.inPats e).map (s.pat g)) c.planCyc c.slackCyc (goatKey g c.stat)).setLast (goatStream g)
    (fun f => { f with gated := updGated c.uop })

/-- A gated command at cycle 0 reads DECISION (08 R196); under GO a short wait breaks the update's promise (16 R415). -/
def State.updGate (s : State) (g d : Nat) : State :=
  if s.plan.decision = 1 then
    match s.shortWait d with
    | some i => s.raiseCause 0x0C i
    | none => (s.updBegin g d 0).updGo g
  else if s.plan.decision = 2 then (s.updBegin g d 5).updGo g
  else s.raiseCause 0x0B (if s.plan.decision = 3 then s.plan.dstep else s.plan.step)

/-- The update operation `uop` of Goat `g`, if its cycle 0 has come: its outputs' credits are there (12 R302). -/
def State.updOp (s : State) (g uop : Nat) : State :=
  match s.readyGoat g 4 uop with
  | some d =>
    let c := updCmd d
    if (c.outPats (s.coef g c.group)).all (fun o => s.outReady g (s.pat g o.1)) then
      (if updGated uop then s.updGate g d else (s.updBegin g d 0).updGo g)
    else s
  | none => s

/-- U_STATS. -/
def execUStats (g : Fin 60) (s : State) : Host.Outcome State Fault Refusal := .next (s.updOp g.val 0x01)
/-- U_FACT. -/
def execUFact (g : Fin 60) (s : State) : Host.Outcome State Fault Refusal := .next (s.updOp g.val 0x02)
/-- U_USUM. -/
def execUUsum (g : Fin 60) (s : State) : Host.Outcome State Fault Refusal := .next (s.updOp g.val 0x03)
/-- U_APPLY. -/
def execUApply (g : Fin 60) (s : State) : Host.Outcome State Fault Refusal := .next (s.updOp g.val 0x04)
/-- U_CAST. -/
def execUCast (g : Fin 60) (s : State) : Host.Outcome State Fault Refusal := .next (s.updOp g.val 0x05)

/-! ## Bank tokens reach the Goat -/

/-- The command in hand of Goat `g` goes on with the bank tokens that have come, in whichever engine runs it. -/
def State.resumeGoat (s : State) (g : Nat) : State :=
  let s1 := s.bankStep g
  match s1.parked (goatStream g) with
  | some w => if dUnit w.desc = 2 then s1.goatGo g else if dUnit w.desc = 3 then s1.rowGo g else s1.updGo g
  | none => s1

/-- BANK_TOKEN_PASS (05 R119): a token that the Ox has passed arrives at the Goat, whose command in hand may go on. -/
def execBankTokenPass (x : Fin 120) (bank : Fin 2) (s : State) : Host.Outcome State Fault Refusal :=
  let k := 2 * x.val + bank.val
  match s.bankToken k with
  | .toGoat t =>
    let s1 : State := { s with unit.tokens := Tab.set Token.atOx s.unit.tokens k (.atGoat t) }
    .next (if s1.flt.pendingEntry then s1 else s1.resumeGoat (x.val / 2))
  | _ => .next s

end Sys2Proof.Machine
end

