-- ==== Sys2Proof/Machine/PlanScan.lean ====
section
/-! DEFINITION. A plan as its load-time checks see it (12 R312): findings, the commands of every variant's streams, memories as the
plan's images stage them (12 R314), pattern blocks, and the ranges that a command reads and writes at its caps. -/

namespace Sys2Proof.Machine

/-! ## Findings -/

/-- Where a check fails (12 R312): the stream, or 0xFF for a plan-wide structure, and the descriptor or entry. -/
abbrev Finding := Nat × Nat

/-- Plan-wide findings at the given entries. -/
def wide (l : List Nat) : List Finding := l.map (fun i => (0xFF, i))

/-- A plan-wide finding unless `ok`. -/
def must (ok : Bool) : List Finding := if ok then [] else [(0xFF, 0)]

/-- Indices of the elements that fail. -/
def badIdx {α : Type} (ok : α → Bool) (l : List α) : List Nat := (l.zipIdx.filter (fun x => !ok x.1)).map (fun x => x.2)

/-- Bits [lo + w - 1 : lo] of a number are 0. -/
def zeroBits (v lo w : Nat) : Bool := decide (bits v lo w = 0)

/-- Every field of the list (lowest bit, width) is 0. -/
def clearBits (v : Nat) (l : List (Nat × Nat)) : Bool := l.all (fun r => zeroBits v r.1 r.2)

/-! ## Commands -/

/-- A command of a plan: variant, stream, position in the stream, index in section 10, and its 512 bits. -/
structure PlanCmd where
  v : Nat
  u : Nat
  pos : Nat
  ix : Nat
  d : Nat
deriving DecidableEq, Repr

/-- The stream's entry lies in a stream table inside section 11, and its descriptors in section 10. -/
def State.streamOk (s : State) (v u : Nat) : Bool :=
  let t := s.streamTab v u
  decide (s.variantBits v 0 40 + 1808 ≤ s.secLen 11) && decide (64 * (t.1 + t.2) ≤ s.secLen 10)

/-- The commands of a stream in a variant. -/
def State.cmdsOf (s : State) (v u : Nat) : List PlanCmd :=
  if s.streamOk v u then
    let t := s.streamTab v u
    (List.range t.2).map (fun i => { v := v, u := u, pos := i, ix := t.1 + i, d := s.descAt (t.1 + i) })
  else []

/-- The commands of a variant, stream by stream. -/
def State.variantCmds (s : State) (v : Nat) : List PlanCmd := (List.range 226).flatMap (s.cmdsOf v)

/-- The commands of every variant. -/
def State.planCmds (s : State) : List PlanCmd := (List.range 16).flatMap s.variantCmds

/-- Findings at the commands that fail. -/
def State.badCmds (s : State) (ok : PlanCmd → Bool) : List Finding := (s.planCmds.filter (fun c => !ok c)).map (fun c => (c.u, c.ix))

/-- UNIT codes that a stream may carry (12 R283). -/
def unitsOf (u : Nat) : List Nat := if u < 120 then [1] else if u < 180 then [2, 3, 4] else if u < 210 then [5] else if u < 218 then [6] else [7]

/-- The command's unit within its kind: Ox, Goat, Hen, Mule or port number. -/
def PlanCmd.num (c : PlanCmd) : Nat :=
  if c.u < 120 then c.u else if c.u < 180 then c.u - 120 else if c.u < 210 then c.u - 180 else if c.u < 218 then c.u - 210 else c.u - 218

/-- An EXEC command of unit kind `k` in a stream that may carry it. -/
def PlanCmd.isExec (c : PlanCmd) (k : Nat) : Bool := decide (dOpc c.d = 0) && decide (dUnit c.d = k) && (unitsOf c.u).contains k

/-- The operation code of an EXEC command, [135:128]. -/
def PlanCmd.op (c : PlanCmd) : Nat := bits c.d 128 8

/-- SHAPE of the common header (12 Table 12-5). -/
def dShape (d : Nat) : Bool := bit d 125

/-! ## Alternatives (12 R289) -/

/-- Descriptors of the three alternatives of a SELECT. -/
def selectLens (d : Nat) : Nat × Nat × Nat := (bits d 144 20, bits d 164 20, bits d 184 20)
def selectSpan (d : Nat) : Nat := (selectLens d).1 + (selectLens d).2.1 + (selectLens d).2.2

/-- The alternatives of a SELECT whose stream goes on with `l`. -/
def selectAlts (d : Nat) (l : List PlanCmd) : List (List PlanCmd) :=
  let n := selectLens d
  [l.take n.1, (l.drop n.1).take n.2.1, (l.drop (n.1 + n.2.1)).take n.2.2]

/-- The commands that `keep` names, in order, under every choice of alternatives, each of which may run; the first argument is no
less than the number of commands. -/
def paths (keep : PlanCmd → Bool) : Nat → List PlanCmd → List (List PlanCmd)
  | _, [] => [[]]
  | 0, _ => [[]]
  | n + 1, c :: l =>
    let here := if keep c then [c] else []
    if dOpc c.d = 3 then
      let ways := ((selectAlts c.d l).map (fun a => a.filter keep)).eraseDups
      let rest := paths keep n (l.drop (selectSpan c.d))
      ways.flatMap (fun a => rest.map (fun r => here ++ a ++ r))
    else (paths keep n l).map (fun r => here ++ r)

/-- The paths of a stream. -/
def State.pathsOf (s : State) (keep : PlanCmd → Bool) (v u : Nat) : List (List PlanCmd) :=
  let l := s.cmdsOf v u
  paths keep l.length l

/-! ## Plan images (12 R314) -/

/-- Entry `i` of the image directory, and the entries. -/
def State.imageEntry (s : State) (i : Nat) : Nat := s.planNat (s.secOff 9 + 576 + 32 * i) 32
def State.imageCount (s : State) : Nat := if s.secLen 9 < 576 then 0 else s.planNat (s.secOff 9 + 512) 2
def State.images (s : State) : List Nat := (List.range s.imageCount).map s.imageEntry

/-- Bytes of an image. -/
def State.imageData (s : State) (e : Nat) : List Byte := s.bytesAt (s.plan.base + s.secOff 9 + bits e 64 40) (bits e 128 32)

/-- A scratchpad image covers byte `a` of unit `n` of kind `kind` (12 Table 12-14). -/
def imageCovers (e kind n a : Nat) : Bool :=
  decide (bits e 0 2 = 1) && decide (bits e 4 3 = kind) && (bit e 7 || decide (bits e 8 8 = n))
    && decide (bits e 32 32 ≤ a) && decide (a < bits e 32 32 + bits e 128 32)

/-- A scratchpad image laid where its entry says. -/
def State.pokeImage (s : State) (e : Nat) : State :=
  if bits e 0 2 = 1 then
    let nums := if bit e 7 then List.range (imageUnits (bits e 4 3)) else [bits e 8 8]
    nums.foldl (fun s' n => s'.poke (locKey (bits e 32 32) n (bits e 4 3 + 1)) (s.imageData e)) s
  else s

/-- The memories as the plan's images and the images of variant `v` stage them. -/
def State.staged (s : State) (v : Nat) : State :=
  (s.images.foldl State.pokeImage { s with mem := s.mem.filter (fun e => decide (e.1 < 2 ^ 48)) }).loadVariantImages v

/-- Images stage bytes [a, a + n) of unit `i` of image kind `kind`. -/
def State.stagedAt (s : State) (kind i a n : Nat) : Bool :=
  (List.range n).all (fun k => s.images.any (fun e => imageCovers e kind i (a + k)))

/-- The pattern block at unit `a` of Goat `g` in the staged state `t`, if images stage it. -/
def State.stagedPat (s t : State) (g a : Nat) : Option Pat := if s.stagedAt 1 g (64 * a) 64 then some (t.pat g a) else none

/-! ## Bytes of a stream -/

/-- The bytes of an element's code within its tile's value array (03 R52). -/
def codeSpan (e : Elem) (p : Nat) : Nat × Nat :=
  match e.bits with
  | 6 => (3 * (p / 4), 3)
  | 4 => (p / 2, 1)
  | w => (p * (w / 8), w / 8)

/-- Tile and position of each enumerated element (05 R116). -/
def Pat.cells (p : Pat) : List (Nat × Nat) := (List.range p.total).map (fun k => tilePos (p.offset k))

/-- Keys and lengths of the bytes of a stream whose value array and tag or scale array start at the given keys: codes, and tags or
scales; a compressed output takes whole tiles. A tile beyond the grid has no bytes (05 R117), nor has a bank (R118). -/
def Pat.spansAt (p : Pat) (key aux : Nat) (compress : Bool) : List (Nat × Nat) :=
  match fmtOfByte p.fmt with
  | some f =>
    if p.kind = 1 then []
    else
      let d : Place := { p.place 0 f compress with key := key, aux := aux }
      (p.cells.filter (fun c => p.inGrid c.1)).flatMap (fun c =>
        let v := codeSpan f.elem c.2
        [if compress then (d.key + c.1 * d.tileLen, d.tileLen) else (d.key + c.1 * d.tileLen + v.1, v.2),
          (d.aux + c.1 * d.sliceLen + auxIn f.comp c.2, 1)])
  | none => []

/-- The bytes of a stream of Goat `g`. -/
def Pat.spans (p : Pat) (g : Nat) (compress : Bool) : List (Nat × Nat) := p.spansAt (p.keyOf g p.addr) (p.keyOf g p.aux) compress

/-! ## Ranges at the caps -/

/-- Pattern addresses that a command of a Goat's engine names for the streams it uses, each with true for an output (05 Table
05-2, 06 Table 06-1, 08 Table 08-4); `e` is an update command's coefficient entry. -/
def usedPats (d : Nat) (e : Coef) : List (Nat × Bool) :=
  match dUnit d with
  | 2 =>
    let c := goatCmd d
    ([c.patX, c.patY, c.patZ].take (goatInputs c.op)).map (fun a => (a, false)) ++ (if c.op = 0x10 then [] else [(c.patO, true)])
  | 3 =>
    let c := rowCmd d
    if c.rop = 0x20 then [(c.patO, true)]
    else if c.rop = 0x21 then [(c.patX, false)]
    else
      [(c.patX, false)] ++ (if 0x11 ≤ c.rop ∧ c.rop ≤ 0x14 then [(c.patY, false)] else [])
        ++ (if c.affine && decide (c.rop ∈ [0x01, 0x02, 0x11, 0x12]) then [(c.patG, false)] else [])
        ++ (if c.affine && decide (c.rop = 0x01) then [(c.patB, false)] else []) ++ [(c.patO, true)]
        ++ (if c.rop = 0x11 ∨ c.rop = 0x12 then [(c.patDg, true)] else []) ++ (if c.rop = 0x11 then [(c.patDb, true)] else [])
  | _ =>
    let c := updCmd d
    (c.inPats e).map (fun a => (a, false)) ++ (c.outPats e).map (fun a => (a.1, true))

/-- The coefficient entry of an update command. -/
def State.coefOf (t : State) (c : PlanCmd) : Coef := t.coef c.num (updCmd c.d).group

/-- The pattern blocks of a Goat command's outputs (`out`) or inputs, as far as `at_` gives them. -/
def State.patsBy (t : State) (at_ : Nat → Option Pat) (c : PlanCmd) (out : Bool) : List Pat :=
  (((usedPats c.d (t.coefOf c)).filter (fun x => x.2 == out)).map (fun x => x.1)).filterMap at_

/-- Ranges that a Goat command writes, as far as `at_` gives its pattern blocks. -/
def State.goatOutsBy (t : State) (at_ : Nat → Option Pat) (c : PlanCmd) : List (Nat × Nat) :=
  let g := c.num
  let pats := t.patsBy at_ c true
  let rest := match dUnit c.d with
    | 2 =>
      let q := goatCmd c.d
      (if q.tap then [(goatKey g q.tapAddr, 64)] else []) ++ [(goatKey g q.statAddr, 16)]
    | 3 => [(goatKey g (rowCmd c.d).statAddr, 16)]
    | _ =>
      let q := updCmd c.d
      (if (q.uop = 0x02 ∧ q.axis = 0) ∨ q.uop = 0x03 then [(goatKey g q.recAddr, 1088)] else [])
        ++ (if q.uop = 0x04 ∧ q.grecW = true then [(goatKey g q.grec, 64)] else []) ++ [(goatKey g q.stat, 16)]
  pats.flatMap (fun p => p.spans g (decide (dUnit c.d = 2) && (goatCmd c.d).compress)) ++ rest

/-- The ranges of a location list in a fan-out block at `key`, 8 bytes each (10 R246). -/
def State.fanOuts (t : State) (key : Nat) : List (Nat × Nat) :=
  (List.range (Nat.min 63 (t.natAt key 8))).map (fun i => (locOfWord (t.natAt (key + 8 + 8 * i) 8), 8))

/-- Ranges that a Hen command of HOP 0x01 to 0x04 writes, at its caps (09 R207, R210, R221, 14 R352). -/
def henOuts (h d : Nat) : List (Nat × Nat) :=
  let c := henCmd d
  let out := match fmtOfByte c.fmtA, bits d 128 8 with
    | some f, 0x01 => (blockAt (c.outKey h) c.count c.w f).outs c.count c.w
    | _, 0x02 => (blockAt (if c.tHbm then c.tbl else henKey h c.out) c.rows c.w fmtF32).outs c.rows c.w
    | _, 0x03 => [(c.outKey h, 65536 * ceilDiv c.w 128)]
    | _, _ => [(henKey h (bits d 192 14), 8 * bits d 256 7)]
  out ++ [(henKey h (if bits d 128 8 = 4 then bits d 304 14 else c.stat), 16)]

/-- Ranges that a Hen command of HOP 0x01 to 0x04 reads, at its caps. -/
def henIns (h d : Nat) : List (Nat × Nat) :=
  let c := henCmd d
  let sw := if c.swSel = 0 then [] else [(henKey h c.sw, 8)]
  let idx := (henKey h c.idx, 4 * c.count)
  match bits d 128 8, fmtOfByte c.fmtA, fmtOfByte c.fmtB with
  | 0x01, some f, _ => [idx] ++ blockRanges (if c.tHbm then c.tbl else henKey h c.src) c.rows c.w f ++ sw
  | 0x02, some f, _ => [idx] ++ blockRanges (henKey h c.src) c.count c.w f
      ++ [(if c.tHbm then c.tbl else henKey h c.out, tilesOf c.rows c.w * 65536)] ++ sw
  | 0x03, some f, some fb =>
    let n := ceilDiv c.k 128
    let a := n * (f.elem.tileBytes + f.elem.tileBytes / 64)
    [(henKey h c.src, a), (henKey h c.src + roundUp a 256, n * f.comp.sliceBytes)] ++ blockRanges (henKey h c.idx) c.k c.w fb ++ sw
  | 0x04, _, _ =>
    let n := bits d 256 7
    let t := tilesOf n (bits d 224 18) * 65536
    [(henKey h (bits d 160 14), t), (henKey h (bits d 208 14), 32 * n)]
      ++ (if bit d 136 then [(henKey h (bits d 176 14), t)] else [])
      ++ (if bits d 137 2 = 1 then [(henKey h (bits d 288 14), 8)] else [])
  | _, _, _ => []

/-- Ranges that an expert command writes, at its caps (10 Table 10-7). -/
def State.expertOuts (t : State) (h d : Nat) : List (Nat × Nat) :=
  let c := expCmd d
  let rt := t.router c.router
  let out := match c.hop, fmtOfByte c.fmt with
    | 0x10, _ => [(c.rec_, 16 * rt.k * c.count), (c.outA, 4 * rt.e), (henKey h c.aux, 2 * rt.e)]
    | 0x12, some f =>
      let n := rt.g * rt.quota
      let fo := if c.gscale then fmtF32 else f
      (blockAt c.outA n c.h fo).outs n c.h ++ [(c.rec_, 16 * n)] ++ t.fanOuts (henKey h c.aux)
    | 0x14, some f =>
      (blockAt c.outA c.count c.h fmtF32).outs c.count c.h
        ++ [(rt.bitmap (rt.answ.getD (c.epoch % 4) 0) c.h f, ceilDiv (rt.k * rt.tMax) 8)]
    | 0x16, _ => (blockAt c.outA c.count rt.e fmtF32).outs c.count rt.e
    | _, _ => []
  out ++ [(henKey h c.stat, 16)]

/-- Ranges that an expert command reads, at its caps. -/
def State.expertIns (t : State) (h d : Nat) : List (Nat × Nat) :=
  let c := expCmd d
  let rt := t.router c.router
  let recs := (c.rec_, 16 * rt.k * c.count)
  let answ := fun (base : Nat) (f : Fmt) => blockRanges base (rt.k * rt.tMax) c.h f ++ [(rt.bitmap base c.h f, ceilDiv (rt.k * rt.tMax) 8)]
  let ins := match c.hop, fmtOfByte c.fmt with
    | 0x10, _ => blockRanges c.inA c.count rt.e fmtF32 ++ [(rt.mapAddr, 2 * rt.e), (c.outA, 4 * rt.e), (henKey h c.aux, 2 * rt.e)]
    | 0x11, some f => blockRanges c.inA c.count c.h f ++ [recs, (rt.groupTab, 2 * rt.g)]
    | 0x12, some f => blockRanges (rt.recv.getD (c.epoch % 4) 0) (rt.s * rt.slotRows) c.h f
    | 0x13, some f => blockRanges c.inA c.count c.h f ++ [(c.rec_, 16 * c.count), (rt.groupTab, 2 * rt.g)]
    | 0x14, some f => answ (rt.answ.getD (c.epoch % 4) 0) f ++ [recs]
    | 0x16, some f => blockRanges c.inA c.count c.h f ++ answ c.ans f ++ [recs]
    | _, _ => []
  ins ++ (if c.swSel = 0 then [] else [(henKey h c.sw, 8)])

/-- FMT of a Mule command; plain FP32 stands for the copies that have none. -/
def muleFmt (c : MuleCmd) : Fmt := if c.xform = 0 then fmtF32 else (fmtOfByte c.fmt).getD fmtF32

/-- The most bytes that a STASH_GET can copy: those of the STASH_PUTs that write its record (13 R328, R329). -/
def State.stashBytes (t : State) (c : MuleCmd) : Nat :=
  (t.planCmds.filter (fun p => p.isExec 6 && decide (p.op = 2) && decide ((muleCmd p.d).pitch = c.pitch))).foldl
    (fun m p => Nat.max m (muleCmd p.d).bytes) 0

/-- Ranges that a Mule command writes, at its caps (13 R328, R329, R332): a STASH_PUT anywhere in its droppable area. -/
def State.muleOuts (t : State) (n d : Nat) : List (Nat × Nat) :=
  let c := muleCmd d
  let r := t.stashOf c
  let out := match bits d 128 8 with
    | 0x01 => c.outs (muleFmt c)
    | 0x02 => [(r.dropFrom, r.highWater - r.dropFrom), (r.record c, 32), (r.dir, 8)]
    | _ => (locOfWord c.dst, t.stashBytes c) :: t.fanOuts (muleKey n c.fan)
  out ++ [(muleKey n c.stat, 16)]

/-- Ranges that a Mule command reads, at its caps. -/
def State.muleIns (t : State) (n d : Nat) : List (Nat × Nat) :=
  let c := muleCmd d
  let r := t.stashOf c
  let ins := match bits d 128 8 with
    | 0x01 => c.ins (muleFmt c)
    | 0x02 => [(locOfWord c.src, c.bytes), (r.dir, 8)]
    | _ => [(r.dropFrom, r.highWater - r.dropFrom), (r.record c, 32), (muleKey n c.fan, 8)]
  ins ++ (if c.sw then [(muleKey n c.swAddr, 8)] else [])

/-- Ranges that a link-port command writes on this module (15 R384, R386). -/
def State.linkOuts (t : State) (d : Nat) : List (Nat × Nat) :=
  let c := linkCmd d
  (if c.xop = 4 then
    (if c.last then [(locOfWord c.dst, c.bytes)] else []) ++ (if t.latePolicy then [(c.carryAddr, if c.tr then t.trailerBytes else c.cBytes)] else [])
    else []) ++ [(spaceKey linkSpace (256 * c.stat), 16)]

/-- Ranges that a link-port command reads. -/
def State.linkIns (t : State) (d : Nat) : List (Nat × Nat) :=
  let c := linkCmd d
  match c.xop with
  | 4 => [(locOfWord c.src, if c.tr then t.trailerBytes else c.cBytes)]
  | 2 => []
  | _ => [(locOfWord c.src, c.bytes)]

/-- Ranges of an Ox's operands and of what it writes, by its caps (04 R80, R82, R101, R107). -/
def State.oxIns (t : State) (x d : Nat) : List (Nat × Nat) :=
  let c := oxCmd d
  let v := t.window (oxKey x c.winAddr)
  let fmt := fun b => (fmtOfByte b).getD fmtF32
  (if c.qA then [] else blockRanges (oxKey x c.aAddr) (c.shapeA v).1 (c.shapeA v).2 (fmt c.fmtA))
    ++ (if c.qB then [] else blockRanges (oxKey x c.bAddr) c.shapeB.1 c.shapeB.2 (fmt c.fmtB))
    ++ (if c.acc = 2 then blockRanges (oxKey x c.cAddr) c.m c.n (fmt c.fmtC) else [])
    ++ (if c.mask = 1 then [(oxKey x c.maskAddr, 2048 * c.tiles c.m c.n)] else [])
    ++ (if c.win then [(oxKey x c.winAddr, 64)] else []) ++ (if c.swSel = 0 then [] else [(oxKey x c.swAddr, 8)])
def oxOuts (x d : Nat) : List (Nat × Nat) :=
  let c := oxCmd d
  (if !c.last || decide (c.acc = 1) then [(oxKey x c.accAddr, 256 + 65536 * c.tiles c.m c.n)] else []) ++ [(oxKey x c.statAddr, 16)]

/-- Ranges that an EXEC command writes, with a Goat's pattern blocks as far as `at_` gives them; `t` is the staged state of its
variant. -/
def State.outsBy (t : State) (at_ : Nat → Option Pat) (c : PlanCmd) : List (Nat × Nat) :=
  if dOpc c.d ≠ 0 || !(unitsOf c.u).contains (dUnit c.d) then []
  else
    match dUnit c.d with
    | 1 => oxOuts c.num c.d
    | 5 => if c.op < 0x10 then henOuts c.num c.d else t.expertOuts c.num c.d
    | 6 => t.muleOuts c.num c.d
    | 7 => t.linkOuts c.d
    | _ => t.goatOutsBy at_ c

/-- Ranges that an EXEC command reads. -/
def State.insBy (t : State) (at_ : Nat → Option Pat) (c : PlanCmd) : List (Nat × Nat) :=
  if dOpc c.d ≠ 0 || !(unitsOf c.u).contains (dUnit c.d) then []
  else
    match dUnit c.d with
    | 1 => t.oxIns c.num c.d
    | 5 => if c.op < 0x10 then henIns c.num c.d else t.expertIns c.num c.d
    | 6 => t.muleIns c.num c.d
    | 7 => t.linkIns c.d
    | _ => (t.patsBy at_ c false).flatMap (fun p => p.spans c.num false)

/-- Some command of the plan writes a byte of [key, key + n), by its patterns as images stage them. -/
def State.rewritten (s : State) (key n : Nat) : Bool :=
  (List.range 16).any (fun v =>
    let t := s.staged v
    (s.variantCmds v).any (fun c => rangesMeet (t.outsBy (s.stagedPat t c.num) c) [(key, n)]))

/-- The pattern block of Goat `g` at unit `a`, if images stage it and no command of the plan rewrites it: the others are not checked
(05 R126). -/
def State.checkedPat (s t : State) (g a : Nat) : Option Pat :=
  if s.rewritten (goatKey g a) 64 then none else s.stagedPat t g a

/-- Ranges that a command writes and reads, by its checked pattern blocks. -/
def State.cmdOuts (s t : State) (c : PlanCmd) : List (Nat × Nat) := t.outsBy (s.checkedPat t c.num) c
def State.cmdIns (s t : State) (c : PlanCmd) : List (Nat × Nat) := t.insBy (s.checkedPat t c.num) c

end Sys2Proof.Machine
end

