-- ==== Sys2Proof/Machine/PlanCodes.lean ====
section
/-! DEFINITION. Load-time check class 0x02 (12 Table 12-12): reserved codes and bits in every structure of a plan, format bytes and
rounding controls (03 R49, R60), weight tables and images (12 R285, R286, R314). A field whose table gives it the value 0
otherwise counts as reserved then (log 131). -/

namespace Sys2Proof.Machine

/-! ## Plan-wide structures -/

/-- Reserved bits of the header are 0, and its counts and interval lie in their ranges (12 Table 12-1). -/
def State.headerOk (s : State) : Bool :=
  clearBits (s.planNat 0 64) [(48, 16), (169, 7), (191, 1), (207, 1), (223, 1), (423, 1), (464, 48)]
    && decide (1 ≤ s.fmtInterval) && decide (s.routers ≤ 256) && decide (s.selEntries ≤ 4096)

/-- No reserved code or bit of a timetable entry (11 Tables 11-4, 11-5). -/
def entryCodes (v : Nat) : Bool :=
  let k := bits v 48 5
  let arg := bits v 56 8
  zeroBits v 53 3 && zeroBits v 112 16 && decide (1 ≤ k) && decide (k ≤ 10)
    && (if k = 7 then decide (arg < 16) && decide (4 ≤ arg) else if k = 8 ∨ k = 9 then decide (arg < 4) else decide (arg = 0))
    && (decide (k ≤ 2) || zeroBits v 80 32)

/-- No reserved code or bit of a region entry; an unused one is ignored (13 Tables 13-2, 13-3). -/
def regionCodes (v : Nat) : Bool :=
  let k := bits v 0 4
  decide (k = 0) || (decide (k ≤ 10) && clearBits v [(4, 28), (50, 14), (83, 13), (192, 64)]
    && (decide (k = 4) || decide (k = 5) || (zeroBits v 96 32 && zeroBits v 128 32)) && (decide (k = 4) || zeroBits v 160 32))

/-- No reserved code or bit of a router entry (10 Table 10-1). -/
def routerCodes (v : Nat) : Bool :=
  clearBits v [(19, 5), (37, 11), (84, 12), (124, 4), (155, 5), (162, 14), (219, 5), (736, 288)]
    && decide (bits v 17 2 < 3) && decide (bits v 160 2 < 3)

/-- No reserved code or bit of a selection entry (07 Table 07-4). -/
def selCodes (v : Nat) : Bool := clearBits v [(21, 3), (27, 5), (56, 8)] && decide (bits v 24 2 < 3)

/-- Reserved bits of a variant table entry (12 Table 12-3). -/
def variantCodes (v : Nat) : Bool := clearBits v [(40, 24), (104, 24), (168, 24), (232, 24), (296, 24), (324, 188)]

/-- Reserved bits of a Mule weight table (12 R285). -/
def State.muleWeightsOk (s : State) (off : Nat) : Bool := (List.range 8).all (fun n => decide (s.varNat (off + 128 * n + 118) 10 = 0))

/-- A link weight table: lanes 5 and 7 hold 0, the others 1 to 15, reserved bytes 0 (12 R285). -/
def State.linkWeightsOk (s : State) (off : Nat) : Bool :=
  (List.range 64).all (fun i =>
    let w := bits (s.varNat (off + i / 2) 1) (4 * (i % 2)) 4
    if i % 8 = 5 ∨ i % 8 = 7 then decide (w = 0) else decide (w ≠ 0)) && decide (s.varNat (off + 32) 224 = 0)

/-- COUNT of a coefficient or schedule image, and what its header allows (12 R286). -/
def State.imageBlocks (s : State) (off : Nat) : Nat := s.varNat off 1
def State.imageHeadOk (s : State) (off : Nat) : Bool :=
  decide (s.imageBlocks off ∈ [1, 60]) && decide (s.varNat (off + 1) 255 = 0)

/-- No reserved code or bit of a coefficient entry, and its schedule inside the memory (08 Table 08-1, R188). -/
def coefCodes (v : Nat) : Bool :=
  clearBits v [(389, 3), (412, 36)] && decide (bits v 384 2 < 3) && decide (bits v 386 2 < 3)
    && decide (bits v 392 10 + bits v 402 10 ≤ 1023)

/-- Every entry of a coefficient image, every segment of a schedule image. -/
def State.coefImageOk (s : State) (off : Nat) : Bool :=
  (List.range (256 * s.imageBlocks off)).all (fun i => coefCodes (s.varNat (off + 256 + 64 * i) 64))
def State.schedImageOk (s : State) (off : Nat) : Bool :=
  (List.range (1024 * s.imageBlocks off)).all (fun i => zeroBits (s.varNat (off + 256 + 16 * i) 16) 40 24)

/-- Structures of a variant: its entry, weight tables, coefficient and schedule images. -/
def State.variantOk (s : State) (v : Nat) : Bool :=
  let off := fun lo => s.variantBits v lo 40
  variantCodes (s.planNat (s.secOff 3 + 64 * v) 64) && s.muleWeightsOk (off 64) && s.linkWeightsOk (off 128)
    && s.imageHeadOk (off 192) && s.coefImageOk (off 192) && s.imageHeadOk (off 256) && s.schedImageOk (off 256)

/-- A function table's header (05 Table 05-4, R131). -/
def tableCodes (v : Nat) : Bool :=
  let w := signed 8 (bits v 8 8)
  let e := signed 9 (bits v 16 9)
  let x := BitVec.ofNat 32 (bits v 32 32)
  clearBits v [(2, 6), (25, 7), (320, 192)] && decide (bits v 0 2 < 2)
    && (if bits v 0 2 = 0 then decide (-126 ≤ w) && !isNan32 x && !isInf32 x else decide (-149 ≤ e) && decide (e ≤ 95))

/-- An image directory entry (12 Table 12-14), and the codes of a function-table image (12 R314). -/
def State.imageOk (s : State) (e : Nat) : Bool :=
  let data := s.plan.base + s.secOff 9 + bits e 64 40
  clearBits e [(2, 2), (21, 11), (104, 24), (160, 96)] && decide (bits e 0 2 < 2) && decide (bits e 4 3 < 4)
    && (!bit e 7 || zeroBits e 8 8)
    && (if bits e 0 2 = 0 then decide (bits e 4 3 = 1) && decide (bits e 128 32 = 6272) && zeroBits e 32 32
        && tableCodes (s.natAt data 64) && tableCodes (s.natAt (data + 3136) 64)
      else zeroBits e 16 5)

/-- Reserved bits of the act control block, all of it without an ACT_START (14 Table 14-2, 12 R314), and of the directory's header. -/
def State.section9Ok (s : State) : Bool :=
  let b := s.planNat (s.secOff 9) 512
  decide (s.secLen 9 = 0) ||
    ((if s.entries.any (fun x => decide (x.2.kind = 8)) then
        clearBits b [(368, 16), (399, 1), (415, 1), (431, 1), (447, 1), (472, 8), (494, 2), (519, 9), (536, 8), (545, 7), (560, 16),
          (640, 3456)]
      else decide (b = 0)) && decide (s.planNat (s.secOff 9 + 514) 62 = 0) && decide (s.imageCount ≤ 4096))

/-- Entries of the tap list that selection entries name (07 R563, 12 R282). -/
def State.tapLen (s : State) : Nat :=
  ((List.range s.selEntries).map s.selEntry).foldl (fun n e =>
    if bits e 48 8 = 0 then n else Nat.max n (bits e 32 16 + bits e 48 8)) 0
def State.tapEntry (s : State) (i : Nat) : Nat := s.planNat (s.secOff 12 + 4 * i) 4

/-- Findings in plan-wide structures. -/
def State.wideCodes (s : State) : List Finding :=
  let nEnv := s.planNat (s.secOff 2) 4
  must (s.headerOk && clearBits s.ttHdr [(48, 16), (113, 15)] && zeroBits (s.planNat (s.secOff 2) 16) 32 96 && s.section9Ok) ++
  wide (badIdx entryCodes ((List.range s.ttCount).map (fun i => s.planNat (s.secOff 0 + 16 + 16 * i) 16))
    ++ badIdx regionCodes ((List.range 256).map (fun i => s.planNat (s.secOff 1 + 32 * i) 32))
    ++ badIdx (fun v => zeroBits v 112 16) ((List.range nEnv).map (fun i => s.planNat (s.secOff 2 + 16 + 16 * i) 16))
    ++ badIdx s.variantOk (List.range 16)
    ++ badIdx (fun v => zeroBits v 24 6) ((List.range 32768).map (fun i => s.planNat (s.secOff 4 + 4 * i) 4))
    ++ badIdx (fun v => zeroBits v 16 48) ((List.range 240).map s.queueEntry)
    ++ badIdx (fun v => zeroBits v 88 8) ((List.range (s.secLen 6 / 16)).map (fun i => s.planNat (s.secOff 6 + 16 * i) 16))
    ++ badIdx selCodes ((List.range s.selEntries).map s.selEntry)
    ++ badIdx routerCodes ((List.range s.routers).map (fun r => s.planNat (s.secOff 8 + 128 * r) 128))
    ++ badIdx (fun v => clearBits v [(6, 2), (23, 9)]) ((List.range s.tapLen).map s.tapEntry)
    ++ badIdx s.imageOk s.images)

/-! ## Commands -/

/-- A format byte with a meaning (03 R49). -/
def fmtLegal (b : Nat) : Bool := (fmtOfByte b).isSome

/-- The common header (12 Table 12-5). -/
def commonCodes (d : Nat) : Bool :=
  zeroBits d 127 1 && decide (1 ≤ dUnit d) && decide (dUnit d ≤ 7) && decide (dOpc d ≤ 4)
    && (decide (dW0 d ≠ noCtr) || decide (dW0Tgt d = 0)) && decide (dSig d = noCtr ↔ dInc d = 0)

/-- An Ox descriptor (04 Table 04-8). -/
def oxCodes (d : Nat) : Bool :=
  let c := oxCmd d
  clearBits d [(145, 15), (184, 8), (206, 2), (222, 2), (238, 2), (254, 2), (270, 2), (286, 2), (301, 3), (317, 3), (344, 8), (381, 3),
      (446, 2), (510, 2)]
    && decide (c.mode < 3) && decide (c.acc < 3) && decide (c.sparse < 3) && decide (c.mask < 3) && decide (c.swSel < 3)
    && fmtLegal c.fmtA && fmtLegal c.fmtB && (if c.acc = 2 then fmtLegal c.fmtC else decide (c.fmtC = 0))

/-- A stream-engine descriptor (05 Table 05-6). -/
def goatCodes (d : Nat) : Bool :=
  clearBits d [(141, 3), (149, 11), (175, 1), (191, 1), (207, 1), (223, 1), (303, 1), (319, 1), (464, 48)]
    && decide (bits d 128 8 ≤ 0x10)

/-- A row-engine descriptor (06 Table 06-3). -/
def rowCodes (d : Nat) : Bool :=
  clearBits d [(140, 4), (159, 1), (175, 1), (191, 1), (207, 1), (223, 1), (239, 1), (255, 1), (271, 1), (287, 1), (303, 1), (405, 11),
      (480, 32)]
    && decide (bits d 128 8 ∈ [0x01, 0x02, 0x03, 0x04, 0x05, 0x11, 0x12, 0x13, 0x14, 0x15, 0x20, 0x21])

/-- An update descriptor (08 Table 08-7). -/
def updCodes (d : Nat) : Bool :=
  clearBits d [(140, 4), (152, 8), (175, 1), (191, 1), (207, 1), (223, 1), (239, 1), (255, 1), (271, 1), (287, 1), (303, 1), (319, 1),
      (335, 1), (351, 1), (367, 1), (448, 64)]
    && decide (1 ≤ bits d 128 8) && decide (bits d 128 8 ≤ 5)

/-- A Hen descriptor: 09 Table 09-5, 14 Table 14-9b, 10 Table 10-6. -/
def henCodes (d : Nat) : Bool :=
  let hop := bits d 128 8
  let c := henCmd d
  if hop = 4 then
    clearBits d [(139, 21), (174, 2), (190, 2), (206, 2), (222, 2), (242, 14), (263, 9), (302, 2), (318, 2), (368, 144)]
      && decide (bits d 137 2 < 2)
  else if hop < 4 then
    clearBits d [(141, 3), (174, 2), (190, 2), (206, 2), (303, 1), (398, 2), (414, 2), (464, 48)] && decide (1 ≤ hop)
      && decide (c.swSel < 3) && decide (c.destKind < 3) && fmtLegal c.fmtA && (decide (hop ≠ 3) || fmtLegal c.fmtB)
  else
    clearBits d [(171, 5), (184, 8), (212, 4), (236, 4), (430, 2), (446, 2), (510, 2)] && decide (0x10 ≤ hop) && decide (hop ≤ 0x16)
      && decide ((expCmd d).swSel < 2) && fmtLegal (expCmd d).fmt

/-- A location word (13 Table 13-6). -/
def locCodes (w : Nat) : Bool := decide (bits w 56 3 < 5) && zeroBits w 59 5

/-- A Mule descriptor (13 Table 13-5). -/
def muleCodes (d : Nat) : Bool :=
  let c := muleCmd d
  let mop := bits d 128 8
  clearBits d [(141, 3), (152, 8), (360, 24), (506, 6)] && decide (1 ≤ mop) && decide (mop ≤ 3) && decide (c.xform ≤ 4)
    && fmtLegal c.fmt && locCodes c.src && locCodes c.dst && (decide (mop = 1) || zeroBits d 408 8)

/-- A link-port descriptor (15 Table 15-5). -/
def linkCodes (d : Nat) : Bool :=
  let c := linkCmd d
  clearBits d [(148, 4), (165, 3), (324, 4), (365, 3), (383, 1), (432, 16), (496, 16)] && decide (1 ≤ c.xop) && decide (c.xop ≤ 4)
    && locCodes c.src && locCodes c.dst

/-- The body of a command (12 Table 12-4). -/
def bodyCodes (d : Nat) : Bool :=
  match dOpc d with
  | 1 => zeroBits d 129 383
  | 2 => zeroBits d 128 384
  | 3 => clearBits d [(140, 4), (204, 308)]
  | 4 => zeroBits d 144 368
  | _ =>
    match dUnit d with
    | 1 => oxCodes d
    | 2 => goatCodes d
    | 3 => rowCodes d
    | 4 => updCodes d
    | 5 => henCodes d
    | 6 => muleCodes d
    | _ => linkCodes d

/-! ## Blocks that images stage -/

/-- A pattern block for an input or an output (05 Table 05-1, R118; 03 R49, R60). -/
def patCodes (w : Nat) (out : Bool) : Bool :=
  let k := bits w 0 2
  let rnd := bits w 16 4
  clearBits w [(2, 6), (20, 12), (111, 17), (416, 96)] && decide (k < 3) && fmtLegal (bits w 8 8)
    && (if out then decide (rnd % 4 ≠ 3) && decide (rnd < 8) else decide (rnd = 0))
    && (if k = 2 then decide (bits w 104 3 < 4) && zeroBits w 107 4 else zeroBits w 96 15)
    && (decide (k ≠ 1) || clearBits (bits w 32 64) [(3, 13), (32, 32)])
    && decide (bits w 400 8 < 128) && decide (bits w 408 8 < 128)

/-- The pattern blocks of a Goat command. -/
def State.patsCoded (s t : State) (c : PlanCmd) : Bool :=
  (usedPats c.d (t.coefOf c)).all (fun x =>
    decide (x.1 = 0) || (s.checkedPat t c.num x.1).isNone || patCodes (t.natAt (goatKey c.num x.1) 64) x.2)

/-- A window block, if images stage it and no command rewrites it. -/
def State.checkedWindow (s t : State) (c : PlanCmd) : Option Window :=
  let q := oxCmd c.d
  let key := oxKey c.num q.winAddr
  if q.win && s.stagedAt 0 c.num (256 * q.winAddr) 64 && !s.rewritten key 64 then some (t.window key) else none

/-- The window block of an Ox command (04 Table 04-7). -/
def State.windowCoded (s t : State) (c : PlanCmd) : Bool :=
  (s.checkedWindow t c).isNone || clearBits (t.natAt (oxKey c.num (oxCmd c.d).winAddr) 64) [(56, 8), (128, 384)]

/-- A command's codes and bits, and those of the blocks it names. -/
def State.cmdCoded (s : State) (c : PlanCmd) : Bool :=
  let t := s.staged c.v
  commonCodes c.d && bodyCodes c.d
    && (!(c.isExec 2 || c.isExec 3 || c.isExec 4) || s.patsCoded t c) && (!c.isExec 1 || s.windowCoded t c)

/-- Class 0x02. -/
def State.class02 (s : State) : List Finding := s.wideCodes ++ s.badCmds s.cmdCoded

end Sys2Proof.Machine
end

