-- ==== Sys2Proof/Machine/PlanRules.lean ====
section
/-! DEFINITION. Load-time check class 0x03 (12 Table 12-12): the rules of the units' commands and pattern blocks. PLAN_CYC minima
belong to class 0x09, and what the plan's order decides is in PlanHazards. -/

namespace Sys2Proof.Machine

/-- Ranges lie inside the spaces of the cores they name. -/
def rangesFit (l : List (Nat × Nat)) : Bool :=
  l.all (fun r => decide (r.1 < 2 ^ 48) || decide (r.2 = 0) || decide (r.1 % 2 ^ 48 + r.2 ≤ spaceSize (r.1 / 2 ^ 48)))

/-- SHAPE agrees with SW_SEL on the units that read a shape word, and is 0 on the others (12 R566, 04 R109). -/
def shapeAgrees (d : Nat) : Bool :=
  let sel := match dUnit d with
    | 1 => decide ((oxCmd d).swSel ≠ 0)
    | 5 =>
      let hop := bits d 128 8
      decide ((if hop = 4 then bits d 137 2 else if hop < 0x10 then (henCmd d).swSel else (expCmd d).swSel) ≠ 0)
    | 6 => (muleCmd d).sw
    | _ => false
  dShape d == sel

/-! ## Ox -/

/-- OH and OW of a window, less 1 (04 R96). -/
def Window.outsM1 (v : Window) : Int × Int :=
  (((v.h + v.pt + v.pb : Nat) - (v.dh * (v.kh - 1) : Nat) - 1 : Int) / v.sh, ((v.w + v.pl + v.pr : Nat) - (v.dw * (v.kw - 1) : Nat) - 1 : Int) / v.sw)

/-- A window block that agrees with its descriptor (04 R96): strides of at least 1, OH, OW, M and K. -/
def Window.fits (v : Window) (c : OxCmd) : Bool :=
  let o := v.outsM1
  decide (1 ≤ v.sh) && decide (1 ≤ v.sw) && decide (0 ≤ o.1) && decide (0 ≤ o.2) && decide ((c.m : Int) = (o.1 + 1) * (o.2 + 1))
    && decide (c.k = v.kh * v.kw * v.c)

/-- An Ox descriptor (04 R79, R109). -/
def oxRules (d : Nat) : Bool :=
  let c := oxCmd d
  (decide (c.sparse = 0) || decide (c.mode ≠ 1)) && (!c.win || decide (c.mode ≠ 2)) && (decide (c.mask = 0) || decide (c.mode ≠ 2))
    && (match c.mode with
      | 0 => decide (c.m ≤ 4096) && decide (c.n ≤ 128)
      | 1 => decide (c.m ≤ 128) && decide (c.n ≤ 128)
      | _ => decide (c.n ≤ 4096) && decide (c.m ≤ 128))
    && (decide (c.acc = 1) || decide (c.chunk0 = 0)) && (c.last || decide (c.k % 128 = 0))
    && (decide (c.acc ≠ 2) || (match fmtOfByte c.fmtC with
      | some f => decide (f.comp = .plain)
      | none => false))
    && decide (c.chunk0 + ceilDiv c.k 128 ≤ 2 ^ 29)

/-- The scratchpad ranges of an Ox command (04 R109); those of a windowed A once its window block is known. -/
def State.oxFits (s t : State) (c : PlanCmd) : Bool :=
  let q := oxCmd c.d
  let w := s.checkedWindow t c
  let known := !q.win || w.isSome
  let ins := if known then t.oxIns c.num c.d else t.oxIns c.num (c.d ||| 2 ^ 141)
  rangesFit (ins ++ oxOuts c.num c.d) && (match w with
    | some v => v.fits q
    | none => true)

/-- What the mask of a command is: mode, FILL, DIAG, and the bitmap's bytes where images stage them and nothing rewrites them. -/
def State.maskOf (s t : State) (c : PlanCmd) : Nat × Nat × Int × Option (List Byte) :=
  let q := oxCmd c.d
  let n := 2048 * q.tiles q.m q.n
  (q.mask, q.fill.toNat, q.diag,
    if q.mask = 1 ∧ s.stagedAt 0 c.num (256 * q.maskAddr) n = true ∧ s.rewritten (oxKey c.num q.maskAddr) n = false then
      some (t.bytesAt (oxKey c.num q.maskAddr) n)
    else none)

/-- Two masks are known to differ. -/
def masksDiffer (a b : Nat × Nat × Int × Option (List Byte)) : Bool :=
  decide (a.1 ≠ b.1) || decide (a.2.1 ≠ b.2.1) || decide (a.2.2.1 ≠ b.2.2.1) || (match a.2.2.2, b.2.2.2 with
    | some x, some y => decide (x ≠ y)
    | _, _ => false)

/-- Commands of a path of an Ox stream that continue a product and that `bad` finds against the last command of its partial area;
`opened` holds those of the open areas. -/
def productBreaks (bad : PlanCmd → PlanCmd → Bool) : List PlanCmd → List PlanCmd → List PlanCmd
  | _, [] => []
  | opened, c :: l =>
    let q := oxCmd c.d
    let area := fun (o : PlanCmd) => (oxCmd o.d).accAddr
    let others := opened.filter (fun o => decide (area o ≠ q.accAddr))
    let next := if q.last then (if q.acc = 1 then others else opened) else c :: others
    (if decide (q.acc = 1) && opened.any (fun o => decide (area o = q.accAddr) && bad o c) then [c] else [])
      ++ productBreaks bad next l

/-- The commands that `bad` finds on some path of stream `u` of variant `v`, among those that `keep` names. -/
def State.onPaths (s : State) (keep : PlanCmd → Bool) (bad : List PlanCmd → List PlanCmd) (v u : Nat) : List PlanCmd :=
  ((s.pathsOf keep v u).flatMap bad).eraseDups

/-- Findings at commands. -/
def atCmds (l : List PlanCmd) : List Finding := l.map (fun c => (c.u, c.ix))

/-- Commands of an Ox stream that open or continue a product. -/
def PlanCmd.chains (c : PlanCmd) : Bool := c.isExec 1 && (decide ((oxCmd c.d).acc = 1) || !(oxCmd c.d).last)

/-! ## Pattern blocks -/

/-- Bytes of the scratchpad that a KIND 2 stream's core has, and how many such cores there are; HBM has its regions. -/
def destLimit (p : Pat) : Nat × Nat := [(120, 0x400000), (60, 0x200000), (30, 0x400000)].getD (bits p.dest 8 3) (256, 2 ^ 48)

/-- A pattern block of Goat `g` (05 R137, R118). -/
def Pat.ruled (p : Pat) (g : Nat) (out compress : Bool) : Bool :=
  let offs := (List.range p.total).map p.offset
  decide (p.kind ≠ (if out then 1 else 2)) && p.n.all (fun n => decide (n ≠ 0)) && offs.all (fun e => decide (0 ≤ e))
    && (match p.kind with
      | 1 => decide (p.fmt = 0) && offs.all (fun e => decide (e < 16384))
      | 2 => decide (bits p.dest 0 8 < (destLimit p).1) && ((queueOfKey (p.keyOf g p.addr)).isSome
          || (p.spans g compress).all (fun r => decide (r.1 % 2 ^ 48 + r.2 ≤ (destLimit p).2)))
      | _ => rangesFit (p.spansAt (spaceKey (goatSpace g) p.addr) (spaceKey (goatSpace g) p.aux) compress))

/-- An output writes whole squares and scale blocks (05 R126); what lies outside the shape counts as written. -/
def Pat.whole (p : Pat) : Bool :=
  match fmtOfByte p.fmt with
  | some f =>
    let cs := p.cells.filter (fun c => p.inGrid c.1)
    cs.all (fun c => (List.range 16384).all (fun q =>
      decide (auxIn f.comp q ≠ auxIn f.comp c.2) || cs.contains (c.1, q) || !p.inShape c.1 q))
  | none => true

/-- The compressed form is legal for an output (05 R129). -/
def compressFmt (f : Fmt) : Bool :=
  match f.comp with
  | .plain => decide (f.elem ∈ [.bf16, .fp16, .e4m3, .e5m2, .int8, .int4])
  | .block => decide (f.elem ∈ [.e4m3, .e5m2, .e2m1, .int8, .int4])
  | .fine => false
def Pat.compressible (p : Pat) : Bool :=
  decide (p.str 0 = 1) && decide (p.cnt 0 % 32 = 0) && (match fmtOfByte p.fmt with
    | some f => compressFmt f
    | none => false)

/-- Two pattern blocks are identical in every field but FMT and RND, with element codes of one size (05 R124). -/
def Pat.twin (p q : Pat) : Bool :=
  decide ({ p with fmt := q.fmt, rnd := q.rnd } = q) && (match fmtOfByte p.fmt, fmtOfByte q.fmt with
    | some a, some b => decide (a.elem.bits = b.elem.bits)
    | _, _ => false)

/-- An output of Goat `g` overlaps no input but an identical one (05 R124). -/
def Pat.apart (o : Pat) (g : Nat) (compress : Bool) (ins : List Pat) : Bool :=
  ins.all (fun p => (p.twin o && !compress) || !rangesMeet (o.spans g compress) (p.spans g false))

/-- Every pattern of a list is named exactly when it is used (05 R137, 06 R157, 08 R199). -/
def namedRight (l : List (Nat × Bool)) : Bool := l.all (fun x => decide (x.1 ≠ 0) == x.2)

/-- Every used pattern block that is checked is ruled, and a checked output writes whole squares. -/
def State.patsRuled (s t : State) (c : PlanCmd) (compress : Bool) : Bool :=
  (usedPats c.d (t.coefOf c)).all (fun x => match s.checkedPat t c.num x.1 with
    | some p => p.ruled c.num x.2 (x.2 && compress) && (!x.2 || p.whole)
    | none => true)

/-! ## Goat stream engine -/

/-- The checked pattern blocks of a list, if every one of them is. -/
def State.allPats (s t : State) (g : Nat) (l : List Nat) : Option (List Pat) := l.mapM (s.checkedPat t g)

/-- A stream-engine command (05 R124, R129, R137, 07 R169). -/
def State.goatRules (s t : State) (c : PlanCmd) : Bool :=
  let q := goatCmd c.d
  let n := goatInputs q.op
  let reduces := decide (q.op = 0x0E) || decide (q.op = 0x0F)
  let named := namedRight [(q.patX, true), (q.patY, decide (2 ≤ n)), (q.patZ, decide (3 ≤ n)), (q.patO, decide (q.op ≠ 0x10))]
  let drops := !q.drop || !(reduces || decide (q.op = 0x10))
  let shapes := match s.allPats t c.num ([q.patX, q.patY, q.patZ].take n), s.checkedPat t c.num q.patO with
    | some ins, some o =>
      let e := (ins.map Pat.total).headD 0
      decide (e < 2 ^ 32) && ins.all (fun p => decide (p.total = e))
        && decide (o.total = if reduces then e / (ins.map (fun p => p.cnt 0)).headD 1 else e)
        && (!q.compress || o.compressible) && o.apart c.num q.compress ins
    | _, _ => true
  let table := decide (q.op ≠ 0x10) || (match s.checkedPat t c.num q.patX with
    | some p => decide (p.kind = 0) && decide (p.addr + 6272 ≤ 0x200000)
    | none => true)
  named && drops && table && (decide (q.op = 0x10) || shapes) && s.patsRuled t c q.compress

/-! ## Row engine -/

/-- A row-engine pattern that SPILL writes or RELOAD reads (06 R154, R155). -/
def Pat.spillShape (p : Pat) (count : Nat) (out : Bool) : Bool :=
  (decide (p.kind = 0) || (out && decide (p.kind = 2))) && decide (p.fmt = 0) && decide (p.n = [2, 8 + count, 1, 1])
    && decide (p.str 0 = 1) && decide (p.str 1 = 2)

/-- A row-engine command (06 R145, R157, 05 R124, R126, R137). -/
def State.rowRules (s t : State) (c : PlanCmd) : Bool :=
  let q := rowCmd c.d
  let g := c.num
  let used := (usedPats c.d (t.coefOf c)).map (fun x => x.1)
  let two := decide (0x11 ≤ q.rop) && decide (q.rop ≤ 0x14)
  let spill := decide (q.rop = 0x20)
  let load := decide (q.rop = 0x21)
  let gam := q.affine && decide (q.rop ∈ [0x01, 0x02, 0x11, 0x12])
  let named := namedRight [(q.patX, !spill), (q.patY, two), (q.patG, gam), (q.patB, q.affine && decide (q.rop = 0x01)), (q.patO, !load),
    (q.patDg, decide (q.rop = 0x11) || decide (q.rop = 0x12)), (q.patDb, decide (q.rop = 0x11))]
  let at_ := s.checkedPat t g
  let px := at_ q.patX
  let rows := match px with
    | some p => p.rows
    | none => 0
  let side := if spill || load then decide (q.sideRow + q.count ≤ 32768)
    else if rowBackward q.rop || q.statsW then decide (q.sideRow + rows ≤ 32768) else true
  let one := fun (p x : Pat) => decide (p.n = [x.cnt 0, x.cnt 1, 1, 1])
  let shapes :=
    if spill then (match at_ q.patO with
      | some o => o.spillShape q.count true
      | none => true)
    else match px with
      | none => true
      | some x =>
        if load then x.spillShape q.count false
        else
          let ok := fun (a : Nat) (use : Bool) (f : Pat → Bool) => !use || (match at_ a with
            | some p => f p
            | none => true)
          decide (1 ≤ x.rowLen) && decide (x.rowLen ≤ 262144) && decide (x.total < 2 ^ 32)
            && ok q.patY two (fun p => decide (p.n = x.n)) && ok q.patG gam (fun p => one p x)
            && ok q.patB (q.affine && decide (q.rop = 0x01)) (fun p => one p x)
            && ok q.patDg (decide (q.rop = 0x11) || decide (q.rop = 0x12)) (fun p => one p x && decide (p.fmt = 0) && decide (p.kind = 0))
            && ok q.patDb (decide (q.rop = 0x11)) (fun p => one p x && decide (p.fmt = 0) && decide (p.kind = 0))
            && ok q.patO true (fun p => if q.rop = 0x05 then decide (p.total = x.rows) else decide (p.n = x.n))
            && (decide (x.rowLen ≤ 16384) || used.all (fun a => ok a true (fun p => decide (p.kind = 0))))
  -- DG and DB are inputs as well as outputs (06 R150)
  let outs := ((usedPats c.d (t.coefOf c)).filter (fun x => x.2)).map (fun x => x.1)
  let reads := ((usedPats c.d (t.coefOf c)).filter (fun x => !x.2)).map (fun x => x.1) ++ outs.filter (fun a => decide (a ≠ q.patO))
  let apart := outs.all (fun a => match at_ a with
    | some o => o.apart g false ((reads.filter (fun b => decide (b ≠ a) || decide (a = q.patO))).filterMap at_)
    | none => true)
  let noSr := [q.patO, q.patDg, q.patDb].all (fun a => !used.contains a || (match at_ a with
    | some p => decide (p.rnd % 4 ≠ 2)
    | none => true))
  !dDrop c.d && named && side && decide (q.stashId ≠ 0xFFFF) && shapes && (load || apart) && noSr && s.patsRuled t c false

/-! ## Update engine -/

/-- A format byte names plain FP32, or one of a list. -/
def fmtIn (b : Nat) (l : List Fmt) : Bool := match fmtOfByte b with
  | some f => l.contains f
  | none => false
def fmtBf16 : Fmt := { elem := .bf16, comp := .plain }

/-- Formats of U_APPLY's and U_CAST's outputs (08 R193), by their number. -/
def updFormat (o b : Nat) : Bool :=
  match o with
  | 0 => fmtIn b [fmtF32]
  | 1 => fmtIn b [{ elem := .e4m3, comp := .block }, { elem := .e5m2, comp := .block }, fmtBf16, fmtF32]
  | 2 => fmtIn b [fmtF32, fmtBf16]
  | 3 => fmtIn b [fmtBf16, { elem := .fp16, comp := .plain }]
  | _ => match fmtOfByte b with
    | some f => decide (f.comp ≠ .plain)
    | none => false

/-- An update command (08 R191, R192, R199). -/
def State.updRules (s t : State) (c : PlanCmd) : Bool :=
  let q := updCmd c.d
  let e := t.coefOf c
  let g := c.num
  let at_ := s.checkedPat t g
  let ok := fun (a : Nat) (f : Pat → Bool) => decide (a = 0) || (match at_ a with
    | some p => f p
    | none => true)
  let u := q.uop
  let pre := decide (u = 0x03) || decide (u = 0x04)
  let copies := decide (u = 0x04) || decide (u = 0x05)
  let named := namedRight [(q.patW, copies), (q.patG, decide (u = 0x01) || pre),
      (q.patV, decide (u = 0x01) || decide (u = 0x02) || (pre && decide (e.vMode ≠ 0))),
      (q.patC, decide (u = 0x01) || decide (u = 0x02) || (pre && decide (e.vMode = 2))), (q.patOw, decide (u = 0x04)),
      (q.patOv, decide (u = 0x02) || (decide (u = 0x04) && decide (e.vMode = 1)))]
    && (pre || decide (q.patM = 0)) && (decide (u = 0x04) || decide (q.patOm = 0))
    && (copies || (decide (q.patOwk = 0) && decide (q.patOgen = 0)))
  let kind0 := fun (p : Pat) => decide (p.kind = 0)
  let formats := match u with
    | 0x01 => ok q.patV (fun p => kind0 p && fmtIn p.fmt [fmtF32]) && ok q.patC (fun p => kind0 p && fmtIn p.fmt [fmtF32])
    | 0x02 => ok q.patC (fun p => kind0 p && fmtIn p.fmt [fmtF32]) && ok q.patV (fun p => kind0 p && updFormat 2 p.fmt)
        && ok q.patOv (fun p => updFormat 2 p.fmt)
    | _ => (!(pre && decide (e.vMode = 2))
          || (ok q.patV (fun p => kind0 p && updFormat 2 p.fmt) && ok q.patC (fun p => kind0 p && updFormat 2 p.fmt)))
        && (q.outPats e).all (fun o => ok o.1 (fun p => updFormat o.2 p.fmt))
  let pats := (usedPats c.d e).map (fun x => x.1)
  let counts : List (List Nat) := (pats.filterMap at_).map (fun p => p.n)
  let blocks := !pre ||
    (counts.all (fun n => decide (some n = counts.head?)) && pats.all (fun a => ok a (fun p =>
      decide (p.cnt 0 % 32 = 0) && (decide (p.str 0 = 1) || (decide (e.vMode = 2) && (decide (a = q.patV) || decide (a = q.patC)))))))
  !dDrop c.d && named && formats && blocks && s.patsRuled t c false

/-- A finite FP32 code. -/
def finite32 (w : Word) : Bool := !isNan32 w && !isInf32 w

/-- A coefficient entry's values (08 R189). -/
def Coef.ruled (e : Coef) : Bool :=
  [e.a1, e.a2, e.b1, e.b2, e.cg, e.cm, e.eps, e.lam, e.etaMul].all finite32 && (finite32 e.d || decide (e.d = pinf32))
    && (decide (e.vMode = 0) || (Machine.flt 0 e.eps && fle 0 e.b1 && fle 0 e.b2))
    && (!e.bias || (fle 0 e.a1 && Machine.flt e.a1 one32 && fle 0 e.b1 && Machine.flt e.b1 one32))
    && (decide (e.vMode ≠ 2) || (decide (2 ≤ e.rows) && decide (2 ≤ e.cols)))

/-- A schedule's segments start at 0 and ascend (08 R188). -/
def State.scheduleOk (t : State) (g : Nat) (e : Coef) : Bool :=
  let start := fun i => bits (t.natAt (spaceKey (schedSpace g) (16 * (e.schedBase + i))) 16) 0 40
  decide (start 0 = 0) && (List.range (e.schedLen - 1)).all (fun i => decide (start i < start (i + 1)))

/-- Variants whose coefficients or schedules break 08 R189; the images of a variant as Goats hold them. -/
def State.coefFindings (s : State) : List Finding :=
  wide (badIdx (fun v =>
    let t := s.staged v
    (List.range 60).all (fun g => (List.range 256).all (fun i =>
      let e := t.coef g i
      e.ruled && t.scheduleOk g e))) (List.range 16))

/-- The target on the gate counter of a gated command: the step it belongs to (08 R192). -/
def State.gateStep (s : State) (d : Nat) : Nat := if dW0 d = s.gateCtr then dW0Tgt d else dW1Tgt d

/-- The gated commands of a group and step in their stream's order break 08 R192: a U_FACT after the first U_USUM or U_APPLY, not
exactly one U_APPLY with GREC_W, or not the last. -/
def stepBroken (l : List PlanCmd) : Bool :=
  let uop := fun (c : PlanCmd) => c.op
  let late := (l.dropWhile (fun c => decide (uop c = 0x02))).any (fun c => decide (uop c = 0x02))
  let applies := l.filter (fun c => decide (uop c = 0x04))
  let writers := applies.filter (fun c => (updCmd c.d).grecW)
  late || decide (writers.length ≠ 1) || (match applies.getLast? with
    | some c => !(updCmd c.d).grecW
    | none => false)

/-- A gated update command. -/
def PlanCmd.gated (c : PlanCmd) : Bool := c.isExec 4 && updGated c.op

/-- Elements that the commands of a list enumerate in all, where every gradient block is checked. -/
def State.coverOf (s t : State) (l : List PlanCmd) : Option Nat :=
  (l.mapM (fun c => (s.checkedPat t c.num (updCmd c.d).patG).map Pat.total)).map List.sum

/-- Under CLIP 2 the U_USUMs before the first U_APPLY do not cover every element once: they enumerate another number of elements than
the step's U_APPLYs (08 R192). -/
def State.coverBroken (s t : State) (l : List PlanCmd) : Bool :=
  match l.head? with
  | none => false
  | some c =>
    decide ((t.coefOf c).clip = 2) && (match s.coverOf t ((l.takeWhile (fun c => decide (c.op ≠ 0x04))).filter (fun c => decide (c.op = 0x03))),
        s.coverOf t (l.filter (fun c => decide (c.op = 0x04))) with
      | some a, some b => decide (a ≠ b)
      | _, _ => false)

/-- The first command of each group and step that breaks 08 R192 on a path of a Goat stream's gated commands. -/
def State.groupBreaks (s t : State) (l : List PlanCmd) : List PlanCmd :=
  let key := fun (c : PlanCmd) => ((updCmd c.d).group, s.gateStep c.d)
  (l.map key).eraseDups.flatMap (fun k =>
    let mine := l.filter (fun c => decide (key c = k))
    if stepBroken mine || s.coverBroken t mine then mine.take 1 else [])

/-! ## Hen -/

/-- W of a row suits its format (09 R227, 10 R260). -/
def rowWidthOk (f : Fmt) (w : Nat) : Bool :=
  match f.comp with
  | .block => decide (w % 32 = 0)
  | .fine => decide (w % 16 = 0)
  | .plain => decide (f.elem.bits ≠ 4) || decide (w % 2 = 0)

/-- N of an SPMM is within its rate class (09 R218). -/
def spmmWidth (a b : Fmt) (n : Nat) : Bool :=
  if a.elem.bits = 16 ∨ b.elem.bits = 16 then decide (n ≤ 128) else decide (n ≤ 256)

/-- A Hen command of HOP 0x01 to 0x03 (09 R227). -/
def henRules (c : PlanCmd) : Bool :=
  let q := henCmd c.d
  let hop := c.op
  let unused := (decide (hop = 3) || (!q.acc && decide (q.fmtB = 0) && decide (q.k = 0) && decide (q.cap = 0) && decide (q.swSel < 2)))
    && (decide (hop ≠ 3) || decide (q.rows = 0)) && (q.tHbm || decide (q.tbl = 0))
  let own := match fmtOfByte q.fmtA, fmtOfByte q.fmtB with
    | some fa, fb =>
      if hop = 1 then rowWidthOk fa q.w
      else if hop = 2 then q.tHbm || !q.mesh
      else compressFmt fa && !q.tHbm && !(q.acc && q.mesh) && (match fb with
        | some b => decide (b ≠ fmtF32) && spmmWidth fa b q.w
        | none => true)
    | none, _ => true
  let dest := !q.mesh || decide (q.destNum < [120, 60, 30].getD q.destKind 0)
  unused && own && dest && rangesFit (henIns c.num c.d ++ henOuts c.num c.d)

/-- An expert command (10 R260): H, T_MAX where its COUNT is of tokens from T0 on (log 11), and areas that lie inside a region. -/
def State.expertRules (s : State) (c : PlanCmd) : Bool :=
  let q := expCmd c.d
  let rt := s.router q.router
  let inRegion := fun (l : List (Nat × Nat)) => l.all (fun x => decide (x.2 = 0) || s.regions.any (fun r =>
    decide (r.2.base * 2 ^ 21 ≤ x.1) && decide (x.1 + x.2 ≤ (r.2.base + r.2.pages) * 2 ^ 21)))
  match fmtOfByte q.fmt with
  | some f =>
    (decide (q.hop = 0x10) || decide (q.hop = 0x15) || rowWidthOk f q.h)
      && (!decide (q.hop ∈ [0x10, 0x11, 0x14, 0x16]) || decide (q.t0 + q.count ≤ rt.tMax))
      && (decide (q.hop ≠ 0x12) || inRegion (blockRanges (rt.recv.getD (q.epoch % 4) 0) (rt.s * rt.slotRows) q.h f))
      && (decide (q.hop ≠ 0x14) || inRegion (blockRanges (rt.answ.getD (q.epoch % 4) 0) (rt.k * rt.tMax) q.h f
        ++ [(rt.bitmap (rt.answ.getD (q.epoch % 4) 0) q.h f, ceilDiv (rt.k * rt.tMax) 8)]))
  | none => true

/-- A router entry (10 R260): K, G·S, and the stripes of its E images within a cold-pool slice (10 R256). -/
def State.routerOk (s : State) (r : Nat) : Bool :=
  let rt := s.router r
  let ring := Nat.max 1 (s.ringOf rt.coldDim)
  let slices := s.regions.filter (fun x => decide (x.2.kind = 7))
  let need := rt.coldOff + ceilDiv (rt.e * rt.imgPages) ring
  decide (rt.k ≤ rt.e) && decide (rt.g * rt.s ≤ 1024) && slices.any (fun x => decide (need ≤ x.2.pages))

/-! ## Mule and link ports -/

/-- N0 of a linear row starts and ends on a byte (13 R332). -/
def linearOk (f : Fmt) (n0 : Nat) : Bool :=
  decide (n0 % f.comp.blockLen = 0) && (match f.elem.bits with
    | 6 => decide (n0 % 4 = 0)
    | 4 => decide (n0 % 2 = 0)
    | _ => true)

/-- A Mule command (13 R332, Table 13-5). -/
def muleRules (d : Nat) : Bool :=
  let c := muleCmd d
  let f := muleFmt c
  if bits d 128 8 = 1 then
    match c.xform with
    | 0 => decide (c.fmt = 0)
    | 4 => decide (f.comp = .plain) && [0, 1, 2, 3].all (fun i => [0, 1, 2, 3].any (fun j => decide (c.permOf j = i)))
    | 1 => decide (f.comp = .plain) && decide (c.n2 = 1) && decide (c.n3 = 1)
    | _ => decide (c.n2 = 1) && decide (c.n3 = 1) && linearOk f c.n0
  else decide (c.xform = 0) && decide (c.fmt = 0) && (decide (bits d 128 8 ≠ 2) || decide (c.dst = 0))

/-- A fabric address inside the configured torus, or a spare's (15 R374, R401). -/
def State.torusAddr (s : State) (a : Nat) : Bool :=
  decide (0x1000 ≤ a) || (decide (a < 0x1000) && [0, 1, 2].all (fun d => decide (coord a d < Nat.max 1 (s.ringOf d))))

/-- A link-port command (15 R401). -/
def State.linkRules (s : State) (c : PlanCmd) : Bool :=
  let q := linkCmd c.d
  let ring := Nat.max 1 (s.ringOf (c.num / 2))
  match q.xop with
  | 4 => decide (q.lane = 0) && decide (c.num < 6) && (!q.first || decide (dW1 c.d = noCtr)) && decide (q.pos < ring)
      && decide (256 * q.rbuf + q.bytes ≤ 0x400000)
  | 3 => decide (q.lane ∈ [0, 3, 4]) && decide (q.hops ≤ ring - 1)
  | _ => decide (q.lane ∈ [0, 3, 4]) && s.torusAddr q.dstMod

/-! ## The class -/

/-- The rules of one command. -/
def State.cmdRules (s : State) (c : PlanCmd) : Bool :=
  let t := s.staged c.v
  if dOpc c.d ≠ 0 then !dShape c.d
  else if !(unitsOf c.u).contains (dUnit c.d) then true
  else
    shapeAgrees c.d && (match dUnit c.d with
      | 1 => oxRules c.d && s.oxFits t c
      | 2 => s.goatRules t c
      | 3 => s.rowRules t c
      | 4 => s.updRules t c
      | 5 => if c.op = 4 then true else if c.op < 4 then henRules c else s.expertRules c
      | 6 => muleRules c.d
      | _ => s.linkRules c)

/-- DSCALE of a dropout entry is finite (07 R169). -/
def State.dropoutOk (s : State) (i : Nat) : Bool := finite32 (BitVec.ofNat 32 (bits (s.planNat (s.secOff 6 + 16 * i) 16) 96 32))

/-- Class 0x03. -/
def State.class03 (s : State) : List Finding :=
  wide (badIdx s.dropoutOk (List.range (s.secLen 6 / 16)) ++ badIdx s.routerOk (List.range s.routers)) ++ s.coefFindings
    ++ (List.range 16).flatMap (fun v =>
      let t := s.staged v
      atCmds ((List.range 120).flatMap (s.onPaths PlanCmd.chains (productBreaks (fun a b => masksDiffer (s.maskOf t a) (s.maskOf t b)) []) v)
        ++ (List.range 60).flatMap (fun g => s.onPaths PlanCmd.gated (s.groupBreaks t) v (120 + g))))
    ++ s.badCmds s.cmdRules

end Sys2Proof.Machine
end

