-- ==== Sys2Proof/Machine/PlanOrder.lean ====
section
/-! DEFINITION. Load-time check classes 0x04 to 0x08 (12 Table 12-12): headers and counters, coverage of waits (12 R562), queues,
order and hazards, and the timetable with its windows. What follows from the planned times of commands and from the order that
counters give them is in PlanHazards. -/

namespace Sys2Proof.Machine

/-! ## Class 0x04 -/

/-- The timetable's kind-`k` entries, with their indices. -/
def State.ofKind (s : State) (k : Nat) : List (Nat × Entry) := s.entries.filter (fun x => decide (x.2.kind = k))

/-- A counter that a structure may name: USED, and no home of 226 to 239; 0x7FFF names none (12 R294, Table 12-8). -/
def State.ctrNamed (s : State) (c : Nat) : Bool :=
  decide (c = noCtr) || (bit (s.planNat (s.secOff 4 + 4 * c) 4) 30 && (decide (c / 128 < 226) || decide (240 ≤ c / 128)))

/-- The header's counters: GATE_CTR a fabric counter, required ones used, running, no two alike (12 R565). -/
def State.boundCtrs (s : State) : Bool :=
  let cs := [s.gateCtr, s.regearCtr, s.rtrCtr]
  let good := fun c => decide (c ≠ noCtr) && s.ctrRunning c && s.ctrNamed c
  (decide (s.gateCtr = noCtr) || decide (240 ≤ s.gateCtr / 128))
    && (if (s.ofKind 0x03).isEmpty then cs.all s.ctrNamed
      else cs.all good && decide (s.gateCtr ≠ s.regearCtr) && decide (s.gateCtr ≠ s.rtrCtr) && decide (s.regearCtr ≠ s.rtrCtr))

/-- The timetable has an ACT_START; its act control block's counters (14 R338). -/
def State.hasActs (s : State) : Bool := !(s.ofKind 0x08).isEmpty
def State.actCtrs (s : State) : List Nat := if s.hasActs then [s.acb 384 15, s.acb 400 15, s.acb 416 15, s.acb 432 15] else []

/-- An entry names a counter where it must (11 R275), and no header counter that hardware signals (12 R565). -/
def State.entryCtr (s : State) (e : Entry) : Bool :=
  (if e.ctr = noCtr then decide (e.kind ≠ 1) && !e.sig else s.ctrNamed e.ctr)
    && !(e.sig && decide (e.ctr ∈ [s.gateCtr, s.regearCtr, s.rtrCtr]))

/-- A command that delivers the reduced trailer: the LAST trailer hop with DST at RTR_ADDR, or a send of it to RTR_ADDR of other
modules (15 R389). -/
def State.bringsTrailer (s : State) (c : PlanCmd) : Bool :=
  let q := linkCmd c.d
  c.isExec 7 && decide (locOfWord q.dst = s.rtrAddr) && (decide (q.xop = 1) || decide (q.xop = 3) || (decide (q.xop = 4) && q.tr && q.last))

/-- A counter that a command of the plan may signal: GATE_CTR and REGEAR_CTR never, RTR_CTR where it delivers the trailer (12 R565). -/
def State.maySignal (s : State) (c : PlanCmd) (id : Nat) : Bool :=
  s.ctrNamed id && (decide (id = noCtr)
    || (decide (id ≠ s.gateCtr) && decide (id ≠ s.regearCtr) && (decide (id ≠ s.rtrCtr) || s.bringsTrailer c)))

/-- UNIT matches the stream (12 R283); the counters of the header; who signals the plan's own counters: SIG_ID, and RSIG_ID and
CARRY_CTR of a link-port command (12 R565). -/
def State.cmdCtrs (s : State) (c : PlanCmd) : Bool :=
  (unitsOf c.u).contains (dUnit c.d) && s.ctrNamed (dW0 c.d) && s.ctrNamed (dW1 c.d) && s.maySignal c (dSig c.d)
    && (!c.isExec 7 || (s.maySignal c (linkCmd c.d).rsig && (decide ((linkCmd c.d).xop ≠ 4) || s.maySignal c (linkCmd c.d).carryCtr)))

/-- Class 0x04. -/
def State.class04 (s : State) : List Finding :=
  must (s.boundCtrs && s.actCtrs.all s.ctrNamed) ++ wide (badIdx s.entryCtr ((List.range s.ttCount).map s.entry)
    ++ badIdx (fun c => s.ctrRunning c || decide (s.ctrStride c = 0)) (List.range 32768)) ++ s.badCmds s.cmdCtrs

/-! ## Class 0x05 (12 R562) -/

/-- Increments of a list of commands on a counter. -/
def incOn (id : Nat) (l : List PlanCmd) : Nat := (l.map (fun c => if dSig c.d = id then dInc c.d else 0)).sum

/-- Increments of a stream on a counter in one repetition: a SELECT brings the fewest that any of its alternatives does (12 R289).
The first argument counts commands of alternatives still to pass. -/
def creditOf (id : Nat) : Nat → List PlanCmd → Nat
  | _, [] => 0
  | n + 1, _ :: l => creditOf id n l
  | 0, c :: l =>
    if dOpc c.d = 3 then
      let l0 := bits c.d 144 20
      let l1 := bits c.d 164 20
      let l2 := bits c.d 184 20
      incOn id [c] + Nat.min (incOn id (l.take l0)) (Nat.min (incOn id ((l.drop l0).take l1)) (incOn id ((l.drop (l0 + l1)).take l2)))
        + creditOf id (l0 + l1 + l2) l
    else incOn id [c] + creditOf id 0 l

/-- The counter's increments in a repetition of variant `v`: its commands' and the timetable's. -/
def State.creditIn (s : State) (v id : Nat) : Nat :=
  ((List.range 226).map (fun u => creditOf id 0 (s.cmdsOf v u))).sum
    + (s.entries.filter (fun x => x.2.sig && decide (x.2.ctr = id))).length

/-- Some command of the variant, or some entry, signals the counter. -/
def State.signalledIn (s : State) (v id : Nat) : Bool :=
  (s.variantCmds v).any (fun c => decide (dSig c.d = id)) || s.entries.any (fun x => x.2.sig && decide (x.2.ctr = id))

/-- Counters without a sum test: the header's, the slot manager's and fabric counters, where no command or entry of the module signals
them. -/
def State.noSumTest (s : State) (v id : Nat) : Bool :=
  !s.signalledIn v id && (decide (id ∈ [s.gateCtr, s.regearCtr, s.rtrCtr])
    || (s.hasActs && (decide (id = s.acb 400 15) || decide (id = s.acb 432 15))) || decide (240 ≤ id / 128))

/-- The waits of a command that name a counter: ID and raw target. -/
def cmdWaits (d : Nat) : List (Nat × Nat) := [(dW0 d, dW0Tgt d), (dW1 d, dW1Tgt d)].filter (fun w => decide (w.1 ≠ noCtr))

/-- A wait target of variant `v` on a counter is covered: some DEADLINE on it is no lower, and the signals reach that TARGET, and
STRIDE on a running counter. -/
def State.covered (s : State) (v : Nat) (w : Nat × Nat) : Bool :=
  (s.ofKind 0x01).any (fun x => decide (x.2.ctr = w.1) && decide (w.2 ≤ x.2.target)
    && (s.noSumTest v w.1 || (decide (x.2.target ≤ s.creditIn v w.1)
      && (!s.ctrRunning w.1 || decide (s.ctrStride w.1 ≤ s.creditIn v w.1)))))

/-- Class 0x05. -/
def State.class05 (s : State) : List Finding := s.badCmds (fun c => (cmdWaits c.d).all (s.covered c.v))

/-! ## Class 0x06 -/

/-- Queues that a command's outputs go to, as far as its patterns are checked (05 R118, 13 R331, 15 R382). -/
def State.queuesOf (s t : State) (c : PlanCmd) : List Nat :=
  if c.isExec 2 || c.isExec 3 || c.isExec 4 then
    (((usedPats c.d (t.coefOf c)).filter (fun x => x.2)).filterMap (fun x => s.checkedPat t c.num x.1)).filterMap (fun p =>
      (fmtOfByte p.fmt).bind (fun f => (p.place c.num f false).queue))
  else if c.isExec 6 && decide (c.op ≠ 2) then (queueOfKey (locOfWord (muleCmd c.d).dst)).toList
  else []

/-- PRODUCER of a queue (12 Table 12-9). -/
def State.producer (s : State) (q : Nat) : Nat := bits (s.queueEntry q) 0 8

/-- Class 0x06: an output to a queue of another producer, a queue used without one. -/
def State.queueUse (s : State) (c : PlanCmd) : Bool :=
  (s.queuesOf (s.staged c.v) c).all (fun q => decide (s.producer q = c.u))
    && (!c.isExec 1 || ((!(oxCmd c.d).qA || decide (s.producer (2 * c.num) ≠ 0xFF))
      && (!(oxCmd c.d).qB || decide (s.producer (2 * c.num + 1) ≠ 0xFF))))
def State.class06 (s : State) : List Finding := s.badCmds s.queueUse

/-! ## Class 0x07 -/

/-- One of the command's waits is on `ctr`. -/
def waitsOn (d ctr : Nat) : Bool := decide (dW0 d = ctr) || decide (dW1 d = ctr)

/-- The target of the command's wait on `ctr`. -/
def waitTarget (d ctr : Nat) : Option Nat := if dW0 d = ctr then some (dW0Tgt d) else if dW1 d = ctr then some (dW1Tgt d) else none

/-- A gated command waits on the gate counter (08 R196); a SELECT or SWITCH waits on REGEAR_CTR (12 R291). -/
def State.orderWaits (s : State) (c : PlanCmd) : Bool :=
  (!c.gated || (decide (s.gateCtr ≠ noCtr) && waitsOn c.d s.gateCtr))
    && (!(decide (dOpc c.d = 3) || decide (dOpc c.d = 4)) || waitsOn c.d s.regearCtr)

/-- Commands of a stream that fix a step: SELECTs and SWITCHes by their target on REGEAR_CTR, gated commands by theirs on GATE_CTR. -/
def PlanCmd.steps (c : PlanCmd) : Bool := decide (dOpc c.d = 3) || decide (dOpc c.d = 4) || c.gated

/-- Two commands of a path, in order, whose targets cannot both be those of their steps (12 R291): steps run in order, and the gated
commands of a commit, whose target counts it, end its step. -/
def State.stepsCross (s : State) (a b : PlanCmd) : Bool :=
  match waitTarget a.d (if a.gated then s.gateCtr else s.regearCtr), waitTarget b.d (if b.gated then s.gateCtr else s.regearCtr) with
  | some x, some y => if a.gated = b.gated then decide (y < x) else if a.gated then decide (y < x) else decide (y ≤ x)
  | _, _ => false

/-- HEALTH of a Goat command (05 Table 05-6, 06 Table 06-3, 08 Table 08-7). -/
def PlanCmd.health (c : PlanCmd) : Bool := (c.isExec 2 && bit c.d 137) || ((c.isExec 3 || c.isExec 4) && bit c.d 136)

/-- A BARRIER with DRAIN in a Goat stream. -/
def PlanCmd.drains (c : PlanCmd) : Bool := decide (dOpc c.d = 1) && bit c.d 128 && decide (120 ≤ c.u) && decide (c.u < 180)

/-- Health counters of the timetable (07 R178). -/
def State.healthCtrs (s : State) : List Nat := ((s.ofKind 0x02).map (fun x => x.2.ctr)).filter (fun c => decide (c ≠ noCtr))

/-- Pairs of a list whose later member `bad` finds at fault. -/
def clashes (bad : PlanCmd → PlanCmd → Bool) : List PlanCmd → List PlanCmd
  | [] => []
  | c :: l => l.filter (bad c) ++ clashes bad l

/-- STASH_PUTs of one stash region in different Mule streams (13 R328). -/
def State.putsClash (s : State) (v : Nat) : List PlanCmd :=
  clashes (fun a b => decide (a.u ≠ b.u) && decide (bits (muleCmd a.d).pitch 16 8 = bits (muleCmd b.d).pitch 16 8))
    ((s.variantCmds v).filter (fun c => c.isExec 6 && decide (c.op = 2)))

/-- Keys of the destination rows of a SCATTER_ADD, in HBM or in its Hen's scratchpad (09 R210, R211). -/
def scatterTable (c : PlanCmd) : List (Nat × Nat) :=
  let q := henCmd c.d
  (blockAt (if q.tHbm then q.tbl else henKey c.num q.out) q.rows q.w fmtF32).outs q.rows q.w

/-- SCATTER_ADD commands. -/
def PlanCmd.scatters (c : PlanCmd) : Bool := c.isExec 5 && decide (c.op = 2)

/-- SCATTER_ADDs in different Hen streams whose destination rows overlap (09 R211). -/
def State.scattersClash (s : State) (v : Nat) : List PlanCmd :=
  clashes (fun a b => decide (a.u ≠ b.u) && rangesMeet (scatterTable a) (scatterTable b)) ((s.variantCmds v).filter PlanCmd.scatters)

/-- ROUTE commands. -/
def PlanCmd.routes (c : PlanCmd) : Bool := c.isExec 5 && decide (c.op = 0x10)

/-- ROUTEs of one router and EPOCH in different streams (10 R238). -/
def State.routesSplit (s : State) (v : Nat) : List PlanCmd :=
  clashes (fun a b => decide (a.u ≠ b.u) && decide ((expCmd a.d).router = (expCmd b.d).router)
    && decide ((expCmd a.d).epoch = (expCmd b.d).epoch)) ((s.variantCmds v).filter PlanCmd.routes)

/-- Two ROUTEs of one router and EPOCH on a path: the later one does not ascend in T0, or takes QRESET (10 R238). -/
def routesBreak (a b : PlanCmd) : Bool :=
  let x := expCmd a.d
  let y := expCmd b.d
  decide (x.router = y.router) && decide (x.epoch = y.epoch) && (decide (y.t0 ≤ x.t0) || y.qreset)

/-- A product's chained micro-batches out of ascending order: their chunks tell it (07 R162, R163; log 11). -/
def chainBreak (a b : PlanCmd) : Bool := decide ((oxCmd b.d).chunk0 < (oxCmd a.d).chunk0 + ceilDiv (oxCmd a.d).k 128)

/-- Class 0x07, but for what PlanHazards finds. -/
def State.class07 (s : State) : List Finding :=
  s.badCmds s.orderWaits ++ (List.range 16).flatMap (fun v => atCmds (
    (List.range 226).flatMap (s.onPaths PlanCmd.steps (clashes s.stepsCross) v)
      ++ (List.range 120).flatMap (s.onPaths PlanCmd.chains (productBreaks chainBreak []) v)
      ++ (List.range 30).flatMap (fun h => s.onPaths PlanCmd.routes (clashes routesBreak) v (180 + h))
      ++ s.putsClash v ++ s.scattersClash v ++ s.routesSplit v))

/-! ## Class 0x08 -/

/-- OFFSET below PERIOD, ascending (OFFSET, KIND), no signal on a HEALTH_CUT (11 R275, 07 R180). -/
def State.timesOk (s : State) (i : Nat) : Bool :=
  let e := s.entry i
  let before := if i = 0 then true
    else
      let d := s.entry (i - 1)
      decide (d.offset < e.offset) || (decide (d.offset = e.offset) && decide (d.kind ≤ e.kind))
  decide (e.offset < s.period) && before && !(decide (e.kind = 2) && e.sig)

/-- Acts open and close in turn, never on one beat; HEALTH_CUT and COMMIT only inside LEARN; the last act may stay open where the
timetable runs `once`, since no later ACT_START then meets it (14 R336). -/
def actsFrom (once : Bool) : Option (Nat × Nat) → List Entry → Bool
  | none, [] => true
  | some _, [] => once
  | act, e :: l =>
    if e.kind = 8 then act.isNone && actsFrom once (some (e.arg, e.offset)) l
    else if e.kind = 9 then
      (match act with
        | some (a, o) => decide (a = e.arg) && decide (o ≠ e.offset)
        | none => false) && actsFrom once none l
    else if e.kind = 2 ∨ e.kind = 3 then
      (match act with
        | some (a, _) => decide (a = 2)
        | none => false) && actsFrom once act l
    else actsFrom once act l

/-- No ACT_END falls on the beat of an ACT_START, which fires before it (14 R336). -/
def actBeats (l : List Entry) : Bool :=
  l.all (fun a => decide (a.kind ≠ 8) || l.all (fun b => decide (b.kind ≠ 9) || decide (a.offset ≠ b.offset)))

/-- COMMITs and UPDATE_CLOSEs alternate round the period (08 R197). -/
def commitsPaired (l : List Entry) : Bool :=
  let ks := (l.map (fun e => e.kind)).filter (fun k => decide (k = 3) || decide (k = 4))
  (ks.zip (ks.drop 1 ++ ks.take 1)).all (fun x => decide (x.1 ≠ x.2))

/-- Indices of GENERATE starts earlier than the close of the latest commit before them, one of the repetition before where the plan
repeats (14 R336). -/
def State.earlyGenerates (s : State) : List Nat :=
  let l := (List.range s.ttCount).map s.entry
  (s.entries.filter (fun x => decide (x.2.kind = 8) && decide (x.2.arg = 0)
    && (match (((if s.repeats = 1 then [] else l) ++ l.take x.1).reverse.filter (fun e => decide (e.kind = 3) || decide (e.kind = 4))).head? with
      | some e => decide (e.kind = 3)
      | none => false))).map (fun x => x.1)

/-- A selection entry (07 R174). -/
def State.selRules (s : State) (e : Nat) : Bool :=
  decide (bits e 16 5 ≤ 20) && decide (signed 8 (bits e 0 8) ≤ signed 8 (bits e 8 8))
    && (decide (bits e 48 8 = 0) || decide (4 * (bits e 32 16 + bits e 48 8) ≤ s.secLen 12))

/-- Entries of the envelope; an entry's offset and whole power (20 Table 20-4a). -/
def State.envelopes (s : State) : Nat := s.planNat (s.secOff 2) 4
def State.envelope (s : State) (i : Nat) : Nat × Nat :=
  let v := s.planNat (s.secOff 2 + 16 + 16 * i) 16
  (bits v 0 48, bits v 48 16 + bits v 64 16 + bits v 80 16)

/-- The envelope's own rules, but for its averages (20 R494). -/
def State.envelopeOk (s : State) (i : Nat) : Bool :=
  let e := s.envelope i
  (if i = 0 then decide (e.1 = 0) else decide ((s.envelope (i - 1)).1 < e.1)) && decide (e.1 < s.period) && decide (e.2 ≤ 2450)

/-- Power summed over the first `x` beats of the repeated envelope. -/
def State.powerUpTo (s : State) (x : Nat) : Nat :=
  let part := fun (y : Nat) => ((List.range s.envelopes).map (fun i =>
    let last := if i + 1 < s.envelopes then (s.envelope (i + 1)).1 else s.period
    (s.envelope i).2 * (Nat.min y last - (s.envelope i).1))).sum
  (x / s.period) * part s.period + part (x % s.period)

/-- The average over 1,000,000 beats from beat `x` on does not exceed 2,000 (20 R494). -/
def State.windowOk (s : State) (x : Nat) : Bool := decide (s.powerUpTo (x + 1000000) ≤ s.powerUpTo x + 2000 * 1000000)

/-- Indices of envelope entries at which a window that starts or ends there is too hot; no other window is hotter. -/
def State.hotWindows (s : State) : List Nat :=
  (List.range s.envelopes).filter (fun i =>
    let o := (s.envelope i).1
    !(s.windowOk o && s.windowOk (o + 1000000 * s.period - 1000000)))

/-- Class 0x08, but for what PlanHazards finds. -/
def State.class08 (s : State) : List Finding :=
  let es := (List.range s.ttCount).map s.entry
  let whole := decide (s.period ≠ 0) && decide (s.ttCount ≠ 0) && decide (s.ttCount ≤ 65536) && actsFrom (s.repeats == 1) none es && actBeats es
    && decide ((s.ofKind 3).length = (s.ofKind 4).length) && commitsPaired es
  must whole ++ wide (badIdx s.timesOk (List.range s.ttCount) ++ badIdx s.selRules ((List.range s.selEntries).map s.selEntry)
    ++ badIdx s.envelopeOk (List.range s.envelopes) ++ s.hotWindows ++ s.earlyGenerates)

end Sys2Proof.Machine
end

