-- ==== Sys2Proof/Machine/PlanTimes.lean ====
section
/-! DEFINITION. Load-time check class 0x09 (12 Table 12-12): the sixteen variants, the shape of streams (12 R284, R287, R289, R291),
and PLAN_CYC minima (04 R109, 05 R139, 06 R158, 08 R200, 09 R227, 10 R260, 13 R334, 14 R354, 15 R390), with the acknowledgement
round trips of remote writes at the worst-case distance. -/

namespace Sys2Proof.Machine

/-! ## Variants (12 R284) -/

/-- Offsets and sizes of the structures of variant `v`; a coefficient or schedule image has COUNT blocks (12 R286). -/
def State.structsOf (s : State) (v : Nat) : List (Nat × Nat) :=
  let off := fun lo => s.variantBits v lo 40
  [(off 0, 1808), (off 64, 1024), (off 128, 256), (off 192, 256 + 16384 * s.imageBlocks (off 192)),
    (off 256, 256 + 16384 * s.imageBlocks (off 256))]

/-- GEAR_W, GEAR_E, and every structure at a multiple of 256 inside section 11. -/
def State.variantFits (s : State) (v : Nat) : Bool :=
  decide (s.variantBits v 320 2 = v / 4) && decide (s.variantBits v 322 2 = v % 4)
    && (s.structsOf v).all (fun x => decide (x.1 % 256 = 0) && decide (x.1 + x.2 ≤ s.secLen 11))

/-- No structure of variant `v` overlaps one of an earlier variant at another offset. -/
def State.variantApart (s : State) (v : Nat) : Bool :=
  (List.range v).all (fun w => (s.structsOf v).all (fun x => (s.structsOf w).all (fun y =>
    decide (x.1 = y.1) || !overlaps x.1 x.2 y.1 y.2)))

/-! ## Streams -/

/-- A stream of a variant whose entry names descriptors beyond section 10. -/
def State.strayStream (s : State) (v u : Nat) : List Finding :=
  if (s.streamTab v u).2 = 0 || s.streamOk v u then [] else [(u, (s.streamTab v u).1)]

/-- A command where its stream allows it: END last and only there (12 R287), a SELECT with its ENTRY and its alternatives before the
END, which hold no SELECT, SWITCH or END (R289), a SWITCH in ascending K (R291). `l` is the stream. -/
def State.placed (s : State) (l : List PlanCmd) (c : PlanCmd) : Bool :=
  match dOpc c.d with
  | 2 => decide (c.pos + 1 = l.length)
  | 3 =>
    decide (bits c.d 128 12 < s.selEntries) && decide (c.pos + selectSpan c.d + 2 ≤ l.length)
      && ((l.drop (c.pos + 1)).take (selectSpan c.d)).all (fun x => decide (dOpc x.d ≠ 2) && decide (dOpc x.d ≠ 3) && decide (dOpc x.d ≠ 4))
  | 4 => decide (bits c.d 128 16 = ((l.take c.pos).filter (fun x => decide (dOpc x.d = 4))).length)
  | _ => true

/-- Wait and signal fields of the SWITCHes of a stream. -/
def switchFields (l : List PlanCmd) : List Nat := (l.filter (fun c => decide (dOpc c.d = 4))).map (fun c => bits c.d 8 117)

/-- Findings in stream `u` of variant `v`; its SWITCHes are those of variant 0. -/
def State.streamFindings (s : State) (v u : Nat) : List Finding :=
  let l := s.cmdsOf v u
  let noEnd := match l.getLast? with
    | some c => if dOpc c.d = 2 then [] else [(c.u, c.ix)]
    | none => []
  s.strayStream v u ++ (l.filter (fun c => !s.placed l c)).map (fun c => (c.u, c.ix)) ++ noEnd
    ++ (if switchFields l = switchFields (s.cmdsOf 0 u) then [] else [(u, (s.streamTab v u).1)])

/-! ## PLAN_CYC -/

/-- MESH_CYCLES between the cores of two unit numbers, the largest over every map with SHORT clear (02 R40, R41). -/
def worstMesh (a b : Nat) : Nat :=
  shippedDies.foldl (fun m d => Nat.max m (meshCyclesOf (routeOf d.holes (d.logical.getD a 0) (d.logical.getD b 0)))) 0

/-- Stacks that a range of HBM touches: page p lies on stack p mod 8 (13 R315). -/
def stacksOf (a n : Nat) : List Nat := ((List.range (Nat.min 8 ((a + n - 1) / 2 ^ 21 - a / 2 ^ 21 + 1))).map (fun i => (a / 2 ^ 21 + i) % 8))

/-- Unit number of the core whose space a key names. -/
def unitOfSpace (sp : Nat) : Nat :=
  if sp < 0x2000 then sp - 0x1000 else if sp < 0x3000 then 120 + (sp - 0x2000) else if sp < 0x4000 then 180 + (sp - 0x3000)
  else 210 + (sp - 0x4000)

/-- Core cycles of the acknowledgement of a write by unit `u` at worst-case distance, none in its own scratchpad or, for a Mule, its own
stack: a half's mesh clock is twice its core clock (05 R139, 02 R41, 13 R334, 20 R487). -/
def ackOf (u : Nat) (r : Nat × Nat) : Nat :=
  if r.2 = 0 then 0
  else if r.1 < 2 ^ 48 then
    ((stacksOf r.1 r.2).filter (fun st => decide (u ≠ 210 + st))).foldl (fun m st => Nat.max m (bits (worstEntry u st) 16 16 + 4)) 0
  else if unitOfSpace (r.1 / 2 ^ 48) = u then 0
  else worstMesh u (unitOfSpace (r.1 / 2 ^ 48)) + 4

/-- The completion of a command that would take `n` cycles, once its writes are acknowledged: the wait overlaps the 8 cycles of
closing work (05 R139; log 11 for units other than the stream engine). -/
def acked (u n : Nat) (outs : List (Nat × Nat)) : Nat := Nat.max n (n - 8 + outs.foldl (fun m r => Nat.max m (ackOf u r)) 0)

/-- T of a stream-engine command (05 R138, R139), if every pattern block it uses is checked. -/
def State.goatMinimum (s t : State) (c : PlanCmd) : Option Nat :=
  let q := goatCmd c.d
  if q.op = 0x10 then some 64
  else
    match s.allPats t c.num ([q.patX, q.patY, q.patZ].take (goatInputs q.op)), s.checkedPat t c.num q.patO with
    | some ins, some o =>
      let cs := (ins.map Pat.cycles).foldl Nat.max (o.cycles + ceilDiv o.portLoad.2 256)
      some (acked c.u (cs + 32) (o.spans c.num q.compress))
    | _, _ => none

/-- T of a row-engine command (06 R158). -/
def State.rowMinimum (s t : State) (c : PlanCmd) : Option Nat :=
  let q := rowCmd c.d
  let outs := (t.patsBy (s.checkedPat t c.num) c true).flatMap (fun p => p.spans c.num false)
  if q.rop = 0x20 ∨ q.rop = 0x21 then some (acked c.u (ceilDiv q.count 16 + 64) outs)
  else
    let ins := ((usedPats c.d (t.coefOf c)).filter (fun x => !x.2)).map (fun x => x.1)
    match s.allPats t c.num ins, s.checkedPat t c.num q.patX with
    | some ps, some x =>
      some (acked c.u (x.rows * (rowSweeps q.rop * ceilDiv x.rowLen ((ps.map Pat.rate).foldl Nat.min 128) + 48) + 32) outs)
    | _, _ => none

/-- T of an update command (08 R200). -/
def State.updMinimum (s t : State) (c : PlanCmd) : Option Nat :=
  match s.allPats t c.num ((usedPats c.d (t.coefOf c)).map (fun x => x.1)) with
  | some _ => some (acked c.u (t.updCycles c.num (updCmd c.d) (t.coefOf c))
      ((t.patsBy (s.checkedPat t c.num) c true).flatMap (fun p => p.spans c.num false)))
  | none => none

/-- T of an Ox command at its caps with no splits (04 R109); the interval of a windowed A counts once its window block is known. -/
def State.oxMinimum (s t : State) (c : PlanCmd) : Option Nat :=
  let q := oxCmd c.d
  match fmtOfByte q.fmtA, fmtOfByte q.fmtB with
  | some fa, some fb =>
    let l := Nat.min (laneOf fa.elem) (laneOf fb.elem)
    let i0 := Nat.max (intervalOf fa.elem) (intervalOf fb.elem)
    let i := match s.checkedWindow t c with
      | some v => if v.c % 32 ≠ 0 then 2 * i0 else i0
      | none => i0
    some (q.cycles (ceilDiv q.k (128 * l * 2 ^ q.sparse)) i l q.m q.n q.k)
  | _, _ => none

/-- T of a Hen command at its caps (09 R209, R213, R223, 14 R354). -/
def henMinimum (d : Nat) : Option Nat :=
  let q := henCmd d
  let port := fun (far : Bool) (n : Nat) => ceilDiv n (if far then 256 else 512)
  match bits d 128 8, fmtOfByte q.fmtA with
  | 0x01, some f =>
    let b := rowBytes f q.w
    some (48 + Nat.max (ceilDiv q.count 64) (Nat.max (q.count * port q.tHbm b) (q.count * port q.mesh b)))
  | 0x02, some f =>
    let src := ceilDiv (rowBytes f q.w) 512
    some (48 + q.count * Nat.max src (Nat.max (ceilDiv q.w 128) (port q.tHbm (4 * q.w))))
  | 0x03, some _ =>
    some (64 + 2 * ceilDiv q.k 128 + ceilDiv q.cap 32 + ceilDiv q.cap 224 + port q.mesh (512 * roundUp q.w 128) * (1 + b2n q.acc))
  | 0x04, _ => some (48 + bits d 256 7 * (ceilDiv (bits d 224 18) 64 + 72))
  | _, _ => none

/-- Budget of an expert command (10 Table 10-7). -/
def State.expertMinimum (t : State) (d : Nat) : Option Nat :=
  let q := expCmd d
  let rt := t.router q.router
  let n := q.count
  match q.hop, fmtOfByte q.fmt with
  | 0x10, _ => some (64 + n * (ceilDiv rt.e 64 + Nat.min rt.e (rt.k * (rt.depth + 1))))
  | 0x11, some f => some (48 + n * rt.k * (1 + ceilDiv (rowBytes f q.h) 256))
  | 0x12, some f => some (48 + rt.g + rt.g * rt.quota * ceilDiv (if q.gscale then 4 * q.h else rowBytes f q.h) 256)
  | 0x13, some f => some (48 + n * (1 + ceilDiv (rowBytes f q.h + 16) 256))
  | 0x14, some f => some (48 + n * (rt.k * ceilDiv (rowBytes f q.h) 256 + ceilDiv (4 * q.h) 256))
  | 0x15, _ => some 16
  | 0x16, _ => some (48 + n * (rt.k + 1) * ceilDiv (4 * q.h) 256 + n * ceilDiv (4 * rt.e) 256)
  | _, _ => none

/-- T of a Mule command at its caps (13 R334): a STASH_GET's, with the most that it can copy and the addresses of its fan-out block. -/
def State.muleMinimum (t : State) (n d : Nat) : Nat :=
  let q := muleCmd d
  match bits d 128 8 with
  | 1 => moveCycles q.xform (rangesLen (q.ins (muleFmt q))) (rangesLen (q.outs (muleFmt q)))
  | 2 => moveCycles 0 q.bytes q.bytes
  | _ => moveCycles 0 (t.stashBytes q) (t.stashBytes q) + 4 * (t.fanOuts (muleKey n q.fan)).length

/-- The effective gear of a half in a variant over the whole period: the slower of its ceiling and the slowest GEAR request (15
R390, 11 Table 11-5). -/
def State.planGear (s : State) (v half : Nat) : Nat :=
  let own := if half = 0 then v / 4 else v % 4
  (s.entries.filter (fun x => decide (x.2.kind = 7) && bit x.2.arg (2 + half))).foldl (fun m x => Nat.max m (x.2.arg % 4)) own

/-- T of a link-port command at a variant's effective gears (15 R390). -/
def State.linkMinimum (s : State) (c : PlanCmd) : Nat :=
  let t : State := { s with
    pwr.west.gear := s.planGear c.v 0
    pwr.east.gear := s.planGear c.v 1 }
  let q := linkCmd c.d
  t.linkCycles c.num q (if q.xop = 1 ∨ q.xop = 2 then (s.path s.fabricAddr q.dstMod).length else 1)

/-- PLAN_CYC of a command, where its descriptor keeps it. -/
def planCycOf (d : Nat) : Nat :=
  match dUnit d with
  | 1 => (oxCmd d).planCyc
  | 2 => (goatCmd d).planCyc
  | 3 => (rowCmd d).planCyc
  | 4 => (updCmd d).planCyc
  | 5 => if bits d 128 8 = 4 then bits d 320 32 else if bits d 128 8 < 4 then (henCmd d).planCyc else (expCmd d).planCyc
  | 6 => (muleCmd d).planCyc
  | _ => (linkCmd d).planCyc

/-- PLAN_CYC reaches the minimum. -/
def State.timely (s : State) (c : PlanCmd) : Bool :=
  let t := s.staged c.v
  if dOpc c.d ≠ 0 || !(unitsOf c.u).contains (dUnit c.d) then true
  else
    let least := match dUnit c.d with
      | 1 => s.oxMinimum t c
      | 2 => s.goatMinimum t c
      | 3 => s.rowMinimum t c
      | 4 => s.updMinimum t c
      | 5 => (if c.op < 0x10 then henMinimum c.d else t.expertMinimum c.d).map (fun n => acked c.u n (s.cmdOuts t c))
      | 6 => some (acked c.u (t.muleMinimum c.num c.d) (s.cmdOuts t c))
      | _ => some (s.linkMinimum c)
    match least with
    | some n => decide (n ≤ planCycOf c.d)
    | none => true

/-- Class 0x09. -/
def State.class09 (s : State) : List Finding :=
  wide (badIdx (fun v => s.variantFits v && s.variantApart v) (List.range 16))
    ++ (List.range 16).flatMap (fun v => (List.range 226).flatMap (s.streamFindings v)) ++ s.badCmds s.timely

end Sys2Proof.Machine
end

