-- ==== Sys2Proof/Machine/PlanFlow.lean ====
section
/-! DEFINITION. What the load-time checks know of a plan's run (12 R312): the planned times of its commands, each taking its PLAN_CYC,
and the order that sync counters give them whatever their timing (log 145). -/

namespace Sys2Proof.Machine

/-! ## Planned times -/

/-- Ticks of a beat in the planned times: the core cycles of Table 11-1 and a link cycle of 1 ns (15 R381) are whole ticks. -/
def beatTicks : Nat := 423000

/-- Ticks of a cycle of stream `u` in variant `v`, at the slower of its halves' effective gears: which half a core stands in the map
says (02 R37), not the plan. -/
def State.cycleTicks (s : State) (v u : Nat) : Nat :=
  if 218 ≤ u then 423 else beatTicks / gearCycles (Nat.max (s.planGear v 0) (s.planGear v 1))

/-- A command with the ticks, from the start of the repetition, at which it starts and completes. -/
structure Planned where
  cmd : PlanCmd
  start : Nat
  stop : Nat
deriving DecidableEq, Repr

/-- A stream's commands where every SELECT takes alternative `k`; the first argument is no less than their number. -/
def runOf (k : Nat) : Nat → List PlanCmd → List PlanCmd
  | _, [] => []
  | 0, _ => []
  | n + 1, c :: l =>
    if dOpc c.d = 3 then c :: ((selectAlts c.d l).getD k [] ++ runOf k n (l.drop (selectSpan c.d))) else c :: runOf k n l

/-- The commands of a variant where every SELECT takes alternative `k`, stream by stream. -/
def State.runCmds (s : State) (v k : Nat) : List PlanCmd :=
  (List.range 226).flatMap (fun u => runOf k (s.cmdsOf v u).length (s.cmdsOf v u))

/-- The least number of a list, if it has one. -/
def least : List Nat → Option Nat
  | [] => none
  | a :: l => some (l.foldl Nat.min a)

/-- Beats of the DEADLINEs that release a wait of target `t` on `ctr` (11 R277). -/
def State.dueAt (s : State) (ctr t : Nat) : Option Nat :=
  least (((s.ofKind 0x01).filter (fun x => decide (x.2.ctr = ctr) && decide (t ≤ x.2.target))).map (fun x => x.2.offset))

/-- The tick at which the signals of a list, each a tick and an increment, first sum up to `t`. -/
def reachAt (sigs : List (Nat × Nat)) (t : Nat) : Option Nat :=
  least ((sigs.map (fun x => x.1)).filter (fun b => decide (t ≤ ((sigs.filter (fun x => decide (x.1 ≤ b))).map (fun x => x.2)).sum)))

/-- The counter is the header's, one that the slot manager signals, or a fabric counter, so that signals from outside the plan's commands
and timetable may reach it (12 R562). -/
def State.signalledOutside (s : State) (id : Nat) : Bool :=
  decide (id ∈ [s.gateCtr, s.regearCtr, s.rtrCtr]) || decide (240 ≤ id / 128)
    || (s.hasActs && decide (id ∈ [s.acb 400 15, s.acb 432 15]))

/-- When a wait is over in a repetition whose commands run at `times`: GATE_CTR and REGEAR_CTR count commits (08 R195), other signals from
outside are planned for their DEADLINE where `planned`, else taken as there from the start; no wait outlasts its DEADLINE. -/
def State.waitOver (s : State) (planned : Bool) (times : List Planned) (w : Nat × Nat) : Nat :=
  let due := (s.dueAt w.1 w.2).map (fun b => b * beatTicks)
  let met : Option Nat :=
    if w.2 = 0 then some 0
    else if w.1 = s.gateCtr ∨ w.1 = s.regearCtr then ((s.ofKind 0x03)[w.2 - 1]?).map (fun x => x.2.offset * beatTicks)
    else if s.signalledOutside w.1 then (if planned then none else some 0)
    else reachAt ((times.filter (fun x => decide (dSig x.cmd.d = w.1))).map (fun x => (x.stop, dInc x.cmd.d))
      ++ (s.entries.filter (fun x => x.2.sig && decide (x.2.ctr = w.1))).map (fun x => (x.2.offset * beatTicks, 1))) w.2
  match met, due with
  | some a, some b => Nat.min a b
  | some a, none => a
  | none, some b => b
  | none, none => 0

/-- The times again, with waits over as `times` says: a command starts once the one before it in its stream has completed and its
waits are over, and takes `takes` ticks. -/
def State.retime (s : State) (planned : Bool) (takes : PlanCmd → Nat) (times : List Planned) : List Planned :=
  (times.foldl (fun (done : List Planned) x =>
    let free := match done with
      | y :: _ => if y.cmd.u = x.cmd.u then y.stop else 0
      | [] => 0
    let start := (cmdWaits x.cmd.d).foldl (fun m w => Nat.max m (s.waitOver planned times w)) free
    { cmd := x.cmd, start := start, stop := start + takes x.cmd } :: done) []).reverse

/-- The times of a repetition: from everything at once, each round moves what must wait, until as many rounds as commands. -/
def State.settle (s : State) (planned : Bool) (takes : PlanCmd → Nat) (cs : List PlanCmd) : List Planned :=
  (List.range (cs.length + 1)).foldl (fun times _ => s.retime planned takes times)
    (cs.map (fun c => { cmd := c, start := 0, stop := 0 }))

/-- The planned times of variant `v` where every SELECT takes alternative `k`: PLAN_CYC for an EXEC, one cycle for the rest (12
R288). -/
def State.plannedTimes (s : State) (v k : Nat) : List Planned :=
  s.settle true (fun c => (if dOpc c.d = 0 then planCycOf c.d else 1) * s.cycleTicks v c.u) (s.runCmds v k)

/-- The times with every command as quick, and every signal from outside as early, as can be. -/
def State.soonestTimes (s : State) (v k : Nat) : List Planned := s.settle false (fun _ => 0) (s.runCmds v k)

/-- The entries of a kind that fire at or before a tick. -/
def State.firedBy (s : State) (k tick : Nat) : Nat :=
  ((s.ofKind k).filter (fun x => decide (x.2.offset * beatTicks ≤ tick))).length

/-- The step, counted in its repetition, in which a command planned to start at `tick` runs: the commits before it; the last one's
is the next repetition's first. -/
def State.stepAt (s : State) (tick : Nat) : Nat := s.firedBy 3 tick % Nat.max 1 (s.ofKind 3).length

/-- The health cut that follows the planned completion of a command: cuts before that tick (07 R178). -/
def State.cutAfter (s : State) (tick : Nat) : Nat :=
  ((s.ofKind 2).filter (fun x => decide (x.2.offset * beatTicks < tick))).length

/-- The act open at a tick of the planned times (14 R336). -/
def State.actAt (s : State) (tick : Nat) : Option Nat :=
  (s.entries.filter (fun x => (decide (x.2.kind = 8) || decide (x.2.kind = 9)) && decide (x.2.offset * beatTicks ≤ tick))).foldl
    (fun _ x => if x.2.kind = 8 then some x.2.arg else none) none

/-! ## Order by sync counters -/

/-- The SELECT before a command and its alternative that holds it. -/
def State.altOf (s : State) (c : PlanCmd) : Option (Nat × Nat) :=
  (s.cmdsOf c.v c.u).findSome? (fun q =>
    let n := selectLens q.d
    let i := c.pos - (q.pos + 1)
    if dOpc q.d = 3 ∧ q.pos < c.pos ∧ i < selectSpan q.d then
      some (q.pos, if i < n.1 then 0 else if i < n.1 + n.2.1 then 1 else 2)
    else none)

/-- Two commands of a stream stand in different alternatives of one SELECT: one repetition runs one of them at most (12 R289). -/
def State.exclusive (s : State) (a b : PlanCmd) : Bool :=
  match s.altOf a, s.altOf b with
  | some x, some y => decide (a.u = b.u) && decide (x.1 = y.1) && decide (x.2 ≠ y.2)
  | _, _ => false

/-- Command `a` is `b` or runs before it in its stream. -/
def State.upTo (s : State) (a b : PlanCmd) : Bool := decide (a.u = b.u) && decide (a.pos ≤ b.pos) && !s.exclusive a b

/-- The most that `f` sums up to over a stream's commands, whichever alternatives run. -/
def mostOf (f : PlanCmd → Nat) : Nat → List PlanCmd → Nat
  | _, [] => 0
  | 0, _ => 0
  | n + 1, c :: l =>
    if dOpc c.d = 3 then
      f c + ((selectAlts c.d l).map (fun a => (a.map f).sum)).foldl Nat.max 0 + mostOf f n (l.drop (selectSpan c.d))
    else f c + mostOf f n l

/-- A wait of command `b` cannot be over before command `a` has completed: without the signals of `a` and of what runs after it, or after
`b`, its target is out of reach in the repetition; `rel` holds pairs known to be in order, one complete before the other starts.
Counters that are signalled from outside give no order. -/
def State.holdsBack (s : State) (v : Nat) (rel : List (PlanCmd × PlanCmd)) (a b : PlanCmd) (w : Nat × Nat) : Bool :=
  let late := fun (x : PlanCmd) => s.upTo a x || s.upTo b x || rel.contains (a, x) || rel.contains (b, x)
  !s.signalledOutside w.1
    && decide (((List.range 226).map (fun u => mostOf (fun c => if dSig c.d = w.1 && !late c then dInc c.d else 0)
        (s.cmdsOf v u).length (s.cmdsOf v u))).sum
      + (s.entries.filter (fun x => x.2.sig && decide (x.2.ctr = w.1))).length < w.2)

/-- The commands of stream `u` run one after another: a Mule's and a port's (13 R334, 12 R305). -/
def serial (u : Nat) : Bool := decide (210 ≤ u)

/-- Command `a` completes before `b` starts: a wait of `b`, or of a command before it in its stream, says so, or a DRAIN barrier, or that
stream runs its commands one after another (12 R297, R288). -/
def State.ordered (s : State) (v : Nat) (rel : List (PlanCmd × PlanCmd)) (a b : PlanCmd) : Bool :=
  (s.variantCmds v).any (fun x => s.upTo x b
    && (((serial x.u || (dOpc x.d == 1 && bit x.d 128)) && s.upTo a x && decide (a ≠ x))
      || (cmdWaits x.d).any (s.holdsBack v rel a x)))

/-- The pairs of commands of a repetition that are in order: what is known lets more be known, until as many rounds as commands. -/
def State.inOrder (s : State) (v : Nat) : List (PlanCmd × PlanCmd) :=
  let cs := s.variantCmds v
  (List.range (cs.length + 1)).foldl (fun rel _ => cs.flatMap (fun a => (cs.filter (s.ordered v rel a)).map (fun b => (a, b)))) []

end Sys2Proof.Machine
end

