-- ==== Sys2Proof/Machine/PlanPlace.lean ====
section
/-! DEFINITION. Load-time check classes 0x01 and 0x0A (12 Table 12-12): header, directory and sections; the region table and every
range that a plan names in memory (13 R321, R327, 12 R314, R565, 14 R338, 17 R422, R423, 07 R563). -/

namespace Sys2Proof.Machine

/-! ## Class 0x01 -/

/-- A section is required (12 Table 12-2). -/
def State.needed (s : State) (i : Nat) : Bool :=
  match i with
  | 6 => false
  | 7 => decide (0 < s.selEntries)
  | 8 => decide (0 < s.routers)
  | 9 => s.hasActs
  | 12 => (List.range s.selEntries).any (fun x => decide (0 < bits (s.selEntry x) 48 8))
  | _ => decide (i < 13)

/-- Least length of a present section (12 R282, R314). -/
def State.leastLen (s : State) (i : Nat) : Nat :=
  match i with
  | 0 => 16 + 16 * s.ttCount
  | 1 => 8192
  | 2 => 16 + 16 * s.envelopes
  | 3 => 1024
  | 4 => 131072
  | 5 => 1920
  | 7 => 8 * s.selEntries
  | 8 => 128 * s.routers
  | 9 => 576 + 32 * s.imageCount
  | 12 => 4 * s.tapLen
  | _ => 1

/-- A section lies at a multiple of 256 inside the plan, after the directory, long enough; a reserved one is absent. -/
def State.sectionOk (s : State) (i : Nat) : Bool :=
  let o := s.secOff i
  let l := s.secLen i
  if l = 0 then !s.needed i
  else decide (i < 13) && decide (o % 256 = 0) && decide (0x140 ≤ o) && decide (o + l ≤ s.plan.length) && decide (s.leastLen i ≤ l)

/-- No two present sections overlap. -/
def State.sectionsApart (s : State) : Bool :=
  (List.range 16).all (fun i => (List.range i).all (fun j => !overlaps (s.secOff i) (s.secLen i) (s.secOff j) (s.secLen j)))

/-- Class 0x01; `given` is the length that PLAN_LOAD names (12 R280 to R282). -/
def State.class01 (s : State) (given : Nat) : List Finding :=
  must (decide (s.planHdr 0 32 = 0x4E38504C) && decide (s.planHdr 32 16 = 1) && decide (s.plan.length % 4096 = 0)
      && decide (s.plan.length ≠ 0) && decide (s.plan.length ≤ given) && decide (s.planHdr 320 48 % 1024 = 0)
      && s.sectionsApart)
    ++ wide (badIdx s.sectionOk (List.range 16))

/-! ## Regions -/

/-- A region's own shape (13 Table 13-2, R324, R327). -/
def Region.shapeOk (r : Region) : Bool :=
  let fits := decide (r.base % 8 = 0) && decide (r.pages % 8 = 0) && decide (8 ≤ r.pages) && decide (r.base + r.pages ≤ 262144)
  let kv := decide (r.arg0 % 256 = 0) && decide (256 ≤ r.arg0) && decide (r.arg0 ≤ 2 ^ 24) && decide (r.arg1 % 8 = 0)
    && decide (8 ≤ r.arg1) && decide (r.arg1 ≤ r.pages)
    && decide (1 ≤ Nat.min ((r.pages - r.arg1) * 2 ^ 21 / Nat.max 1 r.arg0) (r.arg1 * 2 ^ 19 - 1))
  let stash := decide (r.arg0 + r.arg1 ≤ r.arg2) && decide (r.arg2 ≤ r.pages)
  fits && (if r.kind = 5 then kv else if r.kind = 4 then stash else true)

/-- Region `i` is well shaped, and apart from every earlier one (13 R321). -/
def State.regionRule (s : State) (i : Nat) : Bool :=
  let r := s.region i
  decide (r.kind = 0) || (r.shapeOk && (List.range i).all (fun j =>
    decide ((s.region j).kind = 0) || !overlaps r.base r.pages (s.region j).base (s.region j).pages))

/-- Regions of a kind. -/
def State.kindRegions (s : State) (k : Nat) : List Region := ((s.regions).map (fun r => r.2)).filter (fun r => decide (r.kind = k))

/-- The plan lies in its one region, the log region where it must (13 R321, 19 R468); at most one shadow region, and one where the
timetable has CHECKPOINTs (17 R423). `given` is the length of PLAN_LOAD's range. -/
def State.regionTableOk (s : State) (given : Nat) : Bool :=
  let inPlan := match s.kindRegions 9 with
    | [r] => decide (r.base * 2 ^ 21 ≤ s.plan.base) && decide (s.plan.base + given ≤ (r.base + r.pages) * 2 ^ 21)
    | _ => false
  let logOk := match s.kindRegions 10 with
    | [r] => decide (r.base = 262112) && decide (r.pages = 32)
    | _ => false
  inPlan && logOk && decide ((s.kindRegions 2).length ≤ 1)
    && (!(s.kindRegions 2).isEmpty || (s.ofKind 5).isEmpty)

/-- The range lies inside the region. -/
def Region.holds (r : Region) (x : Nat × Nat) : Bool :=
  decide (r.base * 2 ^ 21 ≤ x.1) && decide (x.1 + x.2 ≤ (r.base + r.pages) * 2 ^ 21)

/-- A range of HBM inside a region of one of the kinds; an empty one, or one elsewhere, passes. -/
def State.inKinds (s : State) (ks : List Nat) (x : Nat × Nat) : Bool :=
  decide (x.2 = 0) || decide (2 ^ 48 ≤ x.1) || s.regions.any (fun r => decide (r.2.kind ∈ ks) && r.2.holds x)

/-! ## Ranges of commands (13 R317, R321, R327) -/

/-- A unit may write the range: its region's kind lets it; the droppable area is STASH_PUT's, list pages are the KV allocator's; a write
that meets the keep area lies inside it (13 Table 13-3, R327). -/
def State.mayWrite (s : State) (put : Bool) (x : Nat × Nat) : Bool :=
  let meets := fun (lo hi : Nat) => overlaps x.1 x.2 lo (hi - lo)
  decide (x.2 = 0) || decide (2 ^ 48 ≤ x.1) || s.regions.any (fun e =>
    let r := e.2
    let keepFrom := (r.base + r.arg0) * 2 ^ 21
    let within := decide (keepFrom ≤ x.1) && decide (x.1 + x.2 ≤ r.dropFrom)
    decide (r.kind ∈ [1, 3, 4, 5, 6, 8]) && r.holds x
      && (decide (r.kind ≠ 4) || ((put || !meets r.dropFrom r.highWater) && (within || !meets keepFrom r.dropFrom)))
      && (decide (r.kind ≠ 5) || !meets (r.base * 2 ^ 21) ((r.base + r.arg1) * 2 ^ 21)))

/-- A SPILL whose block lies in HBM writes a keep area (06 R154, 13 R327). -/
def State.spillKept (s t : State) (c : PlanCmd) : Bool :=
  !(c.isExec 3 && decide (c.op = 0x20)) || (s.cmdOuts t c).all (fun x =>
    decide (2 ^ 48 ≤ x.1) || (s.kindRegions 4).any (fun r =>
      decide ((r.base + r.arg0) * 2 ^ 21 ≤ x.1) && decide (x.1 + x.2 ≤ r.dropFrom)))

/-- The carry area of an XREDUCE under LATE_POLICY 1, one contribution long, lies in a scratch region (15 R401). -/
def State.carryOk (s t : State) (c : PlanCmd) : Bool :=
  let q := linkCmd c.d
  !(c.isExec 7 && decide (q.xop = 4) && s.latePolicy) || s.inKinds [3] (q.carryAddr, if q.tr then t.trailerBytes else q.cBytes)

/-- The ranges of a command. -/
def State.rangesOk (s : State) (c : PlanCmd) : Bool :=
  let t := s.staged c.v
  let ins := s.cmdIns t c
  let outs := s.cmdOuts t c
  rangesFit (ins ++ outs) && ins.all (s.inKinds [1, 2, 3, 4, 5, 6, 7, 8, 9, 10])
    && outs.all (s.mayWrite (c.isExec 6 && decide (c.op = 2))) && s.spillKept t c && s.carryOk t c

/-! ## Images (12 R314) -/

/-- The image's place: inside section 9, a unit that exists, a range inside the scratchpad or control memory. -/
def State.imagePlaced (s : State) (e : Nat) : Bool :=
  let kind := bits e 4 3
  let size := [0x400000, 0x200000, 0x400000, 0x10000].getD kind 0
  decide (bits e 64 40 + bits e 128 32 ≤ s.secLen 9) && (bit e 7 || decide (bits e 8 8 < imageUnits kind))
    && (decide (bits e 0 2 = 0) || decide (bits e 32 32 + bits e 128 32 ≤ size))

/-- Two images of one unit overlap: ranges of one space, or one pair of function tables. -/
def imagesClash (a b : Nat) : Bool :=
  decide (bits a 0 2 = bits b 0 2) && decide (bits a 4 3 = bits b 4 3) && (bit a 7 || bit b 7 || decide (bits a 8 8 = bits b 8 8))
    && (if bits a 0 2 = 0 then decide (bits a 16 5 = bits b 16 5)
      else overlaps (bits a 32 32) (bits a 128 32) (bits b 32 32) (bits b 128 32))

/-- Image `i` is placed, apart from every earlier one. -/
def State.imageRule (s : State) (i : Nat) : Bool :=
  s.imagePlaced (s.imageEntry i) && (List.range i).all (fun j => !imagesClash (s.imageEntry j) (s.imageEntry i))

/-! ## Ranges that the plan's structures name -/

/-- TRL_ADDR, RTR_ADDR and the step-record ring where the timetable needs them, in scratch regions (12 R565). -/
def State.buffersOk (s : State) : Bool :=
  let len := s.trailerBytes
  ((s.ofKind 2).isEmpty || s.inKinds [3] (s.trlAddr, len))
    && ((s.ofKind 3).isEmpty || (s.inKinds [3] (s.rtrAddr, len) && s.inKinds [3] (s.planHdr 320 48, 2 ^ 20)))

/-- Ranges that the act control block names, as far as the plan gives their lengths (14 R338 to R348, R356). -/
def State.actRanges (s : State) : List (Nat × Nat) :=
  let at_ := fun (lo n : Nat) => (addr256 (s.acb lo 40), n)
  let maxCtx := s.acb 448 24
  let rows := roundUp (4 * s.acb 512 7 * maxCtx) 256
  [at_ 0 256, at_ 40 256, at_ 120 (4 * s.acb 528 8), at_ 160 4096, at_ 200 (256 * ceilDiv maxCtx 16),
      at_ 240 (0xB00 + 12 * s.acb 480 14), at_ 280 512, at_ 320 (0x400 + 2 * rows + 4 * s.acb 512 7 * s.acb 528 8)]
    ++ (if s.acb 80 40 = 0 then [] else [at_ 80 256])

/-- Residency maps and usage windows lie in a region of kind 1 (17 R422). -/
def State.routerPlaced (s : State) (r : Nat) : Bool :=
  let rt := s.router r
  s.inKinds [1] (rt.mapAddr, 2 * rt.e) && s.inKinds [1] (rt.usageWin, 4 * rt.e)

/-- COMMITs between two consecutive CHECKPOINTs, at most (17 R423). -/
def State.commitsApart (s : State) : Nat :=
  let ks := (s.entries.map (fun x => x.2.kind)).filter (fun k => decide (k = 3) || decide (k = 5))
  let runs := fun (l : List Nat) => (l.foldl (fun (a : Nat × Nat) k => if k = 3 then (a.1 + 1, Nat.max a.2 (a.1 + 1)) else (0, a.2)) (0, 0)).2
  runs (ks ++ ks)

/-- Every stack's shadow pages suffice (17 R423): for its pages of kinds 1 and 6, the pager's part and one more; a region holds as many
pages on each stack. -/
def State.shadowEnough (s : State) : Bool :=
  let pages := fun (k : Nat) => ((s.kindRegions k).map (fun r => r.pages / 8)).sum
  let c7 := ((List.range s.routers).map (fun r =>
    let rt := s.router r
    rt.g * rt.maxSwaps * ceilDiv rt.imgPages 16 * (if rt.qRes = 0 then 0 else ceilDiv s.commitsApart rt.qRes))).sum
  (s.ofKind 5).isEmpty || decide (pages 1 + pages 6 + ceilDiv c7 8 + 1 ≤ pages 2)

/-- A Goat that exists (07 R563). -/
def tapPlaced (e : Nat) : Bool := decide (bits e 0 6 < 60)

/-- Class 0x0A. -/
def State.class0A (s : State) (given : Nat) : List Finding :=
  must (s.regionTableOk given && s.buffersOk && (!s.hasActs || s.actRanges.all (s.inKinds [3, 8])) && s.shadowEnough)
    ++ wide (badIdx s.regionRule (List.range 256)
      ++ badIdx s.imageRule (List.range s.imageCount) ++ badIdx tapPlaced ((List.range s.tapLen).map s.tapEntry)
      ++ badIdx s.routerPlaced (List.range s.routers))
    ++ s.badCmds s.rangesOk

end Sys2Proof.Machine
end

