-- ==== Sys2Proof/Machine/PlanHazards.lean ====
section
/-! DEFINITION. Load-time checks that follow from a plan's order and from its planned times: recompute segments and acts (class 0x03), order
and hazards (0x07), windows, cuts and paging (0x08), keep areas (0x0A), operand provenance (0x0B); what the spec leaves to read from
the plan in each is log 145's. -/

namespace Sys2Proof.Machine

/-- The findings at commands of the variants. -/
def perVariant (bad : Nat → List PlanCmd) : List Finding := ((List.range 16).flatMap (fun v => atCmds (bad v))).eraseDups

/-- The planned commands of variant `v`, under every alternative. -/
def State.plannedAll (s : State) (v : Nat) : List Planned := [0, 1, 2].flatMap (s.plannedTimes v)

/-- The commands of variant `v` that some planned run finds at fault. -/
def State.byTimes (s : State) (bad : List Planned → List PlanCmd) (v : Nat) : List PlanCmd :=
  [0, 1, 2].flatMap (fun k => bad (s.plannedTimes v k))

/-! ## Accesses and their order -/

/-- A command with the ranges that it writes and reads, by its checked pattern blocks. -/
structure Access where
  cmd : PlanCmd
  outs : List (Nat × Nat)
  ins : List (Nat × Nat)
deriving DecidableEq, Repr

/-- The accesses of variant `v`. -/
def State.accesses (s : State) (v : Nat) : List Access :=
  let t := s.staged v
  (s.variantCmds v).map (fun c => { cmd := c, outs := s.cmdOuts t c, ins := s.cmdIns t c })

/-- Command `a` precedes `b` in the plan's order: in its stream, or by sync counters. -/
def State.precedes (s : State) (rel : List (PlanCmd × PlanCmd)) (a b : PlanCmd) : Bool := (s.upTo a b && decide (a ≠ b)) || rel.contains (a, b)

/-- A write by `w` can meet a read by `x` at one time: no sync counter orders them, and in one stream the write does not follow the read
(05 R140, 09 R206, R228). -/
def State.racesWith (s : State) (rel : List (PlanCmd × PlanCmd)) (w x : PlanCmd) : Bool :=
  decide (w ≠ x) && !s.exclusive w x && !rel.contains (w, x) && !rel.contains (x, w) && !s.upTo x w

/-- Two writes can run at one time: of different streams, with no sync counter between them. -/
def unordered (rel : List (PlanCmd × PlanCmd)) (a b : PlanCmd) : Bool :=
  decide (a.u ≠ b.u) && !rel.contains (a, b) && !rel.contains (b, a)

/-- One range holds another. -/
def covers (l : List (Nat × Nat)) (r : Nat × Nat) : Bool := l.any (fun y => decide (y.1 ≤ r.1) && decide (r.1 + r.2 ≤ y.1 + y.2))

/-- The writers whose bytes `x` may find in range `r`: not after it, and none between that writes all that they write there. -/
def State.lastWriters (s : State) (rel : List (PlanCmd × PlanCmd)) (l : List Access) (x : PlanCmd) (r : Nat × Nat) : List Access :=
  let ws := l.filter (fun w => decide (w.cmd ≠ x) && rangesMeet w.outs [r] && !s.precedes rel x w.cmd && !s.exclusive w.cmd x)
  ws.filter (fun w => !ws.any (fun o => s.precedes rel w.cmd o.cmd && s.precedes rel o.cmd x
    && (w.outs.filter (fun y => rangesMeet [y] [r])).all (fun y => covers o.outs y || covers o.outs r)))

/-! ## Side memory (06 R153) -/

/-- What a row-engine command does to side entries, by its checked X: 0 a forward command writes them, 1 RELOAD, 2 SPILL, 3 a backward
command reads them; first entry, number, key. -/
def State.sideUse (s t : State) (c : PlanCmd) : Option (Nat × Nat × Nat × Nat) :=
  let q := rowCmd c.d
  let rows := (s.checkedPat t c.num q.patX).map Pat.rows
  if q.rop = 0x20 then some (2, q.sideRow, q.count, q.stashId)
  else if q.rop = 0x21 then some (1, q.sideRow, q.count, q.stashId)
  else if rowBackward q.rop then rows.map (fun n => (3, q.sideRow, n, q.stashId))
  else if q.statsW then rows.map (fun n => (0, q.sideRow, n, q.stashId))
  else none

/-- Entry `e` is read under `key` although, since a forward command wrote it under that key, another has written it, or a SPILL has emptied it
with no RELOAD since; `past` holds the uses before, latest first. -/
def entryLost (past : List (Nat × Nat × Nat × Nat)) (e key : Nat) : Bool :=
  let at_ := past.filter (fun x => decide (x.2.1 ≤ e) && decide (e < x.2.1 + x.2.2.1) && decide (x.1 ≠ 3))
  at_.any (fun x => decide (x.1 = 0) && decide (x.2.2.2 = key)) && (match at_.head? with
    | some x => decide (x.1 = 2) || decide (x.2.2.2 ≠ key)
    | none => false)

/-- The readers at fault on a path of a Goat's row-engine commands. -/
def State.sideBreaks (s t : State) (l : List PlanCmd) : List PlanCmd :=
  (l.foldl (fun (a : List (Nat × Nat × Nat × Nat) × List PlanCmd) c =>
    match s.sideUse t c with
    | none => a
    | some x =>
      (x :: a.1, if x.1 = 3 ∧ (List.range x.2.2.1).any (fun i => entryLost a.1 (x.2.1 + i) x.2.2.2) = true then a.2 ++ [c] else a.2))
    ([], [])).2

/-! ## Health (07 R178 to R180) -/

/-- A HEALTH = 1 command of a LEARN act. -/
def State.learns (s : State) (p : Planned) : Bool := p.cmd.health && decide (s.actAt p.start = some 2)

/-- The HEALTH_CUT entries, in order, with their counters. -/
def State.cuts (s : State) : List (Nat × Entry) := s.ofKind 2

/-- The cut of a HEALTH = 1 command or of a DRAIN barrier: the next after its planned completion, of the next repetition's first after
the last; for a barrier, the next on its counter. -/
def State.cutOf (s : State) (p : Planned) : Nat :=
  let n := Nat.max 1 s.cuts.length
  let own := (List.range s.cuts.length).filter (fun i => decide (s.cutAfter p.stop ≤ i)
    && (!p.cmd.drains || decide ((s.cuts[i]?).map (fun x => x.2.ctr) = some (dSig p.cmd.d))))
  own.headD (s.cutAfter p.stop % n)

/-- A planned run's HEALTH = 1 commands that no DRAIN barrier of their stream follows before the first of a later cut, signalling their
cut's counter; and commands that signal a health counter otherwise (07 R180). -/
def State.healthBreaks (s : State) (times : List Planned) : List PlanCmd :=
  let hs := s.healthCtrs
  let follows := fun (p : Planned) =>
    let after := times.filter (fun x => decide (x.cmd.u = p.cmd.u) && decide (p.cmd.pos < x.cmd.pos) && (x.cmd.drains || s.learns x))
    (after.takeWhile (fun x => !(s.learns x && decide (s.cutOf x ≠ s.cutOf p)))).any (fun x =>
      x.cmd.drains && decide ((s.cuts[s.cutOf p]?).map (fun e => e.2.ctr) = some (dSig x.cmd.d)))
  (times.filter (fun p => (decide (dSig p.cmd.d ∈ hs) && !p.cmd.drains)
    || (s.learns p && decide ((s.cuts[s.cutOf p]?).any (fun e => decide (e.2.ctr ≠ noCtr))) && !follows p))).map (fun p => p.cmd)

/-- HEALTH_CUT entries whose TARGET is not what the barriers of their own and of earlier cuts on their counter bring in the planned run;
entries that signal a health counter. -/
def State.healthTargets (s : State) (times : List Planned) : List Nat :=
  ((s.cuts.zipIdx.filter (fun x =>
    decide (x.1.2.ctr ≠ noCtr) && decide (x.1.2.target ≠ ((times.filter (fun p => p.cmd.drains && decide (dSig p.cmd.d = x.1.2.ctr)
      && decide (s.cutOf p ≤ x.2))).map (fun p => dInc p.cmd.d)).sum))).map (fun x => x.1.1))
    ++ ((s.entries.filter (fun x => x.2.sig && decide (x.2.ctr ∈ s.healthCtrs))).map (fun x => x.1))

/-- HEALTH_CUT entries that name no counter although their step has a HEALTH = 1 command (07 R180). -/
def State.blindCuts (s : State) (times : List Planned) : List Nat :=
  (s.cuts.zipIdx.filter (fun x => decide (x.1.2.ctr = noCtr) && times.any (fun p => s.learns p && decide (s.cutOf p = x.2)))).map
    (fun x => x.1.1)

/-- HEALTH = 1 commands that can start before the cut before theirs (07 R179). -/
def State.earlyHealth (s : State) (v : Nat) : List PlanCmd :=
  [0, 1, 2].flatMap (fun k =>
    ((s.plannedTimes v k).zip (s.soonestTimes v k)).filterMap (fun x =>
      if s.learns x.1 ∧ 0 < s.cutAfter x.1.stop
          ∧ ((s.cuts[s.cutAfter x.1.stop - 1]?).any (fun e => decide (x.2.start < e.2.offset * beatTicks))) = true then some x.1.cmd
      else none))

/-! ## Steps -/

/-- Two DROP commands of one step, LAYER and MBATCH that enumerate different counts (07 R171). -/
def State.dropsClash (s t : State) (times : List Planned) : List PlanCmd :=
  let drops := times.filterMap (fun p =>
    if p.cmd.isExec 2 && dDrop p.cmd.d then (s.checkedPat t p.cmd.num (goatCmd p.cmd.d).patO).map (fun o => (p, o.n)) else none)
  (drops.filter (fun b => drops.any (fun a => decide ((goatCmd a.1.cmd.d).layer = (goatCmd b.1.cmd.d).layer)
    && decide ((goatCmd a.1.cmd.d).mbatch = (goatCmd b.1.cmd.d).mbatch) && decide (s.stepAt a.1.start = s.stepAt b.1.start)
    && decide (a.2 ≠ b.2)))).map (fun b => b.1.cmd)

/-- An XREDUCE: a trailer hop (`tr`) or a chunk hop. -/
def PlanCmd.hop (c : PlanCmd) (tr : Bool) : Bool := c.isExec 7 && decide ((linkCmd c.d).xop = 4) && ((linkCmd c.d).tr == tr)

/-- Trailer hops that can start before a chunk hop of their step has completed (15 R388). -/
def State.earlyTrailers (s : State) (rel : List (PlanCmd × PlanCmd)) (times : List Planned) : List PlanCmd :=
  (times.filter (fun y => y.cmd.hop true && times.any (fun x => x.cmd.hop false && decide (s.stepAt x.start = s.stepAt y.start)
    && !rel.contains (x.cmd, y.cmd)))).map (fun y => y.cmd)

/-- A SELECT or SWITCH whose target on REGEAR_CTR is not the number of the step that it is planned in (12 R291). -/
def State.wrongStep (s : State) (times : List Planned) : List PlanCmd :=
  (times.filter (fun p => (decide (dOpc p.cmd.d = 3) || decide (dOpc p.cmd.d = 4))
    && (match waitTarget p.cmd.d s.regearCtr with
      | some k => decide (k ≠ s.firedBy 3 p.start)
      | none => false))).map (fun p => p.cmd)

/-! ## Hens (09 R205, R206, R211, 10 R249) -/

/-- Ranges that a Hen command reads, but for what it adds into. -/
def State.henSources (t : State) (c : PlanCmd) : List (Nat × Nat) :=
  let q := expCmd c.d
  let all := t.insBy (fun _ => none) c
  if c.scatters then all.filter (fun r => !rangesMeet [r] (scatterTable c))
  else if c.op = 0x10 then all.filter (fun r => decide (r.1 ≠ q.outA) && decide (r.1 ≠ henKey c.num q.aux))
  else all

/-- Hen commands that overlap themselves, or whose sources another command can write at the same time (09 R206). -/
def State.henRaces (s : State) (v : Nat) (rel : List (PlanCmd × PlanCmd)) (l : List Access) : List PlanCmd :=
  let t := s.staged v
  ((l.filter (fun h => h.cmd.isExec 5 && (
    let src := t.henSources h.cmd
    rangesMeet h.outs src || l.any (fun w => s.racesWith rel w.cmd h.cmd && rangesMeet w.outs src)))).map (fun h => h.cmd)).eraseDups

/-- SCATTER_ADDs whose destination rows a command of another stream can write at the same time (09 R211). -/
def scatterRaces (rel : List (PlanCmd × PlanCmd)) (l : List Access) : List PlanCmd :=
  ((l.filter (fun h => h.cmd.scatters
    && l.any (fun w => unordered rel w.cmd h.cmd && rangesMeet w.outs (scatterTable h.cmd)))).map (fun h => h.cmd)).eraseDups

/-- A plain operand in a scratchpad: its value array. -/
def plainAt (key rows cols fmt : Nat) : List (Nat × Nat) :=
  match fmtOfByte fmt with
  | some f => if f.comp = .plain then [(key, tilesOf rows cols * f.elem.tileBytes)] else []
  | none => []

/-- The plain operands that an Ox or an SPMM multiplies (09 R205). -/
def plainOperands (c : PlanCmd) (v : Window) : List (Nat × Nat) :=
  if c.isExec 1 then
    let q := oxCmd c.d
    (if q.qA then [] else plainAt (oxKey c.num q.aAddr) (q.shapeA v).1 (q.shapeA v).2 q.fmtA)
      ++ (if q.qB then [] else plainAt (oxKey c.num q.bAddr) q.shapeB.1 q.shapeB.2 q.fmtB)
  else if c.isExec 5 && decide (c.op = 3) then
    let q := henCmd c.d
    plainAt (henKey c.num q.src) 128 q.k q.fmtA ++ plainAt (henKey c.num q.idx) q.k q.w q.fmtB
  else []

/-- Class 0x0B: commands with a plain operand whose last writer may be a Hen (09 R205). -/
def State.untagged (s : State) (v : Nat) (rel : List (PlanCmd × PlanCmd)) (l : List Access) : List PlanCmd :=
  let t := s.staged v
  ((l.filter (fun x => (plainOperands x.cmd (t.window (oxKey x.cmd.num (oxCmd x.cmd.d).winAddr))).any (fun r =>
    (s.lastWriters rel l x.cmd r).any (fun w => w.cmd.isExec 5)))).map (fun x => x.cmd)).eraseDups

/-- The gate that an expert command closes: 0 dispatch, 1 answer (10 R249). -/
def PlanCmd.closes (c : PlanCmd) : Option Nat :=
  if !c.isExec 5 then none
  else if c.op = 0x12 then some 0
  else if c.op = 0x14 then some 1
  else if c.op = 0x15 then some (if (expCmd c.d).gscale then 1 else 0)
  else none

/-- Epoch `x` is before epoch `y` in 16-bit serial arithmetic. -/
def epochBefore (x y : Nat) : Bool := decide (x ≠ y) && decide ((y + 65536 - x) % 65536 < 32768)

/-- The expert commands of a router in a planned run. -/
def ofRouter (times : List Planned) (r : Nat) : List Planned :=
  times.filter (fun p => p.cmd.isExec 5 && decide (0x10 ≤ p.cmd.op) && decide ((expCmd p.cmd.d).router = r))

/-- When gate `g` first closes epoch `x`. -/
def closedAt (l : List Planned) (g x : Nat) : Option Nat :=
  least ((l.filter (fun p => decide (p.cmd.closes = some g) && decide ((expCmd p.cmd.d).epoch = x))).map (fun p => p.start))

/-- Commands that close an epoch at a gate before an earlier epoch is closed there, or begin one while four others are open: an epoch is
open from its first command until both gates have closed it (10 R249). -/
def State.epochBreaks (s : State) (times : List Planned) : List PlanCmd :=
  (List.range s.routers).flatMap (fun r =>
    let l := ofRouter times r
    let epochs := (l.map (fun p => (expCmd p.cmd.d).epoch)).eraseDups
    let begun := fun (x : Nat) => (least ((l.filter (fun p => decide ((expCmd p.cmd.d).epoch = x))).map (fun p => p.start))).getD 0
    let open_ := fun (x tick : Nat) => decide (begun x ≤ tick) && (match closedAt l 0 x, closedAt l 1 x with
      | some a, some b => decide (tick < Nat.max a b)
      | _, _ => true)
    ((l.filter (fun p =>
      let y := (expCmd p.cmd.d).epoch
      (match p.cmd.closes with
        | some g => epochs.any (fun x => epochBefore x y && (match closedAt l g x with
          | some b => decide (p.start < b)
          | none => false))
        | none => false)
      || (decide (p.start = begun y) && decide (4 < (epochs.filter (fun x => open_ x p.start)).length)))).map (fun p => p.cmd)))

/-! ## Windows and paging (08 R197, 10 R257) -/

/-- The offset at which the update window of the commit at `e` closes, counted on past the period where it wraps; the entries run in
firing order (08 R197). -/
def State.closeOf (s : State) (i : Nat) : Option Nat :=
  let l := s.entries
  match (l.drop (i + 1)).find? (fun x => decide (x.2.kind = 4)) with
  | some x => some x.2.offset
  | none => (l.find? (fun x => decide (x.2.kind = 4))).map (fun x => x.2.offset + s.period)

/-- The planned completions, in ticks, of the gated commands of the `k`-th commit of the repetition, counted from 1: those that the next
repetition runs for the last commit have target 0 there. -/
def State.gatedStops (s : State) (times : List Planned) (k : Nat) : List (PlanCmd × Nat) :=
  (times.filter (fun p => p.cmd.gated)).filterMap (fun p =>
    match waitTarget p.cmd.d s.gateCtr with
    | some g =>
      if g = k then some (p.cmd, p.stop)
      else if g = 0 ∧ k = (s.ofKind 3).length then some (p.cmd, p.stop + s.period * beatTicks) else none
    | none => none)

/-- Gated commands planned to complete after their window's close. -/
def State.openWindows (s : State) (times : List Planned) : List PlanCmd :=
  (s.ofKind 3).zipIdx.flatMap (fun x =>
    match s.closeOf x.1.1 with
    | some u => ((s.gatedStops times (x.2 + 1)).filter (fun g => decide (u * beatTicks < g.2))).map (fun g => g.1)
    | none => [])

/-- CHECKPOINT entries inside a window: from its commit beat until its last gated command completes. -/
def State.checkpointsInside (s : State) (times : List Planned) : List Nat :=
  ((s.ofKind 5).filter (fun q => (s.ofKind 3).zipIdx.any (fun x =>
    let last := ((s.gatedStops times (x.2 + 1)).map (fun g => g.2)).foldl Nat.max 0
    [q.2.offset, q.2.offset + s.period].any (fun o =>
      decide (x.1.2.offset = o) || (decide (x.1.2.offset < o) && decide (o * beatTicks < last)))))).map (fun q => q.1)

/-- The paging intervals of the period (10 R257): from the later of a commit's update-close beat and its checkpoint beat to the next
residency-ready beat, with the entry that starts it. -/
def State.pagings (s : State) : List (Nat × Nat × Nat) :=
  let l := s.entries ++ s.entries.map (fun x => (x.1, { x.2 with offset := x.2.offset + s.period }))
  l.zipIdx.filterMap (fun x =>
    if x.1.2.kind = 4 ∧ x.2 < s.ttCount then
      let after := (l.drop (x.2 + 1)).takeWhile (fun y => decide (y.2.kind ≠ 3))
      match after.find? (fun y => decide (y.2.kind = 6)) with
      | some r =>
        let ckpt := (after.takeWhile (fun y => decide (y.2.kind ≠ 6))).find? (fun y => decide (y.2.kind = 5))
        some (x.1.1, (ckpt.map (fun y => y.2.offset)).getD x.1.2.offset, r.2.offset)
      | none => none
    else none)

/-- Pages that paging for router `r` moves: its slots and its stripes of the cold-pool slice. -/
def State.pagedRanges (s : State) (r : Nat) : List (Nat × Nat) :=
  let rt := s.router r
  (rt.slotBase, rt.s * rt.imgPages * 2 ^ 21)
    :: (s.kindRegions 7).map (fun g =>
      ((g.base + rt.coldOff) * 2 ^ 21, ceilDiv (rt.e * rt.imgPages) (Nat.max 1 (s.ringOf rt.coldDim)) * 2 ^ 21))

/-- Routers that page at residency boundaries (10 R254). -/
def State.pagers (s : State) : List Nat := (List.range s.routers).filter (fun r => decide ((s.router r).qRes ≠ 0))

/-- Commands planned to read or write a router's slots or cold-pool pages while it pages. -/
def State.pagedUse (s : State) (v : Nat) (times : List Planned) : List PlanCmd :=
  let t := s.staged v
  (times.filter (fun p => s.pagings.any (fun x => [0, s.period].any (fun shift =>
      decide (p.start + shift * beatTicks < x.2.2 * beatTicks) && decide (x.2.1 * beatTicks < p.stop + shift * beatTicks)))
    && s.pagers.any (fun r => rangesMeet (s.cmdOuts t p.cmd ++ s.cmdIns t p.cmd) (s.pagedRanges r)))).map (fun p => p.cmd)

/-- Update-close entries whose paging interval holds a checkpoint beat or is too short (10 R257). -/
def State.badPagings (s : State) : List Nat :=
  if s.pagers.isEmpty then []
  else
    (s.pagings.filter (fun x =>
      (s.ofKind 5).any (fun q => [q.2.offset, q.2.offset + s.period].any (fun o => decide (x.2.1 < o) && decide (o < x.2.2)))
        || s.pagers.any (fun r =>
          let rt := s.router r
          decide ((x.2.2 - x.2.1) * (if rt.hostFrom < rt.e then 25000 else 100000) < 2 * rt.maxSwaps * rt.imgPages * 2 ^ 21)))).map
      (fun x => x.1)

/-! ## Shape words of acts and segments -/

/-- Where a command's shape word lies, if it reads one (04 R107, 09 R226, 10 R259, 13 R331, 14 Table 14-9b). -/
def PlanCmd.shapeAt (c : PlanCmd) : Option Nat :=
  if c.isExec 1 then (if (oxCmd c.d).swSel = 0 then none else some (oxKey c.num (oxCmd c.d).swAddr))
  else if c.isExec 5 then
    (if c.op = 4 then (if bits c.d 137 2 = 1 then some (henKey c.num (bits c.d 288 14)) else none)
    else if c.op < 4 then (if (henCmd c.d).swSel = 0 then none else some (henKey c.num (henCmd c.d).sw))
    else if (expCmd c.d).swSel = 0 then none else some (henKey c.num (expCmd c.d).sw))
  else if c.isExec 6 then (if (muleCmd c.d).sw then some (muleKey c.num (muleCmd c.d).swAddr) else none)
  else none

/-- The bound that a shape word gives is the streamed one: not K of an Ox or an SPMM (04 R107, 09 R226). -/
def PlanCmd.boundIsK (c : PlanCmd) : Bool :=
  (c.isExec 1 && decide ((oxCmd c.d).swSel = 2)) || (c.isExec 5 && decide (c.op = 3) && decide ((henCmd c.d).swSel = 2))

/-- Places of the words of a list, and of their copies by Mule COPYs of `cs`. -/
def copiedWords (cs : List PlanCmd) (from_ : List Nat) : List Nat :=
  (List.range (cs.length + 1)).foldl (fun l _ =>
    (l ++ (cs.filter (fun c => c.isExec 6 && decide (c.op = 1) && decide ((muleCmd c.d).xform = 0))).flatMap (fun c =>
      let q := muleCmd c.d
      (l.filter (fun k => decide (locOfWord q.src ≤ k) && decide (k + 8 ≤ locOfWord q.src + q.bytes))).map
        (fun k => locOfWord q.dst + (k - locOfWord q.src)))).eraseDups) from_

/-- Commands planned in a GENERATE act whose streamed bound is not SW_DEC's or SW_PF's (14 R349): Ox and Hen commands that have one, and Mule
commands other than those that bring the words where units read them. A word that a Goat writes passes. -/
def State.unbounded (s : State) (v : Nat) (times : List Planned) : List PlanCmd :=
  let t := s.staged v
  let cs := times.map (fun p => p.cmd)
  let iter := s.acbAddr 240
  let words := copiedWords cs [iter, iter + 8]
  let byGoat := fun (k : Nat) => cs.any (fun c => decide (120 ≤ c.u) && decide (c.u < 180) && rangesMeet (s.cmdOuts t c) [(k, 8)])
  (times.filter (fun p =>
    let c := p.cmd
    let brings := c.isExec 6 && words.any (fun k => rangesMeet [(locOfWord (muleCmd c.d).src, (muleCmd c.d).bytes)] [(k, 8)])
    decide (s.actAt p.start = some 0) && (c.isExec 1 || (c.isExec 5 && decide (c.op ≠ 0x15)) || (c.isExec 6 && !brings))
      && (match c.shapeAt with
        | some k => c.boundIsK || !(words.contains k || byGoat k)
        | none => true))).map (fun p => p.cmd)

/-- Commands planned in an EVALUATE act that it may not hold (14 R362): HEALTH = 1, gated, or a write to a region of kind 1, 6 or 7, to the
rollout ring's header, to the first row of the reward table, or to a usage window. -/
def State.evalBreaks (s : State) (v : Nat) (times : List Planned) : List PlanCmd :=
  let t := s.staged v
  let kept := [1, 6, 7].flatMap (fun k => (s.kindRegions k).map (fun r => (r.base * 2 ^ 21, r.pages * 2 ^ 21)))
    ++ [(s.acbAddr 40, 256), (s.acbAddr 120, 4 * s.acb 528 8)]
    ++ (List.range s.routers).map (fun r => ((s.router r).usageWin, 4 * (s.router r).e))
  (times.filter (fun p => decide (s.actAt p.start = some 3)
    && (p.cmd.health || p.cmd.gated || rangesMeet (s.cmdOuts t p.cmd) kept))).map (fun p => p.cmd)

/-- DEADLINEs of an EVALUATE act on a counter that an XREDUCE of a LEARN act waits on (14 R362). -/
def State.evalDeadlines (s : State) (times : List Planned) : List Nat :=
  ((s.ofKind 1).filter (fun x => decide (s.actAt (x.2.offset * beatTicks) = some 3)
    && times.any (fun p => decide (s.actAt p.start = some 2) && (p.cmd.hop true || p.cmd.hop false)
      && waitsOn p.cmd.d x.2.ctr))).map (fun x => x.1)

/-- The commands that break 13 R330: the segment of a STASH_GET runs, in the plan's order, from it to the Mule COPY into its DST that takes
its bound from the fan-out. In it, every Ox and Hen command takes K or COUNT from a word of the fan-out, every row-engine command has
STATS_W = 0, and no command outside reads what its Goat commands write. A fan-out block that images do not stage is not checked. -/
def State.segmentBreaks (s : State) (v : Nat) (rel : List (PlanCmd × PlanCmd)) (l : List Access) : List PlanCmd :=
  let t := s.staged v
  (l.filter (fun g => g.cmd.isExec 6 && decide (g.cmd.op = 3)
      && s.stagedAt 3 g.cmd.num (256 * (muleCmd g.cmd.d).fan) 8)).flatMap (fun g =>
    let words := (t.fanOuts (muleKey g.cmd.num (muleCmd g.cmd.d).fan)).map (fun r => r.1)
    let fed := fun (c : PlanCmd) => match c.shapeAt with
      | some k => words.contains k
      | none => false
    let ends := l.filter (fun m => m.cmd.isExec 6 && decide (m.cmd.op = 1) && fed m.cmd && s.precedes rel g.cmd m.cmd
      && decide (locOfWord (muleCmd m.cmd.d).dst = locOfWord (muleCmd g.cmd.d).dst))
    match ends.head? with
    | none => [g.cmd]
    | some m =>
      let inside := fun (x : Access) => s.precedes rel g.cmd x.cmd && s.precedes rel x.cmd m.cmd
      (l.filter (fun x => inside x && (
        let c := x.cmd
        ((c.isExec 1 || c.isExec 5)
            && !(fed c && (c.boundIsK == (c.isExec 1 || decide (c.op = 3)))))
          || (c.isExec 3 && (rowCmd c.d).statsW)
          || (decide (120 ≤ c.u) && decide (c.u < 180) && l.any (fun o => !inside o && decide (o.cmd ≠ m.cmd) && decide (o.cmd ≠ x.cmd)
            && rangesMeet o.ins x.outs))))).map (fun x => x.cmd))

/-! ## Keep areas (13 R327) -/

/-- Writers into a keep area that overlap an earlier entry there before its last reader: neither before its writer nor after its reader. -/
def State.keepBreaks (s : State) (rel : List (PlanCmd × PlanCmd)) (l : List Access) : List PlanCmd :=
  let areas := (s.kindRegions 4).map (fun r => ((r.base + r.arg0) * 2 ^ 21, r.arg1 * 2 ^ 21))
  let keeps := fun (x : Access) => x.outs.filter (fun r => rangesMeet [r] areas)
  let writers := l.filter (fun x => !(keeps x).isEmpty)
  (writers.flatMap (fun w => (keeps w).flatMap (fun r =>
    let readers := l.filter (fun x => rangesMeet x.ins [r] && (s.lastWriters rel l x.cmd r).contains w)
    (writers.filter (fun o => decide (o.cmd ≠ w.cmd) && rangesMeet (keeps o) [r] && !s.precedes rel o.cmd w.cmd
      && !s.exclusive o.cmd w.cmd && readers.any (fun x => !s.precedes rel x.cmd o.cmd && decide (x.cmd ≠ o.cmd)))).map
      (fun o => o.cmd)))).eraseDups

/-! ## The classes -/

/-- What class `cls` finds by the plan's order and planned times. -/
def State.flowFindings (s : State) (cls : Nat) : List Finding :=
  let vs := List.range 16
  let entries := fun (f : List Planned → List Nat) =>
    wide (vs.flatMap (fun v => [0, 1, 2].flatMap (fun k => f (s.plannedTimes v k)))).eraseDups
  match cls with
  | 3 => perVariant (fun v => s.byTimes (s.unbounded v) v ++ s.byTimes (s.evalBreaks v) v ++ s.segmentBreaks v (s.inOrder v) (s.accesses v))
      ++ entries s.evalDeadlines
  | 7 => perVariant (fun v =>
      let rel := s.inOrder v
      let l := s.accesses v
      (List.range 60).flatMap (fun g => s.onPaths (fun c => c.isExec 3) (s.sideBreaks (s.staged v)) v (120 + g))
        ++ s.byTimes s.healthBreaks v ++ s.byTimes (s.dropsClash (s.staged v)) v ++ s.byTimes (s.earlyTrailers rel) v
        ++ s.byTimes s.wrongStep v ++ s.byTimes s.epochBreaks v ++ s.henRaces v rel l ++ scatterRaces rel l)
      ++ entries s.healthTargets
  | 8 => perVariant (fun v => s.earlyHealth v ++ s.byTimes s.openWindows v ++ s.byTimes (s.pagedUse v) v)
      ++ entries s.blindCuts ++ entries s.checkpointsInside ++ wide s.badPagings
  | 10 => perVariant (fun v => s.keepBreaks (s.inOrder v) (s.accesses v))
  | 11 => perVariant (fun v => s.untagged v (s.inOrder v) (s.accesses v))
  | _ => []

end Sys2Proof.Machine
end

