-- ==== Sys2Proof/Machine/PlanCheck.lean ====
section
/-! DEFINITION. The load-time checks of PLAN_LOAD (12 R312, Table 12-12), class by class, and the check report. They are spelled out in
PlanCodes, PlanRules, PlanOrder, PlanTimes, PlanPlace and PlanHazards; what a rule names and the plan's bytes do not tell is
Config.planCheckRest (log 11). -/

namespace Sys2Proof.Machine

/-- The plan at `base` of length `len` taken as the loaded one, so that its structures can be read. -/
def State.asPlan (s : State) (base len : Nat) : State := { s with plan.loaded := true, plan.base := base, plan.length := len }

/-- A check report (12 R312): class, stream or 0xFF, descriptor or entry. -/
def checkReport (cls : Nat) (f : Finding) : Nat := fields [(0, cls), (8, f.1 % 256), (16, f.2 % 2 ^ 32)]

/-- What class `cls` finds; `s` has the plan in place, and `given` is the length that PLAN_LOAD names. -/
def State.findings (s : State) (given cls : Nat) : List Finding :=
  let mine := match cls with
    | 1 => s.class01 given
    | 2 => s.class02
    | 3 => s.class03
    | 4 => s.class04
    | 5 => s.class05
    | 6 => s.class06
    | 7 => s.class07
    | 8 => s.class08
    | 9 => s.class09
    | 10 => s.class0A given
    | _ => []
  mine ++ s.flowFindings cls ++ Config.planCheckRest cls (s.hbmBytes s.plan.base s.plan.length)

/-- The report of the first class that fails, in ascending order; none if the plan passes. Which failure of that class is reported
first is Config.checkOrder's (log 11). -/
def State.planReport (s : State) (given : Nat) : Option Nat :=
  (List.range 11).findSome? (fun i =>
    let l := s.findings given (i + 1)
    (l[Config.checkOrder (i + 1) (s.hbmBytes s.plan.base s.plan.length) % Nat.max 1 l.length]?).map (checkReport (i + 1)))

end Sys2Proof.Machine
end

