-- ==== Sys2Proof/Machine/RunRows.lean ====
section
/-! DEFINITION. Plans and the run (19 R468 to R475): load, arm, unload; run, hold, resume, abort; EVAL_RUN. -/

namespace Sys2Proof.Machine

/-! ## PLAN_LOAD -/

/-- PLAN_LOAD's conditions (19 R468). -/
def State.mayLoad (s : State) : Bool := !s.mapShort && decide (s.time.state ≠ 0) && !s.bareSpare

/-- The page table that the region table of the plan in place gives (13 R316, R321, Table 13-1). -/
def State.buildPages (s : State) : Tab Pte :=
  let rs := s.regions
  Tab.put Pte.idle [] 0 ((List.range 262144).map (fun p =>
    match rs.find? (fun r => decide (r.2.base ≤ p) && decide (p < r.2.base + r.2.pages)) with
    | some (i, r) => { Pte.idle with region := i, ro := decide (r.kind = 9) || decide (r.kind = 10) }
    | none => { Pte.idle with valid := false }))

/-- The counters that PLAN_LOAD clears (12 R313, 13 R335, 14 R363, 15 R400, 17 R439). -/
def State.clearForLoad (s : State) : State :=
  let all := fun (_ : Nat) => true
  ((((s.clearCnt 0x0C0D all).clearCnt 0x0E0C all).clearCnt 0x1109 all).clearCnt 0x0D08 (fun f => decide (f ≠ 2) && decide (f ≠ 3))).clearCnt
    0x0F0C (fun f => decide (7 ≤ f))

/-- A plan that passes its checks is loaded (19 R468, 12 R280): digest, page table, shipped table pairs, counters. -/
def State.loadPlan (s : State) (base len : Nat) : State :=
  let digest := sha384 (s.hbmBytes base len)
  let s1 := s.asPlan base len
  let shadow := ((s1.regions.find? (fun r => decide (r.2.kind = 2))).map (fun r => r.2.base)).getD 0
  let s2 : State :=
    { s1 with
      plan.digest := digest
      plan.shadowBase := shadow
      plan.ran := false
      dev.primed := false
      dev.stopped := false
      pwr.west.req := 0
      pwr.east.req := 0
      unit.begun := []
      pte := s1.buildPages
      shadowNext := [] }
  s2.clearForLoad.writeShipped

/-- PLAN_LOAD (19 R468). -/
def execPlanLoad (p : Fin 2) (m : Fin 16) (s : State) : Host.Outcome State Fault Refusal :=
  s.runChanging p.val m.val 0x20 (fun _ => !s.mayLoad) (fun c =>
    let base := c.field 0 8
    let given := c.field 8 8
    if base % 4096 ≠ 0 || 2 ^ 34 < given || 2 ^ 39 < base + given then s.reject p.val m.val stBadArg 0
    else
      let len := bits (leNat (s.hbmBytes base 64)) 64 64
      match (s.asPlan base len).planReport given with
      | some r => s.reject p.val m.val stBadArg r
      | none =>
        let o := fromMailbox p.val m.val
        let s1 := (s.hbmNoteRead (portRequester p.val) base len).loadPlan base len
        ((s1.logForm 1 o 0x0020 0x20 0 (digest128 s1.plan.digest)).setDev .armed o).ok p.val m.val [])

/-! ## PLAN_ARM and PLAN_UNLOAD -/

/-- Port `p` must be up before arming: a torus port, or a port of a spare that holds an identity (15 R376). -/
def State.portNeeded (s : State) (p : Nat) : Bool :=
  s.isTorusPort p || (decide (s.fab.role ≠ 0) && decide (s.fab.identity ≠ 0xFFF))

/-- The port's peer is a dead identity (15 R376, R396). -/
def State.peerDead (s : State) (p : Nat) : Bool := (s.expectedPeers p).any (fun x => decide (x.1 = 0) && s.isHole x.2.1)

/-- Port `p` does not stand in the way of arming (15 R376). -/
def State.portArms (s : State) (p : Nat) : Bool :=
  let st := (s.port p).state
  s.peerDead p || (decide (st ≠ 4) && decide (st ≠ 5) && (!s.portNeeded p || decide (st = 2)))

/-- PLAN_ARM's conditions (19 R469, 15 R376). -/
def State.mayArm (s : State) : Bool :=
  s.links.all s.portArms && decide (s.time.state = 1) && decide (s.ck.state ≠ 1)

/-- PLAN_ARM (19 R469). -/
def execPlanArm (p : Fin 2) (m : Fin 16) (s : State) : Host.Outcome State Fault Refusal :=
  s.runChanging p.val m.val 0x21 (fun _ => !s.mayArm) (fun _ =>
    let o := fromMailbox p.val m.val
    let s1 := s.armPlan o
    ((s1.logForm 1 o 0x0020 0x21 0 (digest128 s1.plan.digest)).setDev .armed o).ok p.val m.val [])

/-- The plan gone: IDLE page table, G0 requests (13 R316, 20 R488); writes held for a copy land. The link weights of IDLE are 1
(15 R372); no rule gives the Mules' without a plan, and the model takes 1 too: DESIGN CHOICE, log 138. -/
def State.unloadPlan (s : State) : State :=
  let s1 := s.releaseHeld.keepReps
  { s1 with
      plan.loaded := false
      plan.started := false
      plan.holdBeat := none
      dev.primed := false
      dev.stopped := false
      pwr.west.req := 0
      pwr.east.req := 0
      unit.weights := []
      pte := logPages
      shadowNext := [] }

/-- PLAN_UNLOAD (19 R469). -/
def execPlanUnload (p : Fin 2) (m : Fin 16) (s : State) : Host.Outcome State Fault Refusal :=
  s.runChanging p.val m.val 0x22 (fun _ => decide (s.ck.state = 1)) (fun _ =>
    let o := fromMailbox p.val m.val
    let s1 := s.unloadPlan.logForm 1 o 0x0020 0x22 (digest128 s.plan.digest) 0
    (s1.setDev .idle o).ok p.val m.val [])

/-! ## RUN_AT_BEAT -/

/-- The named beat lies at least `lead` beats after acceptance (19 R470). -/
def Command.beatOk (c : Command) (lead : Nat) : Bool := decide (c.accepted + lead ≤ c.field 0 8)

/-- RUN_AT_BEAT (19 R470): accepted, it waits for its beat. -/
def execRunAtBeat (p : Fin 2) (m : Fin 16) (s : State) : Host.Outcome State Fault Refusal :=
  s.runChanging p.val m.val 0x23 (fun _ => decide (s.dev.state = .armed) && (!s.dev.primed || s.ck.restoreBad)) (fun c =>
    if !c.beatOk 2048 then s.reject p.val m.val stBadArg 0 else s.await p.val m.val (c.field 0 8) 0)

/-- The repetition that a start begins. -/
def State.startNow (s : State) (beat : Nat) : State :=
  { s with
    plan.startBeat := beat
    plan.startRep := s.plan.nextRep
    plan.started := false
    plan.ran := true
    plan.shift := 0
    plan.holdBeat := none
    pwr.ramp := 0
    pwr.preramp := 0
    dev.primed := false
    dev.stopped := false }

/-- RUN_START (19 R470): in HELD the held repetition is abandoned first. -/
def execRunStart (s : State) : Host.Outcome State Fault Refusal :=
  match s.dueCmd 0x23 with
  | some (q, _) =>
    let s1 := if s.dev.state = .held then (s.resetRun ((s.deviceRep + 1) % 2 ^ 64)).rewindRollouts else s
    let o := fromMailbox q.port q.mbox
    let s2 := (s1.startNow q.waitBeat).log o 0x0021 0x23 q.waitBeat s1.plan.nextRep
    .next ((s2.setDev .running o).ok q.port q.mbox [])
  | none => .next s

/-! ## HOLD -/

/-- The beats of the timetable of the repetitions around beat `b`, each with its kind, in order. -/
def State.marksAround (s : State) (b : Nat) : List (Nat × Nat) :=
  let base := s.repStart s.plan.startRep
  let r := s.plan.startRep + (b - base) / Nat.max 1 s.period
  let reps := (List.range 4).filterMap (fun i => if s.plan.startRep + 1 ≤ r + i then some (r + i - 1) else none)
  let live := reps.filter (fun n => decide (s.repeats = 0) || decide (n < s.repeats))
  live.flatMap (fun n => s.entries.map (fun x => (s.repStart n + x.2.offset, x.2.kind)))

/-- The windows in which no hold takes effect (19 R471), closed intervals: from a COMMIT through its UPDATE_CLOSE, and from the
start of paging, the update-close beat or a checkpoint beat after it, through the RESIDENCY_READY beat. -/
def windowsOf : Option Nat → Option Nat → List (Nat × Nat) → List (Nat × Nat)
  | _, _, [] => []
  | commit, paging, (b, k) :: l =>
    if k = 3 then windowsOf (some b) none l
    else if k = 4 then
      (match commit with
        | some c => (c, b) :: windowsOf none (some b) l
        | none => windowsOf none (some b) l)
    else if k = 5 then windowsOf commit (paging.map (fun _ => b)) l
    else if k = 6 then
      (match paging with
        | some c => (c, b) :: windowsOf commit none l
        | none => windowsOf commit none l)
    else windowsOf commit paging l

/-- The first beat from `b` on outside every window. -/
def deferTo : Nat → List (Nat × Nat) → Nat → Nat
  | 0, _, b => b
  | f + 1, l, b =>
    match l.find? (fun w => decide (w.1 ≤ b) && decide (b ≤ w.2)) with
    | some w => deferTo f l (w.2 + 1)
    | none => b

/-- The beat at which a HOLD or ABORT_ROUND that names beat `b` takes effect (19 R471). -/
def State.effectBeat (s : State) (b : Nat) : Nat :=
  let l := windowsOf none none (s.marksAround b)
  deferTo l.length l b

/-- HOLD (19 R470, R471): accepted, the plan stops at the hold beat. -/
def execHold (p : Fin 2) (m : Fin 16) (s : State) : Host.Outcome State Fault Refusal :=
  s.runChanging p.val m.val 0x24 (fun _ => false) (fun c =>
    if !c.beatOk 256 then s.reject p.val m.val stBadArg 0
    else
      let b := s.effectBeat (c.field 0 8)
      { s.await p.val m.val b 0 with plan.holdBeat := some b })

/-- HOLD_EFFECT (19 R472): from the hold beat on no unit reaches a new cycle 0, no timetable entry fires, and the slot manager
serves no trigger. -/
def execHoldEffect (s : State) : Host.Outcome State Fault Refusal :=
  match s.dueCmd 0x24 with
  | some (q, c) =>
    let o := fromMailbox q.port q.mbox
    if s.dev.state = .running then
      let s1 := (s.setProgress q.port q.mbox 255).log o 0x0021 0x24 (c.field 0 8) q.waitBeat
      .next { s1 with plan.holdBeat := some q.waitBeat }
    else .next (({ s with plan.holdBeat := none } : State).makeRecord q.port q.mbox stWrongState 0 [])
  | none => .next s

/-- The hold beat has come (19 R472). -/
def State.holding (s : State) : Option Nat :=
  if s.dev.state = .running then s.plan.holdBeat.filter (fun b => decide (b ≤ s.time.beat)) else none

/-- The part enters HELD, and the HOLD that waits, if one does, makes its record with STOPPED (19 R472). -/
def State.enterHeld (s : State) (hold : Option (Queued × Command)) (stopped : Bool) : State :=
  match hold with
  | some (q, _) =>
    (({ s with dev.stopped := stopped } : State).setDev .held (fromMailbox q.port q.mbox)).makeRecord q.port q.mbox stOk
      (b2n stopped) []
  | none => ({ s with dev.stopped := stopped } : State).setDev .held (s.dog 2)

/-- HELD_ENTER (19 R472): every command in progress has completed. -/
def execHeldEnter (s : State) : Host.Outcome State Fault Refusal :=
  match s.holding with
  | some _ => if s.unitsIdle then .next (s.enterHeld (s.waitingFor 0x24) false) else .next s
  | none => .next s

/-- HOLD_STOP (19 R472): a command still in progress 10,000 beats after the hold beat. -/
def execHoldStop (s : State) : Host.Outcome State Fault Refusal :=
  match s.holding with
  | some b => if b + 10000 ≤ s.time.beat && !s.unitsIdle then .next (s.stopUnits.enterHeld (s.waitingFor 0x24) true) else .next s
  | none => .next s

/-! ## RESUME -/

/-- RESUME (19 R470, R472): a stopped hold rejects it. -/
def execResume (p : Fin 2) (m : Fin 16) (s : State) : Host.Outcome State Fault Refusal :=
  s.runChanging p.val m.val 0x25 (fun _ => s.dev.stopped) (fun c =>
    if !c.beatOk 2048 then s.reject p.val m.val stBadArg 0 else s.await p.val m.val (c.field 0 8) 0)

/-- RESUME_EFFECT (19 R473): every firing that had not occurred by the hold beat occurs later by the shift. -/
def execResumeEffect (s : State) : Host.Outcome State Fault Refusal :=
  match s.dueCmd 0x25 with
  | some (q, _) =>
    let o := fromMailbox q.port q.mbox
    let d := q.waitBeat - s.plan.holdBeat.getD q.waitBeat
    let s1 : State := { s with plan.shift := s.plan.shift + d, plan.holdBeat := none }
    .next (((s1.log o 0x0021 0x25 q.waitBeat d).setDev .running o).ok q.port q.mbox [])
  | none => .next s

/-! ## ABORT_ROUND -/

/-- What ABORT_ROUND does (19 R474): both gates of every router close, active slots finish with CANCEL. -/
def State.abortRound (s : State) : State := if s.secLen 9 = 0 then s.closeGates else s.closeGates.closeSlots 6

/-- ABORT_ROUND (19 R470, R471, R474): in HELD it acts at once. -/
def execAbortRound (p : Fin 2) (m : Fin 16) (s : State) : Host.Outcome State Fault Refusal :=
  s.runChanging p.val m.val 0x26 (fun _ => false) (fun c =>
    let b := c.field 0 8
    if !c.beatOk 256 then s.reject p.val m.val stBadArg 0
    else if s.dev.state = .held then
      (s.abortRound.log (fromMailbox p.val m.val) 0x0021 0x26 b s.time.beat).ok p.val m.val []
    else s.await p.val m.val (s.effectBeat b) 0)

/-- ABORT_EFFECT (19 R474): at the effective beat. -/
def execAbortEffect (s : State) : Host.Outcome State Fault Refusal :=
  match s.dueCmd 0x26 with
  | some (q, c) =>
    .next ((s.abortRound.log (fromMailbox q.port q.mbox) 0x0021 0x26 (c.field 0 8) q.waitBeat).ok q.port q.mbox [])
  | none => .next s

/-! ## EVAL_RUN -/

/-- The command at the head of the device queue waits for an object, not for a beat. -/
def State.awaitObject (s : State) (arg : Nat) : State :=
  match s.host.queue with
  | q :: l => { s with host.queue := { q with waiting := true, waitBeat := 0, arg := arg } :: l }
  | [] => s

/-- Status of an EVAL_RUN whose ring exists (19 R475, R466): its ranges, its targets, the ring's room. -/
def State.evalStatus (s : State) (c : Command) (r : Ring) : Nat :=
  let src := c.bulk 0
  let dst := c.bulk 40
  let n := c.field 16 4
  let resAddr := c.field 24 8
  let resLen := c.field 32 4
  if !s.inRegion resAddr resLen (fun k => decide (k = 3)) then stBadArg
  else if s.bulkStatus src (n * r.bytes) = stBadArg || s.bulkStatus dst resLen = stBadArg then stBadArg
  else if s.hitsPlan dst
      || (decide (src.space = 1) && decide (dst.space = 1) && overlaps src.addr src.len dst.addr dst.len) then stOverlap
  else if r.entries < idxDist r.prod r.idx1 + n then stNoSpace
  else stOk

/-- Entries copied into the evaluation ring from PROD on, then PROD (19 R475, 14 R339). -/
def State.copyEntries (s : State) (req : Nat) (r : Ring) (data : List Byte) (n : Nat) : State :=
  let s1 := (List.range n).foldl (fun s i =>
    s.hbmWrite req (r.entry (r.prod + i)) ((data.drop (r.bytes * i)).take r.bytes)) s
  s1.hbmWrite req (r.addr + 8) (natLe 4 ((r.prod + n) % 2 ^ 32))

/-- EVAL_RUN (19 R475): `host` is host memory as the port reads it; its record waits for the end of an EVALUATE act. -/
def execEvalRun (p : Fin 2) (m : Fin 16) (host : Tab Byte) (s : State) : Host.Outcome State Fault Refusal :=
  match checked (.evalRun p m host) s with
  | .next s =>
    s.runChanging p.val m.val 0x27
      (fun _ => decide (s.secLen 9 = 0) || decide (s.evalRing = 0) || decide (s.acts.evalBox ≠ none)) (fun c =>
      let r := s.ring s.evalRing
      let st := s.evalStatus c r
      if st ≠ stOk then s.reject p.val m.val st 0
      else
        let n := c.field 16 4
        let src := c.bulk 0
        let req := portRequester p.val
        let s0 := if src.space = 1 then s.hbmNoteRead req src.addr (n * r.bytes) else s
        let s1 := s0.copyEntries req r (s.bulkRead host src (n * r.bytes)) n
        let s2 := s1.log (fromMailbox p.val m.val) 0x0021 0x27 n (c.bulk 40).addr
        ({ s2 with acts.evalBox := some (p.val, m.val) } : State).awaitObject 0)
  | o => o

end Sys2Proof.Machine
end

