-- ==== Sys2Proof/Machine/ConfigRows.lean ====
section
/-! DEFINITION. Changing commands that set configuration, roles, spares, fences, time, power and firmware (19 R476 to R480, R483),
HALT and RESET_PART (19 R463, R484). -/

namespace Sys2Proof.Machine

/-! ## SET_STEWARD -/

/-- The steward role moves to port `q`: logged with both ports' links, the role vector of both ports raised (18 R443, Table
18-6). -/
def State.moveSteward (s : State) (origin : Nat × Nat) (q : Nat) : State :=
  if s.host.steward = q then s
  else
    let up := fields [(8, b2n (Tab.get false s.host.linkUp 0)), (9, b2n (Tab.get false s.host.linkUp 1))]
    (({ s with host.steward := q } : State).log origin 0x0010 0 (s.host.steward + up) (q + up)).raiseBoth 20

/-- SET_STEWARD (18 R443). -/
def execSetSteward (p : Fin 2) (m : Fin 16) (s : State) : Host.Outcome State Fault Refusal :=
  s.runChanging p.val m.val 0x10 (fun _ => false) (fun c =>
    let q := c.field 0 1
    if 1 < q then s.reject p.val m.val stBadArg 0
    else (s.moveSteward (fromMailbox p.val m.val) q).ok p.val m.val [])

/-! ## CONFIG_SET -/

/-- A FABRIC_CFG value that CONFIG_SET accepts (19 R480, 15 Table 15-4): no reserved code, L7_MODE 2 only with SX = 16 (15 R365).
Reserved bits are ignored (00 R6). -/
def fabricCfgOk (v : Nat) : Bool :=
  let sx := bits v 22 5
  let sy := bits v 27 5
  let sz := bits v 32 5
  (decide (sx = 8) || decide (sx = 16)) && decide (1 ≤ sy) && decide (sy ≤ 16) && decide (1 ≤ sz) && decide (sz ≤ 16)
    && decide (bits v 37 2 ≠ 3) && (decide (bits v 37 2 ≠ 2) || decide (sx = 16))

/-- FABRIC_CFG written: the enlisted mark is cleared (19 R476); a spare's MOD_ID is the identity it holds (15 R374). -/
def State.setFabricCfg (s : State) (v : Nat) : State :=
  { s with
    dev.enlisted := false
    fab.modId := bits v 0 12
    fab.role := bits v 12 1
    fab.fold := bits v 13 9
    fab.sx := bits v 22 5
    fab.sy := bits v 27 5
    fab.sz := bits v 32 5
    fab.l7Mode := bits v 37 2
    fab.traceNs := bits v 39 8
    fab.identity := if bits v 12 1 = 0 then 0xFFF else bits v 0 12 }

/-- One remap entry removed, logged (15 R394). -/
def State.removeRemap (origin : Nat × Nat) (s : State) (j : Nat) : State :=
  let e := Tab.get emptyRemap s.fab.remap j
  if e.valid then
    ({ s with fab.remap := Tab.set emptyRemap s.fab.remap j emptyRemap } : State).log origin 0x0040 j (remapBits e) 0
  else s

/-- CONFIG_SET (19 R480): object 0x0001 only; it waits while a lane other than 5 and 7 holds traffic, since routes must not change
then (15 R380). -/
def execConfigSet (p : Fin 2) (m : Fin 16) (s : State) : Host.Outcome State Fault Refusal :=
  s.runChanging p.val m.val 0x12 (fun _ => false) (fun c =>
    let v := c.field 8 8
    if c.field 0 2 ≠ 1 || !fabricCfgOk v then s.reject p.val m.val stBadArg 0
    else if !s.lanesEmpty then s
    else
      let o := fromMailbox p.val m.val
      let s1 := (s.setFabricCfg v).log o 0x0011 0x0001 s.fabricCfg (s.setFabricCfg v).fabricCfg
      let s2 := ((List.range 64).filter (fun j => bit (c.field 16 8) j)).foldl (State.removeRemap o) s1
      s2.ok p.val m.val [])

/-! ## Spares -/

/-- SPARE_ENLIST's conditions (19 R476, 15 R365): ROLE 1, MOD_ID 0xFFF, LOCKED, every link of the spare ports up. -/
def State.mayEnlist (s : State) : Bool :=
  decide (s.fab.role = 1) && decide (s.fab.modId = 0xFFF) && decide (s.time.state = 1)
    && s.links.all s.portUp

/-- SPARE_ENLIST (19 R476). -/
def execSpareEnlist (p : Fin 2) (m : Fin 16) (s : State) : Host.Outcome State Fault Refusal :=
  s.runChanging p.val m.val 0x40 (fun _ => !s.mayEnlist) (fun _ =>
    ({ s with dev.enlisted := true } : State).ok p.val m.val [])

/-- The identity is one that the spare is wired to: a module of the torus, of its own fold or, in L7_MODE 2, of the other (15 R365,
R374). -/
def State.servable (s : State) (ident : Nat) : Bool :=
  decide (ident < 0x1000) && decide (coord ident 0 < s.fab.sx) && decide (coord ident 1 < s.fab.sy)
    && decide (coord ident 2 < s.fab.sz)
    && (decide (foldOf ident = s.fab.fold) || (decide (s.fab.l7Mode = 2) && decide (foldOf ident = s.fab.fold ^^^ 1)))

/-- A takeover cannot enter the remap table: it is full, or the fold's spare already serves an identity (15 R398). -/
def State.remapFull (s : State) : Bool :=
  decide (64 ≤ s.remaps.length + s.fab.pendingRemap.length)
    || (s.remaps ++ s.fab.pendingRemap).any (fun e => decide (e.spareFold = s.fab.fold))

/-- SPARE_TAKEOVER (15 R395 to R398, 16 R414): on an enlisted spare without identity; the ECHO leaves at once and the record waits
for EFFECTIVE. -/
def execSpareTakeover (p : Fin 2) (m : Fin 16) (s : State) : Host.Outcome State Fault Refusal :=
  s.runChanging p.val m.val 0x41 (fun _ => !(s.dev.enlisted && s.bareSpare)) (fun c =>
    let ident := c.field 0 2
    let eff := c.field 8 8
    if !s.servable ident || eff < c.accepted + 2048 then s.reject p.val m.val stBadArg 0
    else if s.remapFull then s.reject p.val m.val stNoSpace 0
    else
      let t : Takeover :=
        { ident := ident, effective := eff, port := wiredLink s.fab.fold ident, echoBeat := s.time.beat, entry := none }
      (({ s with fab.takeover := some t } : State).sendMgmt t.port 1 [ident] (.echo t.port ident)).await p.val m.val eff 0)

/-! ## FENCE_CORE -/

/-- Place in the map of kind `k` (0 Ox, 1 Goat, 2 Hen), number `n` (02 Table 02-6); none where there is no such number. -/
def mapIndex (k n : Nat) : Option Nat :=
  match k with
  | 0 => if n < 120 then some n else none
  | 1 => if n < 60 then some (120 + n) else none
  | 2 => if n < 30 then some (180 + n) else none
  | _ => none

/-- A fence of a core's whole site, recorded (02 R33, R34, Table 02-4). -/
def State.fenceCore (s : State) (origin : Nat × Nat) (kind n pos : Nat) : State :=
  let s1 := s.fenceSite pos
  ({ s1 with geo.fences := s1.geo.fences ++ [{ pos := pos, beat := s1.time.beat }] } : State).log origin 0x0041
    (256 * kind + n) s.geo.mapGen pos

/-- FENCE_CORE (19 R477, 02 R34): the record waits until FENCED reads 1; a core that is fenced already gives OK. -/
def execFenceCore (p : Fin 2) (m : Fin 16) (s : State) : Host.Outcome State Fault Refusal :=
  s.runChanging p.val m.val 0x42 (fun _ => false) (fun c =>
    let k := c.field 0 1
    let n := c.field 1 1
    match (mapIndex k n).map s.physOf with
    | some pos =>
      if 240 ≤ pos then s.reject p.val m.val stBadArg 0
      else if Tab.get false s.geo.fence pos then s.makeRecord p.val m.val stOk pos []
      else (s.fenceCore (fromMailbox p.val m.val) k n pos).awaitObject pos
    | none => s.reject p.val m.val stBadArg 0)

/-! ## Time -/

/-- A role change (11 R265, R271): GEN rises by one; a module made Rooster is LOCKED with its last accepted GEN + 1.
A module that has accepted no SYNC, or was Rooster, counts R272's and R274's beats from here. -/
def State.setTimeRole (s : State) (origin : Nat × Nat) (role : Nat) : State :=
  if s.time.role = role then s
  else
    let s1 : State :=
      if role = 0 then s.becomeRooster
      else
        { s with time.role := role, time.gen := (s.time.gen + 1) % 2 ^ 28,
                 time.lastSync := if s.time.role = 0 || !s.time.accepted then s.time.beat else s.time.lastSync }
    (s1.bump TimeCnt.roleChanges 1).log origin 0x0050 logRole s.time.role (fields [(0, role), (8, s1.time.gen)])

/-- TIME_ROLE (19 R478). -/
def execTimeRole (p : Fin 2) (m : Fin 16) (s : State) : Host.Outcome State Fault Refusal :=
  s.runChanging p.val m.val 0x50 (fun _ => false) (fun c =>
    let role := c.field 0 1
    if 3 ≤ role then s.reject p.val m.val stBadArg 0
    else (s.setTimeRole (fromMailbox p.val m.val) role).ok p.val m.val [])

/-- TIME_SYNC_WALL (11 R278): on the Rooster only; the pair is adopted at B0. -/
def execTimeSyncWall (p : Fin 2) (m : Fin 16) (s : State) : Host.Outcome State Fault Refusal :=
  s.runChanging p.val m.val 0x51 (fun _ => decide (s.time.role ≠ 0)) (fun c =>
    let b0 := c.field 0 8
    let w0 := c.field 8 8
    if b0 < s.time.beat + 2048 then s.reject p.val m.val stBadArg 0
    else
      let s1 : State := { s with time.nextSet := true, time.nextB0 := b0, time.nextW0 := w0 }
      (s1.log (fromMailbox p.val m.val) 0x0050 logPair (fields [(0, s.time.wallB0), (64, s.time.wallW0)])
        (fields [(0, b0), (64, w0)])).ok p.val m.val [])

/-! ## Power -/

/-- POWER_LIMIT (19 R479): 400 to 2,000 W. -/
def execPowerLimit (p : Fin 2) (m : Fin 16) (s : State) : Host.Outcome State Fault Refusal :=
  s.runChanging p.val m.val 0x60 (fun _ => false) (fun c =>
    let w := c.field 0 2
    if w < 400 || 2000 < w then s.reject p.val m.val stBadArg 0
    else
      let s1 : State := { s with pwr.limit := w }
      let s2 : State := { s1 with pwr.inForce := s1.limitNow }
      (s2.log (fromMailbox p.val m.val) 0x0011 0x0003 s.pwr.limit w).ok p.val m.val [])

/-- The host's requested ceilings, West in [1:0], East in [3:2]. -/
def State.hostCeilings (s : State) : Nat := fields [(0, s.pwr.west.hostCeil % 4), (2, s.pwr.east.hostCeil % 4)]

/-- GEAR_POLICY (19 R479): the requested ceiling of each half. -/
def execGearPolicy (p : Fin 2) (m : Fin 16) (s : State) : Host.Outcome State Fault Refusal :=
  s.runChanging p.val m.val 0x61 (fun _ => false) (fun c =>
    let v := c.field 0 1
    let s1 : State := { s with pwr.west.hostCeil := bits v 0 2, pwr.east.hostCeil := bits v 2 2 }
    (s1.log (fromMailbox p.val m.val) 0x0011 0x0004 s.hostCeilings s1.hostCeilings).ok p.val m.val [])

/-! ## Firmware (19 R483, 22 R527, R528) -/

/-- FW_DIGEST of an image (22 R527). -/
def imageDigest (img : List Byte) : List Byte := sha384 (signedMessage img)

/-- An image that has passed its checks takes the staging partition, the slot that is not active. -/
def State.stageImage (s : State) (origin : Nat × Nat) (img : List Byte) : State :=
  let k := 1 - s.trust.active
  let old := s.slotImage k
  let s1 : State :=
    { s with trust.images := Tab.set FwImage.none s.trust.images k { length := img.length, bytes := img }, trust.staged := true }
  s1.logForm 1 origin 0x0070 0x71 (digest128 (imageDigest old)) (digest128 (imageDigest img))

/-- FW_STAGE (19 R483): `host` is host memory as the port reads it; verified before the flash is written. -/
def execFwStage (p : Fin 2) (m : Fin 16) (host : Tab Byte) (s : State) : Host.Outcome State Fault Refusal :=
  match checked (.fwStage p m host) s with
  | .next s =>
    s.runChanging p.val m.val 0x71 (fun _ => false) (fun c =>
      let t := c.bulk 0
      if !s.bulkOk t || 2 ^ 24 < t.len then s.reject p.val m.val stBadArg 0
      else
        let img := s.bulkRead host t t.len
        let s1 := if t.space = 1 then s.hbmNoteRead (portRequester p.val) t.addr t.len else s
        if s1.imageValid img then (s1.stageImage (fromMailbox p.val m.val) img).ok p.val m.val []
        else s1.reject p.val m.val stBadArg 0)
  | o => o

/-- The recorded fences that an image's repair list names are cleared, each logged (02 R33). -/
def State.clearRepaired (s : State) (origin : Nat × Nat) (img : List Byte) : State :=
  let repaired := fun (f : MapRecord) => (repairsOf img).any (fun p => (sitePositions f.pos).contains p)
  let gone := s.geo.fences.filter repaired
  let s1 : State := { s with geo.fences := s.geo.fences.filter (fun f => !repaired f) }
  gone.foldl (fun s f => s.log origin 0x0041 (0x0400 + f.pos) s.geo.mapGen f.pos) s1

/-- FW_COMMIT (19 R483): the staged image becomes active, its record is made, then RESET_PART. -/
def execFwCommit (p : Fin 2) (m : Fin 16) (s : State) : Host.Outcome State Fault Refusal :=
  s.runChanging p.val m.val 0x72 (fun _ => !s.trust.staged) (fun _ =>
    let o := fromMailbox p.val m.val
    let k := 1 - s.trust.active
    let img := s.slotImage k
    let s1 : State := { s with trust.active := k, trust.staged := false }
    let s2 := s1.clearRepaired o img
    let s3 := s2.logForm 1 o 0x0070 0x72 (digest128 (imageDigest (s.slotImage s.trust.active))) (digest128 (imageDigest img))
    (s3.ok p.val m.val []).triggerWarm 4 o)

/-! ## HALT and RESET_PART (19 R463, R484) -/

/-- The place in mailbox (p, m)'s queue of the first command of opcode `op`. -/
def State.placeOf (s : State) (p m op : Nat) : Option (Nat × Command) :=
  let l := (s.box p m).queue
  (((List.range l.length).zip l).find? (fun x => decide (x.2.opcode = op)))

/-- A command of opcode `op` that never waits acts at once, the mailbox's earlier ones ending with FAULTED; one that R413 rejects
does so when it is at the head. -/
def State.runAtOnce (s : State) (p m op : Nat) (f : State → State) : Host.Outcome State Fault Refusal :=
  match s.placeOf p m op with
  | some (i, c) =>
    if !s.serves p then .next s
    else
      let st := if s.gateStatus p op ≠ stOk then s.gateStatus p op else if c.bodyOk then stOk else stBadArg
      if st ≠ stOk then .next (if i = 0 then (s.acknowledge p m c.seq).reject p m st 0 else s)
      else .next (f (s.failQueue p m stFaulted i))
  | none => .next s

/-- HALT (19 R463, R484): in HALTED it gives OK, in its turn, and changes nothing. -/
def execHalt (p : Fin 2) (m : Fin 16) (s : State) : Host.Outcome State Fault Refusal :=
  if s.dev.state = .halted then
    s.runReading p.val m.val 0x80 (fun s _ => s.ok p.val m.val [])
  else
    s.runAtOnce p.val m.val 0x80 (fun s =>
      ((s.haltCore (fromMailbox p.val m.val) (some (requestRecord 3 p.val 0))).ok p.val m.val []).failAll stFaulted)

/-- RESET_PART (19 R484, 16 R410): its record, then the warm reset. -/
def execResetPart (p : Fin 2) (m : Fin 16) (s : State) : Host.Outcome State Fault Refusal :=
  s.runAtOnce p.val m.val 0x81 (fun s =>
    let o := fromMailbox p.val m.val
    ((s.ok p.val m.val []).changeRecord o (requestRecord 4 p.val 0)).triggerWarm 1 o)

end Sys2Proof.Machine
end

