-- ==== Sys2Proof/Machine/StartRows.lean ====
section
/-! DEFINITION. Power-on and power-off, start-up, warm reset (21 R514 to R525, 22 R529, 23 R548, R549), trips (20 R499). -/

namespace Sys2Proof.Machine

/-! ## Power off and on -/

/-- What VAUX holds: the latched SLOT_ID, the sideband registers and the trip cause (23 R548, R550, R551). -/
def State.vauxPart (s : State) : Device :=
  let d := s.dev
  { Device.reset with
    vaux := true
    slotId := d.slotId
    sbErr := d.sbErr
    sbHaltRefused := d.sbHaltRefused
    sbCapPending := d.sbCapPending
    sbCap := d.sbCap
    sbCapForce := d.sbCapForce
    sbTripCause := d.sbTripCause
    sbTripDetail := d.sbTripDetail
    sbTripBeat := d.sbTripBeat
    sbTelem := fields [(0, bits d.sbTelem 0 48), (64, bits d.sbTelem 64 64)]
    sbIndex := d.sbIndex
    sbAddr := d.sbAddr }

/-- Every rail but VAUX goes off: COLD, with what flash and fuses keep (21 Table 21-8, 22 Table 22-1), `dev` for the pins and
VAUX, and the model's own queue, outbox and counter of free values. -/
def State.powerOff (s : State) (dev : Device) : State :=
  { State.reset with
    pending := s.pending
    freeIdx := s.freeIdx
    out := s.out
    dev := dev
    geo := { Geometry.reset with
      fusedCore := s.geo.fusedCore
      fusedHole := s.geo.fusedHole
      holes := s.geo.holes
      fences := s.geo.fences
      mapGen := s.geo.mapGen }
    trust := { Trust.reset with
      active := s.trust.active
      bootCount := s.trust.bootCount
      images := s.trust.images
      svnFuses := s.trust.svnFuses
      revoked := s.trust.revoked
      debugLock := s.trust.debugLock
      durable := s.trust.durable
      durableHead := s.trust.durableHead } }

/-- Power-on (21 R514, R517): BOOTING, logged; the boot counter rises (22 R529); a trip cause still held makes step 9 wait (21
R520). -/
def State.powerOn (s : State) : State :=
  ({ s with
    dev.vaux := true
    dev.reassertWait := false
    dev.afterTrip := decide (s.dev.sbTripCause ≠ 0)
    trust.bootCount := s.trust.bootCount + 1 } : State).setDev .booting (fromHardware 0)

/-- PWR_EN_ASSERT (21 R517, 23 R548, R549): with 56 V present; within 200 ms of a deassertion it is not acted on yet. SLOT_ID is
latched when VAUX rises. -/
def execPwrEnAssert (slotId : Fin 64) (within200ms : Bool) (s : State) : Host.Outcome State Fault Refusal :=
  if s.dev.pwrEn || s.dev.state ≠ .cold then .next s
  else
    let s1 : State :=
      { s with
        dev.pwrEn := true
        dev.v56 := true
        dev.reassertWait := within200ms
        dev.slotId := if s.dev.vaux then s.dev.slotId else slotId.val }
    .next (if within200ms then s1 else s1.powerOn)

/-- PWR_EN_REASSERT_DELAY (23 R549): 200 ms have passed and PWR_EN is still asserted. -/
def execPwrEnReassertDelay (s : State) : Host.Outcome State Fault Refusal :=
  if s.dev.reassertWait && s.dev.pwrEn && s.dev.v56 then .next s.powerOn else .next s

/-- PWR_EN_DEASSERT (23 R548, R549): COLD; VAUX stays only while a trip cause is latched; THERMTRIP# and ALERT# are released. -/
def execPwrEnDeassert (s : State) : Host.Outcome State Fault Refusal :=
  if s.dev.pwrEn then
    let d : Device := if s.dev.sbTripCause ≠ 0 then s.vauxPart else Device.reset
    .next (s.powerOff { d with v56 := s.dev.v56 })
  else .next s

/-- INPUT_POWER_LOSS (19 R461, 23 R551): COLD, VAUX and the trip cause lost. -/
def execInputPowerLoss (s : State) : Host.Outcome State Fault Refusal :=
  if s.dev.v56 then .next (s.powerOff Device.reset) else .next s

/-! ## Trips (20 R499) -/

/-- The cause of a trip is present (20 Tables 20-4, 20-5; 23 Table 23-12). -/
def State.tripPresent (s : State) (cause detail : Nat) : Bool :=
  match cause with
  | 1 => decide (125 ≤ s.pwr.tj) && decide (detail = 0)
  | 2 => decide (detail < 8) && decide (105 ≤ s.pwr.tStack.getD detail 0)
  | 3 => decide (5000 ≤ s.pwr.over2600.length) && decide (detail = 0)
  | 4 => decide (detail < 9)
  | 5 => decide (100 ≤ s.pwr.lowVin) && decide (detail = 0)
  | 6 => decide (10 ≤ s.pwr.highVin) && decide (detail = 0)
  | _ => false

/-- TRIP (20 R499, 23 R551): every rail but VAUX off, THERMTRIP# or ALERT# asserted; SB_TRIP keeps the first trip. -/
def execTrip (cause : Fin 16) (detail : Nat) (s : State) : Host.Outcome State Fault Refusal :=
  match checked (.trip cause detail) s with
  | .next s =>
    if s.dev.state ≠ .cold && s.tripPresent cause.val detail then
      let d := s.vauxPart
      let first := decide (d.sbTripCause = 0)
      .next (s.powerOff { d with
        pwrEn := s.dev.pwrEn
        v56 := s.dev.v56
        thermTrip := decide (cause.val ≤ 2)
        alertTrip := decide (3 ≤ cause.val)
        sbTripCause := if first then cause.val else d.sbTripCause
        sbTripDetail := if first then detail else d.sbTripDetail
        sbTripBeat := if first then s.time.beat else d.sbTripBeat })
    else .next s
  | o => o

/-! ## Start-up (21 R517) -/

/-- Bound of a start-up step from PWR_EN, in ms (21 Table 21-6). -/
def stepBound (n : Nat) : Nat := [0, 5, 30, 250, 300, 600, 700, 1000, 1250, 1300].getD n 0

/-- FAIL_CODE of a failed step (21 Table 21-9): `warm` for HBM recalibration. -/
def failCodeOf (n : Nat) (warm : Bool) : Nat :=
  match n with
  | 1 => 1
  | 2 => 1
  | 3 => 2
  | 4 => 6
  | 5 => if warm then 4 else 3
  | 8 => 5
  | _ => 0

/-- Milliseconds from the trigger (21 Table 21-9): those the command brings, or since a warm reset's trigger by the beat counter. -/
def State.sinceTrigger (s : State) (ms : Nat) : Nat :=
  if s.dev.lastReset = 0 then ms else (s.time.beat - s.dev.warmBeat) / 1000

/-- A step fails (21 R520): the part stays in BOOTING; a warm reset in progress is over. -/
def State.failStep (s : State) (n ms : Nat) (warm : Bool) : State :=
  { s with dev.fail := true, dev.failCode := failCodeOf n warm, dev.bootMs := s.sinceTrigger ms, dev.warmStep := 0 }

/-- Step 2: rails up, PGOOD; the beat counter starts at 0 in FREE; both halves at G3 (21 R517). -/
def State.stepRails (s : State) : State :=
  ({ s with dev.pgood := true, time := { Time.reset with counting := true } } : State).applyGears

/-- Step 3: the slot that the boot ROM runs, the active one first (22 R529); none if neither image is valid. -/
def State.bootSlot (s : State) : Option Nat :=
  if s.imageValid (s.slotImage s.trust.active) then some s.trust.active
  else if s.imageValid (s.slotImage (1 - s.trust.active)) then some (1 - s.trust.active)
  else none

/-- The SRAM copy of the log reloaded from the ring (22 R540). -/
def State.reloadLog (s : State) : State :=
  let n := Nat.min 4096 s.trust.head
  { s with trust.sram := (List.range n).map (fun i => s.hbmBytes (logRing + 64 * ((s.trust.head - n + i) % ringEntries)) 64) }

/-- A latched trip is logged and cleared (23 R551). -/
def State.logTrip (s : State) : State :=
  if s.dev.sbTripCause = 0 then s
  else
    ({ s with dev.sbTripCause := 0, dev.sbTripDetail := 0, dev.sbTripBeat := 0 } : State).log (fromHardware s.dev.sbTripDetail)
      0x0060 0x10 0 (fields [(0, s.dev.sbTripCause), (8, s.dev.sbTripDetail % 2 ^ 8), (64, mod64 s.dev.sbTripBeat)])

/-- Step 4: Filuidom runs on all eight Sheepdogs, each in its own role, watchdogs armed (16 R406); a fallback boot and a trip are
logged (22 R529, 23 R551). -/
def State.startFirmware (s : State) : State :=
  let img := s.slotImage s.dev.fwSlot
  let s1 : State :=
    { s with
      dev.fwRunning := true
      dev.fwVersion := imageVersion img
      dev.fwDigest := imageDigest img
      flt.holder := Faults.reset.holder
      flt.down := []
      flt.moving := []
      flt.restartBeat := Tab.put 0 [] 0 (List.replicate 8 s.time.beat) }
  let s2 := s1.reloadLog
  let s3 := if s2.dev.fallback then s2.logForm 1 (s.dog 6) 0x0070 0x02 0 (digest128 s2.dev.fwDigest) else s2
  s3.logTrip

/-- Step 6: both PCIe ports are ready; the link ports that are down start to train (21 Table 21-6). -/
def State.startPorts (s : State) : State :=
  (List.range 8).foldl (fun s p =>
    if (s.port p).state = 0 then s.setPort p { s.port p with state := 1 } else s) s

/-- Step 9: IDLE, its page table, a sideband cap that waited (21 R517, 13 R316, 23 R552); the gears of R488 follow at the next beat
boundary. -/
def State.enterIdle (s : State) (ms : Nat) : State :=
  (({ s with
    dev.stepDone := 9
    dev.bootMs := s.sinceTrigger ms
    dev.tripWait := false
    dev.afterTrip := false
    dev.warmStep := 0
    pte := logPages } : State).setDev .idle (s.dog 6)).takeCap

/-- Start-up step `n` done. -/
def State.stepDone (s : State) (n ms : Nat) : State :=
  let t : State := { s with dev.stepDone := n }
  match n with
  | 2 => t.stepRails
  | 3 =>
    match s.bootSlot with
    | some k => { t with dev.fwSlot := k, dev.fallback := decide (k ≠ s.trust.active) }
    | none => s.failStep 3 ms false
  | 4 => t.startFirmware
  | 6 => t.startPorts
  | 8 => t.generateMap (s.dog 6)
  | 9 => if s.dev.afterTrip && decide (85 ≤ s.pwr.tj) then { s with dev.tripWait := true } else s.enterIdle ms
  | _ => t

/-- START_STEP_DONE (21 R517, R520, R522): the next step completes or fails `ms` milliseconds after the trigger; steps 3, 4, 8 and 9
are those of a warm reset too. -/
def execStartStepDone (ok : Bool) (ms : Nat) (s : State) : Host.Outcome State Fault Refusal :=
  match checked (.startStepDone ok ms) s with
  | .next s =>
    let n := s.dev.stepDone + 1
    let w := s.dev.warmStep
    let due := decide (w = 0) || (decide (w = 7) && (decide (n = 3) || decide (n = 4))) || decide (w = 8)
    if s.dev.state ≠ .booting || s.dev.fail || !due || 9 < n then .next s
    else if !ok then .next ((s.failStep n ms false).settleRemap)
    else if s.dev.lastReset = 0 && decide (stepBound n < ms) && !s.dev.tripWait then .next s
    else .next ((s.stepDone n ms).settleRemap)
  | o => o

/-! ## Warm reset (21 R521, R522) -/

/-- W1: the actions of HALT, the mailboxes, their status words and the apertures of both ports, the steward role to port A (16 R410, 18 R452), FROZEN cleared
and logged (16 R405), the enlisted mark cleared (19 R476), BOOTING. -/
def State.warmQuiesce (s : State) : State :=
  let o := s.dev.warmOrigin
  let s1 := s.haltStop o none
  let s2 := if s1.dev.state = .booting then s1.log o 0x0001 0 1 1 else s1.setDev .booting o
  let s3 := if s2.dev.fwRunning then s2.failAll stFaulted else s2
  let s4 := (((s3.resetPort 0).resetPort 1).clearStatusWords).clearFrozen o
  { s4 with
    host.steward := 0
    host.queue := []
    dev.primed := false
    dev.stopped := false
    dev.enlisted := false
    dev.boardRef := true
    flt.pendingEntry := false }

/-- One half's power state as a warm reset leaves it: the clamp is hardware and stays, the gear is G3 until IDLE (20 R488, R498). -/
def HalfPower.warm (p : HalfPower) : HalfPower :=
  { HalfPower.reset with
    clamp := p.clamp
    clampBeat := p.clampBeat
    clampCause := p.clampCause
    clampTherm := p.clampTherm
    clampNow := p.clamp
    gear := p.gear
    railGear := p.railGear }

/-- Power as a warm reset leaves it: POWER_LIMIT, ceilings, budget and peer entries at their reset values (20 R488, R496, Table
20-7), the sensors' readings as they are. -/
def Power.warm (p : Power) (cap : Nat) : Power :=
  { Power.reset with
    west := p.west.warm
    east := p.east.warm
    inForce := Nat.min 2000 cap
    samples := p.samples
    over2600 := p.over2600
    lowVin := p.lowVin
    highVin := p.highVin
    coreW := p.coreW
    coreE := p.coreE
    tj := p.tj
    tStack := p.tStack
    hot := p.hot
    tInlet := p.tInlet
    tOutlet := p.tOutlet
    vIn := p.vIn
    iIn := p.iIn
    hotBeat := p.hotBeat
    coolSince := p.coolSince
    msOn := p.msOn
    msHot := p.msHot
    msPeak := p.msPeak }

/-- The counter blocks that a warm reset clears (02 to 17; 21 R514, R515): those that a core-domain reset or RESET_PART clears. -/
def warmBlocks : List Nat :=
  [0x040A, 0x050A, 0x050B, 0x0604, 0x0706, 0x0808, 0x0907, 0x0A09, 0x0A0A, 0x0B06, 0x0C0D, 0x0D08, 0x0E0C, 0x0F0C, 0x1109]

/-- W3: core domains and Sheepdogs held in reset: the plan is gone, unit memories and units at reset, Filuidom stopped, both halves
at G3 (16 R410, 21 R514). -/
def State.warmCores (s : State) : State :=
  let s1 : State :=
    { s with
      dev.fwRunning := false
      dev.fwVersion := 0
      dev.fwDigest := Device.reset.fwDigest
      mem := s.mem.filter (fun e => decide (e.1 < 2 ^ 48))
      pte := logPages
      shadowNext := []
      heldWrites := []
      fab.unacked := []
      unit := Units.reset
      plan := PlanState.reset
      acts := Acts.reset
      ck := Ckpt.reset
      trust.staged := false
      trust.sram := []
      pwr := s.pwr.warm s.dev.sbCapForce }
  (warmBlocks.foldl (fun s b => s.clearCnt b (fun _ => true)) s1).applyGears

/-- W4: mesh stops held in reset with FENCE set, no core on, no map until the next generation; the emptied remap table waits for
empty lanes (16 R410, 21 R519). -/
def State.warmMesh (s : State) : State :=
  ({ s with
    geo.fence := Tab.put false [] 0 (List.replicate 240 true)
    geo.fenced := Tab.put false [] 0 (List.replicate 240 true)
    geo.coreOn := []
    geo.discards := []
    geo.published := false
    fab.takeover := none
    fab.pendingRemap := []
    fab.remapClear := true } : State).settleRemap

/-- The action of warm-reset step `k` (21 Table 21-7). -/
def State.warmAction (s : State) (k : Nat) : State :=
  match k with
  | 1 => s.warmQuiesce
  | 2 => s.releaseHeld
  | 3 => s.warmCores
  | 4 => s.warmMesh
  | 6 => { s with dev.stepDone := 2 }
  | 7 => { s with dev.stepDone := 7 }
  | _ => s

/-- WARM_RESET_STEP (21 R522): the next step of the sequence; W7, start-up step 5 as recalibration, follows step 4 and may fail. -/
def execWarmResetStep (ok : Bool) (ms : Nat) (s : State) : Host.Outcome State Fault Refusal :=
  match checked (.warmResetStep ok ms) s with
  | .next s =>
    let k := s.dev.warmStep
    if k = 0 || 7 < k || (decide (k = 7) && decide (s.dev.stepDone ≠ 4)) then .next s
    else if k = 7 && !ok then .next (s.failStep 5 ms true)
    else
      let s1 := s.warmAction k
      .next (({ s1 with dev.warmStep := k + 1 } : State).settleRemap)
  | o => o

/-- RESET_IN (21 R521, 23 Table 23-5): RESET_IN# low for 10 µs, in every state but COLD. -/
def execResetIn (s : State) : Host.Outcome State Fault Refusal :=
  if s.dev.state = .cold then .next s
  else .next (({ s with dev.resetInLow := true } : State).triggerWarm 3 (fromHardware 0))

/-- BOARD_REF_LOSS (21 R504): TIME_LOST is latched; the time domain runs on from the on-die oscillator. -/
def execBoardRefLoss (s : State) : Host.Outcome State Fault Refusal :=
  if s.dev.state = .cold || !s.dev.boardRef then .next s
  else .next (({ s with dev.boardRef := false } : State).raiseCause 0x09 0)

end Sys2Proof.Machine
end

