-- ==== Sys2Proof/Machine/SideRows.lean ====
section
/-! DEFINITION. The I3C sideband target (23 R550 to R553) and the test port (22 R535). -/

namespace Sys2Proof.Machine

/-! ## Common command codes (23 R550) -/

/-- The static address of the target: 0x20 + SLOT_ID[2:0]. -/
def State.staticAddr (s : State) : Nat := 0x20 + s.dev.slotId % 8

/-- I3C_CCC (23 R550): ENTDAA and SETDASA give a dynamic address, RSTDAA takes it; the GETs drive the identity bytes. -/
def execI3cCcc (c : Ccc) (s : State) : Host.Outcome State Fault Refusal :=
  match checked (.i3cCcc c) s with
  | .next s =>
    if !s.dev.vaux then .next s
    else
      match c with
      | .entdaa a => if s.dev.sbAddr = none then .next { s with dev.sbAddr := some a } else .next s
      | .setdasa st a =>
        if s.dev.sbAddr = none && decide (st = s.staticAddr) then .next { s with dev.sbAddr := some a } else .next s
      | .rstdaa => .next { s with dev.sbAddr := none }
      | .getpid => .next (s.emit (.sideband (Config.i3cIdentity 0)))
      | .getbcr => .next (s.emit (.sideband (Config.i3cIdentity 1)))
      | .getdcr => .next (s.emit (.sideband (Config.i3cIdentity 2)))
  | o => o

/-! ## Registers -/

/-- A private write to register `index` begins: the index is noted; a write shorter than `n` bytes sets ERR and is none (23
R550). -/
def State.sbWrite (s : State) (index n : Nat) (data : List Byte) (f : State → Nat → State) : State :=
  if !s.dev.vaux then s
  else
    let s1 : State := { s with dev.sbIndex := index }
    if data.length < n then { s1 with dev.sbErr := true } else f s1 (leNat (data.take n))

/-- SB_CAP_WRITE (23 R552): 400 to 2,000 W, in force at the next 1 ms sample or when the part enters IDLE. -/
def execSbCapWrite (bytes : List Byte) (s : State) : Host.Outcome State Fault Refusal :=
  .next (s.sbWrite 3 2 bytes (fun s v =>
    if v < 400 || 2000 < v then { s with dev.sbErr := true }
    else { s with dev.sbCap := v, dev.sbCapPending := decide (v ≠ s.dev.sbCapForce) }))

/-- SB_HALT_WRITE (23 R553): the key halts the part in any state from IDLE on; a wrong key, COLD or BOOTING sets HALT_REFUSED. -/
def execSbHaltWrite (bytes : List Byte) (s : State) : Host.Outcome State Fault Refusal :=
  .next (s.sbWrite 4 4 bytes (fun s v =>
    if v ≠ 0x48414C54 || !s.dev.state.fromIdle then { s with dev.sbHaltRefused := true }
    else if s.dev.state = .halted then s
    else s.haltActions fromSideband (some (requestRecord 3 0 0))))

/-- SB_STATUS_WRITE (23 Table 23-8): ERR and HALT_REFUSED are cleared by writing 1. -/
def execSbStatusWrite (bytes : List Byte) (s : State) : Host.Outcome State Fault Refusal :=
  .next (s.sbWrite 1 4 bytes (fun s v =>
    { s with dev.sbErr := s.dev.sbErr && !bit v 8, dev.sbHaltRefused := s.dev.sbHaltRefused && !bit v 9 }))

/-- SB_ID (23 Table 23-7). -/
def State.sbId (s : State) : Nat :=
  fields [(0, 0x4E38), (16, s.dev.slotId % 64), (24, 1), (64, Config.serial.toNat)]

/-- SB_STATUS (23 Table 23-8). -/
def State.sbStatus (s : State) : Nat :=
  fields [(0, s.dev.state.code), (3, b2n s.dev.pgood), (4, b2n s.dev.sbAlertTj), (5, b2n s.dev.sbAlertHbm),
    (6, b2n (decide (3 ≤ s.dev.sbTripCause))), (7, b2n (decide (s.dev.sbTripCause = 1) || decide (s.dev.sbTripCause = 2))),
    (8, b2n s.dev.sbErr), (9, b2n s.dev.sbHaltRefused), (10, b2n s.dev.sbCapPending)]

/-- SB_TRIP (23 Table 23-12). -/
def State.sbTrip (s : State) : Nat :=
  fields [(0, s.dev.sbTripCause), (8, s.dev.sbTripDetail % 2 ^ 8), (64, mod64 s.dev.sbTripBeat)]

/-- The value that a private read returns: the register at the last index written, 0 at any other index (23 R550). -/
def State.sbRead (s : State) : Nat :=
  match s.dev.sbIndex with
  | 0 => s.sbId
  | 1 => s.sbStatus
  | 2 => s.dev.sbTelem
  | 3 => s.dev.sbCap
  | 5 => s.sbTrip
  | _ => 0

/-! ## The test port (22 R535) -/

/-- JTAG_EXTEST (22 R535): accepted with RESET_IN# low; the actions of HALT in BOOTING too, and HALTED until a power cycle. -/
def execJtagExtest (s : State) : Host.Outcome State Fault Refusal :=
  if s.dev.state = .cold then .next s
  else
    let o := fromHardware 0
    let s1 : State := { s with dev.extest := true, dev.resetInLow := true, dev.warmStep := 0 }
    let s2 := s1.log o 0x0080 0x0100 0 0
    .next (if s2.dev.state = .halted then s2 else s2.haltActions o none)

/-- JTAG_INSTRUCTION (22 R535): IDCODE drives the code; BYPASS passes TDI on and SAMPLE/PRELOAD shows the pins, neither of which
changes the part (log 5 for the sampled bits). -/
def execJtagInstruction (op : JtagOp) (s : State) : Host.Outcome State Fault Refusal :=
  if !s.dev.vaux then .next s
  else
    match op with
    | .bypass => .next s
    | .idcode => .next (s.emit (.testPort Config.idcode.toNat))
    | .samplePreload =>
      let d := s.drawNat
      .next (d.2.emit (.testPort d.1))

end Sys2Proof.Machine
end

