-- ==== Sys2Proof/Machine/Dispatch.lean ====
section
/-! DEFINITION. The dispatch: one arm for each command of the table. -/

namespace Sys2Proof.Machine

/-- What a command does to everything but the queue. -/
def exec (i : Instr) (s : State) : Host.Outcome State Fault Refusal :=
  match i with
  | .ident p m => Sys2Proof.Machine.execIdent p m s
  | .status p m => Sys2Proof.Machine.execStatus p m s
  | .logRead p m => Sys2Proof.Machine.execLogRead p m s
  | .logTail p m => Sys2Proof.Machine.execLogTail p m s
  | .setSteward p m => Sys2Proof.Machine.execSetSteward p m s
  | .configGet p m => Sys2Proof.Machine.execConfigGet p m s
  | .configSet p m => Sys2Proof.Machine.execConfigSet p m s
  | .apertureSet p m => Sys2Proof.Machine.execApertureSet p m s
  | .mapRead p m => Sys2Proof.Machine.execMapRead p m s
  | .planLoad p m => Sys2Proof.Machine.execPlanLoad p m s
  | .planArm p m => Sys2Proof.Machine.execPlanArm p m s
  | .planUnload p m => Sys2Proof.Machine.execPlanUnload p m s
  | .runAtBeat p m => Sys2Proof.Machine.execRunAtBeat p m s
  | .hold p m => Sys2Proof.Machine.execHold p m s
  | .resume p m => Sys2Proof.Machine.execResume p m s
  | .abortRound p m => Sys2Proof.Machine.execAbortRound p m s
  | .evalRun p m host => Sys2Proof.Machine.execEvalRun p m host s
  | .ckptTargets p m => Sys2Proof.Machine.execCkptTargets p m s
  | .ckptPolicy p m => Sys2Proof.Machine.execCkptPolicy p m s
  | .ckptNow p m => Sys2Proof.Machine.execCkptNow p m s
  | .restore p m hostA hostB => Sys2Proof.Machine.execRestore p m hostA hostB s
  | .rollback p m => Sys2Proof.Machine.execRollback p m s
  | .spareEnlist p m => Sys2Proof.Machine.execSpareEnlist p m s
  | .spareTakeover p m => Sys2Proof.Machine.execSpareTakeover p m s
  | .fenceCore p m => Sys2Proof.Machine.execFenceCore p m s
  | .timeRole p m => Sys2Proof.Machine.execTimeRole p m s
  | .timeSyncWall p m => Sys2Proof.Machine.execTimeSyncWall p m s
  | .powerLimit p m => Sys2Proof.Machine.execPowerLimit p m s
  | .gearPolicy p m => Sys2Proof.Machine.execGearPolicy p m s
  | .telemetryRead p m => Sys2Proof.Machine.execTelemetryRead p m s
  | .attest p m => Sys2Proof.Machine.execAttest p m s
  | .fwStage p m host => Sys2Proof.Machine.execFwStage p m host s
  | .fwCommit p m => Sys2Proof.Machine.execFwCommit p m s
  | .halt p m => Sys2Proof.Machine.execHalt p m s
  | .resetPart p m => Sys2Proof.Machine.execResetPart p m s
  | .mailboxSubmit p m offset data => Sys2Proof.Machine.execMailboxSubmit p m offset data s
  | .consumedWrite p m seq => Sys2Proof.Machine.execConsumedWrite p m seq s
  | .recordPost p m => Sys2Proof.Machine.execRecordPost p m s
  | .deviceQueueHead => Sys2Proof.Machine.execDeviceQueueHead s
  | .respStatus p tag => Sys2Proof.Machine.execRespStatus p tag s
  | .respLogTail p tag => Sys2Proof.Machine.execRespLogTail p tag s
  | .respHalt p tag key => Sys2Proof.Machine.execRespHalt p tag key s
  | .respResetPart p tag key => Sys2Proof.Machine.execRespResetPart p tag key s
  | .portReset p kind => Sys2Proof.Machine.execPortReset p kind s
  | .perstDeassert p speed width => Sys2Proof.Machine.execPerstDeassert p speed width s
  | .msixUnmask p vector => Sys2Proof.Machine.execMsixUnmask p vector s
  | .bar2Read p offset len => Sys2Proof.Machine.execBar2Read p offset len s
  | .bar2Write p offset data => Sys2Proof.Machine.execBar2Write p offset data s
  | .bar0WriteDiscard p offset len => Sys2Proof.Machine.execBar0WriteDiscard p offset len s
  | .pwrEnAssert slotId within200ms => Sys2Proof.Machine.execPwrEnAssert slotId within200ms s
  | .startStepDone ok ms => Sys2Proof.Machine.execStartStepDone ok ms s
  | .pwrEnDeassert => Sys2Proof.Machine.execPwrEnDeassert s
  | .inputPowerLoss => Sys2Proof.Machine.execInputPowerLoss s
  | .resetIn => Sys2Proof.Machine.execResetIn s
  | .warmResetStep ok ms => Sys2Proof.Machine.execWarmResetStep ok ms s
  | .boardRefLoss => Sys2Proof.Machine.execBoardRefLoss s
  | .i3cCcc c => Sys2Proof.Machine.execI3cCcc c s
  | .sbCapWrite bytes => Sys2Proof.Machine.execSbCapWrite bytes s
  | .sbHaltWrite bytes => Sys2Proof.Machine.execSbHaltWrite bytes s
  | .sbStatusWrite bytes => Sys2Proof.Machine.execSbStatusWrite bytes s
  | .jtagExtest => Sys2Proof.Machine.execJtagExtest s
  | .jtagInstruction op => Sys2Proof.Machine.execJtagInstruction op s
  | .periodStart => Sys2Proof.Machine.execPeriodStart s
  | .deadline => Sys2Proof.Machine.execDeadline s
  | .healthCut => Sys2Proof.Machine.execHealthCut s
  | .commit => Sys2Proof.Machine.execCommit s
  | .updateClose => Sys2Proof.Machine.execUpdateClose s
  | .checkpoint => Sys2Proof.Machine.execCheckpoint s
  | .residencyReady => Sys2Proof.Machine.execResidencyReady s
  | .gear => Sys2Proof.Machine.execGear s
  | .actStart => Sys2Proof.Machine.execActStart s
  | .actEnd => Sys2Proof.Machine.execActEnd s
  | .mark => Sys2Proof.Machine.execMark s
  | .envelopeRamp missed => Sys2Proof.Machine.execEnvelopeRamp missed s
  | .syncSend => Sys2Proof.Machine.execSyncSend s
  | .syncRx port msg frac => Sys2Proof.Machine.execSyncRx port msg frac s
  | .delayMeasure port frac => Sys2Proof.Machine.execDelayMeasure port frac s
  | .delayReqRx port msg frac heldFor => Sys2Proof.Machine.execDelayReqRx port msg frac heldFor s
  | .delayRespRx port msg frac => Sys2Proof.Machine.execDelayRespRx port msg frac s
  | .holdoverEntry => Sys2Proof.Machine.execHoldoverEntry s
  | .holdoverExpiry => Sys2Proof.Machine.execHoldoverExpiry s
  | .slewDone => Sys2Proof.Machine.execSlewDone s
  | .standbyTakeover => Sys2Proof.Machine.execStandbyTakeover s
  | .wallAdopt => Sys2Proof.Machine.execWallAdopt s
  | .counterSignal id inc rep => Sys2Proof.Machine.execCounterSignal id inc rep s
  | .oxWs x => Sys2Proof.Machine.execOxWs x s
  | .oxOs x => Sys2Proof.Machine.execOxOs x s
  | .oxIs x => Sys2Proof.Machine.execOxIs x s
  | .bankTokenPass x bank => Sys2Proof.Machine.execBankTokenPass x bank s
  | .bankTokenReturn x bank => Sys2Proof.Machine.execBankTokenReturn x bank s
  | .queueCreditReturn x q => Sys2Proof.Machine.execQueueCreditReturn x q s
  | .copy g => Sys2Proof.Machine.execCopy g s
  | .add g => Sys2Proof.Machine.execAdd g s
  | .sub g => Sys2Proof.Machine.execSub g s
  | .mul g => Sys2Proof.Machine.execMul g s
  | .fma g => Sys2Proof.Machine.execFma g s
  | .scale g => Sys2Proof.Machine.execScale g s
  | .axpby g => Sys2Proof.Machine.execAxpby g s
  | .max g => Sys2Proof.Machine.execMax g s
  | .min g => Sys2Proof.Machine.execMin g s
  | .select g => Sys2Proof.Machine.execSelect g s
  | .fn g => Sys2Proof.Machine.execFn g s
  | .fnMul g => Sys2Proof.Machine.execFnMul g s
  | .dfn g => Sys2Proof.Machine.execDfn g s
  | .dfnMul g => Sys2Proof.Machine.execDfnMul g s
  | .reduceAdd g => Sys2Proof.Machine.execReduceAdd g s
  | .reduceMax g => Sys2Proof.Machine.execReduceMax g s
  | .tableLoad g => Sys2Proof.Machine.execTableLoad g s
  | .lnFwd g => Sys2Proof.Machine.execLnFwd g s
  | .rmsFwd g => Sys2Proof.Machine.execRmsFwd g s
  | .smFwd g => Sys2Proof.Machine.execSmFwd g s
  | .lsmFwd g => Sys2Proof.Machine.execLsmFwd g s
  | .ceFwd g => Sys2Proof.Machine.execCeFwd g s
  | .lnBwd g => Sys2Proof.Machine.execLnBwd g s
  | .rmsBwd g => Sys2Proof.Machine.execRmsBwd g s
  | .smBwd g => Sys2Proof.Machine.execSmBwd g s
  | .lsmBwd g => Sys2Proof.Machine.execLsmBwd g s
  | .ceBwd g => Sys2Proof.Machine.execCeBwd g s
  | .spill g => Sys2Proof.Machine.execSpill g s
  | .reload g => Sys2Proof.Machine.execReload g s
  | .uStats g => Sys2Proof.Machine.execUStats g s
  | .uFact g => Sys2Proof.Machine.execUFact g s
  | .uUsum g => Sys2Proof.Machine.execUUsum g s
  | .uApply g => Sys2Proof.Machine.execUApply g s
  | .uCast g => Sys2Proof.Machine.execUCast g s
  | .gather h => Sys2Proof.Machine.execGather h s
  | .scatterAdd h => Sys2Proof.Machine.execScatterAdd h s
  | .spmm h => Sys2Proof.Machine.execSpmm h s
  | .sample h => Sys2Proof.Machine.execSample h s
  | .route h => Sys2Proof.Machine.execRoute h s
  | .dispatch h => Sys2Proof.Machine.execDispatch h s
  | .sort h => Sys2Proof.Machine.execSort h s
  | .ret h => Sys2Proof.Machine.execRet h s
  | .combine h => Sys2Proof.Machine.execCombine h s
  | .epochClose h => Sys2Proof.Machine.execEpochClose h s
  | .gateGrad h => Sys2Proof.Machine.execGateGrad h s
  | .muleCopy n => Sys2Proof.Machine.execMuleCopy n s
  | .stashPut n => Sys2Proof.Machine.execStashPut n s
  | .stashGet n => Sys2Proof.Machine.execStashGet n s
  | .xsend port => Sys2Proof.Machine.execXsend port s
  | .xsignal port => Sys2Proof.Machine.execXsignal port s
  | .xmcast port => Sys2Proof.Machine.execXmcast port s
  | .xreduce port => Sys2Proof.Machine.execXreduce port s
  | .barrier u => Sys2Proof.Machine.execBarrier u s
  | .endRep u => Sys2Proof.Machine.execEndRep u s
  | .selectAlternative u => Sys2Proof.Machine.execSelectAlternative u s
  | .switch u => Sys2Proof.Machine.execSwitch u s
  | .commandComplete u w => Sys2Proof.Machine.execCommandComplete u w s
  | .slipEvent u elapsed => Sys2Proof.Machine.execSlipEvent u elapsed s
  | .planFinish => Sys2Proof.Machine.execPlanFinish s
  | .genBoundary => Sys2Proof.Machine.execGenBoundary s
  | .batchTake => Sys2Proof.Machine.execBatchTake s
  | .reducedTrailerRx => Sys2Proof.Machine.execReducedTrailerRx s
  | .pagingStart => Sys2Proof.Machine.execPagingStart s
  | .pagerMoveDone r => Sys2Proof.Machine.execPagerMoveDone r s
  | .residencyMapRx router version digest mapBytes => Sys2Proof.Machine.execResidencyMapRx router version digest mapBytes s
  | .dispatchRecordRx msg => Sys2Proof.Machine.execDispatchRecordRx msg s
  | .dispatchEndMarkerRx msg => Sys2Proof.Machine.execDispatchEndMarkerRx msg s
  | .answerRx msg => Sys2Proof.Machine.execAnswerRx msg s
  | .answerEndMarkerRx msg => Sys2Proof.Machine.execAnswerEndMarkerRx msg s
  | .messageRx port msg => Sys2Proof.Machine.execMessageRx port msg s
  | .mcastRx port msg => Sys2Proof.Machine.execMcastRx port msg s
  | .partialRx port msg => Sys2Proof.Machine.execPartialRx port msg s
  | .carryCopy port => Sys2Proof.Machine.execCarryCopy port s
  | .flitRx port flit fecOk => Sys2Proof.Machine.execFlitRx port flit fecOk s
  | .nakRx port count => Sys2Proof.Machine.execNakRx port count s
  | .controlFlitSend port => Sys2Proof.Machine.execControlFlitSend port s
  | .controlFlitRx port credits count nak => Sys2Proof.Machine.execControlFlitRx port credits count nak s
  | .flitForward ingress src flit => Sys2Proof.Machine.execFlitForward ingress src flit s
  | .linkTrainDone port width second => Sys2Proof.Machine.execLinkTrainDone port width second s
  | .peerIdentityRx port modId role fold peerPort => Sys2Proof.Machine.execPeerIdentityRx port modId role fold peerPort s
  | .portRetrain port => Sys2Proof.Machine.execPortRetrain port s
  | .portFailed port => Sys2Proof.Machine.execPortFailed port s
  | .echoRx port src => Sys2Proof.Machine.execEchoRx port src s
  | .echoTimeout => Sys2Proof.Machine.execEchoTimeout s
  | .redirectSet port src => Sys2Proof.Machine.execRedirectSet port src s
  | .remapEntryRx port e => Sys2Proof.Machine.execRemapEntryRx port e s
  | .remapAdopt r => Sys2Proof.Machine.execRemapAdopt r s
  | .faultNoticeRx port n => Sys2Proof.Machine.execFaultNoticeRx port n s
  | .gearNoticeRx port n => Sys2Proof.Machine.execGearNoticeRx port n s
  | .gearNoticeRenew => Sys2Proof.Machine.execGearNoticeRenew s
  | .peerEntryExpire => Sys2Proof.Machine.execPeerEntryExpire s
  | .meshStopFail pos => Sys2Proof.Machine.execMeshStopFail pos s
  | .msCtrlWrite pos v => Sys2Proof.Machine.execMsCtrlWrite pos v s
  | .fenceDrained pos => Sys2Proof.Machine.execFenceDrained pos s
  | .cowWriteHold page offset data => Sys2Proof.Machine.execCowWriteHold page offset data s
  | .cowCopyDone page held => Sys2Proof.Machine.execCowCopyDone page held s
  | .patrolScrub line ecc => Sys2Proof.Machine.execPatrolScrub line ecc s
  | .ckptStreamStart => Sys2Proof.Machine.execCkptStreamStart s
  | .ckptClose => Sys2Proof.Machine.execCkptClose s
  | .ckptTargetError p => Sys2Proof.Machine.execCkptTargetError p s
  | .snapshotClose => Sys2Proof.Machine.execSnapshotClose s
  | .ckptNowEffect => Sys2Proof.Machine.execCkptNowEffect s
  | .restoreSourceError p m hostA hostB doneA doneB => Sys2Proof.Machine.execRestoreSourceError p m hostA hostB doneA doneB s
  | .runStart => Sys2Proof.Machine.execRunStart s
  | .holdEffect => Sys2Proof.Machine.execHoldEffect s
  | .heldEnter => Sys2Proof.Machine.execHeldEnter s
  | .holdStop => Sys2Proof.Machine.execHoldStop s
  | .resumeEffect => Sys2Proof.Machine.execResumeEffect s
  | .abortEffect => Sys2Proof.Machine.execAbortEffect s
  | .takeoverEffective => Sys2Proof.Machine.execTakeoverEffective s
  | .faultEnter => Sys2Proof.Machine.execFaultEnter s
  | .watchdogRestart n => Sys2Proof.Machine.execWatchdogRestart n s
  | .watchdogExpiry n => Sys2Proof.Machine.execWatchdogExpiry n s
  | .roleMoveDone n => Sys2Proof.Machine.execRoleMoveDone n s
  | .powerSample r => Sys2Proof.Machine.execPowerSample r s
  | .budgetTick => Sys2Proof.Machine.execBudgetTick s
  | .limitStep => Sys2Proof.Machine.execLimitStep s
  | .railOvercurrent rail => Sys2Proof.Machine.execRailOvercurrent rail s
  | .clampEngage half => Sys2Proof.Machine.execClampEngage half s
  | .clampRelease half => Sys2Proof.Machine.execClampRelease half s
  | .trip cause detail => Sys2Proof.Machine.execTrip cause detail s
  | .thermalSample tj inlet outlet => Sys2Proof.Machine.execThermalSample tj inlet outlet s
  | .gearPreramp => Sys2Proof.Machine.execGearPreramp s
  | .gearRaiseDeferred half => Sys2Proof.Machine.execGearRaiseDeferred half s
  | .mirrorRefresh => Sys2Proof.Machine.execMirrorRefresh s
  | .logEntryWrite => Sys2Proof.Machine.execLogEntryWrite s
  | .durableLogCopy => Sys2Proof.Machine.execDurableLogCopy s
  | .fuseAdvance => Sys2Proof.Machine.execFuseAdvance s
  | .echoAnswerRx => Sys2Proof.Machine.execEchoAnswerRx s
  | .peerEntryEffective => Sys2Proof.Machine.execPeerEntryEffective s
  | .pwrEnReassertDelay => Sys2Proof.Machine.execPwrEnReassertDelay s
  | .stackTemperatureReport stack temp => Sys2Proof.Machine.execStackTemperatureReport stack temp s
  | .bar0CrossingRead p offset len => Sys2Proof.Machine.execBar0CrossingRead p offset len s

end Sys2Proof.Machine
end

