-- ==== Sys2Proof/Safety.lean ====
section
/-! DEFINITION. The words the statements use: the groups of the state's fields and what it means to change only some of
them, counters kept, bytes kept outside stored ranges, a mailbox command's answer, and the invariants of the state. -/

namespace Sys2Proof.Machine

/-! ## Frames -/

/-- The groups of the state: one for each field of State. -/
inductive Part
  | pending | free | out | dev | pwr | geo | mem | lineErr | pte | shadowNext | heldWrites | unit | plan | time | acts | fab
  | flt | ck | host | trust | cnt
deriving DecidableEq, Repr

/-- Group `p` of the state is the same in `s` and `t`. -/
def SamePart (s t : State) : Part → Prop
  | .pending => t.pending = s.pending
  | .free => t.freeIdx = s.freeIdx
  | .out => t.out = s.out
  | .dev => t.dev = s.dev
  | .pwr => t.pwr = s.pwr
  | .geo => t.geo = s.geo
  | .mem => t.mem = s.mem
  | .lineErr => t.lineErr = s.lineErr
  | .pte => t.pte = s.pte
  | .shadowNext => t.shadowNext = s.shadowNext
  | .heldWrites => t.heldWrites = s.heldWrites
  | .unit => t.unit = s.unit
  | .plan => t.plan = s.plan
  | .time => t.time = s.time
  | .acts => t.acts = s.acts
  | .fab => t.fab = s.fab
  | .flt => t.flt = s.flt
  | .ck => t.ck = s.ck
  | .host => t.host = s.host
  | .trust => t.trust = s.trust
  | .cnt => t.cnt = s.cnt

/-- Only the groups in `l` may differ between `s` and `t`: every other register, memory, queue and counter is unchanged. -/
def OnlyChanges (l : List Part) (s t : State) : Prop := ∀ p, p ∉ l → SamePart s t p

/-- Every counter but those whose keys are in `l` is unchanged. -/
def CountersKept (l : List Nat) (s t : State) : Prop := ∀ k, k ∉ l → t.cntGet k = s.cntGet k

/-- Byte `k` of the memories as it is stored (13 R315, R331): the one read by which the statements say what memory holds. -/
def State.stored (s : State) (k : Nat) : Byte := Tab.get 0 s.mem k

/-- A key lies in one of the ranges (start, length). -/
def InRanges (l : List (Nat × Nat)) (k : Nat) : Prop := ∃ r ∈ l, r.1 ≤ k ∧ k < r.1 + r.2

/-- Every byte outside the ranges `l` is kept, except in HBM lines with an uncorrectable error that a range covers in part (13
R318: such a line keeps only the bytes written). -/
def BytesKept (l : List (Nat × Nat)) (s t : State) : Prop :=
  ∀ k, ¬ InRanges l k → ¬ (k < 2 ^ 39 ∧ (k / 64, 2) ∈ s.lineErr ∧ ∃ r ∈ l, r.1 < 64 * (k / 64 + 1) ∧ 64 * (k / 64) < r.1 + r.2) →
    t.stored k = s.stored k

/-- A write of `n` bytes at HBM address `a` reaches memory at once: the pages it touches are valid and neither read-only nor
write-protected (13 R316, R317, R323). -/
def State.writable (s : State) (a n : Nat) : Prop :=
  a + n ≤ 2 ^ 39 ∧ ∀ p ∈ pagesOf a n, (s.pteOf p).valid = true ∧ (s.pteOf p).ro = false ∧ (s.pteOf p).wp = false

/-! ## Mailbox commands -/

/-- `t` is `s` with the command at the head of mailbox (p, m) ended in its one completion record (18 R448, R459): it has left
the queue, its SEQ is in ACK_SEQ, and the record (status, DETAIL, body) waits behind the others of the mailbox. -/
def Answers (s t : State) (p m status detail : Nat) (body : List Byte) : Prop :=
  ∃ c, (s.box p m).queue = c :: (t.box p m).queue ∧ (t.box p m).ackSeq = c.seq ∧
    (t.box p m).records = (s.box p m).records ++
      [{ status := status, opcode := c.opcode, seq := c.seq, irq := c.irq, beat := s.time.beat, detail := detail,
         body := body, len := body.length, wrote := none }]

/-- Mailbox (p, m) is not in the middle of a reset (18 R451). -/
def State.settled (s : State) (p m : Nat) : Prop := (s.box p m).resetting = false

/-- `t` has one change more in the change log than `s`, of class `cls`, instance `inst` and origin `o`, with the next
sequence number and the beat of the change (22 R536). -/
def LogsOne (s t : State) (o : Nat × Nat) (cls inst : Nat) : Prop :=
  t.trust.nextSeq = s.trust.nextSeq + 1 ∧
    ∃ d, t.trust.details = s.trust.details ++ [d] ∧ d.seq = s.trust.nextSeq ∧ d.beat = s.time.beat ∧ d.cls = cls ∧
      d.inst = inst % 2 ^ 16 ∧ d.origin = o.1

/-! ## Unit commands -/

/-- `t` has the command of descriptor `d` at the head of stream `u` in progress as `f`: the stream moves past it, `f` joins the
commands in progress behind the others with the descriptor's unit, operation and signal, the stream's repetition and this beat as its
cycle 0 (12 R297, R305), and no other stream changes. -/
def StartsWith (s t : State) (u d : Nat) (f : InFlight) : Prop :=
  t.stream u = { s.stream u with pos := (s.stream u).step ((s.stream u).pos + 1), flight := (s.stream u).flight ++ [f] } ∧
    f.unit = dUnit d ∧ f.op = bits d 128 8 ∧ f.rep = (s.stream u).rep ∧ f.beat = s.time.beat ∧ f.sigId = dSig d ∧
    f.sigInc = dInc d ∧ f.slipped = false ∧ ∀ v, v ≠ u → t.stream v = s.stream v

/-- The command of descriptor `d` at the head of stream `u` has reached its cycle 0 and has its effects still to come: nothing but the
unit's own state has changed (04 R91, 05 R119). -/
def Parks (s t : State) (u d : Nat) : Prop :=
  ∃ f, StartsWith s t u d f ∧ f.work.isSome = true ∧ OnlyChanges [.unit] s t

/-- Goat `g` holds the token of every bank that the input streams `ins` name (05 R119). -/
def State.heldAll (s : State) (g : Nat) (ins : List Pat) : Bool := (namedBanks g ins).all (fun b => (heldTag (s.bankToken b.1)).isSome)

/-- A token held among those named has a tag other than its stream's TILE: TOKEN_ORDER (05 R119). -/
def State.wrongTag (s : State) (g : Nat) (ins : List Pat) : Bool :=
  (namedBanks g ins).any (fun b => match heldTag (s.bankToken b.1) with
    | some t => decide (t ≠ b.2.2)
    | none => false)

/-- The tokens after a command of Goat `g` that held every one it names: under TOKEN_ORDER each token the Goat holds is on its way back,
otherwise each named one with RELEASE (05 R119, R120). -/
def TokensGoBack (s t : State) (g : Nat) (ins : List Pat) : Prop :=
  ∀ b, t.bankToken b = (if s.wrongTag g ins then
      (if b ∈ goatBanks g ∧ (heldTag (s.bankToken b)).isSome = true then .toOx else s.bankToken b)
    else if (namedBanks g ins).any (fun x => decide (x.1 = b) && x.2.1) then .toOx else s.bankToken b)

/-- What a Goat's command leaves alone besides the memory it writes: the device, power, time, acts, the link unit, checkpoints, the host
ports and the outbox. -/
def GoatFrame (s t : State) : Prop :=
  t.dev = s.dev ∧ t.pwr = s.pwr ∧ t.time = s.time ∧ t.acts = s.acts ∧ t.fab = s.fab ∧ t.ck = s.ck ∧ t.host = s.host ∧ t.out = s.out

/-- The operations of the stream engine with their codes (05 Table 05-2). -/
def goatOps (g : Fin 60) : List (Instr × Nat) :=
  [(.copy g, 0x00), (.add g, 0x01), (.sub g, 0x02), (.mul g, 0x03), (.fma g, 0x04), (.scale g, 0x05), (.axpby g, 0x06),
    (.max g, 0x07), (.min g, 0x08), (.select g, 0x09), (.fn g, 0x0A), (.fnMul g, 0x0B), (.dfn g, 0x0C), (.dfnMul g, 0x0D),
    (.reduceAdd g, 0x0E), (.reduceMax g, 0x0F)]

/-- The row operations with their codes (06 Table 06-1). -/
def rowOps (g : Fin 60) : List (Instr × Nat) :=
  [(.lnFwd g, 0x01), (.rmsFwd g, 0x02), (.smFwd g, 0x03), (.lsmFwd g, 0x04), (.ceFwd g, 0x05), (.lnBwd g, 0x11), (.rmsBwd g, 0x12),
    (.smBwd g, 0x13), (.lsmBwd g, 0x14), (.ceBwd g, 0x15)]

/-- The update operations with their codes (08 Table 08-4). -/
def updOps (g : Fin 60) : List (Instr × Nat) :=
  [(.uStats g, 0x01), (.uFact g, 0x02), (.uUsum g, 0x03), (.uApply g, 0x04), (.uCast g, 0x05)]

/-- `t` has one event more in the outbox than `s`, after whatever it held (log 14). -/
def Emits (s t : State) (e : OutEvent) : Prop := t.out = s.out ++ [e]

/-- In the link unit only the ports in `l` may differ between `s` and `t`. -/
def PortsOnly (l : List Nat) (s t : State) : Prop :=
  { t.fab with ports := s.fab.ports } = s.fab ∧ ∀ p, p ∉ l → t.port p = s.port p

/-- `t` has handed a message to link `p`: the outbox says so with `e`, then the data flits that left; every flit that waited, and every
flit of the message, waits still or has left and is kept for its acknowledgement (15 R367 to R372). -/
def Hands (s t : State) (p : Nat) (e : OutEvent) (l : List Flit) : Prop :=
  ∃ sent : List Flit, t.out = s.out ++ e :: sent.map (OutEvent.flit p) ∧
    ∀ f ∈ (s.port p).waiting ++ l, f ∈ (t.port p).waiting ∨ (f ∈ sent ∧ f ∈ (t.port p).unacked)

/-- The part has taken the actions of HALT (16 R410): HALTED, logged with the origin; no unit command in progress; an open checkpoint
stream abandoned; a notice of CAUSE 0xFF out of every port that lane 7 leaves by; no cause latched by it; and, where Filuidom runs, no
command left waiting at a mailbox. -/
def HaltedBy (s t : State) (origin : Nat) : Prop :=
  t.dev.state = .halted ∧ t.unitsIdle = true ∧ t.unit.tiles = [] ∧ (s.ck.state = 1 → t.ck.state = 5) ∧
    (∀ p ∈ s.lane7Ports, ∃ n, OutEvent.faultNotice p n ∈ t.out ∧ n.cause = 0xFF ∧ n.src = s.fabricAddr ∧ n.beat = s.time.beat) ∧
    (s.unitsIdle = true → t.flt.cause = s.flt.cause ∧ t.flt.detail = s.flt.detail ∧ t.flt.scope = s.flt.scope) ∧
    (s.dev.fwRunning = true → (∀ q n, (s.box q n).queue.length ≤ 4) → ∀ q n, q < 2 → n < 16 → (t.box q n).queue = []) ∧
    (∃ d ∈ t.trust.details, d.cls = 0x0001 ∧ d.origin = origin ∧ s.trust.nextSeq ≤ d.seq) ∧
    t.time = s.time ∧ { t.fab with ports := s.fab.ports } = s.fab ∧ t.geo = s.geo ∧ t.pwr = s.pwr ∧ t.acts = s.acts

/-- Work that role `r` owed at a beat was missed because the role moves: cause SHEEPDOG is latched (16 R406). -/
def RoleMissed (s t : State) (r : Nat) : Prop :=
  t.flt.pendingEntry = true ∧
    (s.flt.cause = 0 → t.flt.cause = 0x0D ∧ t.flt.scope = 1 ∧ t.flt.detail = s.flt.holder.getD r r % 2 ^ 16)

/-! ## Invariants -/

/-- The canonical form of the memories: keys strictly rising, no byte listed that an unlisted key reads as. -/
abbrev Memory.wf (m : Tab Byte) : Prop := Tab.wf 0 m = true

/-- Memory, the table of HBM lines with an error and the page table are in canonical form, so that equal contents are equal
data. -/
def State.canonical (s : State) : Prop := Memory.wf s.mem ∧ Tab.wf 0 s.lineErr = true ∧ Tab.wf Pte.idle s.pte = true

/-- The entries of the detail buffer carry consecutive sequence numbers from `k` on. -/
def seqsFrom (k : Nat) : List LogDetail → Prop
  | [] => True
  | d :: l => d.seq = k ∧ seqsFrom (k + 1) l

/-- The change log's numbers run without a gap: the next number is one past the last entry in the detail buffer, whose oldest
entry has the number of the next entry to write (22 R536). -/
def Trust.numbered (t : Trust) : Prop := t.nextSeq = t.head + t.details.length ∧ seqsFrom t.head t.details

/-- The rings hold no more than the spec gives them: the fault record (16 R412), the slip record (12 R307), the change log's
copy in the log holder's memory (22 R540); there are eight stacks (13 R315), each with its temperature and its throttling, and four key slots (22 R526). -/
def State.ringsBounded (s : State) : Prop :=
  s.flt.record.length ≤ 16 ∧ s.plan.slips.length ≤ 4096 ∧ s.trust.sram.length ≤ 4096 ∧ s.pwr.tStack.length = 8 ∧
    s.pwr.hot.length = 8 ∧ s.trust.revoked.length = 4

end Sys2Proof.Machine
end

