-- ==== Sys2Proof/Certificates/Slice0/Obligations.lean ====
section
/-! DEFINITION. The statements for the provers: what one step does, what every step keeps, and for each family of commands
what a command does and what it leaves alone. -/

open Sys2Proof Sys2Proof.Machine

/-! ## The step, reset and the invariants -/

/-- A step takes the command at the front of the queue and runs it on the state with the queue's rest (log 1). -/
def Obligations.StepTakesFront : Prop :=
  ∀ (c : Instr) (s : State), step { s with pending := c :: s.pending } = exec c s

/-- On an empty queue a beat passes: the beat counter rises by one modulo 2^64 where it runs and stands where it does not (11 R263;
log 1). Its boundary is where gears change: a half whose slowest request, ceiling or clamp is lower takes that gear, and the
same boundary leaves a half that asks for what it has (20 R488, R489). Besides, an HBM line may come to hold an error (13 R318;
log 135), and a remap table emptied by a warm reset may be adopted (16 R410). No command changes the queue of commands that
wait: the queue shrinks by the command taken and by nothing else. -/
def Obligations.TicksAndQueueKept : Prop :=
  (∀ s : State, s.pending = [] →
     ∃ t, step s = .next t ∧
       t.time.beat = (if s.time.counting then (s.time.beat + 1) % 2 ^ 64 else s.time.beat) ∧
       OnlyChanges [.time, .fab, .pwr, .lineErr, .free, .cnt] s t ∧
       { t.time with beat := s.time.beat } = s.time ∧ CountersKept [PwrCnt.gearDeferred] s t ∧
       (s.time.counting = false → t.pwr = s.pwr) ∧
       (s.time.counting = true → ∀ h, h < 2 →
         let w := if s.dev.state = .booting then 3
           else max (max (if s.plan.loaded then (s.half h).req else 0) (s.ceiling h)) (if (s.half h).clamp then 3 else 0)
         ((s.half h).gear ≤ w → (t.half h).gear = w) ∧ ((t.half h).gear = w ∨ (t.half h).gear = (s.half h).gear)) ∧
       { t.pwr with west := s.pwr.west, east := s.pwr.east } = s.pwr ∧
       (∃ l, ∀ k, k ≠ l → Tab.get 0 t.lineErr k = Tab.get 0 s.lineErr k) ∧
       (s.fab.remapClear = false → t.fab = s.fab) ∧
       (s.fab.remapClear = true → s.lanesEmpty = true → t.fab.remap = [] ∧ t.fab.remapClear = false) ∧
       t.fab.ports = s.fab.ports) ∧
  (∀ (c : Instr) (s t : State), exec c s = .next t → t.pending = s.pending)

/-- Every command with well-formed operands gives a next state, whatever the state, except an access beyond a BAR's size; no command
of the table stops on ordinary data. -/
def Obligations.WellFormedCommandsRun : Prop :=
  ∀ (c : Instr) (s : State), wellFormed c = true →
    (∀ p off len, c = .bar2Read p off len → off + len ≤ 2 ^ 36) →
    (∀ p off data, c = .bar2Write p off data → off + data.length ≤ 2 ^ 36) →
    (∀ p off len, c = .bar0WriteDiscard p off len → off + len ≤ 2 ^ 26) →
    (∀ p off len, c = .bar0CrossingRead p off len → off + len ≤ 2 ^ 26) →
    ∃ t, exec c s = .next t

/-- A command with an operand outside its field is refused by name and has no effect (log 15). An access beyond the end of BAR2 (64
GiB) or BAR0 (64 MiB) stops by name: PCIe delivers no such request (18 Table 18-1). -/
def Obligations.StopsAreNamed : Prop :=
  (∀ (c : Instr) (s : State), wellFormed c = false → exec c s = .refused .badOperand) ∧
  (∀ (p : Fin 2) (off len : Nat) (data : List Byte) (s : State),
     (1 ≤ len → len ≤ 4096 → 2 ^ 36 < off + len → exec (.bar2Read p off len) s = .fault .outsideBar) ∧
     (1 ≤ data.length → data.length ≤ 512 → 2 ^ 36 < off + data.length →
       exec (.bar2Write p off data) s = .fault .outsideBar) ∧
     (2 ^ 26 < off + len → exec (.bar0WriteDiscard p off len) s = .fault .outsideBar ∧
       exec (.bar0CrossingRead p off len) s = .fault .outsideBar))

/-- Before power-on: COLD, no plan, no fault cause, port A steward, FREE follower, no command waiting or in progress, nothing listed
in memory, the pages of the log region read-only and no other page protected. The state before power-on meets the invariants. -/
def Obligations.ResetState : Prop :=
  (State.reset.dev.state = .cold ∧ State.reset.pending = [] ∧ State.reset.plan.loaded = false ∧ State.reset.flt.cause = 0 ∧
   State.reset.host.steward = 0 ∧ State.reset.time.state = 0 ∧ State.reset.time.role = 2 ∧
   (∀ k, State.reset.stored k = 0) ∧ (∀ k, State.reset.cntGet k = 0) ∧
   (∀ p m, State.reset.box p m = Mailbox.empty) ∧ (∀ u, State.reset.stream u = Stream.idle) ∧
   (∀ i, State.reset.ctr i = Ctr.zero) ∧
   (∀ g, g < 262144 → (State.reset.pteOf g).valid = true ∧ (State.reset.pteOf g).wp = false ∧
     ((State.reset.pteOf g).ro = true ↔ 262112 ≤ g))) ∧
  (State.reset.canonical ∧ State.reset.trust.numbered ∧ State.reset.ringsBounded)

/-- Every step keeps the canonical form of the memories, of the table of HBM lines with an error and of the page table. -/
def Obligations.StepKeepsMemoryCanonical : Prop :=
  ∀ s t : State, s.canonical → step s = .next t → t.canonical

/-- Every step keeps the numbering of the change log: whatever a step does, the entries that wait to be written carry consecutive
numbers, the oldest the number at the head, and the next change takes the number after the newest (22 R536). -/
def Obligations.StepKeepsLogNumbers : Prop :=
  ∀ s t : State, s.trust.numbered → step s = .next t → t.trust.numbered

/-- Every step keeps the rings within their sizes: the fault record 16, the slip record 4,096, the log's SRAM copy 4,096; and the
temperatures and throttle marks of the eight stacks and the revoke bits of the four key slots. -/
def Obligations.StepKeepsRings : Prop :=
  ∀ s t : State, s.ringsBounded → step s = .next t → t.ringsBounded

/-! ## Host ports and mailboxes (18, 19) -/

/-- A submission that fails none of R447's checks is accepted: the mailbox's queue takes the command of the page with its SEQ,
LAST_ACCEPTED takes the SEQ, ACCEPTED counts one; an opcode that changes the part takes the last place of the device queue, a
reading one, HALT and RESET_PART take none (19 R462, R463). A refused one leaves both queues, and records why. A write that does
not cover the SUBMIT word in full only changes the page (18 R447). The command at the head of the device queue is checked once:
one that passes R413's checks 1 to 3 keeps its place, is acknowledged and shown executing; an unknown opcode is rejected with
UNSUPPORTED, an opcode that the port's role does not have with DENIED, one that the device state does not permit with
WRONG_STATE, in that order; a rejected command leaves both queues, is logged and changes nothing else (16 R413, 18 R459, 19
R462). -/
def Obligations.MailboxesAcceptAndCheck : Prop :=
  (∀ (p : Fin 2) (m : Fin 16) (off : Nat) (data : List Byte) (s : State),
     off + data.length = 4096 → off ≤ 0xFF8 → s.portLive p.val = true →
     let b := s.box p.val m.val
     let page := Tab.put 0 b.page off data
     let seq := leNat (Tab.range 0 page 0xFF8 4)
     let op := leNat (Tab.range 0 page 0 2)
     ∃ t, exec (.mailboxSubmit p m off data) s = .next t ∧ (t.box p.val m.val).page = page ∧
       OnlyChanges [.host, .cnt] s t ∧ t.host.steward = s.host.steward ∧
       (∀ q n, q < 2 → n < 16 → (q, n) ≠ (p.val, m.val) → t.box q n = s.box q n) ∧
       (if b.resetting = false ∧ b.pendingCount < 4 ∧ seq = leNat (Tab.range 0 page 4 4) ∧ seq ≠ 0 ∧ seq ≠ b.shownSeq ∧
           (∀ c ∈ b.queue, c.seq ≠ seq) ∧ (∀ r ∈ b.records, r.seq ≠ seq) then
         (∃ c : Command, (t.box p.val m.val).queue = b.queue ++ [c] ∧ c.opcode = op ∧ c.seq = seq ∧ c.accepted = s.time.beat ∧
           ∀ i, i < 0xFB8 → Tab.get 0 c.body i = Tab.get 0 page (0x40 + i)) ∧
         (t.box p.val m.val).lastAccepted = seq ∧ (t.box p.val m.val).lastRefused = b.lastRefused ∧
         CountersKept [MbxCnt.accepted p.val] s t ∧
         (if op ∈ readOpcodes ∨ op = 0x80 ∨ op = 0x81 then t.host.queue = s.host.queue
          else ∃ q : Queued, t.host.queue = s.host.queue ++ [q] ∧ q.port = p.val ∧ q.mbox = m.val ∧ q.seq = seq ∧
            q.checked = false ∧ q.waiting = false)
       else
         (t.box p.val m.val).queue = b.queue ∧ t.host.queue = s.host.queue ∧ (t.box p.val m.val).lastAccepted = b.lastAccepted ∧
         (t.box p.val m.val).lastRefused = seq ∧ 1 ≤ (t.box p.val m.val).refuse ∧ (t.box p.val m.val).refuse ≤ 4 ∧
         CountersKept [MbxCnt.refused p.val] s t)) ∧
  (∀ (p : Fin 2) (m : Fin 16) (off : Nat) (data : List Byte) (s : State),
     off + data.length ≤ 4096 → 0 < data.length → (0xFF8 < off ∨ off + data.length < 4096) → s.portLive p.val = true →
     ∃ t, exec (.mailboxSubmit p m off data) s = .next t ∧
       t.box p.val m.val = { s.box p.val m.val with page := Tab.put 0 (s.box p.val m.val).page off data } ∧
       OnlyChanges [.host] s t ∧ t.host.queue = s.host.queue ∧
       (∀ q n, q < 2 → n < 16 → (q, n) ≠ (p.val, m.val) → t.box q n = s.box q n)) ∧
  (∀ (s : State) (q : Queued) (c : Command), s.queueHead = some (q, c) → q.checked = false →
     q.port < 2 → q.mbox < 16 → s.settled q.port q.mbox →
     let st := if c.opcode ∉ opcodes then 9 else if s.roleOk q.port c.opcode = false then 4
       else if s.dev.state.code ∉ statesOf c.opcode ∨ (c.opcode = 0x34 ∧ s.dev.state = .faulted ∧ s.flt.scope = 1) ∨
         (c.opcode = 0x81 ∧ s.dev.extest = true) then 2 else 0
     ∃ t, exec .deviceQueueHead s = .next t ∧
       if st = 0 then
         (∃ rest, s.host.queue = q :: rest ∧ t.host.queue = { q with checked := true } :: rest) ∧
         (t.box q.port q.mbox).queue = (s.box q.port q.mbox).queue ∧ (t.box q.port q.mbox).ackSeq = c.seq ∧
         (t.box q.port q.mbox).progress = 1 ∧ OnlyChanges [.host] s t
       else
         Answers s t q.port q.mbox st 0 [] ∧ t.host.queue = dropQueued q.port q.mbox c.seq s.host.queue ∧
         OnlyChanges [.host, .trust, .cnt] s t ∧ LogsOne s t (1, 0) 0x0003 c.opcode ∧
         CountersKept (if st = 2 then [FaultCnt.wrongState] else []) s t)

/-- A consumption is accepted if the record shown has that SEQ and has not been consumed; any other is ignored and counted (18
R449). A waiting record is posted once the shown one is consumed or none is shown, and once no byte its bulk reply wrote is held
for a page copy (00 R7): GEN rises by one modulo 2^24, the progress byte returns to 0, the record's mailbox vector is raised if
its command had IRQ = 1 (18 R448); otherwise nothing happens. MSI-X (18 R454): unmasking a vector whose pending bit is set sends
one message, counts it and clears the bit; unmasking another sends nothing. -/
def Obligations.RecordsAndInterrupts : Prop :=
  (∀ (p : Fin 2) (m : Fin 16) (seq : Nat) (s : State), seq < 2 ^ 32 → s.portLive p.val = true →
     let b := s.box p.val m.val
     (∃ t, exec (.consumedWrite p m seq) s = .next t ∧
       (if b.consumed = false ∧ (∃ r, b.shown = some r ∧ r.seq = seq) then
         t.box p.val m.val = { b with consumed := true } ∧ OnlyChanges [.host] s t
        else OnlyChanges [.cnt] s t ∧ t.cntGet (MbxCnt.consumeIgnored p.val) = min (s.cntGet (MbxCnt.consumeIgnored p.val) + 1) 0xFFFFFFFF ∧
          CountersKept [MbxCnt.consumeIgnored p.val] s t)) ∧
     (∃ t, exec (.recordPost p m) s = .next t ∧
       match b.records with
       | [] => t = s
       | r :: rest =>
         if (b.consumed = true ∨ b.shown = none) ∧ s.recordHeld p.val r = false then
           (t.box p.val m.val).shown = some r ∧ (t.box p.val m.val).records = rest ∧ (t.box p.val m.val).consumed = false ∧
           (t.box p.val m.val).posted = (b.posted + 1) % 2 ^ 24 ∧ (t.box p.val m.val).progress = (if s.executing p.val m.val then b.progress else 0) ∧
           (t.box p.val m.val).queue = b.queue ∧ t.host.queue = s.host.queue ∧ OnlyChanges [.host, .out, .cnt] s t ∧
           (r.irq = false → t.out = s.out ∧ t.host.msixPend = s.host.msixPend) ∧
           (r.irq = true → Tab.get true s.host.msixMask (vecKey p.val m.val) = false → t.out = s.out ++ [.msix p.val m.val]) ∧
           (r.irq = true → Tab.get true s.host.msixMask (vecKey p.val m.val) = true →
             t.out = s.out ∧ Tab.get false t.host.msixPend (vecKey p.val m.val) = true)
         else t = s)) ∧
  (∀ (p : Fin 2) (v : Fin 32) (s : State),
     ∃ t, exec (.msixUnmask p v) s = .next t ∧
       Tab.get true t.host.msixMask (vecKey p.val v.val) = false ∧ Tab.get false t.host.msixPend (vecKey p.val v.val) = false ∧
       (∀ k, k ≠ vecKey p.val v.val → Tab.get true t.host.msixMask k = Tab.get true s.host.msixMask k ∧
         Tab.get false t.host.msixPend k = Tab.get false s.host.msixPend k) ∧
       OnlyChanges [.host, .out, .cnt] s t ∧ t.host.boxes = s.host.boxes ∧ t.host.queue = s.host.queue ∧
       CountersKept [MbxCnt.irqs p.val] s t ∧
       (if Tab.get false s.host.msixPend (vecKey p.val v.val) = true then
         t.out = s.out ++ [.msix p.val v.val] ∧
           t.cntGet (MbxCnt.irqs p.val) = min (s.cntGet (MbxCnt.irqs p.val) + 1) 0xFFFFFFFF
        else t.out = s.out ∧ t.cnt = s.cnt))

/-- A BAR2 read answers `len` bytes and changes nothing in memory: each is all ones where its page is not permitted or its line
holds an uncorrectable error, and the stored byte elsewhere (13 R317, R318, 18 R458). A BAR2 write of the steward to a page that
takes writes (valid, not read-only, not write-protected) stores its bytes at the aperture's base plus the offset and leaves
every other byte; the observer's is discarded and counted (18 R442, R457). A BAR0 write to a read-only or reserved location is
discarded and counted; a read that crosses a 4 KiB boundary is answered with all ones and counted (18 R444). -/
def Obligations.BarAccesses : Prop :=
  (∀ (p : Fin 2) (off len : Nat) (s : State), 1 ≤ len → len ≤ 4096 → off + len ≤ 2 ^ 36 → s.portLive p.val = true →
     let a := Tab.get 0 s.host.aperture p.val * 2 ^ 30 + off
     ∃ t d, exec (.bar2Read p off len) s = .next t ∧ t.out = s.out ++ [.readData p.val d] ∧ d.length = len ∧
       (∀ i, i < len → d.getD i 0 =
         if s.badPage (pageOf (a + i)) = true ∨ Tab.get 0 s.lineErr ((a + i) / 64) = 2 then 0xFF else s.stored (a + i)) ∧
       t.mem = s.mem ∧ OnlyChanges [.out, .cnt, .trust, .lineErr, .pte] s t) ∧
  (∀ (p : Fin 2) (off : Nat) (data : List Byte) (s : State), 1 ≤ data.length → data.length ≤ 512 →
     off + data.length ≤ 2 ^ 36 → s.portLive p.val = true →
     let a := Tab.get 0 s.host.aperture p.val * 2 ^ 30 + off
     ∃ t, exec (.bar2Write p off data) s = .next t ∧
       (s.host.steward = p.val → a + data.length ≤ 2 ^ 39 → (∀ g ∈ pagesOf a data.length,
           (s.pteOf g).valid = true ∧ (s.pteOf g).ro = false ∧ (s.pteOf g).wp = false) →
         (∀ i, i < data.length → t.stored (a + i) = data.getD i 0) ∧ BytesKept [(a, data.length)] s t ∧
         OnlyChanges [.mem, .lineErr, .pte, .cnt, .trust] s t) ∧
       (s.host.steward ≠ p.val → OnlyChanges [.cnt] s t ∧ CountersKept [MbxCnt.obsWrites p.val] s t ∧
         t.cntGet (MbxCnt.obsWrites p.val) = min (s.cntGet (MbxCnt.obsWrites p.val) + 1) 0xFFFFFFFF)) ∧
  (∀ (p : Fin 2) (off len : Nat) (s : State), off + len ≤ 2 ^ 26 → s.portLive p.val = true →
     (bar0Writable off = false → ∃ t, exec (.bar0WriteDiscard p off len) s = .next t ∧ OnlyChanges [.cnt] s t ∧
       CountersKept [MbxCnt.badWrites p.val] s t ∧
       t.cntGet (MbxCnt.badWrites p.val) = min (s.cntGet (MbxCnt.badWrites p.val) + 1) 0xFFFFFFFF) ∧
     (0 < len → off / 4096 ≠ (off + len - 1) / 4096 → ∃ t, exec (.bar0CrossingRead p off len) s = .next t ∧
       t.out = s.out ++ [.readData p.val (List.replicate len 0xFF)] ∧ OnlyChanges [.cnt, .out] s t ∧
       CountersKept [MbxCnt.badWrites p.val] s t))

/-- A port reset of any kind empties the port's sixteen mailboxes, keeps an executing command to its end, raises the port's service
epoch by one modulo 256, clears its aperture and pending MSI-X bits and leaves the other port's alone (18 R450, R451, R457);
PERST# and a lost link also take the link down. PERST# released with power good trains it. The telemetry mirror is refreshed at
a beat that is a multiple of 1,000: MIRROR_GEN rises by two, stands at both ends of the mirror, and MIRROR_BEAT is the beat (18
R455). -/
def Obligations.PortResetsAndMirror : Prop :=
  (∀ (p : Fin 2) (k : PortResetKind) (speed width : Nat) (s : State),
     (s.dev.state ≠ .cold → ∃ t, exec (.portReset p k) s = .next t ∧
       (∀ m, m < 16 → (t.box p.val m).records = [] ∧ (t.box p.val m).shown = none ∧ (t.box p.val m).page = [] ∧
         (t.box p.val m).queue = (if s.executing p.val m then (s.box p.val m).queue.take 1 else []) ∧
         (t.box p.val m).resetting = s.executing p.val m ∧ (t.box p.val m).ackSeq = (s.box p.val m).ackSeq) ∧
       (∀ m, m < 16 → t.box (1 - p.val) m = s.box (1 - p.val) m) ∧
       Tab.get 0 t.host.epoch p.val = (Tab.get 0 s.host.epoch p.val + 1) % 256 ∧
       Tab.get 0 t.host.epoch (1 - p.val) = Tab.get 0 s.host.epoch (1 - p.val) ∧
       Tab.get 0 t.host.aperture p.val = 0 ∧
       Tab.get 0 t.host.aperture (1 - p.val) = Tab.get 0 s.host.aperture (1 - p.val) ∧ t.host.steward = s.host.steward ∧
       ((k = .functionLevel ∨ k = .hot) → t.host.linkUp = s.host.linkUp ∧ OnlyChanges [.host, .trust, .cnt] s t) ∧
       ((k = .perst ∨ k = .linkDown) → Tab.get false t.host.linkUp p.val = false)) ∧
     (1 ≤ speed → speed ≤ 6 → width ∈ [1, 4, 8, 16] → s.dev.pgood = true →
       ∃ t, exec (.perstDeassert p speed width) s = .next t ∧ Tab.get false t.host.linkUp p.val = true ∧
         Tab.get 0 t.host.speed p.val = speed ∧ Tab.get 0 t.host.width p.val = width ∧ OnlyChanges [.host] s t ∧
         t.host.boxes = s.host.boxes ∧ t.host.queue = s.host.queue)) ∧
  (∀ s : State, s.dev.fwRunning = true → s.time.beat % 1000 = 0 → s.host.mirrorBeat ≠ s.time.beat →
     ∃ t, exec .mirrorRefresh s = .next t ∧ t.host.mirrorGen = (s.host.mirrorGen + 2) % 2 ^ 64 ∧ t.host.mirrorBeat = s.time.beat ∧
       Tab.range 0 t.host.mirror 0 8 = natLe 8 t.host.mirrorGen ∧ Tab.range 0 t.host.mirror 8 8 = natLe 8 (s.time.beat % 2 ^ 64) ∧
       Tab.range 0 t.host.mirror 0xFFFF8 8 = natLe 8 t.host.mirrorGen ∧ OnlyChanges [.host] s t ∧
       t.host.boxes = s.host.boxes ∧ t.host.queue = s.host.queue)

/-- A reading command at the head of its mailbox with a body of the table's length ends with OK (19 R462, R467, R481): IDENT, STATUS
and LOG_TAIL with the reply of their tables; LOG_TAIL's the newest 62 entries of the SRAM copy. It changes nothing but its
mailbox. CONFIG_GET answers a configuration object's value and rejects any other object with BAD_ARG (19 R480); APERTURE_SET
sets the issuing port's aperture to a base of 0 to 448 GiB, logs it, and rejects a larger one (18 R457). -/
def Obligations.ReadsAnswer : Prop :=
  (∀ (p : Fin 2) (m : Fin 16) (s : State) (c : Command), s.settled p.val m.val → c.bodyOk = true →
     (s.reading p.val m.val 0x01 = some c → ∃ t, exec (.ident p m) s = .next t ∧
       Answers s t p.val m.val 0 0 (s.identReply p.val) ∧ OnlyChanges [.host] s t ∧ t.host.queue = dropQueued p.val m.val c.seq s.host.queue) ∧
     (s.reading p.val m.val 0x02 = some c → ∃ t, exec (.status p m) s = .next t ∧
       Answers s t p.val m.val 0 0 s.statusReply ∧ s.statusReply.length = 208 ∧ OnlyChanges [.host] s t) ∧
     (s.reading p.val m.val 0x04 = some c → ∃ t, exec (.logTail p m) s = .next t ∧
       Answers s t p.val m.val 0 0 (s.trust.sram.drop (s.trust.sram.length - 62)).flatten ∧ OnlyChanges [.host] s t)) ∧
  (∀ (p : Fin 2) (m : Fin 16) (s : State) (c : Command), s.settled p.val m.val → c.bodyOk = true →
     (s.reading p.val m.val 0x11 = some c → ∃ t, exec (.configGet p m) s = .next t ∧
       (match c.field 0 2 with
        | 1 => Answers s t p.val m.val 0 0 (natLe 8 s.fabricCfg) ∧ OnlyChanges [.host] s t
        | 2 => Answers s t p.val m.val 0 0 (natLe 8 s.policyWord) ∧ OnlyChanges [.host] s t
        | 3 => Answers s t p.val m.val 0 0 (natLe 2 s.limitNow) ∧ OnlyChanges [.host] s t
        | 4 => Answers s t p.val m.val 0 0 (natLe 1 (s.ceiling 0 % 4 + 4 * (s.ceiling 1 % 4))) ∧ OnlyChanges [.host] s t
        | 5 => Answers s t p.val m.val 0 0 (natLe 1 (s.time.role % 4)) ∧ OnlyChanges [.host] s t
        | _ => Answers s t p.val m.val 3 0 [] ∧ OnlyChanges [.host, .trust] s t)) ∧
     (s.reading p.val m.val 0x13 = some c → ∃ t, exec (.apertureSet p m) s = .next t ∧
       (c.field 0 2 ≤ 448 → Answers s t p.val m.val 0 0 [] ∧ Tab.get 0 t.host.aperture p.val = c.field 0 2 ∧
         Tab.get 0 t.host.aperture (1 - p.val) = Tab.get 0 s.host.aperture (1 - p.val) ∧ LogsOne s t (1, 0) 0x0011 (0x0100 + p.val) ∧
         t.host.steward = s.host.steward ∧ OnlyChanges [.host, .trust] s t) ∧
       (448 < c.field 0 2 → Answers s t p.val m.val 3 0 [] ∧ t.host.aperture = s.host.aperture ∧ OnlyChanges [.host, .trust] s t)))

/-- A reply of `n` bytes through a bulk target in host memory leaves as one write of exactly those bytes at the target's address
through the issuing port, with the record's LENGTH `n` (19 R466). ATTEST delivers a report of 50,432 bytes that begins with its
magic number and holds the caller's nonce at byte 32, and records the request in the change log without the nonce itself (22
R532, R533). -/
def Obligations.BulkReadsAndAttest : Prop :=
  (∀ (p : Fin 2) (m : Fin 16) (s : State) (c : Command), s.settled p.val m.val → c.bodyOk = true →
     (s.reading p.val m.val 0x14 = some c → s.geo.published = true → (c.bulk 0).space = 0 → (c.bulk 0).rest = 0 →
       (c.bulk 0).len % 64 = 0 → 0xC000 ≤ (c.bulk 0).len →
       ∃ t, exec (.mapRead p m) s = .next t ∧
         t.out = s.out ++ [.hostWrite p.val (c.bulk 0).addr (Tab.range 0 s.geo.map 0 0xC000)] ∧
         (∃ r, (t.box p.val m.val).records = (s.box p.val m.val).records ++ [r] ∧ r.status = 0 ∧ r.len = 0xC000 ∧ r.seq = c.seq) ∧
         OnlyChanges [.host, .out] s t) ∧
     (s.reading p.val m.val 0x14 = some c → s.geo.published = false →
       ∃ t, exec (.mapRead p m) s = .next t ∧ Answers s t p.val m.val 2 0 [] ∧ OnlyChanges [.host, .trust, .cnt] s t) ∧
     (s.reading p.val m.val 0x03 = some c → (c.bulk 16).space = 0 → (c.bulk 16).rest = 0 → (c.bulk 16).len % 64 = 0 →
       1 ≤ c.field 8 4 → c.field 8 4 ≤ 2 ^ 20 → c.field 0 8 < s.trust.head → s.trust.head ≤ c.field 0 8 + 1048576 →
       let n := min (c.field 8 4) (s.trust.head - c.field 0 8)
       64 * n ≤ (c.bulk 16).len →
       ∃ t d, exec (.logRead p m) s = .next t ∧ t.out = s.out ++ [.hostWrite p.val (c.bulk 16).addr d] ∧ d.length = 64 * n ∧
         (∀ i j, i < n → j < 64 → d.getD (64 * i + j) 0 = (s.hbmBytes (0x7FFC000000 + 64 * ((c.field 0 8 + i) % 1048576)) 64).getD j 0) ∧
         OnlyChanges [.host, .out] s t) ∧
     (s.reading p.val m.val 0x62 = some c → c.field 16 16 = 0 →
       ∃ t, exec (.telemetryRead p m) s = .next t ∧
         match blockOf (c.field 0 2) with
         | some b =>
           if c.field 4 4 + c.field 8 4 ≤ b.count ∧ c.field 8 4 * b.bytes ≤ 4024 then
             Answers s t p.val m.val 0 0
               ((List.range (c.field 8 4)).flatMap (fun i => fit 0 b.bytes (s.blockBytes b (c.field 4 4 + i)))) ∧
             OnlyChanges [.host] s t
           else Answers s t p.val m.val 3 0 [] ∧ OnlyChanges [.host, .trust] s t
         | none => Answers s t p.val m.val 3 0 [] ∧ OnlyChanges [.host, .trust] s t)) ∧
  (∀ (p : Fin 2) (m : Fin 16) (s : State) (c : Command), s.settled p.val m.val → c.bodyOk = true →
     s.reading p.val m.val 0x70 = some c → (c.bulk 48).space = 0 → (c.bulk 48).rest = 0 → (c.bulk 48).len % 64 = 0 →
     50432 ≤ (c.bulk 48).len →
     ∃ t d, exec (.attest p m) s = .next t ∧ t.out = s.out ++ [.hostWrite p.val (c.bulk 48).addr d] ∧ d.length = 50432 ∧
       d.take 4 = natLe 4 0x4E384154 ∧ (d.drop 32).take 48 = c.bytes 0 48 ∧ LogsOne s t (1, 0) 0x0071 0 ∧
       t.freeIdx = s.freeIdx + 1 ∧ OnlyChanges [.host, .out, .trust, .free] s t)

/-- SET_STEWARD moves the steward role to the port named, logs it and raises the role vector of both ports; naming the present
steward changes nothing; a number that names no port is rejected with BAD_ARG (18 R443, log 21). CONFIG_SET writes FABRIC_CFG,
which then reads as written but for its reserved bits (00 R6), clears the enlisted mark and empties the valid remap entries that
its mask names, once no lane but 5 and 7 holds traffic (15 R380); another object or an illegal value is rejected with BAD_ARG
and changes no configuration (15 Table 15-4, R394, 19 R480). SPARE_ENLIST marks a spare that meets its conditions and is
rejected with WRONG_STATE at any other module (19 R476). -/
def Obligations.StewardAndFabric : Prop :=
  (∀ (p : Fin 2) (m : Fin 16) (s : State) (c : Command), s.settled p.val m.val → c.bodyOk = true →
     s.changing p.val m.val 0x10 = some c →
     ∃ t, exec (.setSteward p m) s = .next t ∧
       (c.field 0 1 ≤ 1 → c.field 0 1 ≠ s.host.steward → Answers s t p.val m.val 0 0 [] ∧ t.host.steward = c.field 0 1 ∧
         LogsOne s t (1, 0) 0x0010 0 ∧ OnlyChanges [.host, .out, .trust, .cnt] s t ∧
         CountersKept [MbxCnt.irqs 0, MbxCnt.irqs 1] s t) ∧
       (c.field 0 1 = s.host.steward → c.field 0 1 ≤ 1 → Answers s t p.val m.val 0 0 [] ∧ t.host.steward = s.host.steward ∧
         OnlyChanges [.host] s t) ∧
       (1 < c.field 0 1 → Answers s t p.val m.val 3 0 [] ∧ t.host.steward = s.host.steward ∧ OnlyChanges [.host, .trust] s t)) ∧
  (∀ (p : Fin 2) (m : Fin 16) (s : State) (c : Command), s.settled p.val m.val → c.bodyOk = true →
     (s.changing p.val m.val 0x12 = some c → ∃ t, exec (.configSet p m) s = .next t ∧
       (c.field 0 2 = 1 → fabricCfgOk (c.field 8 8) = true → s.lanesEmpty = true →
         Answers s t p.val m.val 0 0 [] ∧ t.fabricCfg = c.field 8 8 % 2 ^ 47 ∧
         t.dev = { s.dev with enlisted := false } ∧
         (∀ j, j < 64 → Tab.get emptyRemap t.fab.remap j =
           if bit (c.field 16 8) j && (Tab.get emptyRemap s.fab.remap j).valid then emptyRemap else Tab.get emptyRemap s.fab.remap j) ∧
         t.fab.ports = s.fab.ports ∧ OnlyChanges [.host, .trust, .dev, .fab] s t) ∧
       (c.field 0 2 = 1 → fabricCfgOk (c.field 8 8) = true → s.lanesEmpty = false → t = s) ∧
       ((c.field 0 2 ≠ 1 ∨ fabricCfgOk (c.field 8 8) = false) → Answers s t p.val m.val 3 0 [] ∧
         OnlyChanges [.host, .trust] s t)) ∧
     (s.changing p.val m.val 0x40 = some c → ∃ t, exec (.spareEnlist p m) s = .next t ∧
       (if s.fab.role = 1 ∧ s.fab.modId = 0xFFF ∧ s.time.state = 1 ∧ s.links.all s.portUp = true then
         Answers s t p.val m.val 0 0 [] ∧ t.dev = { s.dev with enlisted := true } ∧ OnlyChanges [.host, .dev] s t
        else Answers s t p.val m.val 2 0 [] ∧ OnlyChanges [.host, .trust, .cnt] s t ∧
          t.cntGet FaultCnt.wrongState = min (s.cntGet FaultCnt.wrongState + 1) 0xFFFFFFFF)))

/-- SPARE_TAKEOVER at an enlisted spare without identity, for a module of the torus wired to it and at least 2,048 beats ahead,
sends the ECHO towards the failed module at once and waits for its EFFECTIVE beat; the identity stays free until then (15 R395,
19 R476). FENCE_CORE closes every mesh stop of the core's site and no other, records the fence with its beat and waits until the
site is drained; a core fenced already gives OK with its physical index, a number that names no core BAD_ARG (02 R34, 19 R477). -/
def Obligations.TakeoverAndFenceCommands : Prop :=
  (∀ (p : Fin 2) (m : Fin 16) (s : State) (c : Command), c.bodyOk = true → s.changing p.val m.val 0x41 = some c →
     s.dev.enlisted = true → s.bareSpare = true → s.servable (c.field 0 2) = true → c.accepted + 2048 ≤ c.field 8 8 →
     s.remapFull = false →
     let l := wiredLink s.fab.fold (c.field 0 2)
     ∃ t q rest, exec (.spareTakeover p m) s = .next t ∧
       PortsOnly [l] { s with fab.takeover := t.fab.takeover } t ∧ t.fab.takeover = some
         { ident := c.field 0 2, effective := c.field 8 8, port := l, echoBeat := s.time.beat, entry := none } ∧
       Hands s t l (.echo l (c.field 0 2)) [cardFlit 7 7 (s.linkDst l) (mgmtPayload 1 [c.field 0 2])] ∧
       s.host.queue = q :: rest ∧ t.host.queue = { q with waiting := true, waitBeat := c.field 8 8, arg := 0 } :: rest ∧
       (t.box p.val m.val).queue = (s.box p.val m.val).queue ∧ (t.box p.val m.val).progress = 128 ∧
       CountersKept [LinkCnt.flitsTx (l % 8)] s t ∧ OnlyChanges [.host, .fab, .out, .cnt] s t) ∧
  (∀ (p : Fin 2) (m : Fin 16) (s : State) (c : Command), s.settled p.val m.val → c.bodyOk = true →
     s.changing p.val m.val 0x42 = some c →
     ∃ t, exec (.fenceCore p m) s = .next t ∧
       match mapIndex (c.field 0 1) (c.field 1 1) with
       | none => Answers s t p.val m.val 3 0 [] ∧ t.geo = s.geo
       | some i =>
         (240 ≤ s.physOf i → Answers s t p.val m.val 3 0 [] ∧ t.geo = s.geo) ∧
         (s.physOf i < 240 → Tab.get false s.geo.fence (s.physOf i) = true →
           Answers s t p.val m.val 0 (s.physOf i) [] ∧ OnlyChanges [.host] s t) ∧
         (s.physOf i < 240 → Tab.get false s.geo.fence (s.physOf i) = false →
           (∀ x, Tab.get false t.geo.fence x = (decide (x ∈ sitePositions (s.physOf i)) || Tab.get false s.geo.fence x)) ∧
           t.geo.fences = s.geo.fences ++ [{ pos := s.physOf i, beat := s.time.beat }] ∧ t.geo.fenced = s.geo.fenced ∧
           (∃ q rest, s.host.queue = q :: rest ∧
             t.host.queue = { q with waiting := true, waitBeat := 0, arg := s.physOf i } :: rest) ∧
           t.dev = s.dev ∧ t.host.steward = s.host.steward ∧ t.fab = s.fab ∧ t.time = s.time ∧ t.pwr = s.pwr))

/-- TIME_ROLE: a module made Rooster is LOCKED, depth 0, announces itself with its last accepted GEN plus one; made standby or
follower it raises GEN by one; its beat counter does not move. The present role changes nothing, a reserved one is rejected (11
R265, R271, 19 R478). TIME_SYNC_WALL at the Rooster sets the pair to be adopted at B0, at least 2,048 beats ahead; elsewhere it
is WRONG_STATE (11 R278). POWER_LIMIT takes 400 to 2,000 W, in force at once under the sideband cap (19 R479, 20 R496);
GEAR_POLICY sets the requested ceiling of each half, which the gears follow from the next beat boundary on (20 R488, R489); each
is logged, an illegal value rejected. -/
def Obligations.TimeAndPowerCommands : Prop :=
  (∀ (p : Fin 2) (m : Fin 16) (s : State) (c : Command), s.settled p.val m.val → c.bodyOk = true →
     (s.changing p.val m.val 0x50 = some c → ∃ t, exec (.timeRole p m) s = .next t ∧
       (3 ≤ c.field 0 1 → Answers s t p.val m.val 3 0 [] ∧ OnlyChanges [.host, .trust] s t) ∧
       (c.field 0 1 < 3 → c.field 0 1 = s.time.role → Answers s t p.val m.val 0 0 [] ∧ OnlyChanges [.host] s t) ∧
       (c.field 0 1 < 3 → c.field 0 1 ≠ s.time.role → Answers s t p.val m.val 0 0 [] ∧ t.time.role = c.field 0 1 ∧
         t.time.beat = s.time.beat ∧ t.time.counting = s.time.counting ∧ LogsOne s t (1, 0) 0x0050 0 ∧
         (c.field 0 1 = 0 → t.time.state = 1 ∧ t.time.depth = 0 ∧ t.time.roosterId = s.ownId ∧
           t.time.gen = ((if s.time.accepted = true then s.time.pairGen else s.time.gen) + 1) % 2 ^ 28) ∧
         (c.field 0 1 ≠ 0 → t.time.state = s.time.state ∧ t.time.gen = (s.time.gen + 1) % 2 ^ 28) ∧
         t.cntGet TimeCnt.roleChanges = min (s.cntGet TimeCnt.roleChanges + 1) 0xFFFFFFFF ∧
         CountersKept [TimeCnt.roleChanges, TimeCnt.holdMax] s t ∧ OnlyChanges [.host, .trust, .time, .cnt] s t)) ∧
     (s.changing p.val m.val 0x51 = some c → ∃ t, exec (.timeSyncWall p m) s = .next t ∧
       (s.time.role ≠ 0 → Answers s t p.val m.val 2 0 [] ∧ OnlyChanges [.host, .trust, .cnt] s t) ∧
       (s.time.role = 0 → c.field 0 8 < s.time.beat + 2048 → Answers s t p.val m.val 3 0 [] ∧
         OnlyChanges [.host, .trust] s t) ∧
       (s.time.role = 0 → s.time.beat + 2048 ≤ c.field 0 8 → Answers s t p.val m.val 0 0 [] ∧ LogsOne s t (1, 0) 0x0050 5 ∧
         t.time = { s.time with nextSet := true, nextB0 := c.field 0 8, nextW0 := c.field 8 8 } ∧
         OnlyChanges [.host, .trust, .time] s t))) ∧
  (∀ (p : Fin 2) (m : Fin 16) (s : State) (c : Command), s.settled p.val m.val → c.bodyOk = true →
     (s.changing p.val m.val 0x60 = some c → ∃ t, exec (.powerLimit p m) s = .next t ∧
       (if 400 ≤ c.field 0 2 ∧ c.field 0 2 ≤ 2000 then
         Answers s t p.val m.val 0 0 [] ∧ LogsOne s t (1, 0) 0x0011 0x0003 ∧ OnlyChanges [.host, .trust, .pwr] s t ∧
         t.pwr = { s.pwr with limit := c.field 0 2, inForce := min (c.field 0 2) s.dev.sbCapForce }
        else Answers s t p.val m.val 3 0 [] ∧ OnlyChanges [.host, .trust] s t)) ∧
     (s.changing p.val m.val 0x61 = some c → ∃ t, exec (.gearPolicy p m) s = .next t ∧
       Answers s t p.val m.val 0 0 [] ∧ LogsOne s t (1, 0) 0x0011 0x0004 ∧
       t.pwr = { s.pwr with west.hostCeil := c.field 0 1 % 4, east.hostCeil := c.field 0 1 / 4 % 4 } ∧
       (∀ h, h < 2 → (if h = 0 then c.field 0 1 % 4 else c.field 0 1 / 4 % 4) ≤ t.ceiling h) ∧ OnlyChanges [.host, .trust, .pwr] s t))

/-- FW_STAGE from host memory writes the slot that is not active if and only if the image passes every check, and marks it staged;
FW_COMMIT makes the staged image active and starts a warm reset of kind 4; without a staged image it is WRONG_STATE (19 R483, 22
R528). -/
def Obligations.FirmwareIsStagedAndCommitted : Prop :=
  ∀ (p : Fin 2) (m : Fin 16) (host : Tab Byte) (s : State) (c : Command), s.settled p.val m.val → c.bodyOk = true →
    (s.changing p.val m.val 0x71 = some c → (c.bulk 0).space = 0 → (c.bulk 0).rest = 0 → (c.bulk 0).len % 64 = 0 →
      (c.bulk 0).len ≤ 2 ^ 24 →
      let img := Tab.range 0 host (c.bulk 0).addr (c.bulk 0).len
      ∃ t, exec (.fwStage p m host) s = .next t ∧ OnlyChanges [.host, .trust] s t ∧
        t.trust.active = s.trust.active ∧ t.trust.svnFuses = s.trust.svnFuses ∧ t.trust.revoked = s.trust.revoked ∧
        (if s.imageValid img = true then
          Answers s t p.val m.val 0 0 [] ∧ t.trust.staged = true ∧ LogsOne s t (1, 0) 0x0070 0x71 ∧
          (∀ k, Tab.get FwImage.none t.trust.images k =
            if k = 1 - s.trust.active then { length := img.length, bytes := img } else Tab.get FwImage.none s.trust.images k)
         else Answers s t p.val m.val 3 0 [] ∧ t.trust.images = s.trust.images ∧ t.trust.staged = s.trust.staged)) ∧
    (s.changing p.val m.val 0x72 = some c → ∃ t, exec (.fwCommit p m) s = .next t ∧
      (s.trust.staged = false → Answers s t p.val m.val 2 0 [] ∧ OnlyChanges [.host, .trust, .cnt] s t) ∧
      (s.trust.staged = true → s.dev.warmStep = 0 → s.dev.extest = false →
        Answers s t p.val m.val 0 0 [] ∧ t.trust.active = 1 - s.trust.active ∧ t.trust.staged = false ∧
        t.trust.images = s.trust.images ∧ t.dev.warmStep = 1 ∧ t.dev.lastReset = 4 ∧ t.dev.state = s.dev.state ∧
        t.geo.holes = s.geo.holes ∧ OnlyChanges [.host, .trust, .dev, .geo] s t))

/-- HALT acts at once, whatever its mailbox holds in front of it: the part is HALTED, no unit command is in progress, every command
that waited at any mailbox has ended, its own record says OK; in HALTED it gives OK and changes nothing else (16 R410, 19 R463,
R484). RESET_PART makes its record, enters the request in the fault record and triggers a warm reset of kind 1 (16 R412, 19
R484). -/
def Obligations.HaltAndResetActAtOnce : Prop :=
  ∀ (p : Fin 2) (m : Fin 16) (s : State), s.settled p.val m.val → (∀ q n, (s.box q n).queue.length ≤ 4) →
    (∀ i c, s.dev.state ≠ .halted → s.placeOf p.val m.val 0x80 = some (i, c) → s.serves p.val = true →
      s.gateStatus p.val 0x80 = 0 → c.bodyOk = true →
      ∃ t, exec (.halt p m) s = .next t ∧ t.dev.state = .halted ∧ t.unitsIdle = true ∧ t.unit.tiles = [] ∧
        (∀ q n, q < 2 → n < 16 → (t.box q n).queue = []) ∧
        (∃ r ∈ (t.box p.val m.val).records, r.status = 0 ∧ r.opcode = 0x80 ∧ r.seq = c.seq) ∧
        t.time = s.time ∧ { t.fab with ports := s.fab.ports } = s.fab ∧ t.geo = s.geo ∧ t.pwr = s.pwr ∧ t.acts = s.acts ∧ t.plan.loaded = s.plan.loaded) ∧
    (∀ c, s.dev.state = .halted → s.reading p.val m.val 0x80 = some c → c.bodyOk = true →
      ∃ t, exec (.halt p m) s = .next t ∧ Answers s t p.val m.val 0 0 [] ∧ OnlyChanges [.host] s t) ∧
    (∀ i c, s.placeOf p.val m.val 0x81 = some (i, c) → s.serves p.val = true → s.gateStatus p.val 0x81 = 0 →
      c.bodyOk = true → s.dev.warmStep = 0 →
      ∃ t, exec (.resetPart p m) s = .next t ∧ t.dev.warmStep = 1 ∧ t.dev.lastReset = 1 ∧ t.dev.warmBeat = s.time.beat ∧
        t.dev.warmOrigin = (1, p.val + 2 * m.val) ∧ t.dev.state = s.dev.state ∧
        (∃ r ∈ (t.box p.val m.val).records, r.status = 0 ∧ r.opcode = 0x81 ∧ r.seq = c.seq) ∧
        (∃ e, t.flt.record.getLast? = some e ∧ e.beat = s.time.beat ∧ bits e.value 0 8 = 4) ∧
        OnlyChanges [.host, .trust, .dev, .flt] s t)

/-! ## Plans, runs and checkpoints (12, 13, 17, 19) -/

/-- RUN_AT_BEAT, RESUME and ABORT_ROUND complete. A RUN_AT_BEAT of a primed plan, or in HELD, and a RESUME of a hold that stopped no
unit, named at least 2,048 beats after acceptance, and an ABORT_ROUND outside HELD, named at least 256, set their beat: the
command keeps its place at the head of the device queue with that beat, its mailbox's progress byte shows it, and nothing else
changes; from that beat on the plan runs (again), with OK in the record. A beat named too early is rejected with BAD_ARG, a plan
not primed or a stopped hold with WRONG_STATE (19 R470, R472, R473). HOLD completes. Named at least 256 beats after acceptance
it sets the hold beat: the beat named, or later where R471's windows cover it, never inside a window of a commit or of paging;
units and the timetable stand from that beat on, and with no command in progress the part is then HELD, with OK and STOPPED 0 in
the record; named too early it is rejected with BAD_ARG (19 R470 to R472). -/
def Obligations.RunCommandsWait : Prop :=
  (∀ (p : Fin 2) (m : Fin 16) (s : State) (c : Command) (q : Queued) (rest : List Queued), s.settled p.val m.val →
     c.bodyOk = true → s.host.queue = q :: rest →
     let named := c.field 0 8
     let set := fun (t : State) (b : Nat) => t.host.queue = { q with waiting := true, waitBeat := b, arg := 0 } :: rest ∧
       (t.box p.val m.val).progress = 128 ∧ (t.box p.val m.val).queue = (s.box p.val m.val).queue ∧
       (t.box p.val m.val).records = (s.box p.val m.val).records ∧ OnlyChanges [.host] s t
     let at_ := fun (t : State) (b : Nat) => ({ t with time.beat := b } : State)
     (s.changing p.val m.val 0x23 = some c → (s.dev.state = .armed → s.dev.primed = true ∧ s.ck.restoreBad = false) →
       c.accepted + 2048 ≤ named → ∃ t, exec (.runAtBeat p m) s = .next t ∧ set t named ∧
         ∀ b, named ≤ b → ∃ u, exec .runStart (at_ t b) = .next u ∧ u.dev.state = .running ∧ u.plan.startBeat = named ∧
           Answers (at_ t b) u p.val m.val 0 0 []) ∧
     (s.changing p.val m.val 0x25 = some c → s.dev.stopped = false → c.accepted + 2048 ≤ named →
       ∃ t, exec (.resume p m) s = .next t ∧ set t named ∧
         ∀ b h, named ≤ b → s.plan.holdBeat = some h → ∃ u, exec .resumeEffect (at_ t b) = .next u ∧ u.dev.state = .running ∧
           u.plan.holdBeat = none ∧ u.plan.shift = s.plan.shift + (named - h) ∧ Answers (at_ t b) u p.val m.val 0 0 []) ∧
     (s.changing p.val m.val 0x26 = some c → s.dev.state ≠ .held → c.accepted + 256 ≤ named →
       ∃ t b, exec (.abortRound p m) s = .next t ∧ named ≤ b ∧ set t b) ∧
     (s.changing p.val m.val 0x23 = some c → s.dev.state = .armed → (s.dev.primed = false ∨ s.ck.restoreBad = true) →
       ∃ t, exec (.runAtBeat p m) s = .next t ∧ Answers s t p.val m.val 2 0 []) ∧
     (s.changing p.val m.val 0x23 = some c → (s.dev.state = .armed → s.dev.primed = true ∧ s.ck.restoreBad = false) →
       named < c.accepted + 2048 → ∃ t, exec (.runAtBeat p m) s = .next t ∧ Answers s t p.val m.val 3 0 []) ∧
     (s.changing p.val m.val 0x25 = some c → s.dev.stopped = true → ∃ t, exec (.resume p m) s = .next t ∧
       Answers s t p.val m.val 2 0 []) ∧
     (s.changing p.val m.val 0x25 = some c → s.dev.stopped = false → named < c.accepted + 2048 →
       ∃ t, exec (.resume p m) s = .next t ∧ Answers s t p.val m.val 3 0 []) ∧
     (s.changing p.val m.val 0x26 = some c → named < c.accepted + 256 →
       ∃ t, exec (.abortRound p m) s = .next t ∧ Answers s t p.val m.val 3 0 [])) ∧
  (∀ (p : Fin 2) (m : Fin 16) (s : State) (c : Command), c.bodyOk = true → s.changing p.val m.val 0x24 = some c →
     (c.accepted + 256 ≤ c.field 0 8 →
       ∃ t b, exec (.hold p m) s = .next t ∧ t.plan.holdBeat = some b ∧ c.field 0 8 ≤ b ∧
         (∀ w ∈ windowsOf none none (s.marksAround (c.field 0 8)), ¬ (w.1 ≤ b ∧ b ≤ w.2)) ∧
         (∃ q rest, t.host.queue = q :: rest ∧ q.waiting = true ∧ q.waitBeat = b) ∧
         t.dev = s.dev ∧ OnlyChanges [.host, .plan] s t ∧
         (b ≤ t.time.beat → ∀ u opc, t.ready u opc = none) ∧ (b ≤ t.time.beat → t.dueEntry = none) ∧
         (∀ b', b ≤ b' → s.settled p.val m.val → s.dev.state = .running → s.unitsIdle = true →
           ∃ u v, exec .holdEffect { t with time.beat := b' } = .next u ∧ exec .heldEnter u = .next v ∧
             v.dev = { s.dev with state := .held, stopped := false } ∧ Answers u v p.val m.val 0 0 [])) ∧
     (c.field 0 8 < c.accepted + 256 → s.settled p.val m.val →
       ∃ t, exec (.hold p m) s = .next t ∧ Answers s t p.val m.val 3 0 [] ∧ OnlyChanges [.host, .trust] s t))

/-- PLAN_LOAD of a plan that passes the load-time checks leaves it loaded at its base, not primed, its digest that of its bytes, the
part ARMED, the page table that of its regions, and HBM as it was; a plan that fails a check is rejected with BAD_ARG and the
report in DETAIL, nothing of it loaded (12 R312, 13 R316, 19 R468). -/
def Obligations.PlanIsLoadedOrReported : Prop :=
  ∀ (p : Fin 2) (m : Fin 16) (s : State) (c : Command), s.settled p.val m.val → c.bodyOk = true →
    s.changing p.val m.val 0x20 = some c → s.mayLoad = true → c.field 0 8 % 4096 = 0 → c.field 8 8 ≤ 2 ^ 34 →
    c.field 0 8 + c.field 8 8 ≤ 2 ^ 39 → s.canonical →
    let base := c.field 0 8
    let len := bits (leNat (s.hbmBytes base 64)) 64 64
    ∃ t, exec (.planLoad p m) s = .next t ∧
      match (s.asPlan base len).planReport (c.field 8 8) with
      | some r => Answers s t p.val m.val 3 r [] ∧ t.plan = s.plan ∧ OnlyChanges [.host, .trust] s t
      | none =>
        Answers s t p.val m.val 0 0 [] ∧ t.plan.loaded = true ∧ t.plan.base = base ∧ t.plan.length = len ∧
        t.plan.digest = sha384 (s.hbmBytes base len) ∧ t.dev.state = .armed ∧ t.dev.primed = false ∧ t.dev.stopped = false ∧
        t.pwr.west.req = 0 ∧ t.pwr.east.req = 0 ∧ (∀ k, k < 2 ^ 48 → t.stored k = s.stored k) ∧
        (∀ g, g < 262144 → (t.pteOf g).wp = false ∧ (t.pteOf g).copied = false ∧
          ((t.pteOf g).valid = true ↔ ∃ r ∈ (s.asPlan base len).regions, r.2.base ≤ g ∧ g < r.2.base + r.2.pages)) ∧
        OnlyChanges [.host, .trust, .dev, .pwr, .mem, .pte, .shadowNext, .unit, .plan, .cnt, .out, .flt, .lineErr, .geo, .free] s t

/-- PLAN_ARM, where the ports, the time state and the checkpoint stream permit it, leaves the plan primed and ARMED with every sync
counter 0, every unit at the head of repetition 0 in the variant of the ceilings, every slot EMPTY and FAULT_STATUS, CKPT_STATUS
and ACT_STATUS at their reset values; otherwise WRONG_STATE (12 R292, 19 R469). PLAN_UNLOAD outside an open checkpoint stream
leaves no plan, the part IDLE with the IDLE page table and no write held; with a stream open it is WRONG_STATE (13 R316, 19
R469). -/
def Obligations.PlanIsArmedOrUnloaded : Prop :=
  (∀ (p : Fin 2) (m : Fin 16) (s : State) (c : Command), s.settled p.val m.val → c.bodyOk = true →
     s.changing p.val m.val 0x21 = some c →
     ∃ t, exec (.planArm p m) s = .next t ∧
       (s.mayArm = false → Answers s t p.val m.val 2 0 [] ∧ OnlyChanges [.host, .trust, .cnt] s t) ∧
       (s.mayArm = true → Answers s t p.val m.val 0 0 [] ∧ t.dev.state = .armed ∧ t.dev.primed = true ∧ t.dev.stopped = false ∧
         t.plan.variant = 4 * s.ceiling 0 + s.ceiling 1 ∧ t.plan.started = false ∧ t.plan.holdBeat = none ∧
         (∀ i, t.ctr i = Ctr.zero) ∧
         (∀ u, u < 226 → t.stream u = { Stream.idle with variant := 4 * s.ceiling 0 + s.ceiling 1 }) ∧
         (∀ i, t.slot i = Slot.empty) ∧ (∀ q, t.queue q = FeedQueue.empty) ∧ t.unit.tiles = [] ∧
         t.flt.cause = 0 ∧ t.flt.frozen = false ∧ t.ck.state = 0 ∧ t.ck.lastEffective = 0 ∧ t.acts.act = 0 ∧ t.acts.retries = 0 ∧
         t.plan.loaded = s.plan.loaded ∧ t.plan.step = s.plan.step ∧ t.time = s.time ∧ t.fab = s.fab ∧ t.pwr.limit = s.pwr.limit)) ∧
  (∀ (p : Fin 2) (m : Fin 16) (s : State) (c : Command), s.settled p.val m.val → c.bodyOk = true →
     s.changing p.val m.val 0x22 = some c →
     ∃ t, exec (.planUnload p m) s = .next t ∧
       (s.ck.state = 1 → Answers s t p.val m.val 2 0 [] ∧ OnlyChanges [.host, .trust, .cnt] s t) ∧
       (s.ck.state ≠ 1 → Answers s t p.val m.val 0 0 [] ∧ t.dev.state = .idle ∧ t.plan.loaded = false ∧ t.dev.primed = false ∧
         t.pte = logPages ∧ t.heldWrites = [] ∧ t.pwr.west.req = 0 ∧ t.pwr.east.req = 0 ∧ t.plan.holdBeat = none ∧
         t.time = s.time ∧ t.fab = { s.fab with unacked := [] } ∧ t.ck = s.ck ∧ t.acts = s.acts ∧ t.geo = s.geo))

/-- What a run command that waited does at its beat, ending with OK. RUN_START: RUNNING, the next repetition's first beat is the
beat named; from HELD the held repetition is abandoned and every slot emptied. RESUME_EFFECT: RUNNING, every firing later by the
beats from the hold to the resume. ABORT_EFFECT (and ABORT_ROUND in HELD): both gates of every router close to the newest epoch
begun (19 R470, R473, R474, 10 R249). -/
def Obligations.RunCommandsTakeEffect : Prop :=
  ∀ (s : State) (q : Queued) (c : Command), s.settled q.port q.mbox →
    (s.dueCmd 0x23 = some (q, c) → (s.dev.state = .armed ∨ s.dev.state = .held) → ∃ t, exec .runStart s = .next t ∧
      Answers s t q.port q.mbox 0 0 [] ∧ t.dev.state = .running ∧ t.plan.startBeat = q.waitBeat ∧ t.plan.startRep = t.plan.nextRep ∧
      t.plan.shift = 0 ∧ t.plan.holdBeat = none ∧ t.plan.ran = true ∧ t.dev.primed = false ∧ t.dev.stopped = false ∧
      t.time = s.time ∧ t.fab = s.fab ∧
      (s.dev.state = .armed → t.plan.nextRep = s.plan.nextRep ∧ t.mem = s.mem ∧ t.unit = s.unit ∧ t.acts = s.acts ∧
        t.pwr = { s.pwr with ramp := 0, preramp := 0 } ∧ OnlyChanges [.host, .out, .trust, .cnt, .dev, .plan, .pwr] s t) ∧
      (s.dev.state = .held → t.plan.nextRep = (s.deviceRep + 1) % 2 ^ 64 ∧ (∀ i, t.slot i = Slot.empty) ∧
        (∀ i, t.ctr i = Ctr.zero) ∧ t.unitsIdle = true)) ∧
    (∀ b, s.dueCmd 0x25 = some (q, c) → s.dev.state = .held → s.plan.holdBeat = some b → ∃ t, exec .resumeEffect s = .next t ∧
      Answers s t q.port q.mbox 0 0 [] ∧ t.dev.state = .running ∧ t.plan = { s.plan with shift := s.plan.shift + (q.waitBeat - b), holdBeat := none } ∧
      OnlyChanges [.host, .out, .trust, .cnt, .dev, .plan] s t) ∧
    (s.dueCmd 0x26 = some (q, c) → ∃ t, exec .abortEffect s = .next t ∧ Answers s t q.port q.mbox 0 0 [] ∧
      (∀ r, r < 256 → Tab.get 0 t.unit.gates (2 * r) = Tab.get 0 s.unit.begun r ∧
        Tab.get 0 t.unit.gates (2 * r + 1) = Tab.get 0 s.unit.begun r) ∧ t.unit.placed = [] ∧ t.unit.streams = s.unit.streams ∧
      t.dev = s.dev ∧ t.time = s.time ∧ (s.secLen 9 = 0 → OnlyChanges [.host, .trust, .unit] s t)) ∧
    (∀ (p : Fin 2) (m : Fin 16), s.changing p.val m.val 0x26 = some c → s.settled p.val m.val → c.bodyOk = true →
      s.dev.state = .held → c.accepted + 256 ≤ c.field 0 8 → ∃ t, exec (.abortRound p m) s = .next t ∧
      Answers s t p.val m.val 0 0 [] ∧ (∀ r, r < 256 → Tab.get 0 t.unit.gates (2 * r) = Tab.get 0 s.unit.begun r) ∧ t.dev = s.dev)

/-- The hold beat. HOLD_EFFECT shows progress 255 and logs the hold; the part enters HELD once no command is in progress, with
STOPPED 0 in the record's DETAIL; 10,000 beats on, commands still in progress are stopped and DETAIL is 1 (19 R472). EVAL_RUN
with ranges, targets and room as R475 asks puts its entries behind the evaluation ring's PROD and waits for the end of an
EVALUATE act, which copies the result out and makes its record; one that R475 refuses is rejected with that status (19 R475). -/
def Obligations.HoldAndEvalRun : Prop :=
  (∀ (s : State) (q : Queued) (c : Command) (b : Nat), s.settled q.port q.mbox →
     (s.dueCmd 0x24 = some (q, c) → s.dev.state = .running → ∃ t, exec .holdEffect s = .next t ∧
       (t.box q.port q.mbox).progress = 255 ∧ (t.box q.port q.mbox).queue = (s.box q.port q.mbox).queue ∧
       t.plan = { s.plan with holdBeat := some q.waitBeat } ∧ LogsOne s t (1, 0) 0x0021 0x24 ∧ t.host.queue = s.host.queue ∧
       OnlyChanges [.host, .trust, .plan] s t) ∧
     (s.dev.state = .running → s.plan.holdBeat = some b → b ≤ s.time.beat → s.unitsIdle = true → s.waitingFor 0x24 = some (q, c) →
       ∃ t, exec .heldEnter s = .next t ∧ t.dev = { s.dev with state := .held, stopped := false } ∧ Answers s t q.port q.mbox 0 0 [] ∧
       t.plan = s.plan ∧ t.unit = s.unit ∧ OnlyChanges [.host, .out, .trust, .cnt, .dev] s t) ∧
     (s.dev.state = .running → s.plan.holdBeat = some b → b + 10000 ≤ s.time.beat → s.unitsIdle = false → s.waitingFor 0x24 = some (q, c) →
       ∃ t, exec .holdStop s = .next t ∧ t.dev = { s.dev with state := .held, stopped := true } ∧ Answers s t q.port q.mbox 0 1 [] ∧
       t.unitsIdle = true ∧ t.unit.tiles = [] ∧
       (∀ k, { t.queue k with fed := (s.queue k).fed } = s.queue k) ∧ t.time = s.time ∧ t.fab = s.fab)) ∧
  (∀ (p : Fin 2) (m : Fin 16) (host : Tab Byte) (s : State) (c : Command), s.settled p.val m.val → c.bodyOk = true →
     s.changing p.val m.val 0x27 = some c → s.secLen 9 ≠ 0 → s.evalRing ≠ 0 → s.acts.evalBox = none →
     ∃ t, exec (.evalRun p m host) s = .next t ∧
       (if s.evalStatus c (s.ring s.evalRing) = 0 then
         t.acts = { s.acts with evalBox := some (p.val, m.val) } ∧ (t.box p.val m.val) = s.box p.val m.val ∧
         (∃ q rest, s.host.queue = q :: rest ∧ t.host.queue = { q with waiting := true, waitBeat := 0, arg := 0 } :: rest) ∧
         t.unit = s.unit ∧ t.dev = s.dev ∧ t.time = s.time
        else Answers s t p.val m.val (s.evalStatus c (s.ring s.evalRing)) 0 [] ∧ OnlyChanges [.host, .trust] s t))

/-- CKPT_TARGETS replaces one list of one port and no other; CKPT_POLICY's word then reads back as written but for its reserved bits
(00 R6); an illegal entry or word is rejected with BAD_ARG (17 R427, R431). CKPT_NOW waits for a beat at least 16 beats on,
unless a stream is open or the part frozen, which is WRONG_STATE; its effect is a checkpoint named by that beat, or a skip that
ends with WRONG_STATE; while Sheepdog 2's role moves the checkpoint is missed, which is cause SHEEPDOG (16 R406, 17 R421, R433). -/
def Obligations.CheckpointCommands : Prop :=
  (∀ (p : Fin 2) (m : Fin 16) (s : State) (c : Command), s.settled p.val m.val → c.bodyOk = true →
     (s.changing p.val m.val 0x30 = some c → ∃ t, exec (.ckptTargets p m) s = .next t ∧
       (if c.field 0 1 ≤ 1 ∧ c.field 1 1 ≤ 1 ∧ (c.targets 16).all Option.isSome = true then
         Answers s t p.val m.val 0 0 [] ∧ LogsOne s t (1, 0) 0x0011 (0x30 + 256 * c.field 0 1 + 512 * c.field 1 1) ∧
         (∀ k, Tab.get Target.none t.ck.targets k =
           if 32 * c.field 0 1 + 16 * c.field 1 1 ≤ k ∧ k < 32 * c.field 0 1 + 16 * c.field 1 1 + 16 then
             { addr := c.field (16 + 16 * (k % 16)) 8, len := c.field (24 + 16 * (k % 16)) 6 }
           else Tab.get Target.none s.ck.targets k) ∧
         t.ck = { s.ck with targets := t.ck.targets } ∧ OnlyChanges [.host, .trust, .ck] s t
        else Answers s t p.val m.val 3 0 [] ∧ OnlyChanges [.host, .trust] s t)) ∧
     (s.changing p.val m.val 0x31 = some c → ∃ t, exec (.ckptPolicy p m) s = .next t ∧
       let w := c.field 0 8;
       (if 1 ≤ bits w 24 7 ∧ bits w 24 7 ≤ 112 then
         Answers s t p.val m.val 0 0 [] ∧
         t.policyWord = bits w 0 3 + 2 ^ 8 * bits w 8 8 + 2 ^ 16 * bits w 16 3 + 2 ^ 24 * bits w 24 7 ∧ LogsOne s t (1, 0) 0x0011 2 ∧ t.ck.state = s.ck.state ∧
         t.ck.targets = s.ck.targets ∧ OnlyChanges [.host, .trust, .ck] s t
        else Answers s t p.val m.val 3 0 [] ∧ OnlyChanges [.host, .trust] s t))) ∧
  (∀ (p : Fin 2) (m : Fin 16) (s : State) (c : Command) (q : Queued), s.settled p.val m.val → c.bodyOk = true →
     (s.changing p.val m.val 0x32 = some c → ∃ t, exec (.ckptNow p m) s = .next t ∧
       (if s.ck.state = 1 ∨ s.flt.frozen = true then Answers s t p.val m.val 2 0 [] ∧ OnlyChanges [.host, .trust, .cnt] s t
        else (∃ r rest, s.host.queue = r :: rest ∧
           t.host.queue = { r with waiting := true, waitBeat := s.time.beat + 16, arg := 0 } :: rest) ∧
         (t.box p.val m.val).progress = 128 ∧ OnlyChanges [.host] s t)) ∧
     (s.dueCmd 0x32 = some (q, c) → q.port = p.val → q.mbox = m.val → ∃ t, exec .ckptNowEffect s = .next t ∧
       (if s.ck.enable = true ∧ s.flt.frozen = false ∧ s.ck.state ≠ 1 then
         (s.roleMoving 2 = true → Answers s t p.val m.val 8 0 [] ∧ RoleMissed s t 2 ∧ t.ck = s.ck ∧ t.pte = s.pte) ∧
         (s.roleMoving 2 = false → Answers s t p.val m.val 0 0 [] ∧ t.ck.lastEffective = q.waitBeat ∧ t.ck.step = s.plan.step ∧
           t.ck.state = (if s.ck.stream = true then 1 else 3) ∧ t.heldWrites = [])
        else Answers s t p.val m.val 2 0 [] ∧ t.ck = s.ck ∧ LogsOne s t (1, 0) 0x0030 1 ∧ t.pte = s.pte ∧
          CountersKept [CkptCnt.skipped] s t ∧ OnlyChanges [.host, .trust, .cnt] s t)))

/-- A CHECKPOINT entry that fires, enabled, not frozen, with no stream open and no copy in progress, is named by its beat and
write-protects exactly the pages of kinds 1, 6 and 7, none of them copied any more; one that fires otherwise protects nothing
and is counted and logged as skipped; one that fires while Sheepdog 2's role moves faults the module with cause SHEEPDOG (13
R322, 16 R406, 17 R421, R422). The stream of a checkpoint: it starts if both ports' lists hold their port streams and fails with
NO_SPACE otherwise; a failed closing read fails it with TARGET; once every closing read has completed the checkpoint is CLOSED,
logged, and a snapshot opens if one is due; a snapshot closes (17 R428 to R432, Table 17-6). -/
def Obligations.CheckpointsTakeEffectAndStream : Prop :=
  (∀ (s : State) (i : Nat) (e : Entry), s.dueKind 0x05 = some (i, e) → s.heldWrites = [] →
     ∃ t, exec .checkpoint s = .next t ∧ t.plan.next = s.plan.next + 1 ∧ t.mem = s.mem ∧
       (if s.ck.enable = true ∧ s.flt.frozen = false ∧ s.ck.state ≠ 1 ∧ s.roleMoving 2 = true then
         RoleMissed s t 2 ∧ t.ck = s.ck ∧ OnlyChanges [.plan, .cnt, .flt, .trust] s t
        else if s.ck.enable = true ∧ s.flt.frozen = false ∧ s.ck.state ≠ 1 then
         t.ck.lastEffective = s.entryBeat e ∧ t.ck.state = (if s.ck.stream = true then 1 else 3) ∧ t.ck.poisoned = false ∧
         t.ck.snapOpen = false ∧ t.ck.step = s.plan.step ∧
         (∀ g, t.pteOf g = if g ∈ s.pagesOfKind protectedKind then { s.pteOf g with wp := true, copied := false } else s.pteOf g) ∧
         t.shadowNext = [] ∧ t.cntGet CkptCnt.effective = min (s.cntGet CkptCnt.effective + 1) 0xFFFFFFFF ∧
         OnlyChanges [.ck, .pte, .shadowNext, .plan, .cnt, .host, .out, .fab] s t
        else t.ck = s.ck ∧ t.cntGet CkptCnt.skipped = min (s.cntGet CkptCnt.skipped + 1) 0xFFFFFFFF ∧
         t.trust.nextSeq = s.trust.nextSeq + 1 ∧ OnlyChanges [.trust, .plan, .cnt] s t)) ∧
  (∀ (p : Fin 2) (s : State),
     (s.ck.state = 1 → s.ck.started = false → ∃ t, exec .ckptStreamStart s = .next t ∧
       (if s.listHolds 0 0 (s.ckptPages 0).length = true ∧ s.listHolds 1 0 (s.ckptPages 1).length = true then
         t.ck.started = true ∧ t.ck.state = 1 ∧ t.freeIdx = s.freeIdx + 1 ∧ OnlyChanges [.ck, .free] s t
        else t.ck.state = 4 ∧ t.ck.failCode = 1 ∧ t.ck.started = false ∧ t.ck.lastClosed = s.ck.lastClosed ∧
          LogsOne s t (0, 2) 0x0030 4 ∧ OnlyChanges [.ck, .cnt, .trust, .host, .out] s t)) ∧
     (s.ck.state = 1 → s.ck.started = true → ∃ t, exec (.ckptTargetError p) s = .next t ∧ t.ck.state = 4 ∧ t.ck.failCode = 2 ∧
       t.ck.started = false ∧ t.mem = s.mem ∧ t.dev = s.dev ∧ t.cntGet CkptCnt.failed = min (s.cntGet CkptCnt.failed + 1) 0xFFFFFFFF) ∧
     (s.ck.state = 1 → s.ck.started = true → ∃ t, exec .ckptClose s = .next t ∧ t.ck.state = 2 ∧ t.ck.lastClosed = s.ck.lastEffective ∧
       t.ck.started = false ∧ t.ck.closedCount = s.ck.closedCount + 1 ∧
       t.ck.bytes = streamLength (s.ckptPages 0).length + streamLength (s.ckptPages 1).length ∧
       (t.ck.snapOpen = true ↔ s.ck.openEvery ≠ 0 ∧ (s.ck.closedCount + 1) % s.ck.openEvery = 0) ∧
       s.out <+: t.out ∧ t.cntGet CkptCnt.closed = min (s.cntGet CkptCnt.closed + 1) 0xFFFFFFFF ∧ t.mem = s.mem ∧
       OnlyChanges [.ck, .cnt, .trust, .host, .out, .pte, .lineErr, .plan] s t) ∧
     (s.ck.snapOpen = true → ∃ t, exec .snapshotClose s = .next t ∧ t.ck.snapOpen = false ∧ t.ck.state = s.ck.state ∧
       t.cntGet CkptCnt.snapsShipped = min (s.cntGet CkptCnt.snapsShipped + 1) 0xFFFFFFFF ∧ t.mem = s.mem ∧ s.out <+: t.out ∧
       OnlyChanges [.ck, .cnt, .trust, .out, .pte, .lineErr, .plan] s t))

/-- Copying back: where no shadow page is itself a page copied, every copied page of kinds 1, 6 and 7 takes the bytes of its shadow,
no other byte of memory changes, and no page stays write-protected or copied (17 R434 step 2). ROLLBACK to the latest effective
checkpoint leaves the part ARMED and primed with that checkpoint's step counter, every page writable, every slot EMPTY, every
sync counter 0, no checkpoint in force; any other ID is BAD_ARG (17 R434). RESTORE of sources that pass R436's checks does the
same from the sources' device block; sources that fail them are BAD_ARG with nothing loaded, a source read that fails leaves
RESTORE_BAD and TIMEOUT (17 R435 to R437). -/
def Obligations.StateGoesBack : Prop :=
  (∀ s : State,
     let copied := fun g => g ∈ s.pagesOfKind protectedKind ∧ (s.pteOf g).copied = true
     s.canonical → (∀ g h, copied g → copied h → (s.pteOf g).shadow ≠ h) →
     (∀ g i, copied g → i < 2 ^ 21 → s.copyBack.stored (g * 2 ^ 21 + i) = s.stored ((s.pteOf g).shadow * 2 ^ 21 + i)) ∧
     (∀ k, ¬ copied (k / 2 ^ 21) → s.copyBack.stored k = s.stored k) ∧
     (∀ g, s.copyBack.pteOf g = { s.pteOf g with wp := false, copied := false }) ∧ s.copyBack.heldWrites = []) ∧
  (∀ (p : Fin 2) (m : Fin 16) (ha hb : Tab Byte) (da db : Nat) (s : State) (c : Command), s.settled p.val m.val → c.bodyOk = true →
     let back := fun (t : State) (step : Nat) => t.dev.state = .armed ∧ t.dev.primed = true ∧ t.dev.stopped = false ∧ t.ck.state = 0 ∧
       t.plan.step = step ∧ (∀ g, (t.pteOf g).wp = false ∧ (t.pteOf g).copied = false) ∧ t.heldWrites = [] ∧
       (∀ i, t.slot i = Slot.empty) ∧ (∀ i, t.ctr i = Ctr.zero) ∧ t.unitsIdle = true ∧ t.flt.frozen = false ∧ t.time = s.time ∧
       t.fab = { s.fab with unacked := [] } ∧ t.pwr = s.pwr
     (s.changing p.val m.val 0x34 = some c → ∃ t, exec (.rollback p m) s = .next t ∧
       (if c.field 0 8 = s.ck.lastEffective ∧ s.ck.state ≠ 0 then
         Answers s t p.val m.val 0 0 [] ∧ back t (leNat (Tab.range 0 s.ck.device 0 8)) ∧
         t.cntGet CkptCnt.rollbacks = min (s.cntGet CkptCnt.rollbacks + 1) 0xFFFFFFFF
        else Answers s t p.val m.val 3 0 [] ∧ OnlyChanges [.host, .trust] s t)) ∧
     (s.changing p.val m.val 0x33 = some c → s.restoreMay = true → ∃ t, exec (.restore p m ha hb) s = .next t ∧
       (if s.restoreOk c ha hb = true then
         Answers s t p.val m.val 0 0 [] ∧ back t (leNat (sourceBytes ha (c.sources 0).1 0x100000 8)) ∧ t.ck.restoreBad = false ∧
         t.cntGet CkptCnt.restores = min (s.cntGet CkptCnt.restores + 1) 0xFFFFFFFF
        else Answers s t p.val m.val 3 0 [] ∧ OnlyChanges [.host, .trust] s t)) ∧
     (s.changing p.val m.val 0x33 = some c → s.restoreMay = true → ∃ t, exec (.restoreSourceError p m ha hb da db) s = .next t ∧
       (if s.restoreOk c ha hb = true then
         Answers s t p.val m.val 7 0 [] ∧ t.ck.restoreBad = true ∧ t.dev = s.dev ∧ t.time = s.time
        else Answers s t p.val m.val 3 0 [] ∧ OnlyChanges [.host, .trust] s t)))

/-! ## Links (15) -/

/-- FLIT_RX at a link that carries the flit's lane: a flit whose FEC or CRC fails is counted, starts the discarding of every later
one and is answered by one NAK with the count received; a good data flit at a link that discards nothing is counted, its buffer
freed if the flit ends at this module, and nothing leaves (15 R368, R369). A NAK takes the flits that the peer has counted off
the replay buffer and sends every other one again, in order, before any new flit; at the eighth of the same count the link
retrains instead. A control flit follows idle flits in the slots left of 40, carries the credits freed, the count received and
the NAK flag, and starts their next count at 0; one received gives credits back, and with its NAK flag set acts as a NAK too.
Flits that waited go on (15 R368 to R370, R372). FLIT_FORWARD: a flit passes from its ingress to the link of its route in that
hop's class, if that link carries its lane, has a credit for it, a slot and room for its replay, with its payload untouched and
a CRC of its own; memory and the mesh are not entered; a spare without an identity forwards nothing (15 R369, R372, R377 to
R379, R393). -/
def Obligations.FlitsMove : Prop :=
  (∀ (port : Fin 16) (f : Flit) (fecOk : Bool) (s : State), f.ok = true → s.carries port.val f.lane = true →
     let q := s.port port.val
     ∃ t, exec (.flitRx port f fecOk) s = .next t ∧ (∀ p, p ≠ port.val → t.port p = s.port p) ∧
       (fecOk = false ∨ f.crc ≠ flitCrc f → t.port port.val = { q with discarding := true } ∧
         t.out = s.out ++ (if q.discarding = true then [] else [.nak port.val q.rxCount]) ∧
         CountersKept [LinkCnt.crcErr (port.val % 8), LinkCnt.fecUncorr (port.val % 8)] s t ∧ OnlyChanges [.fab, .cnt, .out] s t) ∧
       (fecOk = true → f.crc = flitCrc f → isDataFlit f = true → q.discarding = false →
         (t.port port.val).rxCount = (q.rxCount + 1) % 2 ^ 16 ∧ (t.port port.val).discarding = false ∧
         t.port port.val = { q with rxCount := (t.port port.val).rxCount, freed := (t.port port.val).freed } ∧
         (f.dclass < 3 → (t.port port.val).freed.getD (3 * f.lane + f.dclass) 0 =
           q.freed.getD (3 * f.lane + f.dclass) 0 + (if s.endsHere f = true then 1 else 0)) ∧
         t.cntGet (LinkCnt.flitsRx (port.val % 8)) = min (s.cntGet (LinkCnt.flitsRx (port.val % 8)) + 1) 0xFFFFFFFFFFFFFFFF ∧
         CountersKept [LinkCnt.flitsRx (port.val % 8)] s t ∧ OnlyChanges [.fab, .cnt] s t) ∧
       (fecOk = true → f.crc = flitCrc f → isDataFlit f = false → q.discarding = false →
         t.port port.val = q ∧ OnlyChanges [.fab] s t)) ∧
  (∀ (port : Fin 16) (credits : List Nat) (count : Nat) (s : State), count < 2 ^ 16 → s.carries port.val 7 = true →
     let q := s.port port.val
     let again := if q.nakCount = count ∧ 0 < q.nakTimes then q.nakTimes + 1 else 1
     (∃ (t : State) (kept sent : List Flit), exec (.nakRx port count) s = .next t ∧ kept <:+ q.unacked ∧
       (∀ k, k ≤ q.unacked.length → q.txCount = (count + (q.unacked.length - k)) % 2 ^ 16 → q.unacked.length < 2 ^ 15 →
         kept = q.unacked.drop k) ∧
       (t.port port.val).unacked = kept ++ sent ∧
       (again < 8 → t.out = s.out ++ kept.map (OutEvent.flit port.val) ++ sent.map (OutEvent.flit port.val) ∧
         (t.port port.val).nakTimes = again ∧ (t.port port.val).state = q.state) ∧
       (8 ≤ again → sent = [] ∧ t.out = s.out ∧ (t.port port.val).state = 3 ∧ (t.port port.val).nakTimes = 0) ∧
       t.cntGet (LinkCnt.replays (port.val % 8)) = min (s.cntGet (LinkCnt.replays (port.val % 8)) + 1) 0xFFFFFFFF ∧
       CountersKept [LinkCnt.replays (port.val % 8), LinkCnt.retrains (port.val % 8), LinkCnt.flitsTx (port.val % 8)] s t ∧
       PortsOnly [port.val] s t ∧ OnlyChanges [.fab, .cnt, .out] s t) ∧
     (∃ (t : State) (sent : List Flit), exec (.controlFlitSend port) s = .next t ∧
       t.out = s.out ++ (if q.sinceControl < 40 then [.idleFlits port.val (40 - q.sinceControl)] else []) ++
         [.controlFlit port.val (fit 0 24 q.freed) q.rxCount q.discarding] ++ sent.map (OutEvent.flit port.val) ∧
       (t.port port.val).freed = [] ∧ (t.port port.val).sinceControl = sent.length ∧
       (t.port port.val).unacked = q.unacked ++ sent ∧ (t.port port.val).rxCount = q.rxCount ∧
       CountersKept [LinkCnt.flitsTx (port.val % 8)] s t ∧ PortsOnly [port.val] s t ∧ OnlyChanges [.fab, .cnt, .out] s t) ∧
     (credits.length = 24 → ∃ (t : State) (kept sent : List Flit), exec (.controlFlitRx port credits count false) s = .next t ∧
       kept <:+ q.unacked ∧ (t.port port.val).unacked = kept ++ sent ∧ t.out = s.out ++ sent.map (OutEvent.flit port.val) ∧
       (∀ i, i < 24 → (t.port port.val).used.getD i 0 =
         q.used.getD i 0 - credits.getD i 0 + (sent.filter (fun f => decide (creditIx f.lane f.dclass = i))).length) ∧
       CountersKept [LinkCnt.flitsTx (port.val % 8)] s t ∧ PortsOnly [port.val] s t ∧ OnlyChanges [.fab, .cnt, .out] s t) ∧
     (credits.length = 24 → exec (.controlFlitRx port credits count true) s = exec (.nakRx port count) (s.setPort port.val
       { q.acked count with used := (List.range 24).map (fun i => q.used.getD i 0 - credits.getD i 0) }))) ∧
  (∀ (ingress : Fin 16) (src : Nat) (f : Flit) (s : State) (e : Nat × Nat), src < 2 ^ 13 → f.ok = true →
     s.carries ingress.val f.lane = true → s.forwardHop src f = some e →
     ∃ t, exec (.flitForward ingress src f) s = .next t ∧
       (if s.bareSpare = false ∧ (s.port e.1).open f.lane e.2 = true then
         ∃ g, Emits s t (.flit e.1 g) ∧ g.crc = flitCrc g ∧ { g with crc := f.crc } = { f with dclass := e.2 } ∧
           (t.port e.1).unacked = (s.port e.1).unacked ++ [g] ∧ (t.port e.1).txCount = ((s.port e.1).txCount + 1) % 2 ^ 16 ∧
           PortsOnly [e.1, ingress.val] s t ∧ (s.endsHere f = true → PortsOnly [e.1] s t) ∧
           CountersKept [LinkCnt.flitsTx (e.1 % 8)] s t ∧ OnlyChanges [.fab, .cnt, .out] s t
        else t = s))

/-- LINK_TRAIN_DONE, PEER_IDENTITY_RX, PORT_RETRAIN and PORT_FAILED complete. A link in training that reaches a width it can have is
UP at that width, DEGRADED where ×16 is due, and announces its module; a fresh one starts at counts 0, one that retrained keeps
its counts and sends its replay buffer again; its delay is to be measured. An identity that is not the one expected makes it
MISWIRED, the expected one UP; a retrain is counted, and one of 10 ms, or the sixth in 1,000,000 beats, fails the link and
latches cause LINK (15 R365, R366, R370, R376). -/
def Obligations.PortsTrainAndFail : Prop :=
  ∀ (port : Fin 16) (peerPort : Fin 8) (width : Fin 4) (modId role fold : Nat) (s : State),
    let q := s.port port.val
    (∀ (p : Fin 8) (second : Bool), port.val = linkOf p second → s.dev.state ≠ .cold → s.inTraining port.val = true →
      s.widthOk port.val width.val = true → ∃ (t : State) (sent : List Flit), exec (.linkTrainDone p width second) s = .next t ∧
        (t.port port.val).state = 2 ∧ (t.port port.val).width = width.val ∧ (t.port port.val).split = s.isSplit ∧
        (t.port port.val).degraded = (s.dueWide port.val && decide (width.val ≠ 3)) ∧
        (t.port port.val).unacked = (if q.state = 3 then q.unacked else []) ++ sent ∧
        (q.state ≠ 3 → (t.port port.val).rxCount = 0 ∧ (t.port port.val).txCount = sent.length % 2 ^ 16) ∧
        t.out = s.out ++ (if q.state = 3 then q.unacked.map (OutEvent.flit port.val) else []) ++
          .identity port.val s.fab.modId s.fab.role s.fab.fold :: sent.map (OutEvent.flit port.val) ∧
        (if s.dueWide port.val = true ∧ width.val ≠ 3 ∧ s.isTorusPort port.val = true then LogsOne s t (3, 0) 0x0080 port.val
         else t.trust = s.trust) ∧
        t.time = { s.time with delaySent := t.time.delaySent } ∧ Tab.get 0 t.time.delaySent port.val = 0 ∧
        CountersKept [LinkCnt.flitsTx (port.val % 8)] s t ∧ PortsOnly [port.val] s t ∧
        OnlyChanges [.fab, .trust, .out, .time, .cnt] s t) ∧
    (modId < 2 ^ 12 → role < 2 → fold < 2 ^ 9 → q.state = 2 ∨ q.state = 5 →
      ∃ (t : State) (sent : List Flit), exec (.peerIdentityRx port modId role fold peerPort) s = .next t ∧
        (t.port port.val).state =
          (if (role, if role = 0 then modId else fold, peerPort.val) ∈ s.expectedPeers port.val then 2 else 5) ∧
        (t.port port.val).peer = (if role = 0 ∨ modId ≠ 0xFFF then modId else 0x1000 + fold) ∧
        (t.port port.val).peerPort = peerPort.val ∧ (t.port port.val).width = q.width ∧
        (t.port port.val).unacked = q.unacked ++ sent ∧ t.out = s.out ++ sent.map (OutEvent.flit port.val) ∧
        CountersKept [LinkCnt.flitsTx (port.val % 8)] s t ∧ PortsOnly [port.val] s t ∧ OnlyChanges [.fab, .cnt, .out] s t) ∧
    (q.state = 2 ∨ q.state = 5 → ∃ t, exec (.portRetrain port) s = .next t ∧
      t.port port.val = { q with state := 3, retrainBeat := s.time.beat, nakTimes := 0, retrains := (t.port port.val).retrains } ∧
      (t.port port.val).retrains = (q.retrains.filter (fun b => decide (s.time.beat < b + 1000000))) ++ [s.time.beat] ∧
      t.cntGet (LinkCnt.retrains (port.val % 8)) = min (s.cntGet (LinkCnt.retrains (port.val % 8)) + 1) 0xFFFFFFFF ∧
      CountersKept [LinkCnt.retrains (port.val % 8)] s t ∧ PortsOnly [port.val] s t ∧ OnlyChanges [.fab, .cnt] s t) ∧
    (q.state = 3 → q.retrainBeat + 10000 ≤ s.time.beat ∨ 6 ≤ q.retrains.length → ∃ t, exec (.portFailed port) s = .next t ∧
      t.port port.val = { q with state := 4 } ∧ t.flt.pendingEntry = true ∧
      (s.flt.cause = 0 → t.flt.cause = 8 ∧ t.flt.detail = port.val % 8) ∧
      (s.flt.cause ≠ 0 → t.flt.cause = s.flt.cause ∧ t.flt.detail = s.flt.detail) ∧
      t.time = { s.time with parent := if s.bareSpare = true ∧ s.time.parent = port.val then 8 else s.time.parent } ∧
      PortsOnly [port.val] s t ∧ OnlyChanges [.fab, .flt, .trust, .cnt, .time] s t)

/-- ECHO_RX, ECHO_ANSWER_RX, ECHO_TIMEOUT, REDIRECT_SET, REMAP_ENTRY_RX, REMAP_ADOPT and TAKEOVER_EFFECTIVE complete. An ECHO is
answered whatever the module's state; an answer, or 100 µs without one, makes the takeover's entry, ROLE moved or DEAD, known
along the time tree; a dead identity beside another is refused with NO_SPACE. A REDIRECT_SET fences every core of the module and
sends what is addressed to it over the wired port; a remap entry is kept until its beat and sent on along the tree; at that
beat, with no plan running and the lanes empty, it enters the table and is logged, and a module that has not received it faults;
the spare then holds the identity and its SPARE_TAKEOVER ends with OK (15 R395 to R398, 19 R476; bytes of lane-7 management: log
137). -/
def Obligations.TakeoverRuns : Prop :=
  ∀ (port : Fin 16) (src ident : Nat) (e : RemapEntry) (ix : Fin 64) (tk : Takeover) (s : State), src < 2 ^ 13 → ident < 2 ^ 12 →
    let spread := fun (t : State) (tko : Option Takeover) (r : RemapEntry) (l : List Nat) =>
      { t.fab with ports := s.fab.ports } = { s.fab with takeover := tko, pendingRemap := s.fab.pendingRemap ++ [r] } ∧
      s.out <+: t.out ∧ (∀ p ∈ l, OutEvent.remapEntry p r ∈ t.out) ∧ OnlyChanges [.fab, .out, .cnt] s t
    let answers := fun (t : State) (status detail : Nat) =>
      ∀ q rest, s.host.queue = q :: rest → q.waiting = true → s.settled q.port q.mbox → (s.box q.port q.mbox).queue ≠ [] →
        Answers s t q.port q.mbox status detail []
    (s.carries port.val 7 = true → ∃ t, exec (.echoRx port src) s = .next t ∧
      Hands s t port.val (.echoAnswer port.val src) [cardFlit 7 7 (s.linkDst port.val) (mgmtPayload 2 [src])] ∧
      PortsOnly [port.val] s t ∧ CountersKept [LinkCnt.flitsTx (port.val % 8)] s t ∧ OnlyChanges [.fab, .out, .cnt] s t) ∧
    (s.fab.takeover = some tk → tk.entry = none → s.time.beat ≤ tk.echoBeat + 100 → ∃ t, exec .echoAnswerRx s = .next t ∧
      spread t (some { tk with entry := some (s.takeoverEntry tk false) }) (s.takeoverEntry tk false) s.treeLinks ∧
      OutEvent.redirectSet tk.port tk.ident ∈ t.out) ∧
    (s.fab.takeover = some tk → tk.entry = none → tk.echoBeat + 100 ≤ s.time.beat → s.deadClash tk.ident = false →
      ∃ t, exec .echoTimeout s = .next t ∧
        spread t (some { tk with entry := some (s.takeoverEntry tk true) }) (s.takeoverEntry tk true) s.treeLinks) ∧
    (s.fab.takeover = some tk → tk.entry = none → tk.echoBeat + 100 ≤ s.time.beat → s.deadClash tk.ident = true →
      ∃ t, exec .echoTimeout s = .next t ∧ t.fab = { s.fab with takeover := none } ∧ answers t 6 0 ∧ OnlyChanges [.fab, .host] s t) ∧
    (s.fab.role = 0 → 6 ≤ port.val → port.val < 8 → s.carries port.val 7 = true → ∃ t, exec (.redirectSet port src) s = .next t ∧
      t.fab = { s.fab with redirect := some port.val } ∧
      (∀ i, i < 210 → s.physOf i < 240 → Tab.get false t.geo.fence (s.physOf i) = true) ∧ t.dev = s.dev ∧ t.time = s.time ∧
      t.host = s.host) ∧
    (e.ok = true → e.valid = true → s.carries port.val 7 = true → e ∉ s.fab.pendingRemap → e ∉ s.remaps →
      ∃ t, exec (.remapEntryRx port e) s = .next t ∧ spread t s.fab.takeover e (s.treeLinks.filter (fun p => decide (p ≠ port.val))) ∧
        (∀ x ∈ t.out.drop s.out.length, (∃ p, p ≠ port.val ∧ x = .remapEntry p e) ∨ ∃ p f, x = .flit p f)) ∧
    ((Tab.get emptyRemap s.fab.remap ix.val).valid = false → s.dev.state.fromIdle = true → s.remapOf ident = none →
      ∃ t, exec (.remapAdopt { index := ix, ident := ident }) s = .next t ∧
        (s.fab.pendingRemap.find? (fun e => e.ident == ident) = none → t.flt.pendingEntry = true ∧
          (s.flt.cause = 0 → t.flt.cause = 0x0A) ∧ OnlyChanges [.flt, .trust, .cnt] s t) ∧
        (∀ r, s.fab.pendingRemap.find? (fun e => e.ident == ident) = some r →
          if r.effective ≤ s.time.beat ∧ s.dev.state ≠ .running ∧ s.lanesEmpty = true then
            t.fab = { s.fab with pendingRemap := s.fab.pendingRemap.erase r, remap := Tab.set emptyRemap s.fab.remap ix.val r } ∧
            LogsOne s t (3, 0) 0x0040 ix.val ∧ OnlyChanges [.fab, .trust] s t
          else t = s)) ∧
    (∀ r, s.fab.takeover = some tk → tk.entry = some r → tk.effective ≤ s.time.beat → r ∈ s.remaps →
      ∃ t, exec .takeoverEffective s = .next t ∧ t.fab = { s.fab with identity := tk.ident, modId := tk.ident, takeover := none } ∧
        t.dev = { s.dev with enlisted := false } ∧ answers t 0 (b2n r.dead + 2 * r.home) ∧
        OnlyChanges [.fab, .dev, .host, .trust] s t)

/-- XSEND and XSIGNAL whose cycle 0 has come run: each is in progress on its port's stream with the time of Table 15-7; the message,
of BYTES bytes read at the source or of none, with the descriptor's destination, signal and address, goes to the first link of
the route in that hop's class, or is delivered here if the route has no hop; no byte of memory changes but those so delivered
(15 R382). -/
def Obligations.LinkCommandsSend : Prop :=
  ∀ (port : Fin 8) (d : Nat) (s : State),
    let c := linkCmd d
    let route := s.path s.fabricAddr c.dstMod
    let m := fun (kind : Nat) (data : List Byte) =>
      ({ lane := c.lane, kind := kind, dst := c.dstMod, src := s.fabricAddr, sigId := c.rsig, sigInc := c.rinc,
         addr := bits c.dst 0 48, num := bits c.dst 48 8, space := bits c.dst 56 3, data := data } : LinkMsg)
    let sent := fun (t : State) (kind n : Nat) =>
      (∃ f, StartsWith s t (218 + port.val) d f ∧ f.cycles = s.linkCycles port.val c route.length ∧ f.planCyc = c.planCyc ∧
        f.slackCyc = c.slackCyc ∧ f.statKey = some (spaceKey linkSpace (256 * c.stat)) ∧ f.outs = []) ∧
      (∀ h l, route = h :: l →
        Hands s t h.port (.link h.port (m kind (s.read (locOfWord c.src) n))) (flitsOf (m kind (s.read (locOfWord c.src) n)) h.cls) ∧
        t.mem = s.mem ∧ PortsOnly [h.port] s t) ∧
      (route = [] → s.out <+: t.out ∧ { t.fab with unacked := s.fab.unacked } = s.fab ∧ BytesKept [(locOfWord c.dst, n)] s t) ∧
      t.dev = s.dev ∧ t.time = s.time ∧ t.acts = s.acts ∧ t.ck = s.ck ∧ t.host = s.host
    (s.readyLink port.val 1 = some d → ∃ t, exec (.xsend port) s = .next t ∧ sent t 1 c.bytes) ∧
    (s.readyLink port.val 2 = some d → ∃ t, exec (.xsignal port) s = .next t ∧ sent t 2 0)

/-- XMCAST and XREDUCE whose cycle 0 has come run. XMCAST sends one message, addressed to the last of the next HOPS modules in its
port's direction, towards the first of them (log 139); XREDUCE that is not the last of its chain sends its partial to the next
module, the last one writes it; its CODE says which of its waits were short, 1 its own and 2 the upstream's, and what is short
is left out of the sum and its modules are marked late (15 R383 to R385). -/
def Obligations.CollectivesRun : Prop :=
  ∀ (port : Fin 8) (d : Nat) (s : State),
    let c := linkCmd d
    let own := s.ctrShort (dW0 d)
    let up := !c.first && s.ctrShort (dW1 d)
    (s.readyLink port.val 3 = some d → ∃ t, exec (.xmcast port) s = .next t ∧
      (∃ f, StartsWith s t (218 + port.val) d f ∧ f.cycles = s.linkCycles port.val c c.hops) ∧
      (let e := s.ringExit s.fabricAddr port.val (s.onward port.val 1)
       ∃ msg : LinkMsg, msg.kind = 4 ∧ msg.dst = s.onward port.val c.hops ∧ msg.src = s.fabricAddr ∧
        msg.data = s.read (locOfWord c.src) c.bytes ∧ msg.sigId = c.rsig ∧ msg.sigInc = c.rinc ∧ msg.addr = bits c.dst 0 48 ∧
        Hands s t e.1 (.link e.1 msg) (flitsOf msg e.2) ∧ PortsOnly [e.1] s t) ∧
      t.mem = s.mem ∧ t.dev = s.dev ∧ t.time = s.time) ∧
    (s.readyLink port.val 4 = some d → ∃ t f, exec (.xreduce port) s = .next t ∧ StartsWith s t (218 + port.val) d f ∧
      f.cycles = s.linkCycles port.val c 1 ∧ (own || up → f.status % 16 = b2n own + 2 * b2n up) ∧
      t.cntGet PlanCnt.lateMarked = min (s.cntGet PlanCnt.lateMarked + (if own then 1 else 0) + (if up then c.pos else 0)) 0xFFFFFFFF ∧
      (c.last = false → t.mem = s.mem ∧
        (let e := s.ringExit s.fabricAddr port.val (s.peerIn port.val)
         ∃ msg : LinkMsg, msg.kind = 3 ∧ msg.lane = 0 ∧ msg.dst = s.peerIn port.val ∧ msg.addr = 256 * c.rbuf ∧ msg.sigId = c.rsig ∧
          Hands s t e.1 (.link e.1 msg) (flitsOf msg e.2) ∧ PortsOnly [e.1] s t ∧
          (c.tr = false → s.carryAt port.val c = none → own = false → up = false → c.first = false →
            msg.data = xBytes c.pfmt (xAdd
              (xVals c.pfmt (s.bytesAt (spaceKey (redSpace (oppositePort port.val)) (256 * c.rbuf)) c.bytes))
              (xVals c.cfmt (s.read (locOfWord c.src) c.cBytes)))))) ∧
      (c.last = true → t.out = s.out ∧ t.fab = s.fab ∧
        ∃ n, n ≤ c.bytes + 3 ∧ (c.bytes % xWidth c.pfmt = 0 → n ≤ c.bytes) ∧ BytesKept [(locOfWord c.dst, n)] s t) ∧
      t.dev = s.dev ∧ t.time = s.time)

/-- A message for this module is written at its location; once its bytes have landed it is signalled with no repetition and
acknowledged, and while a page copy holds them it is not; one for a failed module goes on to its spare; one for another module
is not touched here. A multicast is written at every module it passes and goes on unchanged in its direction until its last
receiver; a spare without an identity takes none. A partial lies at its offset of the reduction buffer of its direction's port;
one whose hop has started without it is counted late (15 R382 to R385, R393, R395; direction at a spare: log 139). The first
waiting contribution of a port whose shortfall has been covered is copied into its carry area, once, and counted; nothing is
copied while its wait is short, and none that is to be dropped or that the period reset left uncovered (15 R386). -/
def Obligations.LinkMessagesArrive : Prop :=
  (∀ (port : Fin 16) (m : LinkMsg) (s : State), m.ok = true → s.portUp port.val = true →
     let key := locKey m.addr m.num m.space
     let lies := fun (t : State) => BytesKept [(key, m.data.length)] s t ∧
       (2 ^ 48 ≤ key → s.spaceFenced (key / 2 ^ 48) = false → key % 2 ^ 48 + m.data.length ≤ spaceSize (key / 2 ^ 48) →
         ∀ i, i < m.data.length → t.stored (key + i) = m.data.getD i 0)
     let lands := s.fab.unacked = [] ∧ s.heldWrites = [] ∧ (m.data = [] ∨ 2 ^ 48 ≤ key ∨ s.writable key m.data.length)
     let passes := fun (t : State) (w : Nat) =>
       (∃ cls, Hands s t w (.link w m) (flitsOf m cls)) ∧ PortsOnly [w] s t ∧ OnlyChanges [.fab, .out, .cnt] s t
     (∃ t, exec (.messageRx port m) s = .next t ∧
       (∀ w, s.redirectOf m.dst = some w → passes t w) ∧
       (s.redirectOf m.dst = none → m.dst = s.fabricAddr → lies t ∧ { t.fab with unacked := s.fab.unacked } = s.fab ∧
         (lands → Emits s t (.ack port.val m.src) ∧ t.fab = s.fab) ∧
         (s.fab.unacked = [] → m.data ≠ [] → key < 2 ^ 39 → key % 2 ^ 21 + m.data.length ≤ 2 ^ 21 →
           (s.pteOf (pageOf key)).valid = true → (s.pteOf (pageOf key)).ro = false → (s.pteOf (pageOf key)).wp = true →
           t.out = s.out ∧ t.mem = s.mem ∧ t.fab.unacked.length = 1) ∧
         t.dev = s.dev ∧ t.time = s.time ∧ t.unit = s.unit) ∧
       (s.redirectOf m.dst = none → m.dst ≠ s.fabricAddr → t = s)) ∧
     (∃ t, exec (.mcastRx port m) s = .next t ∧
       (s.bareSpare = true → t = s) ∧
       (∀ w, s.bareSpare = false → s.fab.redirect = some w → if w = port.val then t = s else passes t w) ∧
       (s.bareSpare = false → s.fab.redirect = none → lies t ∧ { t.fab with unacked := s.fab.unacked, ports := s.fab.ports } = s.fab ∧
         (m.dst = s.fabricAddr → lands → Emits s t (.ack port.val m.src) ∧ t.fab = s.fab) ∧
         (m.dst ≠ s.fabricAddr →
           let p := s.mcastPort m.src m.dst
           let e := s.ringExit m.src p (s.onward p 1)
           OutEvent.link e.1 m ∈ t.out ∧ (lands → OutEvent.ack port.val m.src ∈ t.out) ∧ (∀ q, q ≠ e.1 → t.port q = s.port q)) ∧
         t.dev = s.dev ∧ t.time = s.time ∧ t.unit = s.unit)) ∧
     (∃ t, exec (.partialRx port m) s = .next t ∧
       (∀ w, s.redirectOf m.dst = some w → passes t w) ∧
       (s.redirectOf m.dst = none → m.dst = s.fabricAddr →
         let p := s.ringEntry port.val m.src
         let late := s.plan.shortHops.find? (fun e => e.1 == p && e.2.1 == m.addr)
         (s.fab.unacked = [] → Emits s t (.ack port.val m.src) ∧ t.fab = s.fab) ∧
         (m.addr + m.data.length ≤ 0x400000 → ∀ i, i < m.data.length → t.stored (spaceKey (redSpace p) m.addr + i) = m.data.getD i 0) ∧
         (∀ k, ¬ InRanges [(spaceKey (redSpace p) m.addr, m.data.length)] k → t.stored k = s.stored k) ∧
         t.plan.shortHops = (match late with
           | some e => s.plan.shortHops.erase e
           | none => s.plan.shortHops) ∧
         t.cntGet (LinkCnt.lateIn (oppositePort p)) = (if late.isSome then min (s.cntGet (LinkCnt.lateIn (oppositePort p)) + 1) 0xFFFFFFFF
           else s.cntGet (LinkCnt.lateIn (oppositePort p))) ∧
         OnlyChanges [.mem, .plan, .cnt, .out, .fab] s t) ∧
       (s.redirectOf m.dst = none → m.dst ≠ s.fabricAddr → t = s))) ∧
  (∀ (port : Fin 8) (s : State) (y : Carry),
     s.plan.carries.find? (fun y => y.port == port.val && !y.copied && !y.drop && !y.lost && !s.ctrShort y.wait) = some y →
     ∃ t, exec (.carryCopy port) s = .next t ∧ { y with copied := true } ∈ t.plan.carries ∧
       (∀ x ∈ s.plan.carries, x ≠ y → x.drop = false → x ∈ t.plan.carries) ∧ y ∉ t.plan.carries ∧ BytesKept [(y.addr, y.bytes)] s t ∧
       t.cntGet (LinkCnt.carries port.val) = min (s.cntGet (LinkCnt.carries port.val) + 1) 0xFFFFFFFF ∧
       t.cntGet PlanCnt.carried = min (s.cntGet PlanCnt.carried + (if y.trailer then 0 else 1)) 0xFFFFFFFF ∧
       t.unit = s.unit ∧ t.out = s.out ∧ t.dev = s.dev ∧ t.time = s.time ∧ t.fab = s.fab)

/-! ## Units (04 to 10, 13) -/

/-- An Ox command of each of the three stationary modes, at its stream's head with its waits met, starts. Once its feeders have the
bytes that its effective extents ask of its queues, its completion comes after Table 04-5's cycles; until then it takes in what
comes. An output of extent 0 writes nothing; LAST = 0 leaves the partial words and their header at ACC_ADDR, LAST = 1 the first
tile's words in the bank BANK_0, whose token goes to the Goat with tag 0, if the bank's token is with the Ox (04 R82 to R87,
R91, R107); nothing outside the Ox's scratchpad and banks changes (NEXT_CHUNK of a part chunk, CHUNK_ORDER's operands: log 133).
Bank tokens and queue credits: a passed token arrives with its tag, and a command that waited for it alone goes on; a returned
one lets the Ox's next tile into its bank, whose token goes to the Goat again, or stays with the Ox; consumed flits give their
credits back, and flits that waited for them follow (04 R86, R91, 05 R119, R120, 12 R302, R303). -/
def Obligations.OxCommandsRunAndTokensMove : Prop :=
  (∀ (x : Fin 120) (d : Nat) (s : State) (fa fb : Fmt), ∀ im ∈ [(Instr.oxWs x, 0), (Instr.oxOs x, 1), (Instr.oxIs x, 2)],
     s.readyOx x.val im.2 = some d → fmtOfByte (oxCmd d).fmtA = some fa → fmtOfByte (oxCmd d).fmtB = some fb →
     let c := oxCmd d
     let cnt := s.shapeCount (oxKey x.val c.swAddr)
     let e := c.extents cnt
     let ext := c.streamed e.1 e.2.1
     let code := if ext = 0 then 0 else s.oxCode x.val c ext e.2.2.1
     let need := s.oxNeeds x.val c fa fb cnt
     let fed := (s.updQueue (2 * x.val) (fun q => q.feed need.1)).updQueue (2 * x.val + 1) (fun q => q.feed need.2)
     let o := fed.oxRun x.val c fa fb cnt code
     let part := oxKey x.val c.accAddr
     ∃ t f, exec im.1 s = .next t ∧ StartsWith s t x.val d f ∧ f.planCyc = c.planCyc ∧ f.slackCyc = c.slackCyc ∧
       f.statKey = some (oxKey x.val c.statAddr) ∧
       (need.1 ≤ (fed.queue (2 * x.val)).fed.length → need.2 ≤ (fed.queue (2 * x.val + 1)).fed.length →
         f.work = none ∧ f.cycles = o.cycles ∧ f.code = code ∧
         (c.qA = false → c.qB = false → ∀ k, { t.queue k with fed := (s.queue k).fed } = s.queue k) ∧
         (ext = 0 → t.mem = s.mem ∧ t.unit.tokens = s.unit.tokens) ∧
         (c.last = false → ext ≠ 0 → 256 * c.accAddr + 256 + 65536 * c.tiles o.mEff o.nEff ≤ 0x400000 →
           t.natAt part 8 = (c.chunk0 + o.kEff / 128) % 2 ^ 29 + 2 ^ 31 + ext * 2 ^ 32 ∧
           ∀ n p, n < c.tiles o.mEff o.nEff → p < 16384 →
             t.natAt (part + 256 + 65536 * n + 4 * p) 4 = ((fed.oxTileWords x.val c o n).getD p 0).toNat) ∧
         (c.last = true → ext ≠ 0 → (∀ y ∈ s.unit.tiles, y.ox ≠ x.val) → s.token (2 * x.val + c.bank0) = .atOx →
           t.token (2 * x.val + c.bank0) = .toGoat 0 ∧
           ∀ p, p < 16384 → t.natAt (spaceKey (bankSpace x.val c.bank0) (4 * p)) 4 = ((fed.oxTileWords x.val c o 0).getD p 0).toNat) ∧
         (∀ k, k / 2 ^ 48 ≠ oxSpace x.val → k / 2 ^ 48 < 0x6000 → t.stored k = s.stored k) ∧ OnlyChanges [.mem, .unit] s t) ∧
       ((fed.queue (2 * x.val)).fed.length < need.1 ∨ (fed.queue (2 * x.val + 1)).fed.length < need.2 →
         f.work.isSome = true ∧ (∀ k, t.queue k = fed.queue k) ∧ OnlyChanges [.unit] s t)) ∧
  (∀ (x : Fin 120) (b : Fin 2) (s : State),
     let k := 2 * x.val + b.val
     let u := 120 + x.val / 2
     (∀ tag, s.token k = .toGoat tag → ∃ t, exec (.bankTokenPass x b) s = .next t ∧
       (s.flt.pendingEntry = true ∨ s.parked u = none → t.token k = .atGoat tag ∧
         (∀ j, j ≠ k → t.token j = s.token j) ∧ t.unit = { s.unit with tokens := t.unit.tokens } ∧ OnlyChanges [.unit] s t) ∧
       (∀ w, s.flt.pendingEntry = false → s.parked u = some w → w.code = 0 →
         (∀ y ∈ w.banks, (if y.1 = k then some tag else heldTag (s.bankToken y.1)) = some y.2.2) → t.parked u = none)) ∧
     (s.token k = .toOx → ∃ t, exec (.bankTokenReturn x b) s = .next t ∧
       (s.unit.tiles.find? (fun y => y.ox == x.val) = none → t.token k = .atOx ∧ t.mem = s.mem) ∧
       (∀ y, s.unit.tiles.find? (fun y => y.ox == x.val) = some y → y.bank = b.val → y.words.length = 16384 →
         t.token k = .toGoat y.tag ∧
         ∀ p, p < 16384 → t.natAt (spaceKey (bankSpace x.val b.val) (4 * p)) 4 = (y.words.getD p 0).toNat) ∧
       (∀ j, j / 2 ^ 48 < 0x6000 → t.stored j = s.stored j) ∧ OnlyChanges [.mem, .unit] s t) ∧
     (∃ t, exec (.queueCreditReturn x b) s = .next t ∧
       (s.parked x.val = none → t.queue k =
           ({ s.queue k with returning := 0, credits := (s.queue k).credits + (s.queue k).returning } : FeedQueue).send
             (s.spaceFenced (oxSpace x.val)) ∧
         (∀ j, j ≠ k → t.queue j = s.queue j) ∧ t.mem = s.mem) ∧
       OnlyChanges [.unit, .mem, .geo, .free] s t))

/-- A stream-engine operation whose output has its credits reaches its cycle 0; holding the token of every bank its streams name it
runs: CODE 1 if a token's tag differs from the tile named, CODE 2 if a function table it reads is not valid; only its output and
what an HBM write brings change, and the tokens go back; else it waits for the tokens, and without credits it does not start (05
R114 to R129, Table 05-9, 12 R302). What an elementwise operation writes: for an output of up to 16,384 consecutive FP32
elements in the scratchpad, element k is the operation of Table 05-2 on element k of each input, where that is finite (05 R114
to R127, Table 05-2). -/
def Obligations.GoatOperationsRun : Prop :=
  (∀ (g : Fin 60) (d : Nat) (s : State), ∀ io ∈ goatOps g, s.readyGoat g.val 2 io.2 = some d →
     let c := goatCmd d
     let ins := s.goatIns g.val c
     let out := s.pat g.val c.patO
     ∃ t, exec io.1 s = .next t ∧
       (s.outReady g.val out = true → s.heldAll g.val ins = true →
         ∃ f, StartsWith s t (120 + g.val) d f ∧ f.work = none ∧ f.planCyc = c.planCyc ∧ f.slackCyc = c.slackCyc ∧
           f.statKey = some (goatKey g.val c.statAddr) ∧ (GoatCnt.commands g.val, 1) ∈ f.bumps ∧
           f.code = (if s.wrongTag g.val ins then 1 else if usesTable c.op && !s.tableOk g.val c.slot then 2 else 0) ∧
           (∀ p ∈ ins, p.cycles + 32 ≤ f.cycles) ∧ TokensGoBack s t g.val ins ∧ BytesKept f.outs s t ∧ GoatFrame s t) ∧
       (s.outReady g.val out = true → s.heldAll g.val ins = false → Parks s t (120 + g.val) d) ∧
       (s.outReady g.val out = false → t = s)) ∧
  (∀ (g : Fin 60) (d n : Nat) (s : State), ∀ io ∈ goatOps g, io.2 < 0x0E → s.readyGoat g.val 2 io.2 = some d →
     let c := goatCmd d
     let ins := s.goatIns g.val c
     let out := s.pat g.val c.patO
     let xs := ins.map (s.readPat g.val)
     let ab := s.scalars g.val c.immMode c.imm0 c.imm1
     let r := fun k => goatElem io.2 ab.1 ab.2 (s.table g.val c.slot 0) (s.table g.val c.slot 1)
       ((xs.getD 0 []).getD k 0) ((xs.getD 1 []).getD k 0) ((xs.getD 2 []).getD k 0)
     s.outReady g.val out = true → s.heldAll g.val ins = true → s.wrongTag g.val ins = false →
     (usesTable c.op && !s.tableOk g.val c.slot) = false →
     out.kind = 0 → fmtOfByte out.fmt = some fmtF32 → out.n = [n, 1, 1, 1] → out.st.headD 0 = 1 → n ≤ 16384 → out.gridTc = 0 →
     out.addr % 2 ^ 21 + 4 * n ≤ out.aux % 2 ^ 21 → out.aux % 2 ^ 21 + 16 ≤ 2 ^ 21 →
     c.compress = false → c.tap = false → c.drop = false → (ins.map Pat.total).headD 0 = n →
     ∃ t, exec io.1 s = .next t ∧
       ∀ k, k < n → isNan32 (r k) = false → isInf32 (r k) = false → t.natAt (spaceKey (goatSpace g.val) (out.addr % 2 ^ 21) + 4 * k) 4 = (r k).toNat)

/-- A row operation whose output has its credits reaches its cycle 0; holding its bank tokens it runs: CODE is the first of
TOKEN_ORDER, TABLE_EMPTY and STATS_MISSING; a forward one with STATS_W leaves each row's statistics under STASH_ID in the side
memory; else it waits for the tokens, and without credits it does not start (05 R119, 06 R149 to R153, 12 R302). SPILL takes the
entries of STASH_ID out of the side memory, leaving their keys 0xFFFF, RELOAD brings a block's back; an entry or a header that
does not match gives CODE 4 and changes nothing (06 R154, R155). TABLE_LOAD copies 6,272 bytes of the scratchpad into pair SLOT,
which is valid from then on; it takes 64 cycles and starts only when nothing is in progress on its Goat (05 R134). -/
def Obligations.RowOperationsAndSideMemory : Prop :=
  (∀ (g : Fin 60) (d : Nat) (s : State), ∀ io ∈ rowOps g, s.readyGoat g.val 3 io.2 = some d →
     let c := rowCmd d
     let ins := s.rowIns g.val c
     let px := s.pat g.val c.patX
     ∃ t, exec io.1 s = .next t ∧
       (s.outReady g.val (s.pat g.val c.patO) = true → s.heldAll g.val ins = true →
         ∃ f, StartsWith s t (120 + g.val) d f ∧ f.work = none ∧ f.planCyc = c.planCyc ∧ f.slackCyc = c.slackCyc ∧
           f.statKey = some (goatKey g.val c.statAddr) ∧ (RowCnt.commands g.val, 1) ∈ f.bumps ∧
           (s.wrongTag g.val ins = true → f.status % 16 = 1 ∧ t.unit.side = s.unit.side) ∧
           (s.wrongTag g.val ins = false → c.slots.any (fun k => !s.tableOk g.val k) = true → f.status % 16 = 2) ∧
           (s.wrongTag g.val ins = false → c.statsW = true → rowBackward c.rop = false → px.rows ≤ 32768 → ∀ r, r < px.rows →
             t.sideAt g.val (c.sideRow + r) =
               { key := c.stashId,
                 v0 := ((s.rowEnv g.val c).stats c.rop ((pieces px.rowLen px.total (s.readPat g.val px)).getD r [])).1,
                 v1 := ((s.rowEnv g.val c).stats c.rop ((pieces px.rowLen px.total (s.readPat g.val px)).getD r [])).2 }) ∧
           (c.statsW = false ∨ rowBackward c.rop = true → t.unit.side = s.unit.side) ∧
           TokensGoBack s t g.val ins ∧ BytesKept f.outs s t ∧ GoatFrame s t) ∧
       (s.outReady g.val (s.pat g.val c.patO) = true → s.heldAll g.val ins = false → Parks s t (120 + g.val) d) ∧
       (s.outReady g.val (s.pat g.val c.patO) = false → t = s)) ∧
  (∀ (g : Fin 60) (d : Nat) (s : State),
     let c := rowCmd d
     let ws := s.readPat g.val (s.pat g.val c.patX)
     let h := (ws.headD 0).toNat
     (s.readyGoat g.val 3 0x20 = some d → s.outReady g.val (s.pat g.val c.patO) = false → exec (.spill g) s = .next s) ∧
     (s.readyGoat g.val 3 0x20 = some d → s.outReady g.val (s.pat g.val c.patO) = true →
       ∃ t f, exec (.spill g) s = .next t ∧ StartsWith s t (120 + g.val) d f ∧
       (if (s.sideRun g.val c).all (fun e => e.key == c.stashId) then
         f.status % 16 = 0 ∧ (∀ i, i < c.count → (t.sideAt g.val (c.sideRow + i)).key = 0xFFFF) ∧ BytesKept f.outs s t
        else f.status % 16 = 4 ∧ t.unit.side = s.unit.side ∧ OnlyChanges [.unit] s t) ∧ t.dev = s.dev ∧ t.time = s.time) ∧
     (s.readyGoat g.val 3 0x21 = some d → ∃ t f, exec (.reload g) s = .next t ∧ StartsWith s t (120 + g.val) d f ∧
       (if bits h 0 16 = c.stashId ∧ bits h 16 16 = c.count then
         f.status % 16 = 0 ∧ ∀ i, i < c.count → t.sideAt g.val (c.sideRow + i) =
           { key := c.stashId, v0 := ws.getD (16 + 2 * i) 0, v1 := ws.getD (17 + 2 * i) 0 }
        else f.status % 16 = 4 ∧ t.unit.side = s.unit.side) ∧ OnlyChanges [.unit] s t)) ∧
  (∀ (g : Fin 60) (d : Nat) (s : State), s.readyGoat g.val 2 0x10 = some d →
     let c := goatCmd d
     let key := spaceKey (tableSpace g.val) (6272 * c.slot)
     (s.stream (120 + g.val)).flight = [] ∧
     ∃ t f, exec (.tableLoad g) s = .next t ∧ StartsWith s t (120 + g.val) d f ∧ f.cycles = 64 ∧ f.outs = [(key, 6272)] ∧
       t.tableOk g.val c.slot = true ∧
       (∀ i, i < 6272 → t.stored (key + i) = s.byteAt (spaceKey (goatSpace g.val) ((s.pat g.val c.patX).addr % 2 ^ 21) + i)) ∧
       BytesKept [(key, 6272)] s t ∧ t.unit.tokens = s.unit.tokens ∧ t.unit.queues = s.unit.queues ∧ OnlyChanges [.mem, .unit] s t)

/-- An update operation that is ready, with its outputs' credits, runs once it holds its bank tokens; a gated one (U_FACT, U_USUM,
U_APPLY) only under GO: under SUPPRESS it takes its cycles and signals with CODE 5 and writes nothing, and where no decision is
made, or under GO a wait of it is short, it does not start and the part latches cause 0x0B or 0x0C (08 R191, R196, R197, 16
R415). -/
def Obligations.UpdatesObeyTheGate : Prop :=
  ∀ (g : Fin 60) (d : Nat) (s : State), ∀ io ∈ updOps g, s.readyGoat g.val 4 io.2 = some d →
    let c := updCmd d
    let e := s.coef g.val c.group
    let ins := (c.inPats e).map (s.pat g.val)
    let ready := (c.outPats e).all (fun o => s.outReady g.val (s.pat g.val o.1)) = true
    let runs := fun (t : State) => ∃ f, StartsWith s t (120 + g.val) d f ∧ f.work = none ∧ f.gated = updGated io.2 ∧ f.status % 16 ≠ 5 ∧
      f.cycles = s.updCycles g.val c e ∧ TokensGoBack s t g.val ins ∧ BytesKept f.outs s t ∧ GoatFrame s t
    let stops := fun (t : State) (cause : Nat) => t.flt.pendingEntry = true ∧ (s.flt.cause = 0 → t.flt.cause = cause) ∧
      OnlyChanges [.flt, .trust, .cnt] s t
    let goes := updGated io.2 = false ∨ (s.plan.decision = 1 ∧ s.shortWait d = none)
    ∃ t, exec io.1 s = .next t ∧
      (¬ ready → t = s) ∧
      (ready → goes → s.heldAll g.val ins = true → runs t) ∧
      (ready → (goes ∨ s.plan.decision = 2) → s.heldAll g.val ins = false → Parks s t (120 + g.val) d) ∧
      (ready → updGated io.2 = true → s.plan.decision = 1 → s.shortWait d ≠ none → stops t 0x0C) ∧
      (ready → updGated io.2 = true → s.plan.decision = 2 → s.heldAll g.val ins = true →
        ∃ f, StartsWith s t (120 + g.val) d f ∧ f.work = none ∧ f.gated = true ∧ f.status % 16 = 5 ∧ f.cycles = s.updCycles g.val c e ∧
          f.bumps = [(UpdCnt.commands g.val, 1), (UpdCnt.suppressedCmds g.val, 1)] ∧ OnlyChanges [.unit] s t) ∧
      (ready → updGated io.2 = true → s.plan.decision ≠ 1 → s.plan.decision ≠ 2 → stops t 0x0B)

/-- GATHER, SCATTER_ADD, SPMM and SAMPLE start at a Hen's stream's head; GATHER and SCATTER_ADD with no row to process take 16
cycles and write nothing; a gathered row is the table's row its index names, or zeros for an index outside it (09 R207, R210,
R218, R226, 14 R352). A sampled token is one of the row's K_TOP most probable; the most probable one with K_TOP 1; a row with a
NaN gives token 0xFFFFFFFF and a NaN (14 R352 to R354). Routing a token: K slots in rank order; a slot kept names an expert that
is resident and had quota left, with its member, slot and position in the quota, and no expert is given more than its quota; a
token with a NaN has every slot dropped with a NaN (10 R236, R237). -/
def Obligations.HenOperationsRun : Prop :=
  (∀ (h : Fin 30) (d : Nat) (s : State) (fa fb : Fmt),
     let c := henCmd d
     let kept := fun (t : State) => t.dev = s.dev ∧ t.pwr = s.pwr ∧ t.time = s.time ∧ t.acts = s.acts ∧ t.fab = s.fab ∧ t.ck = s.ck ∧
       t.host = s.host ∧ t.out = s.out
     let starts := fun (t : State) => ∃ f, StartsWith s t (180 + h.val) d f ∧ f.planCyc = c.planCyc ∧ f.slackCyc = c.slackCyc ∧
       f.statKey = some (henKey h.val c.stat) ∧ (HenCnt.commands h.val, 1) ∈ f.bumps ∧ kept t
     let short := fun (t : State) => (∃ f, StartsWith s t (180 + h.val) d f ∧ f.cycles = 16 ∧ f.outs = []) ∧ OnlyChanges [.unit] s t
     (fmtOfByte c.fmtA = some fa → s.readyExec (180 + h.val) 5 0x01 = some d → ∃ t, exec (.gather h) s = .next t ∧ starts t ∧
       ((s.henBound h.val c 1 c.count).1 = 0 → short t) ∧
       (c.mesh = false → c.tHbm = false → fa = fmtF32 → c.w = 128 → (s.henBound h.val c 1 c.count).1 = c.count → 0 < c.count →
         256 * c.out + 65536 * ceilDiv c.count 128 ≤ 0x400000 → ∀ i j, i < c.count → j < 128 →
         let x := s.henIdx h.val c i
         t.natAt (henKey h.val c.out + 65536 * (i / 128) + 4 * (128 * (i % 128) + j)) 4 =
           if 0 ≤ x ∧ x < c.rows then
             s.natAt (henKey h.val c.src + 65536 * (x.toNat / 128) + 4 * (128 * (x.toNat % 128) + j)) 4
           else 0)) ∧
     (fmtOfByte c.fmtA = some fa → s.readyExec (180 + h.val) 5 0x02 = some d → ∃ t, exec (.scatterAdd h) s = .next t ∧ starts t ∧
       ((s.henBound h.val c 1 c.count).1 = 0 → short t)) ∧
     (fmtOfByte c.fmtA = some fa → fmtOfByte c.fmtB = some fb → s.readyExec (180 + h.val) 5 0x03 = some d → ∃ t, exec (.spmm h) s = .next t ∧ starts t ∧
       ((s.henBound h.val c 1 c.count).1 = 0 → short t)) ∧
     (s.readyExec (180 + h.val) 5 0x04 = some d → ∃ t f, exec (.sample h) s = .next t ∧ StartsWith s t (180 + h.val) d f ∧ kept t ∧
       (bits d 137 2 ≠ 1 → (ActCnt.sampleRows, bits d 256 7) ∈ f.bumps ∧ f.outs = [(henKey h.val (bits d 192 14), 8 * bits d 256 7)] ∧
         BytesKept f.outs s t))) ∧
  (∀ (p : List Word) (kTop draw : Nat) (pTop : Word) (lp : Nat → Word), 0 < kTop →
     (p.any isNan32 = true → sampleRow p kTop pTop draw lp = some { token := 0xFFFFFFFF, logp := nan32, cut := false }) ∧
     (p.any isNan32 = false → p ≠ [] → ∃ o, sampleRow p kTop pTop draw lp = some o ∧ o.logp = lp o.token ∧ o.token < p.length ∧
       o.token ∈ ((ranked p).take kTop).map (fun x => x.1) ∧
       (kTop = 1 → o.cut = false ∧ ∀ i, i < p.length → flt (p.getD o.token 0) (p.getD i 0) = false))) ∧
  (∀ (rt : Router) (res : List ResEntry) (p : List Word) (st : RouteSt),
     let o := routeToken rt res p st
     o.1.length = rt.k ∧ o.2.quota.length = st.quota.length ∧
       (∀ e, o.2.quota.getD e 0 + (o.1.filter (fun x => !x.dropped && x.expert == e)).length = st.quota.getD e 0) ∧
       (∀ x ∈ o.1, x.dropped = false → x.expert < p.length ∧ x.moves ≤ rt.depth ∧
         (res.getD x.expert { member := 0, slot := 0, res := false }) = { member := x.member, slot := x.slot, res := true }) ∧
       (p.any isNan32 = true → o.2 = st ∧ ∀ x ∈ o.1, x.dropped = true ∧ x.p = nan32 ∧ x.w = nan32))

/-- The expert commands start at a Hen's stream's head and begin their epoch: ROUTE, DISPATCH, SORT, RETURN, COMBINE and GATE_GRAD
with their counts; SORT closes the epoch at the dispatch gate, COMBINE at the answer gate, EPOCH_CLOSE, in 16 cycles, at the
gate it names, and changes nothing else (10 R241 to R249, R253). Records and answers as they arrive: one of an epoch that its
gate has closed is counted and writes nothing; a dispatch end marker of an open epoch is kept, and an end marker of an open
epoch signals its router's counter once the rows before it have landed; every record or answer is acknowledged to its sender,
unless it came by loopback, once its row has landed; what comes for a failed module goes on to its spare (10 R233, R243, R244,
R247, R250, 15 R395). -/
def Obligations.ExpertCommandsRun : Prop :=
  (∀ (h : Fin 30) (d : Nat) (s : State) (f : Fmt),
     let c := expCmd d
     let ready := fun (hop : Nat) => s.readyExec (180 + h.val) 5 hop = some d
     let starts := fun (t : State) => ∃ g, StartsWith s t (180 + h.val) d g ∧ g.planCyc = c.planCyc ∧ g.slackCyc = c.slackCyc ∧
       g.statKey = some (henKey h.val c.stat) ∧ (ExpCnt.commands h.val, 1) ∈ g.bumps ∧
       t.dev = s.dev ∧ t.pwr = s.pwr ∧ t.time = s.time ∧ t.acts = s.acts ∧ t.ck = s.ck ∧ t.host = s.host
     (ready 0x10 → ∃ t, exec (.route h) s = .next t ∧ starts t ∧ t.out = s.out ∧ t.unit.gates = s.unit.gates ∧
       t.unit.begun = (s.beginEpoch c.router c.epoch).unit.begun) ∧
     (ready 0x11 → fmtOfByte c.fmt = some f → ∃ t, exec (.dispatch h) s = .next t ∧ starts t ∧ s.out <+: t.out ∧ t.unit.gates = s.unit.gates) ∧
     (ready 0x12 → fmtOfByte c.fmt = some f → ∃ t, exec (.sort h) s = .next t ∧ starts t ∧ t.out = s.out ∧
       t.unit.gates = (s.closeEpoch c.router 0 c.epoch).unit.gates) ∧
     (ready 0x13 → fmtOfByte c.fmt = some f → ∃ t, exec (.ret h) s = .next t ∧ starts t ∧ s.out <+: t.out ∧ t.unit.gates = s.unit.gates) ∧
     (ready 0x14 → fmtOfByte c.fmt = some f → ∃ t, exec (.combine h) s = .next t ∧ starts t ∧ t.out = s.out ∧
       t.unit.gates = (s.closeEpoch c.router 1 c.epoch).unit.gates) ∧
     (ready 0x15 → ∃ t, exec (.epochClose h) s = .next t ∧ starts t ∧
       (s.accepts c.router (b2n c.gscale) c.epoch = true → t.gateLow c.router (b2n c.gscale) = (c.epoch + 1) % 65536 ∧
         t.accepts c.router (b2n c.gscale) c.epoch = false) ∧
       (s.accepts c.router (b2n c.gscale) c.epoch = false → t.unit.gates = s.unit.gates) ∧ OnlyChanges [.unit] s t) ∧
     (ready 0x16 → fmtOfByte c.fmt = some f → ∃ t, exec (.gateGrad h) s = .next t ∧ starts t ∧ t.out = s.out ∧ t.unit.gates = s.unit.gates)) ∧
  (∀ (m : ExpertMsg) (e : EndMarker) (s : State), s.plan.loaded = true →
     let v := natIn m.data 0 64
     let w := natIn m.data 0 16
     let acked := fun (t : State) => (s.fab.unacked = [] → t.heldWrites = [] → t.fab = s.fab ∧
         t.out = s.out ++ (if s.inLink m.src < 16 then [OutEvent.ack (s.inLink m.src) m.src] else [])) ∧
       { t.fab with unacked := s.fab.unacked } = s.fab ∧ t.dev = s.dev ∧ t.time = s.time
     let passes := fun (t : State) (p lane src : Nat) (data : List Byte) => ∃ lm cls, lm.kind = 5 ∧ lm.lane = lane ∧ lm.dst = s.fab.modId ∧
       lm.src = src ∧ lm.data = data ∧ Hands s t p (.link p lm) (flitsOf lm cls) ∧ PortsOnly [p] s t ∧ OnlyChanges [.fab, .out, .cnt] s t
     let signals := fun (t : State) (id : Nat) => { t.fab with unacked := s.fab.unacked } = s.fab ∧ OnlyChanges [.unit, .plan, .cnt, .out, .fab] s t ∧
       (s.fab.unacked = [] → s.heldWrites = [] → t.plan.ctrs = (s.applySignal id 1 none).plan.ctrs ∧ t.out = s.out ∧ t.fab = s.fab)
     (wellFormed (.dispatchRecordRx m) = true → ∃ t, exec (.dispatchRecordRx m) s = .next t ∧
       (∀ p, s.fab.redirect = some p → passes t p 1 m.src m.data) ∧
       (s.fab.redirect = none → acked t ∧
         (s.accepts (bits v 0 8) 0 (bits v 16 16) = false →
           t.cntGet ExpModCnt.epochDiscDisp = min (s.cntGet ExpModCnt.epochDiscDisp + 1) 0xFFFFFFFF ∧
           (s.fab.unacked = [] → CountersKept [ExpModCnt.epochDiscDisp] s t ∧ OnlyChanges [.cnt, .out, .fab] s t)))) ∧
     (wellFormed (.answerRx m) = true → ∃ t, exec (.answerRx m) s = .next t ∧
       (∀ p, s.fab.redirect = some p → passes t p 2 m.src m.data) ∧
       (s.fab.redirect = none → acked t ∧
         (s.accepts (bits w 0 8) 1 (bits w 8 16) = false →
           t.cntGet ExpModCnt.epochDiscAns = min (s.cntGet ExpModCnt.epochDiscAns + 1) 0xFFFFFFFF ∧
           (s.fab.unacked = [] → CountersKept [ExpModCnt.epochDiscAns] s t ∧ OnlyChanges [.cnt, .out, .fab] s t)))) ∧
     (e.ok = true → ∃ t, exec (.dispatchEndMarkerRx e) s = .next t ∧
       (∀ p, s.fab.redirect = some p → passes t p 1 (s.memberAddr e.router e.src) (EndMarker.bytes e)) ∧
       (s.fab.redirect = none → s.accepts e.router 0 e.epoch = false → t = s) ∧
       (s.fab.redirect = none → s.accepts e.router 0 e.epoch = true → signals t (s.expBase + 2 * e.router) ∧
         Tab.get 0 t.unit.markers (markerKey e.router e.epoch e.src 32) = 1 ∧
         (∀ sl, sl < 32 → Tab.get 0 t.unit.markers (markerKey e.router e.epoch e.src sl) = e.counts.getD sl 0))) ∧
     (e.ok = true → ∃ t, exec (.answerEndMarkerRx e) s = .next t ∧
       (∀ p, s.fab.redirect = some p → passes t p 2 (s.memberAddr e.router e.src) (EndMarker.bytes e)) ∧
       (s.fab.redirect = none → s.accepts e.router 1 e.epoch = false → t = s) ∧
       (s.fab.redirect = none → s.accepts e.router 1 e.epoch = true → signals t (s.expBase + 2 * e.router + 1) ∧ t.unit = s.unit)))

/-- A Mule's COPY moves nothing if its source and destination overlap and the source is larger than the staging buffer (CODE 1), and
otherwise reads the whole source before it writes: XFORM 0 leaves at the destination the bytes that the source had (13 R332 to
R334). A destination that is an Ox queue waits for the queue's START credits (12 R302). The stash: a PUT that fits under
HIGH_WATER is in progress with CODE 0, one that does not with CODE 2 and is counted as dropped; a GET of an entry that is not
stored in this step has CODE 3, is counted as a recomputation and tells its fan-out 0xFFFFFFFF; one whose destination is an Ox
queue waits for the queue's START credits (12 R302, 13 R328, R329). -/
def Obligations.MuleCommandsRun : Prop :=
  (∀ (n : Fin 8) (d : Nat) (s : State) (f : Fmt), s.readyMule n.val 1 = some d →
     let c := (s.muleBound n.val (muleCmd d)).1
     let src := locOfWord c.src
     let dst := locOfWord c.dst
     (if c.xform = 0 then some fmtF32 else fmtOfByte c.fmt) = some f →
     (s.destReady d = false → exec (.muleCopy n) s = .next s) ∧
     (s.destReady d = true → ∃ t g, exec (.muleCopy n) s = .next t ∧ StartsWith s t (210 + n.val) d g ∧ g.planCyc = c.planCyc ∧ g.slackCyc = c.slackCyc ∧
       (if tooLarge (c.ins f) (c.outs f) = true then
         g.status % 16 = 1 ∧ g.cycles = 64 ∧ (MemCnt.overlapRejects, 1) ∈ g.bumps ∧ OnlyChanges [.unit] s t
        else
         g.status % 16 = 0 ∧ g.outs = c.outs f ∧
         g.cycles = moveCycles c.xform (rangesLen (c.ins f)) (rangesLen (c.outs f)) ∧
         (c.xform = 0 → queueOfKey dst = none → BytesKept [(dst, c.bytes)] s t) ∧
         (c.xform = 0 → queueOfKey dst = none → 2 ^ 48 ≤ src → 2 ^ 48 ≤ dst → s.spaceFenced (src / 2 ^ 48) = false →
           s.spaceFenced (dst / 2 ^ 48) = false → dst % 2 ^ 48 + c.bytes ≤ spaceSize (dst / 2 ^ 48) →
           ∀ i, i < c.bytes → t.stored (dst + i) = s.byteAt (src + i))) ∧
       t.dev = s.dev ∧ t.time = s.time ∧ t.acts = s.acts ∧ t.fab = s.fab ∧ t.ck = s.ck ∧ t.host = s.host ∧ t.out = s.out)) ∧
  (∀ (n : Fin 8) (d : Nat) (s : State),
     let c := (s.muleBound n.val (muleCmd d)).1
     let r := s.stashOf c
     let top := if c.reset then r.dropFrom else s.readNat r.dir 8 % 2 ^ 48
     let g0 := muleCmd d
     let rec_ := s.readNat ((s.stashOf g0).record g0) 32
     let kept := fun (t : State) => t.dev = s.dev ∧ t.time = s.time ∧ t.acts = s.acts ∧ t.fab = s.fab ∧ t.ck = s.ck ∧ t.host = s.host
     (s.readyMule n.val 2 = some d → ∃ t f, exec (.stashPut n) s = .next t ∧ StartsWith s t (210 + n.val) d f ∧ kept t ∧
       (top + c.bytes ≤ r.highWater → tooLarge [(locOfWord c.src, c.bytes)] [(top, c.bytes)] = false →
         f.status % 16 = 0 ∧ f.outs = [(top, c.bytes), (r.record c, 32), (r.dir, 8)] ∧ f.cycles = moveCycles 0 c.bytes c.bytes) ∧
       (r.highWater < top + c.bytes → f.status % 16 = 2 ∧ f.cycles = 80 ∧ f.bumps = [(MemCnt.stashDropped, 1)])) ∧
     (s.readyMule n.val 3 = some d → s.destReady d = false → exec (.stashGet n) s = .next s) ∧
     (s.readyMule n.val 3 = some d → s.destReady d = true → ∃ t f, exec (.stashGet n) s = .next t ∧ StartsWith s t (210 + n.val) d f ∧ kept t ∧
       (bit rec_ 96 = false ∨ bits rec_ 128 40 ≠ s.plan.step % 2 ^ 40 →
         f.status % 16 = 3 ∧ f.bumps = [(MemCnt.stashRecomp, 1)] ∧ f.outs = (s.muleFan n.val g0).map (fun k => (k, 8)) ∧ BytesKept f.outs s t) ∧
       (bit rec_ 96 = true → bits rec_ 128 40 = s.plan.step % 2 ^ 40 →
         tooLarge [(addr256 (bits rec_ 0 40), bits rec_ 64 32)] [(locOfWord g0.dst, bits rec_ 64 32)] = false →
         f.status % 16 = 0 ∧ f.cycles = moveCycles 0 (bits rec_ 64 32) (bits rec_ 64 32) + 4 * (s.muleFan n.val g0).length)))

/-- Copy-on-write: the first write to a protected page is held and takes the stack's next shadow page, later ones wait behind it and
memory is untouched; when the copy is done the page is COPIED, no longer protected, its held writes are released and it is
counted (13 R323), and a message that waited only for them is acknowledged (15 R382). The patrol scrub: a line found
uncorrectable stays so, is counted and poisons its page; a corrected one is counted and written back; a clean one changes
nothing (13 R318). -/
def Obligations.PagesAreCopiedAndScrubbed : Prop :=
  (∀ (page : Fin 262144) (off held : Nat) (data : List Byte) (s : State),
     let p := page.val
     let first := !(s.heldWrites.any (fun h => h.page == p))
     let k := Tab.get 0 s.shadowNext (p % 8)
     (off + data.length ≤ 2 ^ 21 → 0 < data.length → (s.pteOf p).valid = true → (s.pteOf p).wp = true → (s.pteOf p).ro = false →
       ∃ t, exec (.cowWriteHold page off data) s = .next t ∧ t.mem = s.mem ∧
         t.heldWrites = s.heldWrites ++ [{ req := 210 + p % 8, page := p, offset := off, data := data }] ∧
         (first = true → (t.pteOf p).shadow = shadowPage s.shadowBase (p % 8) k ∧ Tab.get 0 t.shadowNext (p % 8) = k + 1) ∧
         (first = false → t.pte = s.pte ∧ t.shadowNext = s.shadowNext) ∧
         (∀ q, q ≠ p → t.pteOf q = s.pteOf q) ∧ OnlyChanges [.pte, .shadowNext, .heldWrites] s t) ∧
     (first = false → (s.pteOf p).wp = true → ∃ t, exec (.cowCopyDone page held) s = .next t ∧
       (t.pteOf p).copied = true ∧ (t.pteOf p).wp = false ∧ t.heldWrites = s.heldWrites.filter (fun h => h.page != p) ∧
       t.cntGet MemCnt.cowCopies = min (s.cntGet MemCnt.cowCopies + 1) 0xFFFFFFFF ∧
       (∀ a, ¬ (p * 2 ^ 21 ≤ a ∧ a < (p + 1) * 2 ^ 21) →
         ¬ ((s.pteOf p).shadow * 2 ^ 21 ≤ a ∧ a < ((s.pteOf p).shadow + 1) * 2 ^ 21) →
         (∀ h ∈ s.heldWrites, h.page = p → h.offset + h.data.length ≤ 2 ^ 21) → t.stored a = s.stored a) ∧
       (∀ u, s.fab.unacked = [u] → (∀ h ∈ s.heldWrites, h.page = p) →
         t.fab.unacked = [] ∧ t.out = s.out ++ (if u.tell then [OutEvent.ack u.port u.src] else [])) ∧
       (s.fab.unacked = [] → t.out = s.out ∧ t.plan.ctrs = s.plan.ctrs) ∧ { t.fab with unacked := s.fab.unacked } = s.fab ∧
       t.unit = s.unit ∧ t.dev = s.dev ∧ t.time = s.time)) ∧
  (∀ (line : Nat) (ecc : EccOutcome) (s : State), line < 2 ^ 33 → s.dev.state ≠ .cold → 5 ≤ s.dev.stepDone →
     ∃ t, exec (.patrolScrub line ecc) s = .next t ∧ t.mem = s.mem ∧
       (ecc = .uncorrectable ∨ Tab.get 0 s.lineErr line = 2 → Tab.get 0 t.lineErr line = 2 ∧ (t.pteOf (pageOf (64 * line))).poison = true ∧
         t.cntGet MemCnt.eccUe = min (s.cntGet MemCnt.eccUe + 1) 0xFFFFFFFF ∧ LogsOne s t (3, 0) 0x0080 (pageOf (64 * line)) ∧
         OnlyChanges [.lineErr, .pte, .cnt, .trust] s t) ∧
       (ecc = .corrected → Tab.get 0 s.lineErr line ≠ 2 → Tab.get 0 t.lineErr line = 0 ∧
         t.cntGet MemCnt.eccCe = min (s.cntGet MemCnt.eccCe + 1) 0xFFFFFFFF ∧ OnlyChanges [.lineErr, .cnt] s t) ∧
       (ecc = .clean → Tab.get 0 s.lineErr line ≠ 2 → t = s))

/-- A BARRIER with DRAIN waits for every earlier command of its stream; otherwise it and END pass and signal. END closes the
repetition: the stream stands at the head of the next one, open in the active variant if that repetition has begun. SELECT runs
the alternative of the selection entry's current code and passes over the other two; SWITCH goes on after the SWITCH of its
index in the active variant (12 Table 12-4, R287, R289, R291). The oldest command in progress of a stream completes once its
effects have come, its output tiles lie in their banks, what it sent to a queue has gone and its writes are acknowledged: its
tap record and its status record are written, its signal applied with its repetition, and it is recorded as a slip if it has
used more than its budget and has not been before; none completes once a fault cause is latched (12 R297, R307, 13 R333, 16
R404). A slip event marks the first command in progress that is beyond its budget and not yet marked, and enters the slip ring
with its unit, descriptor, repetition and beat; it does nothing else (12 R307). When every stream that has commands has ended
the last repetition of a plan with REPEATS, and some stream has, the part goes back to ARMED, not primed (19 R461, Table 19-2). -/
def Obligations.StreamsMoveOn : Prop :=
  (∀ (u : Fin 226) (d : Nat) (s : State),
     let r := s.stream u.val
     let signalled := fun (t : State) => t.plan.ctrs = (s.applySignal (dSig d) (dInc d) (some r.rep)).plan.ctrs ∧
       (∀ v, v ≠ u.val → t.stream v = s.stream v) ∧ OnlyChanges [.unit, .plan, .cnt] s t
     let k := s.selCode (bits d 128 12)
     let l0 := bits d 144 20
     let l1 := bits d 164 20
     let l2 := bits d 184 20
     let first := r.pos + 1 + (if k = 0 then 0 else if k = 1 then l0 else l0 + l1)
     let last := first + (if k = 0 then l0 else if k = 1 then l1 else l2)
     let past := r.pos + 1 + l0 + l1 + l2
     (s.ready u.val 1 = some d → ∃ t, exec (.barrier u) s = .next t ∧ (bit d 128 = true → r.flight ≠ [] → t = s) ∧
       (bit d 128 = false ∨ r.flight = [] → t.stream u.val = { r with pos := r.step (r.pos + 1) } ∧ signalled t)) ∧
     (s.ready u.val 2 = some d → ∃ t, exec (.endRep u) s = .next t ∧ signalled t ∧
       t.stream u.val = { r with
         rep := r.rep + 1, pos := 0, jumpAt := 0, jumpTo := 0, closed := !s.repBegun (r.rep + 1),
         variant := if s.repBegun (r.rep + 1) then s.plan.variant else r.variant }) ∧
     (s.ready u.val 3 = some d → ∃ t, exec (.selectAlternative u) s = .next t ∧ signalled t ∧
       t.stream u.val = { r with
         pos := if first = last ∧ last < past then past else first, jumpAt := last, jumpTo := past }) ∧
     (s.ready u.val 4 = some d → ∃ t, exec (.switch u) s = .next t ∧
       (∀ pos, s.afterSwitch s.plan.variant u.val (bits d 128 16) = some pos → signalled t ∧
         t.stream u.val = { r with variant := s.plan.variant, pos := pos, jumpAt := 0, jumpTo := 0 }) ∧
       (s.afterSwitch s.plan.variant u.val (bits d 128 16) = none → t = s))) ∧
  (∀ (u : Fin 226) (w : Waits) (f : InFlight) (rest : List InFlight) (s : State), (s.stream u.val).flight = f :: rest → w.ok u.val = true →
     let done := f.work = none ∧ s.drained u.val f = true ∧ (rest = [] → s.outStalled u.val = false) ∧ s.writesHeld u.val f = false ∧
       s.flt.pendingEntry = false
     let tapped := match f.tap with | some (k, _, _) => [(k, 64)] | none => []
     let late := decide (f.planCyc + f.slackCyc < f.elapsed w) && decide (f.statKey ≠ none)
     ∃ t, exec (.commandComplete u w) s = .next t ∧
       (¬ done → t = s) ∧
       (done → t.stream u.val = { s.stream u.val with flight := rest } ∧
         (∀ v, v ≠ u.val → t.stream v = s.stream v) ∧
         (∀ k, f.statKey = some k → k % 2 ^ 48 + 16 ≤ spaceSize (k / 2 ^ 48) →
           t.natAt k 16 = f.record w (f.slipped || late) % 2 ^ 128) ∧
         BytesKept (tapped ++ (match f.statKey with | some k => [(k, 16)] | none => [])) s t ∧
         (∀ k c l, f.tap = some (k, c, l) → k % 2 ^ 48 + 64 ≤ spaceSize (k / 2 ^ 48) →
           (∀ j, f.statKey = some j → j + 16 ≤ k ∨ k + 64 ≤ j) → ∀ i, i < 64 →
           t.stored (k + i) = (tapBytes (tapJoin (if c then tapEmpty else s.tapAt k) l)).getD i 0) ∧
         (∀ k, f.nonfin = some k → 0 < t.cntGet k) ∧
         ((late && !f.slipped) = false → t.plan.slips = s.plan.slips ∧ t.plan.slipsNow = s.plan.slipsNow) ∧
         ((late && !f.slipped) = true → t.plan.slips.getLast? = some { unit := u.val, desc := f.desc, rep := f.rep, beat := s.time.beat } ∧
           t.plan.slips.length = min (s.plan.slips.length + 1) 4096 ∧ t.plan.slipsNow = s.plan.slipsNow + 1) ∧
         (f.sigId = noCtr ∨ (∀ k, (f.statKey = some k ∨ k ∈ tapped.map (fun r => r.1)) → 2 ^ 48 ≤ k ∧ s.plan.base < 2 ^ 40 ∧ s.secOff 4 < 2 ^ 40) → t.plan.ctrs = (s.applySignal f.sigId f.sigInc (some f.rep)).plan.ctrs) ∧
         OnlyChanges [.mem, .unit, .plan, .cnt] s t)) ∧
  (∀ (u : Fin 226) (n : Nat) (f : InFlight) (pre post : List InFlight) (s : State), (s.stream u.val).flight = pre ++ f :: post →
     (∀ x ∈ pre, ¬ (x.statKey.isSome = true ∧ x.slipped = false ∧ x.planCyc + x.slackCyc < n)) →
     f.statKey.isSome = true → f.slipped = false → f.planCyc + f.slackCyc < n →
     ∃ t, exec (.slipEvent u n) s = .next t ∧
       t.stream u.val = { s.stream u.val with flight := pre ++ { f with slipped := true } :: post } ∧
       (∀ v, v ≠ u.val → t.stream v = s.stream v) ∧
       t.plan = { s.plan with slips := t.plan.slips, slipsNow := s.plan.slipsNow + 1 } ∧
       t.plan.slips.getLast? = some { unit := u.val, desc := f.desc, rep := f.rep, beat := s.time.beat } ∧
       CountersKept [PlanCnt.slipEvents, slipKey f.unit u.val f.op] s t ∧ OnlyChanges [.unit, .plan, .cnt] s t) ∧
  (∀ s : State, s.dev.state = .running → s.repeats ≠ 0 → s.plan.started = true → s.allEnded = true →
     ∃ t, exec .planFinish s = .next t ∧ t.dev = { s.dev with state := .armed, primed := false } ∧
       t.plan = { s.plan with started := false } ∧ LogsOne s t (3, 0) 0x0001 0 ∧
       OnlyChanges [.dev, .plan, .host, .acts, .out, .cnt, .trust] s t)

/-- A signal on a counter: a stale one (a period counter whose REP is not the sender's) is counted and changes nothing; another
first covers the shortfall, and what remains is added to VALUE modulo 2^32; one with no repetition is never stale; where it
covers all of the shortfall, the late contributions that wait on the counter have arrived, and those that are to be discarded
are counted as dropped. Every other counter keeps its value (12 R297, R310, 11 R277). Waits compare in serial arithmetic: on a
running counter, or on a period counter in the command's own repetition, a wait holds when VALUE is less than 2^31 past the
target; on a period counter that has moved on to a later repetition it holds; in an earlier one it does not (12 R298). -/
def Obligations.SignalsAndWaits : Prop :=
  (∀ (id inc : Nat) (rep : Option Nat) (s : State), id < 2 ^ 15 → inc < 2 ^ 8 → id ≠ noCtr → s.ctrAtHole id = false →
     let c := s.ctr id
     let stale := s.ctrRunning id = false ∧ ∃ n, rep = some n ∧ c.rep ≠ n % 2 ^ 16
     ∃ t, exec (.counterSignal id inc rep) s = .next t ∧
       (stale → t.cntGet PlanCnt.staleSignals = min (s.cntGet PlanCnt.staleSignals + 1) 0xFFFFFFFF ∧
         CountersKept [PlanCnt.staleSignals] s t ∧ OnlyChanges [.cnt] s t) ∧
       (¬ stale → (t.ctr id).value = (c.value + (inc - c.shortfall)) % 2 ^ 32 ∧ (t.ctr id).shortfall = c.shortfall - inc ∧
         (t.ctr id).rep = c.rep ∧ (t.ctr id).late = c.late ∧ (∀ j, j ≠ id → t.ctr j = s.ctr j) ∧
         (if c.shortfall ≠ 0 ∧ inc ≠ 0 then
           t.cntGet TimeCnt.lateSignals = min (s.cntGet TimeCnt.lateSignals + 1) 0xFFFFFFFF ∧
           CountersKept [TimeCnt.lateSignals, PlanCnt.droppedLate, HealthCnt.droppedTrailers] s t
          else t.cnt = s.cnt) ∧
         (inc < c.shortfall ∨ c.shortfall = 0 → t.plan.carries = s.plan.carries ∧ CountersKept [TimeCnt.lateSignals] s t) ∧
         (c.shortfall ≠ 0 → c.shortfall ≤ inc → t.plan.carries = s.plan.carries.filter (fun y => !(y.drop && y.wait == id)) ∧
           ∀ n, n = (s.plan.carries.filter (fun y => y.drop && y.wait == id && !y.trailer)).length → 0 < n →
             t.cntGet PlanCnt.droppedLate = min (s.cntGet PlanCnt.droppedLate + n) 0xFFFFFFFF ∧
             t.plan.droppedNow = s.plan.droppedNow + n) ∧ OnlyChanges [.plan, .cnt] s t)) ∧
  (∀ (id tgt m : Nat) (s : State), id ≠ noCtr → tgt < 2 ^ 32 → (s.ctr id).value < 2 ^ 32 → (s.ctr id).rep < 2 ^ 16 →
     let c := s.ctr id
     let t := s.effTarget id tgt m
     (s.ctrRunning id = true → (s.waitHolds id tgt m = true ↔ ∃ k, k < 2 ^ 31 ∧ c.value = (t + k) % 2 ^ 32)) ∧
     (s.ctrRunning id = false → c.rep = m % 2 ^ 16 → (s.waitHolds id tgt m = true ↔ ∃ k, k < 2 ^ 31 ∧ c.value = (tgt + k) % 2 ^ 32)) ∧
     (s.ctrRunning id = false → (∃ k, 0 < k ∧ k < 2 ^ 15 ∧ c.rep = (m + k) % 2 ^ 16) → s.waitHolds id tgt m = true) ∧
     (s.ctrRunning id = false → (∃ k, 0 < k ∧ k ≤ 2 ^ 15 ∧ m % 2 ^ 16 = (c.rep + k) % 2 ^ 16) → s.waitHolds id tgt m = false))

/-! ## Numbers (03) -/

/-- The exact chunk of products does not depend on the order of its products (03 R70 to R72). FP32 addition and multiplication
commute, and what they give is never a NaN but the canonical one (03 R45, R71, R73, 05 R114). -/
def Obligations.ArithmeticIgnoresOrder : Prop :=
  (∀ (a : Int) (l m : List Val), l.Perm m → chunkOf a l = chunkOf a m) ∧
  (∀ a b : Word, fadd a b = fadd b a ∧ fmul a b = fmul b a ∧ (isNan32 (fadd a b) = true → fadd a b = nan32) ∧
     (isNan32 (fmul a b) = true → fmul a b = nan32))

/-- Infinite and NaN products of a chunk: any NaN, or infinities of both signs, give the canonical NaN; infinities of one sign give
that infinity; zero times infinity is NaN (03 R71). -/
def Obligations.ChunkSpecials : Prop :=
  ∀ (a : Int) (ps : List Val),
    (Val.nan ∈ ps → chunkOf a ps = nan32) ∧
    (Val.inf true ∈ ps → Val.inf false ∈ ps → chunkOf a ps = nan32) ∧
    (Val.nan ∉ ps → Val.inf false ∈ ps → Val.inf true ∉ ps → chunkOf a ps = pinf32) ∧
    (Val.nan ∉ ps → Val.inf true ∈ ps → Val.inf false ∉ ps → chunkOf a ps = ninf32) ∧
    (∀ x, mulVal .nan x = .nan ∧ mulVal x .nan = .nan) ∧
    (∀ b n d x, mulVal (.inf b) (.fin n 0 d x) = .nan ∧ mulVal (.fin n 0 d x) (.inf b) = .nan)

/-- Stochastic rounding: of the two neighbours of a value whose fraction is r/d the higher is taken when the 24-bit draw is below
⌊r/d · 2^24⌋; a fraction of 0 gives the lower; a representable value is never changed; where the rounded value overflows, the
result is that of any overflow (03 R63). -/
def Obligations.StochasticRounding : Prop :=
  (∀ key e mb layer step seed : Nat, draw24 key e mb layer step seed < 2 ^ 24) ∧
  (∀ u lo r d : Nat, r < d → pickRound .sr u lo r d = if u < r * 2 ^ 24 / d then lo + 1 else lo) ∧
  (∀ u lo d : Nat, pickRound .sr u lo 0 d = lo) ∧
  (∀ (el : Elem) (m : RMode) (u code : Nat), code < 2 ^ el.bits → decodeElem el code ≠ .nan →
    convPlain el m false u (decodeElem el code) = (code, false)) ∧
  (∀ (el : Elem) (sat s : Bool) (u v n d : Nat) (x : Int), el.isInt = false → el.maxMag < roundMag el .sr u n d x →
    el.maxMag < roundMag el .rne v n d x → convPlain el .sr sat u (.fin s n d x) = convPlain el .rne sat v (.fin s n d x))

/-! ## Time, power and temperature (11, 20) -/

/-- SYNC leaves on every link of the module's place on the tree that is up, with the module's beat, GEN, Rooster and depth: the
Rooster's once at every beat that is a multiple of 64, another module's once after each SYNC that it accepted (11 R266, R267). A
module that is no Rooster accepts a SYNC only from its parent and only if its (GEN, ROOSTER_ID) is not older than the last pair
accepted; a refused one is only counted. An accepted one gives the pair, the depth below the parent and the parent, and is to be
sent on; a FREE module steps its counter once, never back, and locks; one in HOLDOVER does not step: beyond 256 beats' offset it
is LOST and the part faults, else it slews; a LOCKED one stays so (11 R263, R266, R270, R271, R273). What comes for an identity
that a spare has taken goes on to the spare (15 R395). A Rooster that receives a SYNC of a newer pair becomes a follower, its
GEN one higher or, if it accepts that SYNC, the one received; one not newer is counted as refused and changes nothing (11 R265,
R274). -/
def Obligations.SyncIsSentAndAccepted : Prop :=
  (∀ s : State, s.time.counting = true →
     let sends := fun (t : State) => ∃ (m : TimeMsg) (l : List OutEvent), m.tBeat = s.time.beat ∧ m.gen = s.time.gen ∧
       m.roosterId = s.time.roosterId ∧ m.depth = s.time.depth ∧ m.srcId = s.ownId ∧ m.tFrac < 2 ^ 16 ∧ t.out = s.out ++ l ∧
       l.filterMap (fun e => match e with | .time p k q => some (p, k, q) | _ => none) =
         (s.treeSends.filter (fun p => s.portUp p)).map (fun p => (p, 1, m)) ∧
       (∀ e ∈ l, (∃ p k q, e = .time p k q) ∨ ∃ p f, e = .flit p f) ∧ PortsOnly s.treeSends s t ∧
       t.time = { s.time with sent := s.time.beat, syncDue := false } ∧ OnlyChanges [.out, .time, .free, .fab, .cnt] s t
     ∃ t, exec .syncSend s = .next t ∧
       (s.time.role = 0 → s.time.beat % 64 = 0 → s.time.sent ≠ s.time.beat → sends t) ∧
       (s.time.role ≠ 0 → s.time.syncDue = true → sends t) ∧
       (s.time.role = 0 → s.time.beat % 64 ≠ 0 ∨ s.time.sent = s.time.beat → t = s) ∧
       (s.time.role ≠ 0 → s.time.syncDue = false → t = s)) ∧
  (∀ (port : Fin 16) (m : TimeMsg) (frac : Nat) (s : State), m.ok = true → frac < 2 ^ 16 → s.portUp port.val = true →
     s.time.counting = true →
     let older := s.time.accepted = true ∧ (m.gen < s.time.pairGen ∨ (m.gen = s.time.pairGen ∧ s.time.pairRooster < m.roosterId))
     let takes := s.parentPort m.roosterId = port.val ∧ ¬ older ∧ (s.time.state ≠ 0 ∨ s.dev.state.mayStep = true)
     let off := s.offsetNs port.val m frac
     (∀ w, s.fab.redirect = some w → w ≠ port.val → ∃ t, exec (.syncRx port m frac) s = .next t ∧
       Hands s t w (.time w 1 m) [cardFlit 5 6 (s.linkDst w) (timePayload 1 m)] ∧ PortsOnly [w] s t ∧ OnlyChanges [.fab, .out, .cnt] s t) ∧
     (s.fab.redirect = none ∨ s.fab.redirect = some port.val → s.time.role ≠ 0 →
      ∃ t, exec (.syncRx port m frac) s = .next t ∧ OnlyChanges [.time, .cnt, .trust, .flt] s t ∧
       (s.parentPort m.roosterId ≠ port.val ∨ older →
         t.cntGet TimeCnt.syncRefused = min (s.cntGet TimeCnt.syncRefused + 1) 0xFFFFFFFF ∧
         CountersKept [TimeCnt.syncRefused] s t ∧ OnlyChanges [.cnt] s t) ∧
       (takes → t.time.accepted = true ∧ t.time.pairGen = m.gen ∧ t.time.pairRooster = m.roosterId ∧ t.time.gen = m.gen ∧
         t.time.roosterId = m.roosterId ∧ t.time.parent = port.val ∧ t.time.lastSync = t.time.beat ∧ t.time.role = s.time.role ∧
         t.time.depth = (m.depth + (if s.fab.role = 1 ∧ s.fab.identity ≠ 0xFFF then 2 else 1)) % 2 ^ 8 ∧ t.time.syncDue = true) ∧
       (takes → s.time.state = 0 → t.time.state = 1 ∧
         t.time.beat = max s.time.beat (s.parentTime port.val m / 65536 % 2 ^ 64) ∧ t.flt = s.flt) ∧
       (takes → s.time.state = 1 → t.time.state = 1 ∧ t.time.beat = s.time.beat ∧ t.flt = s.flt) ∧
       (takes → s.time.state = 2 → t.time.beat = s.time.beat ∧
         (off.natAbs ≤ 256000 → t.time.state = 3 ∧ t.flt = s.flt) ∧
         (256000 < off.natAbs → t.time.state = 4 ∧ t.flt.pendingEntry = true ∧ (s.flt.cause = 0 → t.flt.cause = 9))))) ∧
  (∀ (port : Fin 16) (m : TimeMsg) (frac : Nat) (s : State), m.ok = true → frac < 2 ^ 16 → s.portUp port.val = true →
     s.time.counting = true → s.time.role = 0 → (s.fab.redirect = none ∨ s.fab.redirect = some port.val) →
     let isNewer := s.time.gen < m.gen ∨ (m.gen = s.time.gen ∧ m.roosterId < s.ownId)
     ∃ t, exec (.syncRx port m frac) s = .next t ∧
       (isNewer → t.time.role = 2 ∧ (t.time.gen = (s.time.gen + 1) % 2 ^ 28 ∨ t.time.gen = m.gen) ∧ t.cntGet TimeCnt.roleChanges = min (s.cntGet TimeCnt.roleChanges + 1) 0xFFFFFFFF) ∧
       (¬ isNewer → t.time = s.time ∧ CountersKept [TimeCnt.syncRefused] s t ∧ OnlyChanges [.cnt] s t))

/-- The one-way delay of a port is half the round trip of a request and its answer less the time the peer held it; a request leaves
once after each training of the link and at every 65,536th beat; an answer reports its departure and how long the request was
held; a delay beyond TRACE_NS is logged (11 R268, 23 R560). A LOCKED module without a SYNC for 256 beats enters HOLDOVER, and
after 10,000,000 beats of it is LOST and the part faults; slewing ends LOCKED; a standby without one for 512 beats becomes
Rooster, LOCKED without a step, with GEN one above the last it accepted; the next wall pair is adopted at its beat (11 R271 to
R274, R278). -/
def Obligations.DelaysHoldoverAndWallTime : Prop :=
  (∀ (port : Fin 16) (m : TimeMsg) (frac held : Nat) (s : State), m.ok = true → frac < 2 ^ 16 → held < 2 ^ 48 → s.portUp port.val = true →
     let now := 65536 * s.time.beat + frac
     let t1 := Tab.get 0 s.time.delaySent port.val
     let ns := (now - (t1 - 1) - m.rxDelta) * 1000 / 131072
     let sends := fun (t : State) (kind : Nat) (q : TimeMsg) =>
       Hands s t port.val (.time port.val kind q) [cardFlit 5 6 (s.linkDst port.val) (timePayload kind q)] ∧ PortsOnly [port.val] s t
     (∃ t, exec (.delayMeasure port frac) s = .next t ∧
       if s.time.beat % 65536 = 0 ∨ t1 = 0 then
         Tab.get 0 t.time.delaySent port.val = now + 1 ∧ { t.time with delaySent := s.time.delaySent } = s.time ∧
         (∃ q, sends t 2 q ∧ q.tBeat = s.time.beat ∧ q.tFrac = frac) ∧ OnlyChanges [.time, .out, .fab, .cnt] s t
       else t = s) ∧
     (∃ t q, exec (.delayReqRx port m frac held) s = .next t ∧ sends t 3 q ∧ q.rxDelta = held ∧
       q.tBeat = (now + held) / 65536 % 2 ^ 64 ∧ q.tFrac = (now + held) % 65536 ∧ OnlyChanges [.out, .fab, .cnt] s t) ∧
     (t1 ≠ 0 → ∃ t, exec (.delayRespRx port m frac) s = .next t ∧ t.port port.val = { s.port port.val with delayNs := ns % 2 ^ 16 } ∧
       PortsOnly [port.val] s t ∧
       (if s.fab.traceNs < ns then LogsOne s t (3, 0) 0x0080 (0x0200 + port.val) else t.trust = s.trust) ∧ OnlyChanges [.fab, .trust] s t)) ∧
  (∀ s : State,
     (s.time.state = 1 → s.time.role ≠ 0 → s.time.lastSync + 256 ≤ s.time.beat → ∃ t, exec .holdoverEntry s = .next t ∧
       t.time = { s.time with state := 2, holdoverBeat := s.time.beat } ∧
       t.cntGet TimeCnt.holdovers = min (s.cntGet TimeCnt.holdovers + 1) 0xFFFFFFFF ∧ CountersKept [TimeCnt.holdovers] s t ∧
       OnlyChanges [.time, .cnt] s t) ∧
     (s.time.state = 2 → s.time.holdoverBeat + 10000000 ≤ s.time.beat → ∃ t, exec .holdoverExpiry s = .next t ∧
       t.time = { s.time with state := 4 } ∧ t.flt.pendingEntry = true ∧ (s.flt.cause = 0 → t.flt.cause = 9) ∧
       LogsOne s t (3, 0) 0x0002 0 ∧ OnlyChanges [.time, .cnt, .flt, .trust] s t) ∧
     (s.time.state = 3 → ∃ t, exec .slewDone s = .next t ∧ t.time = { s.time with state := 1 } ∧ OnlyChanges [.time] s t) ∧
     (s.time.role = 1 → s.time.counting = true → s.time.lastSync + 512 ≤ s.time.beat → ∃ t, exec .standbyTakeover s = .next t ∧
       t.time = { s.time with role := 0, state := 1, depth := 0, roosterId := s.ownId, lastSync := s.time.beat,
                              syncDue := false, gen := ((if s.time.accepted then s.time.pairGen else s.time.gen) + 1) % 2 ^ 28 } ∧
       LogsOne s t (3, 0) 0x0050 2 ∧ OnlyChanges [.time, .cnt, .trust] s t) ∧
     (s.time.nextSet = true → s.time.nextB0 ≤ s.time.beat → ∃ t, exec .wallAdopt s = .next t ∧
       t.time = { s.time with wallSet := true, wallB0 := s.time.nextB0, wallW0 := s.time.nextW0, nextSet := false } ∧
       LogsOne s t (0, 0) 0x0050 4 ∧ OnlyChanges [.time, .trust] s t))

/-- A power sample joins the last ten and the millisecond's sum; at the end of a millisecond the budget falls by one above 2,000 W,
or to nothing at a rise above it while hot, and rises by one every fourth cool millisecond below, up to 30,000; a waiting
sideband cap takes effect, logged; the limit in force is the lower of POWER_LIMIT and the cap (20 R496, R497, 23 R552).
LIMIT_STEP: the limit lowers the half with more core power by one gear, an empty budget both; either goes back one gear at a
time when its condition of Table 20-4 holds; where none is called for nothing changes (20 R490, Table 20-4). A clamp engages
while a cause of it is present, takes its half to G3 or slower at the next beat boundary and is counted and logged once; an
overcurrent of VCORE_W or VCORE_E clamps its half, of any other limited rail both; it is released after 1,000 beats with its
cause absent, a thermal one once Tj has been at or below 105 °C for 10,000, and its beats are counted (20 R498, Table 20-4,
Table 20-5). -/
def Obligations.PowerIsSampledAndLimited : Prop :=
  (∀ (r : PowerReading) (s : State),
     let l := s.pwr.samples ++ [r.watts]
     let p := s.pwr.msSum / s.pwr.msCount
     let capWaits := s.dev.sbCap ≠ s.dev.sbCapForce ∧ s.dev.state.fromIdle = true
     (wellFormed (.powerSample r) = true → s.dev.state ≠ .cold → ∃ t, exec (.powerSample r) s = .next t ∧
       t.pwr.samples = l.drop (l.length - 10) ∧ t.pwr.msSum = s.pwr.msSum + r.watts ∧ t.pwr.msCount = s.pwr.msCount + 1 ∧
       t.pwr.vIn = r.vIn ∧ t.pwr.iIn = r.iIn ∧ t.pwr.lowVin = (if r.vIn < 4600 then s.pwr.lowVin + 1 else 0) ∧
       t.pwr.highVin = (if 6200 < r.vIn then s.pwr.highVin + 1 else 0) ∧ t.pwr.west.gear = s.pwr.west.gear ∧
       t.pwr.east.gear = s.pwr.east.gear ∧ OnlyChanges [.pwr] s t) ∧
     (s.pwr.msCount ≠ 0 → ∃ t, exec .budgetTick s = .next t ∧ t.pwr.p1ms = p ∧ t.pwr.msSum = 0 ∧ t.pwr.msCount = 0 ∧
       t.pwr.history = (s.pwr.history ++ [p]).drop (s.pwr.history.length + 1 - 1000) ∧
       t.pwr.budget = (if 2000 < p then (if s.pwr.above = false ∧ 85 < s.pwr.tj then 0 else s.pwr.budget - 1)
         else if s.pwr.tj ≤ 85 ∧ s.pwr.refill = 3 then min 30000 (s.pwr.budget + 1) else s.pwr.budget) ∧
       t.pwr.above = decide (2000 < p) ∧
       (capWaits → t.dev.sbCapForce = s.dev.sbCap ∧ t.dev.sbCapPending = false ∧ LogsOne s t (5, 0) 0x0011 3) ∧
       (¬ capWaits → t.dev.sbCapForce = s.dev.sbCapForce ∧ t.trust = s.trust) ∧
       t.pwr.inForce = min s.pwr.limit t.dev.sbCapForce ∧
       t.dev.state = s.dev.state ∧ OnlyChanges [.pwr, .dev, .cnt, .trust] s t)) ∧
  (∀ s : State, s.dev.state.fromIdle = true →
     ∃ t, exec .limitStep s = .next t ∧ OnlyChanges [.pwr, .cnt, .trust, .out, .fab] s t ∧ s.out <+: t.out ∧
       PortsOnly [0, 2, 4] s t ∧
       (s.limitAction = 0 → t = s) ∧
       (s.limitAction = 1 → s.pwr.coreE ≤ s.pwr.coreW → t.pwr.west.limitStep = min 3 (s.pwr.west.limitStep + 1) ∧
         t.pwr.east.limitStep = s.pwr.east.limitStep) ∧
       (s.limitAction = 1 → s.pwr.coreW < s.pwr.coreE → t.pwr.east.limitStep = min 3 (s.pwr.east.limitStep + 1) ∧
         t.pwr.west.limitStep = s.pwr.west.limitStep) ∧
       (s.limitAction = 2 → t.pwr.west.limitStep = s.pwr.west.limitStep - 1 ∧ t.pwr.east.limitStep = s.pwr.east.limitStep - 1) ∧
       (s.limitAction = 3 → t.pwr.west.peakStep = min 3 (s.pwr.west.peakStep + 1) ∧
         t.pwr.east.peakStep = min 3 (s.pwr.east.peakStep + 1)) ∧
       (s.limitAction = 4 → t.pwr.west.peakStep = s.pwr.west.peakStep - 1 ∧ t.pwr.east.peakStep = s.pwr.east.peakStep - 1) ∧
       (s.limitAction = 1 ∨ s.limitAction = 3 → s.cntGet PwrCnt.noticesTx < 0xFFFFFFFE →
         s.cntGet PwrCnt.noticesTx < t.cntGet PwrCnt.noticesTx)) ∧
  (∀ (h : Fin 2) (rail : Fin 10) (s : State),
     let p := s.half h.val
     (s.dev.state.fromIdle = true → s.clampCauseNow = true → ∃ t, exec (.clampEngage h) s = .next t ∧
       (t.half h.val).clamp = true ∧ (t.half h.val).clampCause = s.time.beat ∧
       (t.half h.val).gear = p.gear ∧ 3 ≤ (t.gearBoundary.half h.val).gear ∧
       (p.clamp = false → (t.half h.val).clampBeat = s.time.beat ∧
         LogsOne s t (3, 0) 0x0060 (2 + h.val) ∧ t.cntGet PwrCnt.clamps = min (s.cntGet PwrCnt.clamps + 1) 0xFFFFFFFF) ∧
       (p.clamp = true → OnlyChanges [.pwr] s t) ∧ OnlyChanges [.pwr, .cnt, .trust] s t) ∧
     (s.dev.state.fromIdle = true → ∃ t, exec (.railOvercurrent rail) s = .next t ∧
       t.pwr.west.clamp = (s.pwr.west.clamp || decide (rail.val ≠ 1 ∧ rail.val ≠ 9)) ∧
       t.pwr.east.clamp = (s.pwr.east.clamp || decide (rail.val ≠ 0 ∧ rail.val ≠ 9)) ∧ OnlyChanges [.pwr, .cnt, .trust] s t) ∧
     (∃ t, exec (.clampRelease h) s = .next t ∧
       if p.clamp = true ∧ p.clampBeat + 1000 ≤ s.time.beat ∧ p.clampCause + 1000 ≤ s.time.beat ∧ s.clampCauseNow = false ∧
           (p.clampTherm = true → s.pwr.tj ≤ 105 ∧ s.pwr.hotBeat + 10000 ≤ s.time.beat) then
         (t.half h.val).clamp = false ∧ LogsOne s t (3, 0) 0x0060 (2 + h.val) ∧
         t.cntGet PwrCnt.clampBeats = min (s.cntGet PwrCnt.clampBeats + (s.time.beat - p.clampBeat)) 0xFFFFFFFF ∧
         OnlyChanges [.pwr, .cnt, .trust] s t
       else t = s))

/-- Temperatures: at 100 °C the thermal alert stands, its vector is raised and both halves step a gear down, again every 100,000
beats; at or below 90 °C the alert goes, and after 1,000,000 beats there the halves step back up by one; a stack at 95 °C
throttles, one at or below 90 °C does not (20 R500, Table 20-5). Gear notices: one received is counted and forwarded with one
hop less while hops are left; a RAISE takes its halves out of its sender's entries, another notice puts one entry for them
there, unless 48 are held; an entry takes effect at its beat and expires 1,000,000 beats after it came; a module's own lowering
is told again every 250,000 beats (20 R492). Gears: 64 beats before a GEAR entry fires the rails of the halves it names start to
rise, if it asks a faster gear; a raise that waits takes effect once the rail stands at its voltage, 5 mV/µs after it started;
the power manager's work missed through a move of its role is cause SHEEPDOG (16 R406, 20 R488, R489). At an envelope entry's
pre-ramp beat the rails' setpoints become those of the entry, or stay higher while the earlier ramp lasts; a ramp that is missed
is only counted, unless it is missed through a role move (16 R406, 20 R493, R495). -/
def Obligations.TemperaturesAndGears : Prop :=
  (∀ (tj i o temp : Nat) (k : Fin 8) (s : State), s.dev.state ≠ .cold → tj < 256 → i < 256 → o < 256 → temp < 256 →
     let b := s.time.beat
     let w := s.pwr.west.thermStep
     let e := s.pwr.east.thermStep
     (∃ t, exec (.thermalSample tj i o) s = .next t ∧ t.pwr.tj = tj ∧ t.pwr.tInlet = i ∧ t.pwr.tOutlet = o ∧
       OnlyChanges [.pwr, .dev, .host, .out, .cnt, .trust, .fab] s t ∧ PortsOnly [0, 2, 4] s t ∧
       t.dev = { s.dev with sbAlertTj := if 100 ≤ tj then true else if tj ≤ 90 then false else s.dev.sbAlertTj } ∧
       (100 ≤ tj → s.dev.sbAlertTj = false ∨ s.pwr.thermBeat + 100000 ≤ b →
         t.pwr.west.thermStep = min 3 (w + 1) ∧ t.pwr.east.thermStep = min 3 (e + 1) ∧ t.pwr.thermBeat = b) ∧
       (100 ≤ tj → s.dev.sbAlertTj = true → b < s.pwr.thermBeat + 100000 → t.pwr.west.thermStep = w ∧ t.pwr.east.thermStep = e) ∧
       (90 < tj → tj < 100 → t.pwr.west.thermStep = w ∧ t.pwr.east.thermStep = e ∧ t.pwr.coolSince = b) ∧
       (tj ≤ 90 → s.pwr.coolSince + 1000000 ≤ b → 0 < w ∨ 0 < e → t.pwr.west.thermStep = w - 1 ∧ t.pwr.east.thermStep = e - 1)) ∧
     (∃ t, exec (.stackTemperatureReport k temp) s = .next t ∧ t.pwr.tStack = s.pwr.tStack.set k.val temp ∧
       t.pwr = { s.pwr with tStack := t.pwr.tStack, hot := t.pwr.hot } ∧
       (95 ≤ temp → s.ringsBounded → t.dev.sbAlertHbm = true ∧ t.pwr.hot.getD k.val false = true ∧
         t.cntGet PwrCnt.hbmThrottleMs = min (s.cntGet PwrCnt.hbmThrottleMs + 1) 0xFFFFFFFF) ∧
       (temp ≤ 90 → t.pwr.hot.getD k.val false = false ∧ t.cnt = s.cnt) ∧
       (t.pwr.tStack.all (fun x => decide (x ≤ 90)) = true → temp ≤ 90 → t.dev.sbAlertHbm = false) ∧
       OnlyChanges [.pwr, .dev, .host, .out, .cnt] s t)) ∧
  (∀ (port : Fin 8) (n : GearNotice) (x : PeerEntry) (s : State), n.ok = true → s.dev.state ≠ .cold →
     let others := s.pwr.peers.filterMap (PeerEntry.without n)
     (∃ t, exec (.gearNoticeRx port n) s = .next t ∧
       (n.left = 0 → t.out = s.out ∧ t.fab = s.fab) ∧
       (0 < n.left → Hands s t (port.val ^^^ 1) (.gearNotice (port.val ^^^ 1) { n with left := n.left - 1 })
           [cardFlit 5 7 (s.linkDst (port.val ^^^ 1)) (gearPayload { n with left := n.left - 1 })] ∧ PortsOnly [port.val ^^^ 1] s t) ∧
       t.cntGet PwrCnt.noticesRx = min (s.cntGet PwrCnt.noticesRx + 1) 0xFFFFFFFF ∧
       (n.raise = true → t.pwr.peers = others) ∧
       (n.raise = false → others.length < s.pwr.peers.length ∨ others.length < 48 →
         ∃ e, t.pwr.peers = others ++ [e] ∧ e.src = n.srcId ∧ e.half = n.half ∧ e.gear = n.gear ∧ e.effective = n.effective ∧
           e.received = s.time.beat ∧ e.inForce = false) ∧
       (n.raise = false → others.length = s.pwr.peers.length → 48 ≤ others.length → t.pwr = s.pwr ∧
         t.cntGet PwrCnt.noticeDropped = min (s.cntGet PwrCnt.noticeDropped + 1) 0xFFFFFFFF) ∧
       OnlyChanges [.pwr, .out, .cnt, .trust, .fab] s t) ∧
     (s.pwr.peers.find? (fun e => !e.inForce && decide (e.effective ≤ s.time.beat)) = some x →
       ∃ t, exec .peerEntryEffective s = .next t ∧ t.pwr.peers.length = s.pwr.peers.length ∧ { x with inForce := true } ∈ t.pwr.peers ∧
         x ∉ t.pwr.peers ∧ (x.heldW = 0 → x.heldE = 0 → ∀ h, s.pmCeil h ≤ t.pmCeil h) ∧ OnlyChanges [.pwr, .cnt, .trust] s t) ∧
     (s.pwr.peers.find? (fun e => decide (e.received + 1000000 ≤ s.time.beat)) = some x →
       ∃ t, exec .peerEntryExpire s = .next t ∧ t.pwr.peers = s.pwr.peers.erase x ∧ OnlyChanges [.pwr, .cnt, .trust] s t) ∧
     (0 < s.ownStep 0 ∨ 0 < s.ownStep 1 → s.pwr.renewBeat + 250000 ≤ s.time.beat → ∃ t, exec .gearNoticeRenew s = .next t ∧
       t.pwr = { s.pwr with renewBeat := s.time.beat } ∧ s.out <+: t.out ∧ PortsOnly [0, 2, 4] s t ∧
       OnlyChanges [.pwr, .out, .cnt, .fab] s t)) ∧
  (∀ (h : Fin 2) (i b : Nat) (e : Entry) (s : State),
     (s.planRuns = true → s.nextGearEntry = some (i, b, e) → b ≤ s.time.beat + 64 →
       ∃ t, exec .gearPreramp s = .next t ∧ t.pwr.preramp = i + 1 ∧
         (s.roleMoving 1 = true → RoleMissed s t 1 ∧ t.half h.val = s.half h.val ∧ OnlyChanges [.pwr, .flt, .cnt, .trust] s t) ∧
         (s.roleMoving 1 = false → (bit e.arg (2 + h.val) = false → t.half h.val = s.half h.val) ∧
           (bit e.arg (2 + h.val) = true → bits e.arg 0 2 < (s.half h.val).railGear → (s.half h.val).raising = false →
             t.half h.val = { s.half h.val with raising := true, raiseTo := bits e.arg 0 2, raiseFrom := s.time.beat }) ∧
           OnlyChanges [.pwr] s t)) ∧
     (∃ t, exec (.gearRaiseDeferred h) s = .next t ∧
       if s.wantGear h.val < (s.half h.val).gear ∧ s.railAt h.val (s.wantGear h.val) = true then
         (t.half h.val).gear = s.wantGear h.val ∧ (t.half h.val).railGear = s.wantGear h.val ∧
         (∀ j, j < 2 → j ≠ h.val → t.half j = s.half j) ∧ OnlyChanges [.pwr] s t
       else t = s) ∧
     (∀ g, (s.half h.val).raising = true → (s.half h.val).raiseTo ≤ g →
       (s.half h.val).raiseFrom + ceilDiv (gearMv g - gearMv (s.half h.val).railGear) 5 ≤ s.time.beat → s.railAt h.val g = true)) ∧
  (∀ (missed : Bool) (s : State), s.planRuns = true →
     let n := s.planNat (s.secOff 2) 4
     let w := s.planNat (s.secOff 2 + 16 + 16 * (s.pwr.ramp % n)) 16
     let at_ := s.repStart (s.plan.startRep + s.pwr.ramp / n) + bits w 0 48
     0 < n → at_ ≤ s.time.beat + bits w 96 16 →
     ∃ t, exec (.envelopeRamp missed) s = .next t ∧ t.pwr.ramp = s.pwr.ramp + 1 ∧
       (missed = true ∨ s.roleMoving 1 = true → t.pwr.setpoint = s.pwr.setpoint ∧
         t.cntGet PwrCnt.rampMissed = min (s.cntGet PwrCnt.rampMissed + 1) 0xFFFFFFFF) ∧
       (s.roleMoving 1 = true → RoleMissed s t 1 ∧ OnlyChanges [.pwr, .cnt, .flt, .trust] s t) ∧
       (missed = true → s.roleMoving 1 = false → OnlyChanges [.pwr, .cnt] s t) ∧
       (missed = false → s.roleMoving 1 = false → at_ ≤ s.time.beat → t.pwr.setpoint = bits w 48 48 ∧ OnlyChanges [.pwr] s t) ∧
       (missed = false → s.roleMoving 1 = false → ∀ i, i < 3 → bits w (48 + 16 * i) 16 ≤ bits t.pwr.setpoint (16 * i) 16))

/-! ## Start-up, reset, faults (02, 16, 20 to 23) -/

/-- PWR_EN with 56 V present powers the part on: BOOTING, logged, VAUX on, the boot counter one higher, SLOT_ID latched if VAUX was
off; within 200 ms of a deassertion it is only noted, and the power-on follows when the delay is over (21 R517, 22 R529, 23
R548, R549). Every power-off leaves COLD with what flash and fuses hold and nothing else: no plan, no unit command, every
counter 0, unlisted memory (it reads as the model chose, log 3). VAUX outlives PWR_EN only while a trip cause is latched and
never the input power; a trip keeps VAUX, asserts THERMTRIP# for causes 1 and 2 and ALERT# for the others, and SB_TRIP keeps the
first trip (19 R461, 20 R499, 21 Table 21-8, 22 Table 22-1, 23 R548, R549, R551). RESET_IN# starts a warm reset of kind 3 in
every state but COLD; a trigger during one is absorbed and logged, and after an EXTEST it has no effect on the part's state (21
R521, 22 R535). Loss of the board reference latches TIME_LOST while the beat counter runs on (21 R504). -/
def Obligations.PowerOnAndOff : Prop :=
  (∀ (slot : Fin 64) (within : Bool) (s : State), s.dev.state = .cold →
     let on := fun t : State => t.dev.state = .booting ∧ t.dev.vaux = true ∧ t.dev.reassertWait = false ∧
       t.dev.afterTrip = decide (s.dev.sbTripCause ≠ 0) ∧ t.trust.bootCount = s.trust.bootCount + 1 ∧ LogsOne s t (3, 0) 0x0001 0 ∧
       OnlyChanges [.dev, .trust, .host, .out, .cnt] s t
     (s.dev.pwrEn = false → ∃ t, exec (.pwrEnAssert slot within) s = .next t ∧ t.dev.pwrEn = true ∧ t.dev.v56 = true ∧
       t.dev.slotId = (if s.dev.vaux then s.dev.slotId else slot.val) ∧
       if within then t.dev.state = .cold ∧ t.dev.reassertWait = true ∧ OnlyChanges [.dev] s t else on t) ∧
     (s.dev.reassertWait = true → s.dev.pwrEn = true → s.dev.v56 = true →
       ∃ t, exec .pwrEnReassertDelay s = .next t ∧ on t ∧ t.dev.pwrEn = true)) ∧
  (∀ (cause : Fin 16) (detail : Nat) (s : State),
     let off := fun t : State => t.dev.state = .cold ∧ t.mem = [] ∧ (∀ k, t.cntGet k = 0) ∧ t.plan = PlanState.reset ∧
       t.unit = Units.reset ∧ t.flt = Faults.reset ∧ t.time = Time.reset ∧ t.pwr = Power.reset ∧ t.fab = Fabric.reset ∧
       t.host = HostPorts.reset ∧ t.trust.images = s.trust.images ∧ t.trust.active = s.trust.active ∧
       t.trust.bootCount = s.trust.bootCount ∧ t.trust.svnFuses = s.trust.svnFuses ∧ t.trust.revoked = s.trust.revoked ∧
       t.trust.durable = s.trust.durable ∧ t.geo.fusedCore = s.geo.fusedCore ∧ t.geo.fusedHole = s.geo.fusedHole ∧
       t.geo.holes = s.geo.holes ∧ t.geo.fences = s.geo.fences ∧ t.geo.mapGen = s.geo.mapGen ∧ t.out = s.out
     let trip := (s.dev.sbTripCause, s.dev.sbTripDetail, s.dev.sbTripBeat)
     (s.dev.pwrEn = true → ∃ t, exec .pwrEnDeassert s = .next t ∧ off t ∧ t.dev.pwrEn = false ∧ t.dev.v56 = s.dev.v56 ∧
       t.dev.thermTrip = false ∧ t.dev.alertTrip = false ∧ t.dev.vaux = decide (s.dev.sbTripCause ≠ 0) ∧
       (s.dev.sbTripCause ≠ 0 → (t.dev.sbTripCause, t.dev.sbTripDetail, t.dev.sbTripBeat) = trip ∧ t.dev.slotId = s.dev.slotId ∧
         t.dev.sbCap = s.dev.sbCap) ∧
       (s.dev.sbTripCause = 0 → t.dev.sbCap = 2000)) ∧
     (s.dev.v56 = true → ∃ t, exec .inputPowerLoss s = .next t ∧ off t ∧ t.dev.vaux = false ∧ t.dev.sbTripCause = 0 ∧
       t.dev.sbCap = 2000) ∧
     (wellFormed (.trip cause detail) = true → s.dev.state ≠ .cold → s.tripPresent cause.val detail = true →
       ∃ t, exec (.trip cause detail) s = .next t ∧ off t ∧ t.dev.vaux = true ∧ t.dev.thermTrip = decide (cause.val ≤ 2) ∧
         t.dev.alertTrip = decide (3 ≤ cause.val) ∧ t.dev.sbCap = s.dev.sbCap ∧ t.dev.slotId = s.dev.slotId ∧
         (t.dev.sbTripCause, t.dev.sbTripDetail, t.dev.sbTripBeat) =
           (if s.dev.sbTripCause = 0 then (cause.val, detail, s.time.beat) else trip))) ∧
  (∀ s : State, s.dev.state ≠ .cold →
     (∃ t, exec .resetIn s = .next t ∧ OnlyChanges [.dev, .trust] s t ∧
       (s.dev.extest = true → t.dev = { s.dev with resetInLow := true } ∧ t.trust = s.trust) ∧
       (s.dev.extest = false → s.dev.warmStep ≠ 0 → t.dev = { s.dev with resetInLow := true } ∧ LogsOne s t (3, 0) 0x0001 3) ∧
       (s.dev.extest = false → s.dev.warmStep = 0 → t.trust = s.trust ∧
         t.dev = { s.dev with resetInLow := true, warmStep := 1, warmBeat := s.time.beat, warmOrigin := (3, 0), lastReset := 3,
                              hbmKept := true, fail := false, failCode := 0, tripWait := false })) ∧
     (s.dev.boardRef = true → ∃ t, exec .boardRefLoss s = .next t ∧ t.dev = { s.dev with boardRef := false } ∧
       t.flt.pendingEntry = true ∧ (s.flt.cause = 0 → t.flt.cause = 9) ∧ LogsOne s t (3, 0) 0x0002 0 ∧ t.time = s.time ∧
       OnlyChanges [.dev, .flt, .cnt, .trust] s t))

/-- Each start-up step that is done does what Table 21-6 says of it: step 2 PGOOD and the beat counter at 0 in FREE; step 3 the slot
of a valid image, the active one first; step 4 Filuidom on all eight Sheepdogs; step 6 training of the ports that are down; step
8 a map generation; step 9 IDLE unless it waits for a temperature below 85 °C after a trip. A step that fails, or step 3 with no
valid image, leaves BOOTING with FAIL; a cold start's step past its bound is not done (21 R517, R520, 22 R529, 23 R551, R552).
The warm-reset sequence: W1 stops every unit, goes to BOOTING and resets both ports; W2 lets held writes reach their pages and
acknowledges the messages that waited for them; W3 clears the cores, the plan and the counters and keeps HBM; W4 fences every
mesh stop and empties the remap table once the lanes are empty; W5 changes nothing; W6 leads to step 3 of start-up and W7, after
step 4, to step 8, or fails with code 4 (16 R410, 21 R514, R522). -/
def Obligations.StartUpAndWarmReset : Prop :=
  (∀ (ms : Nat) (s : State), ms < 2 ^ 32 → s.dev.state = .booting → s.dev.fail = false →
     s.dev.warmStep = 0 ∨ (s.dev.warmStep = 7 ∧ (s.dev.stepDone = 2 ∨ s.dev.stepDone = 3)) ∨ s.dev.warmStep = 8 →
     let n := s.dev.stepDone + 1
     let late := s.dev.lastReset = 0 ∧ stepBound n < ms ∧ s.dev.tripWait = false
     (n ≤ 9 → ∃ t, exec (.startStepDone false ms) s = .next t ∧ t.dev.fail = true ∧ t.dev.failCode = failCodeOf n false ∧
       t.dev.state = .booting ∧ t.dev.stepDone = s.dev.stepDone ∧ OnlyChanges [.dev, .fab] s t) ∧
     (n ≤ 9 → late → exec (.startStepDone true ms) s = .next s) ∧
     (n ≤ 9 → ¬ late → ∃ t, exec (.startStepDone true ms) s = .next t ∧
       OnlyChanges [.dev, .fab, .time, .pwr, .cnt, .flt, .trust, .geo, .pte, .host, .out] s t ∧
       (n = 1 ∨ n = 5 ∨ n = 7 → t.dev = { s.dev with stepDone := n } ∧ OnlyChanges [.dev, .fab] s t) ∧
       (n = 2 → t.dev = { s.dev with stepDone := 2, pgood := true } ∧ t.time = { Time.reset with counting := true } ∧
         3 ≤ t.pwr.west.gear ∧ 3 ≤ t.pwr.east.gear ∧ OnlyChanges [.dev, .fab, .time, .pwr, .cnt] s t) ∧
       (n = 3 → OnlyChanges [.dev, .fab] s t ∧
         match s.bootSlot with
         | some k => t.dev = { s.dev with stepDone := 3, fwSlot := k, fallback := decide (k ≠ s.trust.active) }
         | none => t.dev.fail = true ∧ t.dev.failCode = 2 ∧ t.dev.stepDone = 2 ∧ t.dev.state = .booting) ∧
       (n = 4 → t.dev.fwRunning = true ∧ t.dev.fwVersion = imageVersion (s.slotImage s.dev.fwSlot) ∧
         t.flt.holder = [0, 1, 2, 3, 4, 5, 6, 7] ∧ t.flt.down = [] ∧ (∀ i, i < 8 → Tab.get 0 t.flt.restartBeat i = s.time.beat) ∧
         t.dev.sbTripCause = 0 ∧ t.dev.stepDone = 4 ∧
         (s.dev.sbTripCause ≠ 0 → ∃ d ∈ t.trust.details, d.cls = 0x0060 ∧ d.inst = 0x10 ∧ s.trust.nextSeq ≤ d.seq) ∧
         OnlyChanges [.dev, .fab, .flt, .trust] s t) ∧
       (n = 6 → (∀ p, p < 8 → (t.port p).state = if (s.port p).state = 0 then 1 else (s.port p).state) ∧
         t.dev = { s.dev with stepDone := 6 } ∧ OnlyChanges [.dev, .fab] s t) ∧
       (n = 8 → t.geo.mapGen = (s.geo.mapGen + 1) % 2 ^ 32 ∧ t.geo.published = true ∧ LogsOne s t (0, 0) 0x0041 0xFFFF ∧
         (∀ x, x < 240 → Tab.get false t.geo.fence x = decide (Tab.get 1 t.geo.site x ≠ 0) ∧
           Tab.get false t.geo.coreOn x = decide (Tab.get 1 t.geo.site x = 0)) ∧ OnlyChanges [.dev, .fab, .geo, .trust] s t) ∧
       (n = 9 → if s.dev.afterTrip = true ∧ 85 ≤ s.pwr.tj then t.dev = { s.dev with tripWait := true } ∧ OnlyChanges [.dev, .fab] s t
         else t.dev.state = .idle ∧ t.dev.stepDone = 9 ∧ t.dev.tripWait = false ∧ t.dev.sbCapForce = s.dev.sbCap ∧
           (∀ g, t.pteOf g = State.reset.pteOf g) ∧ (∃ d ∈ t.trust.details, d.cls = 0x0001 ∧ d.seq = s.trust.nextSeq) ∧
           OnlyChanges [.dev, .fab, .pwr, .cnt, .trust, .pte, .host, .out] s t))) ∧
  (∀ (ok : Bool) (ms : Nat) (s : State), ms < 2 ^ 32 →
     let k := s.dev.warmStep
     (1 ≤ k → k < 7 → ∃ t, exec (.warmResetStep ok ms) s = .next t ∧ t.dev.warmStep = k + 1 ∧ t.time = s.time ∧
       (k = 1 → t.dev.state = .booting ∧ t.unitsIdle = true ∧ t.unit.tiles = [] ∧ t.host.steward = 0 ∧ t.host.queue = [] ∧
         (∀ p, p < 2 → Tab.get 0 t.host.aperture p = 0) ∧ (∀ p m, p < 2 → m < 16 → (t.box p m).queue.length ≤ 1) ∧
         t.dev.enlisted = false ∧ t.flt.frozen = false ∧ t.flt.pendingEntry = false ∧ t.geo = s.geo ∧ t.pwr = s.pwr) ∧
       (k = 2 → t.heldWrites = [] ∧ t.fab.unacked = [] ∧ t.dev = { s.dev with warmStep := 3 } ∧
         OnlyChanges [.heldWrites, .mem, .lineErr, .pte, .plan, .cnt, .trust, .dev, .fab, .out] s t) ∧
       (k = 3 → (∀ x, t.stored x = if x < 2 ^ 48 then s.stored x else 0) ∧ t.plan = PlanState.reset ∧ t.unit = Units.reset ∧
         t.acts = Acts.reset ∧ t.ck = Ckpt.reset ∧ t.heldWrites = [] ∧ (∀ g, t.pteOf g = State.reset.pteOf g) ∧
         t.dev.fwRunning = false ∧ t.trust.images = s.trust.images ∧ t.trust.chain = s.trust.chain ∧ t.geo = s.geo ∧
         t.flt = s.flt ∧ t.host = s.host ∧ t.pwr.west.clamp = s.pwr.west.clamp ∧ t.pwr.east.clamp = s.pwr.east.clamp ∧
         t.pwr.limit = 2000 ∧ t.pwr.peers = []) ∧
       (k = 4 → (∀ x, x < 240 → Tab.get false t.geo.fence x = true ∧ Tab.get false t.geo.coreOn x = false) ∧
         t.geo.published = false ∧ t.geo.holes = s.geo.holes ∧ t.geo.mapGen = s.geo.mapGen ∧ t.fab.ports = s.fab.ports ∧
         (s.lanesEmpty = true → t.fab.remap = []) ∧ OnlyChanges [.geo, .fab, .dev] s t) ∧
       (k = 5 → t.dev = { s.dev with warmStep := 6 } ∧ OnlyChanges [.dev, .fab] s t) ∧
       (k = 6 → t.dev = { s.dev with warmStep := 7, stepDone := 2 } ∧ OnlyChanges [.dev, .fab] s t)) ∧
     (k = 7 → s.dev.stepDone = 4 → ∃ t, exec (.warmResetStep ok ms) s = .next t ∧ t.dev.state = s.dev.state ∧
       (ok = true → t.dev = { s.dev with warmStep := 8, stepDone := 7 } ∧ OnlyChanges [.dev, .fab] s t) ∧
       (ok = false → t.dev.fail = true ∧ t.dev.failCode = 4 ∧ t.dev.warmStep = 0 ∧ OnlyChanges [.dev] s t)))

/-- Entering FAULTED is one action: every unit command in progress stops, a scope 1 fault abandons an open checkpoint stream, the
cause enters the fault record, a notice with it leaves by every port that carries lane 7, and every command that waits at a
mailbox ends with FAULTED. In FAULTED or HALTED a further cause changes only the mark (16 R404, R405, R412). The first copy of a
fault notice freezes checkpoints, records its source, is counted and leaves by every other port that carries lane 7; a later
copy is dropped (16 R405). A write of 1 to a mesh stop's FENCE closes every stop of its site: an enabled core there goes to
state 5, its command in progress ends with no signal and MISSING is set, the queues it produces break; a 0 opens a stop whose
site state is 0 and is ignored at any other. A stop that has drained reads FENCED, with the last of its site the cores' power is
removed, and the FENCE_CORE that waits for it makes its record. A mesh stop that fails becomes a hole, recorded, with cause
MESH_STOP (02 R31, R34, R36, Table 02-4). -/
def Obligations.FaultsNoticesAndFences : Prop :=
  (∀ s : State, s.flt.pendingEntry = true → s.flt.cause ≠ 0 →
     (s.dev.state.fromIdle = true → s.dev.state ≠ .faulted → s.dev.state ≠ .halted → ∃ t, exec .faultEnter s = .next t ∧
       t.dev = { s.dev with state := .faulted } ∧ t.unitsIdle = true ∧ t.unit.tiles = [] ∧ t.flt.pendingEntry = false ∧
       t.flt.noticeSent = true ∧ t.flt.cause = s.flt.cause ∧ t.flt.detail = s.flt.detail ∧
       (∃ e, t.flt.record.getLast? = some e ∧ e.beat = s.time.beat ∧ bits e.value 0 8 = s.flt.cause % 2 ^ 8) ∧
       (∀ p ∈ s.lane7Ports, OutEvent.faultNotice p
         { src := s.fabricAddr, cause := s.flt.cause, detail := s.flt.detail, beat := s.flt.beat } ∈ t.out) ∧
       (s.flt.scope = 1 → s.ck.state = 1 → t.ck.state = 5) ∧ (s.flt.scope = 0 → t.ck = s.ck) ∧
       (s.dev.fwRunning = true → (∀ q n, (s.box q n).queue.length ≤ 4) → ∀ q n, q < 2 → n < 16 → (t.box q n).queue = []) ∧
       PortsOnly s.lane7Ports s t ∧ t.time = s.time ∧ t.geo = s.geo ∧ t.pwr = s.pwr ∧ t.acts = s.acts ∧ t.plan.loaded = s.plan.loaded) ∧
     (s.dev.state = .faulted ∨ s.dev.state = .halted → ∃ t, exec .faultEnter s = .next t ∧
       t.flt = { s.flt with pendingEntry := false } ∧ OnlyChanges [.flt] s t)) ∧
  (∀ (port : Fin 16) (n : FaultNotice) (s : State), n.ok = true → s.dev.state ≠ .cold →
     (s.flt.seen.contains (n.src, n.beat) = true → exec (.faultNoticeRx port n) s = .next s) ∧
     (s.flt.seen.contains (n.src, n.beat) = false → ∃ t, exec (.faultNoticeRx port n) s = .next t ∧ t.flt.frozen = true ∧
       t.flt.noticeSrc = (if s.flt.noticeGot then s.flt.noticeSrc else if n.src < 0x1000 then n.src else 0xFFF) ∧
       t.flt.seen.contains (n.src, n.beat) = true ∧ t.flt.cause = s.flt.cause ∧
       (∃ l, t.out = s.out ++ l ∧ l.filterMap (fun e => match e with | .faultNotice p m => some (p, m) | _ => none) =
         (s.lane7Ports.filter (fun p => decide (p ≠ port.val))).map (fun p => (p, n))) ∧
       PortsOnly (s.lane7Ports.filter (fun p => decide (p ≠ port.val))) s t ∧
       t.cntGet FaultCnt.noticesRx = min (s.cntGet FaultCnt.noticesRx + 1) 0xFFFFFFFF ∧ OnlyChanges [.flt, .out, .cnt, .host, .fab] s t)) ∧
  (∀ (pos : Fin 240) (v : Word) (s : State),
     let site := sitePositions pos.val
     (s.dev.state ≠ .cold → bit v.toNat 0 = true →
       ∃ t, exec (.msCtrlWrite pos v) s = .next t ∧
         (∀ x, Tab.get false t.geo.fence x = (site.contains x || Tab.get false s.geo.fence x)) ∧
         (∀ x, Tab.get 1 t.geo.site x =
           if x ∈ site ∧ Tab.get false s.geo.fence x = false ∧ Tab.get 1 s.geo.site x = 0 then 5 else Tab.get 1 s.geo.site x) ∧
         t.geo.fenced = s.geo.fenced ∧ t.geo.map = s.geo.map ∧ t.dev = s.dev ∧ t.host = s.host ∧ t.fab = s.fab ∧ t.time = s.time ∧
         ((∀ x ∈ site, Tab.get false s.geo.fence x = true) → t = s) ∧
         (∀ u, (∀ x ∈ site, s.logicalAt x ≠ some u) → t.stream u = s.stream u) ∧
         (∀ x ∈ site, Tab.get false s.geo.fence x = false → ∀ i, s.logicalAt x = some i → i < 218 → (t.stream i).flight = [] ∧
           ((s.stream i).flight ≠ [] → bit t.plan.health 2 = true) ∧
           ((∀ y ∈ site, ∀ j, s.logicalAt y = some j → (s.stream j).flight = []) → s.plan.loaded = true →
             ∀ q, q < 240 → bits (s.queueEntry q) 0 8 = i → (t.queue q).broken = true ∧ bit t.plan.health 2 = true))) ∧
     (s.dev.state ≠ .cold → bit v.toNat 0 = false → ∃ t, exec (.msCtrlWrite pos v) s = .next t ∧
       if Tab.get 1 s.geo.site pos.val = 0 then
         (∀ x, Tab.get false t.geo.fence x = (decide (x ≠ pos.val) && Tab.get false s.geo.fence x)) ∧
         (∀ x, Tab.get false t.geo.fenced x = (decide (x ≠ pos.val) && Tab.get false s.geo.fenced x)) ∧ OnlyChanges [.geo] s t
       else t = s) ∧
     (Tab.get false s.geo.fence pos.val = true → Tab.get false s.geo.fenced pos.val = false →
       ∃ t, exec (.fenceDrained pos) s = .next t ∧
         (∀ x, Tab.get false t.geo.fenced x = (decide (x = pos.val) || Tab.get false s.geo.fenced x)) ∧
         (site.all (fun x => Tab.get false t.geo.fenced x) = true → ∀ x,
           Tab.get false t.geo.coreOn x = (!site.contains x && Tab.get false s.geo.coreOn x)) ∧
         (site.all (fun x => Tab.get false t.geo.fenced x) = false → t.geo.coreOn = s.geo.coreOn) ∧ OnlyChanges [.geo, .host] s t ∧
         (s.host.queue = [] → t.host = s.host) ∧
         (∀ q rest, s.host.queue = q :: rest → s.settled q.port q.mbox →
           if q.waiting = true ∧ ((s.head q.port q.mbox).map Command.opcode) = some 0x42 ∧
               (sitePositions q.arg).all (fun x => Tab.get false t.geo.fenced x) = true then Answers s t q.port q.mbox 0 q.arg []
           else t.host = s.host)) ∧
     (s.dev.state ≠ .cold → Tab.get 1 s.geo.site pos.val ≠ 3 → Tab.get 1 s.geo.site pos.val ≠ 4 →
       ∃ t, exec (.meshStopFail pos) s = .next t ∧ Tab.get 1 t.geo.site pos.val = 4 ∧
         t.geo.holes = s.geo.holes ++ [{ pos := pos.val, beat := s.time.beat }] ∧ t.geo.fence = s.geo.fence ∧
         t.flt.pendingEntry = true ∧ (s.flt.cause = 0 → t.flt.cause = 1 ∧ t.flt.detail = pos.val ∧ t.flt.scope = 1) ∧
         (∃ d ∈ t.trust.details, d.cls = 0x0041 ∧ d.seq = s.trust.nextSeq) ∧ OnlyChanges [.geo, .flt, .cnt, .trust] s t))

/-- A watchdog restarted stands at this beat; one not restarted for 4,000 beats takes its Sheepdog out, and each role it holds or
was to take starts to move to the free standby of its half, else of the other half; with none the module takes cause SHEEPDOG. A
move that is done gives the standby the role, logged and counted; that of a host port raises its service epoch and ends the
command it executed with TIMEOUT (16 R406, 18 R450). The responder answers in every state but COLD: STATUS refreshes the status
block and LOG_TAIL the last 32 log entries; HALT needs its key and is refused while BOOTING; RESET_PART comes from the steward
port, from the other only in BOOTING, FAULTED or HALTED, needs its key and triggers a warm reset of kind 2; each answer gives
the tag, done and the result, and a refusal is counted (16 R407 to R412). -/
def Obligations.WatchdogsAndResponder : Prop :=
  (∀ (n : Fin 8) (s : State),
     let s1 : State :=
       { s with flt.down := s.flt.down ++ [n.val], flt.moving := s.flt.moving.filter (fun m => decide (m.2 ≠ n.val)) }
     let owed := (s.flt.moving.filter (fun m => decide (m.2 = n.val))).map (fun m => m.1)
     (s.dev.fwRunning = true → s.flt.down.contains n.val = false → ∃ t, exec (.watchdogRestart n) s = .next t ∧
       (∀ i, Tab.get 0 t.flt.restartBeat i = if i = n.val then s.time.beat else Tab.get 0 s.flt.restartBeat i) ∧
       t.flt = { s.flt with restartBeat := t.flt.restartBeat } ∧ OnlyChanges [.flt] s t) ∧
     (s.dev.fwRunning = true → s.flt.down.contains n.val = false → Tab.get 0 s.flt.restartBeat n.val + 4000 ≤ s.time.beat →
       ∃ t, exec (.watchdogExpiry n) s = .next t ∧ t.flt.down = s.flt.down ++ [n.val] ∧ t.flt.holder = s.flt.holder ∧
         OnlyChanges [.flt, .cnt, .trust] s t ∧
         match s1.rolesOf n.val ++ owed with
         | [] => t = s1
         | r :: rs =>
           match s1.standbyFor r with
           | none => t.flt.pendingEntry = true ∧ (s.flt.cause = 0 → t.flt.cause = 0x0D ∧ t.flt.scope = 1) ∧ LogsOne s t (3, 0) 0x0002 0
           | some x => t.flt.moving = s1.flt.moving ++ (r :: rs).map (fun role => (role, x)) ∧ OnlyChanges [.flt] s t) ∧
     (∀ r x, s.flt.moving.filter (fun m => decide (s.flt.holder.getD m.1 m.1 = n.val)) = [(r, x)] → r < 7 →
       s.flt.holder.length = 8 → ∃ t, exec (.roleMoveDone n) s = .next t ∧ t.flt.holder = s.flt.holder.set r x ∧
         t.flt.moving = s.flt.moving.filter (fun m => decide (s.flt.holder.getD m.1 m.1 ≠ n.val)) ∧ LogsOne s t (0, 0) 0x0061 r ∧
         t.cntGet FaultCnt.watchdogMoves = min (s.cntGet FaultCnt.watchdogMoves + 1) 0xFFFFFFFF ∧
         CountersKept [FaultCnt.watchdogMoves] s t ∧ OnlyChanges [.flt, .trust, .cnt, .host] s t ∧
         (r ≠ 0 → r ≠ 4 → t.host = s.host) ∧
         (r = 0 ∨ r = 4 → Tab.get 0 t.host.epoch (r / 4) = (Tab.get 0 s.host.epoch (r / 4) + 1) % 2 ^ 8 ∧
           (∀ p, p ≠ r / 4 → Tab.get 0 t.host.epoch p = Tab.get 0 s.host.epoch p) ∧
           (∀ q, s.host.queue.filter (fun q => q.port == r / 4 && q.checked) = [q] → s.settled (r / 4) q.mbox →
             (s.box (r / 4) q.mbox).queue ≠ [] → Answers s t (r / 4) q.mbox 7 0 [])))) ∧
  (∀ (p : Fin 2) (tag key : Nat) (s : State), tag < 2 ^ 16 → key < 2 ^ 32 → s.dev.state ≠ .cold →
     let done := fun (t : State) (r : Nat) => Tab.get 0 t.flt.respTag p.val = tag ∧ Tab.get false t.flt.respDone p.val = true ∧
       Tab.get 0 t.flt.respResult p.val = r ∧
       t.cntGet FaultCnt.respRequests = min (s.cntGet FaultCnt.respRequests + 1) 0xFFFFFFFF ∧
       (r = 0 → t.cntGet FaultCnt.respRefused = s.cntGet FaultCnt.respRefused) ∧
       (r ≠ 0 → t.cntGet FaultCnt.respRefused = min (s.cntGet FaultCnt.respRefused + 1) 0xFFFFFFFF)
     let key2 := s.dev.state = .booting ∨ s.dev.state = .faulted ∨ s.dev.state = .halted
     (∃ t, exec (.respStatus p tag) s = .next t ∧ done t 0 ∧ Tab.range 0 t.flt.respStatus (64 * p.val) 64 = s.statusBlock ∧
       OnlyChanges [.flt, .cnt] s t) ∧
     (∃ t, exec (.respLogTail p tag) s = .next t ∧ done t 0 ∧ OnlyChanges [.flt, .cnt] s t ∧
       Tab.range 0 t.flt.respLog (2048 * p.val) 2048 = fit 0 2048 (s.trust.sram.drop (s.trust.sram.length - 32)).flatten) ∧
     (∃ t, exec (.respHalt p tag key) s = .next t ∧
       (key ≠ 0x48414C54 → done t 2 ∧ OnlyChanges [.flt, .cnt] s t) ∧
       (key = 0x48414C54 → s.dev.state = .booting → done t 4 ∧ OnlyChanges [.flt, .cnt] s t) ∧
       (key = 0x48414C54 → s.dev.state = .halted → done t 0 ∧ OnlyChanges [.flt, .cnt] s t) ∧
       (key = 0x48414C54 → s.dev.state ≠ .booting → s.dev.state ≠ .halted → done t 0 ∧ HaltedBy s t 2)) ∧
     (∃ t, exec (.respResetPart p tag key) s = .next t ∧
       (s.host.steward ≠ p.val → ¬ key2 → done t 1 ∧ OnlyChanges [.flt, .cnt] s t) ∧
       (s.host.steward = p.val ∨ key2 → key ≠ 0x52534554 → done t 2 ∧ OnlyChanges [.flt, .cnt] s t) ∧
       (s.host.steward = p.val ∨ key2 → key = 0x52534554 → s.dev.extest = false → s.dev.warmStep = 0 → done t 0 ∧
         t.dev = { s.dev with warmStep := 1, warmBeat := s.time.beat, warmOrigin := (2, p.val + 2 * tag), lastReset := 2,
                              hbmKept := true, fail := false, failCode := 0, tripWait := false } ∧
         (∃ e, t.flt.record.getLast? = some e ∧ e.beat = s.time.beat ∧ bits e.value 0 8 = 4) ∧
         OnlyChanges [.flt, .cnt, .trust, .dev] s t)))

/-- The log holder writes the oldest change that waits: its 64 bytes go into the ring in HBM and nowhere else in memory, into the
window and the copy in SRAM, the chain digest takes them in, and LOG_HEAD advances by one; an entry of a durable class waits for
flash, and vector 18 is raised at multiples of 4,096. The durable copy puts the oldest such entry into its slot of the flash
ring (22 R536, R540, R541). FUSE_ADVANCE in IDLE under a running image with ADVANCE raises the anti-rollback counter to the
image's SVN, never lowers it, and blows the revoke bits that the image marks, its own slot's excepted; a bit blown stays so, and
each change is logged (22 R527, R530). While VAUX is up the sideband target takes and gives back a dynamic address, and answers
the three GETs; a cap of 400 to 2,000 W is stored, pending until it is in force, any other value or a short write sets ERR and
is no write; ERR and HALT_REFUSED clear by writing 1 (23 R550, R552, Table 23-8). EXTEST halts the part in every state from
BOOTING on, logged with origin hardware and class 0x0080, and no warm-reset trigger moves it again; IDCODE drives the code,
SAMPLE/PRELOAD drives bits that the model leaves free (log 5), BYPASS changes nothing (22 R535). -/
def Obligations.LogSidebandAndTestPort : Prop :=
  (∀ s : State, s.dev.fwRunning = true →
     (∀ d rest, s.trust.details = d :: rest → ∃ t, exec .logEntryWrite s = .next t ∧
       let e := s.logEntry d
       let n := s.trust.head
       let a := 0x7FFC000000 + 64 * (n % 1048576)
       (∀ i, i < 64 → t.stored (a + i) = e.getD i 0) ∧ BytesKept [(a, 64)] s t ∧
       Tab.range 0 t.trust.window (64 * (n % 16384)) 64 = e ∧ t.trust.sram.getLast? = some e ∧
       t.trust.chain = sha384 (s.trust.chain ++ e) ∧ t.trust.head = n + 1 ∧ t.trust.nextSeq = s.trust.nextSeq ∧
       t.trust.details = rest ∧ bits (leNat e) 192 32 = d.seq % 2 ^ 32 ∧ bits (leNat e) 0 64 = d.beat % 2 ^ 64 ∧
       t.trust.durableWait = (if durableClass d.cls then s.trust.durableWait ++ [e] else s.trust.durableWait) ∧
       t.trust.durable = s.trust.durable ∧ t.trust.images = s.trust.images ∧ t.trust.svnFuses = s.trust.svnFuses ∧
       (if (n + 1) % 4096 = 0 then OnlyChanges [.mem, .lineErr, .trust, .host, .out, .cnt] s t ∧
           ∀ p, p < 2 → Tab.get true s.host.msixMask (vecKey p 18) = true → Tab.get false t.host.msixPend (vecKey p 18) = true
         else OnlyChanges [.mem, .lineErr, .trust] s t)) ∧
     (∀ e rest, s.trust.durableWait = e :: rest → ∃ t, exec .durableLogCopy s = .next t ∧
       Tab.range 0 t.trust.durable (64 * (s.trust.durableHead % 131072)) e.length = e ∧
       (∀ k, k < 64 * (s.trust.durableHead % 131072) ∨ 64 * (s.trust.durableHead % 131072) + e.length ≤ k →
         Tab.get 0 t.trust.durable k = Tab.get 0 s.trust.durable k) ∧
       t.trust = { s.trust with durableWait := rest, durable := t.trust.durable,
                                durableHead := (s.trust.durableHead + 1) % 2 ^ 32 } ∧ OnlyChanges [.trust] s t)) ∧
  (∀ s : State, s.ringsBounded → s.dev.state = .idle → s.dev.fwRunning = true → s.dev.stepDone = 9 →
     let img := s.slotImage s.dev.fwSlot
     imageHdr img 192 1 = 1 → ∃ t, exec .fuseAdvance s = .next t ∧
       t.svnCounter = max s.svnCounter (min 64 (imageSvn img)) ∧
       (∀ k, k < 4 → t.trust.revoked.getD k false =
         (s.trust.revoked.getD k false || (bit (imageHdr img 193 4) k && decide (k ≠ imageKey img)))) ∧
       t.trust.images = s.trust.images ∧ t.trust.active = s.trust.active ∧ s.trust.details <+: t.trust.details ∧
       (s.svnCounter < imageSvn img → s.svnCounter < 64 → ∃ d ∈ t.trust.details, d.cls = 0x0070 ∧ d.inst = 1 ∧ d.seq = s.trust.nextSeq) ∧
       OnlyChanges [.trust] s t) ∧
  (∀ (c : Ccc) (data : List Byte) (s : State), s.dev.vaux = true →
     (wellFormed (.i3cCcc c) = true → ∃ t, exec (.i3cCcc c) s = .next t ∧
       t.dev = { s.dev with sbAddr := t.dev.sbAddr } ∧ OnlyChanges [.dev, .out] s t ∧
       match c with
       | .entdaa a => t.out = s.out ∧ t.dev.sbAddr = (if s.dev.sbAddr = none then some a else s.dev.sbAddr)
       | .setdasa st a => t.out = s.out ∧
           t.dev.sbAddr = (if s.dev.sbAddr = none ∧ st = 0x20 + s.dev.slotId % 8 then some a else s.dev.sbAddr)
       | .rstdaa => t.out = s.out ∧ t.dev.sbAddr = none
       | .getpid => Emits s t (.sideband (Config.i3cIdentity 0)) ∧ t.dev = s.dev
       | .getbcr => Emits s t (.sideband (Config.i3cIdentity 1)) ∧ t.dev = s.dev
       | .getdcr => Emits s t (.sideband (Config.i3cIdentity 2)) ∧ t.dev = s.dev) ∧
     (∃ t, exec (.sbCapWrite data) s = .next t ∧ OnlyChanges [.dev] s t ∧
       let v := leNat (data.take 2)
       (data.length < 2 ∨ v < 400 ∨ 2000 < v → t.dev = { s.dev with sbIndex := 3, sbErr := true }) ∧
       (2 ≤ data.length → 400 ≤ v → v ≤ 2000 →
         t.dev = { s.dev with sbIndex := 3, sbCap := v, sbCapPending := decide (v ≠ s.dev.sbCapForce) } ∧ t.sbRead = v)) ∧
     (∃ t, exec (.sbStatusWrite data) s = .next t ∧ OnlyChanges [.dev] s t ∧
       let v := leNat (data.take 4)
       (data.length < 4 → t.dev = { s.dev with sbIndex := 1, sbErr := true }) ∧
       (4 ≤ data.length → t.dev = { s.dev with sbIndex := 1, sbErr := s.dev.sbErr && !bit v 8,
                                               sbHaltRefused := s.dev.sbHaltRefused && !bit v 9 }))) ∧
  (∀ s : State,
     (s.dev.state ≠ .cold → ∃ t, exec .jtagExtest s = .next t ∧ t.dev.extest = true ∧ t.dev.warmStep = 0 ∧
       t.dev.state = .halted ∧ (∃ d ∈ t.trust.details, d.cls = 0x0080 ∧ d.origin = 3 ∧ d.seq = s.trust.nextSeq) ∧
       (s.dev.state ≠ .halted → HaltedBy s t 3) ∧
       (s.dev.state = .halted → OnlyChanges [.dev, .trust] s t) ∧
       (∀ code o, (t.triggerWarm code o) = t)) ∧
     (s.dev.vaux = true → exec (.jtagInstruction .bypass) s = .next s ∧
       (∃ t, exec (.jtagInstruction .idcode) s = .next t ∧ Emits s t (.testPort Config.idcode.toNat) ∧ OnlyChanges [.out] s t) ∧
       (∃ t v, exec (.jtagInstruction .samplePreload) s = .next t ∧ Emits s t (.testPort v) ∧ OnlyChanges [.out, .free] s t)))

/-- A sideband write of the correct KEY halts the part in any state from IDLE on, logged with origin sideband; a wrong KEY, or COLD
or BOOTING, changes nothing and sets HALT_REFUSED; in HALTED nothing changes, so that a later one of several requests finds the
part halted. The index noted by a write is the model's (23 R550, R553, 16 R410). -/
def Obligations.SidebandHalt : Prop :=
  ∀ (data : List Byte) (s : State), s.dev.vaux = true → 4 ≤ data.length →
    let key := leNat (data.take 4) = 0x48414C54
    ∃ t, exec (.sbHaltWrite data) s = .next t ∧
      (key → s.dev.state.fromIdle = true → s.dev.state ≠ .halted → HaltedBy s t 5) ∧
      (key → s.dev.state = .halted → t.dev = { s.dev with sbIndex := 4 } ∧ OnlyChanges [.dev] s t) ∧
      (¬ key ∨ s.dev.state = .cold ∨ s.dev.state = .booting →
        t.dev = { s.dev with sbIndex := 4, sbHaltRefused := true } ∧ OnlyChanges [.dev] s t)

/-! ## The timetable, acts and residency (07, 08, 10, 11, 14) -/

/-- PERIOD_START, at the first beat of the next repetition and after the last entry of the one before, takes every period counter to
0 with the new REP, clears LATE of the running ones and keeps their values, and opens the streams that have ended the repetition
before (12 R287, R296). A MARK gives its signal and nothing else; a GEAR sets the request of the halves that it names, and no
half then runs faster than R488 allows; ACT_START opens its act. Each counts on to the next entry (11 R276, 14 R336, 20 R488). A
DEADLINE whose counter has reached its target changes nothing; one that falls short raises the counter to the target, notes the
shortfall and LATE, raises a late event with its entry, repetition and shortfall (log 143), is counted, sets MISSING if a fenced
unit signals the counter, and abandons the carries on it whose copy has not begun (11 R277, 12 R308, 15 R386). -/
def Obligations.PeriodsAndDeadlines : Prop :=
  (∀ s : State, let n := s.plan.nextRep
     s.planRuns = true → s.repeats = 0 ∨ n < s.repeats → s.repStart n ≤ s.time.beat →
     s.plan.started = false ∨ s.ttCount ≤ s.plan.next →
     ∃ t, exec .periodStart s = .next t ∧ t.plan.started = true ∧ t.plan.repNow = n ∧ t.plan.nextRep = n + 1 ∧ t.plan.next = 0 ∧
       (∀ id, s.plan.ctrShared = true → s.ctrRunning id = false → s.ctrAtHole id = false →
         t.ctr id = { value := 0, rep := n % 2 ^ 16, shortfall := 0, late := false }) ∧
       (∀ id, s.ctrRunning id = true → (t.ctr id).late = false ∧
         ({ s.ctr id with late := false } ≠ Ctr.zero → t.ctr id = { s.ctr id with late := false })) ∧
       (∀ u, u < 226 → t.stream u = if (s.stream u).closed = true ∧ (s.stream u).rep ≤ n then
         { s.stream u with closed := false, variant := s.plan.variant, pos := 0, jumpAt := 0, jumpTo := 0 } else s.stream u) ∧
       OnlyChanges [.plan, .unit] s t) ∧
  (∀ (i : Nat) (e : Entry) (s : State),
     let fires := fun (t : State) => t.plan.next = s.plan.next + 1 ∧ (e.sig = false → t.plan = { s.plan with next := s.plan.next + 1 }) ∧
       (e.sig = true → t.plan = { (s.applySignal e.ctr 1 (some s.plan.repNow)).plan with next := s.plan.next + 1 })
     (s.dueKind 0x0A = some (i, e) → ∃ t, exec .mark s = .next t ∧ fires t ∧ OnlyChanges [.plan, .cnt] s t) ∧
     (s.dueKind 0x07 = some (i, e) → ∃ t, exec .gear s = .next t ∧ fires t ∧ OnlyChanges [.plan, .cnt, .pwr] s t ∧
       (∀ h, h < 2 → (t.half h).req = (if bit e.arg (2 + h) then e.arg % 4 else (s.half h).req) ∧
         (t.half h).hostCeil = (s.half h).hostCeil ∧ t.wantGear h ≤ (t.half h).gear)) ∧
     (s.dueKind 0x08 = some (i, e) → ∃ t, exec .actStart s = .next t ∧ fires t ∧
       t.acts = { s.acts with act := e.arg % 4 + 1, rep := s.plan.repNow % 2 ^ 16 } ∧
       t.cntGet ActCnt.actsOpened = min (s.cntGet ActCnt.actsOpened + 1) 0xFFFFFFFF ∧ OnlyChanges [.plan, .cnt, .acts] s t)) ∧
  (∀ (i : Nat) (e : Entry) (s : State), s.dueKind 0x01 = some (i, e) → e.sig = false → s.ctrAtHole e.ctr = false →
     let c := s.ctr e.ctr
     let g := s.effTarget e.ctr e.target s.plan.repNow
     ∃ t, exec .deadline s = .next t ∧ t.plan.next = s.plan.next + 1 ∧
       (reached c.value g = true → t.plan = { s.plan with next := s.plan.next + 1 } ∧ OnlyChanges [.plan] s t) ∧
       (reached c.value g = false →
         t.ctr e.ctr = { value := g % 2 ^ 32, rep := c.rep, shortfall := (c.shortfall + (g + 2 ^ 32 - c.value) % 2 ^ 32) % 2 ^ 32, late := true } ∧
         (∀ id, id ≠ e.ctr → t.ctr id = s.ctr id) ∧
         t.cntGet TimeCnt.lateDeadlines = min (s.cntGet TimeCnt.lateDeadlines + 1) 0xFFFFFFFF ∧
         bit t.plan.health 2 = (bit s.plan.health 2 || (List.range 210).any (fun u => s.unitFenced u && s.signals u e.ctr)) ∧
         t.plan.lateEvents = s.plan.lateEvents ++ [{ entry := i, rep := s.plan.repNow, shortfall := (g + 2 ^ 32 - c.value) % 2 ^ 32 }] ∧
         (∀ y, y ∈ t.plan.carries ↔ y ∈ s.plan.carries ∧ (y.ctr ≠ e.ctr ∨ y.copied = true ∨ y.drop = true)) ∧ OnlyChanges [.plan, .cnt] s t))

/-- HEALTH_CUT samples the live word, with MISSING if its counter is short, clears it, counts the cut and lays the module's own
trailer at the plan's trailer address (07 R178). COMMIT with no fresh reduced trailer is HELD. With one it is GO exactly if the
reduced word has no bit set: the step counter rises by one. Any bit suppresses: the step counter, the windows, the variant and
the codes stay, the step's carries are dropped, the decision is counted and logged. Either resets the step's tallies. What
Sheepdog 5 owes then and misses through a move of its role is cause SHEEPDOG (08 R195, 12 R310, 16 R406). The reduced trailer
that arrives is stale if its STEP is not the step counter's low bits, and is then only counted; a fresh one waits for COMMIT or
resolves a HELD decision (08 R195, 15 R389, 16 R415). UPDATE_CLOSE faults the module with UNRESOLVED if the decision is still
HELD or a gated command is in progress; RESIDENCY_READY faults it with PAGING if the pager's work is not done; otherwise each
only goes on to the next entry (10 R258, 16 R415). -/
def Obligations.HealthAndCommit : Prop :=
  (∀ (i : Nat) (e : Entry) (s : State), s.dueKind 0x02 = some (i, e) → e.sig = false →
     let c := s.ctr e.ctr
     let short := e.ctr ≠ noCtr ∧ (reached c.value (s.effTarget e.ctr e.target s.plan.repNow) = false ∨ c.shortfall ≠ 0)
     ∃ t word, exec .healthCut s = .next t ∧ (short → word = s.liveHealth ||| 4) ∧ (¬ short → word = s.liveHealth) ∧
       t.plan.healthCut = healthWord word s.plan.step ∧ t.plan.next = s.plan.next + 1 ∧
       (∀ g, g < 60 → t.cntGet (GoatHealth.nonfin g) = 0) ∧
       t.cntGet HealthCnt.cuts = min (s.cntGet HealthCnt.cuts + 1) 0xFFFFFFFF ∧
       (s.writable s.trlAddr (s.ownTrailer word).length → s.lineErr = [] →
         (∀ j, j < (s.ownTrailer word).length → t.stored (s.trlAddr + j) = (s.ownTrailer word).getD j 0) ∧
         BytesKept [(s.trlAddr, (s.ownTrailer word).length)] s t ∧ t.plan.health = 0 ∧ OnlyChanges [.plan, .cnt, .mem] s t)) ∧
  (∀ (i : Nat) (e : Entry) (s : State), s.dueKind 0x03 = some (i, e) →
     let n := s.plan.step
     ∃ t, exec .commit s = .next t ∧
       t.plan.updateClose = s.fromClose.head?.map (fun x => s.repStart x.1 + x.2.2.offset) ∧ t.plan.dbeat = s.time.beat ∧
       t.plan.dstep = n % 2 ^ 40 ∧ t.dev = s.dev ∧ t.time = s.time ∧ t.host = s.host ∧ t.ck = s.ck ∧ t.pwr = s.pwr ∧ t.fab = s.fab ∧
       (s.plan.trailer = none → t.plan.decision = 3 ∧ t.plan.step = n ∧ t.plan.healthRed = s.plan.healthRed ∧
         t.plan.windows = s.plan.windows ∧ t.plan.decisions = s.plan.decisions ∧ t.plan.next = s.plan.next + 1 ∧
         OnlyChanges [.plan, .cnt] s t) ∧
       (∀ red, s.plan.trailer = some red → t.plan.trailer = none ∧ t.plan.healthRed = healthWord red n ∧
         (red % 16 = 0 → t.plan.decision = 1 ∧ t.plan.step = (n + 1) % 2 ^ 64) ∧
         (red % 16 ≠ 0 → t.plan.decision = 2 ∧ t.plan.step = n ∧ t.plan.windows = s.plan.windows ∧ t.plan.variant = s.plan.variant ∧
           t.plan.sel = s.plan.sel) ∧
         (s.roleMoving 5 = true → RoleMissed s t 5 ∧ t.plan.windows = s.plan.windows ∧ t.plan.decisions = s.plan.decisions) ∧
         (s.roleMoving 5 = false → t.plan.decisions = s.plan.decisions + 1 ∧ t.plan.carriedNow = 0 ∧
           (e.sig = false → t.plan.droppedNow = 0) ∧ t.plan.slipsNow = 0) ∧
         (s.roleMoving 5 = false → red % 16 ≠ 0 → t.unit = s.unit ∧ (∀ y ∈ t.plan.carries, y.step = n → y.drop = true) ∧
           t.cntGet HealthCnt.suppressed = min (s.cntGet HealthCnt.suppressed + 1) 0xFFFFFFFF ∧
           (∃ d ∈ t.trust.details, d.cls = 0x0022 ∧ d.inst = 0 ∧ d.seq = s.trust.nextSeq)))) ∧
  (∀ s : State, s.collects = true → s.rtrCtr ≠ noCtr → (s.ctr s.rtrCtr).value ≠ s.plan.rtrSeen →
     let hd := s.read s.rtrAddr 64
     ∃ t, exec .reducedTrailerRx s = .next t ∧ t.plan.rtrSeen = (s.ctr s.rtrCtr).value ∧ t.plan.next = s.plan.next ∧
       (trStep hd ≠ s.plan.step % 2 ^ 16 → t.plan.trailer = s.plan.trailer ∧ t.plan.decision = s.plan.decision ∧
         t.plan.step = s.plan.step ∧ t.cntGet HealthCnt.staleTrailers = min (s.cntGet HealthCnt.staleTrailers + 1) 0xFFFFFFFF) ∧
       (trStep hd = s.plan.step % 2 ^ 16 → s.plan.decision ≠ 3 → t.plan.trailer = some (trHealth hd) ∧
         t.plan.decision = s.plan.decision ∧ t.plan.step = s.plan.step) ∧
       (trStep hd = s.plan.step % 2 ^ 16 → s.plan.decision = 3 → t.plan.trailer = none ∧
         t.plan.decision = (if trHealth hd = 0 then 1 else 2) ∧
         t.plan.step = (if trHealth hd = 0 then (s.plan.step + 1) % 2 ^ 64 else s.plan.step) ∧
         t.cntGet FaultCnt.heldResolved = min (s.cntGet FaultCnt.heldResolved + 1) 0xFFFFFFFF)) ∧
  (∀ (i : Nat) (e : Entry) (s : State), e.sig = false →
     let bad := s.plan.updateClose ≠ none ∧ (s.plan.decision = 3 ∨ s.gatedRuns = true)
     (s.dueKind 0x04 = some (i, e) → ∃ t, exec .updateClose s = .next t ∧
       t.plan = { s.plan with next := s.plan.next + 1, updateClose := none } ∧
       (bad → t.flt.pendingEntry = true ∧ (s.flt.cause = 0 → t.flt.cause = 0x0B) ∧ LogsOne s t (3, 0) 0x0002 0 ∧
         OnlyChanges [.plan, .cnt, .flt, .trust] s t) ∧
       (¬ bad → OnlyChanges [.plan] s t)) ∧
     (s.dueKind 0x06 = some (i, e) → ∃ t, exec .residencyReady s = .next t ∧ t.plan = { s.plan with next := s.plan.next + 1 } ∧
       (s.unit.paging = [] → OnlyChanges [.plan] s t) ∧
       (∀ p rest, s.unit.paging = p :: rest → t.flt.pendingEntry = true ∧ (s.flt.cause = 0 → t.flt.cause = 6) ∧
         LogsOne s t (3, 0) 0x0002 0 ∧ OnlyChanges [.plan, .cnt, .flt, .trust] s t)))

/-- ACT_END closes the act: under GENERATE no slot stays in use; under EVALUATE a waiting EVAL_RUN ends OK with the length of its
result; any other act only closes (14 R351, 19 R475). A generation boundary comes when the trigger counter reaches the slot
manager's target, which rises by one; outside GENERATE it is counted and leaves every slot as it is; either way the done counter
is signalled (14 R343, R346, R350). The steps of a boundary: harvest appends the sampled token and its log-probability of a row
fed at the last prompt position or later, and the slot is DONE exactly if a finish reason holds; retire of a DONE slot, with
room in the rollout ring, empties it and gives no block it holds to another slot; grow takes the block at the head of the free
list, or blocks the slot when there is none (13 R325, 14 R346, R347, Table 14-7). A batch is taken when its trigger counter
reaches the target, which rises by one: the act's consumer index advances by the entries taken, at most the batch size and at
most what the ring holds; outside such an act an empty batch is counted. The done counter is signalled (14 R343, R355, R356). -/
def Obligations.ActsAndBoundaries : Prop :=
  (∀ (i : Nat) (e : Entry) (s : State), s.dueKind 0x09 = some (i, e) →
     ∃ t, exec .actEnd s = .next t ∧ t.acts.act = 0 ∧ t.plan.next = s.plan.next + 1 ∧ t.dev = s.dev ∧ t.time = s.time ∧
       (s.acts.act = 1 → ∀ j, j < 64 → (t.slot j).state = 0 ∨ 4 < (t.slot j).state) ∧
       (s.acts.act ≠ 1 → s.acts.act ≠ 4 → t.acts = { s.acts with act := 0 } ∧ OnlyChanges [.acts, .plan, .cnt] s t) ∧
       (∀ p m c, s.acts.act = 4 → s.acts.evalBox = some (p, m) → s.head p m = some c → s.settled p m →
         t.acts.evalBox = none ∧ (t.box p m).ackSeq = c.seq ∧ (s.box p m).queue = c :: (t.box p m).queue ∧
         ∃ r, (t.box p m).records = (s.box p m).records ++ [r] ∧ r.status = 0 ∧ r.seq = c.seq ∧ r.len = c.field 32 4)) ∧
  (∀ s : State, s.planRuns = true → s.smReached 384 s.acts.genTarget = true →
     let id := s.acb 400 15
     let c := s.ctr id
     ∃ t, exec .genBoundary s = .next t ∧ t.acts.genTarget = (s.acts.genTarget + 1) % 2 ^ 32 ∧ t.acts.act = s.acts.act ∧
       t.acts.batTarget = s.acts.batTarget ∧ t.dev = s.dev ∧ t.host = s.host ∧ t.unit = s.unit ∧
       (s.acts.act = 1 → t.cntGet ActCnt.boundaries = min (s.cntGet ActCnt.boundaries + 1) 0xFFFFFFFF) ∧
       (s.acts.act ≠ 1 → t.acts = { s.acts with genTarget := t.acts.genTarget } ∧
         t.cntGet ActCnt.boundaryOutside = min (s.cntGet ActCnt.boundaryOutside + 1) 0xFFFFFFFF) ∧
       (id ≠ noCtr → s.ctrAtHole id = false → (t.ctr id).value = (c.value + (1 - c.shortfall)) % 2 ^ 32)) ∧
  (∀ (i q : Nat) (s : State), i < 64 →
     let x := s.slot i
     let r := s.readNat (s.acbAddr 280 + 8 * i) 8
     let y := (s.harvest i).slot i
     (x.lastFed = some q → x.plen ≤ q + 1 → y.tokens = x.tokens ++ [r % 2 ^ 32] ∧ y.logps = x.logps ++ [r / 2 ^ 32] ∧
       y.lastFed = none ∧ y.blocks = x.blocks ∧ (x.state ≠ 4 → (y.state = 4 ↔ s.finishTest { y with state := x.state, finish := x.finish } (r % 2 ^ 32) ≠ none)) ∧
       (∀ j, j ≠ i → (s.harvest i).slot j = s.slot j)) ∧
     (x.lastFed = some q → q + 1 < x.plen → y = { x with lastFed := none } ∧ OnlyChanges [.acts] s (s.harvest i)) ∧
     (x.state = 4 → s.rollFull = false → (s.retire i).slot i = Slot.empty ∧ (∀ j, j ≠ i → (s.retire i).slot j = s.slot j) ∧
       s.acts.kvFree <+: (s.retire i).acts.kvFree ∧ (∀ b ∈ (s.retire i).acts.kvFree, b ∈ s.acts.kvFree ∨ b ∈ x.blocks) ∧
       (s.retire i).cntGet ActCnt.rollouts = min (s.cntGet ActCnt.rollouts + 1) 0xFFFFFFFF) ∧
     (x.state = 2 ∨ x.state = 3 → x.blocks.length ≤ x.fed / 16 → ∀ j, j ≠ i → (s.grow i).slot j = s.slot j) ∧
     (∀ b l, x.state = 2 ∨ x.state = 3 → x.blocks.length ≤ x.fed / 16 → s.acts.kvFree = b :: l →
       (s.grow i).slot i = { x with state := 2, blocks := x.blocks ++ [b] } ∧ (s.grow i).acts.kvFree = l) ∧
     (x.state = 2 ∨ x.state = 3 → x.blocks.length ≤ x.fed / 16 → s.acts.kvFree = [] →
       (s.grow i).slot i = { x with state := 3 } ∧ (s.grow i).cntGet MemCnt.kvEmpty = min (s.cntGet MemCnt.kvEmpty + 1) 0xFFFFFFFF)) ∧
  (∀ s : State, s.planRuns = true → s.smReached 416 s.acts.batTarget = true →
     let id := s.acb 432 15
     let c := s.ctr id
     ∃ t, exec .batchTake s = .next t ∧ t.acts = { s.acts with batTarget := (s.acts.batTarget + 1) % 2 ^ 32 } ∧
       t.dev = s.dev ∧ t.host = s.host ∧ t.unit = s.unit ∧
       (∀ r first last f, s.batchRing = some (r, first, last, f) →
         let n := min (s.acb 512 7) (idxDist last first)
         t.cntGet ActCnt.batches = min (s.cntGet ActCnt.batches + 1) 0xFFFFFFFF ∧
         (s.writable (r.addr + 4 * f) 4 → ∀ j, j < 4 → t.stored (r.addr + 4 * f + j) = (natLe 4 ((first + n) % 2 ^ 32)).getD j 0)) ∧
       (s.batchRing = none → t.cntGet ActCnt.batchOutside = min (s.cntGet ActCnt.batchOutside + 1) 0xFFFFFFFF) ∧
       (id ≠ noCtr → s.ctrAtHole id = false → (t.ctr id).value = (c.value + (1 - c.shortfall)) % 2 ^ 32))

/-- Paging starts once its timetable entries have fired and the update window is closed: the lead of the group sends the new map and
its digest to every other member over lane 6 (layout: log 142), adopts it, counts and logs it; another member only begins. A
member adopts a map whose digest is its own map's and faults with MAP_DIGEST on any other (10 R255, R257, R258). The pager's
move that ends is the first of the work begun: the swap leaves the list and is counted with its bytes; an uncorrectable error on
the way, or in a line that the swap reads, faults the module with PAGING_ECC, and a fenced or unreachable peer with PAGING, the
swap still to do (10 R256, R258, 13 R318). -/
def Obligations.ResidencyChanges : Prop :=
  (∀ (router : Fin 256) (version : Nat) (digest mapBytes : List Byte) (p : Paging) (s : State), s.collects = true →
     let due := fun (x : Paging) => !x.started && (decide (x.startRep < s.plan.repNow) ||
       (decide (x.startRep = s.plan.repNow) && decide (x.startIdx < s.plan.next)))
     let rt := s.router p.router
     (s.unit.paging.find? due = some p → s.plan.updateClose = none → ∃ t, exec .pagingStart s = .next t ∧ s.out <+: t.out ∧
       (∀ x ∈ t.unit.paging, x.router = p.router → x.started = true) ∧
       (s.ownMember rt ≠ some 0 → t.out = s.out ∧ OnlyChanges [.unit] s t) ∧
       (s.ownMember rt = some 0 → (∀ g, g < rt.g → s.memberOf rt g ≠ s.ownId →
           OutEvent.residencyMap (s.memberOf rt g) p.router (mapVersion p.map) p.map ∈ t.out ∧
           ∀ h, s.hopHere s.fabricAddr (s.memberOf rt g) = some h → ∃ m, OutEvent.link h.port m ∈ t.out ∧ m.lane = 6 ∧ m.kind = 8 ∧
             m.dst = s.memberOf rt g ∧ m.data = natLe 1 p.router ++ sha384 p.map ++ p.map) ∧
         (∀ x ∈ t.unit.paging, x.router = p.router → x.adopted = true) ∧ (∃ d ∈ t.trust.details, d.cls = 0x0042) ∧
         t.cntGet ExpModCnt.mapAdoptions = min (s.cntGet ExpModCnt.mapAdoptions + 1) 0xFFFFFFFF)) ∧
     (wellFormed (.residencyMapRx router version digest mapBytes) = true →
       s.unit.paging.find? (fun x => decide (x.router = router.val) && !x.adopted) = some p →
       ∃ t, exec (.residencyMapRx router version digest mapBytes) s = .next t ∧
         (sha384 p.map = digest → (∀ x ∈ t.unit.paging, x.router = router.val → x.adopted = true) ∧
           (∃ d ∈ t.trust.details, d.cls = 0x0042) ∧
           t.cntGet ExpModCnt.mapAdoptions = min (s.cntGet ExpModCnt.mapAdoptions + 1) 0xFFFFFFFF) ∧
         (sha384 p.map ≠ digest → t.unit = s.unit ∧ t.flt.pendingEntry = true ∧ (s.flt.cause = 0 → t.flt.cause = 7) ∧
           t.cntGet ExpModCnt.mapMismatch = min (s.cntGet ExpModCnt.mapMismatch + 1) 0xFFFFFFFF ∧
           OnlyChanges [.cnt, .flt, .trust] s t))) ∧
  (∀ (ecc : EccOutcome) (fencedPeer : Bool) (p : Paging) (x : Swap) (rest : List Swap) (s : State), s.collects = true →
     s.unit.paging.find? (fun p => p.started && !p.swaps.isEmpty) = some p → p.swaps = x :: rest →
     let rt := s.router p.router
     let ue := (s.swapReads rt x).any s.pageUe
     let cut := (s.swapPlaces rt x).any s.cutOff
     let faults := fun (t : State) (cause : Nat) => t.unit = s.unit ∧ t.mem = s.mem ∧ t.flt.pendingEntry = true ∧
       (s.flt.cause = 0 → t.flt.cause = cause) ∧ OnlyChanges [.flt, .pte, .cnt, .trust, .plan, .lineErr] s t
     ∃ t, exec (.pagerMoveDone { ecc := ecc, fencedPeer := fencedPeer }) s = .next t ∧
       (fencedPeer = true → faults t 6) ∧
       (fencedPeer = false → ecc = .uncorrectable → faults t 5 ∧
         (t.pteOf (pageOf rt.slotBase + rt.imgPages * x.slot)).poison = true) ∧
       (fencedPeer = false → ecc ≠ .uncorrectable → ue = true → t.unit = s.unit ∧ t.mem = s.mem ∧ t.flt.pendingEntry = true) ∧
       (fencedPeer = false → ecc ≠ .uncorrectable → ue = false → cut = true → faults t 6) ∧
       (fencedPeer = false → ecc ≠ .uncorrectable → ue = false → cut = false →
         (t.flt.pendingEntry = false → t.unit.paging =
           (s.unit.paging.map (fun q => if q = p then { q with swaps := rest } else q)).filter (fun q => !(q.adopted && q.swaps.isEmpty))) ∧
         t.cntGet ExpModCnt.swaps = min (s.cntGet ExpModCnt.swaps + 1) 0xFFFFFFFF ∧
         t.cntGet ExpModCnt.pageBytesIn = min (s.cntGet ExpModCnt.pageBytesIn + rt.imgPages * 2 ^ 21) 0xFFFFFFFFFFFFFFFF ∧
         t.plan.loaded = s.plan.loaded ∧ t.dev = s.dev ∧ t.time = s.time))
end

