-- ==== Sys2Proof/Laws/State.lean ====
section
/-! SUPPORT. Frame lemmas of the state: which fields of `State` an update leaves alone, one conjunct per
field, tagged `simp`, so that no proof unfolds a record update. First the general facts (a choice and a
fold keep a field that their parts keep), then the shared operations over registers, counters, memory and
the slot table. A lemma `f_frame` says everything that the operation `f` never changes. -/

namespace Sys2Proof.Machine

/-- `t` has the field `p` of `s`. -/
def Keeps {α : Type} (p : State → α) (s t : State) : Prop := p t = p s

@[simp] theorem keeps_iff {α : Type} (p : State → α) (s t : State) : Keeps p s t ↔ p t = p s := Iff.rfl

theorem foldl_keeps {α β : Type} (p : State → α) (f : State → β → State) (h : ∀ s a, Keeps p s (f s a)) (l : List β) (s : State) :
    Keeps p s (l.foldl f s) := by
  induction l generalizing s with
  | nil => rfl
  | cons a l ih => exact (ih (f s a)).trans (h s a)

theorem foldl_snd_keeps {α β γ : Type} (p : State → α) (f : γ × State → β → γ × State) (h : ∀ s a, Keeps p s.2 (f s a).2) (l : List β)
    (s : γ × State) : Keeps p s.2 (l.foldl f s).2 := by
  induction l generalizing s with
  | nil => rfl
  | cons a l ih => exact (ih (f s a)).trans (h s a)

theorem foldl_fst_keeps {α β γ : Type} (p : State → α) (f : State × γ → β → State × γ) (h : ∀ s a, Keeps p s.1 (f s a).1) (l : List β)
    (s : State × γ) : Keeps p s.1 (l.foldl f s).1 := by
  induction l generalizing s with
  | nil => rfl
  | cons a l ih => exact (ih (f s a)).trans (h s a)

@[simp] theorem ite_pending (c : Prop) [Decidable c] (a b : State) : (if c then a else b).pending = if c then a.pending else b.pending := by
  split <;> rfl

@[simp] theorem foldl_pending {β : Type} (f : State → β → State) (h : ∀ s a, Keeps State.pending s (f s a)) (l : List β) (s : State) :
    (l.foldl f s).pending = s.pending := foldl_keeps State.pending f h l s

@[simp] theorem foldl_snd_pending {β γ : Type} (f : γ × State → β → γ × State) (h : ∀ s a, Keeps State.pending s.2 (f s a).2) (l : List β)
    (s : γ × State) : (l.foldl f s).2.pending = s.2.pending := foldl_snd_keeps State.pending f h l s

@[simp] theorem foldl_fst_pending {β γ : Type} (f : State × γ → β → State × γ) (h : ∀ s a, Keeps State.pending s.1 (f s a).1) (l : List β)
    (s : State × γ) : (l.foldl f s).1.pending = s.1.pending := foldl_fst_keeps State.pending f h l s

@[simp] theorem ite_freeIdx (c : Prop) [Decidable c] (a b : State) : (if c then a else b).freeIdx = if c then a.freeIdx else b.freeIdx := by
  split <;> rfl

@[simp] theorem foldl_freeIdx {β : Type} (f : State → β → State) (h : ∀ s a, Keeps State.freeIdx s (f s a)) (l : List β) (s : State) :
    (l.foldl f s).freeIdx = s.freeIdx := foldl_keeps State.freeIdx f h l s

@[simp] theorem foldl_snd_freeIdx {β γ : Type} (f : γ × State → β → γ × State) (h : ∀ s a, Keeps State.freeIdx s.2 (f s a).2) (l : List β)
    (s : γ × State) : (l.foldl f s).2.freeIdx = s.2.freeIdx := foldl_snd_keeps State.freeIdx f h l s

@[simp] theorem foldl_fst_freeIdx {β γ : Type} (f : State × γ → β → State × γ) (h : ∀ s a, Keeps State.freeIdx s.1 (f s a).1) (l : List β)
    (s : State × γ) : (l.foldl f s).1.freeIdx = s.1.freeIdx := foldl_fst_keeps State.freeIdx f h l s

@[simp] theorem ite_out (c : Prop) [Decidable c] (a b : State) : (if c then a else b).out = if c then a.out else b.out := by
  split <;> rfl

@[simp] theorem foldl_out {β : Type} (f : State → β → State) (h : ∀ s a, Keeps State.out s (f s a)) (l : List β) (s : State) :
    (l.foldl f s).out = s.out := foldl_keeps State.out f h l s

@[simp] theorem foldl_snd_out {β γ : Type} (f : γ × State → β → γ × State) (h : ∀ s a, Keeps State.out s.2 (f s a).2) (l : List β)
    (s : γ × State) : (l.foldl f s).2.out = s.2.out := foldl_snd_keeps State.out f h l s

@[simp] theorem foldl_fst_out {β γ : Type} (f : State × γ → β → State × γ) (h : ∀ s a, Keeps State.out s.1 (f s a).1) (l : List β)
    (s : State × γ) : (l.foldl f s).1.out = s.1.out := foldl_fst_keeps State.out f h l s

@[simp] theorem ite_dev (c : Prop) [Decidable c] (a b : State) : (if c then a else b).dev = if c then a.dev else b.dev := by
  split <;> rfl

@[simp] theorem foldl_dev {β : Type} (f : State → β → State) (h : ∀ s a, Keeps State.dev s (f s a)) (l : List β) (s : State) :
    (l.foldl f s).dev = s.dev := foldl_keeps State.dev f h l s

@[simp] theorem foldl_snd_dev {β γ : Type} (f : γ × State → β → γ × State) (h : ∀ s a, Keeps State.dev s.2 (f s a).2) (l : List β)
    (s : γ × State) : (l.foldl f s).2.dev = s.2.dev := foldl_snd_keeps State.dev f h l s

@[simp] theorem foldl_fst_dev {β γ : Type} (f : State × γ → β → State × γ) (h : ∀ s a, Keeps State.dev s.1 (f s a).1) (l : List β)
    (s : State × γ) : (l.foldl f s).1.dev = s.1.dev := foldl_fst_keeps State.dev f h l s

@[simp] theorem ite_pwr (c : Prop) [Decidable c] (a b : State) : (if c then a else b).pwr = if c then a.pwr else b.pwr := by
  split <;> rfl

@[simp] theorem foldl_pwr {β : Type} (f : State → β → State) (h : ∀ s a, Keeps State.pwr s (f s a)) (l : List β) (s : State) :
    (l.foldl f s).pwr = s.pwr := foldl_keeps State.pwr f h l s

@[simp] theorem foldl_snd_pwr {β γ : Type} (f : γ × State → β → γ × State) (h : ∀ s a, Keeps State.pwr s.2 (f s a).2) (l : List β)
    (s : γ × State) : (l.foldl f s).2.pwr = s.2.pwr := foldl_snd_keeps State.pwr f h l s

@[simp] theorem foldl_fst_pwr {β γ : Type} (f : State × γ → β → State × γ) (h : ∀ s a, Keeps State.pwr s.1 (f s a).1) (l : List β)
    (s : State × γ) : (l.foldl f s).1.pwr = s.1.pwr := foldl_fst_keeps State.pwr f h l s

@[simp] theorem ite_geo (c : Prop) [Decidable c] (a b : State) : (if c then a else b).geo = if c then a.geo else b.geo := by
  split <;> rfl

@[simp] theorem foldl_geo {β : Type} (f : State → β → State) (h : ∀ s a, Keeps State.geo s (f s a)) (l : List β) (s : State) :
    (l.foldl f s).geo = s.geo := foldl_keeps State.geo f h l s

@[simp] theorem foldl_snd_geo {β γ : Type} (f : γ × State → β → γ × State) (h : ∀ s a, Keeps State.geo s.2 (f s a).2) (l : List β)
    (s : γ × State) : (l.foldl f s).2.geo = s.2.geo := foldl_snd_keeps State.geo f h l s

@[simp] theorem foldl_fst_geo {β γ : Type} (f : State × γ → β → State × γ) (h : ∀ s a, Keeps State.geo s.1 (f s a).1) (l : List β)
    (s : State × γ) : (l.foldl f s).1.geo = s.1.geo := foldl_fst_keeps State.geo f h l s

@[simp] theorem ite_mem (c : Prop) [Decidable c] (a b : State) : (if c then a else b).mem = if c then a.mem else b.mem := by
  split <;> rfl

@[simp] theorem foldl_mem {β : Type} (f : State → β → State) (h : ∀ s a, Keeps State.mem s (f s a)) (l : List β) (s : State) :
    (l.foldl f s).mem = s.mem := foldl_keeps State.mem f h l s

@[simp] theorem foldl_snd_mem {β γ : Type} (f : γ × State → β → γ × State) (h : ∀ s a, Keeps State.mem s.2 (f s a).2) (l : List β)
    (s : γ × State) : (l.foldl f s).2.mem = s.2.mem := foldl_snd_keeps State.mem f h l s

@[simp] theorem foldl_fst_mem {β γ : Type} (f : State × γ → β → State × γ) (h : ∀ s a, Keeps State.mem s.1 (f s a).1) (l : List β)
    (s : State × γ) : (l.foldl f s).1.mem = s.1.mem := foldl_fst_keeps State.mem f h l s

@[simp] theorem ite_lineErr (c : Prop) [Decidable c] (a b : State) : (if c then a else b).lineErr = if c then a.lineErr else b.lineErr := by
  split <;> rfl

@[simp] theorem foldl_lineErr {β : Type} (f : State → β → State) (h : ∀ s a, Keeps State.lineErr s (f s a)) (l : List β) (s : State) :
    (l.foldl f s).lineErr = s.lineErr := foldl_keeps State.lineErr f h l s

@[simp] theorem foldl_snd_lineErr {β γ : Type} (f : γ × State → β → γ × State) (h : ∀ s a, Keeps State.lineErr s.2 (f s a).2) (l : List β)
    (s : γ × State) : (l.foldl f s).2.lineErr = s.2.lineErr := foldl_snd_keeps State.lineErr f h l s

@[simp] theorem foldl_fst_lineErr {β γ : Type} (f : State × γ → β → State × γ) (h : ∀ s a, Keeps State.lineErr s.1 (f s a).1) (l : List β)
    (s : State × γ) : (l.foldl f s).1.lineErr = s.1.lineErr := foldl_fst_keeps State.lineErr f h l s

@[simp] theorem ite_pte (c : Prop) [Decidable c] (a b : State) : (if c then a else b).pte = if c then a.pte else b.pte := by
  split <;> rfl

@[simp] theorem foldl_pte {β : Type} (f : State → β → State) (h : ∀ s a, Keeps State.pte s (f s a)) (l : List β) (s : State) :
    (l.foldl f s).pte = s.pte := foldl_keeps State.pte f h l s

@[simp] theorem foldl_snd_pte {β γ : Type} (f : γ × State → β → γ × State) (h : ∀ s a, Keeps State.pte s.2 (f s a).2) (l : List β)
    (s : γ × State) : (l.foldl f s).2.pte = s.2.pte := foldl_snd_keeps State.pte f h l s

@[simp] theorem foldl_fst_pte {β γ : Type} (f : State × γ → β → State × γ) (h : ∀ s a, Keeps State.pte s.1 (f s a).1) (l : List β)
    (s : State × γ) : (l.foldl f s).1.pte = s.1.pte := foldl_fst_keeps State.pte f h l s

@[simp] theorem ite_shadowNext (c : Prop) [Decidable c] (a b : State) : (if c then a else b).shadowNext = if c then a.shadowNext else b.shadowNext := by
  split <;> rfl

@[simp] theorem foldl_shadowNext {β : Type} (f : State → β → State) (h : ∀ s a, Keeps State.shadowNext s (f s a)) (l : List β) (s : State) :
    (l.foldl f s).shadowNext = s.shadowNext := foldl_keeps State.shadowNext f h l s

@[simp] theorem foldl_snd_shadowNext {β γ : Type} (f : γ × State → β → γ × State) (h : ∀ s a, Keeps State.shadowNext s.2 (f s a).2) (l : List β)
    (s : γ × State) : (l.foldl f s).2.shadowNext = s.2.shadowNext := foldl_snd_keeps State.shadowNext f h l s

@[simp] theorem foldl_fst_shadowNext {β γ : Type} (f : State × γ → β → State × γ) (h : ∀ s a, Keeps State.shadowNext s.1 (f s a).1) (l : List β)
    (s : State × γ) : (l.foldl f s).1.shadowNext = s.1.shadowNext := foldl_fst_keeps State.shadowNext f h l s

@[simp] theorem ite_heldWrites (c : Prop) [Decidable c] (a b : State) : (if c then a else b).heldWrites = if c then a.heldWrites else b.heldWrites := by
  split <;> rfl

@[simp] theorem foldl_heldWrites {β : Type} (f : State → β → State) (h : ∀ s a, Keeps State.heldWrites s (f s a)) (l : List β) (s : State) :
    (l.foldl f s).heldWrites = s.heldWrites := foldl_keeps State.heldWrites f h l s

@[simp] theorem foldl_snd_heldWrites {β γ : Type} (f : γ × State → β → γ × State) (h : ∀ s a, Keeps State.heldWrites s.2 (f s a).2) (l : List β)
    (s : γ × State) : (l.foldl f s).2.heldWrites = s.2.heldWrites := foldl_snd_keeps State.heldWrites f h l s

@[simp] theorem foldl_fst_heldWrites {β γ : Type} (f : State × γ → β → State × γ) (h : ∀ s a, Keeps State.heldWrites s.1 (f s a).1) (l : List β)
    (s : State × γ) : (l.foldl f s).1.heldWrites = s.1.heldWrites := foldl_fst_keeps State.heldWrites f h l s

@[simp] theorem ite_unit (c : Prop) [Decidable c] (a b : State) : (if c then a else b).unit = if c then a.unit else b.unit := by
  split <;> rfl

@[simp] theorem foldl_unit {β : Type} (f : State → β → State) (h : ∀ s a, Keeps State.unit s (f s a)) (l : List β) (s : State) :
    (l.foldl f s).unit = s.unit := foldl_keeps State.unit f h l s

@[simp] theorem foldl_snd_unit {β γ : Type} (f : γ × State → β → γ × State) (h : ∀ s a, Keeps State.unit s.2 (f s a).2) (l : List β)
    (s : γ × State) : (l.foldl f s).2.unit = s.2.unit := foldl_snd_keeps State.unit f h l s

@[simp] theorem foldl_fst_unit {β γ : Type} (f : State × γ → β → State × γ) (h : ∀ s a, Keeps State.unit s.1 (f s a).1) (l : List β)
    (s : State × γ) : (l.foldl f s).1.unit = s.1.unit := foldl_fst_keeps State.unit f h l s

@[simp] theorem ite_plan (c : Prop) [Decidable c] (a b : State) : (if c then a else b).plan = if c then a.plan else b.plan := by
  split <;> rfl

@[simp] theorem foldl_plan {β : Type} (f : State → β → State) (h : ∀ s a, Keeps State.plan s (f s a)) (l : List β) (s : State) :
    (l.foldl f s).plan = s.plan := foldl_keeps State.plan f h l s

@[simp] theorem foldl_snd_plan {β γ : Type} (f : γ × State → β → γ × State) (h : ∀ s a, Keeps State.plan s.2 (f s a).2) (l : List β)
    (s : γ × State) : (l.foldl f s).2.plan = s.2.plan := foldl_snd_keeps State.plan f h l s

@[simp] theorem foldl_fst_plan {β γ : Type} (f : State × γ → β → State × γ) (h : ∀ s a, Keeps State.plan s.1 (f s a).1) (l : List β)
    (s : State × γ) : (l.foldl f s).1.plan = s.1.plan := foldl_fst_keeps State.plan f h l s

@[simp] theorem ite_time (c : Prop) [Decidable c] (a b : State) : (if c then a else b).time = if c then a.time else b.time := by
  split <;> rfl

@[simp] theorem foldl_time {β : Type} (f : State → β → State) (h : ∀ s a, Keeps State.time s (f s a)) (l : List β) (s : State) :
    (l.foldl f s).time = s.time := foldl_keeps State.time f h l s

@[simp] theorem foldl_snd_time {β γ : Type} (f : γ × State → β → γ × State) (h : ∀ s a, Keeps State.time s.2 (f s a).2) (l : List β)
    (s : γ × State) : (l.foldl f s).2.time = s.2.time := foldl_snd_keeps State.time f h l s

@[simp] theorem foldl_fst_time {β γ : Type} (f : State × γ → β → State × γ) (h : ∀ s a, Keeps State.time s.1 (f s a).1) (l : List β)
    (s : State × γ) : (l.foldl f s).1.time = s.1.time := foldl_fst_keeps State.time f h l s

@[simp] theorem ite_acts (c : Prop) [Decidable c] (a b : State) : (if c then a else b).acts = if c then a.acts else b.acts := by
  split <;> rfl

@[simp] theorem foldl_acts {β : Type} (f : State → β → State) (h : ∀ s a, Keeps State.acts s (f s a)) (l : List β) (s : State) :
    (l.foldl f s).acts = s.acts := foldl_keeps State.acts f h l s

@[simp] theorem foldl_snd_acts {β γ : Type} (f : γ × State → β → γ × State) (h : ∀ s a, Keeps State.acts s.2 (f s a).2) (l : List β)
    (s : γ × State) : (l.foldl f s).2.acts = s.2.acts := foldl_snd_keeps State.acts f h l s

@[simp] theorem foldl_fst_acts {β γ : Type} (f : State × γ → β → State × γ) (h : ∀ s a, Keeps State.acts s.1 (f s a).1) (l : List β)
    (s : State × γ) : (l.foldl f s).1.acts = s.1.acts := foldl_fst_keeps State.acts f h l s

@[simp] theorem ite_fab (c : Prop) [Decidable c] (a b : State) : (if c then a else b).fab = if c then a.fab else b.fab := by
  split <;> rfl

@[simp] theorem foldl_fab {β : Type} (f : State → β → State) (h : ∀ s a, Keeps State.fab s (f s a)) (l : List β) (s : State) :
    (l.foldl f s).fab = s.fab := foldl_keeps State.fab f h l s

@[simp] theorem foldl_snd_fab {β γ : Type} (f : γ × State → β → γ × State) (h : ∀ s a, Keeps State.fab s.2 (f s a).2) (l : List β)
    (s : γ × State) : (l.foldl f s).2.fab = s.2.fab := foldl_snd_keeps State.fab f h l s

@[simp] theorem foldl_fst_fab {β γ : Type} (f : State × γ → β → State × γ) (h : ∀ s a, Keeps State.fab s.1 (f s a).1) (l : List β)
    (s : State × γ) : (l.foldl f s).1.fab = s.1.fab := foldl_fst_keeps State.fab f h l s

@[simp] theorem ite_flt (c : Prop) [Decidable c] (a b : State) : (if c then a else b).flt = if c then a.flt else b.flt := by
  split <;> rfl

@[simp] theorem foldl_flt {β : Type} (f : State → β → State) (h : ∀ s a, Keeps State.flt s (f s a)) (l : List β) (s : State) :
    (l.foldl f s).flt = s.flt := foldl_keeps State.flt f h l s

@[simp] theorem foldl_snd_flt {β γ : Type} (f : γ × State → β → γ × State) (h : ∀ s a, Keeps State.flt s.2 (f s a).2) (l : List β)
    (s : γ × State) : (l.foldl f s).2.flt = s.2.flt := foldl_snd_keeps State.flt f h l s

@[simp] theorem foldl_fst_flt {β γ : Type} (f : State × γ → β → State × γ) (h : ∀ s a, Keeps State.flt s.1 (f s a).1) (l : List β)
    (s : State × γ) : (l.foldl f s).1.flt = s.1.flt := foldl_fst_keeps State.flt f h l s

@[simp] theorem ite_ck (c : Prop) [Decidable c] (a b : State) : (if c then a else b).ck = if c then a.ck else b.ck := by
  split <;> rfl

@[simp] theorem foldl_ck {β : Type} (f : State → β → State) (h : ∀ s a, Keeps State.ck s (f s a)) (l : List β) (s : State) :
    (l.foldl f s).ck = s.ck := foldl_keeps State.ck f h l s

@[simp] theorem foldl_snd_ck {β γ : Type} (f : γ × State → β → γ × State) (h : ∀ s a, Keeps State.ck s.2 (f s a).2) (l : List β)
    (s : γ × State) : (l.foldl f s).2.ck = s.2.ck := foldl_snd_keeps State.ck f h l s

@[simp] theorem foldl_fst_ck {β γ : Type} (f : State × γ → β → State × γ) (h : ∀ s a, Keeps State.ck s.1 (f s a).1) (l : List β)
    (s : State × γ) : (l.foldl f s).1.ck = s.1.ck := foldl_fst_keeps State.ck f h l s

@[simp] theorem ite_host (c : Prop) [Decidable c] (a b : State) : (if c then a else b).host = if c then a.host else b.host := by
  split <;> rfl

@[simp] theorem foldl_host {β : Type} (f : State → β → State) (h : ∀ s a, Keeps State.host s (f s a)) (l : List β) (s : State) :
    (l.foldl f s).host = s.host := foldl_keeps State.host f h l s

@[simp] theorem foldl_snd_host {β γ : Type} (f : γ × State → β → γ × State) (h : ∀ s a, Keeps State.host s.2 (f s a).2) (l : List β)
    (s : γ × State) : (l.foldl f s).2.host = s.2.host := foldl_snd_keeps State.host f h l s

@[simp] theorem foldl_fst_host {β γ : Type} (f : State × γ → β → State × γ) (h : ∀ s a, Keeps State.host s.1 (f s a).1) (l : List β)
    (s : State × γ) : (l.foldl f s).1.host = s.1.host := foldl_fst_keeps State.host f h l s

@[simp] theorem ite_trust (c : Prop) [Decidable c] (a b : State) : (if c then a else b).trust = if c then a.trust else b.trust := by
  split <;> rfl

@[simp] theorem foldl_trust {β : Type} (f : State → β → State) (h : ∀ s a, Keeps State.trust s (f s a)) (l : List β) (s : State) :
    (l.foldl f s).trust = s.trust := foldl_keeps State.trust f h l s

@[simp] theorem foldl_snd_trust {β γ : Type} (f : γ × State → β → γ × State) (h : ∀ s a, Keeps State.trust s.2 (f s a).2) (l : List β)
    (s : γ × State) : (l.foldl f s).2.trust = s.2.trust := foldl_snd_keeps State.trust f h l s

@[simp] theorem foldl_fst_trust {β γ : Type} (f : State × γ → β → State × γ) (h : ∀ s a, Keeps State.trust s.1 (f s a).1) (l : List β)
    (s : State × γ) : (l.foldl f s).1.trust = s.1.trust := foldl_fst_keeps State.trust f h l s

@[simp] theorem ite_cnt (c : Prop) [Decidable c] (a b : State) : (if c then a else b).cnt = if c then a.cnt else b.cnt := by
  split <;> rfl

@[simp] theorem foldl_cnt {β : Type} (f : State → β → State) (h : ∀ s a, Keeps State.cnt s (f s a)) (l : List β) (s : State) :
    (l.foldl f s).cnt = s.cnt := foldl_keeps State.cnt f h l s

@[simp] theorem foldl_snd_cnt {β γ : Type} (f : γ × State → β → γ × State) (h : ∀ s a, Keeps State.cnt s.2 (f s a).2) (l : List β)
    (s : γ × State) : (l.foldl f s).2.cnt = s.2.cnt := foldl_snd_keeps State.cnt f h l s

@[simp] theorem foldl_fst_cnt {β γ : Type} (f : State × γ → β → State × γ) (h : ∀ s a, Keeps State.cnt s.1 (f s a).1) (l : List β)
    (s : State × γ) : (l.foldl f s).1.cnt = s.1.cnt := foldl_fst_keeps State.cnt f h l s

@[simp] theorem ite_snd {α : Type} (c : Prop) [Decidable c] (a b : α × State) : (if c then a else b).2 = if c then a.2 else b.2 := by
  split <;> rfl

@[simp] theorem ite_fst {α : Type} (c : Prop) [Decidable c] (a b : State × α) : (if c then a else b).1 = if c then a.1 else b.1 := by
  split <;> rfl

@[simp] theorem State.eachSlot_fold (s : State) (f : State → Nat → State) : s.eachSlot f = (List.range 64).foldl f s := rfl

@[simp] theorem State.bump_frame (s : State) (key : Nat) (n : Nat) :
    (State.bump s key n).pending = s.pending ∧ (State.bump s key n).freeIdx = s.freeIdx ∧ (State.bump s key n).out = s.out ∧
    (State.bump s key n).dev = s.dev ∧ (State.bump s key n).pwr = s.pwr ∧ (State.bump s key n).geo = s.geo ∧
    (State.bump s key n).mem = s.mem ∧ (State.bump s key n).lineErr = s.lineErr ∧ (State.bump s key n).pte = s.pte ∧
    (State.bump s key n).shadowNext = s.shadowNext ∧ (State.bump s key n).heldWrites = s.heldWrites ∧
    (State.bump s key n).unit = s.unit ∧ (State.bump s key n).plan = s.plan ∧ (State.bump s key n).time = s.time ∧
    (State.bump s key n).acts = s.acts ∧ (State.bump s key n).fab = s.fab ∧ (State.bump s key n).flt = s.flt ∧
    (State.bump s key n).ck = s.ck ∧ (State.bump s key n).host = s.host ∧ (State.bump s key n).trust = s.trust := by
  simp [State.bump]

@[simp] theorem State.emit_frame (s : State) (e : OutEvent) :
    (State.emit s e).pending = s.pending ∧ (State.emit s e).freeIdx = s.freeIdx ∧ (State.emit s e).dev = s.dev ∧
    (State.emit s e).pwr = s.pwr ∧ (State.emit s e).geo = s.geo ∧ (State.emit s e).mem = s.mem ∧
    (State.emit s e).lineErr = s.lineErr ∧ (State.emit s e).pte = s.pte ∧ (State.emit s e).shadowNext = s.shadowNext ∧
    (State.emit s e).heldWrites = s.heldWrites ∧ (State.emit s e).unit = s.unit ∧ (State.emit s e).plan = s.plan ∧
    (State.emit s e).time = s.time ∧ (State.emit s e).acts = s.acts ∧ (State.emit s e).fab = s.fab ∧
    (State.emit s e).flt = s.flt ∧ (State.emit s e).ck = s.ck ∧ (State.emit s e).host = s.host ∧
    (State.emit s e).trust = s.trust ∧ (State.emit s e).cnt = s.cnt := by
  simp [State.emit]

@[simp] theorem State.raiseVector_frame (s : State) (p : Nat) (v : Nat) :
    (State.raiseVector s p v).pending = s.pending ∧ (State.raiseVector s p v).freeIdx = s.freeIdx ∧
    (State.raiseVector s p v).dev = s.dev ∧ (State.raiseVector s p v).pwr = s.pwr ∧ (State.raiseVector s p v).geo = s.geo ∧
    (State.raiseVector s p v).mem = s.mem ∧ (State.raiseVector s p v).lineErr = s.lineErr ∧
    (State.raiseVector s p v).pte = s.pte ∧ (State.raiseVector s p v).shadowNext = s.shadowNext ∧
    (State.raiseVector s p v).heldWrites = s.heldWrites ∧ (State.raiseVector s p v).unit = s.unit ∧
    (State.raiseVector s p v).plan = s.plan ∧ (State.raiseVector s p v).time = s.time ∧ (State.raiseVector s p v).acts = s.acts ∧
    (State.raiseVector s p v).fab = s.fab ∧ (State.raiseVector s p v).flt = s.flt ∧ (State.raiseVector s p v).ck = s.ck ∧
    (State.raiseVector s p v).trust = s.trust := by
  simp [State.raiseVector]

@[simp] theorem State.raiseBoth_frame (s : State) (v : Nat) :
    (State.raiseBoth s v).pending = s.pending ∧ (State.raiseBoth s v).freeIdx = s.freeIdx ∧ (State.raiseBoth s v).dev = s.dev ∧
    (State.raiseBoth s v).pwr = s.pwr ∧ (State.raiseBoth s v).geo = s.geo ∧ (State.raiseBoth s v).mem = s.mem ∧
    (State.raiseBoth s v).lineErr = s.lineErr ∧ (State.raiseBoth s v).pte = s.pte ∧
    (State.raiseBoth s v).shadowNext = s.shadowNext ∧ (State.raiseBoth s v).heldWrites = s.heldWrites ∧
    (State.raiseBoth s v).unit = s.unit ∧ (State.raiseBoth s v).plan = s.plan ∧ (State.raiseBoth s v).time = s.time ∧
    (State.raiseBoth s v).acts = s.acts ∧ (State.raiseBoth s v).fab = s.fab ∧ (State.raiseBoth s v).flt = s.flt ∧
    (State.raiseBoth s v).ck = s.ck ∧ (State.raiseBoth s v).trust = s.trust := by
  simp [State.raiseBoth]

@[simp] theorem State.drawNat_frame (s : State) :
    (State.drawNat s).2.pending = s.pending ∧ (State.drawNat s).2.out = s.out ∧ (State.drawNat s).2.dev = s.dev ∧
    (State.drawNat s).2.pwr = s.pwr ∧ (State.drawNat s).2.geo = s.geo ∧ (State.drawNat s).2.mem = s.mem ∧
    (State.drawNat s).2.lineErr = s.lineErr ∧ (State.drawNat s).2.pte = s.pte ∧ (State.drawNat s).2.shadowNext = s.shadowNext ∧
    (State.drawNat s).2.heldWrites = s.heldWrites ∧ (State.drawNat s).2.unit = s.unit ∧ (State.drawNat s).2.plan = s.plan ∧
    (State.drawNat s).2.time = s.time ∧ (State.drawNat s).2.acts = s.acts ∧ (State.drawNat s).2.fab = s.fab ∧
    (State.drawNat s).2.flt = s.flt ∧ (State.drawNat s).2.ck = s.ck ∧ (State.drawNat s).2.host = s.host ∧
    (State.drawNat s).2.trust = s.trust ∧ (State.drawNat s).2.cnt = s.cnt := by
  simp [State.drawNat]

@[simp] theorem State.logForm_frame (s : State) (form : Nat) (origin : Nat × Nat) (cls : Nat) (inst : Nat) (old : Nat) (new : Nat) :
    (State.logForm s form origin cls inst old new).pending = s.pending ∧
    (State.logForm s form origin cls inst old new).freeIdx = s.freeIdx ∧
    (State.logForm s form origin cls inst old new).out = s.out ∧ (State.logForm s form origin cls inst old new).dev = s.dev ∧
    (State.logForm s form origin cls inst old new).pwr = s.pwr ∧ (State.logForm s form origin cls inst old new).geo = s.geo ∧
    (State.logForm s form origin cls inst old new).mem = s.mem ∧
    (State.logForm s form origin cls inst old new).lineErr = s.lineErr ∧
    (State.logForm s form origin cls inst old new).pte = s.pte ∧
    (State.logForm s form origin cls inst old new).shadowNext = s.shadowNext ∧
    (State.logForm s form origin cls inst old new).heldWrites = s.heldWrites ∧
    (State.logForm s form origin cls inst old new).unit = s.unit ∧ (State.logForm s form origin cls inst old new).plan = s.plan ∧
    (State.logForm s form origin cls inst old new).time = s.time ∧ (State.logForm s form origin cls inst old new).acts = s.acts ∧
    (State.logForm s form origin cls inst old new).fab = s.fab ∧ (State.logForm s form origin cls inst old new).flt = s.flt ∧
    (State.logForm s form origin cls inst old new).ck = s.ck ∧ (State.logForm s form origin cls inst old new).host = s.host ∧
    (State.logForm s form origin cls inst old new).cnt = s.cnt := by
  simp [State.logForm]

@[simp] theorem State.log_frame (s : State) (origin : Nat × Nat) (cls : Nat) (inst : Nat) (old : Nat) (new : Nat) :
    (State.log s origin cls inst old new).pending = s.pending ∧ (State.log s origin cls inst old new).freeIdx = s.freeIdx ∧
    (State.log s origin cls inst old new).out = s.out ∧ (State.log s origin cls inst old new).dev = s.dev ∧
    (State.log s origin cls inst old new).pwr = s.pwr ∧ (State.log s origin cls inst old new).geo = s.geo ∧
    (State.log s origin cls inst old new).mem = s.mem ∧ (State.log s origin cls inst old new).lineErr = s.lineErr ∧
    (State.log s origin cls inst old new).pte = s.pte ∧ (State.log s origin cls inst old new).shadowNext = s.shadowNext ∧
    (State.log s origin cls inst old new).heldWrites = s.heldWrites ∧ (State.log s origin cls inst old new).unit = s.unit ∧
    (State.log s origin cls inst old new).plan = s.plan ∧ (State.log s origin cls inst old new).time = s.time ∧
    (State.log s origin cls inst old new).acts = s.acts ∧ (State.log s origin cls inst old new).fab = s.fab ∧
    (State.log s origin cls inst old new).flt = s.flt ∧ (State.log s origin cls inst old new).ck = s.ck ∧
    (State.log s origin cls inst old new).host = s.host ∧ (State.log s origin cls inst old new).cnt = s.cnt := by
  simp [State.log]

@[simp] theorem State.setPte_frame (s : State) (p : Nat) (e : Pte) :
    (State.setPte s p e).pending = s.pending ∧ (State.setPte s p e).freeIdx = s.freeIdx ∧ (State.setPte s p e).out = s.out ∧
    (State.setPte s p e).dev = s.dev ∧ (State.setPte s p e).pwr = s.pwr ∧ (State.setPte s p e).geo = s.geo ∧
    (State.setPte s p e).mem = s.mem ∧ (State.setPte s p e).lineErr = s.lineErr ∧ (State.setPte s p e).shadowNext = s.shadowNext ∧
    (State.setPte s p e).heldWrites = s.heldWrites ∧ (State.setPte s p e).unit = s.unit ∧ (State.setPte s p e).plan = s.plan ∧
    (State.setPte s p e).time = s.time ∧ (State.setPte s p e).acts = s.acts ∧ (State.setPte s p e).fab = s.fab ∧
    (State.setPte s p e).flt = s.flt ∧ (State.setPte s p e).ck = s.ck ∧ (State.setPte s p e).host = s.host ∧
    (State.setPte s p e).trust = s.trust ∧ (State.setPte s p e).cnt = s.cnt := by
  simp [State.setPte]

@[simp] theorem State.setHealth_frame (s : State) (b : Nat) :
    (State.setHealth s b).pending = s.pending ∧ (State.setHealth s b).freeIdx = s.freeIdx ∧ (State.setHealth s b).out = s.out ∧
    (State.setHealth s b).dev = s.dev ∧ (State.setHealth s b).pwr = s.pwr ∧ (State.setHealth s b).geo = s.geo ∧
    (State.setHealth s b).mem = s.mem ∧ (State.setHealth s b).lineErr = s.lineErr ∧ (State.setHealth s b).pte = s.pte ∧
    (State.setHealth s b).shadowNext = s.shadowNext ∧ (State.setHealth s b).heldWrites = s.heldWrites ∧
    (State.setHealth s b).unit = s.unit ∧ (State.setHealth s b).time = s.time ∧ (State.setHealth s b).acts = s.acts ∧
    (State.setHealth s b).fab = s.fab ∧ (State.setHealth s b).flt = s.flt ∧ (State.setHealth s b).ck = s.ck ∧
    (State.setHealth s b).host = s.host ∧ (State.setHealth s b).trust = s.trust ∧ (State.setHealth s b).cnt = s.cnt := by
  simp [State.setHealth]

@[simp] theorem State.eccUe_frame (s : State) (line : Nat) (flag : Bool) :
    (State.eccUe s line flag).pending = s.pending ∧ (State.eccUe s line flag).freeIdx = s.freeIdx ∧
    (State.eccUe s line flag).out = s.out ∧ (State.eccUe s line flag).dev = s.dev ∧ (State.eccUe s line flag).pwr = s.pwr ∧
    (State.eccUe s line flag).geo = s.geo ∧ (State.eccUe s line flag).mem = s.mem ∧
    (State.eccUe s line flag).lineErr = s.lineErr ∧ (State.eccUe s line flag).shadowNext = s.shadowNext ∧
    (State.eccUe s line flag).heldWrites = s.heldWrites ∧ (State.eccUe s line flag).unit = s.unit ∧
    (State.eccUe s line flag).time = s.time ∧ (State.eccUe s line flag).acts = s.acts ∧ (State.eccUe s line flag).fab = s.fab ∧
    (State.eccUe s line flag).flt = s.flt ∧ (State.eccUe s line flag).ck = s.ck ∧ (State.eccUe s line flag).host = s.host := by
  simp [State.eccUe]

@[simp] theorem State.eccCe_frame (s : State) (line : Nat) :
    (State.eccCe s line).pending = s.pending ∧ (State.eccCe s line).freeIdx = s.freeIdx ∧ (State.eccCe s line).out = s.out ∧
    (State.eccCe s line).dev = s.dev ∧ (State.eccCe s line).pwr = s.pwr ∧ (State.eccCe s line).geo = s.geo ∧
    (State.eccCe s line).mem = s.mem ∧ (State.eccCe s line).pte = s.pte ∧ (State.eccCe s line).shadowNext = s.shadowNext ∧
    (State.eccCe s line).heldWrites = s.heldWrites ∧ (State.eccCe s line).unit = s.unit ∧ (State.eccCe s line).plan = s.plan ∧
    (State.eccCe s line).time = s.time ∧ (State.eccCe s line).acts = s.acts ∧ (State.eccCe s line).fab = s.fab ∧
    (State.eccCe s line).flt = s.flt ∧ (State.eccCe s line).ck = s.ck ∧ (State.eccCe s line).host = s.host ∧
    (State.eccCe s line).trust = s.trust := by
  simp [State.eccCe]

@[simp] theorem State.raiseCause_frame (s : State) (cause : Nat) (detail : Nat) :
    (State.raiseCause s cause detail).pending = s.pending ∧ (State.raiseCause s cause detail).freeIdx = s.freeIdx ∧
    (State.raiseCause s cause detail).out = s.out ∧ (State.raiseCause s cause detail).dev = s.dev ∧
    (State.raiseCause s cause detail).pwr = s.pwr ∧ (State.raiseCause s cause detail).geo = s.geo ∧
    (State.raiseCause s cause detail).mem = s.mem ∧ (State.raiseCause s cause detail).lineErr = s.lineErr ∧
    (State.raiseCause s cause detail).pte = s.pte ∧ (State.raiseCause s cause detail).shadowNext = s.shadowNext ∧
    (State.raiseCause s cause detail).heldWrites = s.heldWrites ∧ (State.raiseCause s cause detail).unit = s.unit ∧
    (State.raiseCause s cause detail).plan = s.plan ∧ (State.raiseCause s cause detail).time = s.time ∧
    (State.raiseCause s cause detail).acts = s.acts ∧ (State.raiseCause s cause detail).fab = s.fab ∧
    (State.raiseCause s cause detail).ck = s.ck ∧ (State.raiseCause s cause detail).host = s.host := by
  simp [State.raiseCause]

@[simp] theorem State.missWork_frame (s : State) (r : Nat) :
    (State.missWork s r).pending = s.pending ∧ (State.missWork s r).freeIdx = s.freeIdx ∧
    (State.missWork s r).out = s.out ∧ (State.missWork s r).dev = s.dev ∧
    (State.missWork s r).pwr = s.pwr ∧ (State.missWork s r).geo = s.geo ∧
    (State.missWork s r).mem = s.mem ∧ (State.missWork s r).lineErr = s.lineErr ∧
    (State.missWork s r).pte = s.pte ∧ (State.missWork s r).shadowNext = s.shadowNext ∧
    (State.missWork s r).heldWrites = s.heldWrites ∧ (State.missWork s r).unit = s.unit ∧
    (State.missWork s r).plan = s.plan ∧ (State.missWork s r).time = s.time ∧
    (State.missWork s r).acts = s.acts ∧ (State.missWork s r).fab = s.fab ∧
    (State.missWork s r).ck = s.ck ∧ (State.missWork s r).host = s.host := by
  simp [State.missWork]

@[simp] theorem State.addrFault_frame (s : State) (req : Nat) (a : Nat) :
    (State.addrFault s req a).pending = s.pending ∧ (State.addrFault s req a).freeIdx = s.freeIdx ∧
    (State.addrFault s req a).out = s.out ∧ (State.addrFault s req a).dev = s.dev ∧ (State.addrFault s req a).pwr = s.pwr ∧
    (State.addrFault s req a).geo = s.geo ∧ (State.addrFault s req a).mem = s.mem ∧
    (State.addrFault s req a).lineErr = s.lineErr ∧ (State.addrFault s req a).pte = s.pte ∧
    (State.addrFault s req a).shadowNext = s.shadowNext ∧ (State.addrFault s req a).heldWrites = s.heldWrites ∧
    (State.addrFault s req a).unit = s.unit ∧ (State.addrFault s req a).plan = s.plan ∧ (State.addrFault s req a).time = s.time ∧
    (State.addrFault s req a).acts = s.acts ∧ (State.addrFault s req a).fab = s.fab ∧ (State.addrFault s req a).ck = s.ck ∧
    (State.addrFault s req a).host = s.host := by
  simp [State.addrFault]

@[simp] theorem State.holdWrite_frame (s : State) (shadowBase : Nat) (req : Nat) (p : Nat) (off : Nat) (data : List Byte) :
    (State.holdWrite s shadowBase req p off data).pending = s.pending ∧
    (State.holdWrite s shadowBase req p off data).freeIdx = s.freeIdx ∧
    (State.holdWrite s shadowBase req p off data).out = s.out ∧ (State.holdWrite s shadowBase req p off data).dev = s.dev ∧
    (State.holdWrite s shadowBase req p off data).pwr = s.pwr ∧ (State.holdWrite s shadowBase req p off data).geo = s.geo ∧
    (State.holdWrite s shadowBase req p off data).mem = s.mem ∧
    (State.holdWrite s shadowBase req p off data).lineErr = s.lineErr ∧
    (State.holdWrite s shadowBase req p off data).unit = s.unit ∧ (State.holdWrite s shadowBase req p off data).plan = s.plan ∧
    (State.holdWrite s shadowBase req p off data).time = s.time ∧ (State.holdWrite s shadowBase req p off data).acts = s.acts ∧
    (State.holdWrite s shadowBase req p off data).fab = s.fab ∧ (State.holdWrite s shadowBase req p off data).flt = s.flt ∧
    (State.holdWrite s shadowBase req p off data).ck = s.ck ∧ (State.holdWrite s shadowBase req p off data).host = s.host ∧
    (State.holdWrite s shadowBase req p off data).trust = s.trust ∧ (State.holdWrite s shadowBase req p off data).cnt = s.cnt := by
  simp [State.holdWrite]

@[simp] theorem State.poke_frame (s : State) (key : Nat) (data : List Byte) :
    (State.poke s key data).pending = s.pending ∧ (State.poke s key data).freeIdx = s.freeIdx ∧
    (State.poke s key data).out = s.out ∧ (State.poke s key data).dev = s.dev ∧ (State.poke s key data).pwr = s.pwr ∧
    (State.poke s key data).geo = s.geo ∧ (State.poke s key data).lineErr = s.lineErr ∧ (State.poke s key data).pte = s.pte ∧
    (State.poke s key data).shadowNext = s.shadowNext ∧ (State.poke s key data).heldWrites = s.heldWrites ∧
    (State.poke s key data).unit = s.unit ∧ (State.poke s key data).plan = s.plan ∧ (State.poke s key data).time = s.time ∧
    (State.poke s key data).acts = s.acts ∧ (State.poke s key data).fab = s.fab ∧ (State.poke s key data).flt = s.flt ∧
    (State.poke s key data).ck = s.ck ∧ (State.poke s key data).host = s.host ∧ (State.poke s key data).trust = s.trust ∧
    (State.poke s key data).cnt = s.cnt := by
  simp [State.poke]

@[simp] theorem State.lineWrite_frame (s : State) (req : Nat) (a : Nat) (data : List Byte) :
    (State.lineWrite s req a data).pending = s.pending ∧ (State.lineWrite s req a data).freeIdx = s.freeIdx ∧
    (State.lineWrite s req a data).out = s.out ∧ (State.lineWrite s req a data).dev = s.dev ∧
    (State.lineWrite s req a data).pwr = s.pwr ∧ (State.lineWrite s req a data).geo = s.geo ∧
    (State.lineWrite s req a data).shadowNext = s.shadowNext ∧ (State.lineWrite s req a data).heldWrites = s.heldWrites ∧
    (State.lineWrite s req a data).unit = s.unit ∧ (State.lineWrite s req a data).time = s.time ∧
    (State.lineWrite s req a data).acts = s.acts ∧ (State.lineWrite s req a data).fab = s.fab ∧
    (State.lineWrite s req a data).flt = s.flt ∧ (State.lineWrite s req a data).ck = s.ck ∧
    (State.lineWrite s req a data).host = s.host := by
  simp [State.lineWrite]

@[simp] theorem State.pageWrite_frame (s : State) (shadowBase : Nat) (req : Nat) (a : Nat) (data : List Byte) :
    (State.pageWrite s shadowBase req a data).pending = s.pending ∧
    (State.pageWrite s shadowBase req a data).freeIdx = s.freeIdx ∧ (State.pageWrite s shadowBase req a data).out = s.out ∧
    (State.pageWrite s shadowBase req a data).dev = s.dev ∧ (State.pageWrite s shadowBase req a data).pwr = s.pwr ∧
    (State.pageWrite s shadowBase req a data).geo = s.geo ∧ (State.pageWrite s shadowBase req a data).unit = s.unit ∧
    (State.pageWrite s shadowBase req a data).time = s.time ∧ (State.pageWrite s shadowBase req a data).acts = s.acts ∧
    (State.pageWrite s shadowBase req a data).fab = s.fab ∧ (State.pageWrite s shadowBase req a data).ck = s.ck ∧
    (State.pageWrite s shadowBase req a data).host = s.host := by
  simp [State.pageWrite]

@[simp] theorem State.hbmWriteN_frame (s : State) (shadowBase : Nat) (req : Nat) (a1 : Nat) (a2 : Nat) (a3 : List Byte) :
    (State.hbmWriteN s shadowBase req a1 a2 a3).pending = s.pending ∧
    (State.hbmWriteN s shadowBase req a1 a2 a3).freeIdx = s.freeIdx ∧ (State.hbmWriteN s shadowBase req a1 a2 a3).out = s.out ∧
    (State.hbmWriteN s shadowBase req a1 a2 a3).dev = s.dev ∧ (State.hbmWriteN s shadowBase req a1 a2 a3).pwr = s.pwr ∧
    (State.hbmWriteN s shadowBase req a1 a2 a3).geo = s.geo ∧ (State.hbmWriteN s shadowBase req a1 a2 a3).unit = s.unit ∧
    (State.hbmWriteN s shadowBase req a1 a2 a3).time = s.time ∧ (State.hbmWriteN s shadowBase req a1 a2 a3).acts = s.acts ∧
    (State.hbmWriteN s shadowBase req a1 a2 a3).fab = s.fab ∧ (State.hbmWriteN s shadowBase req a1 a2 a3).ck = s.ck ∧
    (State.hbmWriteN s shadowBase req a1 a2 a3).host = s.host := by
  induction a1 generalizing a2 a3 s with
  | zero => simp [State.hbmWriteN]
  | succ f ih => rw [State.hbmWriteN]; split <;> simp [ih]

@[simp] theorem State.hbmWrite_frame (s : State) (req : Nat) (a : Nat) (data : List Byte) :
    (State.hbmWrite s req a data).pending = s.pending ∧ (State.hbmWrite s req a data).freeIdx = s.freeIdx ∧
    (State.hbmWrite s req a data).out = s.out ∧ (State.hbmWrite s req a data).dev = s.dev ∧
    (State.hbmWrite s req a data).pwr = s.pwr ∧ (State.hbmWrite s req a data).geo = s.geo ∧
    (State.hbmWrite s req a data).unit = s.unit ∧ (State.hbmWrite s req a data).time = s.time ∧
    (State.hbmWrite s req a data).acts = s.acts ∧ (State.hbmWrite s req a data).fab = s.fab ∧
    (State.hbmWrite s req a data).ck = s.ck ∧ (State.hbmWrite s req a data).host = s.host := by
  simp [State.hbmWrite]

@[simp] theorem State.discard_frame (s : State) (pos : Nat) :
    (State.discard s pos).pending = s.pending ∧ (State.discard s pos).out = s.out ∧ (State.discard s pos).dev = s.dev ∧
    (State.discard s pos).pwr = s.pwr ∧ (State.discard s pos).mem = s.mem ∧ (State.discard s pos).lineErr = s.lineErr ∧
    (State.discard s pos).pte = s.pte ∧ (State.discard s pos).shadowNext = s.shadowNext ∧
    (State.discard s pos).heldWrites = s.heldWrites ∧ (State.discard s pos).unit = s.unit ∧ (State.discard s pos).plan = s.plan ∧
    (State.discard s pos).time = s.time ∧ (State.discard s pos).acts = s.acts ∧ (State.discard s pos).fab = s.fab ∧
    (State.discard s pos).flt = s.flt ∧ (State.discard s pos).ck = s.ck ∧ (State.discard s pos).host = s.host ∧
    (State.discard s pos).trust = s.trust ∧ (State.discard s pos).cnt = s.cnt := by
  simp [State.discard]

@[simp] theorem State.write_frame (s : State) (req : Nat) (key : Nat) (data : List Byte) :
    (State.write s req key data).pending = s.pending ∧ (State.write s req key data).out = s.out ∧
    (State.write s req key data).dev = s.dev ∧ (State.write s req key data).pwr = s.pwr ∧
    (State.write s req key data).unit = s.unit ∧ (State.write s req key data).time = s.time ∧
    (State.write s req key data).acts = s.acts ∧ (State.write s req key data).fab = s.fab ∧
    (State.write s req key data).ck = s.ck ∧ (State.write s req key data).host = s.host := by
  simp [State.write]

@[simp] theorem State.setBox_frame (s : State) (p : Nat) (m : Nat) (b : Mailbox) :
    (State.setBox s p m b).pending = s.pending ∧ (State.setBox s p m b).freeIdx = s.freeIdx ∧ (State.setBox s p m b).out = s.out ∧
    (State.setBox s p m b).dev = s.dev ∧ (State.setBox s p m b).pwr = s.pwr ∧ (State.setBox s p m b).geo = s.geo ∧
    (State.setBox s p m b).mem = s.mem ∧ (State.setBox s p m b).lineErr = s.lineErr ∧ (State.setBox s p m b).pte = s.pte ∧
    (State.setBox s p m b).shadowNext = s.shadowNext ∧ (State.setBox s p m b).heldWrites = s.heldWrites ∧
    (State.setBox s p m b).unit = s.unit ∧ (State.setBox s p m b).plan = s.plan ∧ (State.setBox s p m b).time = s.time ∧
    (State.setBox s p m b).acts = s.acts ∧ (State.setBox s p m b).fab = s.fab ∧ (State.setBox s p m b).flt = s.flt ∧
    (State.setBox s p m b).ck = s.ck ∧ (State.setBox s p m b).trust = s.trust ∧ (State.setBox s p m b).cnt = s.cnt := by
  simp [State.setBox]

@[simp] theorem State.updQueue_frame (s : State) (q : Nat) (f : FeedQueue → FeedQueue) :
    (State.updQueue s q f).pending = s.pending ∧ (State.updQueue s q f).freeIdx = s.freeIdx ∧ (State.updQueue s q f).out = s.out ∧
    (State.updQueue s q f).dev = s.dev ∧ (State.updQueue s q f).pwr = s.pwr ∧ (State.updQueue s q f).geo = s.geo ∧
    (State.updQueue s q f).mem = s.mem ∧ (State.updQueue s q f).lineErr = s.lineErr ∧ (State.updQueue s q f).pte = s.pte ∧
    (State.updQueue s q f).shadowNext = s.shadowNext ∧ (State.updQueue s q f).heldWrites = s.heldWrites ∧
    (State.updQueue s q f).plan = s.plan ∧ (State.updQueue s q f).time = s.time ∧ (State.updQueue s q f).acts = s.acts ∧
    (State.updQueue s q f).fab = s.fab ∧ (State.updQueue s q f).flt = s.flt ∧ (State.updQueue s q f).ck = s.ck ∧
    (State.updQueue s q f).host = s.host ∧ (State.updQueue s q f).trust = s.trust ∧ (State.updQueue s q f).cnt = s.cnt := by
  simp [State.updQueue]

@[simp] theorem State.sendQueue_frame (s : State) (q : Nat) :
    (State.sendQueue s q).pending = s.pending ∧ (State.sendQueue s q).out = s.out ∧ (State.sendQueue s q).dev = s.dev ∧
    (State.sendQueue s q).pwr = s.pwr ∧ (State.sendQueue s q).mem = s.mem ∧ (State.sendQueue s q).lineErr = s.lineErr ∧
    (State.sendQueue s q).pte = s.pte ∧ (State.sendQueue s q).shadowNext = s.shadowNext ∧
    (State.sendQueue s q).heldWrites = s.heldWrites ∧ (State.sendQueue s q).plan = s.plan ∧ (State.sendQueue s q).time = s.time ∧
    (State.sendQueue s q).acts = s.acts ∧ (State.sendQueue s q).fab = s.fab ∧ (State.sendQueue s q).flt = s.flt ∧
    (State.sendQueue s q).ck = s.ck ∧ (State.sendQueue s q).host = s.host ∧ (State.sendQueue s q).trust = s.trust ∧
    (State.sendQueue s q).cnt = s.cnt := by
  simp [State.sendQueue]

@[simp] theorem State.pushQueue_frame (s : State) (q : Nat) (data : List Byte) :
    (State.pushQueue s q data).pending = s.pending ∧ (State.pushQueue s q data).out = s.out ∧
    (State.pushQueue s q data).dev = s.dev ∧ (State.pushQueue s q data).pwr = s.pwr ∧ (State.pushQueue s q data).mem = s.mem ∧
    (State.pushQueue s q data).lineErr = s.lineErr ∧ (State.pushQueue s q data).pte = s.pte ∧
    (State.pushQueue s q data).shadowNext = s.shadowNext ∧ (State.pushQueue s q data).heldWrites = s.heldWrites ∧
    (State.pushQueue s q data).plan = s.plan ∧ (State.pushQueue s q data).time = s.time ∧
    (State.pushQueue s q data).acts = s.acts ∧ (State.pushQueue s q data).fab = s.fab ∧ (State.pushQueue s q data).flt = s.flt ∧
    (State.pushQueue s q data).ck = s.ck ∧ (State.pushQueue s q data).host = s.host ∧ (State.pushQueue s q data).trust = s.trust ∧
    (State.pushQueue s q data).cnt = s.cnt := by
  simp [State.pushQueue]

@[simp] theorem State.writeAny_frame (s : State) (req : Nat) (key : Nat) (data : List Byte) :
    (State.writeAny s req key data).pending = s.pending ∧ (State.writeAny s req key data).out = s.out ∧
    (State.writeAny s req key data).dev = s.dev ∧ (State.writeAny s req key data).pwr = s.pwr ∧
    (State.writeAny s req key data).time = s.time ∧ (State.writeAny s req key data).acts = s.acts ∧
    (State.writeAny s req key data).fab = s.fab ∧ (State.writeAny s req key data).ck = s.ck ∧
    (State.writeAny s req key data).host = s.host := by
  unfold State.writeAny; split <;> simp

@[simp] theorem State.flush_frame (s : State) (req : Nat) (d : Place) (o : Patch) :
    (State.flush s req d o).pending = s.pending ∧ (State.flush s req d o).out = s.out ∧ (State.flush s req d o).dev = s.dev ∧
    (State.flush s req d o).pwr = s.pwr ∧ (State.flush s req d o).time = s.time ∧ (State.flush s req d o).acts = s.acts ∧
    (State.flush s req d o).fab = s.fab ∧ (State.flush s req d o).ck = s.ck ∧ (State.flush s req d o).host = s.host := by
  unfold State.flush; split <;> simp

@[simp] theorem State.logHash_frame (s : State) (origin : Nat × Nat) (cls : Nat) (inst : Nat) (old : List Byte) (new : List Byte) :
    (State.logHash s origin cls inst old new).pending = s.pending ∧
    (State.logHash s origin cls inst old new).freeIdx = s.freeIdx ∧ (State.logHash s origin cls inst old new).out = s.out ∧
    (State.logHash s origin cls inst old new).dev = s.dev ∧ (State.logHash s origin cls inst old new).pwr = s.pwr ∧
    (State.logHash s origin cls inst old new).geo = s.geo ∧ (State.logHash s origin cls inst old new).mem = s.mem ∧
    (State.logHash s origin cls inst old new).lineErr = s.lineErr ∧ (State.logHash s origin cls inst old new).pte = s.pte ∧
    (State.logHash s origin cls inst old new).shadowNext = s.shadowNext ∧
    (State.logHash s origin cls inst old new).heldWrites = s.heldWrites ∧
    (State.logHash s origin cls inst old new).unit = s.unit ∧ (State.logHash s origin cls inst old new).plan = s.plan ∧
    (State.logHash s origin cls inst old new).time = s.time ∧ (State.logHash s origin cls inst old new).acts = s.acts ∧
    (State.logHash s origin cls inst old new).fab = s.fab ∧ (State.logHash s origin cls inst old new).flt = s.flt ∧
    (State.logHash s origin cls inst old new).ck = s.ck ∧ (State.logHash s origin cls inst old new).host = s.host ∧
    (State.logHash s origin cls inst old new).cnt = s.cnt := by
  simp [State.logHash]

@[simp] theorem State.setHalf_frame (s : State) (h : Nat) (p : HalfPower) :
    (State.setHalf s h p).pending = s.pending ∧ (State.setHalf s h p).freeIdx = s.freeIdx ∧ (State.setHalf s h p).out = s.out ∧
    (State.setHalf s h p).dev = s.dev ∧ (State.setHalf s h p).geo = s.geo ∧ (State.setHalf s h p).mem = s.mem ∧
    (State.setHalf s h p).lineErr = s.lineErr ∧ (State.setHalf s h p).pte = s.pte ∧
    (State.setHalf s h p).shadowNext = s.shadowNext ∧ (State.setHalf s h p).heldWrites = s.heldWrites ∧
    (State.setHalf s h p).unit = s.unit ∧ (State.setHalf s h p).plan = s.plan ∧ (State.setHalf s h p).time = s.time ∧
    (State.setHalf s h p).acts = s.acts ∧ (State.setHalf s h p).fab = s.fab ∧ (State.setHalf s h p).flt = s.flt ∧
    (State.setHalf s h p).ck = s.ck ∧ (State.setHalf s h p).host = s.host ∧ (State.setHalf s h p).trust = s.trust ∧
    (State.setHalf s h p).cnt = s.cnt := by
  simp [State.setHalf]

@[simp] theorem State.takeGear_frame (s : State) (h : Nat) (g : Nat) :
    (State.takeGear s h g).pending = s.pending ∧ (State.takeGear s h g).freeIdx = s.freeIdx ∧ (State.takeGear s h g).out = s.out ∧
    (State.takeGear s h g).dev = s.dev ∧ (State.takeGear s h g).geo = s.geo ∧ (State.takeGear s h g).mem = s.mem ∧
    (State.takeGear s h g).lineErr = s.lineErr ∧ (State.takeGear s h g).pte = s.pte ∧
    (State.takeGear s h g).shadowNext = s.shadowNext ∧ (State.takeGear s h g).heldWrites = s.heldWrites ∧
    (State.takeGear s h g).unit = s.unit ∧ (State.takeGear s h g).plan = s.plan ∧ (State.takeGear s h g).time = s.time ∧
    (State.takeGear s h g).acts = s.acts ∧ (State.takeGear s h g).fab = s.fab ∧ (State.takeGear s h g).flt = s.flt ∧
    (State.takeGear s h g).ck = s.ck ∧ (State.takeGear s h g).host = s.host ∧ (State.takeGear s h g).trust = s.trust ∧
    (State.takeGear s h g).cnt = s.cnt := by
  simp [State.takeGear]

@[simp] theorem State.startRaise_frame (s : State) (h : Nat) (g : Nat) :
    (State.startRaise s h g).pending = s.pending ∧ (State.startRaise s h g).freeIdx = s.freeIdx ∧
    (State.startRaise s h g).out = s.out ∧ (State.startRaise s h g).dev = s.dev ∧ (State.startRaise s h g).geo = s.geo ∧
    (State.startRaise s h g).mem = s.mem ∧ (State.startRaise s h g).lineErr = s.lineErr ∧ (State.startRaise s h g).pte = s.pte ∧
    (State.startRaise s h g).shadowNext = s.shadowNext ∧ (State.startRaise s h g).heldWrites = s.heldWrites ∧
    (State.startRaise s h g).unit = s.unit ∧ (State.startRaise s h g).plan = s.plan ∧ (State.startRaise s h g).time = s.time ∧
    (State.startRaise s h g).acts = s.acts ∧ (State.startRaise s h g).fab = s.fab ∧ (State.startRaise s h g).flt = s.flt ∧
    (State.startRaise s h g).ck = s.ck ∧ (State.startRaise s h g).host = s.host ∧ (State.startRaise s h g).trust = s.trust ∧
    (State.startRaise s h g).cnt = s.cnt := by
  simp [State.startRaise]

@[simp] theorem State.applyGear_frame (s : State) (h : Nat) :
    (State.applyGear s h).pending = s.pending ∧ (State.applyGear s h).freeIdx = s.freeIdx ∧ (State.applyGear s h).out = s.out ∧
    (State.applyGear s h).dev = s.dev ∧ (State.applyGear s h).geo = s.geo ∧ (State.applyGear s h).mem = s.mem ∧
    (State.applyGear s h).lineErr = s.lineErr ∧ (State.applyGear s h).pte = s.pte ∧
    (State.applyGear s h).shadowNext = s.shadowNext ∧ (State.applyGear s h).heldWrites = s.heldWrites ∧
    (State.applyGear s h).unit = s.unit ∧ (State.applyGear s h).plan = s.plan ∧ (State.applyGear s h).time = s.time ∧
    (State.applyGear s h).acts = s.acts ∧ (State.applyGear s h).fab = s.fab ∧ (State.applyGear s h).flt = s.flt ∧
    (State.applyGear s h).ck = s.ck ∧ (State.applyGear s h).host = s.host ∧ (State.applyGear s h).trust = s.trust := by
  simp [State.applyGear]

@[simp] theorem State.applyGears_frame (s : State) :
    (State.applyGears s).pending = s.pending ∧ (State.applyGears s).freeIdx = s.freeIdx ∧ (State.applyGears s).out = s.out ∧
    (State.applyGears s).dev = s.dev ∧ (State.applyGears s).geo = s.geo ∧ (State.applyGears s).mem = s.mem ∧
    (State.applyGears s).lineErr = s.lineErr ∧ (State.applyGears s).pte = s.pte ∧ (State.applyGears s).shadowNext = s.shadowNext ∧
    (State.applyGears s).heldWrites = s.heldWrites ∧ (State.applyGears s).unit = s.unit ∧ (State.applyGears s).plan = s.plan ∧
    (State.applyGears s).time = s.time ∧ (State.applyGears s).acts = s.acts ∧ (State.applyGears s).fab = s.fab ∧
    (State.applyGears s).flt = s.flt ∧ (State.applyGears s).ck = s.ck ∧ (State.applyGears s).host = s.host ∧
    (State.applyGears s).trust = s.trust := by
  simp [State.applyGears]

@[simp] theorem State.lineNotes_frame (s : State) (req : Nat) (a : Nat) (n : Nat) :
    (State.lineNotes s req a n).pending = s.pending ∧ (State.lineNotes s req a n).freeIdx = s.freeIdx ∧
    (State.lineNotes s req a n).out = s.out ∧ (State.lineNotes s req a n).dev = s.dev ∧ (State.lineNotes s req a n).pwr = s.pwr ∧
    (State.lineNotes s req a n).geo = s.geo ∧ (State.lineNotes s req a n).mem = s.mem ∧
    (State.lineNotes s req a n).shadowNext = s.shadowNext ∧ (State.lineNotes s req a n).heldWrites = s.heldWrites ∧
    (State.lineNotes s req a n).unit = s.unit ∧ (State.lineNotes s req a n).time = s.time ∧
    (State.lineNotes s req a n).acts = s.acts ∧ (State.lineNotes s req a n).fab = s.fab ∧
    (State.lineNotes s req a n).flt = s.flt ∧ (State.lineNotes s req a n).ck = s.ck ∧ (State.lineNotes s req a n).host = s.host := by
  simp [State.lineNotes]

@[simp] theorem State.hbmNoteRead_frame (s : State) (req : Nat) (a : Nat) (n : Nat) :
    (State.hbmNoteRead s req a n).pending = s.pending ∧ (State.hbmNoteRead s req a n).freeIdx = s.freeIdx ∧
    (State.hbmNoteRead s req a n).out = s.out ∧ (State.hbmNoteRead s req a n).dev = s.dev ∧
    (State.hbmNoteRead s req a n).pwr = s.pwr ∧ (State.hbmNoteRead s req a n).geo = s.geo ∧
    (State.hbmNoteRead s req a n).mem = s.mem ∧ (State.hbmNoteRead s req a n).shadowNext = s.shadowNext ∧
    (State.hbmNoteRead s req a n).heldWrites = s.heldWrites ∧ (State.hbmNoteRead s req a n).unit = s.unit ∧
    (State.hbmNoteRead s req a n).time = s.time ∧ (State.hbmNoteRead s req a n).acts = s.acts ∧
    (State.hbmNoteRead s req a n).fab = s.fab ∧ (State.hbmNoteRead s req a n).ck = s.ck ∧
    (State.hbmNoteRead s req a n).host = s.host := by
  simp [State.hbmNoteRead]

@[simp] theorem State.drawBytes_frame (s : State) (n : Nat) :
    (State.drawBytes s n).2.pending = s.pending ∧ (State.drawBytes s n).2.out = s.out ∧ (State.drawBytes s n).2.dev = s.dev ∧
    (State.drawBytes s n).2.pwr = s.pwr ∧ (State.drawBytes s n).2.geo = s.geo ∧ (State.drawBytes s n).2.mem = s.mem ∧
    (State.drawBytes s n).2.lineErr = s.lineErr ∧ (State.drawBytes s n).2.pte = s.pte ∧
    (State.drawBytes s n).2.shadowNext = s.shadowNext ∧ (State.drawBytes s n).2.heldWrites = s.heldWrites ∧
    (State.drawBytes s n).2.unit = s.unit ∧ (State.drawBytes s n).2.plan = s.plan ∧ (State.drawBytes s n).2.time = s.time ∧
    (State.drawBytes s n).2.acts = s.acts ∧ (State.drawBytes s n).2.fab = s.fab ∧ (State.drawBytes s n).2.flt = s.flt ∧
    (State.drawBytes s n).2.ck = s.ck ∧ (State.drawBytes s n).2.host = s.host ∧ (State.drawBytes s n).2.trust = s.trust ∧
    (State.drawBytes s n).2.cnt = s.cnt := by
  simp [State.drawBytes]

@[simp] theorem State.noteRead_frame (s : State) (req : Nat) (key : Nat) (n : Nat) :
    (State.noteRead s req key n).pending = s.pending ∧ (State.noteRead s req key n).out = s.out ∧
    (State.noteRead s req key n).dev = s.dev ∧ (State.noteRead s req key n).pwr = s.pwr ∧
    (State.noteRead s req key n).mem = s.mem ∧ (State.noteRead s req key n).shadowNext = s.shadowNext ∧
    (State.noteRead s req key n).heldWrites = s.heldWrites ∧ (State.noteRead s req key n).unit = s.unit ∧
    (State.noteRead s req key n).time = s.time ∧ (State.noteRead s req key n).acts = s.acts ∧
    (State.noteRead s req key n).fab = s.fab ∧ (State.noteRead s req key n).ck = s.ck ∧
    (State.noteRead s req key n).host = s.host := by
  simp [State.noteRead]

@[simp] theorem State.makeRecordLen_frame (s : State) (p : Nat) (m : Nat) (status : Nat) (detail : Nat) (body : List Byte) (len : Nat) (wrote : Option (Nat × Nat)) :
    (State.makeRecordLen s p m status detail body len wrote).pending = s.pending ∧
    (State.makeRecordLen s p m status detail body len wrote).freeIdx = s.freeIdx ∧
    (State.makeRecordLen s p m status detail body len wrote).out = s.out ∧
    (State.makeRecordLen s p m status detail body len wrote).dev = s.dev ∧
    (State.makeRecordLen s p m status detail body len wrote).pwr = s.pwr ∧
    (State.makeRecordLen s p m status detail body len wrote).geo = s.geo ∧
    (State.makeRecordLen s p m status detail body len wrote).mem = s.mem ∧
    (State.makeRecordLen s p m status detail body len wrote).lineErr = s.lineErr ∧
    (State.makeRecordLen s p m status detail body len wrote).pte = s.pte ∧
    (State.makeRecordLen s p m status detail body len wrote).shadowNext = s.shadowNext ∧
    (State.makeRecordLen s p m status detail body len wrote).heldWrites = s.heldWrites ∧
    (State.makeRecordLen s p m status detail body len wrote).unit = s.unit ∧
    (State.makeRecordLen s p m status detail body len wrote).plan = s.plan ∧
    (State.makeRecordLen s p m status detail body len wrote).time = s.time ∧
    (State.makeRecordLen s p m status detail body len wrote).acts = s.acts ∧
    (State.makeRecordLen s p m status detail body len wrote).fab = s.fab ∧
    (State.makeRecordLen s p m status detail body len wrote).flt = s.flt ∧
    (State.makeRecordLen s p m status detail body len wrote).ck = s.ck ∧
    (State.makeRecordLen s p m status detail body len wrote).trust = s.trust ∧
    (State.makeRecordLen s p m status detail body len wrote).cnt = s.cnt := by
  unfold State.makeRecordLen; dsimp only; split <;> simp

@[simp] theorem State.makeRecord_frame (s : State) (p : Nat) (m : Nat) (status : Nat) (detail : Nat) (body : List Byte) :
    (State.makeRecord s p m status detail body).pending = s.pending ∧
    (State.makeRecord s p m status detail body).freeIdx = s.freeIdx ∧ (State.makeRecord s p m status detail body).out = s.out ∧
    (State.makeRecord s p m status detail body).dev = s.dev ∧ (State.makeRecord s p m status detail body).pwr = s.pwr ∧
    (State.makeRecord s p m status detail body).geo = s.geo ∧ (State.makeRecord s p m status detail body).mem = s.mem ∧
    (State.makeRecord s p m status detail body).lineErr = s.lineErr ∧ (State.makeRecord s p m status detail body).pte = s.pte ∧
    (State.makeRecord s p m status detail body).shadowNext = s.shadowNext ∧
    (State.makeRecord s p m status detail body).heldWrites = s.heldWrites ∧
    (State.makeRecord s p m status detail body).unit = s.unit ∧ (State.makeRecord s p m status detail body).plan = s.plan ∧
    (State.makeRecord s p m status detail body).time = s.time ∧ (State.makeRecord s p m status detail body).acts = s.acts ∧
    (State.makeRecord s p m status detail body).fab = s.fab ∧ (State.makeRecord s p m status detail body).flt = s.flt ∧
    (State.makeRecord s p m status detail body).ck = s.ck ∧ (State.makeRecord s p m status detail body).trust = s.trust ∧
    (State.makeRecord s p m status detail body).cnt = s.cnt := by
  simp [State.makeRecord]

@[simp] theorem State.bumps_frame (s : State) (l : List Bump) :
    (State.bumps s l).pending = s.pending ∧ (State.bumps s l).freeIdx = s.freeIdx ∧ (State.bumps s l).out = s.out ∧
    (State.bumps s l).dev = s.dev ∧ (State.bumps s l).pwr = s.pwr ∧ (State.bumps s l).geo = s.geo ∧
    (State.bumps s l).mem = s.mem ∧ (State.bumps s l).lineErr = s.lineErr ∧ (State.bumps s l).pte = s.pte ∧
    (State.bumps s l).shadowNext = s.shadowNext ∧ (State.bumps s l).heldWrites = s.heldWrites ∧ (State.bumps s l).unit = s.unit ∧
    (State.bumps s l).plan = s.plan ∧ (State.bumps s l).time = s.time ∧ (State.bumps s l).acts = s.acts ∧
    (State.bumps s l).fab = s.fab ∧ (State.bumps s l).flt = s.flt ∧ (State.bumps s l).ck = s.ck ∧
    (State.bumps s l).host = s.host ∧ (State.bumps s l).trust = s.trust := by
  simp [State.bumps]

@[simp] theorem State.clearCnt_frame (s : State) (blk : Nat) (f : Nat → Bool) :
    (State.clearCnt s blk f).pending = s.pending ∧ (State.clearCnt s blk f).freeIdx = s.freeIdx ∧
    (State.clearCnt s blk f).out = s.out ∧ (State.clearCnt s blk f).dev = s.dev ∧ (State.clearCnt s blk f).pwr = s.pwr ∧
    (State.clearCnt s blk f).geo = s.geo ∧ (State.clearCnt s blk f).mem = s.mem ∧ (State.clearCnt s blk f).lineErr = s.lineErr ∧
    (State.clearCnt s blk f).pte = s.pte ∧ (State.clearCnt s blk f).shadowNext = s.shadowNext ∧
    (State.clearCnt s blk f).heldWrites = s.heldWrites ∧ (State.clearCnt s blk f).unit = s.unit ∧
    (State.clearCnt s blk f).plan = s.plan ∧ (State.clearCnt s blk f).time = s.time ∧ (State.clearCnt s blk f).acts = s.acts ∧
    (State.clearCnt s blk f).fab = s.fab ∧ (State.clearCnt s blk f).flt = s.flt ∧ (State.clearCnt s blk f).ck = s.ck ∧
    (State.clearCnt s blk f).host = s.host ∧ (State.clearCnt s blk f).trust = s.trust := by
  simp [State.clearCnt]

@[simp] theorem State.clobber_frame (s : State) (req : Nat) (outs : List (Nat × Nat)) :
    (State.clobber s req outs).pending = s.pending ∧ (State.clobber s req outs).out = s.out ∧
    (State.clobber s req outs).dev = s.dev ∧ (State.clobber s req outs).pwr = s.pwr ∧ (State.clobber s req outs).geo = s.geo ∧
    (State.clobber s req outs).unit = s.unit ∧ (State.clobber s req outs).time = s.time ∧
    (State.clobber s req outs).acts = s.acts ∧ (State.clobber s req outs).fab = s.fab ∧ (State.clobber s req outs).ck = s.ck ∧
    (State.clobber s req outs).host = s.host := by
  simp [State.clobber]

@[simp] theorem State.setPort_frame (s : State) (p : Nat) (q : Port) :
    (State.setPort s p q).pending = s.pending ∧ (State.setPort s p q).freeIdx = s.freeIdx ∧ (State.setPort s p q).out = s.out ∧
    (State.setPort s p q).dev = s.dev ∧ (State.setPort s p q).pwr = s.pwr ∧ (State.setPort s p q).geo = s.geo ∧
    (State.setPort s p q).mem = s.mem ∧ (State.setPort s p q).lineErr = s.lineErr ∧ (State.setPort s p q).pte = s.pte ∧
    (State.setPort s p q).shadowNext = s.shadowNext ∧ (State.setPort s p q).heldWrites = s.heldWrites ∧
    (State.setPort s p q).unit = s.unit ∧ (State.setPort s p q).plan = s.plan ∧ (State.setPort s p q).time = s.time ∧
    (State.setPort s p q).acts = s.acts ∧ (State.setPort s p q).flt = s.flt ∧ (State.setPort s p q).ck = s.ck ∧
    (State.setPort s p q).host = s.host ∧ (State.setPort s p q).trust = s.trust ∧ (State.setPort s p q).cnt = s.cnt := by
  simp [State.setPort]

@[simp] theorem State.sendFlit_frame (s : State) (port : Nat) (f : Flit) :
    (State.sendFlit s port f).pending = s.pending ∧ (State.sendFlit s port f).freeIdx = s.freeIdx ∧
    (State.sendFlit s port f).dev = s.dev ∧ (State.sendFlit s port f).pwr = s.pwr ∧ (State.sendFlit s port f).geo = s.geo ∧
    (State.sendFlit s port f).mem = s.mem ∧ (State.sendFlit s port f).lineErr = s.lineErr ∧
    (State.sendFlit s port f).pte = s.pte ∧ (State.sendFlit s port f).shadowNext = s.shadowNext ∧
    (State.sendFlit s port f).heldWrites = s.heldWrites ∧ (State.sendFlit s port f).unit = s.unit ∧
    (State.sendFlit s port f).plan = s.plan ∧ (State.sendFlit s port f).time = s.time ∧ (State.sendFlit s port f).acts = s.acts ∧
    (State.sendFlit s port f).flt = s.flt ∧ (State.sendFlit s port f).ck = s.ck ∧ (State.sendFlit s port f).host = s.host ∧
    (State.sendFlit s port f).trust = s.trust := by
  simp [State.sendFlit]

@[simp] theorem State.pump_frame (s : State) (p : Nat) (a1 : Nat) :
    (State.pump s p a1).pending = s.pending ∧ (State.pump s p a1).freeIdx = s.freeIdx ∧ (State.pump s p a1).dev = s.dev ∧
    (State.pump s p a1).pwr = s.pwr ∧ (State.pump s p a1).geo = s.geo ∧ (State.pump s p a1).mem = s.mem ∧
    (State.pump s p a1).lineErr = s.lineErr ∧ (State.pump s p a1).pte = s.pte ∧ (State.pump s p a1).shadowNext = s.shadowNext ∧
    (State.pump s p a1).heldWrites = s.heldWrites ∧ (State.pump s p a1).unit = s.unit ∧ (State.pump s p a1).plan = s.plan ∧
    (State.pump s p a1).time = s.time ∧ (State.pump s p a1).acts = s.acts ∧ (State.pump s p a1).flt = s.flt ∧
    (State.pump s p a1).ck = s.ck ∧ (State.pump s p a1).host = s.host ∧ (State.pump s p a1).trust = s.trust := by
  induction a1 generalizing s with
  | zero => simp [State.pump]
  | succ n ih =>
    unfold State.pump; dsimp only; split
    · split
      · simp [ih]
      · simp
    · simp

@[simp] theorem State.drain_frame (s : State) (p : Nat) :
    (State.drain s p).pending = s.pending ∧ (State.drain s p).freeIdx = s.freeIdx ∧ (State.drain s p).dev = s.dev ∧
    (State.drain s p).pwr = s.pwr ∧ (State.drain s p).geo = s.geo ∧ (State.drain s p).mem = s.mem ∧
    (State.drain s p).lineErr = s.lineErr ∧ (State.drain s p).pte = s.pte ∧ (State.drain s p).shadowNext = s.shadowNext ∧
    (State.drain s p).heldWrites = s.heldWrites ∧ (State.drain s p).unit = s.unit ∧ (State.drain s p).plan = s.plan ∧
    (State.drain s p).time = s.time ∧ (State.drain s p).acts = s.acts ∧ (State.drain s p).flt = s.flt ∧
    (State.drain s p).ck = s.ck ∧ (State.drain s p).host = s.host ∧ (State.drain s p).trust = s.trust := by
  simp [State.drain]

@[simp] theorem State.queueFlits_frame (s : State) (p : Nat) (l : List Flit) :
    (State.queueFlits s p l).pending = s.pending ∧ (State.queueFlits s p l).freeIdx = s.freeIdx ∧
    (State.queueFlits s p l).dev = s.dev ∧ (State.queueFlits s p l).pwr = s.pwr ∧ (State.queueFlits s p l).geo = s.geo ∧
    (State.queueFlits s p l).mem = s.mem ∧ (State.queueFlits s p l).lineErr = s.lineErr ∧ (State.queueFlits s p l).pte = s.pte ∧
    (State.queueFlits s p l).shadowNext = s.shadowNext ∧ (State.queueFlits s p l).heldWrites = s.heldWrites ∧
    (State.queueFlits s p l).unit = s.unit ∧ (State.queueFlits s p l).plan = s.plan ∧ (State.queueFlits s p l).time = s.time ∧
    (State.queueFlits s p l).acts = s.acts ∧ (State.queueFlits s p l).flt = s.flt ∧ (State.queueFlits s p l).ck = s.ck ∧
    (State.queueFlits s p l).host = s.host ∧ (State.queueFlits s p l).trust = s.trust := by
  simp [State.queueFlits]

@[simp] theorem State.sendMsg_frame (s : State) (port : Nat) (cls : Nat) (m : LinkMsg) :
    (State.sendMsg s port cls m).pending = s.pending ∧ (State.sendMsg s port cls m).freeIdx = s.freeIdx ∧
    (State.sendMsg s port cls m).dev = s.dev ∧ (State.sendMsg s port cls m).pwr = s.pwr ∧
    (State.sendMsg s port cls m).geo = s.geo ∧ (State.sendMsg s port cls m).mem = s.mem ∧
    (State.sendMsg s port cls m).lineErr = s.lineErr ∧ (State.sendMsg s port cls m).pte = s.pte ∧
    (State.sendMsg s port cls m).shadowNext = s.shadowNext ∧ (State.sendMsg s port cls m).heldWrites = s.heldWrites ∧
    (State.sendMsg s port cls m).unit = s.unit ∧ (State.sendMsg s port cls m).plan = s.plan ∧
    (State.sendMsg s port cls m).time = s.time ∧ (State.sendMsg s port cls m).acts = s.acts ∧
    (State.sendMsg s port cls m).flt = s.flt ∧ (State.sendMsg s port cls m).ck = s.ck ∧
    (State.sendMsg s port cls m).host = s.host ∧ (State.sendMsg s port cls m).trust = s.trust := by
  simp [State.sendMsg]

@[simp] theorem State.joinTap_frame (s : State) (key : Nat) (clr : Bool) (t : List Nat) :
    (State.joinTap s key clr t).pending = s.pending ∧ (State.joinTap s key clr t).freeIdx = s.freeIdx ∧
    (State.joinTap s key clr t).out = s.out ∧ (State.joinTap s key clr t).dev = s.dev ∧ (State.joinTap s key clr t).pwr = s.pwr ∧
    (State.joinTap s key clr t).geo = s.geo ∧ (State.joinTap s key clr t).lineErr = s.lineErr ∧
    (State.joinTap s key clr t).pte = s.pte ∧ (State.joinTap s key clr t).shadowNext = s.shadowNext ∧
    (State.joinTap s key clr t).heldWrites = s.heldWrites ∧ (State.joinTap s key clr t).unit = s.unit ∧
    (State.joinTap s key clr t).plan = s.plan ∧ (State.joinTap s key clr t).time = s.time ∧
    (State.joinTap s key clr t).acts = s.acts ∧ (State.joinTap s key clr t).fab = s.fab ∧
    (State.joinTap s key clr t).flt = s.flt ∧ (State.joinTap s key clr t).ck = s.ck ∧ (State.joinTap s key clr t).host = s.host ∧
    (State.joinTap s key clr t).trust = s.trust ∧ (State.joinTap s key clr t).cnt = s.cnt := by
  simp [State.joinTap]

@[simp] theorem State.drawBool_frame (s : State) :
    (State.drawBool s).2.pending = s.pending ∧ (State.drawBool s).2.out = s.out ∧ (State.drawBool s).2.dev = s.dev ∧
    (State.drawBool s).2.pwr = s.pwr ∧ (State.drawBool s).2.geo = s.geo ∧ (State.drawBool s).2.mem = s.mem ∧
    (State.drawBool s).2.lineErr = s.lineErr ∧ (State.drawBool s).2.pte = s.pte ∧ (State.drawBool s).2.shadowNext = s.shadowNext ∧
    (State.drawBool s).2.heldWrites = s.heldWrites ∧ (State.drawBool s).2.unit = s.unit ∧ (State.drawBool s).2.plan = s.plan ∧
    (State.drawBool s).2.time = s.time ∧ (State.drawBool s).2.acts = s.acts ∧ (State.drawBool s).2.fab = s.fab ∧
    (State.drawBool s).2.flt = s.flt ∧ (State.drawBool s).2.ck = s.ck ∧ (State.drawBool s).2.host = s.host ∧
    (State.drawBool s).2.trust = s.trust ∧ (State.drawBool s).2.cnt = s.cnt := by
  simp [State.drawBool]

@[simp] theorem State.sendCard_frame (s : State) (port : Nat) (lane : Nat) (kind : Nat) (e : OutEvent) (payload : List Byte) :
    (State.sendCard s port lane kind e payload).pending = s.pending ∧
    (State.sendCard s port lane kind e payload).freeIdx = s.freeIdx ∧ (State.sendCard s port lane kind e payload).dev = s.dev ∧
    (State.sendCard s port lane kind e payload).pwr = s.pwr ∧ (State.sendCard s port lane kind e payload).geo = s.geo ∧
    (State.sendCard s port lane kind e payload).mem = s.mem ∧ (State.sendCard s port lane kind e payload).lineErr = s.lineErr ∧
    (State.sendCard s port lane kind e payload).pte = s.pte ∧
    (State.sendCard s port lane kind e payload).shadowNext = s.shadowNext ∧
    (State.sendCard s port lane kind e payload).heldWrites = s.heldWrites ∧
    (State.sendCard s port lane kind e payload).unit = s.unit ∧ (State.sendCard s port lane kind e payload).plan = s.plan ∧
    (State.sendCard s port lane kind e payload).time = s.time ∧ (State.sendCard s port lane kind e payload).acts = s.acts ∧
    (State.sendCard s port lane kind e payload).flt = s.flt ∧ (State.sendCard s port lane kind e payload).ck = s.ck ∧
    (State.sendCard s port lane kind e payload).host = s.host ∧ (State.sendCard s port lane kind e payload).trust = s.trust := by
  simp [State.sendCard]

@[simp] theorem State.sendFaultNotice_frame (s : State) (port : Nat) (n : FaultNotice) :
    (State.sendFaultNotice s port n).pending = s.pending ∧ (State.sendFaultNotice s port n).freeIdx = s.freeIdx ∧
    (State.sendFaultNotice s port n).dev = s.dev ∧ (State.sendFaultNotice s port n).pwr = s.pwr ∧
    (State.sendFaultNotice s port n).geo = s.geo ∧ (State.sendFaultNotice s port n).mem = s.mem ∧
    (State.sendFaultNotice s port n).lineErr = s.lineErr ∧ (State.sendFaultNotice s port n).pte = s.pte ∧
    (State.sendFaultNotice s port n).shadowNext = s.shadowNext ∧ (State.sendFaultNotice s port n).heldWrites = s.heldWrites ∧
    (State.sendFaultNotice s port n).unit = s.unit ∧ (State.sendFaultNotice s port n).plan = s.plan ∧
    (State.sendFaultNotice s port n).time = s.time ∧ (State.sendFaultNotice s port n).acts = s.acts ∧
    (State.sendFaultNotice s port n).flt = s.flt ∧ (State.sendFaultNotice s port n).ck = s.ck ∧
    (State.sendFaultNotice s port n).host = s.host ∧ (State.sendFaultNotice s port n).trust = s.trust := by
  simp [State.sendFaultNotice]

@[simp] theorem State.setDev_frame (s : State) (d : DevState) (origin : Nat × Nat) :
    (State.setDev s d origin).pending = s.pending ∧ (State.setDev s d origin).freeIdx = s.freeIdx ∧
    (State.setDev s d origin).pwr = s.pwr ∧ (State.setDev s d origin).geo = s.geo ∧ (State.setDev s d origin).mem = s.mem ∧
    (State.setDev s d origin).lineErr = s.lineErr ∧ (State.setDev s d origin).pte = s.pte ∧
    (State.setDev s d origin).shadowNext = s.shadowNext ∧ (State.setDev s d origin).heldWrites = s.heldWrites ∧
    (State.setDev s d origin).unit = s.unit ∧ (State.setDev s d origin).plan = s.plan ∧ (State.setDev s d origin).time = s.time ∧
    (State.setDev s d origin).acts = s.acts ∧ (State.setDev s d origin).fab = s.fab ∧ (State.setDev s d origin).flt = s.flt ∧
    (State.setDev s d origin).ck = s.ck := by
  simp [State.setDev]

@[simp] theorem State.failQueue_frame (s : State) (p : Nat) (m : Nat) (status : Nat) (a1 : Nat) :
    (State.failQueue s p m status a1).pending = s.pending ∧ (State.failQueue s p m status a1).freeIdx = s.freeIdx ∧
    (State.failQueue s p m status a1).out = s.out ∧ (State.failQueue s p m status a1).dev = s.dev ∧
    (State.failQueue s p m status a1).pwr = s.pwr ∧ (State.failQueue s p m status a1).geo = s.geo ∧
    (State.failQueue s p m status a1).mem = s.mem ∧ (State.failQueue s p m status a1).lineErr = s.lineErr ∧
    (State.failQueue s p m status a1).pte = s.pte ∧ (State.failQueue s p m status a1).shadowNext = s.shadowNext ∧
    (State.failQueue s p m status a1).heldWrites = s.heldWrites ∧ (State.failQueue s p m status a1).unit = s.unit ∧
    (State.failQueue s p m status a1).plan = s.plan ∧ (State.failQueue s p m status a1).time = s.time ∧
    (State.failQueue s p m status a1).acts = s.acts ∧ (State.failQueue s p m status a1).fab = s.fab ∧
    (State.failQueue s p m status a1).flt = s.flt ∧ (State.failQueue s p m status a1).ck = s.ck ∧
    (State.failQueue s p m status a1).trust = s.trust ∧ (State.failQueue s p m status a1).cnt = s.cnt := by
  induction a1 generalizing s with
  | zero => simp [State.failQueue]
  | succ f ih => rw [State.failQueue]; split <;> simp [ih]

@[simp] theorem State.failAll_frame (s : State) (status : Nat) :
    (State.failAll s status).pending = s.pending ∧ (State.failAll s status).freeIdx = s.freeIdx ∧
    (State.failAll s status).out = s.out ∧ (State.failAll s status).dev = s.dev ∧ (State.failAll s status).pwr = s.pwr ∧
    (State.failAll s status).geo = s.geo ∧ (State.failAll s status).mem = s.mem ∧ (State.failAll s status).lineErr = s.lineErr ∧
    (State.failAll s status).pte = s.pte ∧ (State.failAll s status).shadowNext = s.shadowNext ∧
    (State.failAll s status).heldWrites = s.heldWrites ∧ (State.failAll s status).unit = s.unit ∧
    (State.failAll s status).plan = s.plan ∧ (State.failAll s status).time = s.time ∧ (State.failAll s status).acts = s.acts ∧
    (State.failAll s status).fab = s.fab ∧ (State.failAll s status).flt = s.flt ∧ (State.failAll s status).ck = s.ck ∧
    (State.failAll s status).trust = s.trust ∧ (State.failAll s status).cnt = s.cnt := by
  simp [State.failAll]

@[simp] theorem State.noteCeil_frame (s : State) (h : Nat) :
    (State.noteCeil s h).pending = s.pending ∧ (State.noteCeil s h).freeIdx = s.freeIdx ∧ (State.noteCeil s h).out = s.out ∧
    (State.noteCeil s h).dev = s.dev ∧ (State.noteCeil s h).geo = s.geo ∧ (State.noteCeil s h).mem = s.mem ∧
    (State.noteCeil s h).lineErr = s.lineErr ∧ (State.noteCeil s h).pte = s.pte ∧ (State.noteCeil s h).shadowNext = s.shadowNext ∧
    (State.noteCeil s h).heldWrites = s.heldWrites ∧ (State.noteCeil s h).unit = s.unit ∧ (State.noteCeil s h).plan = s.plan ∧
    (State.noteCeil s h).time = s.time ∧ (State.noteCeil s h).acts = s.acts ∧ (State.noteCeil s h).fab = s.fab ∧
    (State.noteCeil s h).flt = s.flt ∧ (State.noteCeil s h).ck = s.ck ∧ (State.noteCeil s h).host = s.host ∧
    (State.noteCeil s h).trust = s.trust ∧ (State.noteCeil s h).cnt = s.cnt := by
  simp [State.noteCeil]

@[simp] theorem State.gearBoundary_frame (s : State) :
    (State.gearBoundary s).pending = s.pending ∧ (State.gearBoundary s).freeIdx = s.freeIdx ∧ (State.gearBoundary s).out = s.out ∧
    (State.gearBoundary s).dev = s.dev ∧ (State.gearBoundary s).geo = s.geo ∧ (State.gearBoundary s).mem = s.mem ∧
    (State.gearBoundary s).lineErr = s.lineErr ∧ (State.gearBoundary s).pte = s.pte ∧
    (State.gearBoundary s).shadowNext = s.shadowNext ∧ (State.gearBoundary s).heldWrites = s.heldWrites ∧
    (State.gearBoundary s).unit = s.unit ∧ (State.gearBoundary s).plan = s.plan ∧ (State.gearBoundary s).time = s.time ∧
    (State.gearBoundary s).acts = s.acts ∧ (State.gearBoundary s).fab = s.fab ∧ (State.gearBoundary s).flt = s.flt ∧
    (State.gearBoundary s).ck = s.ck ∧ (State.gearBoundary s).host = s.host ∧ (State.gearBoundary s).trust = s.trust := by
  simp [State.gearBoundary]

@[simp] theorem State.generateMap_frame (s : State) (origin : Nat × Nat) :
    (State.generateMap s origin).pending = s.pending ∧ (State.generateMap s origin).freeIdx = s.freeIdx ∧
    (State.generateMap s origin).out = s.out ∧ (State.generateMap s origin).dev = s.dev ∧
    (State.generateMap s origin).pwr = s.pwr ∧ (State.generateMap s origin).mem = s.mem ∧
    (State.generateMap s origin).lineErr = s.lineErr ∧ (State.generateMap s origin).pte = s.pte ∧
    (State.generateMap s origin).shadowNext = s.shadowNext ∧ (State.generateMap s origin).heldWrites = s.heldWrites ∧
    (State.generateMap s origin).unit = s.unit ∧ (State.generateMap s origin).plan = s.plan ∧
    (State.generateMap s origin).time = s.time ∧ (State.generateMap s origin).acts = s.acts ∧
    (State.generateMap s origin).fab = s.fab ∧ (State.generateMap s origin).flt = s.flt ∧ (State.generateMap s origin).ck = s.ck ∧
    (State.generateMap s origin).host = s.host ∧ (State.generateMap s origin).cnt = s.cnt := by
  simp [State.generateMap]

@[simp] theorem State.lineUpset_frame (s : State) :
    (State.lineUpset s).pending = s.pending ∧ (State.lineUpset s).out = s.out ∧ (State.lineUpset s).dev = s.dev ∧
    (State.lineUpset s).pwr = s.pwr ∧ (State.lineUpset s).geo = s.geo ∧ (State.lineUpset s).mem = s.mem ∧
    (State.lineUpset s).pte = s.pte ∧ (State.lineUpset s).shadowNext = s.shadowNext ∧
    (State.lineUpset s).heldWrites = s.heldWrites ∧ (State.lineUpset s).unit = s.unit ∧ (State.lineUpset s).plan = s.plan ∧
    (State.lineUpset s).time = s.time ∧ (State.lineUpset s).acts = s.acts ∧ (State.lineUpset s).fab = s.fab ∧
    (State.lineUpset s).flt = s.flt ∧ (State.lineUpset s).ck = s.ck ∧ (State.lineUpset s).host = s.host ∧
    (State.lineUpset s).trust = s.trust ∧ (State.lineUpset s).cnt = s.cnt := by
  simp [State.lineUpset]

@[simp] theorem State.logRegionWrite_frame (s : State) (a : Nat) (data : List Byte) :
    (State.logRegionWrite s a data).pending = s.pending ∧ (State.logRegionWrite s a data).freeIdx = s.freeIdx ∧
    (State.logRegionWrite s a data).out = s.out ∧ (State.logRegionWrite s a data).dev = s.dev ∧
    (State.logRegionWrite s a data).pwr = s.pwr ∧ (State.logRegionWrite s a data).geo = s.geo ∧
    (State.logRegionWrite s a data).shadowNext = s.shadowNext ∧ (State.logRegionWrite s a data).heldWrites = s.heldWrites ∧
    (State.logRegionWrite s a data).unit = s.unit ∧ (State.logRegionWrite s a data).time = s.time ∧
    (State.logRegionWrite s a data).acts = s.acts ∧ (State.logRegionWrite s a data).fab = s.fab ∧
    (State.logRegionWrite s a data).flt = s.flt ∧ (State.logRegionWrite s a data).ck = s.ck ∧
    (State.logRegionWrite s a data).host = s.host := by
  simp [State.logRegionWrite]

@[simp] theorem State.sendGearNotice_frame (s : State) (port : Nat) (n : GearNotice) :
    (State.sendGearNotice s port n).pending = s.pending ∧ (State.sendGearNotice s port n).freeIdx = s.freeIdx ∧
    (State.sendGearNotice s port n).dev = s.dev ∧ (State.sendGearNotice s port n).pwr = s.pwr ∧
    (State.sendGearNotice s port n).geo = s.geo ∧ (State.sendGearNotice s port n).mem = s.mem ∧
    (State.sendGearNotice s port n).lineErr = s.lineErr ∧ (State.sendGearNotice s port n).pte = s.pte ∧
    (State.sendGearNotice s port n).shadowNext = s.shadowNext ∧ (State.sendGearNotice s port n).heldWrites = s.heldWrites ∧
    (State.sendGearNotice s port n).unit = s.unit ∧ (State.sendGearNotice s port n).plan = s.plan ∧
    (State.sendGearNotice s port n).time = s.time ∧ (State.sendGearNotice s port n).acts = s.acts ∧
    (State.sendGearNotice s port n).flt = s.flt ∧ (State.sendGearNotice s port n).ck = s.ck ∧
    (State.sendGearNotice s port n).host = s.host ∧ (State.sendGearNotice s port n).trust = s.trust := by
  simp [State.sendGearNotice]

@[simp] theorem State.sendMgmt_frame (s : State) (port : Nat) (what : Nat) (args : List Nat) (e : OutEvent) :
    (State.sendMgmt s port what args e).pending = s.pending ∧ (State.sendMgmt s port what args e).freeIdx = s.freeIdx ∧
    (State.sendMgmt s port what args e).dev = s.dev ∧ (State.sendMgmt s port what args e).pwr = s.pwr ∧
    (State.sendMgmt s port what args e).geo = s.geo ∧ (State.sendMgmt s port what args e).mem = s.mem ∧
    (State.sendMgmt s port what args e).lineErr = s.lineErr ∧ (State.sendMgmt s port what args e).pte = s.pte ∧
    (State.sendMgmt s port what args e).shadowNext = s.shadowNext ∧
    (State.sendMgmt s port what args e).heldWrites = s.heldWrites ∧ (State.sendMgmt s port what args e).unit = s.unit ∧
    (State.sendMgmt s port what args e).plan = s.plan ∧ (State.sendMgmt s port what args e).time = s.time ∧
    (State.sendMgmt s port what args e).acts = s.acts ∧ (State.sendMgmt s port what args e).flt = s.flt ∧
    (State.sendMgmt s port what args e).ck = s.ck ∧ (State.sendMgmt s port what args e).host = s.host ∧
    (State.sendMgmt s port what args e).trust = s.trust := by
  simp [State.sendMgmt]

@[simp] theorem State.sendTime_frame (s : State) (port : Nat) (kind : Nat) (m : TimeMsg) :
    (State.sendTime s port kind m).pending = s.pending ∧ (State.sendTime s port kind m).freeIdx = s.freeIdx ∧
    (State.sendTime s port kind m).dev = s.dev ∧ (State.sendTime s port kind m).pwr = s.pwr ∧
    (State.sendTime s port kind m).geo = s.geo ∧ (State.sendTime s port kind m).mem = s.mem ∧
    (State.sendTime s port kind m).lineErr = s.lineErr ∧ (State.sendTime s port kind m).pte = s.pte ∧
    (State.sendTime s port kind m).shadowNext = s.shadowNext ∧ (State.sendTime s port kind m).heldWrites = s.heldWrites ∧
    (State.sendTime s port kind m).unit = s.unit ∧ (State.sendTime s port kind m).plan = s.plan ∧
    (State.sendTime s port kind m).time = s.time ∧ (State.sendTime s port kind m).acts = s.acts ∧
    (State.sendTime s port kind m).flt = s.flt ∧ (State.sendTime s port kind m).ck = s.ck ∧
    (State.sendTime s port kind m).host = s.host ∧ (State.sendTime s port kind m).trust = s.trust := by
  simp [State.sendTime]

end Sys2Proof.Machine
end

