-- ==== Sys2Proof/Laws/FramesStreams.lean ====
section
/-! SUPPORT. Frame lemmas of the streams, the bulk moves, the rows that act on them and the OX rows: the
fields of `State` each shared operation leaves alone. -/

namespace Sys2Proof.Machine

@[simp] theorem State.setSlot_frame (s : State) (i : Nat) (x : Slot) :
    (State.setSlot s i x).pending = s.pending ∧ (State.setSlot s i x).freeIdx = s.freeIdx ∧ (State.setSlot s i x).out = s.out ∧
    (State.setSlot s i x).dev = s.dev ∧ (State.setSlot s i x).pwr = s.pwr ∧ (State.setSlot s i x).geo = s.geo ∧
    (State.setSlot s i x).mem = s.mem ∧ (State.setSlot s i x).lineErr = s.lineErr ∧ (State.setSlot s i x).pte = s.pte ∧
    (State.setSlot s i x).shadowNext = s.shadowNext ∧ (State.setSlot s i x).heldWrites = s.heldWrites ∧
    (State.setSlot s i x).unit = s.unit ∧ (State.setSlot s i x).plan = s.plan ∧ (State.setSlot s i x).time = s.time ∧
    (State.setSlot s i x).fab = s.fab ∧ (State.setSlot s i x).flt = s.flt ∧ (State.setSlot s i x).ck = s.ck ∧
    (State.setSlot s i x).host = s.host ∧ (State.setSlot s i x).trust = s.trust ∧ (State.setSlot s i x).cnt = s.cnt := by
  simp [State.setSlot]

@[simp] theorem State.smWrite_frame (s : State) (a : Nat) (data : List Byte) :
    (State.smWrite s a data).pending = s.pending ∧ (State.smWrite s a data).out = s.out ∧ (State.smWrite s a data).dev = s.dev ∧
    (State.smWrite s a data).pwr = s.pwr ∧ (State.smWrite s a data).unit = s.unit ∧ (State.smWrite s a data).time = s.time ∧
    (State.smWrite s a data).acts = s.acts ∧ (State.smWrite s a data).fab = s.fab ∧ (State.smWrite s a data).ck = s.ck ∧
    (State.smWrite s a data).host = s.host := by
  simp [State.smWrite]

@[simp] theorem State.kvRelease_frame (s : State) (b : Nat) :
    (State.kvRelease s b).pending = s.pending ∧ (State.kvRelease s b).out = s.out ∧ (State.kvRelease s b).dev = s.dev ∧
    (State.kvRelease s b).pwr = s.pwr ∧ (State.kvRelease s b).unit = s.unit ∧ (State.kvRelease s b).time = s.time ∧
    (State.kvRelease s b).fab = s.fab ∧ (State.kvRelease s b).ck = s.ck ∧ (State.kvRelease s b).host = s.host := by
  simp [State.kvRelease]

@[simp] theorem State.freeSlot_frame (s : State) (i : Nat) :
    (State.freeSlot s i).pending = s.pending ∧ (State.freeSlot s i).out = s.out ∧ (State.freeSlot s i).dev = s.dev ∧
    (State.freeSlot s i).pwr = s.pwr ∧ (State.freeSlot s i).unit = s.unit ∧ (State.freeSlot s i).time = s.time ∧
    (State.freeSlot s i).fab = s.fab ∧ (State.freeSlot s i).ck = s.ck ∧ (State.freeSlot s i).host = s.host := by
  simp [State.freeSlot]

@[simp] theorem State.setIdx_frame (s : State) (a : Nat) (f : Nat) (v : Nat) :
    (State.setIdx s a f v).pending = s.pending ∧ (State.setIdx s a f v).out = s.out ∧ (State.setIdx s a f v).dev = s.dev ∧
    (State.setIdx s a f v).pwr = s.pwr ∧ (State.setIdx s a f v).unit = s.unit ∧ (State.setIdx s a f v).time = s.time ∧
    (State.setIdx s a f v).acts = s.acts ∧ (State.setIdx s a f v).fab = s.fab ∧ (State.setIdx s a f v).ck = s.ck ∧
    (State.setIdx s a f v).host = s.host := by
  simp [State.setIdx]

@[simp] theorem State.writeRollout_frame (s : State) (i : Nat) :
    (State.writeRollout s i).pending = s.pending ∧ (State.writeRollout s i).out = s.out ∧ (State.writeRollout s i).dev = s.dev ∧
    (State.writeRollout s i).pwr = s.pwr ∧ (State.writeRollout s i).unit = s.unit ∧ (State.writeRollout s i).time = s.time ∧
    (State.writeRollout s i).acts = s.acts ∧ (State.writeRollout s i).fab = s.fab ∧ (State.writeRollout s i).ck = s.ck ∧
    (State.writeRollout s i).host = s.host := by
  simp [State.writeRollout]

@[simp] theorem State.retireLast_frame (s : State) (i : Nat) :
    (State.retireLast s i).pending = s.pending ∧ (State.retireLast s i).out = s.out ∧ (State.retireLast s i).dev = s.dev ∧
    (State.retireLast s i).pwr = s.pwr ∧ (State.retireLast s i).unit = s.unit ∧ (State.retireLast s i).time = s.time ∧
    (State.retireLast s i).fab = s.fab ∧ (State.retireLast s i).ck = s.ck ∧ (State.retireLast s i).host = s.host := by
  simp [State.retireLast]

@[simp] theorem State.closeSlots_frame (s : State) (reason : Nat) :
    (State.closeSlots s reason).pending = s.pending ∧ (State.closeSlots s reason).out = s.out ∧
    (State.closeSlots s reason).dev = s.dev ∧ (State.closeSlots s reason).pwr = s.pwr ∧
    (State.closeSlots s reason).unit = s.unit ∧ (State.closeSlots s reason).time = s.time ∧
    (State.closeSlots s reason).fab = s.fab ∧ (State.closeSlots s reason).ck = s.ck ∧ (State.closeSlots s reason).host = s.host := by
  simp [State.closeSlots]

@[simp] theorem State.adoptWall_frame (s : State) :
    (State.adoptWall s).pending = s.pending ∧ (State.adoptWall s).freeIdx = s.freeIdx ∧ (State.adoptWall s).out = s.out ∧
    (State.adoptWall s).dev = s.dev ∧ (State.adoptWall s).pwr = s.pwr ∧ (State.adoptWall s).geo = s.geo ∧
    (State.adoptWall s).mem = s.mem ∧ (State.adoptWall s).lineErr = s.lineErr ∧ (State.adoptWall s).pte = s.pte ∧
    (State.adoptWall s).shadowNext = s.shadowNext ∧ (State.adoptWall s).heldWrites = s.heldWrites ∧
    (State.adoptWall s).unit = s.unit ∧ (State.adoptWall s).plan = s.plan ∧ (State.adoptWall s).acts = s.acts ∧
    (State.adoptWall s).fab = s.fab ∧ (State.adoptWall s).flt = s.flt ∧ (State.adoptWall s).ck = s.ck ∧
    (State.adoptWall s).host = s.host ∧ (State.adoptWall s).cnt = s.cnt := by
  simp [State.adoptWall]

@[simp] theorem State.noteSync_frame (s : State) (port : Nat) (m : TimeMsg) (off : Int) :
    (State.noteSync s port m off).pending = s.pending ∧ (State.noteSync s port m off).freeIdx = s.freeIdx ∧
    (State.noteSync s port m off).out = s.out ∧ (State.noteSync s port m off).dev = s.dev ∧
    (State.noteSync s port m off).pwr = s.pwr ∧ (State.noteSync s port m off).geo = s.geo ∧
    (State.noteSync s port m off).mem = s.mem ∧ (State.noteSync s port m off).lineErr = s.lineErr ∧
    (State.noteSync s port m off).pte = s.pte ∧ (State.noteSync s port m off).shadowNext = s.shadowNext ∧
    (State.noteSync s port m off).heldWrites = s.heldWrites ∧ (State.noteSync s port m off).unit = s.unit ∧
    (State.noteSync s port m off).plan = s.plan ∧ (State.noteSync s port m off).acts = s.acts ∧
    (State.noteSync s port m off).fab = s.fab ∧ (State.noteSync s port m off).flt = s.flt ∧
    (State.noteSync s port m off).ck = s.ck ∧ (State.noteSync s port m off).host = s.host := by
  simp [State.noteSync]

@[simp] theorem State.holdMax_frame (s : State) (n : Nat) :
    (State.holdMax s n).pending = s.pending ∧ (State.holdMax s n).freeIdx = s.freeIdx ∧ (State.holdMax s n).out = s.out ∧
    (State.holdMax s n).dev = s.dev ∧ (State.holdMax s n).pwr = s.pwr ∧ (State.holdMax s n).geo = s.geo ∧
    (State.holdMax s n).mem = s.mem ∧ (State.holdMax s n).lineErr = s.lineErr ∧ (State.holdMax s n).pte = s.pte ∧
    (State.holdMax s n).shadowNext = s.shadowNext ∧ (State.holdMax s n).heldWrites = s.heldWrites ∧
    (State.holdMax s n).unit = s.unit ∧ (State.holdMax s n).plan = s.plan ∧ (State.holdMax s n).time = s.time ∧
    (State.holdMax s n).acts = s.acts ∧ (State.holdMax s n).fab = s.fab ∧ (State.holdMax s n).flt = s.flt ∧
    (State.holdMax s n).ck = s.ck ∧ (State.holdMax s n).host = s.host ∧ (State.holdMax s n).trust = s.trust := by
  simp [State.holdMax]

@[simp] theorem State.holdoverEnds_frame (s : State) :
    (State.holdoverEnds s).pending = s.pending ∧ (State.holdoverEnds s).freeIdx = s.freeIdx ∧ (State.holdoverEnds s).out = s.out ∧
    (State.holdoverEnds s).dev = s.dev ∧ (State.holdoverEnds s).pwr = s.pwr ∧ (State.holdoverEnds s).geo = s.geo ∧
    (State.holdoverEnds s).mem = s.mem ∧ (State.holdoverEnds s).lineErr = s.lineErr ∧ (State.holdoverEnds s).pte = s.pte ∧
    (State.holdoverEnds s).shadowNext = s.shadowNext ∧ (State.holdoverEnds s).heldWrites = s.heldWrites ∧
    (State.holdoverEnds s).unit = s.unit ∧ (State.holdoverEnds s).plan = s.plan ∧ (State.holdoverEnds s).time = s.time ∧
    (State.holdoverEnds s).acts = s.acts ∧ (State.holdoverEnds s).fab = s.fab ∧ (State.holdoverEnds s).flt = s.flt ∧
    (State.holdoverEnds s).ck = s.ck ∧ (State.holdoverEnds s).host = s.host ∧ (State.holdoverEnds s).trust = s.trust := by
  simp [State.holdoverEnds]

@[simp] theorem State.acceptSync_frame (s : State) (port : Nat) (m : TimeMsg) (frac : Nat) :
    (State.acceptSync s port m frac).pending = s.pending ∧ (State.acceptSync s port m frac).freeIdx = s.freeIdx ∧
    (State.acceptSync s port m frac).out = s.out ∧ (State.acceptSync s port m frac).dev = s.dev ∧
    (State.acceptSync s port m frac).pwr = s.pwr ∧ (State.acceptSync s port m frac).geo = s.geo ∧
    (State.acceptSync s port m frac).mem = s.mem ∧ (State.acceptSync s port m frac).lineErr = s.lineErr ∧
    (State.acceptSync s port m frac).pte = s.pte ∧ (State.acceptSync s port m frac).shadowNext = s.shadowNext ∧
    (State.acceptSync s port m frac).heldWrites = s.heldWrites ∧ (State.acceptSync s port m frac).unit = s.unit ∧
    (State.acceptSync s port m frac).plan = s.plan ∧ (State.acceptSync s port m frac).acts = s.acts ∧
    (State.acceptSync s port m frac).fab = s.fab ∧ (State.acceptSync s port m frac).ck = s.ck ∧
    (State.acceptSync s port m frac).host = s.host := by
  unfold State.acceptSync; dsimp only; split <;> simp

@[simp] theorem State.setStream_frame (s : State) (u : Nat) (t : Stream) :
    (State.setStream s u t).pending = s.pending ∧ (State.setStream s u t).freeIdx = s.freeIdx ∧
    (State.setStream s u t).out = s.out ∧ (State.setStream s u t).dev = s.dev ∧ (State.setStream s u t).pwr = s.pwr ∧
    (State.setStream s u t).geo = s.geo ∧ (State.setStream s u t).mem = s.mem ∧ (State.setStream s u t).lineErr = s.lineErr ∧
    (State.setStream s u t).pte = s.pte ∧ (State.setStream s u t).shadowNext = s.shadowNext ∧
    (State.setStream s u t).heldWrites = s.heldWrites ∧ (State.setStream s u t).plan = s.plan ∧
    (State.setStream s u t).time = s.time ∧ (State.setStream s u t).acts = s.acts ∧ (State.setStream s u t).fab = s.fab ∧
    (State.setStream s u t).flt = s.flt ∧ (State.setStream s u t).ck = s.ck ∧ (State.setStream s u t).host = s.host ∧
    (State.setStream s u t).trust = s.trust ∧ (State.setStream s u t).cnt = s.cnt := by
  simp [State.setStream]

@[simp] theorem State.setLast_frame (s : State) (u : Nat) (g : InFlight → InFlight) :
    (State.setLast s u g).pending = s.pending ∧ (State.setLast s u g).freeIdx = s.freeIdx ∧ (State.setLast s u g).out = s.out ∧
    (State.setLast s u g).dev = s.dev ∧ (State.setLast s u g).pwr = s.pwr ∧ (State.setLast s u g).geo = s.geo ∧
    (State.setLast s u g).mem = s.mem ∧ (State.setLast s u g).lineErr = s.lineErr ∧ (State.setLast s u g).pte = s.pte ∧
    (State.setLast s u g).shadowNext = s.shadowNext ∧ (State.setLast s u g).heldWrites = s.heldWrites ∧
    (State.setLast s u g).plan = s.plan ∧ (State.setLast s u g).time = s.time ∧ (State.setLast s u g).acts = s.acts ∧
    (State.setLast s u g).fab = s.fab ∧ (State.setLast s u g).flt = s.flt ∧ (State.setLast s u g).ck = s.ck ∧
    (State.setLast s u g).host = s.host ∧ (State.setLast s u g).trust = s.trust ∧ (State.setLast s u g).cnt = s.cnt := by
  unfold State.setLast; dsimp only; split <;> simp

@[simp] theorem State.becomeRooster_frame (s : State) :
    (State.becomeRooster s).pending = s.pending ∧ (State.becomeRooster s).freeIdx = s.freeIdx ∧
    (State.becomeRooster s).out = s.out ∧ (State.becomeRooster s).dev = s.dev ∧ (State.becomeRooster s).pwr = s.pwr ∧
    (State.becomeRooster s).geo = s.geo ∧ (State.becomeRooster s).mem = s.mem ∧ (State.becomeRooster s).lineErr = s.lineErr ∧
    (State.becomeRooster s).pte = s.pte ∧ (State.becomeRooster s).shadowNext = s.shadowNext ∧
    (State.becomeRooster s).heldWrites = s.heldWrites ∧ (State.becomeRooster s).unit = s.unit ∧
    (State.becomeRooster s).plan = s.plan ∧ (State.becomeRooster s).acts = s.acts ∧ (State.becomeRooster s).fab = s.fab ∧
    (State.becomeRooster s).flt = s.flt ∧ (State.becomeRooster s).ck = s.ck ∧ (State.becomeRooster s).host = s.host ∧
    (State.becomeRooster s).trust = s.trust := by
  simp [State.becomeRooster]

@[simp] theorem State.harvest_frame (s : State) (i : Nat) :
    (State.harvest s i).pending = s.pending ∧ (State.harvest s i).out = s.out ∧ (State.harvest s i).dev = s.dev ∧
    (State.harvest s i).pwr = s.pwr ∧ (State.harvest s i).mem = s.mem ∧ (State.harvest s i).shadowNext = s.shadowNext ∧
    (State.harvest s i).heldWrites = s.heldWrites ∧ (State.harvest s i).unit = s.unit ∧ (State.harvest s i).time = s.time ∧
    (State.harvest s i).fab = s.fab ∧ (State.harvest s i).ck = s.ck ∧ (State.harvest s i).host = s.host := by
  unfold State.harvest; dsimp only; (repeat' split) <;> simp

@[simp] theorem State.retire_frame (s : State) (i : Nat) :
    (State.retire s i).pending = s.pending ∧ (State.retire s i).out = s.out ∧ (State.retire s i).dev = s.dev ∧
    (State.retire s i).pwr = s.pwr ∧ (State.retire s i).unit = s.unit ∧ (State.retire s i).time = s.time ∧
    (State.retire s i).fab = s.fab ∧ (State.retire s i).ck = s.ck ∧ (State.retire s i).host = s.host := by
  simp [State.retire]

@[simp] theorem State.kvTakeN_frame (s : State) (n : Nat) :
    (State.kvTakeN s n).2.pending = s.pending ∧ (State.kvTakeN s n).2.freeIdx = s.freeIdx ∧ (State.kvTakeN s n).2.out = s.out ∧
    (State.kvTakeN s n).2.dev = s.dev ∧ (State.kvTakeN s n).2.pwr = s.pwr ∧ (State.kvTakeN s n).2.geo = s.geo ∧
    (State.kvTakeN s n).2.mem = s.mem ∧ (State.kvTakeN s n).2.lineErr = s.lineErr ∧ (State.kvTakeN s n).2.pte = s.pte ∧
    (State.kvTakeN s n).2.shadowNext = s.shadowNext ∧ (State.kvTakeN s n).2.heldWrites = s.heldWrites ∧
    (State.kvTakeN s n).2.unit = s.unit ∧ (State.kvTakeN s n).2.plan = s.plan ∧ (State.kvTakeN s n).2.time = s.time ∧
    (State.kvTakeN s n).2.fab = s.fab ∧ (State.kvTakeN s n).2.flt = s.flt ∧ (State.kvTakeN s n).2.ck = s.ck ∧
    (State.kvTakeN s n).2.host = s.host ∧ (State.kvTakeN s n).2.trust = s.trust ∧ (State.kvTakeN s n).2.cnt = s.cnt := by
  simp [State.kvTakeN]

@[simp] theorem State.kvTake_frame (s : State) :
    (State.kvTake s).2.pending = s.pending ∧ (State.kvTake s).2.freeIdx = s.freeIdx ∧ (State.kvTake s).2.out = s.out ∧
    (State.kvTake s).2.dev = s.dev ∧ (State.kvTake s).2.pwr = s.pwr ∧ (State.kvTake s).2.geo = s.geo ∧
    (State.kvTake s).2.mem = s.mem ∧ (State.kvTake s).2.lineErr = s.lineErr ∧ (State.kvTake s).2.pte = s.pte ∧
    (State.kvTake s).2.shadowNext = s.shadowNext ∧ (State.kvTake s).2.heldWrites = s.heldWrites ∧
    (State.kvTake s).2.unit = s.unit ∧ (State.kvTake s).2.plan = s.plan ∧ (State.kvTake s).2.time = s.time ∧
    (State.kvTake s).2.fab = s.fab ∧ (State.kvTake s).2.flt = s.flt ∧ (State.kvTake s).2.ck = s.ck ∧
    (State.kvTake s).2.host = s.host ∧ (State.kvTake s).2.trust = s.trust := by
  unfold State.kvTake; split <;> simp

@[simp] theorem State.grow_frame (s : State) (i : Nat) :
    (State.grow s i).pending = s.pending ∧ (State.grow s i).freeIdx = s.freeIdx ∧ (State.grow s i).out = s.out ∧
    (State.grow s i).dev = s.dev ∧ (State.grow s i).pwr = s.pwr ∧ (State.grow s i).geo = s.geo ∧ (State.grow s i).mem = s.mem ∧
    (State.grow s i).lineErr = s.lineErr ∧ (State.grow s i).pte = s.pte ∧ (State.grow s i).shadowNext = s.shadowNext ∧
    (State.grow s i).heldWrites = s.heldWrites ∧ (State.grow s i).unit = s.unit ∧ (State.grow s i).plan = s.plan ∧
    (State.grow s i).time = s.time ∧ (State.grow s i).fab = s.fab ∧ (State.grow s i).flt = s.flt ∧ (State.grow s i).ck = s.ck ∧
    (State.grow s i).host = s.host ∧ (State.grow s i).trust = s.trust := by
  rw [State.grow]; have h := State.kvTake_frame s; (repeat' split) <;> simp_all

@[simp] theorem State.packPrefill_frame (s : State) :
    (State.packPrefill s).2.pending = s.pending ∧ (State.packPrefill s).2.freeIdx = s.freeIdx ∧
    (State.packPrefill s).2.out = s.out ∧ (State.packPrefill s).2.dev = s.dev ∧ (State.packPrefill s).2.pwr = s.pwr ∧
    (State.packPrefill s).2.geo = s.geo ∧ (State.packPrefill s).2.mem = s.mem ∧ (State.packPrefill s).2.lineErr = s.lineErr ∧
    (State.packPrefill s).2.pte = s.pte ∧ (State.packPrefill s).2.shadowNext = s.shadowNext ∧
    (State.packPrefill s).2.heldWrites = s.heldWrites ∧ (State.packPrefill s).2.unit = s.unit ∧
    (State.packPrefill s).2.plan = s.plan ∧ (State.packPrefill s).2.time = s.time ∧ (State.packPrefill s).2.fab = s.fab ∧
    (State.packPrefill s).2.flt = s.flt ∧ (State.packPrefill s).2.ck = s.ck ∧ (State.packPrefill s).2.host = s.host ∧
    (State.packPrefill s).2.trust = s.trust ∧ (State.packPrefill s).2.cnt = s.cnt := by
  simp [State.packPrefill]

@[simp] theorem State.writeTables_frame (s : State) :
    (State.writeTables s).pending = s.pending ∧ (State.writeTables s).out = s.out ∧ (State.writeTables s).dev = s.dev ∧
    (State.writeTables s).pwr = s.pwr ∧ (State.writeTables s).unit = s.unit ∧ (State.writeTables s).time = s.time ∧
    (State.writeTables s).acts = s.acts ∧ (State.writeTables s).fab = s.fab ∧ (State.writeTables s).ck = s.ck ∧
    (State.writeTables s).host = s.host := by
  simp [State.writeTables]

@[simp] theorem State.writeIteration_frame (s : State) (dec : Nat) (pf : List (Nat × Nat × Nat)) :
    (State.writeIteration s dec pf).pending = s.pending ∧ (State.writeIteration s dec pf).out = s.out ∧
    (State.writeIteration s dec pf).dev = s.dev ∧ (State.writeIteration s dec pf).pwr = s.pwr ∧
    (State.writeIteration s dec pf).unit = s.unit ∧ (State.writeIteration s dec pf).time = s.time ∧
    (State.writeIteration s dec pf).acts = s.acts ∧ (State.writeIteration s dec pf).fab = s.fab ∧
    (State.writeIteration s dec pf).ck = s.ck ∧ (State.writeIteration s dec pf).host = s.host := by
  simp [State.writeIteration]

@[simp] theorem State.feedRows_frame (s : State) :
    (State.feedRows s).pending = s.pending ∧ (State.feedRows s).freeIdx = s.freeIdx ∧ (State.feedRows s).out = s.out ∧
    (State.feedRows s).dev = s.dev ∧ (State.feedRows s).pwr = s.pwr ∧ (State.feedRows s).geo = s.geo ∧
    (State.feedRows s).mem = s.mem ∧ (State.feedRows s).lineErr = s.lineErr ∧ (State.feedRows s).pte = s.pte ∧
    (State.feedRows s).shadowNext = s.shadowNext ∧ (State.feedRows s).heldWrites = s.heldWrites ∧
    (State.feedRows s).unit = s.unit ∧ (State.feedRows s).plan = s.plan ∧ (State.feedRows s).time = s.time ∧
    (State.feedRows s).fab = s.fab ∧ (State.feedRows s).flt = s.flt ∧ (State.feedRows s).ck = s.ck ∧
    (State.feedRows s).host = s.host ∧ (State.feedRows s).trust = s.trust ∧ (State.feedRows s).cnt = s.cnt := by
  simp [State.feedRows]

@[simp] theorem State.publish_frame (s : State) (prod : Nat) :
    (State.publish s prod).pending = s.pending ∧ (State.publish s prod).out = s.out ∧ (State.publish s prod).dev = s.dev ∧
    (State.publish s prod).pwr = s.pwr ∧ (State.publish s prod).unit = s.unit ∧ (State.publish s prod).time = s.time ∧
    (State.publish s prod).fab = s.fab ∧ (State.publish s prod).ck = s.ck ∧ (State.publish s prod).host = s.host := by
  simp [State.publish]

@[simp] theorem State.refill_frame (s : State) (prod : Nat) (i : Nat) :
    (State.refill s prod i).1.pending = s.pending ∧ (State.refill s prod i).1.out = s.out ∧
    (State.refill s prod i).1.dev = s.dev ∧ (State.refill s prod i).1.pwr = s.pwr ∧ (State.refill s prod i).1.unit = s.unit ∧
    (State.refill s prod i).1.time = s.time ∧ (State.refill s prod i).1.fab = s.fab ∧ (State.refill s prod i).1.ck = s.ck ∧
    (State.refill s prod i).1.host = s.host := by
  simp [State.refill]

@[simp] theorem State.refillFrom_frame (s : State) (prod : Nat) (a1 : List Nat) :
    (State.refillFrom s prod a1).pending = s.pending ∧ (State.refillFrom s prod a1).out = s.out ∧
    (State.refillFrom s prod a1).dev = s.dev ∧ (State.refillFrom s prod a1).pwr = s.pwr ∧
    (State.refillFrom s prod a1).unit = s.unit ∧ (State.refillFrom s prod a1).time = s.time ∧
    (State.refillFrom s prod a1).fab = s.fab ∧ (State.refillFrom s prod a1).ck = s.ck ∧
    (State.refillFrom s prod a1).host = s.host := by
  induction a1 generalizing s with
  | nil => simp [State.refillFrom]
  | cons i l ih => simp only [State.refillFrom]; split <;> simp [ih]

@[simp] theorem State.breakStall_frame (s : State) :
    (State.breakStall s).pending = s.pending ∧ (State.breakStall s).out = s.out ∧ (State.breakStall s).dev = s.dev ∧
    (State.breakStall s).pwr = s.pwr ∧ (State.breakStall s).unit = s.unit ∧ (State.breakStall s).time = s.time ∧
    (State.breakStall s).fab = s.fab ∧ (State.breakStall s).ck = s.ck ∧ (State.breakStall s).host = s.host := by
  unfold State.breakStall; dsimp only; (repeat' split) <;> simp

@[simp] theorem State.boundary_frame (s : State) :
    (State.boundary s).pending = s.pending ∧ (State.boundary s).out = s.out ∧ (State.boundary s).dev = s.dev ∧
    (State.boundary s).pwr = s.pwr ∧ (State.boundary s).unit = s.unit ∧ (State.boundary s).time = s.time ∧
    (State.boundary s).fab = s.fab ∧ (State.boundary s).ck = s.ck ∧ (State.boundary s).host = s.host := by
  simp [State.boundary]

@[simp] theorem State.makeBulkRecord_frame (s : State) (p : Nat) (m : Nat) (t : Bulk) (n : Nat) :
    (State.makeBulkRecord s p m t n).pending = s.pending ∧ (State.makeBulkRecord s p m t n).freeIdx = s.freeIdx ∧
    (State.makeBulkRecord s p m t n).out = s.out ∧ (State.makeBulkRecord s p m t n).dev = s.dev ∧
    (State.makeBulkRecord s p m t n).pwr = s.pwr ∧ (State.makeBulkRecord s p m t n).geo = s.geo ∧
    (State.makeBulkRecord s p m t n).mem = s.mem ∧ (State.makeBulkRecord s p m t n).lineErr = s.lineErr ∧
    (State.makeBulkRecord s p m t n).pte = s.pte ∧ (State.makeBulkRecord s p m t n).shadowNext = s.shadowNext ∧
    (State.makeBulkRecord s p m t n).heldWrites = s.heldWrites ∧ (State.makeBulkRecord s p m t n).unit = s.unit ∧
    (State.makeBulkRecord s p m t n).plan = s.plan ∧ (State.makeBulkRecord s p m t n).time = s.time ∧
    (State.makeBulkRecord s p m t n).acts = s.acts ∧ (State.makeBulkRecord s p m t n).fab = s.fab ∧
    (State.makeBulkRecord s p m t n).flt = s.flt ∧ (State.makeBulkRecord s p m t n).ck = s.ck ∧
    (State.makeBulkRecord s p m t n).trust = s.trust ∧ (State.makeBulkRecord s p m t n).cnt = s.cnt := by
  simp [State.makeBulkRecord]

@[simp] theorem State.bulkWrite_frame (s : State) (p : Nat) (t : Bulk) (data : List Byte) :
    (State.bulkWrite s p t data).pending = s.pending ∧ (State.bulkWrite s p t data).freeIdx = s.freeIdx ∧
    (State.bulkWrite s p t data).dev = s.dev ∧ (State.bulkWrite s p t data).pwr = s.pwr ∧
    (State.bulkWrite s p t data).geo = s.geo ∧ (State.bulkWrite s p t data).unit = s.unit ∧
    (State.bulkWrite s p t data).time = s.time ∧ (State.bulkWrite s p t data).acts = s.acts ∧
    (State.bulkWrite s p t data).fab = s.fab ∧ (State.bulkWrite s p t data).ck = s.ck ∧
    (State.bulkWrite s p t data).host = s.host := by
  simp [State.bulkWrite]

@[simp] theorem State.reject_frame (s : State) (p : Nat) (m : Nat) (status : Nat) (detail : Nat) :
    (State.reject s p m status detail).pending = s.pending ∧ (State.reject s p m status detail).freeIdx = s.freeIdx ∧
    (State.reject s p m status detail).out = s.out ∧ (State.reject s p m status detail).dev = s.dev ∧
    (State.reject s p m status detail).pwr = s.pwr ∧ (State.reject s p m status detail).geo = s.geo ∧
    (State.reject s p m status detail).mem = s.mem ∧ (State.reject s p m status detail).lineErr = s.lineErr ∧
    (State.reject s p m status detail).pte = s.pte ∧ (State.reject s p m status detail).shadowNext = s.shadowNext ∧
    (State.reject s p m status detail).heldWrites = s.heldWrites ∧ (State.reject s p m status detail).unit = s.unit ∧
    (State.reject s p m status detail).plan = s.plan ∧ (State.reject s p m status detail).time = s.time ∧
    (State.reject s p m status detail).acts = s.acts ∧ (State.reject s p m status detail).fab = s.fab ∧
    (State.reject s p m status detail).flt = s.flt ∧ (State.reject s p m status detail).ck = s.ck := by
  unfold State.reject; dsimp only; split <;> simp

@[simp] theorem State.bulkReply_frame (s : State) (p : Nat) (m : Nat) (t : Bulk) (data : List Byte) :
    (State.bulkReply s p m t data).pending = s.pending ∧ (State.bulkReply s p m t data).freeIdx = s.freeIdx ∧
    (State.bulkReply s p m t data).dev = s.dev ∧ (State.bulkReply s p m t data).pwr = s.pwr ∧
    (State.bulkReply s p m t data).geo = s.geo ∧ (State.bulkReply s p m t data).unit = s.unit ∧
    (State.bulkReply s p m t data).time = s.time ∧ (State.bulkReply s p m t data).acts = s.acts ∧
    (State.bulkReply s p m t data).fab = s.fab ∧ (State.bulkReply s p m t data).ck = s.ck := by
  simp [State.bulkReply]

@[simp] theorem State.startCmd_frame (s : State) (u : Nat) (f : InFlight) :
    (State.startCmd s u f).pending = s.pending ∧ (State.startCmd s u f).freeIdx = s.freeIdx ∧ (State.startCmd s u f).out = s.out ∧
    (State.startCmd s u f).dev = s.dev ∧ (State.startCmd s u f).pwr = s.pwr ∧ (State.startCmd s u f).geo = s.geo ∧
    (State.startCmd s u f).mem = s.mem ∧ (State.startCmd s u f).lineErr = s.lineErr ∧ (State.startCmd s u f).pte = s.pte ∧
    (State.startCmd s u f).shadowNext = s.shadowNext ∧ (State.startCmd s u f).heldWrites = s.heldWrites ∧
    (State.startCmd s u f).plan = s.plan ∧ (State.startCmd s u f).time = s.time ∧ (State.startCmd s u f).acts = s.acts ∧
    (State.startCmd s u f).fab = s.fab ∧ (State.startCmd s u f).flt = s.flt ∧ (State.startCmd s u f).ck = s.ck ∧
    (State.startCmd s u f).host = s.host ∧ (State.startCmd s u f).trust = s.trust ∧ (State.startCmd s u f).cnt = s.cnt := by
  simp [State.startCmd]

@[simp] theorem State.slip_frame (s : State) (u : Nat) (f : InFlight) :
    (State.slip s u f).pending = s.pending ∧ (State.slip s u f).freeIdx = s.freeIdx ∧ (State.slip s u f).out = s.out ∧
    (State.slip s u f).dev = s.dev ∧ (State.slip s u f).pwr = s.pwr ∧ (State.slip s u f).geo = s.geo ∧
    (State.slip s u f).mem = s.mem ∧ (State.slip s u f).lineErr = s.lineErr ∧ (State.slip s u f).pte = s.pte ∧
    (State.slip s u f).shadowNext = s.shadowNext ∧ (State.slip s u f).heldWrites = s.heldWrites ∧
    (State.slip s u f).unit = s.unit ∧ (State.slip s u f).time = s.time ∧ (State.slip s u f).acts = s.acts ∧
    (State.slip s u f).fab = s.fab ∧ (State.slip s u f).flt = s.flt ∧ (State.slip s u f).ck = s.ck ∧
    (State.slip s u f).host = s.host ∧ (State.slip s u f).trust = s.trust := by
  simp [State.slip]

@[simp] theorem State.smGo_frame (s : State) :
    (State.smGo s).pending = s.pending ∧ (State.smGo s).out = s.out ∧ (State.smGo s).dev = s.dev ∧ (State.smGo s).pwr = s.pwr ∧
    (State.smGo s).unit = s.unit ∧ (State.smGo s).time = s.time ∧ (State.smGo s).fab = s.fab ∧ (State.smGo s).ck = s.ck ∧
    (State.smGo s).host = s.host := by
  simp [State.smGo]

@[simp] theorem State.smSuppress_frame (s : State) (red : Nat) :
    (State.smSuppress s red).pending = s.pending ∧ (State.smSuppress s red).out = s.out ∧ (State.smSuppress s red).dev = s.dev ∧
    (State.smSuppress s red).pwr = s.pwr ∧ (State.smSuppress s red).unit = s.unit ∧ (State.smSuppress s red).time = s.time ∧
    (State.smSuppress s red).fab = s.fab ∧ (State.smSuppress s red).ck = s.ck ∧ (State.smSuppress s red).host = s.host := by
  simp [State.smSuppress]

@[simp] theorem State.demote_frame (s : State) :
    (State.demote s).pending = s.pending ∧ (State.demote s).freeIdx = s.freeIdx ∧ (State.demote s).out = s.out ∧
    (State.demote s).dev = s.dev ∧ (State.demote s).pwr = s.pwr ∧ (State.demote s).geo = s.geo ∧ (State.demote s).mem = s.mem ∧
    (State.demote s).lineErr = s.lineErr ∧ (State.demote s).pte = s.pte ∧ (State.demote s).shadowNext = s.shadowNext ∧
    (State.demote s).heldWrites = s.heldWrites ∧ (State.demote s).unit = s.unit ∧ (State.demote s).plan = s.plan ∧
    (State.demote s).acts = s.acts ∧ (State.demote s).fab = s.fab ∧ (State.demote s).flt = s.flt ∧ (State.demote s).ck = s.ck ∧
    (State.demote s).host = s.host := by
  simp [State.demote]

@[simp] theorem State.setToken_frame (s : State) (k : Nat) (t : Token) :
    (State.setToken s k t).pending = s.pending ∧ (State.setToken s k t).freeIdx = s.freeIdx ∧ (State.setToken s k t).out = s.out ∧
    (State.setToken s k t).dev = s.dev ∧ (State.setToken s k t).pwr = s.pwr ∧ (State.setToken s k t).geo = s.geo ∧
    (State.setToken s k t).mem = s.mem ∧ (State.setToken s k t).lineErr = s.lineErr ∧ (State.setToken s k t).pte = s.pte ∧
    (State.setToken s k t).shadowNext = s.shadowNext ∧ (State.setToken s k t).heldWrites = s.heldWrites ∧
    (State.setToken s k t).plan = s.plan ∧ (State.setToken s k t).time = s.time ∧ (State.setToken s k t).acts = s.acts ∧
    (State.setToken s k t).fab = s.fab ∧ (State.setToken s k t).flt = s.flt ∧ (State.setToken s k t).ck = s.ck ∧
    (State.setToken s k t).host = s.host ∧ (State.setToken s k t).trust = s.trust ∧ (State.setToken s k t).cnt = s.cnt := by
  simp [State.setToken]

@[simp] theorem State.drainOx_frame (s : State) (x : Nat) (a1 : Nat) :
    (State.drainOx s x a1).pending = s.pending ∧ (State.drainOx s x a1).freeIdx = s.freeIdx ∧ (State.drainOx s x a1).out = s.out ∧
    (State.drainOx s x a1).dev = s.dev ∧ (State.drainOx s x a1).pwr = s.pwr ∧ (State.drainOx s x a1).geo = s.geo ∧
    (State.drainOx s x a1).lineErr = s.lineErr ∧ (State.drainOx s x a1).pte = s.pte ∧
    (State.drainOx s x a1).shadowNext = s.shadowNext ∧ (State.drainOx s x a1).heldWrites = s.heldWrites ∧
    (State.drainOx s x a1).plan = s.plan ∧ (State.drainOx s x a1).time = s.time ∧ (State.drainOx s x a1).acts = s.acts ∧
    (State.drainOx s x a1).fab = s.fab ∧ (State.drainOx s x a1).flt = s.flt ∧ (State.drainOx s x a1).ck = s.ck ∧
    (State.drainOx s x a1).host = s.host ∧ (State.drainOx s x a1).trust = s.trust ∧ (State.drainOx s x a1).cnt = s.cnt := by
  induction a1 generalizing s with
  | zero => simp [State.drainOx]
  | succ f ih => rw [State.drainOx]; (repeat' split) <;> simp [ih]

@[simp] theorem State.stopStream_frame (s : State) (u : Nat) :
    (State.stopStream s u).pending = s.pending ∧ (State.stopStream s u).out = s.out ∧ (State.stopStream s u).dev = s.dev ∧
    (State.stopStream s u).pwr = s.pwr ∧ (State.stopStream s u).geo = s.geo ∧ (State.stopStream s u).time = s.time ∧
    (State.stopStream s u).acts = s.acts ∧ (State.stopStream s u).fab = s.fab ∧ (State.stopStream s u).ck = s.ck ∧
    (State.stopStream s u).host = s.host := by
  simp [State.stopStream]

@[simp] theorem State.stopUnits_frame (s : State) :
    (State.stopUnits s).pending = s.pending ∧ (State.stopUnits s).out = s.out ∧ (State.stopUnits s).dev = s.dev ∧
    (State.stopUnits s).pwr = s.pwr ∧ (State.stopUnits s).geo = s.geo ∧ (State.stopUnits s).time = s.time ∧
    (State.stopUnits s).acts = s.acts ∧ (State.stopUnits s).fab = s.fab ∧ (State.stopUnits s).ck = s.ck ∧
    (State.stopUnits s).host = s.host := by
  simp [State.stopUnits]

@[simp] theorem State.faultRecord_frame (s : State) (origin : Nat × Nat) (value : Nat) :
    (State.faultRecord s origin value).pending = s.pending ∧ (State.faultRecord s origin value).freeIdx = s.freeIdx ∧
    (State.faultRecord s origin value).out = s.out ∧ (State.faultRecord s origin value).dev = s.dev ∧
    (State.faultRecord s origin value).pwr = s.pwr ∧ (State.faultRecord s origin value).geo = s.geo ∧
    (State.faultRecord s origin value).mem = s.mem ∧ (State.faultRecord s origin value).lineErr = s.lineErr ∧
    (State.faultRecord s origin value).pte = s.pte ∧ (State.faultRecord s origin value).shadowNext = s.shadowNext ∧
    (State.faultRecord s origin value).heldWrites = s.heldWrites ∧ (State.faultRecord s origin value).unit = s.unit ∧
    (State.faultRecord s origin value).plan = s.plan ∧ (State.faultRecord s origin value).time = s.time ∧
    (State.faultRecord s origin value).acts = s.acts ∧ (State.faultRecord s origin value).fab = s.fab ∧
    (State.faultRecord s origin value).ck = s.ck ∧ (State.faultRecord s origin value).host = s.host ∧
    (State.faultRecord s origin value).cnt = s.cnt := by
  simp [State.faultRecord]

@[simp] theorem State.changeRecord_frame (s : State) (origin : Nat × Nat) (value : Nat) :
    (State.changeRecord s origin value).pending = s.pending ∧ (State.changeRecord s origin value).freeIdx = s.freeIdx ∧
    (State.changeRecord s origin value).out = s.out ∧ (State.changeRecord s origin value).dev = s.dev ∧
    (State.changeRecord s origin value).pwr = s.pwr ∧ (State.changeRecord s origin value).geo = s.geo ∧
    (State.changeRecord s origin value).mem = s.mem ∧ (State.changeRecord s origin value).lineErr = s.lineErr ∧
    (State.changeRecord s origin value).pte = s.pte ∧ (State.changeRecord s origin value).shadowNext = s.shadowNext ∧
    (State.changeRecord s origin value).heldWrites = s.heldWrites ∧ (State.changeRecord s origin value).unit = s.unit ∧
    (State.changeRecord s origin value).plan = s.plan ∧ (State.changeRecord s origin value).time = s.time ∧
    (State.changeRecord s origin value).acts = s.acts ∧ (State.changeRecord s origin value).fab = s.fab ∧
    (State.changeRecord s origin value).ck = s.ck ∧ (State.changeRecord s origin value).host = s.host ∧
    (State.changeRecord s origin value).cnt = s.cnt := by
  unfold State.changeRecord; split <;> simp

@[simp] theorem State.sendNotice_frame (s : State) (n : FaultNotice) (except : Nat) :
    (State.sendNotice s n except).pending = s.pending ∧ (State.sendNotice s n except).freeIdx = s.freeIdx ∧
    (State.sendNotice s n except).dev = s.dev ∧ (State.sendNotice s n except).pwr = s.pwr ∧
    (State.sendNotice s n except).geo = s.geo ∧ (State.sendNotice s n except).mem = s.mem ∧
    (State.sendNotice s n except).lineErr = s.lineErr ∧ (State.sendNotice s n except).pte = s.pte ∧
    (State.sendNotice s n except).shadowNext = s.shadowNext ∧ (State.sendNotice s n except).heldWrites = s.heldWrites ∧
    (State.sendNotice s n except).unit = s.unit ∧ (State.sendNotice s n except).plan = s.plan ∧
    (State.sendNotice s n except).time = s.time ∧ (State.sendNotice s n except).acts = s.acts ∧
    (State.sendNotice s n except).flt = s.flt ∧ (State.sendNotice s n except).ck = s.ck ∧
    (State.sendNotice s n except).host = s.host ∧ (State.sendNotice s n except).trust = s.trust := by
  simp [State.sendNotice]

@[simp] theorem State.evalFinish_frame (s : State) :
    (State.evalFinish s).pending = s.pending ∧ (State.evalFinish s).freeIdx = s.freeIdx ∧ (State.evalFinish s).dev = s.dev ∧
    (State.evalFinish s).pwr = s.pwr ∧ (State.evalFinish s).geo = s.geo ∧ (State.evalFinish s).unit = s.unit ∧
    (State.evalFinish s).time = s.time ∧ (State.evalFinish s).fab = s.fab ∧ (State.evalFinish s).ck = s.ck := by
  unfold State.evalFinish; dsimp only; (repeat' split) <;> simp

@[simp] theorem State.evalTimeout_frame (s : State) :
    (State.evalTimeout s).pending = s.pending ∧ (State.evalTimeout s).freeIdx = s.freeIdx ∧ (State.evalTimeout s).out = s.out ∧
    (State.evalTimeout s).dev = s.dev ∧ (State.evalTimeout s).pwr = s.pwr ∧ (State.evalTimeout s).geo = s.geo ∧
    (State.evalTimeout s).mem = s.mem ∧ (State.evalTimeout s).lineErr = s.lineErr ∧ (State.evalTimeout s).pte = s.pte ∧
    (State.evalTimeout s).shadowNext = s.shadowNext ∧ (State.evalTimeout s).heldWrites = s.heldWrites ∧
    (State.evalTimeout s).unit = s.unit ∧ (State.evalTimeout s).plan = s.plan ∧ (State.evalTimeout s).time = s.time ∧
    (State.evalTimeout s).fab = s.fab ∧ (State.evalTimeout s).flt = s.flt ∧ (State.evalTimeout s).ck = s.ck ∧
    (State.evalTimeout s).trust = s.trust ∧ (State.evalTimeout s).cnt = s.cnt := by
  unfold State.evalTimeout; dsimp only; split <;> simp

@[simp] theorem State.launch_frame (s : State) (u : Nat) (f : InFlight) :
    (State.launch s u f).pending = s.pending ∧ (State.launch s u f).freeIdx = s.freeIdx ∧ (State.launch s u f).out = s.out ∧
    (State.launch s u f).dev = s.dev ∧ (State.launch s u f).pwr = s.pwr ∧ (State.launch s u f).geo = s.geo ∧
    (State.launch s u f).mem = s.mem ∧ (State.launch s u f).lineErr = s.lineErr ∧ (State.launch s u f).pte = s.pte ∧
    (State.launch s u f).shadowNext = s.shadowNext ∧ (State.launch s u f).heldWrites = s.heldWrites ∧
    (State.launch s u f).plan = s.plan ∧ (State.launch s u f).time = s.time ∧ (State.launch s u f).acts = s.acts ∧
    (State.launch s u f).fab = s.fab ∧ (State.launch s u f).flt = s.flt ∧ (State.launch s u f).ck = s.ck ∧
    (State.launch s u f).host = s.host ∧ (State.launch s u f).trust = s.trust ∧ (State.launch s u f).cnt = s.cnt := by
  simp [State.launch]

@[simp] theorem State.parkCmd_frame (s : State) (u : Nat) (w : Work) (planCyc : Nat) (slackCyc : Nat) (statKey : Nat) :
    (State.parkCmd s u w planCyc slackCyc statKey).pending = s.pending ∧
    (State.parkCmd s u w planCyc slackCyc statKey).freeIdx = s.freeIdx ∧
    (State.parkCmd s u w planCyc slackCyc statKey).out = s.out ∧ (State.parkCmd s u w planCyc slackCyc statKey).dev = s.dev ∧
    (State.parkCmd s u w planCyc slackCyc statKey).pwr = s.pwr ∧ (State.parkCmd s u w planCyc slackCyc statKey).geo = s.geo ∧
    (State.parkCmd s u w planCyc slackCyc statKey).mem = s.mem ∧
    (State.parkCmd s u w planCyc slackCyc statKey).lineErr = s.lineErr ∧
    (State.parkCmd s u w planCyc slackCyc statKey).pte = s.pte ∧
    (State.parkCmd s u w planCyc slackCyc statKey).shadowNext = s.shadowNext ∧
    (State.parkCmd s u w planCyc slackCyc statKey).heldWrites = s.heldWrites ∧
    (State.parkCmd s u w planCyc slackCyc statKey).plan = s.plan ∧ (State.parkCmd s u w planCyc slackCyc statKey).time = s.time ∧
    (State.parkCmd s u w planCyc slackCyc statKey).acts = s.acts ∧ (State.parkCmd s u w planCyc slackCyc statKey).fab = s.fab ∧
    (State.parkCmd s u w planCyc slackCyc statKey).flt = s.flt ∧ (State.parkCmd s u w planCyc slackCyc statKey).ck = s.ck ∧
    (State.parkCmd s u w planCyc slackCyc statKey).host = s.host ∧
    (State.parkCmd s u w planCyc slackCyc statKey).trust = s.trust ∧ (State.parkCmd s u w planCyc slackCyc statKey).cnt = s.cnt := by
  simp [State.parkCmd]

@[simp] theorem State.oxBegin_frame (s : State) (x : Nat) (d : Nat) :
    (State.oxBegin s x d).pending = s.pending ∧ (State.oxBegin s x d).freeIdx = s.freeIdx ∧ (State.oxBegin s x d).out = s.out ∧
    (State.oxBegin s x d).dev = s.dev ∧ (State.oxBegin s x d).pwr = s.pwr ∧ (State.oxBegin s x d).geo = s.geo ∧
    (State.oxBegin s x d).mem = s.mem ∧ (State.oxBegin s x d).lineErr = s.lineErr ∧ (State.oxBegin s x d).pte = s.pte ∧
    (State.oxBegin s x d).shadowNext = s.shadowNext ∧ (State.oxBegin s x d).heldWrites = s.heldWrites ∧
    (State.oxBegin s x d).plan = s.plan ∧ (State.oxBegin s x d).time = s.time ∧ (State.oxBegin s x d).acts = s.acts ∧
    (State.oxBegin s x d).fab = s.fab ∧ (State.oxBegin s x d).flt = s.flt ∧ (State.oxBegin s x d).ck = s.ck ∧
    (State.oxBegin s x d).host = s.host ∧ (State.oxBegin s x d).trust = s.trust ∧ (State.oxBegin s x d).cnt = s.cnt := by
  simp [State.oxBegin]

@[simp] theorem State.oxPartial_frame (s : State) (x : Nat) (c : OxCmd) (o : OxOut) :
    (State.oxPartial s x c o).pending = s.pending ∧ (State.oxPartial s x c o).freeIdx = s.freeIdx ∧
    (State.oxPartial s x c o).out = s.out ∧ (State.oxPartial s x c o).dev = s.dev ∧ (State.oxPartial s x c o).pwr = s.pwr ∧
    (State.oxPartial s x c o).geo = s.geo ∧ (State.oxPartial s x c o).lineErr = s.lineErr ∧
    (State.oxPartial s x c o).pte = s.pte ∧ (State.oxPartial s x c o).shadowNext = s.shadowNext ∧
    (State.oxPartial s x c o).heldWrites = s.heldWrites ∧ (State.oxPartial s x c o).unit = s.unit ∧
    (State.oxPartial s x c o).plan = s.plan ∧ (State.oxPartial s x c o).time = s.time ∧ (State.oxPartial s x c o).acts = s.acts ∧
    (State.oxPartial s x c o).fab = s.fab ∧ (State.oxPartial s x c o).flt = s.flt ∧ (State.oxPartial s x c o).ck = s.ck ∧
    (State.oxPartial s x c o).host = s.host ∧ (State.oxPartial s x c o).trust = s.trust ∧ (State.oxPartial s x c o).cnt = s.cnt := by
  simp [State.oxPartial]

@[simp] theorem State.oxIssue_frame (s : State) (x : Nat) (w : Work) (fa : Fmt) (fb : Fmt) :
    (State.oxIssue s x w fa fb).pending = s.pending ∧ (State.oxIssue s x w fa fb).freeIdx = s.freeIdx ∧
    (State.oxIssue s x w fa fb).out = s.out ∧ (State.oxIssue s x w fa fb).dev = s.dev ∧ (State.oxIssue s x w fa fb).pwr = s.pwr ∧
    (State.oxIssue s x w fa fb).geo = s.geo ∧ (State.oxIssue s x w fa fb).lineErr = s.lineErr ∧
    (State.oxIssue s x w fa fb).pte = s.pte ∧ (State.oxIssue s x w fa fb).shadowNext = s.shadowNext ∧
    (State.oxIssue s x w fa fb).heldWrites = s.heldWrites ∧ (State.oxIssue s x w fa fb).plan = s.plan ∧
    (State.oxIssue s x w fa fb).time = s.time ∧ (State.oxIssue s x w fa fb).acts = s.acts ∧
    (State.oxIssue s x w fa fb).fab = s.fab ∧ (State.oxIssue s x w fa fb).flt = s.flt ∧ (State.oxIssue s x w fa fb).ck = s.ck ∧
    (State.oxIssue s x w fa fb).host = s.host ∧ (State.oxIssue s x w fa fb).trust = s.trust ∧
    (State.oxIssue s x w fa fb).cnt = s.cnt := by
  simp [State.oxIssue]

@[simp] theorem State.oxFeed_frame (s : State) (x : Nat) :
    (State.oxFeed s x).pending = s.pending ∧ (State.oxFeed s x).freeIdx = s.freeIdx ∧ (State.oxFeed s x).out = s.out ∧
    (State.oxFeed s x).dev = s.dev ∧ (State.oxFeed s x).pwr = s.pwr ∧ (State.oxFeed s x).geo = s.geo ∧
    (State.oxFeed s x).lineErr = s.lineErr ∧ (State.oxFeed s x).pte = s.pte ∧ (State.oxFeed s x).shadowNext = s.shadowNext ∧
    (State.oxFeed s x).heldWrites = s.heldWrites ∧ (State.oxFeed s x).plan = s.plan ∧ (State.oxFeed s x).time = s.time ∧
    (State.oxFeed s x).acts = s.acts ∧ (State.oxFeed s x).fab = s.fab ∧ (State.oxFeed s x).flt = s.flt ∧
    (State.oxFeed s x).ck = s.ck ∧ (State.oxFeed s x).host = s.host ∧ (State.oxFeed s x).trust = s.trust ∧
    (State.oxFeed s x).cnt = s.cnt := by
  unfold State.oxFeed; dsimp only; (repeat' split) <;> simp

@[simp] theorem State.oxStep_frame (s : State) (x : Nat) (mode : Nat) :
    (State.oxStep s x mode).pending = s.pending ∧ (State.oxStep s x mode).freeIdx = s.freeIdx ∧
    (State.oxStep s x mode).out = s.out ∧ (State.oxStep s x mode).dev = s.dev ∧ (State.oxStep s x mode).pwr = s.pwr ∧
    (State.oxStep s x mode).geo = s.geo ∧ (State.oxStep s x mode).lineErr = s.lineErr ∧ (State.oxStep s x mode).pte = s.pte ∧
    (State.oxStep s x mode).shadowNext = s.shadowNext ∧ (State.oxStep s x mode).heldWrites = s.heldWrites ∧
    (State.oxStep s x mode).plan = s.plan ∧ (State.oxStep s x mode).time = s.time ∧ (State.oxStep s x mode).acts = s.acts ∧
    (State.oxStep s x mode).fab = s.fab ∧ (State.oxStep s x mode).flt = s.flt ∧ (State.oxStep s x mode).ck = s.ck ∧
    (State.oxStep s x mode).host = s.host ∧ (State.oxStep s x mode).trust = s.trust ∧ (State.oxStep s x mode).cnt = s.cnt := by
  unfold State.oxStep; (repeat' split) <;> simp

@[simp] theorem State.sendSync_frame (s : State) :
    (State.sendSync s).pending = s.pending ∧ (State.sendSync s).dev = s.dev ∧ (State.sendSync s).pwr = s.pwr ∧
    (State.sendSync s).geo = s.geo ∧ (State.sendSync s).mem = s.mem ∧ (State.sendSync s).lineErr = s.lineErr ∧
    (State.sendSync s).pte = s.pte ∧ (State.sendSync s).shadowNext = s.shadowNext ∧ (State.sendSync s).heldWrites = s.heldWrites ∧
    (State.sendSync s).unit = s.unit ∧ (State.sendSync s).plan = s.plan ∧ (State.sendSync s).acts = s.acts ∧
    (State.sendSync s).flt = s.flt ∧ (State.sendSync s).ck = s.ck ∧ (State.sendSync s).host = s.host ∧
    (State.sendSync s).trust = s.trust := by
  simp [State.sendSync]

@[simp] theorem State.settleRemap_frame (s : State) :
    (State.settleRemap s).pending = s.pending ∧ (State.settleRemap s).freeIdx = s.freeIdx ∧ (State.settleRemap s).out = s.out ∧
    (State.settleRemap s).dev = s.dev ∧ (State.settleRemap s).pwr = s.pwr ∧ (State.settleRemap s).geo = s.geo ∧
    (State.settleRemap s).mem = s.mem ∧ (State.settleRemap s).lineErr = s.lineErr ∧ (State.settleRemap s).pte = s.pte ∧
    (State.settleRemap s).shadowNext = s.shadowNext ∧ (State.settleRemap s).heldWrites = s.heldWrites ∧
    (State.settleRemap s).unit = s.unit ∧ (State.settleRemap s).plan = s.plan ∧ (State.settleRemap s).time = s.time ∧
    (State.settleRemap s).acts = s.acts ∧ (State.settleRemap s).flt = s.flt ∧ (State.settleRemap s).ck = s.ck ∧
    (State.settleRemap s).host = s.host ∧ (State.settleRemap s).trust = s.trust ∧ (State.settleRemap s).cnt = s.cnt := by
  simp [State.settleRemap]

@[simp] theorem State.tick_frame (s : State) :
    (State.tick s).pending = s.pending ∧ (State.tick s).out = s.out ∧ (State.tick s).dev = s.dev ∧ (State.tick s).geo = s.geo ∧
    (State.tick s).mem = s.mem ∧ (State.tick s).pte = s.pte ∧ (State.tick s).shadowNext = s.shadowNext ∧
    (State.tick s).heldWrites = s.heldWrites ∧ (State.tick s).unit = s.unit ∧ (State.tick s).plan = s.plan ∧
    (State.tick s).acts = s.acts ∧ (State.tick s).flt = s.flt ∧ (State.tick s).ck = s.ck ∧ (State.tick s).host = s.host ∧
    (State.tick s).trust = s.trust := by
  simp [State.tick]

@[simp] theorem State.writeBatch_frame (s : State) (r : Ring) (idx : Nat) (n : Nat) (rewards : Bool) :
    (State.writeBatch s r idx n rewards).pending = s.pending ∧ (State.writeBatch s r idx n rewards).out = s.out ∧
    (State.writeBatch s r idx n rewards).dev = s.dev ∧ (State.writeBatch s r idx n rewards).pwr = s.pwr ∧
    (State.writeBatch s r idx n rewards).unit = s.unit ∧ (State.writeBatch s r idx n rewards).time = s.time ∧
    (State.writeBatch s r idx n rewards).acts = s.acts ∧ (State.writeBatch s r idx n rewards).fab = s.fab ∧
    (State.writeBatch s r idx n rewards).ck = s.ck ∧ (State.writeBatch s r idx n rewards).host = s.host := by
  simp [State.writeBatch]

end Sys2Proof.Machine
end

