-- ==== Sys2Proof/Laws/FramesUnits.lean ====
section
/-! SUPPORT. Frame lemmas of the GOAT, HEN, expert, update, link, fault, log, host and power operations: the
fields of `State` each shared operation leaves alone. -/

namespace Sys2Proof.Machine

@[simp] theorem State.closeGates_frame (s : State) :
    (State.closeGates s).pending = s.pending ∧ (State.closeGates s).freeIdx = s.freeIdx ∧ (State.closeGates s).out = s.out ∧
    (State.closeGates s).dev = s.dev ∧ (State.closeGates s).pwr = s.pwr ∧ (State.closeGates s).geo = s.geo ∧
    (State.closeGates s).mem = s.mem ∧ (State.closeGates s).lineErr = s.lineErr ∧ (State.closeGates s).pte = s.pte ∧
    (State.closeGates s).shadowNext = s.shadowNext ∧ (State.closeGates s).heldWrites = s.heldWrites ∧
    (State.closeGates s).plan = s.plan ∧ (State.closeGates s).time = s.time ∧ (State.closeGates s).acts = s.acts ∧
    (State.closeGates s).fab = s.fab ∧ (State.closeGates s).flt = s.flt ∧ (State.closeGates s).ck = s.ck ∧
    (State.closeGates s).host = s.host ∧ (State.closeGates s).trust = s.trust ∧ (State.closeGates s).cnt = s.cnt := by
  simp [State.closeGates]

@[simp] theorem State.drainEls_frame (s : State) (g : Nat) (p : Pat) (compress : Bool) (r : Draws) (els : List OutEl) :
    (State.drainEls s g p compress r els).state.pending = s.pending ∧ (State.drainEls s g p compress r els).state.out = s.out ∧
    (State.drainEls s g p compress r els).state.dev = s.dev ∧ (State.drainEls s g p compress r els).state.pwr = s.pwr ∧
    (State.drainEls s g p compress r els).state.time = s.time ∧ (State.drainEls s g p compress r els).state.acts = s.acts ∧
    (State.drainEls s g p compress r els).state.fab = s.fab ∧ (State.drainEls s g p compress r els).state.ck = s.ck ∧
    (State.drainEls s g p compress r els).state.host = s.host := by
  unfold State.drainEls; dsimp only; split <;> simp

@[simp] theorem State.drainPat_frame (s : State) (g : Nat) (p : Pat) (compress : Bool) (r : Draws) (res : List Word) :
    (State.drainPat s g p compress r res).state.pending = s.pending ∧ (State.drainPat s g p compress r res).state.out = s.out ∧
    (State.drainPat s g p compress r res).state.dev = s.dev ∧ (State.drainPat s g p compress r res).state.pwr = s.pwr ∧
    (State.drainPat s g p compress r res).state.time = s.time ∧ (State.drainPat s g p compress r res).state.acts = s.acts ∧
    (State.drainPat s g p compress r res).state.fab = s.fab ∧ (State.drainPat s g p compress r res).state.ck = s.ck ∧
    (State.drainPat s g p compress r res).state.host = s.host := by
  simp [State.drainPat]

@[simp] theorem State.addInto_frame (s : State) (g : Nat) (c : RowCmd) (pat : Nat) (n : Nat) (rows : List (List Word)) :
    (State.addInto s g c pat n rows).state.pending = s.pending ∧ (State.addInto s g c pat n rows).state.out = s.out ∧
    (State.addInto s g c pat n rows).state.dev = s.dev ∧ (State.addInto s g c pat n rows).state.pwr = s.pwr ∧
    (State.addInto s g c pat n rows).state.time = s.time ∧ (State.addInto s g c pat n rows).state.acts = s.acts ∧
    (State.addInto s g c pat n rows).state.fab = s.fab ∧ (State.addInto s g c pat n rows).state.ck = s.ck ∧
    (State.addInto s g c pat n rows).state.host = s.host := by
  simp [State.addInto]

@[simp] theorem State.addLanes_frame (s : State) (rec : Nat) (off : Nat) (cnt : Nat) (clr : Bool) (ws : List Word) :
    (State.addLanes s rec off cnt clr ws).pending = s.pending ∧ (State.addLanes s rec off cnt clr ws).freeIdx = s.freeIdx ∧
    (State.addLanes s rec off cnt clr ws).out = s.out ∧ (State.addLanes s rec off cnt clr ws).dev = s.dev ∧
    (State.addLanes s rec off cnt clr ws).pwr = s.pwr ∧ (State.addLanes s rec off cnt clr ws).geo = s.geo ∧
    (State.addLanes s rec off cnt clr ws).lineErr = s.lineErr ∧ (State.addLanes s rec off cnt clr ws).pte = s.pte ∧
    (State.addLanes s rec off cnt clr ws).shadowNext = s.shadowNext ∧
    (State.addLanes s rec off cnt clr ws).heldWrites = s.heldWrites ∧ (State.addLanes s rec off cnt clr ws).unit = s.unit ∧
    (State.addLanes s rec off cnt clr ws).plan = s.plan ∧ (State.addLanes s rec off cnt clr ws).time = s.time ∧
    (State.addLanes s rec off cnt clr ws).acts = s.acts ∧ (State.addLanes s rec off cnt clr ws).fab = s.fab ∧
    (State.addLanes s rec off cnt clr ws).flt = s.flt ∧ (State.addLanes s rec off cnt clr ws).ck = s.ck ∧
    (State.addLanes s rec off cnt clr ws).host = s.host ∧ (State.addLanes s rec off cnt clr ws).trust = s.trust ∧
    (State.addLanes s rec off cnt clr ws).cnt = s.cnt := by
  simp [State.addLanes]

@[simp] theorem State.addMs_frame (s : State) (old : Nat) (key : Nat) (yes : Bool) :
    (State.addMs s old key yes).2.pending = s.pending ∧ (State.addMs s old key yes).2.freeIdx = s.freeIdx ∧
    (State.addMs s old key yes).2.out = s.out ∧ (State.addMs s old key yes).2.dev = s.dev ∧
    (State.addMs s old key yes).2.pwr = s.pwr ∧ (State.addMs s old key yes).2.geo = s.geo ∧
    (State.addMs s old key yes).2.mem = s.mem ∧ (State.addMs s old key yes).2.lineErr = s.lineErr ∧
    (State.addMs s old key yes).2.pte = s.pte ∧ (State.addMs s old key yes).2.shadowNext = s.shadowNext ∧
    (State.addMs s old key yes).2.heldWrites = s.heldWrites ∧ (State.addMs s old key yes).2.unit = s.unit ∧
    (State.addMs s old key yes).2.plan = s.plan ∧ (State.addMs s old key yes).2.time = s.time ∧
    (State.addMs s old key yes).2.acts = s.acts ∧ (State.addMs s old key yes).2.fab = s.fab ∧
    (State.addMs s old key yes).2.flt = s.flt ∧ (State.addMs s old key yes).2.ck = s.ck ∧
    (State.addMs s old key yes).2.host = s.host ∧ (State.addMs s old key yes).2.trust = s.trust := by
  simp [State.addMs]

@[simp] theorem State.clearSlots_frame (s : State) :
    (State.clearSlots s).pending = s.pending ∧ (State.clearSlots s).out = s.out ∧ (State.clearSlots s).dev = s.dev ∧
    (State.clearSlots s).pwr = s.pwr ∧ (State.clearSlots s).unit = s.unit ∧ (State.clearSlots s).time = s.time ∧
    (State.clearSlots s).fab = s.fab ∧ (State.clearSlots s).ck = s.ck ∧ (State.clearSlots s).host = s.host := by
  simp [State.clearSlots]

@[simp] theorem State.clearUsage_frame (s : State) :
    (State.clearUsage s).pending = s.pending ∧ (State.clearUsage s).freeIdx = s.freeIdx ∧ (State.clearUsage s).out = s.out ∧
    (State.clearUsage s).dev = s.dev ∧ (State.clearUsage s).pwr = s.pwr ∧ (State.clearUsage s).geo = s.geo ∧
    (State.clearUsage s).unit = s.unit ∧ (State.clearUsage s).time = s.time ∧ (State.clearUsage s).acts = s.acts ∧
    (State.clearUsage s).fab = s.fab ∧ (State.clearUsage s).ck = s.ck ∧ (State.clearUsage s).host = s.host := by
  simp [State.clearUsage]

@[simp] theorem State.toGoat_frame (s : State) (g : Nat) (key : Nat) (data : List Byte) :
    (State.toGoat s g key data).pending = s.pending ∧ (State.toGoat s g key data).out = s.out ∧
    (State.toGoat s g key data).dev = s.dev ∧ (State.toGoat s g key data).pwr = s.pwr ∧
    (State.toGoat s g key data).lineErr = s.lineErr ∧ (State.toGoat s g key data).pte = s.pte ∧
    (State.toGoat s g key data).shadowNext = s.shadowNext ∧ (State.toGoat s g key data).heldWrites = s.heldWrites ∧
    (State.toGoat s g key data).unit = s.unit ∧ (State.toGoat s g key data).plan = s.plan ∧
    (State.toGoat s g key data).time = s.time ∧ (State.toGoat s g key data).acts = s.acts ∧
    (State.toGoat s g key data).fab = s.fab ∧ (State.toGoat s g key data).flt = s.flt ∧ (State.toGoat s g key data).ck = s.ck ∧
    (State.toGoat s g key data).host = s.host ∧ (State.toGoat s g key data).trust = s.trust ∧
    (State.toGoat s g key data).cnt = s.cnt := by
  simp [State.toGoat]

@[simp] theorem State.loadTable_frame (s : State) (g : Nat) (slot : Nat) (data : List Byte) :
    (State.loadTable s g slot data).pending = s.pending ∧ (State.loadTable s g slot data).out = s.out ∧
    (State.loadTable s g slot data).dev = s.dev ∧ (State.loadTable s g slot data).pwr = s.pwr ∧
    (State.loadTable s g slot data).lineErr = s.lineErr ∧ (State.loadTable s g slot data).pte = s.pte ∧
    (State.loadTable s g slot data).shadowNext = s.shadowNext ∧ (State.loadTable s g slot data).heldWrites = s.heldWrites ∧
    (State.loadTable s g slot data).plan = s.plan ∧ (State.loadTable s g slot data).time = s.time ∧
    (State.loadTable s g slot data).acts = s.acts ∧ (State.loadTable s g slot data).fab = s.fab ∧
    (State.loadTable s g slot data).flt = s.flt ∧ (State.loadTable s g slot data).ck = s.ck ∧
    (State.loadTable s g slot data).host = s.host ∧ (State.loadTable s g slot data).trust = s.trust ∧
    (State.loadTable s g slot data).cnt = s.cnt := by
  simp [State.loadTable]

@[simp] theorem State.writeImage_frame (s : State) (e : Nat) :
    (State.writeImage s e).pending = s.pending ∧ (State.writeImage s e).out = s.out ∧ (State.writeImage s e).dev = s.dev ∧
    (State.writeImage s e).pwr = s.pwr ∧ (State.writeImage s e).time = s.time ∧ (State.writeImage s e).acts = s.acts ∧
    (State.writeImage s e).fab = s.fab ∧ (State.writeImage s e).ck = s.ck ∧ (State.writeImage s e).host = s.host := by
  simp [State.writeImage]

@[simp] theorem State.writePlanImages_frame (s : State) :
    (State.writePlanImages s).pending = s.pending ∧ (State.writePlanImages s).out = s.out ∧
    (State.writePlanImages s).dev = s.dev ∧ (State.writePlanImages s).pwr = s.pwr ∧ (State.writePlanImages s).time = s.time ∧
    (State.writePlanImages s).acts = s.acts ∧ (State.writePlanImages s).fab = s.fab ∧ (State.writePlanImages s).ck = s.ck ∧
    (State.writePlanImages s).host = s.host := by
  simp [State.writePlanImages]

@[simp] theorem State.loadVariantImages_frame (s : State) (v : Nat) :
    (State.loadVariantImages s v).pending = s.pending ∧ (State.loadVariantImages s v).out = s.out ∧
    (State.loadVariantImages s v).dev = s.dev ∧ (State.loadVariantImages s v).pwr = s.pwr ∧
    (State.loadVariantImages s v).lineErr = s.lineErr ∧ (State.loadVariantImages s v).pte = s.pte ∧
    (State.loadVariantImages s v).shadowNext = s.shadowNext ∧ (State.loadVariantImages s v).heldWrites = s.heldWrites ∧
    (State.loadVariantImages s v).plan = s.plan ∧ (State.loadVariantImages s v).time = s.time ∧
    (State.loadVariantImages s v).acts = s.acts ∧ (State.loadVariantImages s v).fab = s.fab ∧
    (State.loadVariantImages s v).flt = s.flt ∧ (State.loadVariantImages s v).ck = s.ck ∧
    (State.loadVariantImages s v).host = s.host ∧ (State.loadVariantImages s v).trust = s.trust ∧
    (State.loadVariantImages s v).cnt = s.cnt := by
  simp [State.loadVariantImages]

@[simp] theorem State.emptyQueues_frame (s : State) :
    (State.emptyQueues s).pending = s.pending ∧ (State.emptyQueues s).freeIdx = s.freeIdx ∧ (State.emptyQueues s).out = s.out ∧
    (State.emptyQueues s).dev = s.dev ∧ (State.emptyQueues s).pwr = s.pwr ∧ (State.emptyQueues s).geo = s.geo ∧
    (State.emptyQueues s).mem = s.mem ∧ (State.emptyQueues s).lineErr = s.lineErr ∧ (State.emptyQueues s).pte = s.pte ∧
    (State.emptyQueues s).shadowNext = s.shadowNext ∧ (State.emptyQueues s).heldWrites = s.heldWrites ∧
    (State.emptyQueues s).plan = s.plan ∧ (State.emptyQueues s).time = s.time ∧ (State.emptyQueues s).acts = s.acts ∧
    (State.emptyQueues s).fab = s.fab ∧ (State.emptyQueues s).flt = s.flt ∧ (State.emptyQueues s).ck = s.ck ∧
    (State.emptyQueues s).host = s.host ∧ (State.emptyQueues s).trust = s.trust ∧ (State.emptyQueues s).cnt = s.cnt := by
  simp [State.emptyQueues]

@[simp] theorem State.resetRun_frame (s : State) (rep : Nat) :
    (State.resetRun s rep).pending = s.pending ∧ (State.resetRun s rep).freeIdx = s.freeIdx ∧ (State.resetRun s rep).out = s.out ∧
    (State.resetRun s rep).dev = s.dev ∧ (State.resetRun s rep).pwr = s.pwr ∧ (State.resetRun s rep).geo = s.geo ∧
    (State.resetRun s rep).mem = s.mem ∧ (State.resetRun s rep).lineErr = s.lineErr ∧ (State.resetRun s rep).pte = s.pte ∧
    (State.resetRun s rep).shadowNext = s.shadowNext ∧ (State.resetRun s rep).heldWrites = s.heldWrites ∧
    (State.resetRun s rep).time = s.time ∧ (State.resetRun s rep).fab = s.fab ∧ (State.resetRun s rep).flt = s.flt ∧
    (State.resetRun s rep).ck = s.ck ∧ (State.resetRun s rep).host = s.host ∧ (State.resetRun s rep).trust = s.trust ∧
    (State.resetRun s rep).cnt = s.cnt := by
  simp [State.resetRun]

@[simp] theorem State.clearFrozen_frame (s : State) (origin : Nat × Nat) :
    (State.clearFrozen s origin).pending = s.pending ∧ (State.clearFrozen s origin).freeIdx = s.freeIdx ∧
    (State.clearFrozen s origin).out = s.out ∧ (State.clearFrozen s origin).dev = s.dev ∧
    (State.clearFrozen s origin).pwr = s.pwr ∧ (State.clearFrozen s origin).geo = s.geo ∧
    (State.clearFrozen s origin).mem = s.mem ∧ (State.clearFrozen s origin).lineErr = s.lineErr ∧
    (State.clearFrozen s origin).pte = s.pte ∧ (State.clearFrozen s origin).shadowNext = s.shadowNext ∧
    (State.clearFrozen s origin).heldWrites = s.heldWrites ∧ (State.clearFrozen s origin).unit = s.unit ∧
    (State.clearFrozen s origin).plan = s.plan ∧ (State.clearFrozen s origin).time = s.time ∧
    (State.clearFrozen s origin).acts = s.acts ∧ (State.clearFrozen s origin).fab = s.fab ∧
    (State.clearFrozen s origin).ck = s.ck ∧ (State.clearFrozen s origin).host = s.host ∧
    (State.clearFrozen s origin).cnt = s.cnt := by
  simp [State.clearFrozen]

@[simp] theorem State.clearStatus_frame (s : State) :
    (State.clearStatus s).pending = s.pending ∧ (State.clearStatus s).freeIdx = s.freeIdx ∧ (State.clearStatus s).out = s.out ∧
    (State.clearStatus s).dev = s.dev ∧ (State.clearStatus s).pwr = s.pwr ∧ (State.clearStatus s).geo = s.geo ∧
    (State.clearStatus s).mem = s.mem ∧ (State.clearStatus s).lineErr = s.lineErr ∧ (State.clearStatus s).pte = s.pte ∧
    (State.clearStatus s).shadowNext = s.shadowNext ∧ (State.clearStatus s).heldWrites = s.heldWrites ∧
    (State.clearStatus s).unit = s.unit ∧ (State.clearStatus s).plan = s.plan ∧ (State.clearStatus s).time = s.time ∧
    (State.clearStatus s).fab = s.fab ∧ (State.clearStatus s).host = s.host ∧ (State.clearStatus s).trust = s.trust ∧
    (State.clearStatus s).cnt = s.cnt := by
  simp [State.clearStatus]

@[simp] theorem State.armPlan_frame (s : State) (origin : Nat × Nat) :
    (State.armPlan s origin).pending = s.pending ∧ (State.armPlan s origin).out = s.out ∧ (State.armPlan s origin).time = s.time ∧
    (State.armPlan s origin).fab = s.fab ∧ (State.armPlan s origin).host = s.host := by
  simp [State.armPlan]

@[simp] theorem State.returnTokens_frame (s : State) (ks : List Nat) :
    (State.returnTokens s ks).pending = s.pending ∧ (State.returnTokens s ks).freeIdx = s.freeIdx ∧
    (State.returnTokens s ks).out = s.out ∧ (State.returnTokens s ks).dev = s.dev ∧ (State.returnTokens s ks).pwr = s.pwr ∧
    (State.returnTokens s ks).geo = s.geo ∧ (State.returnTokens s ks).mem = s.mem ∧
    (State.returnTokens s ks).lineErr = s.lineErr ∧ (State.returnTokens s ks).pte = s.pte ∧
    (State.returnTokens s ks).shadowNext = s.shadowNext ∧ (State.returnTokens s ks).heldWrites = s.heldWrites ∧
    (State.returnTokens s ks).plan = s.plan ∧ (State.returnTokens s ks).time = s.time ∧ (State.returnTokens s ks).acts = s.acts ∧
    (State.returnTokens s ks).fab = s.fab ∧ (State.returnTokens s ks).flt = s.flt ∧ (State.returnTokens s ks).ck = s.ck ∧
    (State.returnTokens s ks).host = s.host ∧ (State.returnTokens s ks).trust = s.trust ∧ (State.returnTokens s ks).cnt = s.cnt := by
  simp [State.returnTokens]

@[simp] theorem State.bankStep_frame (s : State) (g : Nat) :
    (State.bankStep s g).pending = s.pending ∧ (State.bankStep s g).freeIdx = s.freeIdx ∧ (State.bankStep s g).out = s.out ∧
    (State.bankStep s g).dev = s.dev ∧ (State.bankStep s g).pwr = s.pwr ∧ (State.bankStep s g).geo = s.geo ∧
    (State.bankStep s g).mem = s.mem ∧ (State.bankStep s g).lineErr = s.lineErr ∧ (State.bankStep s g).pte = s.pte ∧
    (State.bankStep s g).shadowNext = s.shadowNext ∧ (State.bankStep s g).heldWrites = s.heldWrites ∧
    (State.bankStep s g).plan = s.plan ∧ (State.bankStep s g).time = s.time ∧ (State.bankStep s g).acts = s.acts ∧
    (State.bankStep s g).fab = s.fab ∧ (State.bankStep s g).flt = s.flt ∧ (State.bankStep s g).ck = s.ck ∧
    (State.bankStep s g).host = s.host ∧ (State.bankStep s g).trust = s.trust ∧ (State.bankStep s g).cnt = s.cnt := by
  unfold State.bankStep; dsimp only; split <;> simp

@[simp] theorem State.beginEpoch_frame (s : State) (r : Nat) (x : Nat) :
    (State.beginEpoch s r x).pending = s.pending ∧ (State.beginEpoch s r x).freeIdx = s.freeIdx ∧
    (State.beginEpoch s r x).out = s.out ∧ (State.beginEpoch s r x).dev = s.dev ∧ (State.beginEpoch s r x).pwr = s.pwr ∧
    (State.beginEpoch s r x).geo = s.geo ∧ (State.beginEpoch s r x).mem = s.mem ∧ (State.beginEpoch s r x).lineErr = s.lineErr ∧
    (State.beginEpoch s r x).pte = s.pte ∧ (State.beginEpoch s r x).shadowNext = s.shadowNext ∧
    (State.beginEpoch s r x).heldWrites = s.heldWrites ∧ (State.beginEpoch s r x).plan = s.plan ∧
    (State.beginEpoch s r x).time = s.time ∧ (State.beginEpoch s r x).acts = s.acts ∧ (State.beginEpoch s r x).fab = s.fab ∧
    (State.beginEpoch s r x).flt = s.flt ∧ (State.beginEpoch s r x).ck = s.ck ∧ (State.beginEpoch s r x).host = s.host ∧
    (State.beginEpoch s r x).trust = s.trust ∧ (State.beginEpoch s r x).cnt = s.cnt := by
  simp [State.beginEpoch]

@[simp] theorem State.breakQueues_frame (s : State) (u : Nat) :
    (State.breakQueues s u).pending = s.pending ∧ (State.breakQueues s u).freeIdx = s.freeIdx ∧
    (State.breakQueues s u).out = s.out ∧ (State.breakQueues s u).dev = s.dev ∧ (State.breakQueues s u).pwr = s.pwr ∧
    (State.breakQueues s u).geo = s.geo ∧ (State.breakQueues s u).mem = s.mem ∧ (State.breakQueues s u).lineErr = s.lineErr ∧
    (State.breakQueues s u).pte = s.pte ∧ (State.breakQueues s u).shadowNext = s.shadowNext ∧
    (State.breakQueues s u).heldWrites = s.heldWrites ∧ (State.breakQueues s u).time = s.time ∧
    (State.breakQueues s u).acts = s.acts ∧ (State.breakQueues s u).fab = s.fab ∧ (State.breakQueues s u).flt = s.flt ∧
    (State.breakQueues s u).ck = s.ck ∧ (State.breakQueues s u).host = s.host ∧ (State.breakQueues s u).trust = s.trust := by
  simp [State.breakQueues]

@[simp] theorem State.clearReuse_frame (s : State) (h : Nat) :
    (State.clearReuse s h).pending = s.pending ∧ (State.clearReuse s h).freeIdx = s.freeIdx ∧ (State.clearReuse s h).out = s.out ∧
    (State.clearReuse s h).dev = s.dev ∧ (State.clearReuse s h).pwr = s.pwr ∧ (State.clearReuse s h).geo = s.geo ∧
    (State.clearReuse s h).mem = s.mem ∧ (State.clearReuse s h).lineErr = s.lineErr ∧ (State.clearReuse s h).pte = s.pte ∧
    (State.clearReuse s h).shadowNext = s.shadowNext ∧ (State.clearReuse s h).heldWrites = s.heldWrites ∧
    (State.clearReuse s h).plan = s.plan ∧ (State.clearReuse s h).time = s.time ∧ (State.clearReuse s h).acts = s.acts ∧
    (State.clearReuse s h).fab = s.fab ∧ (State.clearReuse s h).flt = s.flt ∧ (State.clearReuse s h).ck = s.ck ∧
    (State.clearReuse s h).host = s.host ∧ (State.clearReuse s h).trust = s.trust ∧ (State.clearReuse s h).cnt = s.cnt := by
  simp [State.clearReuse]

@[simp] theorem State.closeEpoch_frame (s : State) (r : Nat) (gate : Nat) (x : Nat) :
    (State.closeEpoch s r gate x).pending = s.pending ∧ (State.closeEpoch s r gate x).freeIdx = s.freeIdx ∧
    (State.closeEpoch s r gate x).out = s.out ∧ (State.closeEpoch s r gate x).dev = s.dev ∧
    (State.closeEpoch s r gate x).pwr = s.pwr ∧ (State.closeEpoch s r gate x).geo = s.geo ∧
    (State.closeEpoch s r gate x).mem = s.mem ∧ (State.closeEpoch s r gate x).lineErr = s.lineErr ∧
    (State.closeEpoch s r gate x).pte = s.pte ∧ (State.closeEpoch s r gate x).shadowNext = s.shadowNext ∧
    (State.closeEpoch s r gate x).heldWrites = s.heldWrites ∧ (State.closeEpoch s r gate x).plan = s.plan ∧
    (State.closeEpoch s r gate x).time = s.time ∧ (State.closeEpoch s r gate x).acts = s.acts ∧
    (State.closeEpoch s r gate x).fab = s.fab ∧ (State.closeEpoch s r gate x).flt = s.flt ∧
    (State.closeEpoch s r gate x).ck = s.ck ∧ (State.closeEpoch s r gate x).host = s.host ∧
    (State.closeEpoch s r gate x).trust = s.trust ∧ (State.closeEpoch s r gate x).cnt = s.cnt := by
  simp [State.closeEpoch]

@[simp] theorem State.noteRow_frame (s : State) (req : Nat) (b : RowBlock) (r : Nat) (w : Nat) :
    (State.noteRow s req b r w).pending = s.pending ∧ (State.noteRow s req b r w).out = s.out ∧
    (State.noteRow s req b r w).dev = s.dev ∧ (State.noteRow s req b r w).pwr = s.pwr ∧ (State.noteRow s req b r w).mem = s.mem ∧
    (State.noteRow s req b r w).shadowNext = s.shadowNext ∧ (State.noteRow s req b r w).heldWrites = s.heldWrites ∧
    (State.noteRow s req b r w).unit = s.unit ∧ (State.noteRow s req b r w).time = s.time ∧
    (State.noteRow s req b r w).acts = s.acts ∧ (State.noteRow s req b r w).fab = s.fab ∧ (State.noteRow s req b r w).ck = s.ck ∧
    (State.noteRow s req b r w).host = s.host := by
  simp [State.noteRow]

@[simp] theorem State.putPieces_frame (s : State) (req : Nat) (a1 : List (Nat × Nat)) (a2 : List Byte) :
    (State.putPieces s req a1 a2).pending = s.pending ∧ (State.putPieces s req a1 a2).out = s.out ∧
    (State.putPieces s req a1 a2).dev = s.dev ∧ (State.putPieces s req a1 a2).pwr = s.pwr ∧
    (State.putPieces s req a1 a2).unit = s.unit ∧ (State.putPieces s req a1 a2).time = s.time ∧
    (State.putPieces s req a1 a2).acts = s.acts ∧ (State.putPieces s req a1 a2).fab = s.fab ∧
    (State.putPieces s req a1 a2).ck = s.ck ∧ (State.putPieces s req a1 a2).host = s.host := by
  induction a1 generalizing a2 s with
  | nil => simp [State.putPieces]
  | cons i l ih => rw [State.putPieces]; simp [ih]

@[simp] theorem State.putRow_frame (s : State) (req : Nat) (b : RowBlock) (r : Nat) (w : Nat) (data : List Byte) :
    (State.putRow s req b r w data).pending = s.pending ∧ (State.putRow s req b r w data).out = s.out ∧
    (State.putRow s req b r w data).dev = s.dev ∧ (State.putRow s req b r w data).pwr = s.pwr ∧
    (State.putRow s req b r w data).unit = s.unit ∧ (State.putRow s req b r w data).time = s.time ∧
    (State.putRow s req b r w data).acts = s.acts ∧ (State.putRow s req b r w data).fab = s.fab ∧
    (State.putRow s req b r w data).ck = s.ck ∧ (State.putRow s req b r w data).host = s.host := by
  simp [State.putRow]

@[simp] theorem State.putGrid_frame (s : State) (req : Nat) (b : RowBlock) (w : Nat) (rows : List (List Byte)) :
    (State.putGrid s req b w rows).pending = s.pending ∧ (State.putGrid s req b w rows).out = s.out ∧
    (State.putGrid s req b w rows).dev = s.dev ∧ (State.putGrid s req b w rows).pwr = s.pwr ∧
    (State.putGrid s req b w rows).unit = s.unit ∧ (State.putGrid s req b w rows).time = s.time ∧
    (State.putGrid s req b w rows).acts = s.acts ∧ (State.putGrid s req b w rows).fab = s.fab ∧
    (State.putGrid s req b w rows).ck = s.ck ∧ (State.putGrid s req b w rows).host = s.host := by
  simp [State.putGrid]

@[simp] theorem State.setPresent_frame (s : State) (req : Nat) (map : Nat) (row : Nat) (v : Bool) :
    (State.setPresent s req map row v).pending = s.pending ∧ (State.setPresent s req map row v).out = s.out ∧
    (State.setPresent s req map row v).dev = s.dev ∧ (State.setPresent s req map row v).pwr = s.pwr ∧
    (State.setPresent s req map row v).unit = s.unit ∧ (State.setPresent s req map row v).time = s.time ∧
    (State.setPresent s req map row v).acts = s.acts ∧ (State.setPresent s req map row v).fab = s.fab ∧
    (State.setPresent s req map row v).ck = s.ck ∧ (State.setPresent s req map row v).host = s.host := by
  simp [State.setPresent]

@[simp] theorem State.combineCmd_frame (s : State) (h : Nat) (d : Nat) :
    (State.combineCmd s h d).pending = s.pending ∧ (State.combineCmd s h d).out = s.out ∧ (State.combineCmd s h d).dev = s.dev ∧
    (State.combineCmd s h d).pwr = s.pwr ∧ (State.combineCmd s h d).time = s.time ∧ (State.combineCmd s h d).acts = s.acts ∧
    (State.combineCmd s h d).fab = s.fab ∧ (State.combineCmd s h d).ck = s.ck ∧ (State.combineCmd s h d).host = s.host := by
  unfold State.combineCmd; dsimp only; split <;> simp

@[simp] theorem State.place_frame (s : State) (link : Nat) (m : LinkMsg) :
    (State.place s link m).pending = s.pending ∧ (State.place s link m).out = s.out ∧ (State.place s link m).dev = s.dev ∧
    (State.place s link m).pwr = s.pwr ∧ (State.place s link m).unit = s.unit ∧ (State.place s link m).time = s.time ∧
    (State.place s link m).acts = s.acts ∧ (State.place s link m).fab = s.fab ∧ (State.place s link m).ck = s.ck ∧
    (State.place s link m).host = s.host := by
  simp [State.place]

@[simp] theorem State.dropMarkers_frame (s : State) (router : Nat) (x : Nat) :
    (State.dropMarkers s router x).pending = s.pending ∧ (State.dropMarkers s router x).freeIdx = s.freeIdx ∧
    (State.dropMarkers s router x).out = s.out ∧ (State.dropMarkers s router x).dev = s.dev ∧
    (State.dropMarkers s router x).pwr = s.pwr ∧ (State.dropMarkers s router x).geo = s.geo ∧
    (State.dropMarkers s router x).mem = s.mem ∧ (State.dropMarkers s router x).lineErr = s.lineErr ∧
    (State.dropMarkers s router x).pte = s.pte ∧ (State.dropMarkers s router x).shadowNext = s.shadowNext ∧
    (State.dropMarkers s router x).heldWrites = s.heldWrites ∧ (State.dropMarkers s router x).plan = s.plan ∧
    (State.dropMarkers s router x).time = s.time ∧ (State.dropMarkers s router x).acts = s.acts ∧
    (State.dropMarkers s router x).fab = s.fab ∧ (State.dropMarkers s router x).flt = s.flt ∧
    (State.dropMarkers s router x).ck = s.ck ∧ (State.dropMarkers s router x).host = s.host ∧
    (State.dropMarkers s router x).trust = s.trust ∧ (State.dropMarkers s router x).cnt = s.cnt := by
  simp [State.dropMarkers]

@[simp] theorem State.recvRecord_frame (s : State) (link : Nat) (data : List Byte) :
    (State.recvRecord s link data).pending = s.pending ∧ (State.recvRecord s link data).out = s.out ∧
    (State.recvRecord s link data).dev = s.dev ∧ (State.recvRecord s link data).pwr = s.pwr ∧
    (State.recvRecord s link data).time = s.time ∧ (State.recvRecord s link data).acts = s.acts ∧
    (State.recvRecord s link data).fab = s.fab ∧ (State.recvRecord s link data).ck = s.ck ∧
    (State.recvRecord s link data).host = s.host := by
  unfold State.recvRecord; dsimp only; (repeat' split) <;> simp

@[simp] theorem State.sendExpert_frame (s : State) (lane : Nat) (dst : Nat) (data : List Byte) :
    (State.sendExpert s lane dst data).pending = s.pending ∧ (State.sendExpert s lane dst data).freeIdx = s.freeIdx ∧
    (State.sendExpert s lane dst data).dev = s.dev ∧ (State.sendExpert s lane dst data).pwr = s.pwr ∧
    (State.sendExpert s lane dst data).geo = s.geo ∧ (State.sendExpert s lane dst data).mem = s.mem ∧
    (State.sendExpert s lane dst data).lineErr = s.lineErr ∧ (State.sendExpert s lane dst data).pte = s.pte ∧
    (State.sendExpert s lane dst data).shadowNext = s.shadowNext ∧ (State.sendExpert s lane dst data).heldWrites = s.heldWrites ∧
    (State.sendExpert s lane dst data).unit = s.unit ∧ (State.sendExpert s lane dst data).plan = s.plan ∧
    (State.sendExpert s lane dst data).time = s.time ∧ (State.sendExpert s lane dst data).acts = s.acts ∧
    (State.sendExpert s lane dst data).flt = s.flt ∧ (State.sendExpert s lane dst data).ck = s.ck ∧
    (State.sendExpert s lane dst data).host = s.host ∧ (State.sendExpert s lane dst data).trust = s.trust := by
  unfold State.sendExpert; split <;> simp

@[simp] theorem State.sendRecord_frame (s : State) (rt : Router) (c : ExpCmd) (me : Nat) (t : Nat) (g : Nat) (sels : List RouteEntry) (row : List Byte) :
    (State.sendRecord s rt c me t g sels row).pending = s.pending ∧ (State.sendRecord s rt c me t g sels row).dev = s.dev ∧
    (State.sendRecord s rt c me t g sels row).pwr = s.pwr ∧ (State.sendRecord s rt c me t g sels row).time = s.time ∧
    (State.sendRecord s rt c me t g sels row).acts = s.acts ∧ (State.sendRecord s rt c me t g sels row).ck = s.ck ∧
    (State.sendRecord s rt c me t g sels row).host = s.host := by
  simp [State.sendRecord]

@[simp] theorem State.drainRaw_frame (s : State) (g : Nat) (p : Pat) (ws : List Word) :
    (State.drainRaw s g p ws).1.pending = s.pending ∧ (State.drainRaw s g p ws).1.out = s.out ∧
    (State.drainRaw s g p ws).1.dev = s.dev ∧ (State.drainRaw s g p ws).1.pwr = s.pwr ∧
    (State.drainRaw s g p ws).1.time = s.time ∧ (State.drainRaw s g p ws).1.acts = s.acts ∧
    (State.drainRaw s g p ws).1.fab = s.fab ∧ (State.drainRaw s g p ws).1.ck = s.ck ∧ (State.drainRaw s g p ws).1.host = s.host := by
  simp [State.drainRaw]

@[simp] theorem State.dropQueues_frame (s : State) (x : Nat) :
    (State.dropQueues s x).pending = s.pending ∧ (State.dropQueues s x).freeIdx = s.freeIdx ∧ (State.dropQueues s x).out = s.out ∧
    (State.dropQueues s x).dev = s.dev ∧ (State.dropQueues s x).pwr = s.pwr ∧ (State.dropQueues s x).geo = s.geo ∧
    (State.dropQueues s x).mem = s.mem ∧ (State.dropQueues s x).lineErr = s.lineErr ∧ (State.dropQueues s x).pte = s.pte ∧
    (State.dropQueues s x).shadowNext = s.shadowNext ∧ (State.dropQueues s x).heldWrites = s.heldWrites ∧
    (State.dropQueues s x).plan = s.plan ∧ (State.dropQueues s x).time = s.time ∧ (State.dropQueues s x).acts = s.acts ∧
    (State.dropQueues s x).fab = s.fab ∧ (State.dropQueues s x).flt = s.flt ∧ (State.dropQueues s x).ck = s.ck ∧
    (State.dropQueues s x).host = s.host ∧ (State.dropQueues s x).trust = s.trust ∧ (State.dropQueues s x).cnt = s.cnt := by
  simp [State.dropQueues]

@[simp] theorem State.engageClamp_frame (s : State) (h : Nat) (thermal : Bool) :
    (State.engageClamp s h thermal).pending = s.pending ∧ (State.engageClamp s h thermal).freeIdx = s.freeIdx ∧
    (State.engageClamp s h thermal).out = s.out ∧ (State.engageClamp s h thermal).dev = s.dev ∧
    (State.engageClamp s h thermal).geo = s.geo ∧ (State.engageClamp s h thermal).mem = s.mem ∧
    (State.engageClamp s h thermal).lineErr = s.lineErr ∧ (State.engageClamp s h thermal).pte = s.pte ∧
    (State.engageClamp s h thermal).shadowNext = s.shadowNext ∧ (State.engageClamp s h thermal).heldWrites = s.heldWrites ∧
    (State.engageClamp s h thermal).unit = s.unit ∧ (State.engageClamp s h thermal).plan = s.plan ∧
    (State.engageClamp s h thermal).time = s.time ∧ (State.engageClamp s h thermal).acts = s.acts ∧
    (State.engageClamp s h thermal).fab = s.fab ∧ (State.engageClamp s h thermal).flt = s.flt ∧
    (State.engageClamp s h thermal).ck = s.ck ∧ (State.engageClamp s h thermal).host = s.host := by
  simp [State.engageClamp]

@[simp] theorem State.takeCap_frame (s : State) :
    (State.takeCap s).pending = s.pending ∧ (State.takeCap s).freeIdx = s.freeIdx ∧ (State.takeCap s).out = s.out ∧
    (State.takeCap s).pwr = s.pwr ∧ (State.takeCap s).geo = s.geo ∧ (State.takeCap s).mem = s.mem ∧
    (State.takeCap s).lineErr = s.lineErr ∧ (State.takeCap s).pte = s.pte ∧ (State.takeCap s).shadowNext = s.shadowNext ∧
    (State.takeCap s).heldWrites = s.heldWrites ∧ (State.takeCap s).unit = s.unit ∧ (State.takeCap s).plan = s.plan ∧
    (State.takeCap s).time = s.time ∧ (State.takeCap s).acts = s.acts ∧ (State.takeCap s).fab = s.fab ∧
    (State.takeCap s).flt = s.flt ∧ (State.takeCap s).ck = s.ck ∧ (State.takeCap s).host = s.host ∧
    (State.takeCap s).cnt = s.cnt := by
  simp [State.takeCap]

@[simp] theorem State.epochCloseCmd_frame (s : State) (h : Nat) (d : Nat) :
    (State.epochCloseCmd s h d).pending = s.pending ∧ (State.epochCloseCmd s h d).freeIdx = s.freeIdx ∧
    (State.epochCloseCmd s h d).out = s.out ∧ (State.epochCloseCmd s h d).dev = s.dev ∧ (State.epochCloseCmd s h d).pwr = s.pwr ∧
    (State.epochCloseCmd s h d).geo = s.geo ∧ (State.epochCloseCmd s h d).mem = s.mem ∧
    (State.epochCloseCmd s h d).lineErr = s.lineErr ∧ (State.epochCloseCmd s h d).pte = s.pte ∧
    (State.epochCloseCmd s h d).shadowNext = s.shadowNext ∧ (State.epochCloseCmd s h d).heldWrites = s.heldWrites ∧
    (State.epochCloseCmd s h d).plan = s.plan ∧ (State.epochCloseCmd s h d).time = s.time ∧
    (State.epochCloseCmd s h d).acts = s.acts ∧ (State.epochCloseCmd s h d).fab = s.fab ∧
    (State.epochCloseCmd s h d).flt = s.flt ∧ (State.epochCloseCmd s h d).ck = s.ck ∧ (State.epochCloseCmd s h d).host = s.host ∧
    (State.epochCloseCmd s h d).trust = s.trust ∧ (State.epochCloseCmd s h d).cnt = s.cnt := by
  simp [State.epochCloseCmd]

@[simp] theorem State.looseBanks_frame (s : State) (u : Nat) :
    (State.looseBanks s u).pending = s.pending ∧ (State.looseBanks s u).out = s.out ∧ (State.looseBanks s u).dev = s.dev ∧
    (State.looseBanks s u).pwr = s.pwr ∧ (State.looseBanks s u).geo = s.geo ∧ (State.looseBanks s u).unit = s.unit ∧
    (State.looseBanks s u).time = s.time ∧ (State.looseBanks s u).acts = s.acts ∧ (State.looseBanks s u).fab = s.fab ∧
    (State.looseBanks s u).ck = s.ck ∧ (State.looseBanks s u).host = s.host := by
  simp [State.looseBanks]

@[simp] theorem State.fenceUnit_frame (s : State) (u : Nat) (pos : Nat) :
    (State.fenceUnit s u pos).pending = s.pending ∧ (State.fenceUnit s u pos).out = s.out ∧
    (State.fenceUnit s u pos).dev = s.dev ∧ (State.fenceUnit s u pos).pwr = s.pwr ∧ (State.fenceUnit s u pos).geo = s.geo ∧
    (State.fenceUnit s u pos).time = s.time ∧ (State.fenceUnit s u pos).acts = s.acts ∧ (State.fenceUnit s u pos).fab = s.fab ∧
    (State.fenceUnit s u pos).ck = s.ck ∧ (State.fenceUnit s u pos).host = s.host := by
  simp [State.fenceUnit]

@[simp] theorem State.fencePos_frame (s : State) (pos : Nat) :
    (State.fencePos s pos).pending = s.pending ∧ (State.fencePos s pos).out = s.out ∧ (State.fencePos s pos).dev = s.dev ∧
    (State.fencePos s pos).pwr = s.pwr ∧ (State.fencePos s pos).time = s.time ∧ (State.fencePos s pos).acts = s.acts ∧
    (State.fencePos s pos).fab = s.fab ∧ (State.fencePos s pos).ck = s.ck ∧ (State.fencePos s pos).host = s.host := by
  unfold State.fencePos; dsimp only; (repeat' split) <;> simp

@[simp] theorem State.fenceSite_frame (s : State) (pos : Nat) :
    (State.fenceSite s pos).pending = s.pending ∧ (State.fenceSite s pos).out = s.out ∧ (State.fenceSite s pos).dev = s.dev ∧
    (State.fenceSite s pos).pwr = s.pwr ∧ (State.fenceSite s pos).time = s.time ∧ (State.fenceSite s pos).acts = s.acts ∧
    (State.fenceSite s pos).fab = s.fab ∧ (State.fenceSite s pos).ck = s.ck ∧ (State.fenceSite s pos).host = s.host := by
  simp [State.fenceSite]

@[simp] theorem State.freeBuffer_frame (s : State) (p : Nat) (lane : Nat) (cls : Nat) :
    (State.freeBuffer s p lane cls).pending = s.pending ∧ (State.freeBuffer s p lane cls).freeIdx = s.freeIdx ∧
    (State.freeBuffer s p lane cls).out = s.out ∧ (State.freeBuffer s p lane cls).dev = s.dev ∧
    (State.freeBuffer s p lane cls).pwr = s.pwr ∧ (State.freeBuffer s p lane cls).geo = s.geo ∧
    (State.freeBuffer s p lane cls).mem = s.mem ∧ (State.freeBuffer s p lane cls).lineErr = s.lineErr ∧
    (State.freeBuffer s p lane cls).pte = s.pte ∧ (State.freeBuffer s p lane cls).shadowNext = s.shadowNext ∧
    (State.freeBuffer s p lane cls).heldWrites = s.heldWrites ∧ (State.freeBuffer s p lane cls).unit = s.unit ∧
    (State.freeBuffer s p lane cls).plan = s.plan ∧ (State.freeBuffer s p lane cls).time = s.time ∧
    (State.freeBuffer s p lane cls).acts = s.acts ∧ (State.freeBuffer s p lane cls).flt = s.flt ∧
    (State.freeBuffer s p lane cls).ck = s.ck ∧ (State.freeBuffer s p lane cls).host = s.host ∧
    (State.freeBuffer s p lane cls).trust = s.trust ∧ (State.freeBuffer s p lane cls).cnt = s.cnt := by
  simp [State.freeBuffer]

@[simp] theorem State.gateGradCmd_frame (s : State) (h : Nat) (d : Nat) :
    (State.gateGradCmd s h d).pending = s.pending ∧ (State.gateGradCmd s h d).out = s.out ∧
    (State.gateGradCmd s h d).dev = s.dev ∧ (State.gateGradCmd s h d).pwr = s.pwr ∧ (State.gateGradCmd s h d).time = s.time ∧
    (State.gateGradCmd s h d).acts = s.acts ∧ (State.gateGradCmd s h d).fab = s.fab ∧ (State.gateGradCmd s h d).ck = s.ck ∧
    (State.gateGradCmd s h d).host = s.host := by
  unfold State.gateGradCmd; dsimp only; split <;> simp

@[simp] theorem State.henShort_frame (s : State) (h : Nat) (d : Nat) (c : HenCmd) (capped : Bool) :
    (State.henShort s h d c capped).pending = s.pending ∧ (State.henShort s h d c capped).freeIdx = s.freeIdx ∧
    (State.henShort s h d c capped).out = s.out ∧ (State.henShort s h d c capped).dev = s.dev ∧
    (State.henShort s h d c capped).pwr = s.pwr ∧ (State.henShort s h d c capped).geo = s.geo ∧
    (State.henShort s h d c capped).mem = s.mem ∧ (State.henShort s h d c capped).lineErr = s.lineErr ∧
    (State.henShort s h d c capped).pte = s.pte ∧ (State.henShort s h d c capped).shadowNext = s.shadowNext ∧
    (State.henShort s h d c capped).heldWrites = s.heldWrites ∧ (State.henShort s h d c capped).plan = s.plan ∧
    (State.henShort s h d c capped).time = s.time ∧ (State.henShort s h d c capped).acts = s.acts ∧
    (State.henShort s h d c capped).fab = s.fab ∧ (State.henShort s h d c capped).flt = s.flt ∧
    (State.henShort s h d c capped).ck = s.ck ∧ (State.henShort s h d c capped).host = s.host ∧
    (State.henShort s h d c capped).trust = s.trust ∧ (State.henShort s h d c capped).cnt = s.cnt := by
  simp [State.henShort]

@[simp] theorem State.gather_frame (s : State) (h : Nat) (d : Nat) :
    (State.gather s h d).pending = s.pending ∧ (State.gather s h d).out = s.out ∧ (State.gather s h d).dev = s.dev ∧
    (State.gather s h d).pwr = s.pwr ∧ (State.gather s h d).time = s.time ∧ (State.gather s h d).acts = s.acts ∧
    (State.gather s h d).fab = s.fab ∧ (State.gather s h d).ck = s.ck ∧ (State.gather s h d).host = s.host := by
  unfold State.gather; dsimp only; split <;> simp

@[simp] theorem State.goatIssue_frame (s : State) (g : Nat) (w : Work) :
    (State.goatIssue s g w).pending = s.pending ∧ (State.goatIssue s g w).out = s.out ∧ (State.goatIssue s g w).dev = s.dev ∧
    (State.goatIssue s g w).pwr = s.pwr ∧ (State.goatIssue s g w).time = s.time ∧ (State.goatIssue s g w).acts = s.acts ∧
    (State.goatIssue s g w).fab = s.fab ∧ (State.goatIssue s g w).ck = s.ck ∧ (State.goatIssue s g w).host = s.host := by
  simp [State.goatIssue]

@[simp] theorem State.goatGo_frame (s : State) (g : Nat) :
    (State.goatGo s g).pending = s.pending ∧ (State.goatGo s g).out = s.out ∧ (State.goatGo s g).dev = s.dev ∧
    (State.goatGo s g).pwr = s.pwr ∧ (State.goatGo s g).time = s.time ∧ (State.goatGo s g).acts = s.acts ∧
    (State.goatGo s g).fab = s.fab ∧ (State.goatGo s g).ck = s.ck ∧ (State.goatGo s g).host = s.host := by
  unfold State.goatGo State.atStep; split <;> simp

@[simp] theorem State.goatPark_frame (s : State) (g : Nat) (w : Work) (ins : List Pat) (planCyc : Nat) (slackCyc : Nat) (statKey : Nat) :
    (State.goatPark s g w ins planCyc slackCyc statKey).pending = s.pending ∧
    (State.goatPark s g w ins planCyc slackCyc statKey).freeIdx = s.freeIdx ∧
    (State.goatPark s g w ins planCyc slackCyc statKey).out = s.out ∧
    (State.goatPark s g w ins planCyc slackCyc statKey).dev = s.dev ∧
    (State.goatPark s g w ins planCyc slackCyc statKey).pwr = s.pwr ∧
    (State.goatPark s g w ins planCyc slackCyc statKey).geo = s.geo ∧
    (State.goatPark s g w ins planCyc slackCyc statKey).mem = s.mem ∧
    (State.goatPark s g w ins planCyc slackCyc statKey).lineErr = s.lineErr ∧
    (State.goatPark s g w ins planCyc slackCyc statKey).pte = s.pte ∧
    (State.goatPark s g w ins planCyc slackCyc statKey).shadowNext = s.shadowNext ∧
    (State.goatPark s g w ins planCyc slackCyc statKey).heldWrites = s.heldWrites ∧
    (State.goatPark s g w ins planCyc slackCyc statKey).plan = s.plan ∧
    (State.goatPark s g w ins planCyc slackCyc statKey).time = s.time ∧
    (State.goatPark s g w ins planCyc slackCyc statKey).acts = s.acts ∧
    (State.goatPark s g w ins planCyc slackCyc statKey).fab = s.fab ∧
    (State.goatPark s g w ins planCyc slackCyc statKey).flt = s.flt ∧
    (State.goatPark s g w ins planCyc slackCyc statKey).ck = s.ck ∧
    (State.goatPark s g w ins planCyc slackCyc statKey).host = s.host ∧
    (State.goatPark s g w ins planCyc slackCyc statKey).trust = s.trust ∧
    (State.goatPark s g w ins planCyc slackCyc statKey).cnt = s.cnt := by
  simp [State.goatPark]

@[simp] theorem State.goatStep_frame (s : State) (g : Nat) (op : Nat) :
    (State.goatStep s g op).pending = s.pending ∧ (State.goatStep s g op).out = s.out ∧ (State.goatStep s g op).dev = s.dev ∧
    (State.goatStep s g op).pwr = s.pwr ∧ (State.goatStep s g op).time = s.time ∧ (State.goatStep s g op).acts = s.acts ∧
    (State.goatStep s g op).fab = s.fab ∧ (State.goatStep s g op).ck = s.ck ∧ (State.goatStep s g op).host = s.host := by
  unfold State.goatStep; dsimp only; split <;> simp

@[simp] theorem State.linkRead_frame (s : State) (p : Nat) (word : Nat) (n : Nat) :
    (State.linkRead s p word n).2.pending = s.pending ∧ (State.linkRead s p word n).2.out = s.out ∧
    (State.linkRead s p word n).2.dev = s.dev ∧ (State.linkRead s p word n).2.pwr = s.pwr ∧
    (State.linkRead s p word n).2.mem = s.mem ∧ (State.linkRead s p word n).2.shadowNext = s.shadowNext ∧
    (State.linkRead s p word n).2.heldWrites = s.heldWrites ∧ (State.linkRead s p word n).2.unit = s.unit ∧
    (State.linkRead s p word n).2.time = s.time ∧ (State.linkRead s p word n).2.acts = s.acts ∧
    (State.linkRead s p word n).2.fab = s.fab ∧ (State.linkRead s p word n).2.ck = s.ck ∧
    (State.linkRead s p word n).2.host = s.host := by
  simp [State.linkRead]

@[simp] theorem State.writeShipped_frame (s : State) :
    (State.writeShipped s).pending = s.pending ∧ (State.writeShipped s).out = s.out ∧ (State.writeShipped s).dev = s.dev ∧
    (State.writeShipped s).pwr = s.pwr ∧ (State.writeShipped s).lineErr = s.lineErr ∧ (State.writeShipped s).pte = s.pte ∧
    (State.writeShipped s).shadowNext = s.shadowNext ∧ (State.writeShipped s).heldWrites = s.heldWrites ∧
    (State.writeShipped s).plan = s.plan ∧ (State.writeShipped s).time = s.time ∧ (State.writeShipped s).acts = s.acts ∧
    (State.writeShipped s).fab = s.fab ∧ (State.writeShipped s).flt = s.flt ∧ (State.writeShipped s).ck = s.ck ∧
    (State.writeShipped s).host = s.host ∧ (State.writeShipped s).trust = s.trust ∧ (State.writeShipped s).cnt = s.cnt := by
  simp [State.writeShipped]

@[simp] theorem State.markLate_frame (s : State) (p : Nat) (c : LinkCmd) (own : Bool) (up : Bool) :
    (State.markLate s p c own up).pending = s.pending ∧ (State.markLate s p c own up).freeIdx = s.freeIdx ∧
    (State.markLate s p c own up).out = s.out ∧ (State.markLate s p c own up).dev = s.dev ∧
    (State.markLate s p c own up).pwr = s.pwr ∧ (State.markLate s p c own up).geo = s.geo ∧
    (State.markLate s p c own up).mem = s.mem ∧ (State.markLate s p c own up).lineErr = s.lineErr ∧
    (State.markLate s p c own up).pte = s.pte ∧ (State.markLate s p c own up).shadowNext = s.shadowNext ∧
    (State.markLate s p c own up).heldWrites = s.heldWrites ∧ (State.markLate s p c own up).unit = s.unit ∧
    (State.markLate s p c own up).time = s.time ∧ (State.markLate s p c own up).acts = s.acts ∧
    (State.markLate s p c own up).fab = s.fab ∧ (State.markLate s p c own up).flt = s.flt ∧
    (State.markLate s p c own up).ck = s.ck ∧ (State.markLate s p c own up).host = s.host ∧
    (State.markLate s p c own up).trust = s.trust := by
  simp [State.markLate]

@[simp] theorem State.timeoutPort_frame (s : State) (p : Nat) :
    (State.timeoutPort s p).pending = s.pending ∧ (State.timeoutPort s p).freeIdx = s.freeIdx ∧
    (State.timeoutPort s p).out = s.out ∧ (State.timeoutPort s p).dev = s.dev ∧ (State.timeoutPort s p).pwr = s.pwr ∧
    (State.timeoutPort s p).geo = s.geo ∧ (State.timeoutPort s p).mem = s.mem ∧ (State.timeoutPort s p).lineErr = s.lineErr ∧
    (State.timeoutPort s p).pte = s.pte ∧ (State.timeoutPort s p).shadowNext = s.shadowNext ∧
    (State.timeoutPort s p).heldWrites = s.heldWrites ∧ (State.timeoutPort s p).unit = s.unit ∧
    (State.timeoutPort s p).plan = s.plan ∧ (State.timeoutPort s p).time = s.time ∧ (State.timeoutPort s p).acts = s.acts ∧
    (State.timeoutPort s p).fab = s.fab ∧ (State.timeoutPort s p).flt = s.flt ∧ (State.timeoutPort s p).ck = s.ck ∧
    (State.timeoutPort s p).trust = s.trust ∧ (State.timeoutPort s p).cnt = s.cnt := by
  simp [State.timeoutPort]

@[simp] theorem State.moveRole_frame (s : State) (mv : Nat × Nat) :
    (State.moveRole s mv).pending = s.pending ∧ (State.moveRole s mv).freeIdx = s.freeIdx ∧ (State.moveRole s mv).out = s.out ∧
    (State.moveRole s mv).dev = s.dev ∧ (State.moveRole s mv).pwr = s.pwr ∧ (State.moveRole s mv).geo = s.geo ∧
    (State.moveRole s mv).mem = s.mem ∧ (State.moveRole s mv).lineErr = s.lineErr ∧ (State.moveRole s mv).pte = s.pte ∧
    (State.moveRole s mv).shadowNext = s.shadowNext ∧ (State.moveRole s mv).heldWrites = s.heldWrites ∧
    (State.moveRole s mv).unit = s.unit ∧ (State.moveRole s mv).plan = s.plan ∧ (State.moveRole s mv).time = s.time ∧
    (State.moveRole s mv).acts = s.acts ∧ (State.moveRole s mv).fab = s.fab ∧ (State.moveRole s mv).ck = s.ck := by
  simp [State.moveRole]

@[simp] theorem State.noteClampCause_frame (s : State) :
    (State.noteClampCause s).pending = s.pending ∧ (State.noteClampCause s).freeIdx = s.freeIdx ∧
    (State.noteClampCause s).out = s.out ∧ (State.noteClampCause s).dev = s.dev ∧ (State.noteClampCause s).geo = s.geo ∧
    (State.noteClampCause s).mem = s.mem ∧ (State.noteClampCause s).lineErr = s.lineErr ∧ (State.noteClampCause s).pte = s.pte ∧
    (State.noteClampCause s).shadowNext = s.shadowNext ∧ (State.noteClampCause s).heldWrites = s.heldWrites ∧
    (State.noteClampCause s).unit = s.unit ∧ (State.noteClampCause s).plan = s.plan ∧ (State.noteClampCause s).time = s.time ∧
    (State.noteClampCause s).acts = s.acts ∧ (State.noteClampCause s).fab = s.fab ∧ (State.noteClampCause s).flt = s.flt ∧
    (State.noteClampCause s).ck = s.ck ∧ (State.noteClampCause s).host = s.host ∧ (State.noteClampCause s).trust = s.trust ∧
    (State.noteClampCause s).cnt = s.cnt := by
  simp [State.noteClampCause]

@[simp] theorem State.noteLate_frame (s : State) (p : Nat) (d : Nat) (c : LinkCmd) :
    (State.noteLate s p d c).pending = s.pending ∧ (State.noteLate s p d c).freeIdx = s.freeIdx ∧
    (State.noteLate s p d c).out = s.out ∧ (State.noteLate s p d c).dev = s.dev ∧ (State.noteLate s p d c).pwr = s.pwr ∧
    (State.noteLate s p d c).geo = s.geo ∧ (State.noteLate s p d c).mem = s.mem ∧ (State.noteLate s p d c).lineErr = s.lineErr ∧
    (State.noteLate s p d c).pte = s.pte ∧ (State.noteLate s p d c).shadowNext = s.shadowNext ∧
    (State.noteLate s p d c).heldWrites = s.heldWrites ∧ (State.noteLate s p d c).unit = s.unit ∧
    (State.noteLate s p d c).time = s.time ∧ (State.noteLate s p d c).acts = s.acts ∧ (State.noteLate s p d c).fab = s.fab ∧
    (State.noteLate s p d c).flt = s.flt ∧ (State.noteLate s p d c).ck = s.ck ∧ (State.noteLate s p d c).host = s.host ∧
    (State.noteLate s p d c).trust = s.trust ∧ (State.noteLate s p d c).cnt = s.cnt := by
  simp [State.noteLate]

@[simp] theorem State.passOn_frame (s : State) (w : Nat) (m : LinkMsg) :
    (State.passOn s w m).pending = s.pending ∧ (State.passOn s w m).freeIdx = s.freeIdx ∧ (State.passOn s w m).dev = s.dev ∧
    (State.passOn s w m).pwr = s.pwr ∧ (State.passOn s w m).geo = s.geo ∧ (State.passOn s w m).mem = s.mem ∧
    (State.passOn s w m).lineErr = s.lineErr ∧ (State.passOn s w m).pte = s.pte ∧ (State.passOn s w m).shadowNext = s.shadowNext ∧
    (State.passOn s w m).heldWrites = s.heldWrites ∧ (State.passOn s w m).unit = s.unit ∧ (State.passOn s w m).plan = s.plan ∧
    (State.passOn s w m).time = s.time ∧ (State.passOn s w m).acts = s.acts ∧ (State.passOn s w m).flt = s.flt ∧
    (State.passOn s w m).ck = s.ck ∧ (State.passOn s w m).host = s.host ∧ (State.passOn s w m).trust = s.trust := by
  simp [State.passOn]

@[simp] theorem State.passExpert_frame (s : State) (w : Nat) (lane : Nat) (src : Nat) (data : List Byte) :
    (State.passExpert s w lane src data).pending = s.pending ∧ (State.passExpert s w lane src data).freeIdx = s.freeIdx ∧
    (State.passExpert s w lane src data).dev = s.dev ∧ (State.passExpert s w lane src data).pwr = s.pwr ∧
    (State.passExpert s w lane src data).geo = s.geo ∧ (State.passExpert s w lane src data).mem = s.mem ∧
    (State.passExpert s w lane src data).lineErr = s.lineErr ∧ (State.passExpert s w lane src data).pte = s.pte ∧
    (State.passExpert s w lane src data).shadowNext = s.shadowNext ∧
    (State.passExpert s w lane src data).heldWrites = s.heldWrites ∧ (State.passExpert s w lane src data).unit = s.unit ∧
    (State.passExpert s w lane src data).plan = s.plan ∧ (State.passExpert s w lane src data).time = s.time ∧
    (State.passExpert s w lane src data).acts = s.acts ∧ (State.passExpert s w lane src data).flt = s.flt ∧
    (State.passExpert s w lane src data).ck = s.ck ∧ (State.passExpert s w lane src data).host = s.host ∧
    (State.passExpert s w lane src data).trust = s.trust := by
  simp [State.passExpert]

@[simp] theorem State.powerOffSite_frame (s : State) (pos : Nat) :
    (State.powerOffSite s pos).pending = s.pending ∧ (State.powerOffSite s pos).freeIdx = s.freeIdx ∧
    (State.powerOffSite s pos).out = s.out ∧ (State.powerOffSite s pos).dev = s.dev ∧ (State.powerOffSite s pos).pwr = s.pwr ∧
    (State.powerOffSite s pos).mem = s.mem ∧ (State.powerOffSite s pos).lineErr = s.lineErr ∧
    (State.powerOffSite s pos).pte = s.pte ∧ (State.powerOffSite s pos).shadowNext = s.shadowNext ∧
    (State.powerOffSite s pos).heldWrites = s.heldWrites ∧ (State.powerOffSite s pos).unit = s.unit ∧
    (State.powerOffSite s pos).plan = s.plan ∧ (State.powerOffSite s pos).time = s.time ∧
    (State.powerOffSite s pos).acts = s.acts ∧ (State.powerOffSite s pos).fab = s.fab ∧ (State.powerOffSite s pos).flt = s.flt ∧
    (State.powerOffSite s pos).ck = s.ck ∧ (State.powerOffSite s pos).host = s.host ∧ (State.powerOffSite s pos).trust = s.trust ∧
    (State.powerOffSite s pos).cnt = s.cnt := by
  simp [State.powerOffSite]

@[simp] theorem State.putGrec_frame (s : State) (g : Nat) (c : UpdCmd) (k : GroupScalars) :
    (State.putGrec s g c k).pending = s.pending ∧ (State.putGrec s g c k).freeIdx = s.freeIdx ∧
    (State.putGrec s g c k).out = s.out ∧ (State.putGrec s g c k).dev = s.dev ∧ (State.putGrec s g c k).pwr = s.pwr ∧
    (State.putGrec s g c k).geo = s.geo ∧ (State.putGrec s g c k).lineErr = s.lineErr ∧ (State.putGrec s g c k).pte = s.pte ∧
    (State.putGrec s g c k).shadowNext = s.shadowNext ∧ (State.putGrec s g c k).heldWrites = s.heldWrites ∧
    (State.putGrec s g c k).unit = s.unit ∧ (State.putGrec s g c k).plan = s.plan ∧ (State.putGrec s g c k).time = s.time ∧
    (State.putGrec s g c k).acts = s.acts ∧ (State.putGrec s g c k).fab = s.fab ∧ (State.putGrec s g c k).flt = s.flt ∧
    (State.putGrec s g c k).ck = s.ck ∧ (State.putGrec s g c k).host = s.host ∧ (State.putGrec s g c k).trust = s.trust ∧
    (State.putGrec s g c k).cnt = s.cnt := by
  simp [State.putGrec]

@[simp] theorem State.recvAnswer_frame (s : State) (link : Nat) (data : List Byte) :
    (State.recvAnswer s link data).pending = s.pending ∧ (State.recvAnswer s link data).out = s.out ∧
    (State.recvAnswer s link data).dev = s.dev ∧ (State.recvAnswer s link data).pwr = s.pwr ∧
    (State.recvAnswer s link data).unit = s.unit ∧ (State.recvAnswer s link data).time = s.time ∧
    (State.recvAnswer s link data).acts = s.acts ∧ (State.recvAnswer s link data).fab = s.fab ∧
    (State.recvAnswer s link data).ck = s.ck ∧ (State.recvAnswer s link data).host = s.host := by
  unfold State.recvAnswer; dsimp only; (repeat' split) <;> simp

@[simp] theorem State.replay_frame (s : State) (p : Nat) :
    (State.replay s p).pending = s.pending ∧ (State.replay s p).freeIdx = s.freeIdx ∧ (State.replay s p).dev = s.dev ∧
    (State.replay s p).pwr = s.pwr ∧ (State.replay s p).geo = s.geo ∧ (State.replay s p).mem = s.mem ∧
    (State.replay s p).lineErr = s.lineErr ∧ (State.replay s p).pte = s.pte ∧ (State.replay s p).shadowNext = s.shadowNext ∧
    (State.replay s p).heldWrites = s.heldWrites ∧ (State.replay s p).unit = s.unit ∧ (State.replay s p).plan = s.plan ∧
    (State.replay s p).time = s.time ∧ (State.replay s p).acts = s.acts ∧ (State.replay s p).fab = s.fab ∧
    (State.replay s p).flt = s.flt ∧ (State.replay s p).ck = s.ck ∧ (State.replay s p).host = s.host ∧
    (State.replay s p).trust = s.trust ∧ (State.replay s p).cnt = s.cnt := by
  simp [State.replay]

@[simp] theorem State.resetBox_frame (s : State) (p : Nat) (m : Nat) :
    (State.resetBox s p m).pending = s.pending ∧ (State.resetBox s p m).freeIdx = s.freeIdx ∧ (State.resetBox s p m).out = s.out ∧
    (State.resetBox s p m).dev = s.dev ∧ (State.resetBox s p m).pwr = s.pwr ∧ (State.resetBox s p m).geo = s.geo ∧
    (State.resetBox s p m).mem = s.mem ∧ (State.resetBox s p m).lineErr = s.lineErr ∧ (State.resetBox s p m).pte = s.pte ∧
    (State.resetBox s p m).shadowNext = s.shadowNext ∧ (State.resetBox s p m).heldWrites = s.heldWrites ∧
    (State.resetBox s p m).unit = s.unit ∧ (State.resetBox s p m).plan = s.plan ∧ (State.resetBox s p m).time = s.time ∧
    (State.resetBox s p m).acts = s.acts ∧ (State.resetBox s p m).fab = s.fab ∧ (State.resetBox s p m).flt = s.flt ∧
    (State.resetBox s p m).ck = s.ck ∧ (State.resetBox s p m).trust = s.trust ∧ (State.resetBox s p m).cnt = s.cnt := by
  simp [State.resetBox]

@[simp] theorem State.resetPort_frame (s : State) (p : Nat) :
    (State.resetPort s p).pending = s.pending ∧ (State.resetPort s p).freeIdx = s.freeIdx ∧ (State.resetPort s p).out = s.out ∧
    (State.resetPort s p).dev = s.dev ∧ (State.resetPort s p).pwr = s.pwr ∧ (State.resetPort s p).geo = s.geo ∧
    (State.resetPort s p).mem = s.mem ∧ (State.resetPort s p).lineErr = s.lineErr ∧ (State.resetPort s p).pte = s.pte ∧
    (State.resetPort s p).shadowNext = s.shadowNext ∧ (State.resetPort s p).heldWrites = s.heldWrites ∧
    (State.resetPort s p).unit = s.unit ∧ (State.resetPort s p).plan = s.plan ∧ (State.resetPort s p).time = s.time ∧
    (State.resetPort s p).acts = s.acts ∧ (State.resetPort s p).fab = s.fab ∧ (State.resetPort s p).flt = s.flt ∧
    (State.resetPort s p).ck = s.ck ∧ (State.resetPort s p).trust = s.trust ∧ (State.resetPort s p).cnt = s.cnt := by
  simp [State.resetPort]

@[simp] theorem State.clearStatusWords_frame (s : State) :
    (State.clearStatusWords s).pending = s.pending ∧ (State.clearStatusWords s).freeIdx = s.freeIdx ∧ (State.clearStatusWords s).out = s.out ∧
    (State.clearStatusWords s).dev = s.dev ∧ (State.clearStatusWords s).pwr = s.pwr ∧ (State.clearStatusWords s).geo = s.geo ∧
    (State.clearStatusWords s).mem = s.mem ∧ (State.clearStatusWords s).lineErr = s.lineErr ∧ (State.clearStatusWords s).pte = s.pte ∧
    (State.clearStatusWords s).shadowNext = s.shadowNext ∧ (State.clearStatusWords s).heldWrites = s.heldWrites ∧
    (State.clearStatusWords s).unit = s.unit ∧ (State.clearStatusWords s).plan = s.plan ∧ (State.clearStatusWords s).time = s.time ∧
    (State.clearStatusWords s).acts = s.acts ∧ (State.clearStatusWords s).fab = s.fab ∧ (State.clearStatusWords s).flt = s.flt ∧
    (State.clearStatusWords s).ck = s.ck ∧ (State.clearStatusWords s).trust = s.trust ∧ (State.clearStatusWords s).cnt = s.cnt := by
  simp [State.clearStatusWords]

@[simp] theorem State.respond_frame (s : State) (p : Nat) (tag : Nat) (result : Nat) :
    (State.respond s p tag result).pending = s.pending ∧ (State.respond s p tag result).freeIdx = s.freeIdx ∧
    (State.respond s p tag result).out = s.out ∧ (State.respond s p tag result).dev = s.dev ∧
    (State.respond s p tag result).pwr = s.pwr ∧ (State.respond s p tag result).geo = s.geo ∧
    (State.respond s p tag result).mem = s.mem ∧ (State.respond s p tag result).lineErr = s.lineErr ∧
    (State.respond s p tag result).pte = s.pte ∧ (State.respond s p tag result).shadowNext = s.shadowNext ∧
    (State.respond s p tag result).heldWrites = s.heldWrites ∧ (State.respond s p tag result).unit = s.unit ∧
    (State.respond s p tag result).plan = s.plan ∧ (State.respond s p tag result).time = s.time ∧
    (State.respond s p tag result).acts = s.acts ∧ (State.respond s p tag result).fab = s.fab ∧
    (State.respond s p tag result).ck = s.ck ∧ (State.respond s p tag result).host = s.host ∧
    (State.respond s p tag result).trust = s.trust := by
  simp [State.respond]

@[simp] theorem State.setSide_frame (s : State) (g : Nat) (i : Nat) (e : SideEntry) :
    (State.setSide s g i e).pending = s.pending ∧ (State.setSide s g i e).freeIdx = s.freeIdx ∧
    (State.setSide s g i e).out = s.out ∧ (State.setSide s g i e).dev = s.dev ∧ (State.setSide s g i e).pwr = s.pwr ∧
    (State.setSide s g i e).geo = s.geo ∧ (State.setSide s g i e).mem = s.mem ∧ (State.setSide s g i e).lineErr = s.lineErr ∧
    (State.setSide s g i e).pte = s.pte ∧ (State.setSide s g i e).shadowNext = s.shadowNext ∧
    (State.setSide s g i e).heldWrites = s.heldWrites ∧ (State.setSide s g i e).plan = s.plan ∧
    (State.setSide s g i e).time = s.time ∧ (State.setSide s g i e).acts = s.acts ∧ (State.setSide s g i e).fab = s.fab ∧
    (State.setSide s g i e).flt = s.flt ∧ (State.setSide s g i e).ck = s.ck ∧ (State.setSide s g i e).host = s.host ∧
    (State.setSide s g i e).trust = s.trust ∧ (State.setSide s g i e).cnt = s.cnt := by
  simp [State.setSide]

@[simp] theorem State.rowIssue_frame (s : State) (g : Nat) (wk : Work) :
    (State.rowIssue s g wk).pending = s.pending ∧ (State.rowIssue s g wk).out = s.out ∧ (State.rowIssue s g wk).dev = s.dev ∧
    (State.rowIssue s g wk).pwr = s.pwr ∧ (State.rowIssue s g wk).time = s.time ∧ (State.rowIssue s g wk).acts = s.acts ∧
    (State.rowIssue s g wk).fab = s.fab ∧ (State.rowIssue s g wk).ck = s.ck ∧ (State.rowIssue s g wk).host = s.host := by
  simp [State.rowIssue, apply_ite DrainOut.state]

@[simp] theorem State.rowGo_frame (s : State) (g : Nat) :
    (State.rowGo s g).pending = s.pending ∧ (State.rowGo s g).out = s.out ∧ (State.rowGo s g).dev = s.dev ∧
    (State.rowGo s g).pwr = s.pwr ∧ (State.rowGo s g).time = s.time ∧ (State.rowGo s g).acts = s.acts ∧
    (State.rowGo s g).fab = s.fab ∧ (State.rowGo s g).ck = s.ck ∧ (State.rowGo s g).host = s.host := by
  unfold State.rowGo; split <;> simp

@[simp] theorem State.updStart_frame (s : State) :
    (State.updStart s).state.pending = s.pending ∧ (State.updStart s).state.freeIdx = s.freeIdx ∧
    (State.updStart s).state.out = s.out ∧ (State.updStart s).state.dev = s.dev ∧ (State.updStart s).state.pwr = s.pwr ∧
    (State.updStart s).state.geo = s.geo ∧ (State.updStart s).state.mem = s.mem ∧ (State.updStart s).state.lineErr = s.lineErr ∧
    (State.updStart s).state.pte = s.pte ∧ (State.updStart s).state.shadowNext = s.shadowNext ∧
    (State.updStart s).state.heldWrites = s.heldWrites ∧ (State.updStart s).state.unit = s.unit ∧
    (State.updStart s).state.plan = s.plan ∧ (State.updStart s).state.time = s.time ∧ (State.updStart s).state.acts = s.acts ∧
    (State.updStart s).state.fab = s.fab ∧ (State.updStart s).state.flt = s.flt ∧ (State.updStart s).state.ck = s.ck ∧
    (State.updStart s).state.host = s.host ∧ (State.updStart s).state.trust = s.trust ∧ (State.updStart s).state.cnt = s.cnt := by
  simp [State.updStart]

@[simp] theorem State.updSuppress_frame (s : State) (g : Nat) (w : Work) :
    (State.updSuppress s g w).pending = s.pending ∧ (State.updSuppress s g w).freeIdx = s.freeIdx ∧
    (State.updSuppress s g w).out = s.out ∧ (State.updSuppress s g w).dev = s.dev ∧ (State.updSuppress s g w).pwr = s.pwr ∧
    (State.updSuppress s g w).geo = s.geo ∧ (State.updSuppress s g w).mem = s.mem ∧
    (State.updSuppress s g w).lineErr = s.lineErr ∧ (State.updSuppress s g w).pte = s.pte ∧
    (State.updSuppress s g w).shadowNext = s.shadowNext ∧ (State.updSuppress s g w).heldWrites = s.heldWrites ∧
    (State.updSuppress s g w).plan = s.plan ∧ (State.updSuppress s g w).time = s.time ∧ (State.updSuppress s g w).acts = s.acts ∧
    (State.updSuppress s g w).fab = s.fab ∧ (State.updSuppress s g w).flt = s.flt ∧ (State.updSuppress s g w).ck = s.ck ∧
    (State.updSuppress s g w).host = s.host ∧ (State.updSuppress s g w).trust = s.trust ∧ (State.updSuppress s g w).cnt = s.cnt := by
  simp [State.updSuppress]

theorem UpdOut.mk_state (s : State) (c : DrainCounts) (o : List (Nat × Nat)) (b k : Nat) : (UpdOut.mk s c o b k).state = s := rfl

theorem UpdOut.emit_eq (a : UpdOut) (g : Nat) (c : UpdCmd) (e : Coef) (pat : Nat) (o : Nat) (els : Pat → List OutEl) :
    UpdOut.emit a g c e pat o els = UpdOut.mk
     (a.state.drainEls g (a.state.pat g pat) false { key := e.rkey ^^^ o, layer := c.layer, mbatch := c.mbatch } (els (a.state.pat g pat))).state
     (a.counts.join (a.state.drainEls g (a.state.pat g pat) false { key := e.rkey ^^^ o, layer := c.layer, mbatch := c.mbatch } (els (a.state.pat g pat))).counts)
     (a.outs ++ (a.state.drainEls g (a.state.pat g pat) false { key := e.rkey ^^^ o, layer := c.layer, mbatch := c.mbatch } (els (a.state.pat g pat))).outs) a.blocks a.clipped := by unfold UpdOut.emit; exact rfl

theorem UpdOut.emit_state (a : UpdOut) (g : Nat) (c : UpdCmd) (e : Coef) (pat : Nat) (o : Nat) (els : Pat → List OutEl) : (UpdOut.emit a g c e pat o els).state = (a.state.drainEls g (a.state.pat g pat) false { key := e.rkey ^^^ o, layer := c.layer, mbatch := c.mbatch } (els (a.state.pat g pat))).state := (congrArg UpdOut.state (UpdOut.emit_eq a g c e pat o els)).trans (UpdOut.mk_state _ _ _ _ _)

theorem foldl_upd_keeps {α β : Type} (p : State → α) (f : UpdOut → β → UpdOut) (h : ∀ s a, Keeps p s.state (f s a).state) (l : List β)
    (s : UpdOut) : Keeps p s.state (l.foldl f s).state := by
  induction l generalizing s with
  | nil => rfl
  | cons a l ih => exact (ih (f s a)).trans (h s a)

@[simp] theorem foldl_upd_pending {β : Type} (f : UpdOut → β → UpdOut) (h : ∀ s a, Keeps State.pending s.state (f s a).state) (l : List β)
    (s : UpdOut) : (l.foldl f s).state.pending = s.state.pending := foldl_upd_keeps State.pending f h l s

@[simp] theorem foldl_upd_out {β : Type} (f : UpdOut → β → UpdOut) (h : ∀ s a, Keeps State.out s.state (f s a).state) (l : List β)
    (s : UpdOut) : (l.foldl f s).state.out = s.state.out := foldl_upd_keeps State.out f h l s

@[simp] theorem foldl_upd_dev {β : Type} (f : UpdOut → β → UpdOut) (h : ∀ s a, Keeps State.dev s.state (f s a).state) (l : List β)
    (s : UpdOut) : (l.foldl f s).state.dev = s.state.dev := foldl_upd_keeps State.dev f h l s

@[simp] theorem foldl_upd_pwr {β : Type} (f : UpdOut → β → UpdOut) (h : ∀ s a, Keeps State.pwr s.state (f s a).state) (l : List β)
    (s : UpdOut) : (l.foldl f s).state.pwr = s.state.pwr := foldl_upd_keeps State.pwr f h l s

@[simp] theorem foldl_upd_time {β : Type} (f : UpdOut → β → UpdOut) (h : ∀ s a, Keeps State.time s.state (f s a).state) (l : List β)
    (s : UpdOut) : (l.foldl f s).state.time = s.state.time := foldl_upd_keeps State.time f h l s

@[simp] theorem foldl_upd_acts {β : Type} (f : UpdOut → β → UpdOut) (h : ∀ s a, Keeps State.acts s.state (f s a).state) (l : List β)
    (s : UpdOut) : (l.foldl f s).state.acts = s.state.acts := foldl_upd_keeps State.acts f h l s

@[simp] theorem foldl_upd_fab {β : Type} (f : UpdOut → β → UpdOut) (h : ∀ s a, Keeps State.fab s.state (f s a).state) (l : List β)
    (s : UpdOut) : (l.foldl f s).state.fab = s.state.fab := foldl_upd_keeps State.fab f h l s

@[simp] theorem foldl_upd_ck {β : Type} (f : UpdOut → β → UpdOut) (h : ∀ s a, Keeps State.ck s.state (f s a).state) (l : List β)
    (s : UpdOut) : (l.foldl f s).state.ck = s.state.ck := foldl_upd_keeps State.ck f h l s

@[simp] theorem foldl_upd_host {β : Type} (f : UpdOut → β → UpdOut) (h : ∀ s a, Keeps State.host s.state (f s a).state) (l : List β)
    (s : UpdOut) : (l.foldl f s).state.host = s.state.host := foldl_upd_keeps State.host f h l s

@[simp] theorem UpdOut.emit_frame (a : UpdOut) (g : Nat) (c : UpdCmd) (e : Coef) (pat : Nat) (o : Nat) (els : Pat → List OutEl) :
    (UpdOut.emit a g c e pat o els).state.pending = a.state.pending ∧ (UpdOut.emit a g c e pat o els).state.out = a.state.out ∧
    (UpdOut.emit a g c e pat o els).state.dev = a.state.dev ∧ (UpdOut.emit a g c e pat o els).state.pwr = a.state.pwr ∧
    (UpdOut.emit a g c e pat o els).state.time = a.state.time ∧ (UpdOut.emit a g c e pat o els).state.acts = a.state.acts ∧
    (UpdOut.emit a g c e pat o els).state.fab = a.state.fab ∧ (UpdOut.emit a g c e pat o els).state.ck = a.state.ck ∧
    (UpdOut.emit a g c e pat o els).state.host = a.state.host := by
  rw [UpdOut.emit_state]; exact State.drainEls_frame _ _ _ _ _ _

@[simp] theorem State.updNan_frame (s : State) (g : Nat) (c : UpdCmd) (e : Coef) :
    (State.updNan s g c e).state.pending = s.pending ∧ (State.updNan s g c e).state.out = s.out ∧
    (State.updNan s g c e).state.dev = s.dev ∧ (State.updNan s g c e).state.pwr = s.pwr ∧
    (State.updNan s g c e).state.time = s.time ∧ (State.updNan s g c e).state.acts = s.acts ∧
    (State.updNan s g c e).state.fab = s.fab ∧ (State.updNan s g c e).state.ck = s.ck ∧
    (State.updNan s g c e).state.host = s.host := by
  simp [State.updNan]

@[simp] theorem State.updStats_frame (s : State) (g : Nat) (c : UpdCmd) (e : Coef) :
    (State.updStats s g c e).state.pending = s.pending ∧ (State.updStats s g c e).state.out = s.out ∧
    (State.updStats s g c e).state.dev = s.dev ∧ (State.updStats s g c e).state.pwr = s.pwr ∧
    (State.updStats s g c e).state.time = s.time ∧ (State.updStats s g c e).state.acts = s.acts ∧
    (State.updStats s g c e).state.fab = s.fab ∧ (State.updStats s g c e).state.ck = s.ck ∧
    (State.updStats s g c e).state.host = s.host := by
  simp [State.updStats]

@[simp] theorem State.updFact_frame (s : State) (g : Nat) (c : UpdCmd) (e : Coef) :
    (State.updFact s g c e).state.pending = s.pending ∧ (State.updFact s g c e).state.out = s.out ∧
    (State.updFact s g c e).state.dev = s.dev ∧ (State.updFact s g c e).state.pwr = s.pwr ∧
    (State.updFact s g c e).state.time = s.time ∧ (State.updFact s g c e).state.acts = s.acts ∧
    (State.updFact s g c e).state.fab = s.fab ∧ (State.updFact s g c e).state.ck = s.ck ∧
    (State.updFact s g c e).state.host = s.host := by
  unfold State.updFact; dsimp only; split <;> simp

@[simp] theorem State.updUsum_frame (s : State) (g : Nat) (c : UpdCmd) (e : Coef) (k : GroupScalars) :
    (State.updUsum s g c e k).state.pending = s.pending ∧ (State.updUsum s g c e k).state.freeIdx = s.freeIdx ∧
    (State.updUsum s g c e k).state.out = s.out ∧ (State.updUsum s g c e k).state.dev = s.dev ∧
    (State.updUsum s g c e k).state.pwr = s.pwr ∧ (State.updUsum s g c e k).state.geo = s.geo ∧
    (State.updUsum s g c e k).state.lineErr = s.lineErr ∧ (State.updUsum s g c e k).state.pte = s.pte ∧
    (State.updUsum s g c e k).state.shadowNext = s.shadowNext ∧ (State.updUsum s g c e k).state.heldWrites = s.heldWrites ∧
    (State.updUsum s g c e k).state.unit = s.unit ∧ (State.updUsum s g c e k).state.plan = s.plan ∧
    (State.updUsum s g c e k).state.time = s.time ∧ (State.updUsum s g c e k).state.acts = s.acts ∧
    (State.updUsum s g c e k).state.fab = s.fab ∧ (State.updUsum s g c e k).state.flt = s.flt ∧
    (State.updUsum s g c e k).state.ck = s.ck ∧ (State.updUsum s g c e k).state.host = s.host ∧
    (State.updUsum s g c e k).state.trust = s.trust ∧ (State.updUsum s g c e k).state.cnt = s.cnt := by
  simp [State.updUsum]

@[simp] theorem State.updApply_frame (s : State) (g : Nat) (c : UpdCmd) (e : Coef) (k : GroupScalars) :
    (State.updApply s g c e k).state.pending = s.pending ∧ (State.updApply s g c e k).state.out = s.out ∧
    (State.updApply s g c e k).state.dev = s.dev ∧ (State.updApply s g c e k).state.pwr = s.pwr ∧
    (State.updApply s g c e k).state.time = s.time ∧ (State.updApply s g c e k).state.acts = s.acts ∧
    (State.updApply s g c e k).state.fab = s.fab ∧ (State.updApply s g c e k).state.ck = s.ck ∧
    (State.updApply s g c e k).state.host = s.host := by
  simp [State.updApply]

@[simp] theorem State.updCast_frame (s : State) (g : Nat) (c : UpdCmd) (e : Coef) :
    (State.updCast s g c e).state.pending = s.pending ∧ (State.updCast s g c e).state.out = s.out ∧
    (State.updCast s g c e).state.dev = s.dev ∧ (State.updCast s g c e).state.pwr = s.pwr ∧
    (State.updCast s g c e).state.time = s.time ∧ (State.updCast s g c e).state.acts = s.acts ∧
    (State.updCast s g c e).state.fab = s.fab ∧ (State.updCast s g c e).state.ck = s.ck ∧
    (State.updCast s g c e).state.host = s.host := by
  simp [State.updCast]

@[simp] theorem State.updRun_frame (s : State) (g : Nat) (c : UpdCmd) (e : Coef) (k : GroupScalars) :
    (State.updRun s g c e k).state.pending = s.pending ∧ (State.updRun s g c e k).state.out = s.out ∧
    (State.updRun s g c e k).state.dev = s.dev ∧ (State.updRun s g c e k).state.pwr = s.pwr ∧
    (State.updRun s g c e k).state.time = s.time ∧ (State.updRun s g c e k).state.acts = s.acts ∧
    (State.updRun s g c e k).state.fab = s.fab ∧ (State.updRun s g c e k).state.ck = s.ck ∧
    (State.updRun s g c e k).state.host = s.host := by
  unfold State.updRun; split <;> simp

@[simp] theorem State.updIssue_frame (s : State) (g : Nat) (w : Work) :
    (State.updIssue s g w).pending = s.pending ∧ (State.updIssue s g w).out = s.out ∧ (State.updIssue s g w).dev = s.dev ∧
    (State.updIssue s g w).pwr = s.pwr ∧ (State.updIssue s g w).time = s.time ∧ (State.updIssue s g w).acts = s.acts ∧
    (State.updIssue s g w).fab = s.fab ∧ (State.updIssue s g w).ck = s.ck ∧ (State.updIssue s g w).host = s.host := by
  unfold State.updIssue; dsimp only; (repeat' split) <;> simp

@[simp] theorem State.updGo_frame (s : State) (g : Nat) :
    (State.updGo s g).pending = s.pending ∧ (State.updGo s g).out = s.out ∧ (State.updGo s g).dev = s.dev ∧
    (State.updGo s g).pwr = s.pwr ∧ (State.updGo s g).time = s.time ∧ (State.updGo s g).acts = s.acts ∧
    (State.updGo s g).fab = s.fab ∧ (State.updGo s g).ck = s.ck ∧ (State.updGo s g).host = s.host := by
  unfold State.updGo State.atStep; split <;> simp

@[simp] theorem State.resumeGoat_frame (s : State) (g : Nat) :
    (State.resumeGoat s g).pending = s.pending ∧ (State.resumeGoat s g).out = s.out ∧ (State.resumeGoat s g).dev = s.dev ∧
    (State.resumeGoat s g).pwr = s.pwr ∧ (State.resumeGoat s g).time = s.time ∧ (State.resumeGoat s g).acts = s.acts ∧
    (State.resumeGoat s g).fab = s.fab ∧ (State.resumeGoat s g).ck = s.ck ∧ (State.resumeGoat s g).host = s.host := by
  unfold State.resumeGoat; dsimp only; split <;> simp

@[simp] theorem State.retrain_frame (s : State) (p : Nat) :
    (State.retrain s p).pending = s.pending ∧ (State.retrain s p).freeIdx = s.freeIdx ∧ (State.retrain s p).out = s.out ∧
    (State.retrain s p).dev = s.dev ∧ (State.retrain s p).pwr = s.pwr ∧ (State.retrain s p).geo = s.geo ∧
    (State.retrain s p).mem = s.mem ∧ (State.retrain s p).lineErr = s.lineErr ∧ (State.retrain s p).pte = s.pte ∧
    (State.retrain s p).shadowNext = s.shadowNext ∧ (State.retrain s p).heldWrites = s.heldWrites ∧
    (State.retrain s p).unit = s.unit ∧ (State.retrain s p).plan = s.plan ∧ (State.retrain s p).time = s.time ∧
    (State.retrain s p).acts = s.acts ∧ (State.retrain s p).flt = s.flt ∧ (State.retrain s p).ck = s.ck ∧
    (State.retrain s p).host = s.host ∧ (State.retrain s p).trust = s.trust := by
  simp [State.retrain]

@[simp] theorem State.takeDevice_frame (s : State) (b : Tab Byte) :
    (State.takeDevice s b).pending = s.pending ∧ (State.takeDevice s b).freeIdx = s.freeIdx ∧ (State.takeDevice s b).out = s.out ∧
    (State.takeDevice s b).dev = s.dev ∧ (State.takeDevice s b).pwr = s.pwr ∧ (State.takeDevice s b).geo = s.geo ∧
    (State.takeDevice s b).mem = s.mem ∧ (State.takeDevice s b).lineErr = s.lineErr ∧ (State.takeDevice s b).pte = s.pte ∧
    (State.takeDevice s b).shadowNext = s.shadowNext ∧ (State.takeDevice s b).heldWrites = s.heldWrites ∧
    (State.takeDevice s b).unit = s.unit ∧ (State.takeDevice s b).time = s.time ∧ (State.takeDevice s b).acts = s.acts ∧
    (State.takeDevice s b).fab = s.fab ∧ (State.takeDevice s b).flt = s.flt ∧ (State.takeDevice s b).ck = s.ck ∧
    (State.takeDevice s b).host = s.host ∧ (State.takeDevice s b).trust = s.trust ∧ (State.takeDevice s b).cnt = s.cnt := by
  simp [State.takeDevice]

@[simp] theorem State.rewindRollouts_frame (s : State) :
    (State.rewindRollouts s).pending = s.pending ∧ (State.rewindRollouts s).out = s.out ∧ (State.rewindRollouts s).dev = s.dev ∧
    (State.rewindRollouts s).pwr = s.pwr ∧ (State.rewindRollouts s).unit = s.unit ∧ (State.rewindRollouts s).time = s.time ∧
    (State.rewindRollouts s).fab = s.fab ∧ (State.rewindRollouts s).ck = s.ck ∧ (State.rewindRollouts s).host = s.host := by
  simp [State.rewindRollouts]

@[simp] theorem State.returnTo_frame (s : State) (b : Tab Byte) :
    (State.returnTo s b).pending = s.pending ∧ (State.returnTo s b).out = s.out ∧ (State.returnTo s b).pwr = s.pwr ∧
    (State.returnTo s b).time = s.time ∧ (State.returnTo s b).fab = s.fab ∧ (State.returnTo s b).host = s.host := by
  simp [State.returnTo]

@[simp] theorem State.revokeSlot_frame (s : State) (k : Nat) :
    (State.revokeSlot s k).pending = s.pending ∧ (State.revokeSlot s k).freeIdx = s.freeIdx ∧ (State.revokeSlot s k).out = s.out ∧
    (State.revokeSlot s k).dev = s.dev ∧ (State.revokeSlot s k).pwr = s.pwr ∧ (State.revokeSlot s k).geo = s.geo ∧
    (State.revokeSlot s k).mem = s.mem ∧ (State.revokeSlot s k).lineErr = s.lineErr ∧ (State.revokeSlot s k).pte = s.pte ∧
    (State.revokeSlot s k).shadowNext = s.shadowNext ∧ (State.revokeSlot s k).heldWrites = s.heldWrites ∧
    (State.revokeSlot s k).unit = s.unit ∧ (State.revokeSlot s k).plan = s.plan ∧ (State.revokeSlot s k).time = s.time ∧
    (State.revokeSlot s k).acts = s.acts ∧ (State.revokeSlot s k).fab = s.fab ∧ (State.revokeSlot s k).flt = s.flt ∧
    (State.revokeSlot s k).ck = s.ck ∧ (State.revokeSlot s k).host = s.host ∧ (State.revokeSlot s k).cnt = s.cnt := by
  simp [State.revokeSlot]

@[simp] theorem State.route_frame (s : State) (h : Nat) (d : Nat) :
    (State.route s h d).pending = s.pending ∧ (State.route s h d).out = s.out ∧ (State.route s h d).dev = s.dev ∧
    (State.route s h d).pwr = s.pwr ∧ (State.route s h d).time = s.time ∧ (State.route s h d).acts = s.acts ∧
    (State.route s h d).fab = s.fab ∧ (State.route s h d).ck = s.ck ∧ (State.route s h d).host = s.host := by
  simp [State.route]

@[simp] theorem State.rowOp_frame (s : State) (g : Nat) (rop : Nat) :
    (State.rowOp s g rop).pending = s.pending ∧ (State.rowOp s g rop).out = s.out ∧ (State.rowOp s g rop).dev = s.dev ∧
    (State.rowOp s g rop).pwr = s.pwr ∧ (State.rowOp s g rop).time = s.time ∧ (State.rowOp s g rop).acts = s.acts ∧
    (State.rowOp s g rop).fab = s.fab ∧ (State.rowOp s g rop).ck = s.ck ∧ (State.rowOp s g rop).host = s.host := by
  unfold State.rowOp; dsimp only; split <;> simp

@[simp] theorem State.sampleCmd_frame (s : State) (h : Nat) (d : Nat) :
    (State.sampleCmd s h d).pending = s.pending ∧ (State.sampleCmd s h d).out = s.out ∧ (State.sampleCmd s h d).dev = s.dev ∧
    (State.sampleCmd s h d).pwr = s.pwr ∧ (State.sampleCmd s h d).time = s.time ∧ (State.sampleCmd s h d).acts = s.acts ∧
    (State.sampleCmd s h d).fab = s.fab ∧ (State.sampleCmd s h d).ck = s.ck ∧ (State.sampleCmd s h d).host = s.host := by
  simp [State.sampleCmd]

@[simp] theorem State.scatterAdd_frame (s : State) (h : Nat) (d : Nat) :
    (State.scatterAdd s h d).pending = s.pending ∧ (State.scatterAdd s h d).out = s.out ∧ (State.scatterAdd s h d).dev = s.dev ∧
    (State.scatterAdd s h d).pwr = s.pwr ∧ (State.scatterAdd s h d).time = s.time ∧ (State.scatterAdd s h d).acts = s.acts ∧
    (State.scatterAdd s h d).fab = s.fab ∧ (State.scatterAdd s h d).ck = s.ck ∧ (State.scatterAdd s h d).host = s.host := by
  unfold State.scatterAdd; dsimp only; split <;> simp

@[simp] theorem State.sendGear_frame (s : State) (half : Nat) (gear : Nat) (raise : Bool) :
    (State.sendGear s half gear raise).pending = s.pending ∧ (State.sendGear s half gear raise).freeIdx = s.freeIdx ∧
    (State.sendGear s half gear raise).dev = s.dev ∧ (State.sendGear s half gear raise).geo = s.geo ∧
    (State.sendGear s half gear raise).mem = s.mem ∧ (State.sendGear s half gear raise).lineErr = s.lineErr ∧
    (State.sendGear s half gear raise).pte = s.pte ∧ (State.sendGear s half gear raise).shadowNext = s.shadowNext ∧
    (State.sendGear s half gear raise).heldWrites = s.heldWrites ∧ (State.sendGear s half gear raise).unit = s.unit ∧
    (State.sendGear s half gear raise).plan = s.plan ∧ (State.sendGear s half gear raise).time = s.time ∧
    (State.sendGear s half gear raise).acts = s.acts ∧ (State.sendGear s half gear raise).flt = s.flt ∧
    (State.sendGear s half gear raise).ck = s.ck ∧ (State.sendGear s half gear raise).host = s.host ∧
    (State.sendGear s half gear raise).trust = s.trust := by
  simp [State.sendGear]

@[simp] theorem State.sendIdentity_frame (s : State) (l : Nat) :
    (State.sendIdentity s l).pending = s.pending ∧ (State.sendIdentity s l).freeIdx = s.freeIdx ∧
    (State.sendIdentity s l).dev = s.dev ∧ (State.sendIdentity s l).pwr = s.pwr ∧ (State.sendIdentity s l).geo = s.geo ∧
    (State.sendIdentity s l).mem = s.mem ∧ (State.sendIdentity s l).lineErr = s.lineErr ∧ (State.sendIdentity s l).pte = s.pte ∧
    (State.sendIdentity s l).shadowNext = s.shadowNext ∧ (State.sendIdentity s l).heldWrites = s.heldWrites ∧
    (State.sendIdentity s l).unit = s.unit ∧ (State.sendIdentity s l).plan = s.plan ∧ (State.sendIdentity s l).time = s.time ∧
    (State.sendIdentity s l).acts = s.acts ∧ (State.sendIdentity s l).flt = s.flt ∧ (State.sendIdentity s l).ck = s.ck ∧
    (State.sendIdentity s l).host = s.host ∧ (State.sendIdentity s l).trust = s.trust := by
  simp [State.sendIdentity]

@[simp] theorem State.sendSteps_frame (s : State) :
    (State.sendSteps s).pending = s.pending ∧ (State.sendSteps s).freeIdx = s.freeIdx ∧ (State.sendSteps s).dev = s.dev ∧
    (State.sendSteps s).geo = s.geo ∧ (State.sendSteps s).mem = s.mem ∧ (State.sendSteps s).lineErr = s.lineErr ∧
    (State.sendSteps s).pte = s.pte ∧ (State.sendSteps s).shadowNext = s.shadowNext ∧
    (State.sendSteps s).heldWrites = s.heldWrites ∧ (State.sendSteps s).unit = s.unit ∧ (State.sendSteps s).plan = s.plan ∧
    (State.sendSteps s).time = s.time ∧ (State.sendSteps s).acts = s.acts ∧ (State.sendSteps s).flt = s.flt ∧
    (State.sendSteps s).ck = s.ck ∧ (State.sendSteps s).host = s.host ∧ (State.sendSteps s).trust = s.trust := by
  simp [State.sendSteps]

@[simp] theorem State.sortCmd_frame (s : State) (h : Nat) (d : Nat) :
    (State.sortCmd s h d).pending = s.pending ∧ (State.sortCmd s h d).out = s.out ∧ (State.sortCmd s h d).dev = s.dev ∧
    (State.sortCmd s h d).pwr = s.pwr ∧ (State.sortCmd s h d).time = s.time ∧ (State.sortCmd s h d).acts = s.acts ∧
    (State.sortCmd s h d).fab = s.fab ∧ (State.sortCmd s h d).ck = s.ck ∧ (State.sortCmd s h d).host = s.host := by
  unfold State.sortCmd; dsimp only; split <;> simp

@[simp] theorem State.spmm_frame (s : State) (h : Nat) (d : Nat) :
    (State.spmm s h d).pending = s.pending ∧ (State.spmm s h d).out = s.out ∧ (State.spmm s h d).dev = s.dev ∧
    (State.spmm s h d).pwr = s.pwr ∧ (State.spmm s h d).time = s.time ∧ (State.spmm s h d).acts = s.acts ∧
    (State.spmm s h d).fab = s.fab ∧ (State.spmm s h d).ck = s.ck ∧ (State.spmm s h d).host = s.host := by
  unfold State.spmm; extract_lets; split
  · split
    split
    split
    · simp
    · extract_lets
      simp +zetaDelta
  · simp

@[simp] theorem State.spreadEntry_frame (s : State) (e : RemapEntry) (from_ : Nat) :
    (State.spreadEntry s e from_).pending = s.pending ∧ (State.spreadEntry s e from_).freeIdx = s.freeIdx ∧
    (State.spreadEntry s e from_).dev = s.dev ∧ (State.spreadEntry s e from_).pwr = s.pwr ∧
    (State.spreadEntry s e from_).geo = s.geo ∧ (State.spreadEntry s e from_).mem = s.mem ∧
    (State.spreadEntry s e from_).lineErr = s.lineErr ∧ (State.spreadEntry s e from_).pte = s.pte ∧
    (State.spreadEntry s e from_).shadowNext = s.shadowNext ∧ (State.spreadEntry s e from_).heldWrites = s.heldWrites ∧
    (State.spreadEntry s e from_).unit = s.unit ∧ (State.spreadEntry s e from_).plan = s.plan ∧
    (State.spreadEntry s e from_).time = s.time ∧ (State.spreadEntry s e from_).acts = s.acts ∧
    (State.spreadEntry s e from_).flt = s.flt ∧ (State.spreadEntry s e from_).ck = s.ck ∧
    (State.spreadEntry s e from_).host = s.host ∧ (State.spreadEntry s e from_).trust = s.trust := by
  simp [State.spreadEntry]

@[simp] theorem State.submit_frame (s : State) (p : Nat) (m : Nat) (page : Tab Byte) :
    (State.submit s p m page).pending = s.pending ∧ (State.submit s p m page).freeIdx = s.freeIdx ∧
    (State.submit s p m page).out = s.out ∧ (State.submit s p m page).dev = s.dev ∧ (State.submit s p m page).pwr = s.pwr ∧
    (State.submit s p m page).geo = s.geo ∧ (State.submit s p m page).mem = s.mem ∧
    (State.submit s p m page).lineErr = s.lineErr ∧ (State.submit s p m page).pte = s.pte ∧
    (State.submit s p m page).shadowNext = s.shadowNext ∧ (State.submit s p m page).heldWrites = s.heldWrites ∧
    (State.submit s p m page).unit = s.unit ∧ (State.submit s p m page).plan = s.plan ∧ (State.submit s p m page).time = s.time ∧
    (State.submit s p m page).acts = s.acts ∧ (State.submit s p m page).fab = s.fab ∧ (State.submit s p m page).flt = s.flt ∧
    (State.submit s p m page).ck = s.ck ∧ (State.submit s p m page).trust = s.trust := by
  unfold State.submit; dsimp only; split <;> simp

@[simp] theorem State.takeNak_frame (s : State) (p : Nat) (count : Nat) :
    (State.takeNak s p count).pending = s.pending ∧ (State.takeNak s p count).freeIdx = s.freeIdx ∧
    (State.takeNak s p count).dev = s.dev ∧ (State.takeNak s p count).pwr = s.pwr ∧ (State.takeNak s p count).geo = s.geo ∧
    (State.takeNak s p count).mem = s.mem ∧ (State.takeNak s p count).lineErr = s.lineErr ∧
    (State.takeNak s p count).pte = s.pte ∧ (State.takeNak s p count).shadowNext = s.shadowNext ∧
    (State.takeNak s p count).heldWrites = s.heldWrites ∧ (State.takeNak s p count).unit = s.unit ∧
    (State.takeNak s p count).plan = s.plan ∧ (State.takeNak s p count).time = s.time ∧ (State.takeNak s p count).acts = s.acts ∧
    (State.takeNak s p count).flt = s.flt ∧ (State.takeNak s p count).ck = s.ck ∧ (State.takeNak s p count).host = s.host ∧
    (State.takeNak s p count).trust = s.trust := by
  simp [State.takeNak]

@[simp] theorem State.triggerWarm_frame (s : State) (code : Nat) (origin : Nat × Nat) :
    (State.triggerWarm s code origin).pending = s.pending ∧ (State.triggerWarm s code origin).freeIdx = s.freeIdx ∧
    (State.triggerWarm s code origin).out = s.out ∧ (State.triggerWarm s code origin).pwr = s.pwr ∧
    (State.triggerWarm s code origin).geo = s.geo ∧ (State.triggerWarm s code origin).mem = s.mem ∧
    (State.triggerWarm s code origin).lineErr = s.lineErr ∧ (State.triggerWarm s code origin).pte = s.pte ∧
    (State.triggerWarm s code origin).shadowNext = s.shadowNext ∧ (State.triggerWarm s code origin).heldWrites = s.heldWrites ∧
    (State.triggerWarm s code origin).unit = s.unit ∧ (State.triggerWarm s code origin).plan = s.plan ∧
    (State.triggerWarm s code origin).time = s.time ∧ (State.triggerWarm s code origin).acts = s.acts ∧
    (State.triggerWarm s code origin).fab = s.fab ∧ (State.triggerWarm s code origin).flt = s.flt ∧
    (State.triggerWarm s code origin).ck = s.ck ∧ (State.triggerWarm s code origin).host = s.host ∧
    (State.triggerWarm s code origin).cnt = s.cnt := by
  simp [State.triggerWarm]

@[simp] theorem State.updBegin_frame (s : State) (g : Nat) (d : Nat) (code : Nat) :
    (State.updBegin s g d code).pending = s.pending ∧ (State.updBegin s g d code).freeIdx = s.freeIdx ∧
    (State.updBegin s g d code).out = s.out ∧ (State.updBegin s g d code).dev = s.dev ∧ (State.updBegin s g d code).pwr = s.pwr ∧
    (State.updBegin s g d code).geo = s.geo ∧ (State.updBegin s g d code).mem = s.mem ∧
    (State.updBegin s g d code).lineErr = s.lineErr ∧ (State.updBegin s g d code).pte = s.pte ∧
    (State.updBegin s g d code).shadowNext = s.shadowNext ∧ (State.updBegin s g d code).heldWrites = s.heldWrites ∧
    (State.updBegin s g d code).plan = s.plan ∧ (State.updBegin s g d code).time = s.time ∧
    (State.updBegin s g d code).acts = s.acts ∧ (State.updBegin s g d code).fab = s.fab ∧
    (State.updBegin s g d code).flt = s.flt ∧ (State.updBegin s g d code).ck = s.ck ∧ (State.updBegin s g d code).host = s.host ∧
    (State.updBegin s g d code).trust = s.trust ∧ (State.updBegin s g d code).cnt = s.cnt := by
  simp [State.updBegin]

@[simp] theorem State.updGate_frame (s : State) (g : Nat) (d : Nat) :
    (State.updGate s g d).pending = s.pending ∧ (State.updGate s g d).out = s.out ∧ (State.updGate s g d).dev = s.dev ∧
    (State.updGate s g d).pwr = s.pwr ∧ (State.updGate s g d).time = s.time ∧ (State.updGate s g d).acts = s.acts ∧
    (State.updGate s g d).fab = s.fab ∧ (State.updGate s g d).ck = s.ck ∧ (State.updGate s g d).host = s.host := by
  unfold State.updGate; (repeat' split) <;> simp

@[simp] theorem State.updOp_frame (s : State) (g : Nat) (uop : Nat) :
    (State.updOp s g uop).pending = s.pending ∧ (State.updOp s g uop).out = s.out ∧ (State.updOp s g uop).dev = s.dev ∧
    (State.updOp s g uop).pwr = s.pwr ∧ (State.updOp s g uop).time = s.time ∧ (State.updOp s g uop).acts = s.acts ∧
    (State.updOp s g uop).fab = s.fab ∧ (State.updOp s g uop).ck = s.ck ∧ (State.updOp s g uop).host = s.host := by
  unfold State.updOp; dsimp only; split <;> simp

@[simp] theorem State.writeLogEntry_frame (s : State) (d : LogDetail) :
    (State.writeLogEntry s d).pending = s.pending ∧ (State.writeLogEntry s d).freeIdx = s.freeIdx ∧
    (State.writeLogEntry s d).dev = s.dev ∧ (State.writeLogEntry s d).pwr = s.pwr ∧ (State.writeLogEntry s d).geo = s.geo ∧
    (State.writeLogEntry s d).shadowNext = s.shadowNext ∧ (State.writeLogEntry s d).heldWrites = s.heldWrites ∧
    (State.writeLogEntry s d).unit = s.unit ∧ (State.writeLogEntry s d).time = s.time ∧ (State.writeLogEntry s d).acts = s.acts ∧
    (State.writeLogEntry s d).fab = s.fab ∧ (State.writeLogEntry s d).flt = s.flt ∧ (State.writeLogEntry s d).ck = s.ck := by
  simp [State.writeLogEntry]

end Sys2Proof.Machine
end

