-- ==== Sys2Proof/Laws/FramesRun.lean ====
section
/-! SUPPORT. Frame lemmas of the run of a plan: start, step, checkpoint, mailbox and check operations. -/

namespace Sys2Proof.Machine

@[simp] theorem State.dropLate_frame (s : State) (trailer : Bool) :
    (State.dropLate s trailer).pending = s.pending ∧ (State.dropLate s trailer).freeIdx = s.freeIdx ∧
    (State.dropLate s trailer).out = s.out ∧ (State.dropLate s trailer).dev = s.dev ∧ (State.dropLate s trailer).pwr = s.pwr ∧
    (State.dropLate s trailer).geo = s.geo ∧ (State.dropLate s trailer).mem = s.mem ∧
    (State.dropLate s trailer).lineErr = s.lineErr ∧ (State.dropLate s trailer).pte = s.pte ∧
    (State.dropLate s trailer).shadowNext = s.shadowNext ∧ (State.dropLate s trailer).heldWrites = s.heldWrites ∧
    (State.dropLate s trailer).unit = s.unit ∧ (State.dropLate s trailer).time = s.time ∧
    (State.dropLate s trailer).acts = s.acts ∧ (State.dropLate s trailer).fab = s.fab ∧ (State.dropLate s trailer).flt = s.flt ∧
    (State.dropLate s trailer).ck = s.ck ∧ (State.dropLate s trailer).host = s.host ∧ (State.dropLate s trailer).trust = s.trust := by
  simp [State.dropLate]

@[simp] theorem State.abandonCarry_frame (s : State) (y : Carry) :
    (State.abandonCarry s y).pending = s.pending ∧ (State.abandonCarry s y).freeIdx = s.freeIdx ∧
    (State.abandonCarry s y).out = s.out ∧ (State.abandonCarry s y).dev = s.dev ∧ (State.abandonCarry s y).pwr = s.pwr ∧
    (State.abandonCarry s y).geo = s.geo ∧ (State.abandonCarry s y).mem = s.mem ∧ (State.abandonCarry s y).lineErr = s.lineErr ∧
    (State.abandonCarry s y).pte = s.pte ∧ (State.abandonCarry s y).shadowNext = s.shadowNext ∧
    (State.abandonCarry s y).heldWrites = s.heldWrites ∧ (State.abandonCarry s y).unit = s.unit ∧
    (State.abandonCarry s y).time = s.time ∧ (State.abandonCarry s y).acts = s.acts ∧ (State.abandonCarry s y).fab = s.fab ∧
    (State.abandonCarry s y).flt = s.flt ∧ (State.abandonCarry s y).ck = s.ck ∧ (State.abandonCarry s y).host = s.host ∧
    (State.abandonCarry s y).trust = s.trust := by
  simp [State.abandonCarry]

@[simp] theorem State.shipPieces_frame (s : State) (p : Nat) (ts : List Target) (l : List (Nat × List Byte)) :
    (State.shipPieces s p ts l).pending = s.pending ∧ (State.shipPieces s p ts l).freeIdx = s.freeIdx ∧
    (State.shipPieces s p ts l).dev = s.dev ∧ (State.shipPieces s p ts l).pwr = s.pwr ∧ (State.shipPieces s p ts l).geo = s.geo ∧
    (State.shipPieces s p ts l).mem = s.mem ∧ (State.shipPieces s p ts l).lineErr = s.lineErr ∧
    (State.shipPieces s p ts l).pte = s.pte ∧ (State.shipPieces s p ts l).shadowNext = s.shadowNext ∧
    (State.shipPieces s p ts l).heldWrites = s.heldWrites ∧ (State.shipPieces s p ts l).unit = s.unit ∧
    (State.shipPieces s p ts l).plan = s.plan ∧ (State.shipPieces s p ts l).time = s.time ∧
    (State.shipPieces s p ts l).acts = s.acts ∧ (State.shipPieces s p ts l).fab = s.fab ∧
    (State.shipPieces s p ts l).flt = s.flt ∧ (State.shipPieces s p ts l).ck = s.ck ∧ (State.shipPieces s p ts l).host = s.host ∧
    (State.shipPieces s p ts l).trust = s.trust ∧ (State.shipPieces s p ts l).cnt = s.cnt := by
  simp [State.shipPieces]

@[simp] theorem State.noteImages_frame (s : State) (pages : List Nat) :
    (State.noteImages s pages).pending = s.pending ∧ (State.noteImages s pages).freeIdx = s.freeIdx ∧
    (State.noteImages s pages).out = s.out ∧ (State.noteImages s pages).dev = s.dev ∧ (State.noteImages s pages).pwr = s.pwr ∧
    (State.noteImages s pages).geo = s.geo ∧ (State.noteImages s pages).mem = s.mem ∧
    (State.noteImages s pages).shadowNext = s.shadowNext ∧ (State.noteImages s pages).heldWrites = s.heldWrites ∧
    (State.noteImages s pages).unit = s.unit ∧ (State.noteImages s pages).time = s.time ∧
    (State.noteImages s pages).acts = s.acts ∧ (State.noteImages s pages).fab = s.fab ∧ (State.noteImages s pages).flt = s.flt ∧
    (State.noteImages s pages).host = s.host := by
  simp [State.noteImages]

@[simp] theorem State.shipCut_frame (s : State) (p : Nat) :
    (State.shipCut s p).pending = s.pending ∧ (State.shipCut s p).dev = s.dev ∧ (State.shipCut s p).pwr = s.pwr ∧
    (State.shipCut s p).geo = s.geo ∧ (State.shipCut s p).mem = s.mem ∧ (State.shipCut s p).shadowNext = s.shadowNext ∧
    (State.shipCut s p).heldWrites = s.heldWrites ∧ (State.shipCut s p).unit = s.unit ∧ (State.shipCut s p).time = s.time ∧
    (State.shipCut s p).acts = s.acts ∧ (State.shipCut s p).fab = s.fab ∧ (State.shipCut s p).flt = s.flt ∧
    (State.shipCut s p).host = s.host := by
  simp [State.shipCut]

@[simp] theorem State.cutStream_frame (s : State) :
    (State.cutStream s).pending = s.pending ∧ (State.cutStream s).dev = s.dev ∧ (State.cutStream s).pwr = s.pwr ∧
    (State.cutStream s).geo = s.geo ∧ (State.cutStream s).mem = s.mem ∧ (State.cutStream s).shadowNext = s.shadowNext ∧
    (State.cutStream s).heldWrites = s.heldWrites ∧ (State.cutStream s).unit = s.unit ∧ (State.cutStream s).time = s.time ∧
    (State.cutStream s).acts = s.acts ∧ (State.cutStream s).fab = s.fab ∧ (State.cutStream s).flt = s.flt ∧
    (State.cutStream s).host = s.host := by
  simp [State.cutStream]

@[simp] theorem State.abandonStream_frame (s : State) :
    (State.abandonStream s).pending = s.pending ∧ (State.abandonStream s).dev = s.dev ∧ (State.abandonStream s).pwr = s.pwr ∧
    (State.abandonStream s).geo = s.geo ∧ (State.abandonStream s).mem = s.mem ∧
    (State.abandonStream s).shadowNext = s.shadowNext ∧ (State.abandonStream s).heldWrites = s.heldWrites ∧
    (State.abandonStream s).unit = s.unit ∧ (State.abandonStream s).time = s.time ∧ (State.abandonStream s).acts = s.acts ∧
    (State.abandonStream s).fab = s.fab ∧ (State.abandonStream s).flt = s.flt := by
  simp [State.abandonStream]

@[simp] theorem State.abortRound_frame (s : State) :
    (State.abortRound s).pending = s.pending ∧ (State.abortRound s).out = s.out ∧ (State.abortRound s).dev = s.dev ∧
    (State.abortRound s).pwr = s.pwr ∧ (State.abortRound s).time = s.time ∧ (State.abortRound s).fab = s.fab ∧
    (State.abortRound s).ck = s.ck ∧ (State.abortRound s).host = s.host := by
  simp [State.abortRound]

@[simp] theorem State.setCtr_frame (s : State) (id : Nat) (c : Ctr) :
    (State.setCtr s id c).pending = s.pending ∧ (State.setCtr s id c).freeIdx = s.freeIdx ∧ (State.setCtr s id c).out = s.out ∧
    (State.setCtr s id c).dev = s.dev ∧ (State.setCtr s id c).pwr = s.pwr ∧ (State.setCtr s id c).geo = s.geo ∧
    (State.setCtr s id c).mem = s.mem ∧ (State.setCtr s id c).lineErr = s.lineErr ∧ (State.setCtr s id c).pte = s.pte ∧
    (State.setCtr s id c).shadowNext = s.shadowNext ∧ (State.setCtr s id c).heldWrites = s.heldWrites ∧
    (State.setCtr s id c).unit = s.unit ∧ (State.setCtr s id c).time = s.time ∧ (State.setCtr s id c).acts = s.acts ∧
    (State.setCtr s id c).fab = s.fab ∧ (State.setCtr s id c).flt = s.flt ∧ (State.setCtr s id c).ck = s.ck ∧
    (State.setCtr s id c).host = s.host ∧ (State.setCtr s id c).trust = s.trust ∧ (State.setCtr s id c).cnt = s.cnt := by
  simp [State.setCtr]

@[simp] theorem State.discardLate_frame (s : State) (id : Nat) :
    (State.discardLate s id).pending = s.pending ∧ (State.discardLate s id).freeIdx = s.freeIdx ∧
    (State.discardLate s id).out = s.out ∧ (State.discardLate s id).dev = s.dev ∧ (State.discardLate s id).pwr = s.pwr ∧
    (State.discardLate s id).geo = s.geo ∧ (State.discardLate s id).mem = s.mem ∧ (State.discardLate s id).lineErr = s.lineErr ∧
    (State.discardLate s id).pte = s.pte ∧ (State.discardLate s id).shadowNext = s.shadowNext ∧
    (State.discardLate s id).heldWrites = s.heldWrites ∧ (State.discardLate s id).unit = s.unit ∧
    (State.discardLate s id).time = s.time ∧ (State.discardLate s id).acts = s.acts ∧ (State.discardLate s id).fab = s.fab ∧
    (State.discardLate s id).flt = s.flt ∧ (State.discardLate s id).ck = s.ck ∧ (State.discardLate s id).host = s.host ∧
    (State.discardLate s id).trust = s.trust := by
  simp [State.discardLate]

@[simp] theorem State.applySignal_frame (s : State) (id : Nat) (inc : Nat) (rep : Option Nat) :
    (State.applySignal s id inc rep).pending = s.pending ∧ (State.applySignal s id inc rep).freeIdx = s.freeIdx ∧
    (State.applySignal s id inc rep).out = s.out ∧ (State.applySignal s id inc rep).dev = s.dev ∧
    (State.applySignal s id inc rep).pwr = s.pwr ∧ (State.applySignal s id inc rep).geo = s.geo ∧
    (State.applySignal s id inc rep).mem = s.mem ∧ (State.applySignal s id inc rep).lineErr = s.lineErr ∧
    (State.applySignal s id inc rep).pte = s.pte ∧ (State.applySignal s id inc rep).shadowNext = s.shadowNext ∧
    (State.applySignal s id inc rep).heldWrites = s.heldWrites ∧ (State.applySignal s id inc rep).unit = s.unit ∧
    (State.applySignal s id inc rep).time = s.time ∧ (State.applySignal s id inc rep).acts = s.acts ∧
    (State.applySignal s id inc rep).fab = s.fab ∧ (State.applySignal s id inc rep).flt = s.flt ∧
    (State.applySignal s id inc rep).ck = s.ck ∧ (State.applySignal s id inc rep).host = s.host ∧
    (State.applySignal s id inc rep).trust = s.trust := by
  simp [State.applySignal]

@[simp] theorem State.ackMsg_frame (s : State) (u : Unacked) :
    (State.ackMsg s u).pending = s.pending ∧ (State.ackMsg s u).freeIdx = s.freeIdx ∧ (State.ackMsg s u).dev = s.dev ∧
    (State.ackMsg s u).pwr = s.pwr ∧ (State.ackMsg s u).geo = s.geo ∧ (State.ackMsg s u).mem = s.mem ∧
    (State.ackMsg s u).lineErr = s.lineErr ∧ (State.ackMsg s u).pte = s.pte ∧ (State.ackMsg s u).shadowNext = s.shadowNext ∧
    (State.ackMsg s u).heldWrites = s.heldWrites ∧ (State.ackMsg s u).unit = s.unit ∧ (State.ackMsg s u).time = s.time ∧
    (State.ackMsg s u).acts = s.acts ∧ (State.ackMsg s u).fab = s.fab ∧ (State.ackMsg s u).flt = s.flt ∧
    (State.ackMsg s u).ck = s.ck ∧ (State.ackMsg s u).host = s.host ∧ (State.ackMsg s u).trust = s.trust := by
  simp [State.ackMsg]

@[simp] theorem State.settleAcks_frame (s : State) :
    (State.settleAcks s).pending = s.pending ∧ (State.settleAcks s).freeIdx = s.freeIdx ∧ (State.settleAcks s).dev = s.dev ∧
    (State.settleAcks s).pwr = s.pwr ∧ (State.settleAcks s).geo = s.geo ∧ (State.settleAcks s).mem = s.mem ∧
    (State.settleAcks s).lineErr = s.lineErr ∧ (State.settleAcks s).pte = s.pte ∧ (State.settleAcks s).shadowNext = s.shadowNext ∧
    (State.settleAcks s).heldWrites = s.heldWrites ∧ (State.settleAcks s).unit = s.unit ∧ (State.settleAcks s).time = s.time ∧
    (State.settleAcks s).acts = s.acts ∧ (State.settleAcks s).flt = s.flt ∧ (State.settleAcks s).ck = s.ck ∧
    (State.settleAcks s).host = s.host ∧ (State.settleAcks s).trust = s.trust := by
  simp [State.settleAcks]

@[simp] theorem State.received_frame (s : State) (u : Unacked) :
    (State.received s u).pending = s.pending ∧ (State.received s u).freeIdx = s.freeIdx ∧ (State.received s u).dev = s.dev ∧
    (State.received s u).pwr = s.pwr ∧ (State.received s u).geo = s.geo ∧ (State.received s u).mem = s.mem ∧
    (State.received s u).lineErr = s.lineErr ∧ (State.received s u).pte = s.pte ∧ (State.received s u).shadowNext = s.shadowNext ∧
    (State.received s u).heldWrites = s.heldWrites ∧ (State.received s u).unit = s.unit ∧ (State.received s u).time = s.time ∧
    (State.received s u).acts = s.acts ∧ (State.received s u).flt = s.flt ∧ (State.received s u).ck = s.ck ∧
    (State.received s u).host = s.host ∧ (State.received s u).trust = s.trust := by
  simp [State.received]

@[simp] theorem State.ackExpert_frame (s : State) (src : Nat) (area : Nat × Nat) :
    (State.ackExpert s src area).pending = s.pending ∧ (State.ackExpert s src area).freeIdx = s.freeIdx ∧
    (State.ackExpert s src area).dev = s.dev ∧ (State.ackExpert s src area).pwr = s.pwr ∧
    (State.ackExpert s src area).geo = s.geo ∧ (State.ackExpert s src area).mem = s.mem ∧
    (State.ackExpert s src area).lineErr = s.lineErr ∧ (State.ackExpert s src area).pte = s.pte ∧
    (State.ackExpert s src area).shadowNext = s.shadowNext ∧ (State.ackExpert s src area).heldWrites = s.heldWrites ∧
    (State.ackExpert s src area).unit = s.unit ∧ (State.ackExpert s src area).time = s.time ∧
    (State.ackExpert s src area).acts = s.acts ∧ (State.ackExpert s src area).flt = s.flt ∧
    (State.ackExpert s src area).ck = s.ck ∧ (State.ackExpert s src area).host = s.host ∧
    (State.ackExpert s src area).trust = s.trust := by
  simp [State.ackExpert]

@[simp] theorem State.acknowledge_frame (s : State) (p : Nat) (m : Nat) (seq : Nat) :
    (State.acknowledge s p m seq).pending = s.pending ∧ (State.acknowledge s p m seq).freeIdx = s.freeIdx ∧
    (State.acknowledge s p m seq).out = s.out ∧ (State.acknowledge s p m seq).dev = s.dev ∧
    (State.acknowledge s p m seq).pwr = s.pwr ∧ (State.acknowledge s p m seq).geo = s.geo ∧
    (State.acknowledge s p m seq).mem = s.mem ∧ (State.acknowledge s p m seq).lineErr = s.lineErr ∧
    (State.acknowledge s p m seq).pte = s.pte ∧ (State.acknowledge s p m seq).shadowNext = s.shadowNext ∧
    (State.acknowledge s p m seq).heldWrites = s.heldWrites ∧ (State.acknowledge s p m seq).unit = s.unit ∧
    (State.acknowledge s p m seq).plan = s.plan ∧ (State.acknowledge s p m seq).time = s.time ∧
    (State.acknowledge s p m seq).acts = s.acts ∧ (State.acknowledge s p m seq).fab = s.fab ∧
    (State.acknowledge s p m seq).flt = s.flt ∧ (State.acknowledge s p m seq).ck = s.ck ∧
    (State.acknowledge s p m seq).trust = s.trust ∧ (State.acknowledge s p m seq).cnt = s.cnt := by
  simp [State.acknowledge]

@[simp] theorem State.addTaps_frame (s : State) :
    (State.addTaps s).pending = s.pending ∧ (State.addTaps s).freeIdx = s.freeIdx ∧ (State.addTaps s).out = s.out ∧
    (State.addTaps s).dev = s.dev ∧ (State.addTaps s).pwr = s.pwr ∧ (State.addTaps s).geo = s.geo ∧
    (State.addTaps s).mem = s.mem ∧ (State.addTaps s).lineErr = s.lineErr ∧ (State.addTaps s).pte = s.pte ∧
    (State.addTaps s).shadowNext = s.shadowNext ∧ (State.addTaps s).heldWrites = s.heldWrites ∧ (State.addTaps s).unit = s.unit ∧
    (State.addTaps s).time = s.time ∧ (State.addTaps s).acts = s.acts ∧ (State.addTaps s).fab = s.fab ∧
    (State.addTaps s).flt = s.flt ∧ (State.addTaps s).ck = s.ck ∧ (State.addTaps s).host = s.host ∧
    (State.addTaps s).trust = s.trust ∧ (State.addTaps s).cnt = s.cnt := by
  simp [State.addTaps]

@[simp] theorem State.addUsage_frame (s : State) :
    (State.addUsage s).pending = s.pending ∧ (State.addUsage s).freeIdx = s.freeIdx ∧ (State.addUsage s).out = s.out ∧
    (State.addUsage s).dev = s.dev ∧ (State.addUsage s).pwr = s.pwr ∧ (State.addUsage s).geo = s.geo ∧
    (State.addUsage s).unit = s.unit ∧ (State.addUsage s).time = s.time ∧ (State.addUsage s).acts = s.acts ∧
    (State.addUsage s).fab = s.fab ∧ (State.addUsage s).ck = s.ck ∧ (State.addUsage s).host = s.host := by
  simp [State.addUsage]

@[simp] theorem State.adoptMap_frame (s : State) (r : Nat) :
    (State.adoptMap s r).pending = s.pending ∧ (State.adoptMap s r).freeIdx = s.freeIdx ∧ (State.adoptMap s r).out = s.out ∧
    (State.adoptMap s r).dev = s.dev ∧ (State.adoptMap s r).pwr = s.pwr ∧ (State.adoptMap s r).geo = s.geo ∧
    (State.adoptMap s r).time = s.time ∧ (State.adoptMap s r).acts = s.acts ∧ (State.adoptMap s r).fab = s.fab ∧
    (State.adoptMap s r).ck = s.ck ∧ (State.adoptMap s r).host = s.host := by
  unfold State.adoptMap; dsimp only; split <;> simp

@[simp] theorem State.asPlan_frame (s : State) (base : Nat) (len : Nat) :
    (State.asPlan s base len).pending = s.pending ∧ (State.asPlan s base len).freeIdx = s.freeIdx ∧
    (State.asPlan s base len).out = s.out ∧ (State.asPlan s base len).dev = s.dev ∧ (State.asPlan s base len).pwr = s.pwr ∧
    (State.asPlan s base len).geo = s.geo ∧ (State.asPlan s base len).mem = s.mem ∧
    (State.asPlan s base len).lineErr = s.lineErr ∧ (State.asPlan s base len).pte = s.pte ∧
    (State.asPlan s base len).shadowNext = s.shadowNext ∧ (State.asPlan s base len).heldWrites = s.heldWrites ∧
    (State.asPlan s base len).unit = s.unit ∧ (State.asPlan s base len).time = s.time ∧ (State.asPlan s base len).acts = s.acts ∧
    (State.asPlan s base len).fab = s.fab ∧ (State.asPlan s base len).flt = s.flt ∧ (State.asPlan s base len).ck = s.ck ∧
    (State.asPlan s base len).host = s.host ∧ (State.asPlan s base len).trust = s.trust ∧ (State.asPlan s base len).cnt = s.cnt := by
  simp [State.asPlan]

@[simp] theorem State.setProgress_frame (s : State) (p : Nat) (m : Nat) (v : Nat) :
    (State.setProgress s p m v).pending = s.pending ∧ (State.setProgress s p m v).freeIdx = s.freeIdx ∧
    (State.setProgress s p m v).out = s.out ∧ (State.setProgress s p m v).dev = s.dev ∧ (State.setProgress s p m v).pwr = s.pwr ∧
    (State.setProgress s p m v).geo = s.geo ∧ (State.setProgress s p m v).mem = s.mem ∧
    (State.setProgress s p m v).lineErr = s.lineErr ∧ (State.setProgress s p m v).pte = s.pte ∧
    (State.setProgress s p m v).shadowNext = s.shadowNext ∧ (State.setProgress s p m v).heldWrites = s.heldWrites ∧
    (State.setProgress s p m v).unit = s.unit ∧ (State.setProgress s p m v).plan = s.plan ∧
    (State.setProgress s p m v).time = s.time ∧ (State.setProgress s p m v).acts = s.acts ∧
    (State.setProgress s p m v).fab = s.fab ∧ (State.setProgress s p m v).flt = s.flt ∧ (State.setProgress s p m v).ck = s.ck ∧
    (State.setProgress s p m v).trust = s.trust ∧ (State.setProgress s p m v).cnt = s.cnt := by
  simp [State.setProgress]

@[simp] theorem State.await_frame (s : State) (p : Nat) (m : Nat) (beat : Nat) (arg : Nat) :
    (State.await s p m beat arg).pending = s.pending ∧ (State.await s p m beat arg).freeIdx = s.freeIdx ∧
    (State.await s p m beat arg).out = s.out ∧ (State.await s p m beat arg).dev = s.dev ∧
    (State.await s p m beat arg).pwr = s.pwr ∧ (State.await s p m beat arg).geo = s.geo ∧
    (State.await s p m beat arg).mem = s.mem ∧ (State.await s p m beat arg).lineErr = s.lineErr ∧
    (State.await s p m beat arg).pte = s.pte ∧ (State.await s p m beat arg).shadowNext = s.shadowNext ∧
    (State.await s p m beat arg).heldWrites = s.heldWrites ∧ (State.await s p m beat arg).unit = s.unit ∧
    (State.await s p m beat arg).plan = s.plan ∧ (State.await s p m beat arg).time = s.time ∧
    (State.await s p m beat arg).acts = s.acts ∧ (State.await s p m beat arg).fab = s.fab ∧
    (State.await s p m beat arg).flt = s.flt ∧ (State.await s p m beat arg).ck = s.ck ∧
    (State.await s p m beat arg).trust = s.trust ∧ (State.await s p m beat arg).cnt = s.cnt := by
  unfold State.await; dsimp only; split <;> simp

@[simp] theorem State.awaitObject_frame (s : State) (arg : Nat) :
    (State.awaitObject s arg).pending = s.pending ∧ (State.awaitObject s arg).freeIdx = s.freeIdx ∧
    (State.awaitObject s arg).out = s.out ∧ (State.awaitObject s arg).dev = s.dev ∧ (State.awaitObject s arg).pwr = s.pwr ∧
    (State.awaitObject s arg).geo = s.geo ∧ (State.awaitObject s arg).mem = s.mem ∧
    (State.awaitObject s arg).lineErr = s.lineErr ∧ (State.awaitObject s arg).pte = s.pte ∧
    (State.awaitObject s arg).shadowNext = s.shadowNext ∧ (State.awaitObject s arg).heldWrites = s.heldWrites ∧
    (State.awaitObject s arg).unit = s.unit ∧ (State.awaitObject s arg).plan = s.plan ∧ (State.awaitObject s arg).time = s.time ∧
    (State.awaitObject s arg).acts = s.acts ∧ (State.awaitObject s arg).fab = s.fab ∧ (State.awaitObject s arg).flt = s.flt ∧
    (State.awaitObject s arg).ck = s.ck ∧ (State.awaitObject s arg).trust = s.trust ∧ (State.awaitObject s arg).cnt = s.cnt := by
  unfold State.awaitObject; dsimp only; split <;> simp

@[simp] theorem State.chooseCodes_frame (s : State) :
    (State.chooseCodes s).pending = s.pending ∧ (State.chooseCodes s).freeIdx = s.freeIdx ∧ (State.chooseCodes s).out = s.out ∧
    (State.chooseCodes s).dev = s.dev ∧ (State.chooseCodes s).pwr = s.pwr ∧ (State.chooseCodes s).geo = s.geo ∧
    (State.chooseCodes s).mem = s.mem ∧ (State.chooseCodes s).lineErr = s.lineErr ∧ (State.chooseCodes s).pte = s.pte ∧
    (State.chooseCodes s).shadowNext = s.shadowNext ∧ (State.chooseCodes s).heldWrites = s.heldWrites ∧
    (State.chooseCodes s).unit = s.unit ∧ (State.chooseCodes s).time = s.time ∧ (State.chooseCodes s).acts = s.acts ∧
    (State.chooseCodes s).fab = s.fab ∧ (State.chooseCodes s).flt = s.flt ∧ (State.chooseCodes s).ck = s.ck ∧
    (State.chooseCodes s).host = s.host := by
  simp [State.chooseCodes]

@[simp] theorem State.protect_frame (s : State) :
    (State.protect s).pending = s.pending ∧ (State.protect s).freeIdx = s.freeIdx ∧ (State.protect s).out = s.out ∧
    (State.protect s).dev = s.dev ∧ (State.protect s).pwr = s.pwr ∧ (State.protect s).geo = s.geo ∧
    (State.protect s).mem = s.mem ∧ (State.protect s).lineErr = s.lineErr ∧ (State.protect s).heldWrites = s.heldWrites ∧
    (State.protect s).unit = s.unit ∧ (State.protect s).plan = s.plan ∧ (State.protect s).time = s.time ∧
    (State.protect s).acts = s.acts ∧ (State.protect s).fab = s.fab ∧ (State.protect s).flt = s.flt ∧
    (State.protect s).ck = s.ck ∧ (State.protect s).host = s.host ∧ (State.protect s).trust = s.trust ∧
    (State.protect s).cnt = s.cnt := by
  simp [State.protect]

@[simp] theorem State.releaseHeld_frame (s : State) :
    (State.releaseHeld s).pending = s.pending ∧ (State.releaseHeld s).freeIdx = s.freeIdx ∧ (State.releaseHeld s).dev = s.dev ∧
    (State.releaseHeld s).pwr = s.pwr ∧ (State.releaseHeld s).geo = s.geo ∧ (State.releaseHeld s).shadowNext = s.shadowNext ∧
    (State.releaseHeld s).unit = s.unit ∧ (State.releaseHeld s).time = s.time ∧ (State.releaseHeld s).acts = s.acts ∧
    (State.releaseHeld s).flt = s.flt ∧ (State.releaseHeld s).ck = s.ck ∧ (State.releaseHeld s).host = s.host := by
  simp [State.releaseHeld]

@[simp] theorem State.ckptEffect_frame (s : State) (id : Nat) :
    (State.ckptEffect s id).pending = s.pending ∧ (State.ckptEffect s id).freeIdx = s.freeIdx ∧
    (State.ckptEffect s id).dev = s.dev ∧ (State.ckptEffect s id).pwr = s.pwr ∧ (State.ckptEffect s id).geo = s.geo ∧
    (State.ckptEffect s id).unit = s.unit ∧ (State.ckptEffect s id).time = s.time ∧ (State.ckptEffect s id).acts = s.acts ∧
    (State.ckptEffect s id).flt = s.flt := by
  simp [State.ckptEffect]

@[simp] theorem State.ckptSkip_frame (s : State) (id : Nat) (why : Nat) (origin : Nat × Nat) :
    (State.ckptSkip s id why origin).pending = s.pending ∧ (State.ckptSkip s id why origin).freeIdx = s.freeIdx ∧
    (State.ckptSkip s id why origin).out = s.out ∧ (State.ckptSkip s id why origin).dev = s.dev ∧
    (State.ckptSkip s id why origin).pwr = s.pwr ∧ (State.ckptSkip s id why origin).geo = s.geo ∧
    (State.ckptSkip s id why origin).mem = s.mem ∧ (State.ckptSkip s id why origin).lineErr = s.lineErr ∧
    (State.ckptSkip s id why origin).pte = s.pte ∧ (State.ckptSkip s id why origin).shadowNext = s.shadowNext ∧
    (State.ckptSkip s id why origin).heldWrites = s.heldWrites ∧ (State.ckptSkip s id why origin).unit = s.unit ∧
    (State.ckptSkip s id why origin).plan = s.plan ∧ (State.ckptSkip s id why origin).time = s.time ∧
    (State.ckptSkip s id why origin).acts = s.acts ∧ (State.ckptSkip s id why origin).fab = s.fab ∧
    (State.ckptSkip s id why origin).flt = s.flt ∧ (State.ckptSkip s id why origin).ck = s.ck ∧
    (State.ckptSkip s id why origin).host = s.host := by
  simp [State.ckptSkip]

@[simp] theorem State.clearForLoad_frame (s : State) :
    (State.clearForLoad s).pending = s.pending ∧ (State.clearForLoad s).freeIdx = s.freeIdx ∧ (State.clearForLoad s).out = s.out ∧
    (State.clearForLoad s).dev = s.dev ∧ (State.clearForLoad s).pwr = s.pwr ∧ (State.clearForLoad s).geo = s.geo ∧
    (State.clearForLoad s).mem = s.mem ∧ (State.clearForLoad s).lineErr = s.lineErr ∧ (State.clearForLoad s).pte = s.pte ∧
    (State.clearForLoad s).shadowNext = s.shadowNext ∧ (State.clearForLoad s).heldWrites = s.heldWrites ∧
    (State.clearForLoad s).unit = s.unit ∧ (State.clearForLoad s).plan = s.plan ∧ (State.clearForLoad s).time = s.time ∧
    (State.clearForLoad s).acts = s.acts ∧ (State.clearForLoad s).fab = s.fab ∧ (State.clearForLoad s).flt = s.flt ∧
    (State.clearForLoad s).ck = s.ck ∧ (State.clearForLoad s).host = s.host ∧ (State.clearForLoad s).trust = s.trust := by
  simp [State.clearForLoad]

@[simp] theorem State.clearRepaired_frame (s : State) (origin : Nat × Nat) (img : List Byte) :
    (State.clearRepaired s origin img).pending = s.pending ∧ (State.clearRepaired s origin img).freeIdx = s.freeIdx ∧
    (State.clearRepaired s origin img).out = s.out ∧ (State.clearRepaired s origin img).dev = s.dev ∧
    (State.clearRepaired s origin img).pwr = s.pwr ∧ (State.clearRepaired s origin img).mem = s.mem ∧
    (State.clearRepaired s origin img).lineErr = s.lineErr ∧ (State.clearRepaired s origin img).pte = s.pte ∧
    (State.clearRepaired s origin img).shadowNext = s.shadowNext ∧ (State.clearRepaired s origin img).heldWrites = s.heldWrites ∧
    (State.clearRepaired s origin img).unit = s.unit ∧ (State.clearRepaired s origin img).plan = s.plan ∧
    (State.clearRepaired s origin img).time = s.time ∧ (State.clearRepaired s origin img).acts = s.acts ∧
    (State.clearRepaired s origin img).fab = s.fab ∧ (State.clearRepaired s origin img).flt = s.flt ∧
    (State.clearRepaired s origin img).ck = s.ck ∧ (State.clearRepaired s origin img).host = s.host ∧
    (State.clearRepaired s origin img).cnt = s.cnt := by
  simp [State.clearRepaired]

@[simp] theorem State.sendPager_frame (s : State) (dst : Nat) (addr : Nat) (data : List Byte) :
    (State.sendPager s dst addr data).pending = s.pending ∧ (State.sendPager s dst addr data).freeIdx = s.freeIdx ∧
    (State.sendPager s dst addr data).dev = s.dev ∧ (State.sendPager s dst addr data).pwr = s.pwr ∧
    (State.sendPager s dst addr data).geo = s.geo ∧ (State.sendPager s dst addr data).mem = s.mem ∧
    (State.sendPager s dst addr data).lineErr = s.lineErr ∧ (State.sendPager s dst addr data).pte = s.pte ∧
    (State.sendPager s dst addr data).shadowNext = s.shadowNext ∧ (State.sendPager s dst addr data).heldWrites = s.heldWrites ∧
    (State.sendPager s dst addr data).unit = s.unit ∧ (State.sendPager s dst addr data).plan = s.plan ∧
    (State.sendPager s dst addr data).time = s.time ∧ (State.sendPager s dst addr data).acts = s.acts ∧
    (State.sendPager s dst addr data).flt = s.flt ∧ (State.sendPager s dst addr data).ck = s.ck ∧
    (State.sendPager s dst addr data).host = s.host ∧ (State.sendPager s dst addr data).trust = s.trust := by
  unfold State.sendPager; split <;> simp

@[simp] theorem State.coldRead_frame (s : State) (place : ColdPlace) :
    (State.coldRead s place).2.pending = s.pending ∧ (State.coldRead s place).2.dev = s.dev ∧
    (State.coldRead s place).2.pwr = s.pwr ∧ (State.coldRead s place).2.geo = s.geo ∧ (State.coldRead s place).2.mem = s.mem ∧
    (State.coldRead s place).2.shadowNext = s.shadowNext ∧ (State.coldRead s place).2.heldWrites = s.heldWrites ∧
    (State.coldRead s place).2.unit = s.unit ∧ (State.coldRead s place).2.time = s.time ∧
    (State.coldRead s place).2.acts = s.acts ∧ (State.coldRead s place).2.ck = s.ck ∧ (State.coldRead s place).2.host = s.host := by
  unfold State.coldRead; split <;> simp

@[simp] theorem State.coldWrite_frame (s : State) (place : ColdPlace) (data : List Byte) :
    (State.coldWrite s place data).pending = s.pending ∧ (State.coldWrite s place data).freeIdx = s.freeIdx ∧
    (State.coldWrite s place data).dev = s.dev ∧ (State.coldWrite s place data).pwr = s.pwr ∧
    (State.coldWrite s place data).geo = s.geo ∧ (State.coldWrite s place data).unit = s.unit ∧
    (State.coldWrite s place data).time = s.time ∧ (State.coldWrite s place data).acts = s.acts ∧
    (State.coldWrite s place data).ck = s.ck ∧ (State.coldWrite s place data).host = s.host := by
  unfold State.coldWrite; split <;> simp

@[simp] theorem State.completeCmd_frame (s : State) (u : Nat) (f : InFlight) (w : Waits) :
    (State.completeCmd s u f w).pending = s.pending ∧ (State.completeCmd s u f w).freeIdx = s.freeIdx ∧
    (State.completeCmd s u f w).out = s.out ∧ (State.completeCmd s u f w).dev = s.dev ∧ (State.completeCmd s u f w).pwr = s.pwr ∧
    (State.completeCmd s u f w).geo = s.geo ∧ (State.completeCmd s u f w).lineErr = s.lineErr ∧
    (State.completeCmd s u f w).pte = s.pte ∧ (State.completeCmd s u f w).shadowNext = s.shadowNext ∧
    (State.completeCmd s u f w).heldWrites = s.heldWrites ∧ (State.completeCmd s u f w).unit = s.unit ∧
    (State.completeCmd s u f w).time = s.time ∧ (State.completeCmd s u f w).acts = s.acts ∧
    (State.completeCmd s u f w).fab = s.fab ∧ (State.completeCmd s u f w).flt = s.flt ∧ (State.completeCmd s u f w).ck = s.ck ∧
    (State.completeCmd s u f w).host = s.host ∧ (State.completeCmd s u f w).trust = s.trust := by
  unfold State.completeCmd; dsimp only; (repeat' split) <;> simp

@[simp] theorem State.copyBack_frame (s : State) :
    (State.copyBack s).pending = s.pending ∧ (State.copyBack s).freeIdx = s.freeIdx ∧ (State.copyBack s).out = s.out ∧
    (State.copyBack s).dev = s.dev ∧ (State.copyBack s).pwr = s.pwr ∧ (State.copyBack s).geo = s.geo ∧
    (State.copyBack s).shadowNext = s.shadowNext ∧ (State.copyBack s).unit = s.unit ∧ (State.copyBack s).plan = s.plan ∧
    (State.copyBack s).time = s.time ∧ (State.copyBack s).acts = s.acts ∧ (State.copyBack s).flt = s.flt ∧
    (State.copyBack s).ck = s.ck ∧ (State.copyBack s).host = s.host ∧ (State.copyBack s).trust = s.trust ∧
    (State.copyBack s).cnt = s.cnt := by
  simp [State.copyBack]

@[simp] theorem State.copyEntries_frame (s : State) (req : Nat) (r : Ring) (data : List Byte) (n : Nat) :
    (State.copyEntries s req r data n).pending = s.pending ∧ (State.copyEntries s req r data n).freeIdx = s.freeIdx ∧
    (State.copyEntries s req r data n).out = s.out ∧ (State.copyEntries s req r data n).dev = s.dev ∧
    (State.copyEntries s req r data n).pwr = s.pwr ∧ (State.copyEntries s req r data n).geo = s.geo ∧
    (State.copyEntries s req r data n).unit = s.unit ∧ (State.copyEntries s req r data n).time = s.time ∧
    (State.copyEntries s req r data n).acts = s.acts ∧ (State.copyEntries s req r data n).fab = s.fab ∧
    (State.copyEntries s req r data n).ck = s.ck ∧ (State.copyEntries s req r data n).host = s.host := by
  simp [State.copyEntries]

@[simp] theorem State.copyPage_frame (s : State) (p : Nat) :
    (State.copyPage s p).pending = s.pending ∧ (State.copyPage s p).freeIdx = s.freeIdx ∧ (State.copyPage s p).out = s.out ∧
    (State.copyPage s p).dev = s.dev ∧ (State.copyPage s p).pwr = s.pwr ∧ (State.copyPage s p).geo = s.geo ∧
    (State.copyPage s p).shadowNext = s.shadowNext ∧ (State.copyPage s p).unit = s.unit ∧ (State.copyPage s p).time = s.time ∧
    (State.copyPage s p).acts = s.acts ∧ (State.copyPage s p).fab = s.fab ∧ (State.copyPage s p).ck = s.ck ∧
    (State.copyPage s p).host = s.host := by
  simp [State.copyPage]

@[simp] theorem State.emptyCarries_frame (s : State) :
    (State.emptyCarries s).pending = s.pending ∧ (State.emptyCarries s).freeIdx = s.freeIdx ∧ (State.emptyCarries s).out = s.out ∧
    (State.emptyCarries s).dev = s.dev ∧ (State.emptyCarries s).pwr = s.pwr ∧ (State.emptyCarries s).geo = s.geo ∧
    (State.emptyCarries s).mem = s.mem ∧ (State.emptyCarries s).lineErr = s.lineErr ∧ (State.emptyCarries s).pte = s.pte ∧
    (State.emptyCarries s).shadowNext = s.shadowNext ∧ (State.emptyCarries s).heldWrites = s.heldWrites ∧
    (State.emptyCarries s).unit = s.unit ∧ (State.emptyCarries s).time = s.time ∧ (State.emptyCarries s).acts = s.acts ∧
    (State.emptyCarries s).fab = s.fab ∧ (State.emptyCarries s).flt = s.flt ∧ (State.emptyCarries s).ck = s.ck ∧
    (State.emptyCarries s).host = s.host ∧ (State.emptyCarries s).trust = s.trust := by
  simp [State.emptyCarries]

@[simp] theorem State.writeStepRecord_frame (s : State) (step : Nat) (variant : Nat) :
    (State.writeStepRecord s step variant).pending = s.pending ∧ (State.writeStepRecord s step variant).freeIdx = s.freeIdx ∧
    (State.writeStepRecord s step variant).out = s.out ∧ (State.writeStepRecord s step variant).dev = s.dev ∧
    (State.writeStepRecord s step variant).pwr = s.pwr ∧ (State.writeStepRecord s step variant).geo = s.geo ∧
    (State.writeStepRecord s step variant).unit = s.unit ∧ (State.writeStepRecord s step variant).time = s.time ∧
    (State.writeStepRecord s step variant).acts = s.acts ∧ (State.writeStepRecord s step variant).fab = s.fab ∧
    (State.writeStepRecord s step variant).ck = s.ck ∧ (State.writeStepRecord s step variant).host = s.host := by
  simp [State.writeStepRecord]

@[simp] theorem State.regear_frame (s : State) :
    (State.regear s).pending = s.pending ∧ (State.regear s).out = s.out ∧ (State.regear s).dev = s.dev ∧
    (State.regear s).pwr = s.pwr ∧ (State.regear s).lineErr = s.lineErr ∧ (State.regear s).pte = s.pte ∧
    (State.regear s).shadowNext = s.shadowNext ∧ (State.regear s).heldWrites = s.heldWrites ∧ (State.regear s).time = s.time ∧
    (State.regear s).acts = s.acts ∧ (State.regear s).fab = s.fab ∧ (State.regear s).flt = s.flt ∧ (State.regear s).ck = s.ck ∧
    (State.regear s).host = s.host := by
  simp [State.regear]

@[simp] theorem State.residency_frame (s : State) (r : Nat) :
    (State.residency s r).pending = s.pending ∧ (State.residency s r).freeIdx = s.freeIdx ∧ (State.residency s r).out = s.out ∧
    (State.residency s r).dev = s.dev ∧ (State.residency s r).pwr = s.pwr ∧ (State.residency s r).geo = s.geo ∧
    (State.residency s r).time = s.time ∧ (State.residency s r).acts = s.acts ∧ (State.residency s r).fab = s.fab ∧
    (State.residency s r).ck = s.ck ∧ (State.residency s r).host = s.host := by
  simp [State.residency]

@[simp] theorem State.residencies_frame (s : State) :
    (State.residencies s).pending = s.pending ∧ (State.residencies s).freeIdx = s.freeIdx ∧ (State.residencies s).out = s.out ∧
    (State.residencies s).dev = s.dev ∧ (State.residencies s).pwr = s.pwr ∧ (State.residencies s).geo = s.geo ∧
    (State.residencies s).time = s.time ∧ (State.residencies s).acts = s.acts ∧ (State.residencies s).fab = s.fab ∧
    (State.residencies s).ck = s.ck ∧ (State.residencies s).host = s.host := by
  simp [State.residencies]

@[simp] theorem State.decideStep_frame (s : State) (red : Nat) :
    (State.decideStep s red).pending = s.pending ∧ (State.decideStep s red).out = s.out ∧ (State.decideStep s red).dev = s.dev ∧
    (State.decideStep s red).pwr = s.pwr ∧ (State.decideStep s red).time = s.time ∧ (State.decideStep s red).fab = s.fab ∧
    (State.decideStep s red).ck = s.ck ∧ (State.decideStep s red).host = s.host := by
  simp [State.decideStep]

@[simp] theorem State.deliver_frame (s : State) (link : Nat) (m : LinkMsg) :
    (State.deliver s link m).pending = s.pending ∧ (State.deliver s link m).dev = s.dev ∧ (State.deliver s link m).pwr = s.pwr ∧
    (State.deliver s link m).unit = s.unit ∧ (State.deliver s link m).time = s.time ∧ (State.deliver s link m).acts = s.acts ∧
    (State.deliver s link m).ck = s.ck ∧ (State.deliver s link m).host = s.host := by
  simp [State.deliver]

@[simp] theorem State.recvMarker_frame (s : State) (link : Nat) (m : EndMarker) :
    (State.recvMarker s link m).pending = s.pending ∧ (State.recvMarker s link m).freeIdx = s.freeIdx ∧
    (State.recvMarker s link m).dev = s.dev ∧ (State.recvMarker s link m).pwr = s.pwr ∧ (State.recvMarker s link m).geo = s.geo ∧
    (State.recvMarker s link m).mem = s.mem ∧ (State.recvMarker s link m).lineErr = s.lineErr ∧
    (State.recvMarker s link m).pte = s.pte ∧ (State.recvMarker s link m).shadowNext = s.shadowNext ∧
    (State.recvMarker s link m).heldWrites = s.heldWrites ∧ (State.recvMarker s link m).time = s.time ∧
    (State.recvMarker s link m).acts = s.acts ∧ (State.recvMarker s link m).flt = s.flt ∧ (State.recvMarker s link m).ck = s.ck ∧
    (State.recvMarker s link m).host = s.host ∧ (State.recvMarker s link m).trust = s.trust := by
  simp [State.recvMarker]

@[simp] theorem State.recvAnswerMarker_frame (s : State) (link : Nat) (m : EndMarker) :
    (State.recvAnswerMarker s link m).pending = s.pending ∧ (State.recvAnswerMarker s link m).freeIdx = s.freeIdx ∧
    (State.recvAnswerMarker s link m).dev = s.dev ∧ (State.recvAnswerMarker s link m).pwr = s.pwr ∧
    (State.recvAnswerMarker s link m).geo = s.geo ∧ (State.recvAnswerMarker s link m).mem = s.mem ∧
    (State.recvAnswerMarker s link m).lineErr = s.lineErr ∧ (State.recvAnswerMarker s link m).pte = s.pte ∧
    (State.recvAnswerMarker s link m).shadowNext = s.shadowNext ∧ (State.recvAnswerMarker s link m).heldWrites = s.heldWrites ∧
    (State.recvAnswerMarker s link m).unit = s.unit ∧ (State.recvAnswerMarker s link m).time = s.time ∧
    (State.recvAnswerMarker s link m).acts = s.acts ∧ (State.recvAnswerMarker s link m).flt = s.flt ∧
    (State.recvAnswerMarker s link m).ck = s.ck ∧ (State.recvAnswerMarker s link m).host = s.host ∧
    (State.recvAnswerMarker s link m).trust = s.trust := by
  simp [State.recvAnswerMarker]

@[simp] theorem State.sendMarkers_frame (s : State) (rt : Router) (router : Nat) (epoch : Nat) (lane : Nat) (counts : Nat → List Nat) :
    (State.sendMarkers s rt router epoch lane counts).pending = s.pending ∧
    (State.sendMarkers s rt router epoch lane counts).freeIdx = s.freeIdx ∧
    (State.sendMarkers s rt router epoch lane counts).dev = s.dev ∧
    (State.sendMarkers s rt router epoch lane counts).pwr = s.pwr ∧
    (State.sendMarkers s rt router epoch lane counts).geo = s.geo ∧
    (State.sendMarkers s rt router epoch lane counts).mem = s.mem ∧
    (State.sendMarkers s rt router epoch lane counts).lineErr = s.lineErr ∧
    (State.sendMarkers s rt router epoch lane counts).pte = s.pte ∧
    (State.sendMarkers s rt router epoch lane counts).shadowNext = s.shadowNext ∧
    (State.sendMarkers s rt router epoch lane counts).heldWrites = s.heldWrites ∧
    (State.sendMarkers s rt router epoch lane counts).time = s.time ∧
    (State.sendMarkers s rt router epoch lane counts).acts = s.acts ∧
    (State.sendMarkers s rt router epoch lane counts).flt = s.flt ∧ (State.sendMarkers s rt router epoch lane counts).ck = s.ck ∧
    (State.sendMarkers s rt router epoch lane counts).host = s.host ∧
    (State.sendMarkers s rt router epoch lane counts).trust = s.trust := by
  simp [State.sendMarkers]

@[simp] theorem State.dispatchCmd_frame (s : State) (h : Nat) (d : Nat) :
    (State.dispatchCmd s h d).pending = s.pending ∧ (State.dispatchCmd s h d).dev = s.dev ∧
    (State.dispatchCmd s h d).pwr = s.pwr ∧ (State.dispatchCmd s h d).time = s.time ∧ (State.dispatchCmd s h d).acts = s.acts ∧
    (State.dispatchCmd s h d).ck = s.ck ∧ (State.dispatchCmd s h d).host = s.host := by
  unfold State.dispatchCmd; dsimp only; split <;> simp

@[simp] theorem State.enterFaulted_frame (s : State) :
    (State.enterFaulted s).pending = s.pending ∧ (State.enterFaulted s).pwr = s.pwr ∧ (State.enterFaulted s).geo = s.geo ∧
    (State.enterFaulted s).time = s.time ∧ (State.enterFaulted s).acts = s.acts := by
  simp [State.enterFaulted]

@[simp] theorem State.enterHeld_frame (s : State) (hold : Option (Queued × Command)) (stopped : Bool) :
    (State.enterHeld s hold stopped).pending = s.pending ∧ (State.enterHeld s hold stopped).freeIdx = s.freeIdx ∧
    (State.enterHeld s hold stopped).pwr = s.pwr ∧ (State.enterHeld s hold stopped).geo = s.geo ∧
    (State.enterHeld s hold stopped).mem = s.mem ∧ (State.enterHeld s hold stopped).lineErr = s.lineErr ∧
    (State.enterHeld s hold stopped).pte = s.pte ∧ (State.enterHeld s hold stopped).shadowNext = s.shadowNext ∧
    (State.enterHeld s hold stopped).heldWrites = s.heldWrites ∧ (State.enterHeld s hold stopped).unit = s.unit ∧
    (State.enterHeld s hold stopped).plan = s.plan ∧ (State.enterHeld s hold stopped).time = s.time ∧
    (State.enterHeld s hold stopped).acts = s.acts ∧ (State.enterHeld s hold stopped).fab = s.fab ∧
    (State.enterHeld s hold stopped).flt = s.flt ∧ (State.enterHeld s hold stopped).ck = s.ck := by
  unfold State.enterHeld; dsimp only; split <;> simp

@[simp] theorem State.enterIdle_frame (s : State) (ms : Nat) :
    (State.enterIdle s ms).pending = s.pending ∧ (State.enterIdle s ms).freeIdx = s.freeIdx ∧ (State.enterIdle s ms).pwr = s.pwr ∧
    (State.enterIdle s ms).geo = s.geo ∧ (State.enterIdle s ms).mem = s.mem ∧ (State.enterIdle s ms).lineErr = s.lineErr ∧
    (State.enterIdle s ms).shadowNext = s.shadowNext ∧ (State.enterIdle s ms).heldWrites = s.heldWrites ∧
    (State.enterIdle s ms).unit = s.unit ∧ (State.enterIdle s ms).plan = s.plan ∧ (State.enterIdle s ms).time = s.time ∧
    (State.enterIdle s ms).acts = s.acts ∧ (State.enterIdle s ms).fab = s.fab ∧ (State.enterIdle s ms).flt = s.flt ∧
    (State.enterIdle s ms).ck = s.ck := by
  simp [State.enterIdle]

@[simp] theorem State.entryDone_frame (s : State) (e : Entry) :
    (State.entryDone s e).pending = s.pending ∧ (State.entryDone s e).freeIdx = s.freeIdx ∧ (State.entryDone s e).out = s.out ∧
    (State.entryDone s e).dev = s.dev ∧ (State.entryDone s e).pwr = s.pwr ∧ (State.entryDone s e).geo = s.geo ∧
    (State.entryDone s e).mem = s.mem ∧ (State.entryDone s e).lineErr = s.lineErr ∧ (State.entryDone s e).pte = s.pte ∧
    (State.entryDone s e).shadowNext = s.shadowNext ∧ (State.entryDone s e).heldWrites = s.heldWrites ∧
    (State.entryDone s e).unit = s.unit ∧ (State.entryDone s e).time = s.time ∧ (State.entryDone s e).acts = s.acts ∧
    (State.entryDone s e).fab = s.fab ∧ (State.entryDone s e).flt = s.flt ∧ (State.entryDone s e).ck = s.ck ∧
    (State.entryDone s e).host = s.host ∧ (State.entryDone s e).trust = s.trust := by
  simp [State.entryDone]

@[simp] theorem State.failStep_frame (s : State) (n : Nat) (ms : Nat) (warm : Bool) :
    (State.failStep s n ms warm).pending = s.pending ∧ (State.failStep s n ms warm).freeIdx = s.freeIdx ∧
    (State.failStep s n ms warm).out = s.out ∧ (State.failStep s n ms warm).pwr = s.pwr ∧
    (State.failStep s n ms warm).geo = s.geo ∧ (State.failStep s n ms warm).mem = s.mem ∧
    (State.failStep s n ms warm).lineErr = s.lineErr ∧ (State.failStep s n ms warm).pte = s.pte ∧
    (State.failStep s n ms warm).shadowNext = s.shadowNext ∧ (State.failStep s n ms warm).heldWrites = s.heldWrites ∧
    (State.failStep s n ms warm).unit = s.unit ∧ (State.failStep s n ms warm).plan = s.plan ∧
    (State.failStep s n ms warm).time = s.time ∧ (State.failStep s n ms warm).acts = s.acts ∧
    (State.failStep s n ms warm).fab = s.fab ∧ (State.failStep s n ms warm).flt = s.flt ∧ (State.failStep s n ms warm).ck = s.ck ∧
    (State.failStep s n ms warm).host = s.host ∧ (State.failStep s n ms warm).trust = s.trust ∧
    (State.failStep s n ms warm).cnt = s.cnt := by
  simp [State.failStep]

@[simp] theorem State.failStream_frame (s : State) (code : Nat) :
    (State.failStream s code).pending = s.pending ∧ (State.failStream s code).dev = s.dev ∧
    (State.failStream s code).pwr = s.pwr ∧ (State.failStream s code).geo = s.geo ∧ (State.failStream s code).mem = s.mem ∧
    (State.failStream s code).shadowNext = s.shadowNext ∧ (State.failStream s code).heldWrites = s.heldWrites ∧
    (State.failStream s code).unit = s.unit ∧ (State.failStream s code).time = s.time ∧ (State.failStream s code).acts = s.acts ∧
    (State.failStream s code).fab = s.fab ∧ (State.failStream s code).flt = s.flt := by
  simp [State.failStream]

@[simp] theorem State.fallShort_frame (s : State) (idx : Nat) (id : Nat) (t : Nat) :
    (State.fallShort s idx id t).pending = s.pending ∧ (State.fallShort s idx id t).freeIdx = s.freeIdx ∧
    (State.fallShort s idx id t).out = s.out ∧ (State.fallShort s idx id t).dev = s.dev ∧
    (State.fallShort s idx id t).pwr = s.pwr ∧ (State.fallShort s idx id t).geo = s.geo ∧
    (State.fallShort s idx id t).mem = s.mem ∧ (State.fallShort s idx id t).lineErr = s.lineErr ∧
    (State.fallShort s idx id t).pte = s.pte ∧ (State.fallShort s idx id t).shadowNext = s.shadowNext ∧
    (State.fallShort s idx id t).heldWrites = s.heldWrites ∧ (State.fallShort s idx id t).unit = s.unit ∧
    (State.fallShort s idx id t).time = s.time ∧ (State.fallShort s idx id t).acts = s.acts ∧
    (State.fallShort s idx id t).fab = s.fab ∧ (State.fallShort s idx id t).flt = s.flt ∧ (State.fallShort s idx id t).ck = s.ck ∧
    (State.fallShort s idx id t).host = s.host ∧ (State.fallShort s idx id t).trust = s.trust := by
  simp [State.fallShort]

@[simp] theorem State.fenceCore_frame (s : State) (origin : Nat × Nat) (kind : Nat) (n : Nat) (pos : Nat) :
    (State.fenceCore s origin kind n pos).pending = s.pending ∧ (State.fenceCore s origin kind n pos).out = s.out ∧
    (State.fenceCore s origin kind n pos).dev = s.dev ∧ (State.fenceCore s origin kind n pos).pwr = s.pwr ∧
    (State.fenceCore s origin kind n pos).time = s.time ∧ (State.fenceCore s origin kind n pos).acts = s.acts ∧
    (State.fenceCore s origin kind n pos).fab = s.fab ∧ (State.fenceCore s origin kind n pos).ck = s.ck ∧
    (State.fenceCore s origin kind n pos).host = s.host := by
  simp [State.fenceCore]

@[simp] theorem State.haltStop_frame (s : State) (origin : Nat × Nat) (entry : Option Nat) :
    (State.haltStop s origin entry).pending = s.pending ∧ (State.haltStop s origin entry).dev = s.dev ∧
    (State.haltStop s origin entry).pwr = s.pwr ∧ (State.haltStop s origin entry).geo = s.geo ∧
    (State.haltStop s origin entry).time = s.time ∧ (State.haltStop s origin entry).acts = s.acts := by
  unfold State.haltStop; dsimp only; split <;> simp

@[simp] theorem State.haltCore_frame (s : State) (origin : Nat × Nat) (entry : Option Nat) :
    (State.haltCore s origin entry).pending = s.pending ∧ (State.haltCore s origin entry).pwr = s.pwr ∧
    (State.haltCore s origin entry).geo = s.geo ∧ (State.haltCore s origin entry).time = s.time ∧
    (State.haltCore s origin entry).acts = s.acts := by
  simp [State.haltCore]

@[simp] theorem State.haltActions_frame (s : State) (origin : Nat × Nat) (entry : Option Nat) :
    (State.haltActions s origin entry).pending = s.pending ∧ (State.haltActions s origin entry).pwr = s.pwr ∧
    (State.haltActions s origin entry).geo = s.geo ∧ (State.haltActions s origin entry).time = s.time ∧
    (State.haltActions s origin entry).acts = s.acts := by
  simp [State.haltActions]

@[simp] theorem State.keepReps_frame (s : State) :
    (State.keepReps s).pending = s.pending ∧ (State.keepReps s).freeIdx = s.freeIdx ∧ (State.keepReps s).out = s.out ∧
    (State.keepReps s).dev = s.dev ∧ (State.keepReps s).pwr = s.pwr ∧ (State.keepReps s).geo = s.geo ∧
    (State.keepReps s).mem = s.mem ∧ (State.keepReps s).lineErr = s.lineErr ∧ (State.keepReps s).pte = s.pte ∧
    (State.keepReps s).shadowNext = s.shadowNext ∧ (State.keepReps s).heldWrites = s.heldWrites ∧
    (State.keepReps s).unit = s.unit ∧ (State.keepReps s).time = s.time ∧ (State.keepReps s).acts = s.acts ∧
    (State.keepReps s).fab = s.fab ∧ (State.keepReps s).flt = s.flt ∧ (State.keepReps s).ck = s.ck ∧
    (State.keepReps s).host = s.host ∧ (State.keepReps s).trust = s.trust ∧ (State.keepReps s).cnt = s.cnt := by
  simp [State.keepReps]

@[simp] theorem State.latePartial_frame (s : State) (p : Nat) (addr : Nat) :
    (State.latePartial s p addr).pending = s.pending ∧ (State.latePartial s p addr).freeIdx = s.freeIdx ∧
    (State.latePartial s p addr).out = s.out ∧ (State.latePartial s p addr).dev = s.dev ∧
    (State.latePartial s p addr).pwr = s.pwr ∧ (State.latePartial s p addr).geo = s.geo ∧
    (State.latePartial s p addr).mem = s.mem ∧ (State.latePartial s p addr).lineErr = s.lineErr ∧
    (State.latePartial s p addr).pte = s.pte ∧ (State.latePartial s p addr).shadowNext = s.shadowNext ∧
    (State.latePartial s p addr).heldWrites = s.heldWrites ∧ (State.latePartial s p addr).unit = s.unit ∧
    (State.latePartial s p addr).time = s.time ∧ (State.latePartial s p addr).acts = s.acts ∧
    (State.latePartial s p addr).fab = s.fab ∧ (State.latePartial s p addr).flt = s.flt ∧ (State.latePartial s p addr).ck = s.ck ∧
    (State.latePartial s p addr).host = s.host ∧ (State.latePartial s p addr).trust = s.trust := by
  unfold State.latePartial; dsimp only; split <;> simp

@[simp] theorem State.leadMap_frame (s : State) (p : Paging) :
    (State.leadMap s p).pending = s.pending ∧ (State.leadMap s p).freeIdx = s.freeIdx ∧ (State.leadMap s p).dev = s.dev ∧
    (State.leadMap s p).pwr = s.pwr ∧ (State.leadMap s p).geo = s.geo ∧ (State.leadMap s p).time = s.time ∧
    (State.leadMap s p).acts = s.acts ∧ (State.leadMap s p).ck = s.ck ∧ (State.leadMap s p).host = s.host := by
  simp [State.leadMap]

@[simp] theorem State.loadPages_frame (s : State) (l : List (Nat × List Byte)) :
    (State.loadPages s l).1.pending = s.pending ∧ (State.loadPages s l).1.freeIdx = s.freeIdx ∧
    (State.loadPages s l).1.out = s.out ∧ (State.loadPages s l).1.dev = s.dev ∧ (State.loadPages s l).1.pwr = s.pwr ∧
    (State.loadPages s l).1.geo = s.geo ∧ (State.loadPages s l).1.shadowNext = s.shadowNext ∧
    (State.loadPages s l).1.heldWrites = s.heldWrites ∧ (State.loadPages s l).1.unit = s.unit ∧
    (State.loadPages s l).1.time = s.time ∧ (State.loadPages s l).1.acts = s.acts ∧ (State.loadPages s l).1.fab = s.fab ∧
    (State.loadPages s l).1.flt = s.flt ∧ (State.loadPages s l).1.ck = s.ck ∧ (State.loadPages s l).1.host = s.host := by
  simp [State.loadPages]

@[simp] theorem State.loadPlan_frame (s : State) (base : Nat) (len : Nat) :
    (State.loadPlan s base len).pending = s.pending ∧ (State.loadPlan s base len).out = s.out ∧
    (State.loadPlan s base len).lineErr = s.lineErr ∧ (State.loadPlan s base len).heldWrites = s.heldWrites ∧
    (State.loadPlan s base len).time = s.time ∧ (State.loadPlan s base len).acts = s.acts ∧
    (State.loadPlan s base len).fab = s.fab ∧ (State.loadPlan s base len).flt = s.flt ∧ (State.loadPlan s base len).ck = s.ck ∧
    (State.loadPlan s base len).host = s.host ∧ (State.loadPlan s base len).trust = s.trust := by
  simp [State.loadPlan]

@[simp] theorem State.logTrip_frame (s : State) :
    (State.logTrip s).pending = s.pending ∧ (State.logTrip s).freeIdx = s.freeIdx ∧ (State.logTrip s).out = s.out ∧
    (State.logTrip s).pwr = s.pwr ∧ (State.logTrip s).geo = s.geo ∧ (State.logTrip s).mem = s.mem ∧
    (State.logTrip s).lineErr = s.lineErr ∧ (State.logTrip s).pte = s.pte ∧ (State.logTrip s).shadowNext = s.shadowNext ∧
    (State.logTrip s).heldWrites = s.heldWrites ∧ (State.logTrip s).unit = s.unit ∧ (State.logTrip s).plan = s.plan ∧
    (State.logTrip s).time = s.time ∧ (State.logTrip s).acts = s.acts ∧ (State.logTrip s).fab = s.fab ∧
    (State.logTrip s).flt = s.flt ∧ (State.logTrip s).ck = s.ck ∧ (State.logTrip s).host = s.host ∧
    (State.logTrip s).cnt = s.cnt := by
  simp [State.logTrip]

@[simp] theorem State.moveSteward_frame (s : State) (origin : Nat × Nat) (q : Nat) :
    (State.moveSteward s origin q).pending = s.pending ∧ (State.moveSteward s origin q).freeIdx = s.freeIdx ∧
    (State.moveSteward s origin q).dev = s.dev ∧ (State.moveSteward s origin q).pwr = s.pwr ∧
    (State.moveSteward s origin q).geo = s.geo ∧ (State.moveSteward s origin q).mem = s.mem ∧
    (State.moveSteward s origin q).lineErr = s.lineErr ∧ (State.moveSteward s origin q).pte = s.pte ∧
    (State.moveSteward s origin q).shadowNext = s.shadowNext ∧ (State.moveSteward s origin q).heldWrites = s.heldWrites ∧
    (State.moveSteward s origin q).unit = s.unit ∧ (State.moveSteward s origin q).plan = s.plan ∧
    (State.moveSteward s origin q).time = s.time ∧ (State.moveSteward s origin q).acts = s.acts ∧
    (State.moveSteward s origin q).fab = s.fab ∧ (State.moveSteward s origin q).flt = s.flt ∧
    (State.moveSteward s origin q).ck = s.ck := by
  simp [State.moveSteward]

@[simp] theorem State.moveSwap_frame (s : State) (rt : Router) (x : Swap) :
    (State.moveSwap s rt x).pending = s.pending ∧ (State.moveSwap s rt x).dev = s.dev ∧ (State.moveSwap s rt x).pwr = s.pwr ∧
    (State.moveSwap s rt x).geo = s.geo ∧ (State.moveSwap s rt x).unit = s.unit ∧ (State.moveSwap s rt x).time = s.time ∧
    (State.moveSwap s rt x).acts = s.acts ∧ (State.moveSwap s rt x).ck = s.ck ∧ (State.moveSwap s rt x).host = s.host := by
  simp [State.moveSwap]

@[simp] theorem State.muleOverlap_frame (s : State) (n : Nat) (d : Nat) (c : MuleCmd) (capped : Bool) :
    (State.muleOverlap s n d c capped).pending = s.pending ∧ (State.muleOverlap s n d c capped).freeIdx = s.freeIdx ∧
    (State.muleOverlap s n d c capped).out = s.out ∧ (State.muleOverlap s n d c capped).dev = s.dev ∧
    (State.muleOverlap s n d c capped).pwr = s.pwr ∧ (State.muleOverlap s n d c capped).geo = s.geo ∧
    (State.muleOverlap s n d c capped).mem = s.mem ∧ (State.muleOverlap s n d c capped).lineErr = s.lineErr ∧
    (State.muleOverlap s n d c capped).pte = s.pte ∧ (State.muleOverlap s n d c capped).shadowNext = s.shadowNext ∧
    (State.muleOverlap s n d c capped).heldWrites = s.heldWrites ∧ (State.muleOverlap s n d c capped).plan = s.plan ∧
    (State.muleOverlap s n d c capped).time = s.time ∧ (State.muleOverlap s n d c capped).acts = s.acts ∧
    (State.muleOverlap s n d c capped).fab = s.fab ∧ (State.muleOverlap s n d c capped).flt = s.flt ∧
    (State.muleOverlap s n d c capped).ck = s.ck ∧ (State.muleOverlap s n d c capped).host = s.host ∧
    (State.muleOverlap s n d c capped).trust = s.trust ∧ (State.muleOverlap s n d c capped).cnt = s.cnt := by
  simp [State.muleOverlap]

@[simp] theorem State.muleCopy_frame (s : State) (n : Nat) (d : Nat) :
    (State.muleCopy s n d).pending = s.pending ∧ (State.muleCopy s n d).out = s.out ∧ (State.muleCopy s n d).dev = s.dev ∧
    (State.muleCopy s n d).pwr = s.pwr ∧ (State.muleCopy s n d).time = s.time ∧ (State.muleCopy s n d).acts = s.acts ∧
    (State.muleCopy s n d).fab = s.fab ∧ (State.muleCopy s n d).ck = s.ck ∧ (State.muleCopy s n d).host = s.host := by
  unfold State.muleCopy; dsimp only; split <;> simp

@[simp] theorem State.ok_frame (s : State) (p : Nat) (m : Nat) (body : List Byte) :
    (State.ok s p m body).pending = s.pending ∧ (State.ok s p m body).freeIdx = s.freeIdx ∧ (State.ok s p m body).out = s.out ∧
    (State.ok s p m body).dev = s.dev ∧ (State.ok s p m body).pwr = s.pwr ∧ (State.ok s p m body).geo = s.geo ∧
    (State.ok s p m body).mem = s.mem ∧ (State.ok s p m body).lineErr = s.lineErr ∧ (State.ok s p m body).pte = s.pte ∧
    (State.ok s p m body).shadowNext = s.shadowNext ∧ (State.ok s p m body).heldWrites = s.heldWrites ∧
    (State.ok s p m body).unit = s.unit ∧ (State.ok s p m body).plan = s.plan ∧ (State.ok s p m body).time = s.time ∧
    (State.ok s p m body).acts = s.acts ∧ (State.ok s p m body).fab = s.fab ∧ (State.ok s p m body).flt = s.flt ∧
    (State.ok s p m body).ck = s.ck ∧ (State.ok s p m body).trust = s.trust ∧ (State.ok s p m body).cnt = s.cnt := by
  simp [State.ok]

@[simp] theorem State.passCmd_frame (s : State) (u : Nat) (d : Nat) (t : Stream) :
    (State.passCmd s u d t).pending = s.pending ∧ (State.passCmd s u d t).freeIdx = s.freeIdx ∧
    (State.passCmd s u d t).out = s.out ∧ (State.passCmd s u d t).dev = s.dev ∧ (State.passCmd s u d t).pwr = s.pwr ∧
    (State.passCmd s u d t).geo = s.geo ∧ (State.passCmd s u d t).mem = s.mem ∧ (State.passCmd s u d t).lineErr = s.lineErr ∧
    (State.passCmd s u d t).pte = s.pte ∧ (State.passCmd s u d t).shadowNext = s.shadowNext ∧
    (State.passCmd s u d t).heldWrites = s.heldWrites ∧ (State.passCmd s u d t).time = s.time ∧
    (State.passCmd s u d t).acts = s.acts ∧ (State.passCmd s u d t).fab = s.fab ∧ (State.passCmd s u d t).flt = s.flt ∧
    (State.passCmd s u d t).ck = s.ck ∧ (State.passCmd s u d t).host = s.host ∧ (State.passCmd s u d t).trust = s.trust := by
  simp [State.passCmd]

@[simp] theorem State.pokeImage_frame (s : State) (e : Nat) :
    (State.pokeImage s e).pending = s.pending ∧ (State.pokeImage s e).freeIdx = s.freeIdx ∧ (State.pokeImage s e).out = s.out ∧
    (State.pokeImage s e).dev = s.dev ∧ (State.pokeImage s e).pwr = s.pwr ∧ (State.pokeImage s e).geo = s.geo ∧
    (State.pokeImage s e).lineErr = s.lineErr ∧ (State.pokeImage s e).pte = s.pte ∧
    (State.pokeImage s e).shadowNext = s.shadowNext ∧ (State.pokeImage s e).heldWrites = s.heldWrites ∧
    (State.pokeImage s e).unit = s.unit ∧ (State.pokeImage s e).plan = s.plan ∧ (State.pokeImage s e).time = s.time ∧
    (State.pokeImage s e).acts = s.acts ∧ (State.pokeImage s e).fab = s.fab ∧ (State.pokeImage s e).flt = s.flt ∧
    (State.pokeImage s e).ck = s.ck ∧ (State.pokeImage s e).host = s.host ∧ (State.pokeImage s e).trust = s.trust ∧
    (State.pokeImage s e).cnt = s.cnt := by
  simp [State.pokeImage]

@[simp] theorem State.powerOn_frame (s : State) :
    (State.powerOn s).pending = s.pending ∧ (State.powerOn s).freeIdx = s.freeIdx ∧ (State.powerOn s).pwr = s.pwr ∧
    (State.powerOn s).geo = s.geo ∧ (State.powerOn s).mem = s.mem ∧ (State.powerOn s).lineErr = s.lineErr ∧
    (State.powerOn s).pte = s.pte ∧ (State.powerOn s).shadowNext = s.shadowNext ∧ (State.powerOn s).heldWrites = s.heldWrites ∧
    (State.powerOn s).unit = s.unit ∧ (State.powerOn s).plan = s.plan ∧ (State.powerOn s).time = s.time ∧
    (State.powerOn s).acts = s.acts ∧ (State.powerOn s).fab = s.fab ∧ (State.powerOn s).flt = s.flt ∧
    (State.powerOn s).ck = s.ck := by
  simp [State.powerOn]

@[simp] theorem State.prunePaging_frame (s : State) :
    (State.prunePaging s).pending = s.pending ∧ (State.prunePaging s).freeIdx = s.freeIdx ∧ (State.prunePaging s).out = s.out ∧
    (State.prunePaging s).dev = s.dev ∧ (State.prunePaging s).pwr = s.pwr ∧ (State.prunePaging s).geo = s.geo ∧
    (State.prunePaging s).mem = s.mem ∧ (State.prunePaging s).lineErr = s.lineErr ∧ (State.prunePaging s).pte = s.pte ∧
    (State.prunePaging s).shadowNext = s.shadowNext ∧ (State.prunePaging s).heldWrites = s.heldWrites ∧
    (State.prunePaging s).plan = s.plan ∧ (State.prunePaging s).time = s.time ∧ (State.prunePaging s).acts = s.acts ∧
    (State.prunePaging s).fab = s.fab ∧ (State.prunePaging s).flt = s.flt ∧ (State.prunePaging s).ck = s.ck ∧
    (State.prunePaging s).host = s.host ∧ (State.prunePaging s).trust = s.trust ∧ (State.prunePaging s).cnt = s.cnt := by
  simp [State.prunePaging]

@[simp] theorem State.reduceHop_frame (s : State) (p : Nat) (d : Nat) (c : LinkCmd) :
    (State.reduceHop s p d c).pending = s.pending ∧ (State.reduceHop s p d c).dev = s.dev ∧
    (State.reduceHop s p d c).pwr = s.pwr ∧ (State.reduceHop s p d c).time = s.time ∧ (State.reduceHop s p d c).acts = s.acts ∧
    (State.reduceHop s p d c).ck = s.ck ∧ (State.reduceHop s p d c).host = s.host := by
  unfold State.reduceHop
  extract_lets own up s1
  have h1 : s1.pending = s.pending ∧ s1.dev = s.dev ∧ s1.pwr = s.pwr ∧ s1.time = s.time ∧
      s1.acts = s.acts ∧ s1.ck = s.ck ∧ s1.host = s.host := by
    simp [s1]
  split
  rename_i src s2 hr
  have h2 : s2.pending = s.pending ∧ s2.dev = s.dev ∧ s2.pwr = s.pwr ∧ s2.time = s.time ∧
      s2.acts = s.acts ∧ s2.ck = s.ck ∧ s2.host = s.host := by
    have e : s2 = (s1.linkRead p c.src (if c.tr then s1.trailerBytes else c.cBytes)).2 := by rw [hr]
    rw [e]; simpa using h1
  extract_lets cy carry s3 r ps s4 s5 s6 code dst ex s7
  have h3 : s3.pending = s.pending ∧ s3.dev = s.dev ∧ s3.pwr = s.pwr ∧ s3.time = s.time ∧
      s3.acts = s.acts ∧ s3.ck = s.ck ∧ s3.host = s.host := by
    clear_value cy; simp only [s3]
    rcases cy with _ | y
    · exact h2
    · dsimp only; split <;> simpa using h2
  clear_value s3
  have h4 : s4.pending = s.pending ∧ s4.dev = s.dev ∧ s4.pwr = s.pwr ∧ s4.time = s.time ∧
      s4.acts = s.acts ∧ s4.ck = s.ck ∧ s4.host = s.host := by
    simp only [s4]; split <;> simpa using h3
  clear_value s4
  have h5 : s5.pending = s.pending ∧ s5.dev = s.dev ∧ s5.pwr = s.pwr ∧ s5.time = s.time ∧
      s5.acts = s.acts ∧ s5.ck = s.ck ∧ s5.host = s.host := by
    simp only [s5]; split <;> simpa using h4
  clear_value s5
  have h6 : s6.pending = s.pending ∧ s6.dev = s.dev ∧ s6.pwr = s.pwr ∧ s6.time = s.time ∧
      s6.acts = s.acts ∧ s6.ck = s.ck ∧ s6.host = s.host := by
    simp only [s6]; split <;> simpa using h5
  clear_value s6
  have h7 : s7.pending = s.pending ∧ s7.dev = s.dev ∧ s7.pwr = s.pwr ∧ s7.time = s.time ∧
      s7.acts = s.acts ∧ s7.ck = s.ck ∧ s7.host = s.host := by
    simp only [s7]; split <;> simpa using h6
  clear_value s7
  simpa using h7

@[simp] theorem State.reloadLog_frame (s : State) :
    (State.reloadLog s).pending = s.pending ∧ (State.reloadLog s).freeIdx = s.freeIdx ∧ (State.reloadLog s).out = s.out ∧
    (State.reloadLog s).dev = s.dev ∧ (State.reloadLog s).pwr = s.pwr ∧ (State.reloadLog s).geo = s.geo ∧
    (State.reloadLog s).mem = s.mem ∧ (State.reloadLog s).lineErr = s.lineErr ∧ (State.reloadLog s).pte = s.pte ∧
    (State.reloadLog s).shadowNext = s.shadowNext ∧ (State.reloadLog s).heldWrites = s.heldWrites ∧
    (State.reloadLog s).unit = s.unit ∧ (State.reloadLog s).plan = s.plan ∧ (State.reloadLog s).time = s.time ∧
    (State.reloadLog s).acts = s.acts ∧ (State.reloadLog s).fab = s.fab ∧ (State.reloadLog s).flt = s.flt ∧
    (State.reloadLog s).ck = s.ck ∧ (State.reloadLog s).host = s.host ∧ (State.reloadLog s).cnt = s.cnt := by
  simp [State.reloadLog]

@[simp] theorem State.removeRemap_frame (origin : Nat × Nat) (s : State) (j : Nat) :
    (State.removeRemap origin s j).pending = s.pending ∧ (State.removeRemap origin s j).freeIdx = s.freeIdx ∧
    (State.removeRemap origin s j).out = s.out ∧ (State.removeRemap origin s j).dev = s.dev ∧
    (State.removeRemap origin s j).pwr = s.pwr ∧ (State.removeRemap origin s j).geo = s.geo ∧
    (State.removeRemap origin s j).mem = s.mem ∧ (State.removeRemap origin s j).lineErr = s.lineErr ∧
    (State.removeRemap origin s j).pte = s.pte ∧ (State.removeRemap origin s j).shadowNext = s.shadowNext ∧
    (State.removeRemap origin s j).heldWrites = s.heldWrites ∧ (State.removeRemap origin s j).unit = s.unit ∧
    (State.removeRemap origin s j).plan = s.plan ∧ (State.removeRemap origin s j).time = s.time ∧
    (State.removeRemap origin s j).acts = s.acts ∧ (State.removeRemap origin s j).flt = s.flt ∧
    (State.removeRemap origin s j).ck = s.ck ∧ (State.removeRemap origin s j).host = s.host ∧
    (State.removeRemap origin s j).cnt = s.cnt := by
  simp [State.removeRemap]

@[simp] theorem State.resetPeriod_frame (s : State) (n : Nat) :
    (State.resetPeriod s n).pending = s.pending ∧ (State.resetPeriod s n).freeIdx = s.freeIdx ∧
    (State.resetPeriod s n).out = s.out ∧ (State.resetPeriod s n).dev = s.dev ∧ (State.resetPeriod s n).pwr = s.pwr ∧
    (State.resetPeriod s n).geo = s.geo ∧ (State.resetPeriod s n).mem = s.mem ∧ (State.resetPeriod s n).lineErr = s.lineErr ∧
    (State.resetPeriod s n).pte = s.pte ∧ (State.resetPeriod s n).shadowNext = s.shadowNext ∧
    (State.resetPeriod s n).heldWrites = s.heldWrites ∧ (State.resetPeriod s n).unit = s.unit ∧
    (State.resetPeriod s n).time = s.time ∧ (State.resetPeriod s n).acts = s.acts ∧ (State.resetPeriod s n).fab = s.fab ∧
    (State.resetPeriod s n).flt = s.flt ∧ (State.resetPeriod s n).ck = s.ck ∧ (State.resetPeriod s n).host = s.host ∧
    (State.resetPeriod s n).trust = s.trust ∧ (State.resetPeriod s n).cnt = s.cnt := by
  simp [State.resetPeriod]

@[simp] theorem State.restoreBegin_frame (s : State) (o : Nat × Nat) :
    (State.restoreBegin s o).pending = s.pending ∧ (State.restoreBegin s o).dev = s.dev ∧ (State.restoreBegin s o).pwr = s.pwr ∧
    (State.restoreBegin s o).geo = s.geo ∧ (State.restoreBegin s o).mem = s.mem ∧
    (State.restoreBegin s o).shadowNext = s.shadowNext ∧ (State.restoreBegin s o).heldWrites = s.heldWrites ∧
    (State.restoreBegin s o).unit = s.unit ∧ (State.restoreBegin s o).time = s.time ∧ (State.restoreBegin s o).acts = s.acts ∧
    (State.restoreBegin s o).fab = s.fab := by
  simp [State.restoreBegin]

@[simp] theorem State.returnCmd_frame (s : State) (h : Nat) (d : Nat) :
    (State.returnCmd s h d).pending = s.pending ∧ (State.returnCmd s h d).dev = s.dev ∧ (State.returnCmd s h d).pwr = s.pwr ∧
    (State.returnCmd s h d).time = s.time ∧ (State.returnCmd s h d).acts = s.acts ∧ (State.returnCmd s h d).ck = s.ck ∧
    (State.returnCmd s h d).host = s.host := by
  unfold State.returnCmd; dsimp only; split <;> simp

@[simp] theorem State.sendTo_frame (s : State) (p : Nat) (d : Nat) (c : LinkCmd) :
    (State.sendTo s p d c).pending = s.pending ∧ (State.sendTo s p d c).dev = s.dev ∧ (State.sendTo s p d c).pwr = s.pwr ∧
    (State.sendTo s p d c).time = s.time ∧ (State.sendTo s p d c).acts = s.acts ∧ (State.sendTo s p d c).ck = s.ck ∧
    (State.sendTo s p d c).host = s.host := by
  unfold State.sendTo; dsimp only; split <;> simp

@[simp] theorem State.setFabricCfg_frame (s : State) (v : Nat) :
    (State.setFabricCfg s v).pending = s.pending ∧ (State.setFabricCfg s v).freeIdx = s.freeIdx ∧
    (State.setFabricCfg s v).out = s.out ∧ (State.setFabricCfg s v).pwr = s.pwr ∧ (State.setFabricCfg s v).geo = s.geo ∧
    (State.setFabricCfg s v).mem = s.mem ∧ (State.setFabricCfg s v).lineErr = s.lineErr ∧ (State.setFabricCfg s v).pte = s.pte ∧
    (State.setFabricCfg s v).shadowNext = s.shadowNext ∧ (State.setFabricCfg s v).heldWrites = s.heldWrites ∧
    (State.setFabricCfg s v).unit = s.unit ∧ (State.setFabricCfg s v).plan = s.plan ∧ (State.setFabricCfg s v).time = s.time ∧
    (State.setFabricCfg s v).acts = s.acts ∧ (State.setFabricCfg s v).flt = s.flt ∧ (State.setFabricCfg s v).ck = s.ck ∧
    (State.setFabricCfg s v).host = s.host ∧ (State.setFabricCfg s v).trust = s.trust ∧ (State.setFabricCfg s v).cnt = s.cnt := by
  simp [State.setFabricCfg]

@[simp] theorem State.setTimeRole_frame (s : State) (origin : Nat × Nat) (role : Nat) :
    (State.setTimeRole s origin role).pending = s.pending ∧ (State.setTimeRole s origin role).freeIdx = s.freeIdx ∧
    (State.setTimeRole s origin role).out = s.out ∧ (State.setTimeRole s origin role).dev = s.dev ∧
    (State.setTimeRole s origin role).pwr = s.pwr ∧ (State.setTimeRole s origin role).geo = s.geo ∧
    (State.setTimeRole s origin role).mem = s.mem ∧ (State.setTimeRole s origin role).lineErr = s.lineErr ∧
    (State.setTimeRole s origin role).pte = s.pte ∧ (State.setTimeRole s origin role).shadowNext = s.shadowNext ∧
    (State.setTimeRole s origin role).heldWrites = s.heldWrites ∧ (State.setTimeRole s origin role).unit = s.unit ∧
    (State.setTimeRole s origin role).plan = s.plan ∧ (State.setTimeRole s origin role).acts = s.acts ∧
    (State.setTimeRole s origin role).fab = s.fab ∧ (State.setTimeRole s origin role).flt = s.flt ∧
    (State.setTimeRole s origin role).ck = s.ck ∧ (State.setTimeRole s origin role).host = s.host := by
  simp [State.setTimeRole]

@[simp] theorem State.setTop_frame (s : State) (u : Nat) (r : Region) (top : Nat) :
    (State.setTop s u r top).pending = s.pending ∧ (State.setTop s u r top).freeIdx = s.freeIdx ∧
    (State.setTop s u r top).out = s.out ∧ (State.setTop s u r top).dev = s.dev ∧ (State.setTop s u r top).pwr = s.pwr ∧
    (State.setTop s u r top).geo = s.geo ∧ (State.setTop s u r top).unit = s.unit ∧ (State.setTop s u r top).time = s.time ∧
    (State.setTop s u r top).acts = s.acts ∧ (State.setTop s u r top).fab = s.fab ∧ (State.setTop s u r top).ck = s.ck ∧
    (State.setTop s u r top).host = s.host := by
  simp [State.setTop]

@[simp] theorem State.shipWhole_frame (s : State) (p : Nat) (list : Nat) (full : Bool) (pages : List Nat) :
    (State.shipWhole s p list full pages).1.pending = s.pending ∧ (State.shipWhole s p list full pages).1.freeIdx = s.freeIdx ∧
    (State.shipWhole s p list full pages).1.dev = s.dev ∧ (State.shipWhole s p list full pages).1.pwr = s.pwr ∧
    (State.shipWhole s p list full pages).1.geo = s.geo ∧ (State.shipWhole s p list full pages).1.mem = s.mem ∧
    (State.shipWhole s p list full pages).1.shadowNext = s.shadowNext ∧
    (State.shipWhole s p list full pages).1.heldWrites = s.heldWrites ∧ (State.shipWhole s p list full pages).1.unit = s.unit ∧
    (State.shipWhole s p list full pages).1.time = s.time ∧ (State.shipWhole s p list full pages).1.acts = s.acts ∧
    (State.shipWhole s p list full pages).1.fab = s.fab ∧ (State.shipWhole s p list full pages).1.flt = s.flt ∧
    (State.shipWhole s p list full pages).1.host = s.host := by
  simp [State.shipWhole]

@[simp] theorem State.stageImage_frame (s : State) (origin : Nat × Nat) (img : List Byte) :
    (State.stageImage s origin img).pending = s.pending ∧ (State.stageImage s origin img).freeIdx = s.freeIdx ∧
    (State.stageImage s origin img).out = s.out ∧ (State.stageImage s origin img).dev = s.dev ∧
    (State.stageImage s origin img).pwr = s.pwr ∧ (State.stageImage s origin img).geo = s.geo ∧
    (State.stageImage s origin img).mem = s.mem ∧ (State.stageImage s origin img).lineErr = s.lineErr ∧
    (State.stageImage s origin img).pte = s.pte ∧ (State.stageImage s origin img).shadowNext = s.shadowNext ∧
    (State.stageImage s origin img).heldWrites = s.heldWrites ∧ (State.stageImage s origin img).unit = s.unit ∧
    (State.stageImage s origin img).plan = s.plan ∧ (State.stageImage s origin img).time = s.time ∧
    (State.stageImage s origin img).acts = s.acts ∧ (State.stageImage s origin img).fab = s.fab ∧
    (State.stageImage s origin img).flt = s.flt ∧ (State.stageImage s origin img).ck = s.ck ∧
    (State.stageImage s origin img).host = s.host ∧ (State.stageImage s origin img).cnt = s.cnt := by
  simp [State.stageImage]

@[simp] theorem State.staged_frame (s : State) (v : Nat) :
    (State.staged s v).pending = s.pending ∧ (State.staged s v).out = s.out ∧ (State.staged s v).dev = s.dev ∧
    (State.staged s v).pwr = s.pwr ∧ (State.staged s v).lineErr = s.lineErr ∧ (State.staged s v).pte = s.pte ∧
    (State.staged s v).shadowNext = s.shadowNext ∧ (State.staged s v).heldWrites = s.heldWrites ∧
    (State.staged s v).plan = s.plan ∧ (State.staged s v).time = s.time ∧ (State.staged s v).acts = s.acts ∧
    (State.staged s v).fab = s.fab ∧ (State.staged s v).flt = s.flt ∧ (State.staged s v).ck = s.ck ∧
    (State.staged s v).host = s.host ∧ (State.staged s v).trust = s.trust ∧ (State.staged s v).cnt = s.cnt := by
  simp [State.staged]

@[simp] theorem State.startFirmware_frame (s : State) :
    (State.startFirmware s).pending = s.pending ∧ (State.startFirmware s).freeIdx = s.freeIdx ∧
    (State.startFirmware s).out = s.out ∧ (State.startFirmware s).pwr = s.pwr ∧ (State.startFirmware s).geo = s.geo ∧
    (State.startFirmware s).mem = s.mem ∧ (State.startFirmware s).lineErr = s.lineErr ∧ (State.startFirmware s).pte = s.pte ∧
    (State.startFirmware s).shadowNext = s.shadowNext ∧ (State.startFirmware s).heldWrites = s.heldWrites ∧
    (State.startFirmware s).unit = s.unit ∧ (State.startFirmware s).plan = s.plan ∧ (State.startFirmware s).time = s.time ∧
    (State.startFirmware s).acts = s.acts ∧ (State.startFirmware s).fab = s.fab ∧ (State.startFirmware s).ck = s.ck ∧
    (State.startFirmware s).host = s.host ∧ (State.startFirmware s).cnt = s.cnt := by
  simp [State.startFirmware]

@[simp] theorem State.startNow_frame (s : State) (beat : Nat) :
    (State.startNow s beat).pending = s.pending ∧ (State.startNow s beat).freeIdx = s.freeIdx ∧
    (State.startNow s beat).out = s.out ∧ (State.startNow s beat).geo = s.geo ∧
    (State.startNow s beat).mem = s.mem ∧ (State.startNow s beat).lineErr = s.lineErr ∧ (State.startNow s beat).pte = s.pte ∧
    (State.startNow s beat).shadowNext = s.shadowNext ∧ (State.startNow s beat).heldWrites = s.heldWrites ∧
    (State.startNow s beat).unit = s.unit ∧ (State.startNow s beat).time = s.time ∧ (State.startNow s beat).acts = s.acts ∧
    (State.startNow s beat).fab = s.fab ∧ (State.startNow s beat).flt = s.flt ∧ (State.startNow s beat).ck = s.ck ∧
    (State.startNow s beat).host = s.host ∧ (State.startNow s beat).trust = s.trust ∧ (State.startNow s beat).cnt = s.cnt := by
  simp [State.startNow]

@[simp] theorem State.startPorts_frame (s : State) :
    (State.startPorts s).pending = s.pending ∧ (State.startPorts s).freeIdx = s.freeIdx ∧ (State.startPorts s).out = s.out ∧
    (State.startPorts s).dev = s.dev ∧ (State.startPorts s).pwr = s.pwr ∧ (State.startPorts s).geo = s.geo ∧
    (State.startPorts s).mem = s.mem ∧ (State.startPorts s).lineErr = s.lineErr ∧ (State.startPorts s).pte = s.pte ∧
    (State.startPorts s).shadowNext = s.shadowNext ∧ (State.startPorts s).heldWrites = s.heldWrites ∧
    (State.startPorts s).unit = s.unit ∧ (State.startPorts s).plan = s.plan ∧ (State.startPorts s).time = s.time ∧
    (State.startPorts s).acts = s.acts ∧ (State.startPorts s).flt = s.flt ∧ (State.startPorts s).ck = s.ck ∧
    (State.startPorts s).host = s.host ∧ (State.startPorts s).trust = s.trust ∧ (State.startPorts s).cnt = s.cnt := by
  simp [State.startPorts]

@[simp] theorem State.stashGetCmd_frame (s : State) (n : Nat) (d : Nat) :
    (State.stashGetCmd s n d).pending = s.pending ∧ (State.stashGetCmd s n d).out = s.out ∧
    (State.stashGetCmd s n d).dev = s.dev ∧ (State.stashGetCmd s n d).pwr = s.pwr ∧ (State.stashGetCmd s n d).time = s.time ∧
    (State.stashGetCmd s n d).acts = s.acts ∧ (State.stashGetCmd s n d).fab = s.fab ∧ (State.stashGetCmd s n d).ck = s.ck ∧
    (State.stashGetCmd s n d).host = s.host := by
  simp [State.stashGetCmd]

@[simp] theorem State.stashPutCmd_frame (s : State) (n : Nat) (d : Nat) :
    (State.stashPutCmd s n d).pending = s.pending ∧ (State.stashPutCmd s n d).out = s.out ∧
    (State.stashPutCmd s n d).dev = s.dev ∧ (State.stashPutCmd s n d).pwr = s.pwr ∧ (State.stashPutCmd s n d).time = s.time ∧
    (State.stashPutCmd s n d).acts = s.acts ∧ (State.stashPutCmd s n d).fab = s.fab ∧ (State.stashPutCmd s n d).ck = s.ck ∧
    (State.stashPutCmd s n d).host = s.host := by
  simp [State.stashPutCmd]

@[simp] theorem State.stepRails_frame (s : State) :
    (State.stepRails s).pending = s.pending ∧ (State.stepRails s).freeIdx = s.freeIdx ∧ (State.stepRails s).out = s.out ∧
    (State.stepRails s).geo = s.geo ∧ (State.stepRails s).mem = s.mem ∧ (State.stepRails s).lineErr = s.lineErr ∧
    (State.stepRails s).pte = s.pte ∧ (State.stepRails s).shadowNext = s.shadowNext ∧
    (State.stepRails s).heldWrites = s.heldWrites ∧ (State.stepRails s).unit = s.unit ∧ (State.stepRails s).plan = s.plan ∧
    (State.stepRails s).acts = s.acts ∧ (State.stepRails s).fab = s.fab ∧ (State.stepRails s).flt = s.flt ∧
    (State.stepRails s).ck = s.ck ∧ (State.stepRails s).host = s.host ∧ (State.stepRails s).trust = s.trust := by
  simp [State.stepRails]

@[simp] theorem State.stepDone_frame (s : State) (n : Nat) (ms : Nat) :
    (State.stepDone s n ms).pending = s.pending ∧ (State.stepDone s n ms).freeIdx = s.freeIdx ∧
    (State.stepDone s n ms).mem = s.mem ∧ (State.stepDone s n ms).lineErr = s.lineErr ∧
    (State.stepDone s n ms).shadowNext = s.shadowNext ∧ (State.stepDone s n ms).heldWrites = s.heldWrites ∧
    (State.stepDone s n ms).unit = s.unit ∧ (State.stepDone s n ms).plan = s.plan ∧ (State.stepDone s n ms).acts = s.acts ∧
    (State.stepDone s n ms).ck = s.ck := by
  unfold State.stepDone; dsimp only; (repeat' split) <;> simp

@[simp] theorem State.tryMove_frame (s : State) (router : Nat) (x : Swap) :
    (State.tryMove s router x).pending = s.pending ∧ (State.tryMove s router x).dev = s.dev ∧
    (State.tryMove s router x).pwr = s.pwr ∧ (State.tryMove s router x).geo = s.geo ∧ (State.tryMove s router x).unit = s.unit ∧
    (State.tryMove s router x).time = s.time ∧ (State.tryMove s router x).acts = s.acts ∧ (State.tryMove s router x).ck = s.ck ∧
    (State.tryMove s router x).host = s.host := by
  unfold State.tryMove; dsimp only; split <;> simp

@[simp] theorem State.unloadPlan_frame (s : State) :
    (State.unloadPlan s).pending = s.pending ∧ (State.unloadPlan s).freeIdx = s.freeIdx ∧ (State.unloadPlan s).geo = s.geo ∧
    (State.unloadPlan s).time = s.time ∧ (State.unloadPlan s).acts = s.acts ∧ (State.unloadPlan s).flt = s.flt ∧
    (State.unloadPlan s).ck = s.ck ∧ (State.unloadPlan s).host = s.host := by
  simp [State.unloadPlan]

@[simp] theorem State.unprotect_frame (s : State) :
    (State.unprotect s).pending = s.pending ∧ (State.unprotect s).freeIdx = s.freeIdx ∧ (State.unprotect s).out = s.out ∧
    (State.unprotect s).dev = s.dev ∧ (State.unprotect s).pwr = s.pwr ∧ (State.unprotect s).geo = s.geo ∧
    (State.unprotect s).mem = s.mem ∧ (State.unprotect s).lineErr = s.lineErr ∧ (State.unprotect s).shadowNext = s.shadowNext ∧
    (State.unprotect s).unit = s.unit ∧ (State.unprotect s).plan = s.plan ∧ (State.unprotect s).time = s.time ∧
    (State.unprotect s).acts = s.acts ∧ (State.unprotect s).flt = s.flt ∧ (State.unprotect s).ck = s.ck ∧
    (State.unprotect s).host = s.host ∧ (State.unprotect s).trust = s.trust ∧ (State.unprotect s).cnt = s.cnt := by
  simp [State.unprotect]

@[simp] theorem State.warmQuiesce_frame (s : State) :
    (State.warmQuiesce s).pending = s.pending ∧ (State.warmQuiesce s).pwr = s.pwr ∧ (State.warmQuiesce s).geo = s.geo ∧
    (State.warmQuiesce s).time = s.time ∧ (State.warmQuiesce s).acts = s.acts := by
  simp [State.warmQuiesce]

@[simp] theorem State.warmCores_frame (s : State) :
    (State.warmCores s).pending = s.pending ∧ (State.warmCores s).freeIdx = s.freeIdx ∧ (State.warmCores s).out = s.out ∧
    (State.warmCores s).geo = s.geo ∧ (State.warmCores s).lineErr = s.lineErr ∧ (State.warmCores s).time = s.time ∧
    (State.warmCores s).flt = s.flt ∧ (State.warmCores s).host = s.host := by
  simp [State.warmCores]

@[simp] theorem State.warmMesh_frame (s : State) :
    (State.warmMesh s).pending = s.pending ∧ (State.warmMesh s).freeIdx = s.freeIdx ∧ (State.warmMesh s).out = s.out ∧
    (State.warmMesh s).dev = s.dev ∧ (State.warmMesh s).pwr = s.pwr ∧ (State.warmMesh s).mem = s.mem ∧
    (State.warmMesh s).lineErr = s.lineErr ∧ (State.warmMesh s).pte = s.pte ∧ (State.warmMesh s).shadowNext = s.shadowNext ∧
    (State.warmMesh s).heldWrites = s.heldWrites ∧ (State.warmMesh s).unit = s.unit ∧ (State.warmMesh s).plan = s.plan ∧
    (State.warmMesh s).time = s.time ∧ (State.warmMesh s).acts = s.acts ∧ (State.warmMesh s).flt = s.flt ∧
    (State.warmMesh s).ck = s.ck ∧ (State.warmMesh s).host = s.host ∧ (State.warmMesh s).trust = s.trust ∧
    (State.warmMesh s).cnt = s.cnt := by
  simp [State.warmMesh]

@[simp] theorem State.warmAction_frame (s : State) (k : Nat) :
    (State.warmAction s k).pending = s.pending ∧ (State.warmAction s k).time = s.time := by
  unfold State.warmAction; dsimp only; split <;> simp

end Sys2Proof.Machine
end

