-- ==== Sys2Proof/Laws/ExecData.lean ====
section
/-! SUPPORT. Frames of the commands of the data path: for each, the fields of `State` that it leaves alone
whenever it answers a next state, one conjunct per field. -/

namespace Sys2Proof.Machine

@[simp] theorem checked_next (i : Instr) (s t : State) : checked i s = .next t ↔ wellFormed i = true ∧ s = t := by
  unfold checked; split <;> simp_all

/-- The state of a next outcome. -/
theorem next_state {s t : State} (h : (Host.Outcome.next s : Host.Outcome State Fault Refusal) = .next t) : t = s := by
  injection h with h; exact h.symm

@[simp] theorem State.ceilingChanged_frame (s old : State) (origin : Nat × Nat) (reason : Nat) :
    (State.ceilingChanged s old origin reason).pending = s.pending ∧
    (State.ceilingChanged s old origin reason).freeIdx = s.freeIdx ∧ (State.ceilingChanged s old origin reason).out = s.out ∧
    (State.ceilingChanged s old origin reason).dev = s.dev ∧ (State.ceilingChanged s old origin reason).pwr = s.pwr ∧
    (State.ceilingChanged s old origin reason).geo = s.geo ∧ (State.ceilingChanged s old origin reason).mem = s.mem ∧
    (State.ceilingChanged s old origin reason).lineErr = s.lineErr ∧ (State.ceilingChanged s old origin reason).pte = s.pte ∧
    (State.ceilingChanged s old origin reason).shadowNext = s.shadowNext ∧
    (State.ceilingChanged s old origin reason).heldWrites = s.heldWrites ∧
    (State.ceilingChanged s old origin reason).unit = s.unit ∧ (State.ceilingChanged s old origin reason).plan = s.plan ∧
    (State.ceilingChanged s old origin reason).time = s.time ∧ (State.ceilingChanged s old origin reason).acts = s.acts ∧
    (State.ceilingChanged s old origin reason).fab = s.fab ∧ (State.ceilingChanged s old origin reason).flt = s.flt ∧
    (State.ceilingChanged s old origin reason).ck = s.ck ∧ (State.ceilingChanged s old origin reason).host = s.host := by
  unfold State.ceilingChanged; dsimp only; (repeat' split) <;> simp

theorem execActEnd_frame (s : State) (t : State)
    (h : execActEnd s = .next t) :
    t.pending = s.pending ∧ t.dev = s.dev ∧ t.pwr = s.pwr ∧ t.unit = s.unit ∧ t.time = s.time ∧ t.fab = s.fab ∧ t.ck = s.ck := by
  unfold execActEnd at h; (repeat' split at h) <;> (first | (cases h; done) | (obtain rfl := next_state h; (repeat' split) <;> simp))

theorem execActStart_frame (s : State) (t : State)
    (h : execActStart s = .next t) :
    t.pending = s.pending ∧ t.freeIdx = s.freeIdx ∧ t.out = s.out ∧ t.dev = s.dev ∧ t.pwr = s.pwr ∧ t.geo = s.geo ∧
    t.mem = s.mem ∧ t.lineErr = s.lineErr ∧ t.pte = s.pte ∧ t.shadowNext = s.shadowNext ∧ t.heldWrites = s.heldWrites ∧
    t.unit = s.unit ∧ t.time = s.time ∧ t.fab = s.fab ∧ t.flt = s.flt ∧ t.ck = s.ck ∧ t.host = s.host ∧ t.trust = s.trust := by
  unfold execActStart at h; (repeat' split at h) <;> (first | (cases h; done) | (obtain rfl := next_state h; (repeat' split) <;> simp))

theorem execBatchTake_frame (s : State) (t : State)
    (h : execBatchTake s = .next t) :
    t.pending = s.pending ∧ t.out = s.out ∧ t.dev = s.dev ∧ t.pwr = s.pwr ∧ t.unit = s.unit ∧ t.time = s.time ∧ t.fab = s.fab ∧
    t.ck = s.ck ∧ t.host = s.host := by
  unfold execBatchTake at h; (repeat' split at h) <;> (first | (cases h; done) | (obtain rfl := next_state h; (repeat' split) <;> simp))

theorem execGenBoundary_frame (s : State) (t : State)
    (h : execGenBoundary s = .next t) :
    t.pending = s.pending ∧ t.out = s.out ∧ t.dev = s.dev ∧ t.pwr = s.pwr ∧ t.unit = s.unit ∧ t.time = s.time ∧ t.fab = s.fab ∧
    t.ck = s.ck ∧ t.host = s.host := by
  unfold execGenBoundary at h; (repeat' split at h) <;> (first | (cases h; done) | (obtain rfl := next_state h; (repeat' split) <;> simp))

theorem execAnswerEndMarkerRx_frame (msg : EndMarker) (s : State) (t : State)
    (h : execAnswerEndMarkerRx msg s = .next t) :
    t.pending = s.pending ∧ t.freeIdx = s.freeIdx ∧ t.dev = s.dev ∧ t.pwr = s.pwr ∧ t.geo = s.geo ∧ t.mem = s.mem ∧
    t.lineErr = s.lineErr ∧ t.pte = s.pte ∧ t.shadowNext = s.shadowNext ∧ t.heldWrites = s.heldWrites ∧ t.unit = s.unit ∧
    t.time = s.time ∧ t.acts = s.acts ∧ t.flt = s.flt ∧ t.ck = s.ck ∧ t.host = s.host ∧ t.trust = s.trust := by
  unfold execAnswerEndMarkerRx at h; (repeat' split at h) <;> simp_all <;> subst_vars <;> simp

theorem execAnswerRx_frame (msg : ExpertMsg) (s : State) (t : State)
    (h : execAnswerRx msg s = .next t) :
    t.pending = s.pending ∧ t.dev = s.dev ∧ t.pwr = s.pwr ∧ t.unit = s.unit ∧ t.time = s.time ∧ t.acts = s.acts ∧ t.ck = s.ck ∧
    t.host = s.host := by
  unfold execAnswerRx at h; (repeat' split at h) <;> simp_all <;> subst_vars <;> simp

theorem execCombine_frame (h : Fin 30) (s : State) (t : State)
    (h : execCombine h s = .next t) :
    t.pending = s.pending ∧ t.out = s.out ∧ t.dev = s.dev ∧ t.pwr = s.pwr ∧ t.time = s.time ∧ t.acts = s.acts ∧ t.fab = s.fab ∧
    t.ck = s.ck ∧ t.host = s.host := by
  unfold execCombine at h; (repeat' split at h) <;> (first | (cases h; done) | (obtain rfl := next_state h; (repeat' split) <;> simp))

theorem execDispatch_frame (h : Fin 30) (s : State) (t : State)
    (h : execDispatch h s = .next t) :
    t.pending = s.pending ∧ t.dev = s.dev ∧ t.pwr = s.pwr ∧ t.time = s.time ∧ t.acts = s.acts ∧ t.ck = s.ck ∧ t.host = s.host := by
  unfold execDispatch at h; (repeat' split at h) <;> (first | (cases h; done) | (obtain rfl := next_state h; (repeat' split) <;> simp))

theorem execDispatchEndMarkerRx_frame (msg : EndMarker) (s : State) (t : State)
    (h : execDispatchEndMarkerRx msg s = .next t) :
    t.pending = s.pending ∧ t.freeIdx = s.freeIdx ∧ t.dev = s.dev ∧ t.pwr = s.pwr ∧ t.geo = s.geo ∧ t.mem = s.mem ∧
    t.lineErr = s.lineErr ∧ t.pte = s.pte ∧ t.shadowNext = s.shadowNext ∧ t.heldWrites = s.heldWrites ∧ t.time = s.time ∧
    t.acts = s.acts ∧ t.flt = s.flt ∧ t.ck = s.ck ∧ t.host = s.host ∧ t.trust = s.trust := by
  unfold execDispatchEndMarkerRx at h; (repeat' split at h) <;> simp_all <;> subst_vars <;> simp

theorem execDispatchRecordRx_frame (msg : ExpertMsg) (s : State) (t : State)
    (h : execDispatchRecordRx msg s = .next t) :
    t.pending = s.pending ∧ t.dev = s.dev ∧ t.pwr = s.pwr ∧ t.time = s.time ∧ t.acts = s.acts ∧ t.ck = s.ck ∧ t.host = s.host := by
  unfold execDispatchRecordRx at h; (repeat' split at h) <;> simp_all <;> subst_vars <;> simp

theorem execEpochClose_frame (h : Fin 30) (s : State) (t : State)
    (h : execEpochClose h s = .next t) :
    t.pending = s.pending ∧ t.freeIdx = s.freeIdx ∧ t.out = s.out ∧ t.dev = s.dev ∧ t.pwr = s.pwr ∧ t.geo = s.geo ∧
    t.mem = s.mem ∧ t.lineErr = s.lineErr ∧ t.pte = s.pte ∧ t.shadowNext = s.shadowNext ∧ t.heldWrites = s.heldWrites ∧
    t.plan = s.plan ∧ t.time = s.time ∧ t.acts = s.acts ∧ t.fab = s.fab ∧ t.flt = s.flt ∧ t.ck = s.ck ∧ t.host = s.host ∧
    t.trust = s.trust ∧ t.cnt = s.cnt := by
  unfold execEpochClose at h; (repeat' split at h) <;> (first | (cases h; done) | (obtain rfl := next_state h; (repeat' split) <;> simp))

theorem execGateGrad_frame (h : Fin 30) (s : State) (t : State)
    (h : execGateGrad h s = .next t) :
    t.pending = s.pending ∧ t.out = s.out ∧ t.dev = s.dev ∧ t.pwr = s.pwr ∧ t.time = s.time ∧ t.acts = s.acts ∧ t.fab = s.fab ∧
    t.ck = s.ck ∧ t.host = s.host := by
  unfold execGateGrad at h; (repeat' split at h) <;> (first | (cases h; done) | (obtain rfl := next_state h; (repeat' split) <;> simp))

theorem execRet_frame (h : Fin 30) (s : State) (t : State)
    (h : execRet h s = .next t) :
    t.pending = s.pending ∧ t.dev = s.dev ∧ t.pwr = s.pwr ∧ t.time = s.time ∧ t.acts = s.acts ∧ t.ck = s.ck ∧ t.host = s.host := by
  unfold execRet at h; (repeat' split at h) <;> (first | (cases h; done) | (obtain rfl := next_state h; (repeat' split) <;> simp))

theorem execRoute_frame (h : Fin 30) (s : State) (t : State)
    (h : execRoute h s = .next t) :
    t.pending = s.pending ∧ t.out = s.out ∧ t.dev = s.dev ∧ t.pwr = s.pwr ∧ t.time = s.time ∧ t.acts = s.acts ∧ t.fab = s.fab ∧
    t.ck = s.ck ∧ t.host = s.host := by
  unfold execRoute at h; (repeat' split at h) <;> (first | (cases h; done) | (obtain rfl := next_state h; (repeat' split) <;> simp))

theorem execSort_frame (h : Fin 30) (s : State) (t : State)
    (h : execSort h s = .next t) :
    t.pending = s.pending ∧ t.out = s.out ∧ t.dev = s.dev ∧ t.pwr = s.pwr ∧ t.time = s.time ∧ t.acts = s.acts ∧ t.fab = s.fab ∧
    t.ck = s.ck ∧ t.host = s.host := by
  unfold execSort at h; (repeat' split at h) <;> (first | (cases h; done) | (obtain rfl := next_state h; (repeat' split) <;> simp))

theorem execAdd_frame (g : Fin 60) (s : State) (t : State)
    (h : execAdd g s = .next t) :
    t.pending = s.pending ∧ t.out = s.out ∧ t.dev = s.dev ∧ t.pwr = s.pwr ∧ t.time = s.time ∧ t.acts = s.acts ∧ t.fab = s.fab ∧
    t.ck = s.ck ∧ t.host = s.host := by
  unfold execAdd at h; (repeat' split at h) <;> (first | (cases h; done) | (obtain rfl := next_state h; (repeat' split) <;> simp))

theorem execAxpby_frame (g : Fin 60) (s : State) (t : State)
    (h : execAxpby g s = .next t) :
    t.pending = s.pending ∧ t.out = s.out ∧ t.dev = s.dev ∧ t.pwr = s.pwr ∧ t.time = s.time ∧ t.acts = s.acts ∧ t.fab = s.fab ∧
    t.ck = s.ck ∧ t.host = s.host := by
  unfold execAxpby at h; (repeat' split at h) <;> (first | (cases h; done) | (obtain rfl := next_state h; (repeat' split) <;> simp))

theorem execCopy_frame (g : Fin 60) (s : State) (t : State)
    (h : execCopy g s = .next t) :
    t.pending = s.pending ∧ t.out = s.out ∧ t.dev = s.dev ∧ t.pwr = s.pwr ∧ t.time = s.time ∧ t.acts = s.acts ∧ t.fab = s.fab ∧
    t.ck = s.ck ∧ t.host = s.host := by
  unfold execCopy at h; (repeat' split at h) <;> (first | (cases h; done) | (obtain rfl := next_state h; (repeat' split) <;> simp))

theorem execDfn_frame (g : Fin 60) (s : State) (t : State)
    (h : execDfn g s = .next t) :
    t.pending = s.pending ∧ t.out = s.out ∧ t.dev = s.dev ∧ t.pwr = s.pwr ∧ t.time = s.time ∧ t.acts = s.acts ∧ t.fab = s.fab ∧
    t.ck = s.ck ∧ t.host = s.host := by
  unfold execDfn at h; (repeat' split at h) <;> (first | (cases h; done) | (obtain rfl := next_state h; (repeat' split) <;> simp))

theorem execDfnMul_frame (g : Fin 60) (s : State) (t : State)
    (h : execDfnMul g s = .next t) :
    t.pending = s.pending ∧ t.out = s.out ∧ t.dev = s.dev ∧ t.pwr = s.pwr ∧ t.time = s.time ∧ t.acts = s.acts ∧ t.fab = s.fab ∧
    t.ck = s.ck ∧ t.host = s.host := by
  unfold execDfnMul at h; (repeat' split at h) <;> (first | (cases h; done) | (obtain rfl := next_state h; (repeat' split) <;> simp))

theorem execFma_frame (g : Fin 60) (s : State) (t : State)
    (h : execFma g s = .next t) :
    t.pending = s.pending ∧ t.out = s.out ∧ t.dev = s.dev ∧ t.pwr = s.pwr ∧ t.time = s.time ∧ t.acts = s.acts ∧ t.fab = s.fab ∧
    t.ck = s.ck ∧ t.host = s.host := by
  unfold execFma at h; (repeat' split at h) <;> (first | (cases h; done) | (obtain rfl := next_state h; (repeat' split) <;> simp))

theorem execFn_frame (g : Fin 60) (s : State) (t : State)
    (h : execFn g s = .next t) :
    t.pending = s.pending ∧ t.out = s.out ∧ t.dev = s.dev ∧ t.pwr = s.pwr ∧ t.time = s.time ∧ t.acts = s.acts ∧ t.fab = s.fab ∧
    t.ck = s.ck ∧ t.host = s.host := by
  unfold execFn at h; (repeat' split at h) <;> (first | (cases h; done) | (obtain rfl := next_state h; (repeat' split) <;> simp))

theorem execFnMul_frame (g : Fin 60) (s : State) (t : State)
    (h : execFnMul g s = .next t) :
    t.pending = s.pending ∧ t.out = s.out ∧ t.dev = s.dev ∧ t.pwr = s.pwr ∧ t.time = s.time ∧ t.acts = s.acts ∧ t.fab = s.fab ∧
    t.ck = s.ck ∧ t.host = s.host := by
  unfold execFnMul at h; (repeat' split at h) <;> (first | (cases h; done) | (obtain rfl := next_state h; (repeat' split) <;> simp))

theorem execMax_frame (g : Fin 60) (s : State) (t : State)
    (h : execMax g s = .next t) :
    t.pending = s.pending ∧ t.out = s.out ∧ t.dev = s.dev ∧ t.pwr = s.pwr ∧ t.time = s.time ∧ t.acts = s.acts ∧ t.fab = s.fab ∧
    t.ck = s.ck ∧ t.host = s.host := by
  unfold execMax at h; (repeat' split at h) <;> (first | (cases h; done) | (obtain rfl := next_state h; (repeat' split) <;> simp))

theorem execMin_frame (g : Fin 60) (s : State) (t : State)
    (h : execMin g s = .next t) :
    t.pending = s.pending ∧ t.out = s.out ∧ t.dev = s.dev ∧ t.pwr = s.pwr ∧ t.time = s.time ∧ t.acts = s.acts ∧ t.fab = s.fab ∧
    t.ck = s.ck ∧ t.host = s.host := by
  unfold execMin at h; (repeat' split at h) <;> (first | (cases h; done) | (obtain rfl := next_state h; (repeat' split) <;> simp))

theorem execMul_frame (g : Fin 60) (s : State) (t : State)
    (h : execMul g s = .next t) :
    t.pending = s.pending ∧ t.out = s.out ∧ t.dev = s.dev ∧ t.pwr = s.pwr ∧ t.time = s.time ∧ t.acts = s.acts ∧ t.fab = s.fab ∧
    t.ck = s.ck ∧ t.host = s.host := by
  unfold execMul at h; (repeat' split at h) <;> (first | (cases h; done) | (obtain rfl := next_state h; (repeat' split) <;> simp))

theorem execReduceAdd_frame (g : Fin 60) (s : State) (t : State)
    (h : execReduceAdd g s = .next t) :
    t.pending = s.pending ∧ t.out = s.out ∧ t.dev = s.dev ∧ t.pwr = s.pwr ∧ t.time = s.time ∧ t.acts = s.acts ∧ t.fab = s.fab ∧
    t.ck = s.ck ∧ t.host = s.host := by
  unfold execReduceAdd at h; (repeat' split at h) <;> (first | (cases h; done) | (obtain rfl := next_state h; (repeat' split) <;> simp))

theorem execReduceMax_frame (g : Fin 60) (s : State) (t : State)
    (h : execReduceMax g s = .next t) :
    t.pending = s.pending ∧ t.out = s.out ∧ t.dev = s.dev ∧ t.pwr = s.pwr ∧ t.time = s.time ∧ t.acts = s.acts ∧ t.fab = s.fab ∧
    t.ck = s.ck ∧ t.host = s.host := by
  unfold execReduceMax at h; (repeat' split at h) <;> (first | (cases h; done) | (obtain rfl := next_state h; (repeat' split) <;> simp))

theorem execScale_frame (g : Fin 60) (s : State) (t : State)
    (h : execScale g s = .next t) :
    t.pending = s.pending ∧ t.out = s.out ∧ t.dev = s.dev ∧ t.pwr = s.pwr ∧ t.time = s.time ∧ t.acts = s.acts ∧ t.fab = s.fab ∧
    t.ck = s.ck ∧ t.host = s.host := by
  unfold execScale at h; (repeat' split at h) <;> (first | (cases h; done) | (obtain rfl := next_state h; (repeat' split) <;> simp))

theorem execSelect_frame (g : Fin 60) (s : State) (t : State)
    (h : execSelect g s = .next t) :
    t.pending = s.pending ∧ t.out = s.out ∧ t.dev = s.dev ∧ t.pwr = s.pwr ∧ t.time = s.time ∧ t.acts = s.acts ∧ t.fab = s.fab ∧
    t.ck = s.ck ∧ t.host = s.host := by
  unfold execSelect at h; (repeat' split at h) <;> (first | (cases h; done) | (obtain rfl := next_state h; (repeat' split) <;> simp))

theorem execSub_frame (g : Fin 60) (s : State) (t : State)
    (h : execSub g s = .next t) :
    t.pending = s.pending ∧ t.out = s.out ∧ t.dev = s.dev ∧ t.pwr = s.pwr ∧ t.time = s.time ∧ t.acts = s.acts ∧ t.fab = s.fab ∧
    t.ck = s.ck ∧ t.host = s.host := by
  unfold execSub at h; (repeat' split at h) <;> (first | (cases h; done) | (obtain rfl := next_state h; (repeat' split) <;> simp))

theorem execTableLoad_frame (g : Fin 60) (s : State) (t : State)
    (h : execTableLoad g s = .next t) :
    t.pending = s.pending ∧ t.out = s.out ∧ t.dev = s.dev ∧ t.pwr = s.pwr ∧ t.lineErr = s.lineErr ∧ t.pte = s.pte ∧
    t.shadowNext = s.shadowNext ∧ t.heldWrites = s.heldWrites ∧ t.plan = s.plan ∧ t.time = s.time ∧ t.acts = s.acts ∧
    t.fab = s.fab ∧ t.flt = s.flt ∧ t.ck = s.ck ∧ t.host = s.host ∧ t.trust = s.trust ∧ t.cnt = s.cnt := by
  unfold execTableLoad at h; (repeat' split at h) <;> (first | (cases h; done) | (obtain rfl := next_state h; (repeat' split) <;> simp))

theorem execGather_frame (h : Fin 30) (s : State) (t : State)
    (h : execGather h s = .next t) :
    t.pending = s.pending ∧ t.out = s.out ∧ t.dev = s.dev ∧ t.pwr = s.pwr ∧ t.time = s.time ∧ t.acts = s.acts ∧ t.fab = s.fab ∧
    t.ck = s.ck ∧ t.host = s.host := by
  unfold execGather at h; (repeat' split at h) <;> (first | (cases h; done) | (obtain rfl := next_state h; (repeat' split) <;> simp))

theorem execSample_frame (h : Fin 30) (s : State) (t : State)
    (h : execSample h s = .next t) :
    t.pending = s.pending ∧ t.out = s.out ∧ t.dev = s.dev ∧ t.pwr = s.pwr ∧ t.time = s.time ∧ t.acts = s.acts ∧ t.fab = s.fab ∧
    t.ck = s.ck ∧ t.host = s.host := by
  unfold execSample at h; (repeat' split at h) <;> (first | (cases h; done) | (obtain rfl := next_state h; (repeat' split) <;> simp))

theorem execScatterAdd_frame (h : Fin 30) (s : State) (t : State)
    (h : execScatterAdd h s = .next t) :
    t.pending = s.pending ∧ t.out = s.out ∧ t.dev = s.dev ∧ t.pwr = s.pwr ∧ t.time = s.time ∧ t.acts = s.acts ∧ t.fab = s.fab ∧
    t.ck = s.ck ∧ t.host = s.host := by
  unfold execScatterAdd at h; (repeat' split at h) <;> (first | (cases h; done) | (obtain rfl := next_state h; (repeat' split) <;> simp))

theorem execSpmm_frame (h : Fin 30) (s : State) (t : State)
    (h : execSpmm h s = .next t) :
    t.pending = s.pending ∧ t.out = s.out ∧ t.dev = s.dev ∧ t.pwr = s.pwr ∧ t.time = s.time ∧ t.acts = s.acts ∧ t.fab = s.fab ∧
    t.ck = s.ck ∧ t.host = s.host := by
  unfold execSpmm at h; (repeat' split at h) <;> (first | (cases h; done) | (obtain rfl := next_state h; (repeat' split) <;> simp))

theorem execCarryCopy_frame (port : Fin 8) (s : State) (t : State)
    (h : execCarryCopy port s = .next t) :
    t.pending = s.pending ∧ t.out = s.out ∧ t.dev = s.dev ∧ t.pwr = s.pwr ∧ t.unit = s.unit ∧ t.time = s.time ∧ t.acts = s.acts ∧
    t.fab = s.fab ∧ t.ck = s.ck ∧ t.host = s.host := by
  unfold execCarryCopy at h; (repeat' split at h) <;> (first | (cases h; done) | (obtain rfl := next_state h; (repeat' split) <;> simp))

theorem execMcastRx_frame (port : Fin 16) (msg : LinkMsg) (s : State) (t : State)
    (h : execMcastRx port msg s = .next t) :
    t.pending = s.pending ∧ t.dev = s.dev ∧ t.pwr = s.pwr ∧ t.unit = s.unit ∧ t.time = s.time ∧ t.acts = s.acts ∧ t.ck = s.ck ∧
    t.host = s.host := by
  unfold execMcastRx at h; split at h
  · rename_i hc; obtain ⟨-, rfl⟩ := (checked_next _ _ _).1 hc; dsimp only at h; (repeat' split at h) <;> (first | (cases h; done) | (obtain rfl := next_state h; (repeat' split) <;> simp))
  · simp_all

theorem execMessageRx_frame (port : Fin 16) (msg : LinkMsg) (s : State) (t : State)
    (h : execMessageRx port msg s = .next t) :
    t.pending = s.pending ∧ t.dev = s.dev ∧ t.pwr = s.pwr ∧ t.unit = s.unit ∧ t.time = s.time ∧ t.acts = s.acts ∧ t.ck = s.ck ∧
    t.host = s.host := by
  unfold execMessageRx at h; (repeat' split at h) <;> simp_all <;> subst_vars <;> simp

theorem execPartialRx_frame (port : Fin 16) (msg : LinkMsg) (s : State) (t : State)
    (h : execPartialRx port msg s = .next t) :
    t.pending = s.pending ∧ t.freeIdx = s.freeIdx ∧ t.dev = s.dev ∧ t.pwr = s.pwr ∧ t.geo = s.geo ∧ t.lineErr = s.lineErr ∧
    t.pte = s.pte ∧ t.shadowNext = s.shadowNext ∧ t.heldWrites = s.heldWrites ∧ t.unit = s.unit ∧ t.time = s.time ∧
    t.acts = s.acts ∧ t.flt = s.flt ∧ t.ck = s.ck ∧ t.host = s.host ∧ t.trust = s.trust := by
  unfold execPartialRx at h; split at h
  · rename_i hc; obtain ⟨-, rfl⟩ := (checked_next _ _ _).1 hc; dsimp only at h; (repeat' split at h) <;> (first | (cases h; done) | (obtain rfl := next_state h; (repeat' split) <;> simp))
  · simp_all

theorem execXmcast_frame (port : Fin 8) (s : State) (t : State)
    (h : execXmcast port s = .next t) :
    t.pending = s.pending ∧ t.dev = s.dev ∧ t.pwr = s.pwr ∧ t.mem = s.mem ∧ t.shadowNext = s.shadowNext ∧
    t.heldWrites = s.heldWrites ∧ t.time = s.time ∧ t.acts = s.acts ∧ t.ck = s.ck ∧ t.host = s.host := by
  unfold execXmcast at h; (repeat' split at h) <;> (first | (cases h; done) | (obtain rfl := next_state h; (repeat' split) <;> simp))

theorem execXreduce_frame (port : Fin 8) (s : State) (t : State)
    (h : execXreduce port s = .next t) :
    t.pending = s.pending ∧ t.dev = s.dev ∧ t.pwr = s.pwr ∧ t.time = s.time ∧ t.acts = s.acts ∧ t.ck = s.ck ∧ t.host = s.host := by
  unfold execXreduce at h; (repeat' split at h) <;> (first | (cases h; done) | (obtain rfl := next_state h; (repeat' split) <;> simp))

theorem execXsend_frame (port : Fin 8) (s : State) (t : State)
    (h : execXsend port s = .next t) :
    t.pending = s.pending ∧ t.dev = s.dev ∧ t.pwr = s.pwr ∧ t.time = s.time ∧ t.acts = s.acts ∧ t.ck = s.ck ∧ t.host = s.host := by
  unfold execXsend at h; (repeat' split at h) <;> (first | (cases h; done) | (obtain rfl := next_state h; (repeat' split) <;> simp))

theorem execXsignal_frame (port : Fin 8) (s : State) (t : State)
    (h : execXsignal port s = .next t) :
    t.pending = s.pending ∧ t.dev = s.dev ∧ t.pwr = s.pwr ∧ t.time = s.time ∧ t.acts = s.acts ∧ t.ck = s.ck ∧ t.host = s.host := by
  unfold execXsignal at h; (repeat' split at h) <;> (first | (cases h; done) | (obtain rfl := next_state h; (repeat' split) <;> simp))

theorem execCowCopyDone_frame (page : Fin 262144) (held : Nat) (s : State) (t : State)
    (h : execCowCopyDone page held s = .next t) :
    t.pending = s.pending ∧ t.freeIdx = s.freeIdx ∧ t.dev = s.dev ∧ t.pwr = s.pwr ∧ t.geo = s.geo ∧ t.shadowNext = s.shadowNext ∧
    t.unit = s.unit ∧ t.time = s.time ∧ t.acts = s.acts ∧ t.ck = s.ck ∧ t.host = s.host := by
  unfold execCowCopyDone at h; (repeat' split at h) <;> (first | (cases h; done) | (obtain rfl := next_state h; (repeat' split) <;> simp))

theorem execCowWriteHold_frame (page : Fin 262144) (offset : Nat) (data : List Byte) (s : State) (t : State)
    (h : execCowWriteHold page offset data s = .next t) :
    t.pending = s.pending ∧ t.freeIdx = s.freeIdx ∧ t.out = s.out ∧ t.dev = s.dev ∧ t.pwr = s.pwr ∧ t.geo = s.geo ∧
    t.mem = s.mem ∧ t.lineErr = s.lineErr ∧ t.unit = s.unit ∧ t.plan = s.plan ∧ t.time = s.time ∧ t.acts = s.acts ∧
    t.fab = s.fab ∧ t.flt = s.flt ∧ t.ck = s.ck ∧ t.host = s.host ∧ t.trust = s.trust ∧ t.cnt = s.cnt := by
  unfold execCowWriteHold at h; split at h
  · rename_i hc; obtain ⟨-, rfl⟩ := (checked_next _ _ _).1 hc; dsimp only at h; (repeat' split at h) <;> (first | (cases h; done) | (obtain rfl := next_state h; (repeat' split) <;> simp))
  · simp_all

theorem execMuleCopy_frame (n : Fin 8) (s : State) (t : State)
    (h : execMuleCopy n s = .next t) :
    t.pending = s.pending ∧ t.out = s.out ∧ t.dev = s.dev ∧ t.pwr = s.pwr ∧ t.time = s.time ∧ t.acts = s.acts ∧ t.fab = s.fab ∧
    t.ck = s.ck ∧ t.host = s.host := by
  unfold execMuleCopy at h; (repeat' split at h) <;> (first | (cases h; done) | (obtain rfl := next_state h; (repeat' split) <;> simp))

theorem execPatrolScrub_frame (line : Nat) (ecc : EccOutcome) (s : State) (t : State)
    (h : execPatrolScrub line ecc s = .next t) :
    t.pending = s.pending ∧ t.freeIdx = s.freeIdx ∧ t.out = s.out ∧ t.dev = s.dev ∧ t.pwr = s.pwr ∧ t.geo = s.geo ∧
    t.mem = s.mem ∧ t.shadowNext = s.shadowNext ∧ t.heldWrites = s.heldWrites ∧ t.unit = s.unit ∧ t.time = s.time ∧
    t.acts = s.acts ∧ t.fab = s.fab ∧ t.flt = s.flt ∧ t.ck = s.ck ∧ t.host = s.host := by
  unfold execPatrolScrub at h; (repeat' split at h) <;> simp_all <;> subst_vars <;> simp

theorem execStashGet_frame (n : Fin 8) (s : State) (t : State)
    (h : execStashGet n s = .next t) :
    t.pending = s.pending ∧ t.out = s.out ∧ t.dev = s.dev ∧ t.pwr = s.pwr ∧ t.time = s.time ∧ t.acts = s.acts ∧ t.fab = s.fab ∧
    t.ck = s.ck ∧ t.host = s.host := by
  unfold execStashGet at h; (repeat' split at h) <;> (first | (cases h; done) | (obtain rfl := next_state h; (repeat' split) <;> simp))

theorem execStashPut_frame (n : Fin 8) (s : State) (t : State)
    (h : execStashPut n s = .next t) :
    t.pending = s.pending ∧ t.out = s.out ∧ t.dev = s.dev ∧ t.pwr = s.pwr ∧ t.time = s.time ∧ t.acts = s.acts ∧ t.fab = s.fab ∧
    t.ck = s.ck ∧ t.host = s.host := by
  unfold execStashPut at h; (repeat' split at h) <;> (first | (cases h; done) | (obtain rfl := next_state h; (repeat' split) <;> simp))

theorem execBankTokenReturn_frame (x : Fin 120) (bank : Fin 2) (s : State) (t : State)
    (h : execBankTokenReturn x bank s = .next t) :
    t.pending = s.pending ∧ t.freeIdx = s.freeIdx ∧ t.out = s.out ∧ t.dev = s.dev ∧ t.pwr = s.pwr ∧ t.geo = s.geo ∧
    t.lineErr = s.lineErr ∧ t.pte = s.pte ∧ t.shadowNext = s.shadowNext ∧ t.heldWrites = s.heldWrites ∧ t.plan = s.plan ∧
    t.time = s.time ∧ t.acts = s.acts ∧ t.fab = s.fab ∧ t.flt = s.flt ∧ t.ck = s.ck ∧ t.host = s.host ∧ t.trust = s.trust ∧
    t.cnt = s.cnt := by
  unfold execBankTokenReturn at h; (repeat' split at h) <;> (first | (cases h; done) | (obtain rfl := next_state h; (repeat' split) <;> simp))

theorem execOxIs_frame (x : Fin 120) (s : State) (t : State)
    (h : execOxIs x s = .next t) :
    t.pending = s.pending ∧ t.freeIdx = s.freeIdx ∧ t.out = s.out ∧ t.dev = s.dev ∧ t.pwr = s.pwr ∧ t.geo = s.geo ∧
    t.lineErr = s.lineErr ∧ t.pte = s.pte ∧ t.shadowNext = s.shadowNext ∧ t.heldWrites = s.heldWrites ∧ t.plan = s.plan ∧
    t.time = s.time ∧ t.acts = s.acts ∧ t.fab = s.fab ∧ t.flt = s.flt ∧ t.ck = s.ck ∧ t.host = s.host ∧ t.trust = s.trust ∧
    t.cnt = s.cnt := by
  unfold execOxIs at h; (repeat' split at h) <;> (first | (cases h; done) | (obtain rfl := next_state h; (repeat' split) <;> simp))

theorem execOxOs_frame (x : Fin 120) (s : State) (t : State)
    (h : execOxOs x s = .next t) :
    t.pending = s.pending ∧ t.freeIdx = s.freeIdx ∧ t.out = s.out ∧ t.dev = s.dev ∧ t.pwr = s.pwr ∧ t.geo = s.geo ∧
    t.lineErr = s.lineErr ∧ t.pte = s.pte ∧ t.shadowNext = s.shadowNext ∧ t.heldWrites = s.heldWrites ∧ t.plan = s.plan ∧
    t.time = s.time ∧ t.acts = s.acts ∧ t.fab = s.fab ∧ t.flt = s.flt ∧ t.ck = s.ck ∧ t.host = s.host ∧ t.trust = s.trust ∧
    t.cnt = s.cnt := by
  unfold execOxOs at h; (repeat' split at h) <;> (first | (cases h; done) | (obtain rfl := next_state h; (repeat' split) <;> simp))

theorem execOxWs_frame (x : Fin 120) (s : State) (t : State)
    (h : execOxWs x s = .next t) :
    t.pending = s.pending ∧ t.freeIdx = s.freeIdx ∧ t.out = s.out ∧ t.dev = s.dev ∧ t.pwr = s.pwr ∧ t.geo = s.geo ∧
    t.lineErr = s.lineErr ∧ t.pte = s.pte ∧ t.shadowNext = s.shadowNext ∧ t.heldWrites = s.heldWrites ∧ t.plan = s.plan ∧
    t.time = s.time ∧ t.acts = s.acts ∧ t.fab = s.fab ∧ t.flt = s.flt ∧ t.ck = s.ck ∧ t.host = s.host ∧ t.trust = s.trust ∧
    t.cnt = s.cnt := by
  unfold execOxWs at h; (repeat' split at h) <;> (first | (cases h; done) | (obtain rfl := next_state h; (repeat' split) <;> simp))

theorem execQueueCreditReturn_frame (x : Fin 120) (q : Fin 2) (s : State) (t : State)
    (h : execQueueCreditReturn x q s = .next t) :
    t.pending = s.pending ∧ t.out = s.out ∧ t.dev = s.dev ∧ t.pwr = s.pwr ∧ t.lineErr = s.lineErr ∧ t.pte = s.pte ∧
    t.shadowNext = s.shadowNext ∧ t.heldWrites = s.heldWrites ∧ t.plan = s.plan ∧ t.time = s.time ∧ t.acts = s.acts ∧
    t.fab = s.fab ∧ t.flt = s.flt ∧ t.ck = s.ck ∧ t.host = s.host ∧ t.trust = s.trust ∧ t.cnt = s.cnt := by
  unfold execQueueCreditReturn at h; (repeat' split at h) <;> (first | (cases h; done) | (obtain rfl := next_state h; (repeat' split) <;> simp))

theorem execCeBwd_frame (g : Fin 60) (s : State) (t : State)
    (h : execCeBwd g s = .next t) :
    t.pending = s.pending ∧ t.out = s.out ∧ t.dev = s.dev ∧ t.pwr = s.pwr ∧ t.time = s.time ∧ t.acts = s.acts ∧ t.fab = s.fab ∧
    t.ck = s.ck ∧ t.host = s.host := by
  unfold execCeBwd at h; (repeat' split at h) <;> (first | (cases h; done) | (obtain rfl := next_state h; (repeat' split) <;> simp))

theorem execCeFwd_frame (g : Fin 60) (s : State) (t : State)
    (h : execCeFwd g s = .next t) :
    t.pending = s.pending ∧ t.out = s.out ∧ t.dev = s.dev ∧ t.pwr = s.pwr ∧ t.time = s.time ∧ t.acts = s.acts ∧ t.fab = s.fab ∧
    t.ck = s.ck ∧ t.host = s.host := by
  unfold execCeFwd at h; (repeat' split at h) <;> (first | (cases h; done) | (obtain rfl := next_state h; (repeat' split) <;> simp))

theorem execLnBwd_frame (g : Fin 60) (s : State) (t : State)
    (h : execLnBwd g s = .next t) :
    t.pending = s.pending ∧ t.out = s.out ∧ t.dev = s.dev ∧ t.pwr = s.pwr ∧ t.time = s.time ∧ t.acts = s.acts ∧ t.fab = s.fab ∧
    t.ck = s.ck ∧ t.host = s.host := by
  unfold execLnBwd at h; (repeat' split at h) <;> (first | (cases h; done) | (obtain rfl := next_state h; (repeat' split) <;> simp))

theorem execLnFwd_frame (g : Fin 60) (s : State) (t : State)
    (h : execLnFwd g s = .next t) :
    t.pending = s.pending ∧ t.out = s.out ∧ t.dev = s.dev ∧ t.pwr = s.pwr ∧ t.time = s.time ∧ t.acts = s.acts ∧ t.fab = s.fab ∧
    t.ck = s.ck ∧ t.host = s.host := by
  unfold execLnFwd at h; (repeat' split at h) <;> (first | (cases h; done) | (obtain rfl := next_state h; (repeat' split) <;> simp))

theorem execLsmBwd_frame (g : Fin 60) (s : State) (t : State)
    (h : execLsmBwd g s = .next t) :
    t.pending = s.pending ∧ t.out = s.out ∧ t.dev = s.dev ∧ t.pwr = s.pwr ∧ t.time = s.time ∧ t.acts = s.acts ∧ t.fab = s.fab ∧
    t.ck = s.ck ∧ t.host = s.host := by
  unfold execLsmBwd at h; (repeat' split at h) <;> (first | (cases h; done) | (obtain rfl := next_state h; (repeat' split) <;> simp))

theorem execLsmFwd_frame (g : Fin 60) (s : State) (t : State)
    (h : execLsmFwd g s = .next t) :
    t.pending = s.pending ∧ t.out = s.out ∧ t.dev = s.dev ∧ t.pwr = s.pwr ∧ t.time = s.time ∧ t.acts = s.acts ∧ t.fab = s.fab ∧
    t.ck = s.ck ∧ t.host = s.host := by
  unfold execLsmFwd at h; (repeat' split at h) <;> (first | (cases h; done) | (obtain rfl := next_state h; (repeat' split) <;> simp))

theorem execReload_frame (g : Fin 60) (s : State) (t : State)
    (h : execReload g s = .next t) :
    t.pending = s.pending ∧ t.freeIdx = s.freeIdx ∧ t.out = s.out ∧ t.dev = s.dev ∧ t.pwr = s.pwr ∧ t.geo = s.geo ∧
    t.mem = s.mem ∧ t.lineErr = s.lineErr ∧ t.pte = s.pte ∧ t.shadowNext = s.shadowNext ∧ t.heldWrites = s.heldWrites ∧
    t.plan = s.plan ∧ t.time = s.time ∧ t.acts = s.acts ∧ t.fab = s.fab ∧ t.flt = s.flt ∧ t.ck = s.ck ∧ t.host = s.host ∧
    t.trust = s.trust ∧ t.cnt = s.cnt := by
  unfold execReload at h; dsimp only at h; (repeat' split at h) <;> (first | (cases h; done) | (obtain rfl := next_state h; (repeat' split) <;> simp))

theorem execRmsBwd_frame (g : Fin 60) (s : State) (t : State)
    (h : execRmsBwd g s = .next t) :
    t.pending = s.pending ∧ t.out = s.out ∧ t.dev = s.dev ∧ t.pwr = s.pwr ∧ t.time = s.time ∧ t.acts = s.acts ∧ t.fab = s.fab ∧
    t.ck = s.ck ∧ t.host = s.host := by
  unfold execRmsBwd at h; (repeat' split at h) <;> (first | (cases h; done) | (obtain rfl := next_state h; (repeat' split) <;> simp))

theorem execRmsFwd_frame (g : Fin 60) (s : State) (t : State)
    (h : execRmsFwd g s = .next t) :
    t.pending = s.pending ∧ t.out = s.out ∧ t.dev = s.dev ∧ t.pwr = s.pwr ∧ t.time = s.time ∧ t.acts = s.acts ∧ t.fab = s.fab ∧
    t.ck = s.ck ∧ t.host = s.host := by
  unfold execRmsFwd at h; (repeat' split at h) <;> (first | (cases h; done) | (obtain rfl := next_state h; (repeat' split) <;> simp))

theorem execSmBwd_frame (g : Fin 60) (s : State) (t : State)
    (h : execSmBwd g s = .next t) :
    t.pending = s.pending ∧ t.out = s.out ∧ t.dev = s.dev ∧ t.pwr = s.pwr ∧ t.time = s.time ∧ t.acts = s.acts ∧ t.fab = s.fab ∧
    t.ck = s.ck ∧ t.host = s.host := by
  unfold execSmBwd at h; (repeat' split at h) <;> (first | (cases h; done) | (obtain rfl := next_state h; (repeat' split) <;> simp))

theorem execSmFwd_frame (g : Fin 60) (s : State) (t : State)
    (h : execSmFwd g s = .next t) :
    t.pending = s.pending ∧ t.out = s.out ∧ t.dev = s.dev ∧ t.pwr = s.pwr ∧ t.time = s.time ∧ t.acts = s.acts ∧ t.fab = s.fab ∧
    t.ck = s.ck ∧ t.host = s.host := by
  unfold execSmFwd at h; (repeat' split at h) <;> (first | (cases h; done) | (obtain rfl := next_state h; (repeat' split) <;> simp))

theorem execSpill_frame (g : Fin 60) (s : State) (t : State)
    (h : execSpill g s = .next t) :
    t.pending = s.pending ∧ t.out = s.out ∧ t.dev = s.dev ∧ t.pwr = s.pwr ∧ t.time = s.time ∧ t.acts = s.acts ∧ t.fab = s.fab ∧
    t.ck = s.ck ∧ t.host = s.host := by
  unfold execSpill at h; dsimp only at h; (repeat' split at h) <;> (first | (cases h; done) | (obtain rfl := next_state h; (repeat' split) <;> simp))

theorem execBarrier_frame (u : Fin 226) (s : State) (t : State)
    (h : execBarrier u s = .next t) :
    t.pending = s.pending ∧ t.freeIdx = s.freeIdx ∧ t.out = s.out ∧ t.dev = s.dev ∧ t.pwr = s.pwr ∧ t.geo = s.geo ∧
    t.mem = s.mem ∧ t.lineErr = s.lineErr ∧ t.pte = s.pte ∧ t.shadowNext = s.shadowNext ∧ t.heldWrites = s.heldWrites ∧
    t.time = s.time ∧ t.acts = s.acts ∧ t.fab = s.fab ∧ t.flt = s.flt ∧ t.ck = s.ck ∧ t.host = s.host ∧ t.trust = s.trust := by
  unfold execBarrier at h; dsimp only at h; (repeat' split at h) <;> (first | (cases h; done) | (obtain rfl := next_state h; (repeat' split) <;> simp))

theorem execCommandComplete_frame (u : Fin 226) (w : Waits) (s : State) (t : State)
    (h : execCommandComplete u w s = .next t) :
    t.pending = s.pending ∧ t.freeIdx = s.freeIdx ∧ t.out = s.out ∧ t.dev = s.dev ∧ t.pwr = s.pwr ∧ t.geo = s.geo ∧
    t.lineErr = s.lineErr ∧ t.pte = s.pte ∧ t.shadowNext = s.shadowNext ∧ t.heldWrites = s.heldWrites ∧ t.time = s.time ∧
    t.acts = s.acts ∧ t.fab = s.fab ∧ t.flt = s.flt ∧ t.ck = s.ck ∧ t.host = s.host ∧ t.trust = s.trust := by
  unfold execCommandComplete at h; split at h
  · rename_i hc; obtain ⟨-, rfl⟩ := (checked_next _ _ _).1 hc; dsimp only at h; (repeat' split at h) <;> (first | (cases h; done) | (obtain rfl := next_state h; (repeat' split) <;> simp))
  · simp_all

theorem execEndRep_frame (u : Fin 226) (s : State) (t : State)
    (h : execEndRep u s = .next t) :
    t.pending = s.pending ∧ t.freeIdx = s.freeIdx ∧ t.out = s.out ∧ t.dev = s.dev ∧ t.pwr = s.pwr ∧ t.geo = s.geo ∧
    t.mem = s.mem ∧ t.lineErr = s.lineErr ∧ t.pte = s.pte ∧ t.shadowNext = s.shadowNext ∧ t.heldWrites = s.heldWrites ∧
    t.time = s.time ∧ t.acts = s.acts ∧ t.fab = s.fab ∧ t.flt = s.flt ∧ t.ck = s.ck ∧ t.host = s.host ∧ t.trust = s.trust := by
  unfold execEndRep at h; (repeat' split at h) <;> (first | (cases h; done) | (obtain rfl := next_state h; (repeat' split) <;> simp))

theorem execPlanFinish_frame (s : State) (t : State)
    (h : execPlanFinish s = .next t) :
    t.pending = s.pending ∧ t.freeIdx = s.freeIdx ∧ t.pwr = s.pwr ∧ t.geo = s.geo ∧ t.mem = s.mem ∧ t.lineErr = s.lineErr ∧
    t.pte = s.pte ∧ t.shadowNext = s.shadowNext ∧ t.heldWrites = s.heldWrites ∧ t.unit = s.unit ∧ t.time = s.time ∧
    t.fab = s.fab ∧ t.flt = s.flt ∧ t.ck = s.ck := by
  unfold execPlanFinish at h; (repeat' split at h) <;> (first | (cases h; done) | (obtain rfl := next_state h; (repeat' split) <;> simp))

theorem execSelectAlternative_frame (u : Fin 226) (s : State) (t : State)
    (h : execSelectAlternative u s = .next t) :
    t.pending = s.pending ∧ t.freeIdx = s.freeIdx ∧ t.out = s.out ∧ t.dev = s.dev ∧ t.pwr = s.pwr ∧ t.geo = s.geo ∧
    t.mem = s.mem ∧ t.lineErr = s.lineErr ∧ t.pte = s.pte ∧ t.shadowNext = s.shadowNext ∧ t.heldWrites = s.heldWrites ∧
    t.time = s.time ∧ t.acts = s.acts ∧ t.fab = s.fab ∧ t.flt = s.flt ∧ t.ck = s.ck ∧ t.host = s.host ∧ t.trust = s.trust := by
  unfold execSelectAlternative at h; (repeat' split at h) <;> (first | (cases h; done) | (obtain rfl := next_state h; (repeat' split) <;> simp))

theorem execSlipEvent_frame (u : Fin 226) (elapsed : Nat) (s : State) (t : State)
    (h : execSlipEvent u elapsed s = .next t) :
    t.pending = s.pending ∧ t.freeIdx = s.freeIdx ∧ t.out = s.out ∧ t.dev = s.dev ∧ t.pwr = s.pwr ∧ t.geo = s.geo ∧
    t.mem = s.mem ∧ t.lineErr = s.lineErr ∧ t.pte = s.pte ∧ t.shadowNext = s.shadowNext ∧ t.heldWrites = s.heldWrites ∧
    t.time = s.time ∧ t.acts = s.acts ∧ t.fab = s.fab ∧ t.flt = s.flt ∧ t.ck = s.ck ∧ t.host = s.host ∧ t.trust = s.trust := by
  unfold execSlipEvent at h; (repeat' split at h) <;> (first | (cases h; done) | (obtain rfl := next_state h; (repeat' split) <;> simp))

theorem execSwitch_frame (u : Fin 226) (s : State) (t : State)
    (h : execSwitch u s = .next t) :
    t.pending = s.pending ∧ t.freeIdx = s.freeIdx ∧ t.out = s.out ∧ t.dev = s.dev ∧ t.pwr = s.pwr ∧ t.geo = s.geo ∧
    t.mem = s.mem ∧ t.lineErr = s.lineErr ∧ t.pte = s.pte ∧ t.shadowNext = s.shadowNext ∧ t.heldWrites = s.heldWrites ∧
    t.time = s.time ∧ t.acts = s.acts ∧ t.fab = s.fab ∧ t.flt = s.flt ∧ t.ck = s.ck ∧ t.host = s.host ∧ t.trust = s.trust := by
  unfold execSwitch at h; (repeat' split at h) <;> (first | (cases h; done) | (obtain rfl := next_state h; (repeat' split) <;> simp))

theorem execBankTokenPass_frame (x : Fin 120) (bank : Fin 2) (s : State) (t : State)
    (h : execBankTokenPass x bank s = .next t) :
    t.pending = s.pending ∧ t.out = s.out ∧ t.dev = s.dev ∧ t.pwr = s.pwr ∧ t.time = s.time ∧ t.acts = s.acts ∧ t.fab = s.fab ∧
    t.ck = s.ck ∧ t.host = s.host := by
  unfold execBankTokenPass at h; dsimp only at h; (repeat' split at h) <;> (first | (cases h; done) | (obtain rfl := next_state h; (repeat' split) <;> simp))

theorem execUApply_frame (g : Fin 60) (s : State) (t : State)
    (h : execUApply g s = .next t) :
    t.pending = s.pending ∧ t.out = s.out ∧ t.dev = s.dev ∧ t.pwr = s.pwr ∧ t.time = s.time ∧ t.acts = s.acts ∧ t.fab = s.fab ∧
    t.ck = s.ck ∧ t.host = s.host := by
  unfold execUApply at h; (repeat' split at h) <;> (first | (cases h; done) | (obtain rfl := next_state h; (repeat' split) <;> simp))

theorem execUCast_frame (g : Fin 60) (s : State) (t : State)
    (h : execUCast g s = .next t) :
    t.pending = s.pending ∧ t.out = s.out ∧ t.dev = s.dev ∧ t.pwr = s.pwr ∧ t.time = s.time ∧ t.acts = s.acts ∧ t.fab = s.fab ∧
    t.ck = s.ck ∧ t.host = s.host := by
  unfold execUCast at h; (repeat' split at h) <;> (first | (cases h; done) | (obtain rfl := next_state h; (repeat' split) <;> simp))

theorem execUFact_frame (g : Fin 60) (s : State) (t : State)
    (h : execUFact g s = .next t) :
    t.pending = s.pending ∧ t.out = s.out ∧ t.dev = s.dev ∧ t.pwr = s.pwr ∧ t.time = s.time ∧ t.acts = s.acts ∧ t.fab = s.fab ∧
    t.ck = s.ck ∧ t.host = s.host := by
  unfold execUFact at h; (repeat' split at h) <;> (first | (cases h; done) | (obtain rfl := next_state h; (repeat' split) <;> simp))

theorem execUStats_frame (g : Fin 60) (s : State) (t : State)
    (h : execUStats g s = .next t) :
    t.pending = s.pending ∧ t.out = s.out ∧ t.dev = s.dev ∧ t.pwr = s.pwr ∧ t.time = s.time ∧ t.acts = s.acts ∧ t.fab = s.fab ∧
    t.ck = s.ck ∧ t.host = s.host := by
  unfold execUStats at h; (repeat' split at h) <;> (first | (cases h; done) | (obtain rfl := next_state h; (repeat' split) <;> simp))

theorem execUUsum_frame (g : Fin 60) (s : State) (t : State)
    (h : execUUsum g s = .next t) :
    t.pending = s.pending ∧ t.out = s.out ∧ t.dev = s.dev ∧ t.pwr = s.pwr ∧ t.time = s.time ∧ t.acts = s.acts ∧ t.fab = s.fab ∧
    t.ck = s.ck ∧ t.host = s.host := by
  unfold execUUsum at h; (repeat' split at h) <;> (first | (cases h; done) | (obtain rfl := next_state h; (repeat' split) <;> simp))

end Sys2Proof.Machine
end

