-- ==== Sys2Proof/Laws/ExecPart.lean ====
section
/-! SUPPORT. Frames of the commands of the fabric, the faults, the log, the clocks and the power manager: for
each, the fields of `State` that it leaves alone whenever it answers a next state. -/

namespace Sys2Proof.Machine

theorem execControlFlitRx_frame (port : Fin 16) (credits : List Nat) (count : Nat) (nak : Bool) (s : State) (t : State)
    (h : execControlFlitRx port credits count nak s = .next t) :
    t.pending = s.pending ∧ t.freeIdx = s.freeIdx ∧ t.dev = s.dev ∧ t.pwr = s.pwr ∧ t.geo = s.geo ∧ t.mem = s.mem ∧
    t.lineErr = s.lineErr ∧ t.pte = s.pte ∧ t.shadowNext = s.shadowNext ∧ t.heldWrites = s.heldWrites ∧ t.unit = s.unit ∧
    t.plan = s.plan ∧ t.time = s.time ∧ t.acts = s.acts ∧ t.flt = s.flt ∧ t.ck = s.ck ∧ t.host = s.host ∧ t.trust = s.trust := by
  unfold execControlFlitRx at h; split at h
  · rename_i hc; obtain ⟨-, rfl⟩ := (checked_next _ _ _).1 hc; dsimp only at h; (repeat' split at h) <;> (first | (cases h; done) | (obtain rfl := next_state h; (repeat' split) <;> simp))
  · simp_all

theorem execControlFlitSend_frame (port : Fin 16) (s : State) (t : State)
    (h : execControlFlitSend port s = .next t) :
    t.pending = s.pending ∧ t.freeIdx = s.freeIdx ∧ t.dev = s.dev ∧ t.pwr = s.pwr ∧ t.geo = s.geo ∧ t.mem = s.mem ∧
    t.lineErr = s.lineErr ∧ t.pte = s.pte ∧ t.shadowNext = s.shadowNext ∧ t.heldWrites = s.heldWrites ∧ t.unit = s.unit ∧
    t.plan = s.plan ∧ t.time = s.time ∧ t.acts = s.acts ∧ t.flt = s.flt ∧ t.ck = s.ck ∧ t.host = s.host ∧ t.trust = s.trust := by
  unfold execControlFlitSend at h; dsimp only at h; (repeat' split at h) <;> (first | (cases h; done) | (obtain rfl := next_state h; (repeat' split) <;> simp))

theorem execEchoAnswerRx_frame (s : State) (t : State)
    (h : execEchoAnswerRx s = .next t) :
    t.pending = s.pending ∧ t.freeIdx = s.freeIdx ∧ t.dev = s.dev ∧ t.pwr = s.pwr ∧ t.geo = s.geo ∧ t.mem = s.mem ∧
    t.lineErr = s.lineErr ∧ t.pte = s.pte ∧ t.shadowNext = s.shadowNext ∧ t.heldWrites = s.heldWrites ∧ t.unit = s.unit ∧
    t.plan = s.plan ∧ t.time = s.time ∧ t.acts = s.acts ∧ t.flt = s.flt ∧ t.ck = s.ck ∧ t.host = s.host ∧ t.trust = s.trust := by
  unfold execEchoAnswerRx at h; (repeat' split at h) <;> (first | (cases h; done) | (obtain rfl := next_state h; (repeat' split) <;> simp))

theorem execEchoRx_frame (port : Fin 16) (src : Nat) (s : State) (t : State)
    (h : execEchoRx port src s = .next t) :
    t.pending = s.pending ∧ t.freeIdx = s.freeIdx ∧ t.dev = s.dev ∧ t.pwr = s.pwr ∧ t.geo = s.geo ∧ t.mem = s.mem ∧
    t.lineErr = s.lineErr ∧ t.pte = s.pte ∧ t.shadowNext = s.shadowNext ∧ t.heldWrites = s.heldWrites ∧ t.unit = s.unit ∧
    t.plan = s.plan ∧ t.time = s.time ∧ t.acts = s.acts ∧ t.flt = s.flt ∧ t.ck = s.ck ∧ t.host = s.host ∧ t.trust = s.trust := by
  unfold execEchoRx at h; (repeat' split at h) <;> simp_all <;> subst_vars <;> simp

theorem execEchoTimeout_frame (s : State) (t : State)
    (h : execEchoTimeout s = .next t) :
    t.pending = s.pending ∧ t.freeIdx = s.freeIdx ∧ t.dev = s.dev ∧ t.pwr = s.pwr ∧ t.geo = s.geo ∧ t.mem = s.mem ∧
    t.lineErr = s.lineErr ∧ t.pte = s.pte ∧ t.shadowNext = s.shadowNext ∧ t.heldWrites = s.heldWrites ∧ t.unit = s.unit ∧
    t.plan = s.plan ∧ t.time = s.time ∧ t.acts = s.acts ∧ t.flt = s.flt ∧ t.ck = s.ck ∧ t.trust = s.trust := by
  unfold execEchoTimeout at h; (repeat' split at h) <;> (first | (cases h; done) | (obtain rfl := next_state h; (repeat' split) <;> simp))

theorem execFlitForward_frame (ingress : Fin 16) (src : Nat) (flit : Flit) (s : State) (t : State)
    (h : execFlitForward ingress src flit s = .next t) :
    t.pending = s.pending ∧ t.freeIdx = s.freeIdx ∧ t.dev = s.dev ∧ t.pwr = s.pwr ∧ t.geo = s.geo ∧ t.mem = s.mem ∧
    t.lineErr = s.lineErr ∧ t.pte = s.pte ∧ t.shadowNext = s.shadowNext ∧ t.heldWrites = s.heldWrites ∧ t.unit = s.unit ∧
    t.plan = s.plan ∧ t.time = s.time ∧ t.acts = s.acts ∧ t.flt = s.flt ∧ t.ck = s.ck ∧ t.host = s.host ∧ t.trust = s.trust := by
  unfold execFlitForward at h; split at h
  · rename_i hc; obtain ⟨-, rfl⟩ := (checked_next _ _ _).1 hc; dsimp only at h; (repeat' split at h) <;> (first | (cases h; done) | (obtain rfl := next_state h; (repeat' split) <;> simp))
  · simp_all

theorem execFlitRx_frame (port : Fin 16) (flit : Flit) (fecOk : Bool) (s : State) (t : State)
    (h : execFlitRx port flit fecOk s = .next t) :
    t.pending = s.pending ∧ t.dev = s.dev ∧ t.pwr = s.pwr ∧ t.geo = s.geo ∧ t.mem = s.mem ∧ t.lineErr = s.lineErr ∧
    t.pte = s.pte ∧ t.shadowNext = s.shadowNext ∧ t.heldWrites = s.heldWrites ∧ t.unit = s.unit ∧ t.plan = s.plan ∧
    t.time = s.time ∧ t.acts = s.acts ∧ t.flt = s.flt ∧ t.ck = s.ck ∧ t.host = s.host ∧ t.trust = s.trust := by
  unfold execFlitRx at h; split at h
  · rename_i hc; obtain ⟨-, rfl⟩ := (checked_next _ _ _).1 hc; dsimp only at h; (repeat' split at h) <;> (first | (cases h; done) | (obtain rfl := next_state h; (repeat' split) <;> simp))
  · simp_all

theorem execLinkTrainDone_frame (port : Fin 8) (width : Fin 4) (second : Bool) (s : State) (t : State)
    (h : execLinkTrainDone port width second s = .next t) :
    t.pending = s.pending ∧ t.freeIdx = s.freeIdx ∧ t.dev = s.dev ∧ t.pwr = s.pwr ∧ t.geo = s.geo ∧ t.mem = s.mem ∧
    t.lineErr = s.lineErr ∧ t.pte = s.pte ∧ t.shadowNext = s.shadowNext ∧ t.heldWrites = s.heldWrites ∧ t.unit = s.unit ∧
    t.plan = s.plan ∧ t.acts = s.acts ∧ t.flt = s.flt ∧ t.ck = s.ck ∧ t.host = s.host := by
  unfold execLinkTrainDone at h; dsimp only at h; (repeat' split at h) <;> simp_all <;> subst_vars <;> simp

theorem execNakRx_frame (port : Fin 16) (count : Nat) (s : State) (t : State)
    (h : execNakRx port count s = .next t) :
    t.pending = s.pending ∧ t.freeIdx = s.freeIdx ∧ t.dev = s.dev ∧ t.pwr = s.pwr ∧ t.geo = s.geo ∧ t.mem = s.mem ∧
    t.lineErr = s.lineErr ∧ t.pte = s.pte ∧ t.shadowNext = s.shadowNext ∧ t.heldWrites = s.heldWrites ∧ t.unit = s.unit ∧
    t.plan = s.plan ∧ t.time = s.time ∧ t.acts = s.acts ∧ t.flt = s.flt ∧ t.ck = s.ck ∧ t.host = s.host ∧ t.trust = s.trust := by
  unfold execNakRx at h; (repeat' split at h) <;> simp_all <;> subst_vars <;> simp

theorem execPeerIdentityRx_frame (port : Fin 16) (modId : Nat) (role : Nat) (fold : Nat) (peerPort : Fin 8) (s : State) (t : State)
    (h : execPeerIdentityRx port modId role fold peerPort s = .next t) :
    t.pending = s.pending ∧ t.freeIdx = s.freeIdx ∧ t.dev = s.dev ∧ t.pwr = s.pwr ∧ t.geo = s.geo ∧ t.mem = s.mem ∧
    t.lineErr = s.lineErr ∧ t.pte = s.pte ∧ t.shadowNext = s.shadowNext ∧ t.heldWrites = s.heldWrites ∧ t.unit = s.unit ∧
    t.plan = s.plan ∧ t.time = s.time ∧ t.acts = s.acts ∧ t.flt = s.flt ∧ t.ck = s.ck ∧ t.host = s.host ∧ t.trust = s.trust := by
  unfold execPeerIdentityRx at h; split at h
  · rename_i hc; obtain ⟨-, rfl⟩ := (checked_next _ _ _).1 hc; dsimp only at h; (repeat' split at h) <;> (first | (cases h; done) | (obtain rfl := next_state h; (repeat' split) <;> simp))
  · simp_all

theorem execPortFailed_frame (port : Fin 16) (s : State) (t : State)
    (h : execPortFailed port s = .next t) :
    t.pending = s.pending ∧ t.freeIdx = s.freeIdx ∧ t.out = s.out ∧ t.dev = s.dev ∧ t.pwr = s.pwr ∧ t.geo = s.geo ∧
    t.mem = s.mem ∧ t.lineErr = s.lineErr ∧ t.pte = s.pte ∧ t.shadowNext = s.shadowNext ∧ t.heldWrites = s.heldWrites ∧
    t.unit = s.unit ∧ t.plan = s.plan ∧ t.acts = s.acts ∧ t.ck = s.ck ∧ t.host = s.host := by
  unfold execPortFailed at h; dsimp only at h; (repeat' split at h) <;> (first | (cases h; done) | (obtain rfl := next_state h; (repeat' split) <;> simp))

theorem execPortRetrain_frame (port : Fin 16) (s : State) (t : State)
    (h : execPortRetrain port s = .next t) :
    t.pending = s.pending ∧ t.freeIdx = s.freeIdx ∧ t.out = s.out ∧ t.dev = s.dev ∧ t.pwr = s.pwr ∧ t.geo = s.geo ∧
    t.mem = s.mem ∧ t.lineErr = s.lineErr ∧ t.pte = s.pte ∧ t.shadowNext = s.shadowNext ∧ t.heldWrites = s.heldWrites ∧
    t.unit = s.unit ∧ t.plan = s.plan ∧ t.time = s.time ∧ t.acts = s.acts ∧ t.flt = s.flt ∧ t.ck = s.ck ∧ t.host = s.host ∧
    t.trust = s.trust := by
  unfold execPortRetrain at h; (repeat' split at h) <;> (first | (cases h; done) | (obtain rfl := next_state h; (repeat' split) <;> simp))

theorem execRedirectSet_frame (port : Fin 16) (src : Nat) (s : State) (t : State)
    (h : execRedirectSet port src s = .next t) :
    t.pending = s.pending ∧ t.out = s.out ∧ t.dev = s.dev ∧ t.pwr = s.pwr ∧ t.time = s.time ∧ t.acts = s.acts ∧ t.ck = s.ck ∧
    t.host = s.host := by
  unfold execRedirectSet at h; (repeat' split at h) <;> simp_all <;> subst_vars <;> simp

theorem execRemapAdopt_frame (r : RemapPlace) (s : State) (t : State)
    (h : execRemapAdopt r s = .next t) :
    t.pending = s.pending ∧ t.freeIdx = s.freeIdx ∧ t.out = s.out ∧ t.dev = s.dev ∧ t.pwr = s.pwr ∧ t.geo = s.geo ∧
    t.mem = s.mem ∧ t.lineErr = s.lineErr ∧ t.pte = s.pte ∧ t.shadowNext = s.shadowNext ∧ t.heldWrites = s.heldWrites ∧
    t.unit = s.unit ∧ t.plan = s.plan ∧ t.time = s.time ∧ t.acts = s.acts ∧ t.ck = s.ck ∧ t.host = s.host := by
  unfold execRemapAdopt at h; split at h
  · rename_i hc; obtain ⟨-, rfl⟩ := (checked_next _ _ _).1 hc; dsimp only at h; (repeat' split at h) <;> (first | (cases h; done) | (obtain rfl := next_state h; (repeat' split) <;> simp))
  · simp_all

theorem execRemapEntryRx_frame (port : Fin 16) (e : RemapEntry) (s : State) (t : State)
    (h : execRemapEntryRx port e s = .next t) :
    t.pending = s.pending ∧ t.freeIdx = s.freeIdx ∧ t.dev = s.dev ∧ t.pwr = s.pwr ∧ t.geo = s.geo ∧ t.mem = s.mem ∧
    t.lineErr = s.lineErr ∧ t.pte = s.pte ∧ t.shadowNext = s.shadowNext ∧ t.heldWrites = s.heldWrites ∧ t.unit = s.unit ∧
    t.plan = s.plan ∧ t.time = s.time ∧ t.acts = s.acts ∧ t.flt = s.flt ∧ t.ck = s.ck ∧ t.host = s.host ∧ t.trust = s.trust := by
  unfold execRemapEntryRx at h; (repeat' split at h) <;> simp_all <;> subst_vars <;> simp

theorem execTakeoverEffective_frame (s : State) (t : State)
    (h : execTakeoverEffective s = .next t) :
    t.pending = s.pending ∧ t.freeIdx = s.freeIdx ∧ t.out = s.out ∧ t.pwr = s.pwr ∧ t.geo = s.geo ∧ t.mem = s.mem ∧
    t.lineErr = s.lineErr ∧ t.pte = s.pte ∧ t.shadowNext = s.shadowNext ∧ t.heldWrites = s.heldWrites ∧ t.unit = s.unit ∧
    t.plan = s.plan ∧ t.time = s.time ∧ t.acts = s.acts ∧ t.flt = s.flt ∧ t.ck = s.ck ∧ t.cnt = s.cnt := by
  unfold execTakeoverEffective at h; (repeat' split at h) <;> (first | (cases h; done) | (obtain rfl := next_state h; (repeat' split) <;> simp))

theorem execFaultEnter_frame (s : State) (t : State)
    (h : execFaultEnter s = .next t) :
    t.pending = s.pending ∧ t.pwr = s.pwr ∧ t.geo = s.geo ∧ t.time = s.time ∧ t.acts = s.acts := by
  unfold execFaultEnter at h; (repeat' split at h) <;> (first | (cases h; done) | (obtain rfl := next_state h; (repeat' split) <;> simp))

theorem execFaultNoticeRx_frame (port : Fin 16) (n : FaultNotice) (s : State) (t : State)
    (h : execFaultNoticeRx port n s = .next t) :
    t.pending = s.pending ∧ t.freeIdx = s.freeIdx ∧ t.dev = s.dev ∧ t.pwr = s.pwr ∧ t.geo = s.geo ∧ t.mem = s.mem ∧
    t.lineErr = s.lineErr ∧ t.pte = s.pte ∧ t.shadowNext = s.shadowNext ∧ t.heldWrites = s.heldWrites ∧ t.unit = s.unit ∧
    t.plan = s.plan ∧ t.time = s.time ∧ t.acts = s.acts ∧ t.ck = s.ck ∧ t.trust = s.trust := by
  unfold execFaultNoticeRx at h; split at h
  · rename_i hc; obtain ⟨-, rfl⟩ := (checked_next _ _ _).1 hc; dsimp only at h; (repeat' split at h) <;> (first | (cases h; done) | (obtain rfl := next_state h; (repeat' split) <;> simp))
  · simp_all

theorem execFenceDrained_frame (pos : Fin 240) (s : State) (t : State)
    (h : execFenceDrained pos s = .next t) :
    t.pending = s.pending ∧ t.freeIdx = s.freeIdx ∧ t.out = s.out ∧ t.dev = s.dev ∧ t.pwr = s.pwr ∧ t.mem = s.mem ∧
    t.lineErr = s.lineErr ∧ t.pte = s.pte ∧ t.shadowNext = s.shadowNext ∧ t.heldWrites = s.heldWrites ∧ t.unit = s.unit ∧
    t.plan = s.plan ∧ t.time = s.time ∧ t.acts = s.acts ∧ t.fab = s.fab ∧ t.flt = s.flt ∧ t.ck = s.ck ∧ t.trust = s.trust ∧
    t.cnt = s.cnt := by
  unfold execFenceDrained at h; dsimp only at h; (repeat' split at h) <;> (first | (cases h; done) | (obtain rfl := next_state h; (repeat' split) <;> simp))

theorem execMeshStopFail_frame (pos : Fin 240) (s : State) (t : State)
    (h : execMeshStopFail pos s = .next t) :
    t.pending = s.pending ∧ t.freeIdx = s.freeIdx ∧ t.out = s.out ∧ t.dev = s.dev ∧ t.pwr = s.pwr ∧ t.mem = s.mem ∧
    t.lineErr = s.lineErr ∧ t.pte = s.pte ∧ t.shadowNext = s.shadowNext ∧ t.heldWrites = s.heldWrites ∧ t.unit = s.unit ∧
    t.plan = s.plan ∧ t.time = s.time ∧ t.acts = s.acts ∧ t.fab = s.fab ∧ t.ck = s.ck ∧ t.host = s.host := by
  unfold execMeshStopFail at h; dsimp only at h; (repeat' split at h) <;> (first | (cases h; done) | (obtain rfl := next_state h; (repeat' split) <;> simp))

theorem execMsCtrlWrite_frame (pos : Fin 240) (v : Word) (s : State) (t : State)
    (h : execMsCtrlWrite pos v s = .next t) :
    t.pending = s.pending ∧ t.out = s.out ∧ t.dev = s.dev ∧ t.pwr = s.pwr ∧ t.time = s.time ∧ t.acts = s.acts ∧ t.fab = s.fab ∧
    t.ck = s.ck ∧ t.host = s.host := by
  unfold execMsCtrlWrite at h; (repeat' split at h) <;> (first | (cases h; done) | (obtain rfl := next_state h; (repeat' split) <;> simp))

theorem execRespHalt_frame (p : Fin 2) (tag : Nat) (key : Nat) (s : State) (t : State)
    (h : execRespHalt p tag key s = .next t) :
    t.pending = s.pending ∧ t.pwr = s.pwr ∧ t.geo = s.geo ∧ t.time = s.time ∧ t.acts = s.acts := by
  unfold execRespHalt at h; (repeat' split at h) <;> simp_all <;> subst_vars <;> simp

theorem execRespLogTail_frame (p : Fin 2) (tag : Nat) (s : State) (t : State)
    (h : execRespLogTail p tag s = .next t) :
    t.pending = s.pending ∧ t.freeIdx = s.freeIdx ∧ t.out = s.out ∧ t.dev = s.dev ∧ t.pwr = s.pwr ∧ t.geo = s.geo ∧
    t.mem = s.mem ∧ t.lineErr = s.lineErr ∧ t.pte = s.pte ∧ t.shadowNext = s.shadowNext ∧ t.heldWrites = s.heldWrites ∧
    t.unit = s.unit ∧ t.plan = s.plan ∧ t.time = s.time ∧ t.acts = s.acts ∧ t.fab = s.fab ∧ t.ck = s.ck ∧ t.host = s.host ∧
    t.trust = s.trust := by
  unfold execRespLogTail at h; split at h
  · rename_i hc; obtain ⟨-, rfl⟩ := (checked_next _ _ _).1 hc; dsimp only at h; (repeat' split at h) <;> (first | (cases h; done) | (obtain rfl := next_state h; (repeat' split) <;> simp))
  · simp_all

theorem execRespResetPart_frame (p : Fin 2) (tag : Nat) (key : Nat) (s : State) (t : State)
    (h : execRespResetPart p tag key s = .next t) :
    t.pending = s.pending ∧ t.freeIdx = s.freeIdx ∧ t.out = s.out ∧ t.pwr = s.pwr ∧ t.geo = s.geo ∧ t.mem = s.mem ∧
    t.lineErr = s.lineErr ∧ t.pte = s.pte ∧ t.shadowNext = s.shadowNext ∧ t.heldWrites = s.heldWrites ∧ t.unit = s.unit ∧
    t.plan = s.plan ∧ t.time = s.time ∧ t.acts = s.acts ∧ t.fab = s.fab ∧ t.ck = s.ck ∧ t.host = s.host := by
  unfold execRespResetPart at h; split at h
  · rename_i hc; obtain ⟨-, rfl⟩ := (checked_next _ _ _).1 hc; dsimp only at h; (repeat' split at h) <;> (first | (cases h; done) | (obtain rfl := next_state h; (repeat' split) <;> simp))
  · simp_all

theorem execRespStatus_frame (p : Fin 2) (tag : Nat) (s : State) (t : State)
    (h : execRespStatus p tag s = .next t) :
    t.pending = s.pending ∧ t.freeIdx = s.freeIdx ∧ t.out = s.out ∧ t.dev = s.dev ∧ t.pwr = s.pwr ∧ t.geo = s.geo ∧
    t.mem = s.mem ∧ t.lineErr = s.lineErr ∧ t.pte = s.pte ∧ t.shadowNext = s.shadowNext ∧ t.heldWrites = s.heldWrites ∧
    t.unit = s.unit ∧ t.plan = s.plan ∧ t.time = s.time ∧ t.acts = s.acts ∧ t.fab = s.fab ∧ t.ck = s.ck ∧ t.host = s.host ∧
    t.trust = s.trust := by
  unfold execRespStatus at h; split at h
  · rename_i hc; obtain ⟨-, rfl⟩ := (checked_next _ _ _).1 hc; dsimp only at h; (repeat' split at h) <;> (first | (cases h; done) | (obtain rfl := next_state h; (repeat' split) <;> simp))
  · simp_all

theorem execRoleMoveDone_frame (n : Fin 8) (s : State) (t : State)
    (h : execRoleMoveDone n s = .next t) :
    t.pending = s.pending ∧ t.freeIdx = s.freeIdx ∧ t.out = s.out ∧ t.dev = s.dev ∧ t.pwr = s.pwr ∧ t.geo = s.geo ∧
    t.mem = s.mem ∧ t.lineErr = s.lineErr ∧ t.pte = s.pte ∧ t.shadowNext = s.shadowNext ∧ t.heldWrites = s.heldWrites ∧
    t.unit = s.unit ∧ t.plan = s.plan ∧ t.time = s.time ∧ t.acts = s.acts ∧ t.fab = s.fab ∧ t.ck = s.ck := by
  unfold execRoleMoveDone at h; (repeat' split at h) <;> (first | (cases h; done) | (obtain rfl := next_state h; (repeat' split) <;> simp))

theorem execWatchdogExpiry_frame (n : Fin 8) (s : State) (t : State)
    (h : execWatchdogExpiry n s = .next t) :
    t.pending = s.pending ∧ t.freeIdx = s.freeIdx ∧ t.out = s.out ∧ t.dev = s.dev ∧ t.pwr = s.pwr ∧ t.geo = s.geo ∧
    t.mem = s.mem ∧ t.lineErr = s.lineErr ∧ t.pte = s.pte ∧ t.shadowNext = s.shadowNext ∧ t.heldWrites = s.heldWrites ∧
    t.unit = s.unit ∧ t.plan = s.plan ∧ t.time = s.time ∧ t.acts = s.acts ∧ t.fab = s.fab ∧ t.ck = s.ck ∧ t.host = s.host := by
  unfold execWatchdogExpiry at h; dsimp only at h; (repeat' split at h) <;> (first | (cases h; done) | (obtain rfl := next_state h; (repeat' split) <;> simp))

theorem execWatchdogRestart_frame (n : Fin 8) (s : State) (t : State)
    (h : execWatchdogRestart n s = .next t) :
    t.pending = s.pending ∧ t.freeIdx = s.freeIdx ∧ t.out = s.out ∧ t.dev = s.dev ∧ t.pwr = s.pwr ∧ t.geo = s.geo ∧
    t.mem = s.mem ∧ t.lineErr = s.lineErr ∧ t.pte = s.pte ∧ t.shadowNext = s.shadowNext ∧ t.heldWrites = s.heldWrites ∧
    t.unit = s.unit ∧ t.plan = s.plan ∧ t.time = s.time ∧ t.acts = s.acts ∧ t.fab = s.fab ∧ t.ck = s.ck ∧ t.host = s.host ∧
    t.trust = s.trust ∧ t.cnt = s.cnt := by
  unfold execWatchdogRestart at h; (repeat' split at h) <;> (first | (cases h; done) | (obtain rfl := next_state h; (repeat' split) <;> simp))

theorem execDurableLogCopy_frame (s : State) (t : State)
    (h : execDurableLogCopy s = .next t) :
    t.pending = s.pending ∧ t.freeIdx = s.freeIdx ∧ t.out = s.out ∧ t.dev = s.dev ∧ t.pwr = s.pwr ∧ t.geo = s.geo ∧
    t.mem = s.mem ∧ t.lineErr = s.lineErr ∧ t.pte = s.pte ∧ t.shadowNext = s.shadowNext ∧ t.heldWrites = s.heldWrites ∧
    t.unit = s.unit ∧ t.plan = s.plan ∧ t.time = s.time ∧ t.acts = s.acts ∧ t.fab = s.fab ∧ t.flt = s.flt ∧ t.ck = s.ck ∧
    t.host = s.host ∧ t.cnt = s.cnt := by
  unfold execDurableLogCopy at h; (repeat' split at h) <;> (first | (cases h; done) | (obtain rfl := next_state h; (repeat' split) <;> simp))

theorem execFuseAdvance_frame (s : State) (t : State)
    (h : execFuseAdvance s = .next t) :
    t.pending = s.pending ∧ t.freeIdx = s.freeIdx ∧ t.out = s.out ∧ t.dev = s.dev ∧ t.pwr = s.pwr ∧ t.geo = s.geo ∧
    t.mem = s.mem ∧ t.lineErr = s.lineErr ∧ t.pte = s.pte ∧ t.shadowNext = s.shadowNext ∧ t.heldWrites = s.heldWrites ∧
    t.unit = s.unit ∧ t.plan = s.plan ∧ t.time = s.time ∧ t.acts = s.acts ∧ t.fab = s.fab ∧ t.flt = s.flt ∧ t.ck = s.ck ∧
    t.host = s.host ∧ t.cnt = s.cnt := by
  unfold execFuseAdvance at h; dsimp only at h; (repeat' split at h) <;> (first | (cases h; done) | (obtain rfl := next_state h; (repeat' split) <;> simp))

theorem execLogEntryWrite_frame (s : State) (t : State)
    (h : execLogEntryWrite s = .next t) :
    t.pending = s.pending ∧ t.freeIdx = s.freeIdx ∧ t.dev = s.dev ∧ t.pwr = s.pwr ∧ t.geo = s.geo ∧ t.shadowNext = s.shadowNext ∧
    t.heldWrites = s.heldWrites ∧ t.unit = s.unit ∧ t.time = s.time ∧ t.acts = s.acts ∧ t.fab = s.fab ∧ t.flt = s.flt ∧
    t.ck = s.ck := by
  unfold execLogEntryWrite at h; (repeat' split at h) <;> (first | (cases h; done) | (obtain rfl := next_state h; (repeat' split) <;> simp))

theorem execBudgetTick_frame (s : State) (t : State)
    (h : execBudgetTick s = .next t) :
    t.pending = s.pending ∧ t.freeIdx = s.freeIdx ∧ t.out = s.out ∧ t.geo = s.geo ∧ t.mem = s.mem ∧ t.lineErr = s.lineErr ∧
    t.pte = s.pte ∧ t.shadowNext = s.shadowNext ∧ t.heldWrites = s.heldWrites ∧ t.unit = s.unit ∧ t.plan = s.plan ∧
    t.time = s.time ∧ t.acts = s.acts ∧ t.fab = s.fab ∧ t.flt = s.flt ∧ t.ck = s.ck ∧ t.host = s.host := by
  unfold execBudgetTick at h; (repeat' split at h) <;> (first | (cases h; done) | (obtain rfl := next_state h; (repeat' split) <;> simp))

theorem execClampEngage_frame (half : Fin 2) (s : State) (t : State)
    (h : execClampEngage half s = .next t) :
    t.pending = s.pending ∧ t.freeIdx = s.freeIdx ∧ t.out = s.out ∧ t.dev = s.dev ∧ t.geo = s.geo ∧ t.mem = s.mem ∧
    t.lineErr = s.lineErr ∧ t.pte = s.pte ∧ t.shadowNext = s.shadowNext ∧ t.heldWrites = s.heldWrites ∧ t.unit = s.unit ∧
    t.plan = s.plan ∧ t.time = s.time ∧ t.acts = s.acts ∧ t.fab = s.fab ∧ t.flt = s.flt ∧ t.ck = s.ck ∧ t.host = s.host := by
  unfold execClampEngage at h; (repeat' split at h) <;> (first | (cases h; done) | (obtain rfl := next_state h; (repeat' split) <;> simp))

theorem execClampRelease_frame (half : Fin 2) (s : State) (t : State)
    (h : execClampRelease half s = .next t) :
    t.pending = s.pending ∧ t.freeIdx = s.freeIdx ∧ t.out = s.out ∧ t.dev = s.dev ∧ t.geo = s.geo ∧ t.mem = s.mem ∧
    t.lineErr = s.lineErr ∧ t.pte = s.pte ∧ t.shadowNext = s.shadowNext ∧ t.heldWrites = s.heldWrites ∧ t.unit = s.unit ∧
    t.plan = s.plan ∧ t.time = s.time ∧ t.acts = s.acts ∧ t.fab = s.fab ∧ t.flt = s.flt ∧ t.ck = s.ck ∧ t.host = s.host := by
  unfold execClampRelease at h; dsimp only at h; (repeat' split at h) <;> (first | (cases h; done) | (obtain rfl := next_state h; (repeat' split) <;> simp))

theorem execEnvelopeRamp_frame (missed : Bool) (s : State) (t : State)
    (h : execEnvelopeRamp missed s = .next t) :
    t.pending = s.pending ∧ t.freeIdx = s.freeIdx ∧ t.out = s.out ∧ t.dev = s.dev ∧ t.geo = s.geo ∧ t.mem = s.mem ∧
    t.lineErr = s.lineErr ∧ t.pte = s.pte ∧ t.shadowNext = s.shadowNext ∧ t.heldWrites = s.heldWrites ∧ t.unit = s.unit ∧
    t.plan = s.plan ∧ t.time = s.time ∧ t.acts = s.acts ∧ t.fab = s.fab ∧ t.ck = s.ck ∧ t.host = s.host := by
  unfold execEnvelopeRamp at h; dsimp only at h; (repeat' split at h) <;> (first | (cases h; done) | (obtain rfl := next_state h; (repeat' split) <;> simp))

theorem execGearNoticeRenew_frame (s : State) (t : State)
    (h : execGearNoticeRenew s = .next t) :
    t.pending = s.pending ∧ t.freeIdx = s.freeIdx ∧ t.dev = s.dev ∧ t.geo = s.geo ∧ t.mem = s.mem ∧ t.lineErr = s.lineErr ∧
    t.pte = s.pte ∧ t.shadowNext = s.shadowNext ∧ t.heldWrites = s.heldWrites ∧ t.unit = s.unit ∧ t.plan = s.plan ∧
    t.time = s.time ∧ t.acts = s.acts ∧ t.flt = s.flt ∧ t.ck = s.ck ∧ t.host = s.host ∧ t.trust = s.trust := by
  unfold execGearNoticeRenew at h; (repeat' split at h) <;> (first | (cases h; done) | (obtain rfl := next_state h; (repeat' split) <;> simp))

theorem execGearNoticeRx_frame (port : Fin 8) (n : GearNotice) (s : State) (t : State)
    (h : execGearNoticeRx port n s = .next t) :
    t.pending = s.pending ∧ t.freeIdx = s.freeIdx ∧ t.dev = s.dev ∧ t.geo = s.geo ∧ t.mem = s.mem ∧ t.lineErr = s.lineErr ∧
    t.pte = s.pte ∧ t.shadowNext = s.shadowNext ∧ t.heldWrites = s.heldWrites ∧ t.unit = s.unit ∧ t.plan = s.plan ∧
    t.time = s.time ∧ t.acts = s.acts ∧ t.flt = s.flt ∧ t.ck = s.ck ∧ t.host = s.host := by
  unfold execGearNoticeRx at h; split at h
  · rename_i hc; obtain ⟨-, rfl⟩ := (checked_next _ _ _).1 hc; dsimp only at h; (repeat' split at h) <;> (first | (cases h; done) | (obtain rfl := next_state h; (repeat' split) <;> simp))
  · simp_all

theorem execGearPreramp_frame (s : State) (t : State)
    (h : execGearPreramp s = .next t) :
    t.pending = s.pending ∧ t.freeIdx = s.freeIdx ∧ t.out = s.out ∧ t.dev = s.dev ∧ t.geo = s.geo ∧ t.mem = s.mem ∧
    t.lineErr = s.lineErr ∧ t.pte = s.pte ∧ t.shadowNext = s.shadowNext ∧ t.heldWrites = s.heldWrites ∧ t.unit = s.unit ∧
    t.plan = s.plan ∧ t.time = s.time ∧ t.acts = s.acts ∧ t.fab = s.fab ∧ t.ck = s.ck ∧ t.host = s.host := by
  unfold execGearPreramp at h; (repeat' split at h) <;> (first | (cases h; done) | (obtain rfl := next_state h; (repeat' split) <;> simp))

theorem execGearRaiseDeferred_frame (half : Fin 2) (s : State) (t : State)
    (h : execGearRaiseDeferred half s = .next t) :
    t.pending = s.pending ∧ t.freeIdx = s.freeIdx ∧ t.out = s.out ∧ t.dev = s.dev ∧ t.geo = s.geo ∧ t.mem = s.mem ∧
    t.lineErr = s.lineErr ∧ t.pte = s.pte ∧ t.shadowNext = s.shadowNext ∧ t.heldWrites = s.heldWrites ∧ t.unit = s.unit ∧
    t.plan = s.plan ∧ t.time = s.time ∧ t.acts = s.acts ∧ t.fab = s.fab ∧ t.flt = s.flt ∧ t.ck = s.ck ∧ t.host = s.host ∧
    t.trust = s.trust ∧ t.cnt = s.cnt := by
  unfold execGearRaiseDeferred at h; dsimp only at h; (repeat' split at h) <;> (first | (cases h; done) | (obtain rfl := next_state h; (repeat' split) <;> simp))

theorem execLimitStep_frame (s : State) (t : State)
    (h : execLimitStep s = .next t) :
    t.pending = s.pending ∧ t.freeIdx = s.freeIdx ∧ t.dev = s.dev ∧ t.geo = s.geo ∧ t.mem = s.mem ∧ t.lineErr = s.lineErr ∧
    t.pte = s.pte ∧ t.shadowNext = s.shadowNext ∧ t.heldWrites = s.heldWrites ∧ t.unit = s.unit ∧ t.plan = s.plan ∧
    t.time = s.time ∧ t.acts = s.acts ∧ t.flt = s.flt ∧ t.ck = s.ck ∧ t.host = s.host := by
  unfold execLimitStep at h; (repeat' split at h) <;> (first | (cases h; done) | (obtain rfl := next_state h; (repeat' split) <;> simp))

@[simp] theorem State.thermLower_frame (s : State) (first : Bool) :
    (s.thermLower first).pending = s.pending ∧ (s.thermLower first).freeIdx = s.freeIdx ∧ (s.thermLower first).geo = s.geo ∧
    (s.thermLower first).mem = s.mem ∧ (s.thermLower first).lineErr = s.lineErr ∧ (s.thermLower first).pte = s.pte ∧
    (s.thermLower first).shadowNext = s.shadowNext ∧ (s.thermLower first).heldWrites = s.heldWrites ∧
    (s.thermLower first).unit = s.unit ∧ (s.thermLower first).plan = s.plan ∧ (s.thermLower first).time = s.time ∧
    (s.thermLower first).acts = s.acts ∧ (s.thermLower first).flt = s.flt ∧ (s.thermLower first).ck = s.ck := by
  unfold State.thermLower; dsimp only; split <;> simp

@[simp] theorem State.thermRaise_frame (s : State) :
    (s.thermRaise).pending = s.pending ∧ (s.thermRaise).freeIdx = s.freeIdx ∧ (s.thermRaise).geo = s.geo ∧
    (s.thermRaise).mem = s.mem ∧ (s.thermRaise).lineErr = s.lineErr ∧ (s.thermRaise).pte = s.pte ∧
    (s.thermRaise).shadowNext = s.shadowNext ∧ (s.thermRaise).heldWrites = s.heldWrites ∧ (s.thermRaise).unit = s.unit ∧
    (s.thermRaise).plan = s.plan ∧ (s.thermRaise).time = s.time ∧ (s.thermRaise).acts = s.acts ∧ (s.thermRaise).flt = s.flt ∧
    (s.thermRaise).ck = s.ck := by
  unfold State.thermRaise; dsimp only; (repeat' split) <;> simp

@[simp] theorem State.thermSteps_frame (s : State) (tj : Nat) :
    (s.thermSteps tj).pending = s.pending ∧ (s.thermSteps tj).freeIdx = s.freeIdx ∧ (s.thermSteps tj).geo = s.geo ∧
    (s.thermSteps tj).mem = s.mem ∧ (s.thermSteps tj).lineErr = s.lineErr ∧ (s.thermSteps tj).pte = s.pte ∧
    (s.thermSteps tj).shadowNext = s.shadowNext ∧ (s.thermSteps tj).heldWrites = s.heldWrites ∧
    (s.thermSteps tj).unit = s.unit ∧ (s.thermSteps tj).plan = s.plan ∧ (s.thermSteps tj).time = s.time ∧
    (s.thermSteps tj).acts = s.acts ∧ (s.thermSteps tj).flt = s.flt ∧ (s.thermSteps tj).ck = s.ck := by
  unfold State.thermSteps; dsimp only; (repeat' split) <;> simp

theorem execThermalSample_frame (tj inlet outlet : Nat) (s : State) (t : State)
    (h : execThermalSample tj inlet outlet s = .next t) :
    t.pending = s.pending ∧ t.freeIdx = s.freeIdx ∧ t.geo = s.geo ∧ t.mem = s.mem ∧ t.lineErr = s.lineErr ∧ t.pte = s.pte ∧
    t.shadowNext = s.shadowNext ∧ t.heldWrites = s.heldWrites ∧ t.unit = s.unit ∧ t.plan = s.plan ∧ t.time = s.time ∧
    t.acts = s.acts ∧ t.flt = s.flt ∧ t.ck = s.ck := by
  unfold execThermalSample at h; split at h
  · rename_i hc; obtain ⟨-, rfl⟩ := (checked_next _ _ _).1 hc; dsimp only at h; split at h <;> (obtain rfl := next_state h; simp)
  · simp_all

theorem execPeerEntryEffective_frame (s : State) (t : State)
    (h : execPeerEntryEffective s = .next t) :
    t.pending = s.pending ∧ t.freeIdx = s.freeIdx ∧ t.out = s.out ∧ t.dev = s.dev ∧ t.geo = s.geo ∧ t.mem = s.mem ∧
    t.lineErr = s.lineErr ∧ t.pte = s.pte ∧ t.shadowNext = s.shadowNext ∧ t.heldWrites = s.heldWrites ∧ t.unit = s.unit ∧
    t.plan = s.plan ∧ t.time = s.time ∧ t.acts = s.acts ∧ t.fab = s.fab ∧ t.flt = s.flt ∧ t.ck = s.ck ∧ t.host = s.host := by
  unfold execPeerEntryEffective at h; (repeat' split at h) <;> (first | (cases h; done) | (obtain rfl := next_state h; (repeat' split) <;> simp))

theorem execPeerEntryExpire_frame (s : State) (t : State)
    (h : execPeerEntryExpire s = .next t) :
    t.pending = s.pending ∧ t.freeIdx = s.freeIdx ∧ t.out = s.out ∧ t.dev = s.dev ∧ t.geo = s.geo ∧ t.mem = s.mem ∧
    t.lineErr = s.lineErr ∧ t.pte = s.pte ∧ t.shadowNext = s.shadowNext ∧ t.heldWrites = s.heldWrites ∧ t.unit = s.unit ∧
    t.plan = s.plan ∧ t.time = s.time ∧ t.acts = s.acts ∧ t.fab = s.fab ∧ t.flt = s.flt ∧ t.ck = s.ck ∧ t.host = s.host := by
  unfold execPeerEntryExpire at h; (repeat' split at h) <;> (first | (cases h; done) | (obtain rfl := next_state h; (repeat' split) <;> simp))

theorem execPowerSample_frame (r : PowerReading) (s : State) (t : State)
    (h : execPowerSample r s = .next t) :
    t.pending = s.pending ∧ t.freeIdx = s.freeIdx ∧ t.out = s.out ∧ t.dev = s.dev ∧ t.geo = s.geo ∧ t.mem = s.mem ∧
    t.lineErr = s.lineErr ∧ t.pte = s.pte ∧ t.shadowNext = s.shadowNext ∧ t.heldWrites = s.heldWrites ∧ t.unit = s.unit ∧
    t.plan = s.plan ∧ t.time = s.time ∧ t.acts = s.acts ∧ t.fab = s.fab ∧ t.flt = s.flt ∧ t.ck = s.ck ∧ t.host = s.host ∧
    t.trust = s.trust ∧ t.cnt = s.cnt := by
  unfold execPowerSample at h; split at h
  · rename_i hc; obtain ⟨-, rfl⟩ := (checked_next _ _ _).1 hc; dsimp only at h; (repeat' split at h) <;> (first | (cases h; done) | (obtain rfl := next_state h; (repeat' split) <;> simp))
  · simp_all

theorem execRailOvercurrent_frame (rail : Fin 10) (s : State) (t : State)
    (h : execRailOvercurrent rail s = .next t) :
    t.pending = s.pending ∧ t.freeIdx = s.freeIdx ∧ t.out = s.out ∧ t.dev = s.dev ∧ t.geo = s.geo ∧ t.mem = s.mem ∧
    t.lineErr = s.lineErr ∧ t.pte = s.pte ∧ t.shadowNext = s.shadowNext ∧ t.heldWrites = s.heldWrites ∧ t.unit = s.unit ∧
    t.plan = s.plan ∧ t.time = s.time ∧ t.acts = s.acts ∧ t.fab = s.fab ∧ t.flt = s.flt ∧ t.ck = s.ck ∧ t.host = s.host := by
  unfold execRailOvercurrent at h; (repeat' split at h) <;> (first | (cases h; done) | (obtain rfl := next_state h; (repeat' split) <;> simp))

theorem execStackTemperatureReport_frame (stack : Fin 8) (temp : Nat) (s : State) (t : State)
    (h : execStackTemperatureReport stack temp s = .next t) :
    t.pending = s.pending ∧ t.freeIdx = s.freeIdx ∧ t.geo = s.geo ∧ t.mem = s.mem ∧ t.lineErr = s.lineErr ∧ t.pte = s.pte ∧
    t.shadowNext = s.shadowNext ∧ t.heldWrites = s.heldWrites ∧ t.unit = s.unit ∧ t.plan = s.plan ∧ t.time = s.time ∧
    t.acts = s.acts ∧ t.fab = s.fab ∧ t.flt = s.flt ∧ t.ck = s.ck ∧ t.trust = s.trust := by
  unfold execStackTemperatureReport at h; split at h
  · rename_i hc; obtain ⟨-, rfl⟩ := (checked_next _ _ _).1 hc; dsimp only at h; (repeat' split at h) <;> (first | (cases h; done) | (obtain rfl := next_state h; (repeat' split) <;> simp))
  · simp_all

theorem execCounterSignal_frame (id : Nat) (inc : Nat) (rep : Option Nat) (s : State) (t : State)
    (h : execCounterSignal id inc rep s = .next t) :
    t.pending = s.pending ∧ t.freeIdx = s.freeIdx ∧ t.out = s.out ∧ t.dev = s.dev ∧ t.pwr = s.pwr ∧ t.geo = s.geo ∧
    t.mem = s.mem ∧ t.lineErr = s.lineErr ∧ t.pte = s.pte ∧ t.shadowNext = s.shadowNext ∧ t.heldWrites = s.heldWrites ∧
    t.unit = s.unit ∧ t.time = s.time ∧ t.acts = s.acts ∧ t.fab = s.fab ∧ t.flt = s.flt ∧ t.ck = s.ck ∧ t.host = s.host ∧
    t.trust = s.trust := by
  unfold execCounterSignal at h; (repeat' split at h) <;> simp_all <;> subst_vars <;> simp

theorem execDelayMeasure_frame (port : Fin 16) (frac : Nat) (s : State) (t : State)
    (h : execDelayMeasure port frac s = .next t) :
    t.pending = s.pending ∧ t.freeIdx = s.freeIdx ∧ t.dev = s.dev ∧ t.pwr = s.pwr ∧ t.geo = s.geo ∧ t.mem = s.mem ∧
    t.lineErr = s.lineErr ∧ t.pte = s.pte ∧ t.shadowNext = s.shadowNext ∧ t.heldWrites = s.heldWrites ∧ t.unit = s.unit ∧
    t.plan = s.plan ∧ t.acts = s.acts ∧ t.flt = s.flt ∧ t.ck = s.ck ∧ t.host = s.host ∧ t.trust = s.trust := by
  unfold execDelayMeasure at h; split at h
  · rename_i hc; obtain ⟨-, rfl⟩ := (checked_next _ _ _).1 hc; dsimp only at h; (repeat' split at h) <;> (first | (cases h; done) | (obtain rfl := next_state h; (repeat' split) <;> simp))
  · simp_all

theorem execDelayReqRx_frame (port : Fin 16) (msg : TimeMsg) (frac : Nat) (heldFor : Nat) (s : State) (t : State)
    (h : execDelayReqRx port msg frac heldFor s = .next t) :
    t.pending = s.pending ∧ t.freeIdx = s.freeIdx ∧ t.dev = s.dev ∧ t.pwr = s.pwr ∧ t.geo = s.geo ∧ t.mem = s.mem ∧
    t.lineErr = s.lineErr ∧ t.pte = s.pte ∧ t.shadowNext = s.shadowNext ∧ t.heldWrites = s.heldWrites ∧ t.unit = s.unit ∧
    t.plan = s.plan ∧ t.time = s.time ∧ t.acts = s.acts ∧ t.flt = s.flt ∧ t.ck = s.ck ∧ t.host = s.host ∧ t.trust = s.trust := by
  unfold execDelayReqRx at h; split at h
  · rename_i hc; obtain ⟨-, rfl⟩ := (checked_next _ _ _).1 hc; dsimp only at h; (repeat' split at h) <;> (first | (cases h; done) | (obtain rfl := next_state h; (repeat' split) <;> simp))
  · simp_all

theorem execDelayRespRx_frame (port : Fin 16) (msg : TimeMsg) (frac : Nat) (s : State) (t : State)
    (h : execDelayRespRx port msg frac s = .next t) :
    t.pending = s.pending ∧ t.freeIdx = s.freeIdx ∧ t.out = s.out ∧ t.dev = s.dev ∧ t.pwr = s.pwr ∧ t.geo = s.geo ∧
    t.mem = s.mem ∧ t.lineErr = s.lineErr ∧ t.pte = s.pte ∧ t.shadowNext = s.shadowNext ∧ t.heldWrites = s.heldWrites ∧
    t.unit = s.unit ∧ t.plan = s.plan ∧ t.time = s.time ∧ t.acts = s.acts ∧ t.flt = s.flt ∧ t.ck = s.ck ∧ t.host = s.host ∧
    t.cnt = s.cnt := by
  unfold execDelayRespRx at h; split at h
  · rename_i hc; obtain ⟨-, rfl⟩ := (checked_next _ _ _).1 hc; dsimp only at h; (repeat' split at h) <;> (first | (cases h; done) | (obtain rfl := next_state h; (repeat' split) <;> simp))
  · simp_all

theorem execHoldoverEntry_frame (s : State) (t : State)
    (h : execHoldoverEntry s = .next t) :
    t.pending = s.pending ∧ t.freeIdx = s.freeIdx ∧ t.out = s.out ∧ t.dev = s.dev ∧ t.pwr = s.pwr ∧ t.geo = s.geo ∧
    t.mem = s.mem ∧ t.lineErr = s.lineErr ∧ t.pte = s.pte ∧ t.shadowNext = s.shadowNext ∧ t.heldWrites = s.heldWrites ∧
    t.unit = s.unit ∧ t.plan = s.plan ∧ t.acts = s.acts ∧ t.fab = s.fab ∧ t.flt = s.flt ∧ t.ck = s.ck ∧ t.host = s.host ∧
    t.trust = s.trust := by
  unfold execHoldoverEntry at h; (repeat' split at h) <;> (first | (cases h; done) | (obtain rfl := next_state h; (repeat' split) <;> simp))

theorem execHoldoverExpiry_frame (s : State) (t : State)
    (h : execHoldoverExpiry s = .next t) :
    t.pending = s.pending ∧ t.freeIdx = s.freeIdx ∧ t.out = s.out ∧ t.dev = s.dev ∧ t.pwr = s.pwr ∧ t.geo = s.geo ∧
    t.mem = s.mem ∧ t.lineErr = s.lineErr ∧ t.pte = s.pte ∧ t.shadowNext = s.shadowNext ∧ t.heldWrites = s.heldWrites ∧
    t.unit = s.unit ∧ t.plan = s.plan ∧ t.acts = s.acts ∧ t.fab = s.fab ∧ t.ck = s.ck ∧ t.host = s.host := by
  unfold execHoldoverExpiry at h; (repeat' split at h) <;> (first | (cases h; done) | (obtain rfl := next_state h; (repeat' split) <;> simp))

theorem execSlewDone_frame (s : State) (t : State)
    (h : execSlewDone s = .next t) :
    t.pending = s.pending ∧ t.freeIdx = s.freeIdx ∧ t.out = s.out ∧ t.dev = s.dev ∧ t.pwr = s.pwr ∧ t.geo = s.geo ∧
    t.mem = s.mem ∧ t.lineErr = s.lineErr ∧ t.pte = s.pte ∧ t.shadowNext = s.shadowNext ∧ t.heldWrites = s.heldWrites ∧
    t.unit = s.unit ∧ t.plan = s.plan ∧ t.acts = s.acts ∧ t.fab = s.fab ∧ t.flt = s.flt ∧ t.ck = s.ck ∧ t.host = s.host ∧
    t.trust = s.trust ∧ t.cnt = s.cnt := by
  unfold execSlewDone at h; (repeat' split at h) <;> (first | (cases h; done) | (obtain rfl := next_state h; (repeat' split) <;> simp))

theorem execStandbyTakeover_frame (s : State) (t : State)
    (h : execStandbyTakeover s = .next t) :
    t.pending = s.pending ∧ t.freeIdx = s.freeIdx ∧ t.out = s.out ∧ t.dev = s.dev ∧ t.pwr = s.pwr ∧ t.geo = s.geo ∧
    t.mem = s.mem ∧ t.lineErr = s.lineErr ∧ t.pte = s.pte ∧ t.shadowNext = s.shadowNext ∧ t.heldWrites = s.heldWrites ∧
    t.unit = s.unit ∧ t.plan = s.plan ∧ t.acts = s.acts ∧ t.fab = s.fab ∧ t.flt = s.flt ∧ t.ck = s.ck ∧ t.host = s.host := by
  unfold execStandbyTakeover at h; (repeat' split at h) <;> (first | (cases h; done) | (obtain rfl := next_state h; (repeat' split) <;> simp))

theorem execSyncRx_frame (port : Fin 16) (msg : TimeMsg) (frac : Nat) (s : State) (t : State)
    (h : execSyncRx port msg frac s = .next t) :
    t.pending = s.pending ∧ t.freeIdx = s.freeIdx ∧ t.dev = s.dev ∧ t.pwr = s.pwr ∧ t.geo = s.geo ∧ t.mem = s.mem ∧
    t.lineErr = s.lineErr ∧ t.pte = s.pte ∧ t.shadowNext = s.shadowNext ∧ t.heldWrites = s.heldWrites ∧ t.unit = s.unit ∧
    t.plan = s.plan ∧ t.acts = s.acts ∧ t.ck = s.ck ∧ t.host = s.host := by
  unfold execSyncRx at h; split at h
  · rename_i hc; obtain ⟨-, rfl⟩ := (checked_next _ _ _).1 hc; dsimp only at h; (repeat' split at h) <;> (first | (cases h; done) | (obtain rfl := next_state h; (repeat' split) <;> simp))
  · simp_all

theorem execSyncSend_frame (s : State) (t : State)
    (h : execSyncSend s = .next t) :
    t.pending = s.pending ∧ t.dev = s.dev ∧ t.pwr = s.pwr ∧ t.geo = s.geo ∧ t.mem = s.mem ∧ t.lineErr = s.lineErr ∧
    t.pte = s.pte ∧ t.shadowNext = s.shadowNext ∧ t.heldWrites = s.heldWrites ∧ t.unit = s.unit ∧ t.plan = s.plan ∧
    t.acts = s.acts ∧ t.flt = s.flt ∧ t.ck = s.ck ∧ t.host = s.host ∧ t.trust = s.trust := by
  unfold execSyncSend at h; (repeat' split at h) <;> (first | (cases h; done) | (obtain rfl := next_state h; (repeat' split) <;> simp))

theorem execWallAdopt_frame (s : State) (t : State)
    (h : execWallAdopt s = .next t) :
    t.pending = s.pending ∧ t.freeIdx = s.freeIdx ∧ t.out = s.out ∧ t.dev = s.dev ∧ t.pwr = s.pwr ∧ t.geo = s.geo ∧
    t.mem = s.mem ∧ t.lineErr = s.lineErr ∧ t.pte = s.pte ∧ t.shadowNext = s.shadowNext ∧ t.heldWrites = s.heldWrites ∧
    t.unit = s.unit ∧ t.plan = s.plan ∧ t.acts = s.acts ∧ t.fab = s.fab ∧ t.flt = s.flt ∧ t.ck = s.ck ∧ t.host = s.host ∧
    t.cnt = s.cnt := by
  unfold execWallAdopt at h; (repeat' split at h) <;> (first | (cases h; done) | (obtain rfl := next_state h; (repeat' split) <;> simp))

end Sys2Proof.Machine
end

