-- ==== Sys2Proof/Laws/ExecHost.lean ====
section
/-! SUPPORT. Frames of the commands of the host, the plan run, checkpoints and the side channels: for each, the
fields of `State` that it leaves alone whenever it answers a next state. -/

namespace Sys2Proof.Machine

theorem execCheckpoint_frame (s : State) (t : State)
    (h : execCheckpoint s = .next t) :
    t.pending = s.pending ∧ t.freeIdx = s.freeIdx ∧ t.dev = s.dev ∧ t.pwr = s.pwr ∧ t.geo = s.geo ∧ t.unit = s.unit ∧
    t.time = s.time ∧ t.acts = s.acts := by
  unfold execCheckpoint at h; (repeat' split at h) <;> (first | (cases h; done) | (obtain rfl := next_state h; (repeat' split) <;> simp))

theorem execCkptClose_frame (s : State) (t : State)
    (h : execCkptClose s = .next t) :
    t.pending = s.pending ∧ t.freeIdx = s.freeIdx ∧ t.dev = s.dev ∧ t.pwr = s.pwr ∧ t.geo = s.geo ∧ t.mem = s.mem ∧
    t.shadowNext = s.shadowNext ∧ t.heldWrites = s.heldWrites ∧ t.unit = s.unit ∧ t.time = s.time ∧ t.acts = s.acts ∧
    t.fab = s.fab ∧ t.flt = s.flt := by
  unfold execCkptClose at h; (repeat' split at h) <;> (first | (cases h; done) | (obtain rfl := next_state h; (repeat' split) <;> simp))

theorem execCkptNow_frame (p : Fin 2) (m : Fin 16) (s : State) (t : State)
    (h : execCkptNow p m s = .next t) :
    t.pending = s.pending ∧ t.freeIdx = s.freeIdx ∧ t.out = s.out ∧ t.dev = s.dev ∧ t.pwr = s.pwr ∧ t.geo = s.geo ∧
    t.mem = s.mem ∧ t.lineErr = s.lineErr ∧ t.pte = s.pte ∧ t.shadowNext = s.shadowNext ∧ t.heldWrites = s.heldWrites ∧
    t.unit = s.unit ∧ t.plan = s.plan ∧ t.time = s.time ∧ t.acts = s.acts ∧ t.fab = s.fab ∧ t.flt = s.flt ∧ t.ck = s.ck := by
  unfold execCkptNow State.runChanging at h; dsimp only at h; split at h <;> cases h <;> (repeat' split) <;> simp

theorem execCkptNowEffect_frame (s : State) (t : State)
    (h : execCkptNowEffect s = .next t) :
    t.pending = s.pending ∧ t.freeIdx = s.freeIdx ∧ t.dev = s.dev ∧ t.pwr = s.pwr ∧ t.geo = s.geo ∧ t.unit = s.unit ∧
    t.time = s.time ∧ t.acts = s.acts := by
  unfold execCkptNowEffect at h; dsimp only at h; (repeat' split at h) <;> simp_all <;> subst_vars <;> simp

theorem execCkptPolicy_frame (p : Fin 2) (m : Fin 16) (s : State) (t : State)
    (h : execCkptPolicy p m s = .next t) :
    t.pending = s.pending ∧ t.freeIdx = s.freeIdx ∧ t.out = s.out ∧ t.dev = s.dev ∧ t.pwr = s.pwr ∧ t.geo = s.geo ∧
    t.mem = s.mem ∧ t.lineErr = s.lineErr ∧ t.pte = s.pte ∧ t.shadowNext = s.shadowNext ∧ t.heldWrites = s.heldWrites ∧
    t.unit = s.unit ∧ t.plan = s.plan ∧ t.time = s.time ∧ t.acts = s.acts ∧ t.fab = s.fab ∧ t.flt = s.flt := by
  unfold execCkptPolicy State.runChanging at h; dsimp only at h; split at h <;> cases h <;> (repeat' split) <;> simp

theorem execCkptStreamStart_frame (s : State) (t : State)
    (h : execCkptStreamStart s = .next t) :
    t.pending = s.pending ∧ t.dev = s.dev ∧ t.pwr = s.pwr ∧ t.geo = s.geo ∧ t.mem = s.mem ∧ t.shadowNext = s.shadowNext ∧
    t.heldWrites = s.heldWrites ∧ t.unit = s.unit ∧ t.time = s.time ∧ t.acts = s.acts ∧ t.fab = s.fab ∧ t.flt = s.flt := by
  unfold execCkptStreamStart at h; dsimp only at h; (repeat' split at h) <;> (first | (cases h; done) | (obtain rfl := next_state h; (repeat' split) <;> simp))

theorem execCkptTargetError_frame (p : Fin 2) (s : State) (t : State)
    (h : execCkptTargetError p s = .next t) :
    t.pending = s.pending ∧ t.dev = s.dev ∧ t.pwr = s.pwr ∧ t.geo = s.geo ∧ t.mem = s.mem ∧ t.shadowNext = s.shadowNext ∧
    t.heldWrites = s.heldWrites ∧ t.unit = s.unit ∧ t.time = s.time ∧ t.acts = s.acts ∧ t.fab = s.fab ∧ t.flt = s.flt := by
  unfold execCkptTargetError at h; (repeat' split at h) <;> (first | (cases h; done) | (obtain rfl := next_state h; (repeat' split) <;> simp))

theorem execCkptTargets_frame (p : Fin 2) (m : Fin 16) (s : State) (t : State)
    (h : execCkptTargets p m s = .next t) :
    t.pending = s.pending ∧ t.freeIdx = s.freeIdx ∧ t.out = s.out ∧ t.dev = s.dev ∧ t.pwr = s.pwr ∧ t.geo = s.geo ∧
    t.mem = s.mem ∧ t.lineErr = s.lineErr ∧ t.pte = s.pte ∧ t.shadowNext = s.shadowNext ∧ t.heldWrites = s.heldWrites ∧
    t.unit = s.unit ∧ t.plan = s.plan ∧ t.time = s.time ∧ t.acts = s.acts ∧ t.fab = s.fab ∧ t.flt = s.flt := by
  unfold execCkptTargets State.runChanging at h; dsimp only at h; split at h <;> cases h <;> (repeat' split) <;> simp

theorem execRestore_frame (p : Fin 2) (m : Fin 16) (hostA : Tab Byte) (hostB : Tab Byte) (s : State) (t : State)
    (h : execRestore p m hostA hostB s = .next t) :
    t.pending = s.pending ∧ t.pwr = s.pwr ∧ t.time = s.time := by
  unfold execRestore at h; split at h
  · rename_i hc; obtain ⟨-, rfl⟩ := (checked_next _ _ _).1 hc; unfold State.runChanging at h; dsimp only at h; split at h <;> (first | (cases h; done) | (obtain rfl := next_state h; (repeat' split) <;> simp))
  · simp_all

theorem execRestoreSourceError_frame (p : Fin 2) (m : Fin 16) (hostA : Tab Byte) (hostB : Tab Byte) (doneA : Nat) (doneB : Nat) (s : State) (t : State)
    (h : execRestoreSourceError p m hostA hostB doneA doneB s = .next t) :
    t.pending = s.pending ∧ t.dev = s.dev ∧ t.pwr = s.pwr ∧ t.geo = s.geo ∧ t.shadowNext = s.shadowNext ∧ t.unit = s.unit ∧
    t.time = s.time ∧ t.acts = s.acts := by
  unfold execRestoreSourceError at h; split at h
  · rename_i hc; obtain ⟨-, rfl⟩ := (checked_next _ _ _).1 hc; unfold State.runChanging at h; dsimp only at h; split at h <;> (first | (cases h; done) | (obtain rfl := next_state h; (repeat' split) <;> simp))
  · simp_all

theorem execRollback_frame (p : Fin 2) (m : Fin 16) (s : State) (t : State)
    (h : execRollback p m s = .next t) :
    t.pending = s.pending ∧ t.pwr = s.pwr ∧ t.time = s.time := by
  unfold execRollback State.runChanging at h; dsimp only at h; split at h <;> cases h <;> (repeat' split) <;> simp

theorem execSnapshotClose_frame (s : State) (t : State)
    (h : execSnapshotClose s = .next t) :
    t.pending = s.pending ∧ t.freeIdx = s.freeIdx ∧ t.dev = s.dev ∧ t.pwr = s.pwr ∧ t.geo = s.geo ∧ t.mem = s.mem ∧
    t.shadowNext = s.shadowNext ∧ t.heldWrites = s.heldWrites ∧ t.unit = s.unit ∧ t.time = s.time ∧ t.acts = s.acts ∧
    t.fab = s.fab ∧ t.flt = s.flt ∧ t.host = s.host := by
  unfold execSnapshotClose at h; (repeat' split at h) <;> simp_all <;> subst_vars <;> simp

theorem execConfigSet_frame (p : Fin 2) (m : Fin 16) (s : State) (t : State)
    (h : execConfigSet p m s = .next t) :
    t.pending = s.pending ∧ t.freeIdx = s.freeIdx ∧ t.out = s.out ∧ t.pwr = s.pwr ∧ t.geo = s.geo ∧ t.mem = s.mem ∧
    t.lineErr = s.lineErr ∧ t.pte = s.pte ∧ t.shadowNext = s.shadowNext ∧ t.heldWrites = s.heldWrites ∧ t.unit = s.unit ∧
    t.plan = s.plan ∧ t.time = s.time ∧ t.acts = s.acts ∧ t.flt = s.flt ∧ t.ck = s.ck := by
  unfold execConfigSet State.runChanging at h; dsimp only at h; split at h <;> cases h <;> (repeat' split) <;> simp

theorem execFenceCore_frame (p : Fin 2) (m : Fin 16) (s : State) (t : State)
    (h : execFenceCore p m s = .next t) :
    t.pending = s.pending ∧ t.out = s.out ∧ t.dev = s.dev ∧ t.pwr = s.pwr ∧ t.time = s.time ∧ t.acts = s.acts ∧ t.fab = s.fab ∧
    t.ck = s.ck := by
  unfold execFenceCore State.runChanging at h; dsimp only at h; split at h <;> cases h <;> (repeat' split) <;> simp

theorem execFwCommit_frame (p : Fin 2) (m : Fin 16) (s : State) (t : State)
    (h : execFwCommit p m s = .next t) :
    t.pending = s.pending ∧ t.freeIdx = s.freeIdx ∧ t.out = s.out ∧ t.pwr = s.pwr ∧ t.mem = s.mem ∧ t.lineErr = s.lineErr ∧
    t.pte = s.pte ∧ t.shadowNext = s.shadowNext ∧ t.heldWrites = s.heldWrites ∧ t.unit = s.unit ∧ t.plan = s.plan ∧
    t.time = s.time ∧ t.acts = s.acts ∧ t.fab = s.fab ∧ t.flt = s.flt ∧ t.ck = s.ck := by
  unfold execFwCommit State.runChanging at h; dsimp only at h; split at h <;> cases h <;> (repeat' split) <;> simp

theorem execFwStage_frame (p : Fin 2) (m : Fin 16) (host : Tab Byte) (s : State) (t : State)
    (h : execFwStage p m host s = .next t) :
    t.pending = s.pending ∧ t.freeIdx = s.freeIdx ∧ t.out = s.out ∧ t.dev = s.dev ∧ t.pwr = s.pwr ∧ t.geo = s.geo ∧
    t.mem = s.mem ∧ t.shadowNext = s.shadowNext ∧ t.heldWrites = s.heldWrites ∧ t.unit = s.unit ∧ t.time = s.time ∧
    t.acts = s.acts ∧ t.fab = s.fab ∧ t.ck = s.ck := by
  unfold execFwStage at h; split at h
  · rename_i hc; obtain ⟨-, rfl⟩ := (checked_next _ _ _).1 hc; unfold State.runChanging at h; dsimp only at h; split at h <;> (first | (cases h; done) | (obtain rfl := next_state h; (repeat' split) <;> simp))
  · simp_all

theorem execGearPolicy_frame (p : Fin 2) (m : Fin 16) (s : State) (t : State)
    (h : execGearPolicy p m s = .next t) :
    t.pending = s.pending ∧ t.freeIdx = s.freeIdx ∧ t.out = s.out ∧ t.dev = s.dev ∧ t.geo = s.geo ∧ t.mem = s.mem ∧
    t.lineErr = s.lineErr ∧ t.pte = s.pte ∧ t.shadowNext = s.shadowNext ∧ t.heldWrites = s.heldWrites ∧ t.unit = s.unit ∧
    t.plan = s.plan ∧ t.time = s.time ∧ t.acts = s.acts ∧ t.fab = s.fab ∧ t.flt = s.flt ∧ t.ck = s.ck := by
  unfold execGearPolicy State.runChanging at h; dsimp only at h; split at h <;> cases h <;> (repeat' split) <;> simp

theorem execHalt_frame (p : Fin 2) (m : Fin 16) (s : State) (t : State)
    (h : execHalt p m s = .next t) :
    t.pending = s.pending ∧ t.pwr = s.pwr ∧ t.geo = s.geo ∧ t.time = s.time ∧ t.acts = s.acts := by
  unfold execHalt at h; split at h
  · unfold State.runReading at h; dsimp only at h; split at h
    · rw [next_state h]; split <;> simp
    · rw [next_state h]; simp
  · unfold State.runAtOnce at h; split at h
    · split at h
      · rw [next_state h]; simp
      · dsimp only at h; (repeat' split at h) <;> (rw [next_state h]; (repeat' split) <;> simp)
    · rw [next_state h]; simp

theorem execPowerLimit_frame (p : Fin 2) (m : Fin 16) (s : State) (t : State)
    (h : execPowerLimit p m s = .next t) :
    t.pending = s.pending ∧ t.freeIdx = s.freeIdx ∧ t.out = s.out ∧ t.dev = s.dev ∧ t.geo = s.geo ∧ t.mem = s.mem ∧
    t.lineErr = s.lineErr ∧ t.pte = s.pte ∧ t.shadowNext = s.shadowNext ∧ t.heldWrites = s.heldWrites ∧ t.unit = s.unit ∧
    t.plan = s.plan ∧ t.time = s.time ∧ t.acts = s.acts ∧ t.fab = s.fab ∧ t.flt = s.flt ∧ t.ck = s.ck := by
  unfold execPowerLimit State.runChanging at h; dsimp only at h; split at h <;> cases h <;> (repeat' split) <;> simp

theorem execResetPart_frame (p : Fin 2) (m : Fin 16) (s : State) (t : State)
    (h : execResetPart p m s = .next t) :
    t.pending = s.pending ∧ t.freeIdx = s.freeIdx ∧ t.out = s.out ∧ t.pwr = s.pwr ∧ t.geo = s.geo ∧ t.mem = s.mem ∧
    t.lineErr = s.lineErr ∧ t.pte = s.pte ∧ t.shadowNext = s.shadowNext ∧ t.heldWrites = s.heldWrites ∧ t.unit = s.unit ∧
    t.plan = s.plan ∧ t.time = s.time ∧ t.acts = s.acts ∧ t.fab = s.fab ∧ t.ck = s.ck := by
  unfold execResetPart State.runAtOnce at h; dsimp only at h; (repeat' split at h) <;> (first | (cases h; done) | (obtain rfl := next_state h; (repeat' split) <;> simp))

theorem execSetSteward_frame (p : Fin 2) (m : Fin 16) (s : State) (t : State)
    (h : execSetSteward p m s = .next t) :
    t.pending = s.pending ∧ t.freeIdx = s.freeIdx ∧ t.dev = s.dev ∧ t.pwr = s.pwr ∧ t.geo = s.geo ∧ t.mem = s.mem ∧
    t.lineErr = s.lineErr ∧ t.pte = s.pte ∧ t.shadowNext = s.shadowNext ∧ t.heldWrites = s.heldWrites ∧ t.unit = s.unit ∧
    t.plan = s.plan ∧ t.time = s.time ∧ t.acts = s.acts ∧ t.fab = s.fab ∧ t.flt = s.flt ∧ t.ck = s.ck := by
  unfold execSetSteward State.runChanging at h; dsimp only at h; split at h <;> cases h <;> (repeat' split) <;> simp

theorem execSpareEnlist_frame (p : Fin 2) (m : Fin 16) (s : State) (t : State)
    (h : execSpareEnlist p m s = .next t) :
    t.pending = s.pending ∧ t.freeIdx = s.freeIdx ∧ t.out = s.out ∧ t.pwr = s.pwr ∧ t.geo = s.geo ∧ t.mem = s.mem ∧
    t.lineErr = s.lineErr ∧ t.pte = s.pte ∧ t.shadowNext = s.shadowNext ∧ t.heldWrites = s.heldWrites ∧ t.unit = s.unit ∧
    t.plan = s.plan ∧ t.time = s.time ∧ t.acts = s.acts ∧ t.fab = s.fab ∧ t.flt = s.flt ∧ t.ck = s.ck := by
  unfold execSpareEnlist State.runChanging at h; dsimp only at h; split at h <;> cases h <;> (repeat' split) <;> simp

theorem execSpareTakeover_frame (p : Fin 2) (m : Fin 16) (s : State) (t : State)
    (h : execSpareTakeover p m s = .next t) :
    t.pending = s.pending ∧ t.freeIdx = s.freeIdx ∧ t.dev = s.dev ∧ t.pwr = s.pwr ∧ t.geo = s.geo ∧ t.mem = s.mem ∧
    t.lineErr = s.lineErr ∧ t.pte = s.pte ∧ t.shadowNext = s.shadowNext ∧ t.heldWrites = s.heldWrites ∧ t.unit = s.unit ∧
    t.plan = s.plan ∧ t.time = s.time ∧ t.acts = s.acts ∧ t.flt = s.flt ∧ t.ck = s.ck := by
  unfold execSpareTakeover State.runChanging at h; dsimp only at h; split at h <;> cases h <;> (repeat' split) <;> simp

theorem execTimeRole_frame (p : Fin 2) (m : Fin 16) (s : State) (t : State)
    (h : execTimeRole p m s = .next t) :
    t.pending = s.pending ∧ t.freeIdx = s.freeIdx ∧ t.out = s.out ∧ t.dev = s.dev ∧ t.pwr = s.pwr ∧ t.geo = s.geo ∧
    t.mem = s.mem ∧ t.lineErr = s.lineErr ∧ t.pte = s.pte ∧ t.shadowNext = s.shadowNext ∧ t.heldWrites = s.heldWrites ∧
    t.unit = s.unit ∧ t.plan = s.plan ∧ t.acts = s.acts ∧ t.fab = s.fab ∧ t.flt = s.flt ∧ t.ck = s.ck := by
  unfold execTimeRole State.runChanging at h; dsimp only at h; split at h <;> cases h <;> (repeat' split) <;> simp

theorem execTimeSyncWall_frame (p : Fin 2) (m : Fin 16) (s : State) (t : State)
    (h : execTimeSyncWall p m s = .next t) :
    t.pending = s.pending ∧ t.freeIdx = s.freeIdx ∧ t.out = s.out ∧ t.dev = s.dev ∧ t.pwr = s.pwr ∧ t.geo = s.geo ∧
    t.mem = s.mem ∧ t.lineErr = s.lineErr ∧ t.pte = s.pte ∧ t.shadowNext = s.shadowNext ∧ t.heldWrites = s.heldWrites ∧
    t.unit = s.unit ∧ t.plan = s.plan ∧ t.acts = s.acts ∧ t.fab = s.fab ∧ t.flt = s.flt ∧ t.ck = s.ck := by
  unfold execTimeSyncWall State.runChanging at h; dsimp only at h; split at h <;> cases h <;> (repeat' split) <;> simp

theorem execBar0CrossingRead_frame (p : Fin 2) (offset : Nat) (len : Nat) (s : State) (t : State)
    (h : execBar0CrossingRead p offset len s = .next t) :
    t.pending = s.pending ∧ t.freeIdx = s.freeIdx ∧ t.dev = s.dev ∧ t.pwr = s.pwr ∧ t.geo = s.geo ∧ t.mem = s.mem ∧
    t.lineErr = s.lineErr ∧ t.pte = s.pte ∧ t.shadowNext = s.shadowNext ∧ t.heldWrites = s.heldWrites ∧ t.unit = s.unit ∧
    t.plan = s.plan ∧ t.time = s.time ∧ t.acts = s.acts ∧ t.fab = s.fab ∧ t.flt = s.flt ∧ t.ck = s.ck ∧ t.host = s.host ∧
    t.trust = s.trust := by
  unfold execBar0CrossingRead at h; (repeat' split at h) <;> (first | (cases h; done) | (obtain rfl := next_state h; (repeat' split) <;> simp))

theorem execBar0WriteDiscard_frame (p : Fin 2) (offset : Nat) (len : Nat) (s : State) (t : State)
    (h : execBar0WriteDiscard p offset len s = .next t) :
    t.pending = s.pending ∧ t.freeIdx = s.freeIdx ∧ t.out = s.out ∧ t.dev = s.dev ∧ t.pwr = s.pwr ∧ t.geo = s.geo ∧
    t.mem = s.mem ∧ t.lineErr = s.lineErr ∧ t.pte = s.pte ∧ t.shadowNext = s.shadowNext ∧ t.heldWrites = s.heldWrites ∧
    t.unit = s.unit ∧ t.plan = s.plan ∧ t.time = s.time ∧ t.acts = s.acts ∧ t.fab = s.fab ∧ t.flt = s.flt ∧ t.ck = s.ck ∧
    t.host = s.host ∧ t.trust = s.trust := by
  unfold execBar0WriteDiscard at h; (repeat' split at h) <;> (first | (cases h; done) | (obtain rfl := next_state h; (repeat' split) <;> simp))

theorem execBar2Read_frame (p : Fin 2) (offset : Nat) (len : Nat) (s : State) (t : State)
    (h : execBar2Read p offset len s = .next t) :
    t.pending = s.pending ∧ t.freeIdx = s.freeIdx ∧ t.dev = s.dev ∧ t.pwr = s.pwr ∧ t.geo = s.geo ∧ t.mem = s.mem ∧
    t.shadowNext = s.shadowNext ∧ t.heldWrites = s.heldWrites ∧ t.unit = s.unit ∧ t.time = s.time ∧ t.acts = s.acts ∧
    t.fab = s.fab ∧ t.ck = s.ck ∧ t.host = s.host := by
  unfold execBar2Read at h; split at h
  · rename_i hc; obtain ⟨-, rfl⟩ := (checked_next _ _ _).1 hc; dsimp only at h; (repeat' split at h) <;> (first | (cases h; done) | (obtain rfl := next_state h; (repeat' split) <;> simp))
  · simp_all

theorem execBar2Write_frame (p : Fin 2) (offset : Nat) (data : List Byte) (s : State) (t : State)
    (h : execBar2Write p offset data s = .next t) :
    t.pending = s.pending ∧ t.freeIdx = s.freeIdx ∧ t.out = s.out ∧ t.dev = s.dev ∧ t.pwr = s.pwr ∧ t.geo = s.geo ∧
    t.unit = s.unit ∧ t.time = s.time ∧ t.acts = s.acts ∧ t.fab = s.fab ∧ t.ck = s.ck ∧ t.host = s.host := by
  unfold execBar2Write at h; (repeat' split at h) <;> simp_all <;> subst_vars <;> simp

theorem execConsumedWrite_frame (p : Fin 2) (m : Fin 16) (seq : Nat) (s : State) (t : State)
    (h : execConsumedWrite p m seq s = .next t) :
    t.pending = s.pending ∧ t.freeIdx = s.freeIdx ∧ t.out = s.out ∧ t.dev = s.dev ∧ t.pwr = s.pwr ∧ t.geo = s.geo ∧
    t.mem = s.mem ∧ t.lineErr = s.lineErr ∧ t.pte = s.pte ∧ t.shadowNext = s.shadowNext ∧ t.heldWrites = s.heldWrites ∧
    t.unit = s.unit ∧ t.plan = s.plan ∧ t.time = s.time ∧ t.acts = s.acts ∧ t.fab = s.fab ∧ t.flt = s.flt ∧ t.ck = s.ck ∧
    t.trust = s.trust := by
  unfold execConsumedWrite at h; split at h
  · rename_i hc; obtain ⟨-, rfl⟩ := (checked_next _ _ _).1 hc; dsimp only at h; (repeat' split at h) <;> (first | (cases h; done) | (obtain rfl := next_state h; (repeat' split) <;> simp))
  · simp_all

theorem execMailboxSubmit_frame (p : Fin 2) (m : Fin 16) (offset : Nat) (data : List Byte) (s : State) (t : State)
    (h : execMailboxSubmit p m offset data s = .next t) :
    t.pending = s.pending ∧ t.freeIdx = s.freeIdx ∧ t.out = s.out ∧ t.dev = s.dev ∧ t.pwr = s.pwr ∧ t.geo = s.geo ∧
    t.mem = s.mem ∧ t.lineErr = s.lineErr ∧ t.pte = s.pte ∧ t.shadowNext = s.shadowNext ∧ t.heldWrites = s.heldWrites ∧
    t.unit = s.unit ∧ t.plan = s.plan ∧ t.time = s.time ∧ t.acts = s.acts ∧ t.fab = s.fab ∧ t.flt = s.flt ∧ t.ck = s.ck ∧
    t.trust = s.trust := by
  unfold execMailboxSubmit at h; split at h
  · rename_i hc; obtain ⟨-, rfl⟩ := (checked_next _ _ _).1 hc; dsimp only at h; (repeat' split at h) <;> (first | (cases h; done) | (obtain rfl := next_state h; (repeat' split) <;> simp))
  · simp_all

theorem execMirrorRefresh_frame (s : State) (t : State)
    (h : execMirrorRefresh s = .next t) :
    t.pending = s.pending ∧ t.freeIdx = s.freeIdx ∧ t.out = s.out ∧ t.dev = s.dev ∧ t.pwr = s.pwr ∧ t.geo = s.geo ∧
    t.mem = s.mem ∧ t.lineErr = s.lineErr ∧ t.pte = s.pte ∧ t.shadowNext = s.shadowNext ∧ t.heldWrites = s.heldWrites ∧
    t.unit = s.unit ∧ t.plan = s.plan ∧ t.time = s.time ∧ t.acts = s.acts ∧ t.fab = s.fab ∧ t.flt = s.flt ∧ t.ck = s.ck ∧
    t.trust = s.trust ∧ t.cnt = s.cnt := by
  unfold execMirrorRefresh at h; (repeat' split at h) <;> (first | (cases h; done) | (obtain rfl := next_state h; (repeat' split) <;> simp))

theorem execMsixUnmask_frame (p : Fin 2) (vector : Fin 32) (s : State) (t : State)
    (h : execMsixUnmask p vector s = .next t) :
    t.pending = s.pending ∧ t.freeIdx = s.freeIdx ∧ t.dev = s.dev ∧ t.pwr = s.pwr ∧ t.geo = s.geo ∧ t.mem = s.mem ∧
    t.lineErr = s.lineErr ∧ t.pte = s.pte ∧ t.shadowNext = s.shadowNext ∧ t.heldWrites = s.heldWrites ∧ t.unit = s.unit ∧
    t.plan = s.plan ∧ t.time = s.time ∧ t.acts = s.acts ∧ t.fab = s.fab ∧ t.flt = s.flt ∧ t.ck = s.ck ∧ t.trust = s.trust := by
  unfold execMsixUnmask at h; dsimp only at h; (repeat' split at h) <;> (first | (cases h; done) | (obtain rfl := next_state h; (repeat' split) <;> simp))

theorem execPerstDeassert_frame (p : Fin 2) (speed : Nat) (width : Nat) (s : State) (t : State)
    (h : execPerstDeassert p speed width s = .next t) :
    t.pending = s.pending ∧ t.freeIdx = s.freeIdx ∧ t.out = s.out ∧ t.dev = s.dev ∧ t.pwr = s.pwr ∧ t.geo = s.geo ∧
    t.mem = s.mem ∧ t.lineErr = s.lineErr ∧ t.pte = s.pte ∧ t.shadowNext = s.shadowNext ∧ t.heldWrites = s.heldWrites ∧
    t.unit = s.unit ∧ t.plan = s.plan ∧ t.time = s.time ∧ t.acts = s.acts ∧ t.fab = s.fab ∧ t.flt = s.flt ∧ t.ck = s.ck ∧
    t.trust = s.trust ∧ t.cnt = s.cnt := by
  unfold execPerstDeassert at h; split at h
  · rename_i hc; obtain ⟨-, rfl⟩ := (checked_next _ _ _).1 hc; dsimp only at h; (repeat' split at h) <;> (first | (cases h; done) | (obtain rfl := next_state h; (repeat' split) <;> simp))
  · simp_all

theorem execPortReset_frame (p : Fin 2) (kind : PortResetKind) (s : State) (t : State)
    (h : execPortReset p kind s = .next t) :
    t.pending = s.pending ∧ t.dev = s.dev ∧ t.pwr = s.pwr ∧ t.geo = s.geo ∧ t.mem = s.mem ∧ t.shadowNext = s.shadowNext ∧
    t.heldWrites = s.heldWrites ∧ t.unit = s.unit ∧ t.time = s.time ∧ t.acts = s.acts ∧ t.fab = s.fab ∧ t.flt = s.flt := by
  unfold execPortReset at h; (repeat' split at h) <;> (first | (cases h; done) | (obtain rfl := next_state h; (repeat' split) <;> simp))

theorem execRecordPost_frame (p : Fin 2) (m : Fin 16) (s : State) (t : State)
    (h : execRecordPost p m s = .next t) :
    t.pending = s.pending ∧ t.freeIdx = s.freeIdx ∧ t.dev = s.dev ∧ t.pwr = s.pwr ∧ t.geo = s.geo ∧ t.mem = s.mem ∧
    t.lineErr = s.lineErr ∧ t.pte = s.pte ∧ t.shadowNext = s.shadowNext ∧ t.heldWrites = s.heldWrites ∧ t.unit = s.unit ∧
    t.plan = s.plan ∧ t.time = s.time ∧ t.acts = s.acts ∧ t.fab = s.fab ∧ t.flt = s.flt ∧ t.ck = s.ck ∧ t.trust = s.trust := by
  unfold execRecordPost at h; dsimp only at h; (repeat' split at h) <;> (first | (cases h; done) | (obtain rfl := next_state h; (repeat' split) <;> simp))

theorem execDeviceQueueHead_frame (s : State) (t : State)
    (h : execDeviceQueueHead s = .next t) :
    t.pending = s.pending ∧ t.freeIdx = s.freeIdx ∧ t.out = s.out ∧ t.dev = s.dev ∧ t.pwr = s.pwr ∧ t.geo = s.geo ∧
    t.mem = s.mem ∧ t.lineErr = s.lineErr ∧ t.pte = s.pte ∧ t.shadowNext = s.shadowNext ∧ t.heldWrites = s.heldWrites ∧
    t.unit = s.unit ∧ t.plan = s.plan ∧ t.time = s.time ∧ t.acts = s.acts ∧ t.fab = s.fab ∧ t.flt = s.flt ∧ t.ck = s.ck := by
  unfold execDeviceQueueHead at h; dsimp only at h; (repeat' split at h) <;> (first | (cases h; done) | (obtain rfl := next_state h; (repeat' split) <;> simp))

theorem execApertureSet_frame (p : Fin 2) (m : Fin 16) (s : State) (t : State)
    (h : execApertureSet p m s = .next t) :
    t.pending = s.pending ∧ t.freeIdx = s.freeIdx ∧ t.out = s.out ∧ t.dev = s.dev ∧ t.pwr = s.pwr ∧ t.geo = s.geo ∧
    t.mem = s.mem ∧ t.lineErr = s.lineErr ∧ t.pte = s.pte ∧ t.shadowNext = s.shadowNext ∧ t.heldWrites = s.heldWrites ∧
    t.unit = s.unit ∧ t.plan = s.plan ∧ t.time = s.time ∧ t.acts = s.acts ∧ t.fab = s.fab ∧ t.flt = s.flt ∧ t.ck = s.ck := by
  unfold execApertureSet State.runReading at h; dsimp only at h; split at h <;> cases h <;> (repeat' split) <;> simp

theorem execAttest_frame (p : Fin 2) (m : Fin 16) (s : State) (t : State)
    (h : execAttest p m s = .next t) :
    t.pending = s.pending ∧ t.dev = s.dev ∧ t.pwr = s.pwr ∧ t.geo = s.geo ∧ t.unit = s.unit ∧ t.time = s.time ∧ t.acts = s.acts ∧
    t.fab = s.fab ∧ t.ck = s.ck := by
  unfold execAttest State.runReading at h; dsimp only at h; split at h <;> cases h <;> (repeat' split) <;> simp

theorem execConfigGet_frame (p : Fin 2) (m : Fin 16) (s : State) (t : State)
    (h : execConfigGet p m s = .next t) :
    t.pending = s.pending ∧ t.freeIdx = s.freeIdx ∧ t.out = s.out ∧ t.dev = s.dev ∧ t.pwr = s.pwr ∧ t.geo = s.geo ∧
    t.mem = s.mem ∧ t.lineErr = s.lineErr ∧ t.pte = s.pte ∧ t.shadowNext = s.shadowNext ∧ t.heldWrites = s.heldWrites ∧
    t.unit = s.unit ∧ t.plan = s.plan ∧ t.time = s.time ∧ t.acts = s.acts ∧ t.fab = s.fab ∧ t.flt = s.flt ∧ t.ck = s.ck := by
  unfold execConfigGet State.runReading at h; dsimp only at h; split at h <;> cases h <;> (repeat' split) <;> simp

theorem execIdent_frame (p : Fin 2) (m : Fin 16) (s : State) (t : State)
    (h : execIdent p m s = .next t) :
    t.pending = s.pending ∧ t.freeIdx = s.freeIdx ∧ t.out = s.out ∧ t.dev = s.dev ∧ t.pwr = s.pwr ∧ t.geo = s.geo ∧
    t.mem = s.mem ∧ t.lineErr = s.lineErr ∧ t.pte = s.pte ∧ t.shadowNext = s.shadowNext ∧ t.heldWrites = s.heldWrites ∧
    t.unit = s.unit ∧ t.plan = s.plan ∧ t.time = s.time ∧ t.acts = s.acts ∧ t.fab = s.fab ∧ t.flt = s.flt ∧ t.ck = s.ck := by
  unfold execIdent State.runReading at h; dsimp only at h; split at h <;> cases h <;> (repeat' split) <;> simp

theorem execLogRead_frame (p : Fin 2) (m : Fin 16) (s : State) (t : State)
    (h : execLogRead p m s = .next t) :
    t.pending = s.pending ∧ t.freeIdx = s.freeIdx ∧ t.dev = s.dev ∧ t.pwr = s.pwr ∧ t.geo = s.geo ∧ t.unit = s.unit ∧
    t.time = s.time ∧ t.acts = s.acts ∧ t.fab = s.fab ∧ t.ck = s.ck := by
  unfold execLogRead State.runReading at h; dsimp only at h; split at h <;> cases h <;> (repeat' split) <;> simp

theorem execLogTail_frame (p : Fin 2) (m : Fin 16) (s : State) (t : State)
    (h : execLogTail p m s = .next t) :
    t.pending = s.pending ∧ t.freeIdx = s.freeIdx ∧ t.out = s.out ∧ t.dev = s.dev ∧ t.pwr = s.pwr ∧ t.geo = s.geo ∧
    t.mem = s.mem ∧ t.lineErr = s.lineErr ∧ t.pte = s.pte ∧ t.shadowNext = s.shadowNext ∧ t.heldWrites = s.heldWrites ∧
    t.unit = s.unit ∧ t.plan = s.plan ∧ t.time = s.time ∧ t.acts = s.acts ∧ t.fab = s.fab ∧ t.flt = s.flt ∧ t.ck = s.ck := by
  unfold execLogTail State.runReading at h; dsimp only at h; split at h <;> cases h <;> (repeat' split) <;> simp

theorem execMapRead_frame (p : Fin 2) (m : Fin 16) (s : State) (t : State)
    (h : execMapRead p m s = .next t) :
    t.pending = s.pending ∧ t.freeIdx = s.freeIdx ∧ t.dev = s.dev ∧ t.pwr = s.pwr ∧ t.geo = s.geo ∧ t.unit = s.unit ∧
    t.time = s.time ∧ t.acts = s.acts ∧ t.fab = s.fab ∧ t.ck = s.ck := by
  unfold execMapRead State.runReading at h; dsimp only at h; split at h <;> cases h <;> (repeat' split) <;> simp

theorem execStatus_frame (p : Fin 2) (m : Fin 16) (s : State) (t : State)
    (h : execStatus p m s = .next t) :
    t.pending = s.pending ∧ t.freeIdx = s.freeIdx ∧ t.out = s.out ∧ t.dev = s.dev ∧ t.pwr = s.pwr ∧ t.geo = s.geo ∧
    t.mem = s.mem ∧ t.lineErr = s.lineErr ∧ t.pte = s.pte ∧ t.shadowNext = s.shadowNext ∧ t.heldWrites = s.heldWrites ∧
    t.unit = s.unit ∧ t.plan = s.plan ∧ t.time = s.time ∧ t.acts = s.acts ∧ t.fab = s.fab ∧ t.flt = s.flt ∧ t.ck = s.ck := by
  unfold execStatus State.runReading at h; dsimp only at h; split at h <;> cases h <;> (repeat' split) <;> simp

theorem execTelemetryRead_frame (p : Fin 2) (m : Fin 16) (s : State) (t : State)
    (h : execTelemetryRead p m s = .next t) :
    t.pending = s.pending ∧ t.freeIdx = s.freeIdx ∧ t.dev = s.dev ∧ t.pwr = s.pwr ∧ t.geo = s.geo ∧ t.unit = s.unit ∧
    t.time = s.time ∧ t.acts = s.acts ∧ t.fab = s.fab ∧ t.ck = s.ck := by
  unfold execTelemetryRead State.runReading at h; dsimp only at h; split at h <;> cases h <;> (repeat' split) <;> simp

theorem execAbortEffect_frame (s : State) (t : State)
    (h : execAbortEffect s = .next t) :
    t.pending = s.pending ∧ t.out = s.out ∧ t.dev = s.dev ∧ t.pwr = s.pwr ∧ t.time = s.time ∧ t.fab = s.fab ∧ t.ck = s.ck := by
  unfold execAbortEffect at h; (repeat' split at h) <;> simp_all <;> subst_vars <;> simp

theorem execAbortRound_frame (p : Fin 2) (m : Fin 16) (s : State) (t : State)
    (h : execAbortRound p m s = .next t) :
    t.pending = s.pending ∧ t.out = s.out ∧ t.dev = s.dev ∧ t.pwr = s.pwr ∧ t.time = s.time ∧ t.fab = s.fab ∧ t.ck = s.ck := by
  unfold execAbortRound State.runChanging at h; dsimp only at h; split at h <;> cases h <;> (repeat' split) <;> simp

theorem execEvalRun_frame (p : Fin 2) (m : Fin 16) (host : Tab Byte) (s : State) (t : State)
    (h : execEvalRun p m host s = .next t) :
    t.pending = s.pending ∧ t.freeIdx = s.freeIdx ∧ t.out = s.out ∧ t.dev = s.dev ∧ t.pwr = s.pwr ∧ t.geo = s.geo ∧
    t.unit = s.unit ∧ t.time = s.time ∧ t.fab = s.fab ∧ t.ck = s.ck := by
  unfold execEvalRun at h; split at h
  · rename_i hc; obtain ⟨-, rfl⟩ := (checked_next _ _ _).1 hc; unfold State.runChanging at h; split at h <;> rw [next_state h]
    · split
      · simp
      · split
        · simp
        · dsimp only; split
          · simp
          · split <;> simp
    · simp
  · simp_all

theorem execHeldEnter_frame (s : State) (t : State)
    (h : execHeldEnter s = .next t) :
    t.pending = s.pending ∧ t.freeIdx = s.freeIdx ∧ t.pwr = s.pwr ∧ t.geo = s.geo ∧ t.mem = s.mem ∧ t.lineErr = s.lineErr ∧
    t.pte = s.pte ∧ t.shadowNext = s.shadowNext ∧ t.heldWrites = s.heldWrites ∧ t.unit = s.unit ∧ t.plan = s.plan ∧
    t.time = s.time ∧ t.acts = s.acts ∧ t.fab = s.fab ∧ t.flt = s.flt ∧ t.ck = s.ck := by
  unfold execHeldEnter at h; (repeat' split at h) <;> (first | (cases h; done) | (obtain rfl := next_state h; (repeat' split) <;> simp))

theorem execHold_frame (p : Fin 2) (m : Fin 16) (s : State) (t : State)
    (h : execHold p m s = .next t) :
    t.pending = s.pending ∧ t.freeIdx = s.freeIdx ∧ t.out = s.out ∧ t.dev = s.dev ∧ t.pwr = s.pwr ∧ t.geo = s.geo ∧
    t.mem = s.mem ∧ t.lineErr = s.lineErr ∧ t.pte = s.pte ∧ t.shadowNext = s.shadowNext ∧ t.heldWrites = s.heldWrites ∧
    t.unit = s.unit ∧ t.time = s.time ∧ t.acts = s.acts ∧ t.fab = s.fab ∧ t.flt = s.flt ∧ t.ck = s.ck := by
  unfold execHold State.runChanging at h; dsimp only at h; split at h <;> cases h <;> (repeat' split) <;> simp

theorem execHoldEffect_frame (s : State) (t : State)
    (h : execHoldEffect s = .next t) :
    t.pending = s.pending ∧ t.freeIdx = s.freeIdx ∧ t.out = s.out ∧ t.dev = s.dev ∧ t.pwr = s.pwr ∧ t.geo = s.geo ∧
    t.mem = s.mem ∧ t.lineErr = s.lineErr ∧ t.pte = s.pte ∧ t.shadowNext = s.shadowNext ∧ t.heldWrites = s.heldWrites ∧
    t.unit = s.unit ∧ t.time = s.time ∧ t.acts = s.acts ∧ t.fab = s.fab ∧ t.flt = s.flt ∧ t.ck = s.ck ∧ t.cnt = s.cnt := by
  unfold execHoldEffect at h; (repeat' split at h) <;> (first | (cases h; done) | (obtain rfl := next_state h; (repeat' split) <;> simp))

theorem execHoldStop_frame (s : State) (t : State)
    (h : execHoldStop s = .next t) :
    t.pending = s.pending ∧ t.pwr = s.pwr ∧ t.geo = s.geo ∧ t.time = s.time ∧ t.acts = s.acts ∧ t.fab = s.fab ∧ t.ck = s.ck := by
  unfold execHoldStop at h; (repeat' split at h) <;> (first | (cases h; done) | (obtain rfl := next_state h; (repeat' split) <;> simp))

theorem execPlanArm_frame (p : Fin 2) (m : Fin 16) (s : State) (t : State)
    (h : execPlanArm p m s = .next t) :
    t.pending = s.pending ∧ t.time = s.time ∧ t.fab = s.fab := by
  unfold execPlanArm State.runChanging at h; dsimp only at h; split at h <;> cases h <;> (repeat' split) <;> simp

theorem execPlanLoad_frame (p : Fin 2) (m : Fin 16) (s : State) (t : State)
    (h : execPlanLoad p m s = .next t) :
    t.pending = s.pending ∧ t.heldWrites = s.heldWrites ∧ t.time = s.time ∧ t.acts = s.acts ∧ t.fab = s.fab ∧ t.ck = s.ck := by
  unfold execPlanLoad State.runChanging at h; dsimp only at h; split at h <;> cases h <;> (repeat' split) <;> simp

theorem execPlanUnload_frame (p : Fin 2) (m : Fin 16) (s : State) (t : State)
    (h : execPlanUnload p m s = .next t) :
    t.pending = s.pending ∧ t.freeIdx = s.freeIdx ∧ t.geo = s.geo ∧ t.time = s.time ∧ t.acts = s.acts ∧ t.flt = s.flt ∧
    t.ck = s.ck := by
  unfold execPlanUnload State.runChanging at h; dsimp only at h; split at h <;> cases h <;> (repeat' split) <;> simp

theorem execResume_frame (p : Fin 2) (m : Fin 16) (s : State) (t : State)
    (h : execResume p m s = .next t) :
    t.pending = s.pending ∧ t.freeIdx = s.freeIdx ∧ t.out = s.out ∧ t.dev = s.dev ∧ t.pwr = s.pwr ∧ t.geo = s.geo ∧
    t.mem = s.mem ∧ t.lineErr = s.lineErr ∧ t.pte = s.pte ∧ t.shadowNext = s.shadowNext ∧ t.heldWrites = s.heldWrites ∧
    t.unit = s.unit ∧ t.plan = s.plan ∧ t.time = s.time ∧ t.acts = s.acts ∧ t.fab = s.fab ∧ t.flt = s.flt ∧ t.ck = s.ck := by
  unfold execResume State.runChanging at h; dsimp only at h; split at h <;> cases h <;> (repeat' split) <;> simp

theorem execResumeEffect_frame (s : State) (t : State)
    (h : execResumeEffect s = .next t) :
    t.pending = s.pending ∧ t.freeIdx = s.freeIdx ∧ t.pwr = s.pwr ∧ t.geo = s.geo ∧ t.mem = s.mem ∧ t.lineErr = s.lineErr ∧
    t.pte = s.pte ∧ t.shadowNext = s.shadowNext ∧ t.heldWrites = s.heldWrites ∧ t.unit = s.unit ∧ t.time = s.time ∧
    t.acts = s.acts ∧ t.fab = s.fab ∧ t.flt = s.flt ∧ t.ck = s.ck := by
  unfold execResumeEffect at h; (repeat' split at h) <;> (first | (cases h; done) | (obtain rfl := next_state h; (repeat' split) <;> simp))

theorem execRunAtBeat_frame (p : Fin 2) (m : Fin 16) (s : State) (t : State)
    (h : execRunAtBeat p m s = .next t) :
    t.pending = s.pending ∧ t.freeIdx = s.freeIdx ∧ t.out = s.out ∧ t.dev = s.dev ∧ t.pwr = s.pwr ∧ t.geo = s.geo ∧
    t.mem = s.mem ∧ t.lineErr = s.lineErr ∧ t.pte = s.pte ∧ t.shadowNext = s.shadowNext ∧ t.heldWrites = s.heldWrites ∧
    t.unit = s.unit ∧ t.plan = s.plan ∧ t.time = s.time ∧ t.acts = s.acts ∧ t.fab = s.fab ∧ t.flt = s.flt ∧ t.ck = s.ck := by
  unfold execRunAtBeat State.runChanging at h; dsimp only at h; split at h <;> cases h <;> (repeat' split) <;> simp

theorem execRunStart_frame (s : State) (t : State)
    (h : execRunStart s = .next t) :
    t.pending = s.pending ∧ t.time = s.time ∧ t.fab = s.fab ∧ t.ck = s.ck := by
  unfold execRunStart at h; (repeat' split at h) <;> (first | (cases h; done) | (obtain rfl := next_state h; (repeat' split) <;> simp))

theorem execI3cCcc_frame (c : Ccc) (s : State) (t : State)
    (h : execI3cCcc c s = .next t) :
    t.pending = s.pending ∧ t.freeIdx = s.freeIdx ∧ t.pwr = s.pwr ∧ t.geo = s.geo ∧ t.mem = s.mem ∧ t.lineErr = s.lineErr ∧
    t.pte = s.pte ∧ t.shadowNext = s.shadowNext ∧ t.heldWrites = s.heldWrites ∧ t.unit = s.unit ∧ t.plan = s.plan ∧
    t.time = s.time ∧ t.acts = s.acts ∧ t.fab = s.fab ∧ t.flt = s.flt ∧ t.ck = s.ck ∧ t.host = s.host ∧ t.trust = s.trust ∧
    t.cnt = s.cnt := by
  unfold execI3cCcc at h; split at h
  · rename_i hc; obtain ⟨-, rfl⟩ := (checked_next _ _ _).1 hc; dsimp only at h; (repeat' split at h) <;> (first | (cases h; done) | (obtain rfl := next_state h; (repeat' split) <;> simp))
  · simp_all

theorem execJtagExtest_frame (s : State) (t : State)
    (h : execJtagExtest s = .next t) :
    t.pending = s.pending ∧ t.pwr = s.pwr ∧ t.geo = s.geo ∧ t.time = s.time ∧ t.acts = s.acts := by
  unfold execJtagExtest at h; (repeat' split at h) <;> (first | (cases h; done) | (obtain rfl := next_state h; (repeat' split) <;> simp))

theorem execJtagInstruction_frame (op : JtagOp) (s : State) (t : State)
    (h : execJtagInstruction op s = .next t) :
    t.pending = s.pending ∧ t.dev = s.dev ∧ t.pwr = s.pwr ∧ t.geo = s.geo ∧ t.mem = s.mem ∧ t.lineErr = s.lineErr ∧
    t.pte = s.pte ∧ t.shadowNext = s.shadowNext ∧ t.heldWrites = s.heldWrites ∧ t.unit = s.unit ∧ t.plan = s.plan ∧
    t.time = s.time ∧ t.acts = s.acts ∧ t.fab = s.fab ∧ t.flt = s.flt ∧ t.ck = s.ck ∧ t.host = s.host ∧ t.trust = s.trust ∧
    t.cnt = s.cnt := by
  unfold execJtagInstruction at h; (repeat' split at h) <;> (first | (cases h; done) | (obtain rfl := next_state h; (repeat' split) <;> simp))

theorem execSbCapWrite_frame (bytes : List Byte) (s : State) (t : State)
    (h : execSbCapWrite bytes s = .next t) :
    t.pending = s.pending ∧ t.freeIdx = s.freeIdx ∧ t.out = s.out ∧ t.pwr = s.pwr ∧ t.geo = s.geo ∧ t.mem = s.mem ∧
    t.lineErr = s.lineErr ∧ t.pte = s.pte ∧ t.shadowNext = s.shadowNext ∧ t.heldWrites = s.heldWrites ∧ t.unit = s.unit ∧
    t.plan = s.plan ∧ t.time = s.time ∧ t.acts = s.acts ∧ t.fab = s.fab ∧ t.flt = s.flt ∧ t.ck = s.ck ∧ t.host = s.host ∧
    t.trust = s.trust ∧ t.cnt = s.cnt := by
  unfold execSbCapWrite State.sbWrite at h; dsimp only at h; obtain rfl := next_state h; (repeat' split) <;> simp

theorem execSbHaltWrite_frame (bytes : List Byte) (s : State) (t : State)
    (h : execSbHaltWrite bytes s = .next t) :
    t.pending = s.pending ∧ t.pwr = s.pwr ∧ t.geo = s.geo ∧ t.time = s.time ∧ t.acts = s.acts := by
  unfold execSbHaltWrite State.sbWrite at h; dsimp only at h; obtain rfl := next_state h; (repeat' split) <;> simp

theorem execSbStatusWrite_frame (bytes : List Byte) (s : State) (t : State)
    (h : execSbStatusWrite bytes s = .next t) :
    t.pending = s.pending ∧ t.freeIdx = s.freeIdx ∧ t.out = s.out ∧ t.pwr = s.pwr ∧ t.geo = s.geo ∧ t.mem = s.mem ∧
    t.lineErr = s.lineErr ∧ t.pte = s.pte ∧ t.shadowNext = s.shadowNext ∧ t.heldWrites = s.heldWrites ∧ t.unit = s.unit ∧
    t.plan = s.plan ∧ t.time = s.time ∧ t.acts = s.acts ∧ t.fab = s.fab ∧ t.flt = s.flt ∧ t.ck = s.ck ∧ t.host = s.host ∧
    t.trust = s.trust ∧ t.cnt = s.cnt := by
  unfold execSbStatusWrite State.sbWrite at h; dsimp only at h; obtain rfl := next_state h; (repeat' split) <;> simp

theorem execBoardRefLoss_frame (s : State) (t : State)
    (h : execBoardRefLoss s = .next t) :
    t.pending = s.pending ∧ t.freeIdx = s.freeIdx ∧ t.out = s.out ∧ t.pwr = s.pwr ∧ t.geo = s.geo ∧ t.mem = s.mem ∧
    t.lineErr = s.lineErr ∧ t.pte = s.pte ∧ t.shadowNext = s.shadowNext ∧ t.heldWrites = s.heldWrites ∧ t.unit = s.unit ∧
    t.plan = s.plan ∧ t.time = s.time ∧ t.acts = s.acts ∧ t.fab = s.fab ∧ t.ck = s.ck ∧ t.host = s.host := by
  unfold execBoardRefLoss at h; (repeat' split at h) <;> (first | (cases h; done) | (obtain rfl := next_state h; (repeat' split) <;> simp))

theorem execPwrEnAssert_frame (slotId : Fin 64) (within200ms : Bool) (s : State) (t : State)
    (h : execPwrEnAssert slotId within200ms s = .next t) :
    t.pending = s.pending ∧ t.freeIdx = s.freeIdx ∧ t.pwr = s.pwr ∧ t.geo = s.geo ∧ t.mem = s.mem ∧ t.lineErr = s.lineErr ∧
    t.pte = s.pte ∧ t.shadowNext = s.shadowNext ∧ t.heldWrites = s.heldWrites ∧ t.unit = s.unit ∧ t.plan = s.plan ∧
    t.time = s.time ∧ t.acts = s.acts ∧ t.fab = s.fab ∧ t.flt = s.flt ∧ t.ck = s.ck := by
  unfold execPwrEnAssert at h; (repeat' split at h) <;> (first | (cases h; done) | (obtain rfl := next_state h; (repeat' split) <;> simp))

theorem execPwrEnReassertDelay_frame (s : State) (t : State)
    (h : execPwrEnReassertDelay s = .next t) :
    t.pending = s.pending ∧ t.freeIdx = s.freeIdx ∧ t.pwr = s.pwr ∧ t.geo = s.geo ∧ t.mem = s.mem ∧ t.lineErr = s.lineErr ∧
    t.pte = s.pte ∧ t.shadowNext = s.shadowNext ∧ t.heldWrites = s.heldWrites ∧ t.unit = s.unit ∧ t.plan = s.plan ∧
    t.time = s.time ∧ t.acts = s.acts ∧ t.fab = s.fab ∧ t.flt = s.flt ∧ t.ck = s.ck := by
  unfold execPwrEnReassertDelay at h; (repeat' split at h) <;> (first | (cases h; done) | (obtain rfl := next_state h; (repeat' split) <;> simp))

theorem execResetIn_frame (s : State) (t : State)
    (h : execResetIn s = .next t) :
    t.pending = s.pending ∧ t.freeIdx = s.freeIdx ∧ t.out = s.out ∧ t.pwr = s.pwr ∧ t.geo = s.geo ∧ t.mem = s.mem ∧
    t.lineErr = s.lineErr ∧ t.pte = s.pte ∧ t.shadowNext = s.shadowNext ∧ t.heldWrites = s.heldWrites ∧ t.unit = s.unit ∧
    t.plan = s.plan ∧ t.time = s.time ∧ t.acts = s.acts ∧ t.fab = s.fab ∧ t.flt = s.flt ∧ t.ck = s.ck ∧ t.host = s.host ∧
    t.cnt = s.cnt := by
  unfold execResetIn at h; (repeat' split at h) <;> (first | (cases h; done) | (obtain rfl := next_state h; (repeat' split) <;> simp))

theorem execStartStepDone_frame (ok : Bool) (ms : Nat) (s : State) (t : State)
    (h : execStartStepDone ok ms s = .next t) :
    t.pending = s.pending ∧ t.freeIdx = s.freeIdx ∧ t.mem = s.mem ∧ t.lineErr = s.lineErr ∧ t.shadowNext = s.shadowNext ∧
    t.heldWrites = s.heldWrites ∧ t.unit = s.unit ∧ t.plan = s.plan ∧ t.acts = s.acts ∧ t.ck = s.ck := by
  unfold execStartStepDone at h; split at h
  · rename_i hc; obtain ⟨-, rfl⟩ := (checked_next _ _ _).1 hc; dsimp only at h; (repeat' split at h) <;> (first | (cases h; done) | (obtain rfl := next_state h; (repeat' split) <;> simp))
  · simp_all

theorem execWarmResetStep_frame (ok : Bool) (ms : Nat) (s : State) (t : State)
    (h : execWarmResetStep ok ms s = .next t) :
    t.pending = s.pending ∧ t.time = s.time := by
  unfold execWarmResetStep at h; split at h
  · rename_i hc; obtain ⟨-, rfl⟩ := (checked_next _ _ _).1 hc; dsimp only at h; (repeat' split at h) <;> (first | (cases h; done) | (obtain rfl := next_state h; (repeat' split) <;> simp))
  · simp_all

theorem execCommit_frame (s : State) (t : State)
    (h : execCommit s = .next t) :
    t.pending = s.pending ∧ t.out = s.out ∧ t.dev = s.dev ∧ t.pwr = s.pwr ∧ t.time = s.time ∧ t.fab = s.fab ∧ t.ck = s.ck ∧
    t.host = s.host := by
  unfold execCommit at h; (repeat' split at h) <;> (first | (cases h; done) | (obtain rfl := next_state h; (repeat' split) <;> simp))

theorem execDeadline_frame (s : State) (t : State)
    (h : execDeadline s = .next t) :
    t.pending = s.pending ∧ t.freeIdx = s.freeIdx ∧ t.out = s.out ∧ t.dev = s.dev ∧ t.pwr = s.pwr ∧ t.geo = s.geo ∧
    t.mem = s.mem ∧ t.lineErr = s.lineErr ∧ t.pte = s.pte ∧ t.shadowNext = s.shadowNext ∧ t.heldWrites = s.heldWrites ∧
    t.unit = s.unit ∧ t.time = s.time ∧ t.acts = s.acts ∧ t.fab = s.fab ∧ t.flt = s.flt ∧ t.ck = s.ck ∧ t.host = s.host ∧
    t.trust = s.trust := by
  unfold execDeadline at h; (repeat' split at h) <;> (first | (cases h; done) | (obtain rfl := next_state h; (repeat' split) <;> simp))

theorem execGear_frame (s : State) (t : State)
    (h : execGear s = .next t) :
    t.pending = s.pending ∧ t.freeIdx = s.freeIdx ∧ t.out = s.out ∧ t.dev = s.dev ∧ t.geo = s.geo ∧ t.mem = s.mem ∧
    t.lineErr = s.lineErr ∧ t.pte = s.pte ∧ t.shadowNext = s.shadowNext ∧ t.heldWrites = s.heldWrites ∧ t.unit = s.unit ∧
    t.time = s.time ∧ t.acts = s.acts ∧ t.fab = s.fab ∧ t.flt = s.flt ∧ t.ck = s.ck ∧ t.host = s.host ∧ t.trust = s.trust := by
  unfold execGear at h; (repeat' split at h) <;> (first | (cases h; done) | (obtain rfl := next_state h; (repeat' split) <;> simp))

theorem execHealthCut_frame (s : State) (t : State)
    (h : execHealthCut s = .next t) :
    t.pending = s.pending ∧ t.freeIdx = s.freeIdx ∧ t.out = s.out ∧ t.dev = s.dev ∧ t.pwr = s.pwr ∧ t.geo = s.geo ∧
    t.unit = s.unit ∧ t.time = s.time ∧ t.acts = s.acts ∧ t.fab = s.fab ∧ t.ck = s.ck ∧ t.host = s.host := by
  unfold execHealthCut at h; (repeat' split at h) <;> (first | (cases h; done) | (obtain rfl := next_state h; (repeat' split) <;> simp))

theorem execMark_frame (s : State) (t : State)
    (h : execMark s = .next t) :
    t.pending = s.pending ∧ t.freeIdx = s.freeIdx ∧ t.out = s.out ∧ t.dev = s.dev ∧ t.pwr = s.pwr ∧ t.geo = s.geo ∧
    t.mem = s.mem ∧ t.lineErr = s.lineErr ∧ t.pte = s.pte ∧ t.shadowNext = s.shadowNext ∧ t.heldWrites = s.heldWrites ∧
    t.unit = s.unit ∧ t.time = s.time ∧ t.acts = s.acts ∧ t.fab = s.fab ∧ t.flt = s.flt ∧ t.ck = s.ck ∧ t.host = s.host ∧
    t.trust = s.trust := by
  unfold execMark at h; (repeat' split at h) <;> (first | (cases h; done) | (obtain rfl := next_state h; (repeat' split) <;> simp))

theorem execPagerMoveDone_frame (r : MoveResult) (s : State) (t : State)
    (h : execPagerMoveDone r s = .next t) :
    t.pending = s.pending ∧ t.dev = s.dev ∧ t.pwr = s.pwr ∧ t.geo = s.geo ∧ t.time = s.time ∧ t.acts = s.acts ∧ t.ck = s.ck ∧
    t.host = s.host := by
  unfold execPagerMoveDone at h; split at h
  · split at h
    · split at h
      · dsimp only at h
        split at h
        · rw [next_state h]; simp
        · split at h
          · rw [next_state h]; simp
          · split at h
            · rw [next_state h]; simp
            · rw [next_state h]; split <;> simp
      · rw [next_state h]; simp
    · rw [next_state h]; simp
  · rw [next_state h]; simp

theorem execPagingStart_frame (s : State) (t : State)
    (h : execPagingStart s = .next t) :
    t.pending = s.pending ∧ t.freeIdx = s.freeIdx ∧ t.dev = s.dev ∧ t.pwr = s.pwr ∧ t.geo = s.geo ∧ t.time = s.time ∧
    t.acts = s.acts ∧ t.ck = s.ck ∧ t.host = s.host := by
  unfold execPagingStart at h; (repeat' split at h) <;> (first | (cases h; done) | (obtain rfl := next_state h; (repeat' split) <;> simp))

theorem execPeriodStart_frame (s : State) (t : State)
    (h : execPeriodStart s = .next t) :
    t.pending = s.pending ∧ t.freeIdx = s.freeIdx ∧ t.out = s.out ∧ t.dev = s.dev ∧ t.pwr = s.pwr ∧ t.geo = s.geo ∧
    t.mem = s.mem ∧ t.lineErr = s.lineErr ∧ t.pte = s.pte ∧ t.shadowNext = s.shadowNext ∧ t.heldWrites = s.heldWrites ∧
    t.time = s.time ∧ t.acts = s.acts ∧ t.fab = s.fab ∧ t.flt = s.flt ∧ t.ck = s.ck ∧ t.host = s.host ∧ t.trust = s.trust ∧
    t.cnt = s.cnt := by
  unfold execPeriodStart at h; dsimp only at h; (repeat' split at h) <;> simp_all <;> subst_vars <;> simp

theorem execReducedTrailerRx_frame (s : State) (t : State)
    (h : execReducedTrailerRx s = .next t) :
    t.pending = s.pending ∧ t.out = s.out ∧ t.dev = s.dev ∧ t.pwr = s.pwr ∧ t.time = s.time ∧ t.fab = s.fab ∧ t.ck = s.ck ∧
    t.host = s.host := by
  unfold execReducedTrailerRx at h; dsimp only at h; (repeat' split at h) <;> (first | (cases h; done) | (obtain rfl := next_state h; (repeat' split) <;> simp))

theorem execResidencyMapRx_frame (router : Fin 256) (version : Nat) (digest : List Byte) (mapBytes : List Byte) (s : State) (t : State)
    (h : execResidencyMapRx router version digest mapBytes s = .next t) :
    t.pending = s.pending ∧ t.freeIdx = s.freeIdx ∧ t.out = s.out ∧ t.dev = s.dev ∧ t.pwr = s.pwr ∧ t.geo = s.geo ∧
    t.time = s.time ∧ t.acts = s.acts ∧ t.fab = s.fab ∧ t.ck = s.ck ∧ t.host = s.host := by
  unfold execResidencyMapRx at h; (repeat' split at h) <;> simp_all <;> subst_vars <;> simp

theorem execResidencyReady_frame (s : State) (t : State)
    (h : execResidencyReady s = .next t) :
    t.pending = s.pending ∧ t.freeIdx = s.freeIdx ∧ t.out = s.out ∧ t.dev = s.dev ∧ t.pwr = s.pwr ∧ t.geo = s.geo ∧
    t.mem = s.mem ∧ t.lineErr = s.lineErr ∧ t.pte = s.pte ∧ t.shadowNext = s.shadowNext ∧ t.heldWrites = s.heldWrites ∧
    t.unit = s.unit ∧ t.time = s.time ∧ t.acts = s.acts ∧ t.fab = s.fab ∧ t.ck = s.ck ∧ t.host = s.host := by
  unfold execResidencyReady at h; (repeat' split at h) <;> (first | (cases h; done) | (obtain rfl := next_state h; (repeat' split) <;> simp))

theorem execUpdateClose_frame (s : State) (t : State)
    (h : execUpdateClose s = .next t) :
    t.pending = s.pending ∧ t.freeIdx = s.freeIdx ∧ t.out = s.out ∧ t.dev = s.dev ∧ t.pwr = s.pwr ∧ t.geo = s.geo ∧
    t.mem = s.mem ∧ t.lineErr = s.lineErr ∧ t.pte = s.pte ∧ t.shadowNext = s.shadowNext ∧ t.heldWrites = s.heldWrites ∧
    t.unit = s.unit ∧ t.time = s.time ∧ t.acts = s.acts ∧ t.fab = s.fab ∧ t.ck = s.ck ∧ t.host = s.host := by
  unfold execUpdateClose at h; (repeat' split at h) <;> (first | (cases h; done) | (obtain rfl := next_state h; (repeat' split) <;> simp))

end Sys2Proof.Machine
end

