-- ==== Sys2Proof/Laws/Table.lean ====
section
/-! SUPPORT. Sparse tables: a read after a write, and that every write keeps the canonical form. -/

namespace Sys2Proof

variable {α : Type}

theorem Tab.get_filter_of (d : α) (t : Tab α) (p : Nat → Bool) (k : Nat) (h : p k = true) :
    Tab.get d (t.filter (fun e => p e.1)) k = Tab.get d t k := by
  induction t with
  | nil => rfl
  | cons e t ih =>
    obtain ⟨j, v⟩ := e
    by_cases hj : p j = true
    · simp [List.filter_cons, hj, Tab.get, ih]
    · have : j ≠ k := fun he => hj (he ▸ h)
      simp [List.filter_cons, hj, Tab.get, ih, this]

theorem Tab.get_of_not_mem (d : α) (t : Tab α) (k : Nat) (h : ∀ e ∈ t, e.1 ≠ k) : Tab.get d t k = d := by
  induction t with
  | nil => rfl
  | cons e t ih =>
    obtain ⟨j, v⟩ := e
    have hj : j ≠ k := h (j, v) (by simp)
    simp [Tab.get, hj, ih (fun x hx => h x (by simp [hx]))]

theorem Tab.get_append (d : α) (a b : Tab α) (k : Nat) (h : ∀ e ∈ a, e.1 ≠ k) :
    Tab.get d (a ++ b) k = Tab.get d b k := by
  induction a with
  | nil => rfl
  | cons e t ih =>
    obtain ⟨j, v⟩ := e
    have hj : j ≠ k := h (j, v) (by simp)
    simp [Tab.get, hj, ih (fun x hx => h x (by simp [hx]))]

theorem Tab.get_append_right (d : α) (a b : Tab α) (k : Nat) (h : ∀ e ∈ b, e.1 ≠ k) :
    Tab.get d (a ++ b) k = Tab.get d a k := by
  induction a with
  | nil => simp [Tab.get, Tab.get_of_not_mem d b k h]
  | cons e t ih =>
    obtain ⟨j, v⟩ := e
    simp [Tab.get, ih]

variable [DecidableEq α]

theorem Tab.cells_keys (d : α) (vs : List α) (b : Nat) : ∀ e ∈ Tab.cells d b vs, b ≤ e.1 ∧ e.1 < b + vs.length := by
  induction vs generalizing b with
  | nil => simp [Tab.cells]
  | cons v vs ih =>
    intro e he
    simp only [Tab.cells] at he
    split at he
    · have := ih (b + 1) e he
      simp only [List.length_cons]
      omega
    · simp only [List.mem_cons] at he
      rcases he with he | he
      · subst he
        simp
      · have := ih (b + 1) e he
        simp only [List.length_cons]
        omega

theorem Tab.get_cells (d : α) (vs : List α) (b i : Nat) : Tab.get d (Tab.cells d b vs) (b + i) = vs.getD i d := by
  induction vs generalizing b i with
  | nil => simp [Tab.cells, Tab.get]
  | cons v vs ih =>
    cases i with
    | zero =>
      simp only [Tab.cells]
      split
      · rename_i hv
        rw [Tab.get_of_not_mem]
        · simp [hv]
        · intro e he
          have := Tab.cells_keys d vs (b + 1) e he
          omega
      · simp [Tab.get]
    | succ i =>
      have h : b + (i + 1) = b + 1 + i := by omega
      simp only [Tab.cells]
      split
      · rw [h, ih]
        simp
      · have hb : b ≠ b + (i + 1) := by omega
        simp only [Tab.get, hb, if_false]
        rw [h, ih]
        simp

/-- A read after a write: the value written inside the range, the old one outside. -/
theorem Tab.get_put (d : α) (t : Tab α) (b : Nat) (vs : List α) (k : Nat) :
    Tab.get d (Tab.put d t b vs) k = if b ≤ k ∧ k < b + vs.length then vs.getD (k - b) d else Tab.get d t k := by
  unfold Tab.put
  by_cases h1 : k < b
  · have hn : ¬ (b ≤ k ∧ k < b + vs.length) := by omega
    rw [if_neg hn, Tab.get_append_right]
    · exact Tab.get_filter_of d t (fun j => decide (j < b)) k (by simpa using h1)
    · intro e he
      simp only [List.mem_append, List.mem_filter, decide_eq_true_eq] at he
      rcases he with he | he
      · have := Tab.cells_keys d vs b e he
        omega
      · omega
  · rw [Tab.get_append]
    · by_cases h2 : k < b + vs.length
      · have hp : b ≤ k ∧ k < b + vs.length := by omega
        rw [if_pos hp, Tab.get_append_right]
        · have hk : k = b + (k - b) := by omega
          conv_lhs => rw [hk]
          exact Tab.get_cells d vs b (k - b)
        · intro e he
          simp only [List.mem_filter, decide_eq_true_eq] at he
          omega
      · have hn : ¬ (b ≤ k ∧ k < b + vs.length) := by omega
        rw [if_neg hn, Tab.get_append]
        · exact Tab.get_filter_of d t (fun j => decide (b + vs.length ≤ j)) k (by simpa using Nat.le_of_not_lt h2)
        · intro e he
          have := Tab.cells_keys d vs b e he
          omega
    · intro e he
      simp only [List.mem_filter, decide_eq_true_eq] at he
      omega

theorem Tab.get_set (d : α) (t : Tab α) (k j : Nat) (v : α) :
    Tab.get d (Tab.set d t k v) j = if j = k then v else Tab.get d t j := by
  unfold Tab.set
  rw [Tab.get_put]
  by_cases h : j = k
  · subst h
    simp
  · have hn : ¬ (k ≤ j ∧ j < k + [v].length) := by
      simp only [List.length_cons, List.length_nil]
      omega
    rw [if_neg hn, if_neg h]

@[simp] theorem Tab.get_set_self (d : α) (t : Tab α) (k : Nat) (v : α) : Tab.get d (Tab.set d t k v) k = v := by
  rw [Tab.get_set]
  simp

theorem Tab.get_set_ne (d : α) (t : Tab α) (k j : Nat) (v : α) (h : j ≠ k) :
    Tab.get d (Tab.set d t k v) j = Tab.get d t j := by
  rw [Tab.get_set, if_neg h]

theorem Tab.get_upd (d : α) (t : Tab α) (k j : Nat) (f : α → α) :
    Tab.get d (Tab.upd d t k f) j = if j = k then f (Tab.get d t k) else Tab.get d t j := by
  unfold Tab.upd
  exact Tab.get_set d t k j _

/-- Reading back the whole range that was written. -/
theorem Tab.range_put_self (d : α) (t : Tab α) (b : Nat) (vs : List α) :
    Tab.range d (Tab.put d t b vs) b vs.length = vs := by
  unfold Tab.range
  apply List.ext_getElem
  · simp
  · intro i h1 h2
    have hi : i < vs.length := by simpa using h1
    simp only [List.getElem_map, List.getElem_range, Tab.get_put]
    have hp : b ≤ b + i ∧ b + i < b + vs.length := by omega
    rw [if_pos hp]
    simp [hi]

/-! ## The canonical form -/

theorem Tab.risesFrom_filter (t : Tab α) (p : Nat × α → Bool) (k : Nat) (h : Tab.risesFrom k t = true) :
    Tab.risesFrom k (t.filter p) = true := by
  induction t generalizing k with
  | nil => rfl
  | cons e t ih =>
    obtain ⟨j, v⟩ := e
    simp only [Tab.risesFrom, Bool.and_eq_true, decide_eq_true_eq] at h
    rw [List.filter_cons]
    split
    · simp only [Tab.risesFrom, Bool.and_eq_true, decide_eq_true_eq]
      exact ⟨h.1, ih (j + 1) h.2⟩
    · have mono : ∀ (u : Tab α) (a c : Nat), a ≤ c → Tab.risesFrom c u = true → Tab.risesFrom a u = true := by
        intro u a c hac hu
        cases u with
        | nil => rfl
        | cons x u =>
          obtain ⟨y, z⟩ := x
          simp only [Tab.risesFrom, Bool.and_eq_true, decide_eq_true_eq] at hu ⊢
          exact ⟨by omega, hu.2⟩
      exact mono _ _ _ (by omega) (ih (j + 1) h.2)

theorem Tab.risesFrom_mono (t : Tab α) (a c : Nat) (hac : a ≤ c) (h : Tab.risesFrom c t = true) :
    Tab.risesFrom a t = true := by
  cases t with
  | nil => rfl
  | cons x u =>
    obtain ⟨y, z⟩ := x
    simp only [Tab.risesFrom, Bool.and_eq_true, decide_eq_true_eq] at h ⊢
    exact ⟨by omega, h.2⟩

theorem Tab.risesFrom_raise (t : Tab α) (k m : Nat) (h : Tab.risesFrom k t = true) (hm : ∀ e ∈ t, m ≤ e.1) :
    Tab.risesFrom m t = true := by
  cases t with
  | nil => rfl
  | cons x u =>
    obtain ⟨y, z⟩ := x
    simp only [Tab.risesFrom, Bool.and_eq_true, decide_eq_true_eq] at h ⊢
    exact ⟨hm (y, z) (by simp), h.2⟩

theorem Tab.risesFrom_append (a b : Tab α) (k m : Nat) (ha : Tab.risesFrom k a = true) (hm : ∀ e ∈ a, e.1 < m)
    (hk : k ≤ m) (hb : Tab.risesFrom m b = true) : Tab.risesFrom k (a ++ b) = true := by
  induction a generalizing k with
  | nil => exact Tab.risesFrom_mono b k m hk hb
  | cons e a ih =>
    obtain ⟨j, v⟩ := e
    simp only [Tab.risesFrom, Bool.and_eq_true, decide_eq_true_eq, List.cons_append] at ha ⊢
    have hj : j < m := hm (j, v) (by simp)
    exact ⟨ha.1, ih (j + 1) ha.2 (fun x hx => hm x (by simp [hx])) hj⟩

theorem Tab.risesFrom_cells (d : α) (vs : List α) (b : Nat) : Tab.risesFrom b (Tab.cells d b vs) = true := by
  induction vs generalizing b with
  | nil => rfl
  | cons v vs ih =>
    simp only [Tab.cells]
    split
    · exact Tab.risesFrom_mono _ b (b + 1) (by omega) (ih (b + 1))
    · simp only [Tab.risesFrom, Bool.and_eq_true, decide_eq_true_eq]
      exact ⟨Nat.le_refl b, ih (b + 1)⟩

theorem Tab.cells_values (d : α) (vs : List α) (b : Nat) : ∀ e ∈ Tab.cells d b vs, e.2 ≠ d := by
  induction vs generalizing b with
  | nil => simp [Tab.cells]
  | cons v vs ih =>
    intro e he
    simp only [Tab.cells] at he
    split at he
    · exact ih (b + 1) e he
    · rename_i hv
      simp only [List.mem_cons] at he
      rcases he with he | he
      · subst he
        exact hv
      · exact ih (b + 1) e he

/-- A write keeps the canonical form. -/
theorem Tab.wf_put (d : α) (t : Tab α) (b : Nat) (vs : List α) (h : Tab.wf d t = true) :
    Tab.wf d (Tab.put d t b vs) = true := by
  unfold Tab.wf at h ⊢
  simp only [Bool.and_eq_true, List.all_eq_true, decide_eq_true_eq] at h ⊢
  obtain ⟨hr, hv⟩ := h
  refine ⟨?_, ?_⟩
  · unfold Tab.put
    refine Tab.risesFrom_append _ _ 0 b (Tab.risesFrom_filter t _ 0 hr) ?_ (Nat.zero_le b) ?_
    · intro e he
      simp only [List.mem_filter, decide_eq_true_eq] at he
      exact he.2
    · refine Tab.risesFrom_append _ _ b (b + vs.length) (Tab.risesFrom_cells d vs b) ?_ (by omega) ?_
      · intro e he
        exact (Tab.cells_keys d vs b e he).2
      · refine Tab.risesFrom_raise _ 0 _ (Tab.risesFrom_filter t _ 0 hr) ?_
        intro e he
        simp only [List.mem_filter, decide_eq_true_eq] at he
        exact he.2
  · intro e he
    unfold Tab.put at he
    simp only [List.mem_append, List.mem_filter] at he
    rcases he with he | he | he
    · exact hv e he.1
    · exact Tab.cells_values d vs b e he
    · exact hv e he.1

theorem Tab.wf_set (d : α) (t : Tab α) (k : Nat) (v : α) (h : Tab.wf d t = true) : Tab.wf d (Tab.set d t k v) = true :=
  Tab.wf_put d t k [v] h

theorem Tab.wf_upd (d : α) (t : Tab α) (k : Nat) (f : α → α) (h : Tab.wf d t = true) :
    Tab.wf d (Tab.upd d t k f) = true :=
  Tab.wf_put d t k _ h

theorem Tab.wf_filter (d : α) (t : Tab α) (p : Nat × α → Bool) (h : Tab.wf d t = true) : Tab.wf d (t.filter p) = true := by
  unfold Tab.wf at h ⊢
  simp only [Bool.and_eq_true, List.all_eq_true, decide_eq_true_eq] at h ⊢
  refine ⟨Tab.risesFrom_filter t p 0 h.1, ?_⟩
  intro e he
  simp only [List.mem_filter] at he
  exact h.2 e he.1

@[simp] theorem Tab.wf_nil (d : α) : Tab.wf d ([] : Tab α) = true := rfl

end Sys2Proof
end

