-- ==== Sys2Proof/Tests/Slice0.lean ====
section
/-! SUPPORT. The model's own tests: ill-formed commands that WellFormed refuses, and for each statement a concrete state and
operands that meet its hypotheses. The expected values are the spec's. -/

namespace Sys2Proof.Tests

open Sys2Proof.Machine

set_option Elab.async false

/-! ## States -/

/-- A part that has started up: IDLE, powered, both host links and every link port up. -/
def up : State :=
  { State.reset with
    dev := { Device.reset with
      state := .idle, pwrEn := true, v56 := true, pgood := true, vaux := true, stepDone := 9, fwRunning := true }
    time := { Time.reset with beat := 1000000, counting := true }
    host := { HostPorts.reset with linkUp := [(0, true), (1, true)] }
    fab := { Fabric.reset with modId := 0, ports := (List.range 8).map (fun p => (p, { Port.down with state := 2 })) } }

/-- `up` in another device state. -/
def upIn (d : DevState) : State := { up with dev.state := d }

/-- Bytes of memory from (address, bytes, value) fields. -/
def body (l : List (Nat × Nat × Nat)) : Tab Byte := l.foldl (fun t f => Tab.put 0 t f.1 (natLe f.2.1 f.2.2)) []

/-- A running plan at address 0 whose memory has the fields `l` and zeros elsewhere. -/
def plan (l : List (Nat × Nat × Nat)) : State :=
  { upIn .running with
    plan := { PlanState.reset with loaded := true, started := true, startBeat := 1000000, ctrShared := true }
    mem := body l }

/-- One descriptor `d` for stream `u`: descriptor 64 of section 10, which begins at 0. -/
def unitAt (u d : Nat) : State := plan [(8 * u, 8, 64 + 2 ^ 40), (4096, 64, d)]

/-- A descriptor with no waits and no signal: UNIT, OPC and bits [511:128]. -/
def desc (unit opc rest : Nat) : Nat := unit + 16 * opc + noCtr * 2 ^ 8 + noCtr * 2 ^ 55 + noCtr * 2 ^ 102 + rest * 2 ^ 128

/-- Command `op` with body `b`, SEQ 1, accepted at beat 1,000,000. -/
def cmd (op : Nat) (b : Tab Byte) : Command :=
  { opcode := op, irq := false, seq := 1, length := (bodyLayout op).1, body := b, accepted := 1000000 }

/-- That command at the head of mailbox (0, 0), and the device queue `l`. -/
def withCmd (s : State) (c : Command) (l : List Queued) : State :=
  { s with host.boxes := [(0, { Mailbox.empty with queue := [c] })], host.queue := l }

/-- The device queue's entry of that command. -/
def entry : Queued := { port := 0, mbox := 0, seq := 1, checked := true, waiting := false, waitBeat := 0, arg := 0 }

/-- `s` with command `op` in execution at the head of mailbox (0, 0). -/
def run (s : State) (op : Nat) (b : Tab Byte) : State := withCmd s (cmd op b) [entry]

/-- `s` with command `op` at mailbox (0, 0) waiting for beat `n`. -/
def waits (s : State) (op n : Nat) (b : Tab Byte) : State := withCmd s (cmd op b) [{ entry with waiting := true, waitBeat := n }]

/-- `s` with reading command `op` at the head of mailbox (0, 0). -/
def reads (s : State) (op : Nat) (b : Tab Byte) : State := withCmd s (cmd op b) []

/-- Mailbox (0, 0) is settled and the command `o` found there has its body and passes `p`. -/
def meets (s : State) (o : Option Command) (p : Command → Bool) : Bool :=
  !(s.box 0 0).resetting && o.any (fun c => c.bodyOk && p c)

/-- Command `op` is in execution at mailbox (0, 0) and passes `p`. -/
def ex (s : State) (op : Nat) (p : Command → Bool) : Bool := meets s (s.changing 0 0 op) p

/-- Reading command `op` is at the head of mailbox (0, 0) and passes `p`. -/
def rd (s : State) (op : Nat) (p : Command → Bool) : Bool := meets s (s.reading 0 0 op) p

/-- Any command. -/
def any : Command → Bool := fun _ => true

/-- The timetable of a running plan: REPEATS 0, one entry at offset 0 of KIND `k`, ARG `a` and counter `c`, no signal. -/
def entryDue (k a c : Nat) : State := plan [(12, 4, 1), (16, 16, k * 2 ^ 48 + a * 2 ^ 56 + c * 2 ^ 64)]

/-- The outcome is a next state. -/
def nexts (o : Host.Outcome State Fault Refusal) : Bool := match o with | .next _ => true | _ => false

/-! ## Ill-formed commands, one for each check of WellFormed, and the edges of what it accepts -/

/-- A time message, a link message, a flit, a remap entry, notices and a marker of zeros. -/
def okTime : TimeMsg :=
  { srcId := 0, roosterId := 0, depth := 0, gen := 0, tBeat := 0, tFrac := 0, rxDelta := 0, wallB0 := 0, wallW0 := 0 }
def okMsg : LinkMsg :=
  { lane := 0, kind := 0, dst := 0, src := 0, sigId := 0, sigInc := 0, addr := 0, num := 0, space := 0, data := [] }
def okFlit : Flit :=
  { crc := 0, lane := 0, dclass := 0, kind := 0, dst := 0, first := false, last := false, fill := 247, payload := List.replicate 248 0 }
def okRemap : RemapEntry := { ident := 0xFFF, valid := true, dead := true, home := 1, proxy := 0xFFF, spareFold := 0x1FF, effective := 2 ^ 64 - 1 }
def okFault : FaultNotice := { src := 0x1FFF, cause := 255, detail := 0xFFFF, beat := 2 ^ 64 - 1 }
def okGear : GearNotice := { srcId := 0xFFF, half := 3, gear := 3, left := 15, raise := true, effective := 2 ^ 64 - 1 }
def okMarker : EndMarker := { router := 255, src := 255, epoch := 0xFFFF, counts := List.replicate 32 0xFFFF }

theorem smoke_times : ([{ okTime with srcId := 2 ^ 12 }, { okTime with roosterId := 2 ^ 12 }, { okTime with depth := 2 ^ 8 },
    { okTime with gen := 2 ^ 28 }, { okTime with tBeat := 2 ^ 64 }, { okTime with tFrac := 2 ^ 16 }, { okTime with rxDelta := 2 ^ 48 },
    { okTime with wallB0 := 2 ^ 64 }, { okTime with wallW0 := 2 ^ 64 }].all (fun m => !wellFormed (.syncRx 0 m 0) &&
      !wellFormed (.delayReqRx 0 m 0 0) && !wellFormed (.delayRespRx 0 m 0))) = true ∧
    wellFormed (.syncRx 0 okTime (2 ^ 16)) = false ∧ wellFormed (.delayMeasure 0 (2 ^ 16)) = false ∧
    wellFormed (.delayReqRx 0 okTime (2 ^ 16) 0) = false ∧ wellFormed (.delayReqRx 0 okTime 0 (2 ^ 48)) = false ∧
    wellFormed (.delayRespRx 0 okTime (2 ^ 16)) = false ∧ wellFormed (.delayReqRx 7 okTime (2 ^ 16 - 1) (2 ^ 48 - 1)) = true := by decide +kernel

theorem smoke_messages : ([{ okMsg with lane := 8 }, { okMsg with kind := 16 }, { okMsg with dst := 2 ^ 13 }, { okMsg with src := 2 ^ 13 },
    { okMsg with sigId := 2 ^ 15 }, { okMsg with sigInc := 256 }, { okMsg with addr := 2 ^ 48 }, { okMsg with num := 256 },
    { okMsg with space := 8 }].all (fun m => !wellFormed (.messageRx 0 m) && !wellFormed (.mcastRx 0 m) &&
      !wellFormed (.partialRx 0 m))) = true ∧ wellFormed (.messageRx 7 { okMsg with lane := 7, space := 7 }) = true := by decide +kernel

theorem smoke_flits : ([{ okFlit with crc := 2 ^ 32 }, { okFlit with lane := 8 }, { okFlit with dclass := 4 }, { okFlit with kind := 16 },
    { okFlit with dst := 2 ^ 13 }, { okFlit with fill := 248 }, { okFlit with payload := [] }].all (fun f => !wellFormed (.flitRx 0 f true) &&
      !wellFormed (.flitForward 0 0 f))) = true ∧ wellFormed (.flitRx 0 okFlit true) = true ∧ wellFormed (.flitForward 0 (2 ^ 13) okFlit) = false ∧
    wellFormed (.nakRx 0 (2 ^ 16)) = false ∧ wellFormed (.controlFlitRx 0 [0] 0 false) = false ∧
    wellFormed (.controlFlitRx 0 (List.replicate 24 0) (2 ^ 16) false) = false ∧ wellFormed (.controlFlitRx 0 (List.replicate 24 0) 0 false) = true := by
  decide +kernel

theorem smoke_fabric : ([{ okRemap with ident := 2 ^ 12 }, { okRemap with home := 2 }, { okRemap with proxy := 2 ^ 12 }, { okRemap with spareFold := 2 ^ 9 },
    { okRemap with effective := 2 ^ 64 }].all (fun e => !wellFormed (.remapEntryRx 0 e))) = true ∧ wellFormed (.remapEntryRx 0 okRemap) = true ∧
    wellFormed (.peerIdentityRx 0 (2 ^ 12) 0 0 0) = false ∧ wellFormed (.peerIdentityRx 0 0 2 0 0) = false ∧
    wellFormed (.peerIdentityRx 0 0 0 (2 ^ 9) 0) = false ∧ wellFormed (.echoRx 0 (2 ^ 13)) = false ∧ wellFormed (.redirectSet 6 (2 ^ 13)) = false ∧
    ([{ okFault with src := 2 ^ 13 }, { okFault with cause := 256 }, { okFault with detail := 2 ^ 16 }, { okFault with beat := 2 ^ 64 }].all
      (fun n => !wellFormed (.faultNoticeRx 0 n))) = true ∧ wellFormed (.faultNoticeRx 0 okFault) = true ∧
    ([{ okGear with srcId := 2 ^ 12 }, { okGear with half := 4 }, { okGear with half := 0 }, { okGear with gear := 4 }, { okGear with left := 16 },
      { okGear with effective := 2 ^ 64 }].all (fun n => !wellFormed (.gearNoticeRx 0 n))) = true ∧ wellFormed (.gearNoticeRx 0 okGear) = true := by
  decide +kernel

theorem smoke_host : ([.mailboxSubmit 0 0 4096 [0], .mailboxSubmit 0 0 0 [], .consumedWrite 0 0 (2 ^ 32), .respStatus 0 (2 ^ 16), .respLogTail 0 (2 ^ 16),
    .respHalt 0 (2 ^ 16) 0, .respHalt 0 0 (2 ^ 32), .respResetPart 0 (2 ^ 16) 0, .respResetPart 0 0 (2 ^ 32), .perstDeassert 0 0 1, .perstDeassert 0 7 1,
    .perstDeassert 0 1 2, .bar2Read 0 0 0, .bar2Read 0 0 4097, .bar2Write 0 0 [], .bar2Write 0 0 (List.replicate 513 0), .startStepDone true (2 ^ 32),
    .warmResetStep true (2 ^ 32), .i3cCcc (.entdaa 128), .i3cCcc (.setdasa 128 0), .i3cCcc (.setdasa 0 128)].all (fun i => !wellFormed i)) = true ∧
    ([.mailboxSubmit 0 0 4095 [0], .consumedWrite 1 15 (2 ^ 32 - 1), .perstDeassert 0 6 16, .bar2Read 0 0 4096, .i3cCcc (.setdasa 127 127)].all wellFormed) = true := by
  decide +kernel

theorem smoke_units : ([.counterSignal (2 ^ 15) 0 none, .counterSignal 0 256 none, .residencyMapRx 0 (2 ^ 32) (List.replicate 48 0) [],
    .residencyMapRx 0 0 [] [], .dispatchRecordRx { src := 2 ^ 13, data := List.replicate 64 0 }, .dispatchRecordRx { src := 0, data := List.replicate 63 0 },
    .answerRx { src := 2 ^ 13, data := List.replicate 16 0 }, .answerRx { src := 0, data := List.replicate 15 0 },
    .dispatchEndMarkerRx { okMarker with router := 256 }, .dispatchEndMarkerRx { okMarker with src := 256 }, .dispatchEndMarkerRx { okMarker with epoch := 2 ^ 16 },
    .dispatchEndMarkerRx { okMarker with counts := List.replicate 33 0 }, .answerEndMarkerRx { okMarker with counts := [2 ^ 16] },
    .cowWriteHold 0 (2 ^ 21) [0], .cowWriteHold 0 0 [], .patrolScrub (2 ^ 33) .clean, .thermalSample 256 0 0, .thermalSample 0 256 0, .thermalSample 0 0 256,
    .stackTemperatureReport 0 256, .trip 0 0, .trip 7 0, .trip 1 256, .powerSample { watts := 2 ^ 16, vIn := 0, iIn := 0, coreW := 0, coreE := 0 },
    .powerSample { watts := 0, vIn := 2 ^ 16, iIn := 0, coreW := 0, coreE := 0 }, .powerSample { watts := 0, vIn := 0, iIn := 2 ^ 16, coreW := 0, coreE := 0 },
    .powerSample { watts := 0, vIn := 0, iIn := 0, coreW := 2 ^ 16, coreE := 0 }, .powerSample { watts := 0, vIn := 0, iIn := 0, coreW := 0, coreE := 2 ^ 16 }].all
      (fun i => !wellFormed i)) = true ∧
    ([.counterSignal (2 ^ 15 - 1) 255 none, .dispatchEndMarkerRx okMarker, .cowWriteHold 0 (2 ^ 21 - 1) [0], .patrolScrub (2 ^ 33 - 1) .clean, .trip 6 255,
      .holdoverEntry, .mul 59].all wellFormed) = true := by decide +kernel

/-! ## The step, reset and the invariants -/

theorem wit_ticks : up.pending = [] ∧ ({ up with fab.remapClear := true }).lanesEmpty = true ∧
    nexts (exec .periodStart up) = true := by decide +kernel

theorem wit_run : wellFormed (.bar2Read 0 (2 ^ 36 - 1) 1) = true ∧ wellFormed (.bar2Write 0 0 [0]) = true ∧
    wellFormed (.bar0WriteDiscard 0 (2 ^ 26 - 4) 4) = true ∧ wellFormed (.bar0CrossingRead 0 4095 2) = true := by decide +kernel

theorem wit_stops : wellFormed (.consumedWrite 0 0 (2 ^ 32)) = false ∧ nexts (exec (.bar2Read 0 (2 ^ 36) 1) up) = false ∧
    nexts (exec (.bar2Write 0 (2 ^ 36 - 1) [0, 0]) up) = false ∧ nexts (exec (.bar0WriteDiscard 0 (2 ^ 26 - 3) 4) up) = false ∧
    nexts (exec (.consumedWrite 0 0 (2 ^ 32)) up) = false := by decide +kernel

theorem wit_canonical : up.canonical ∧ nexts (step { up with pending := [.recordPost 0 0] }) = true := by
  unfold State.canonical; decide +kernel

theorem wit_numbered : up.trust.numbered ∧ nexts (step up) = true := ⟨⟨rfl, trivial⟩, by decide +kernel⟩

theorem wit_rings : up.ringsBounded ∧ nexts (step up) = true := by
  unfold State.ringsBounded; decide +kernel

/-! ## Host ports and mailboxes -/

/-- `up` with a page at mailbox (0, 0) that asks for STATUS with SEQ 5. -/
def paged (seq : Nat) : State :=
  { up with host.boxes := [(0, { Mailbox.empty with page := body [(0, 2, 0x02), (4, 4, seq)] })] }

theorem wit_submit : 0xFF8 + (natLe 8 5).length = 4096 ∧ (paged 5).portLive 0 = true ∧ ((paged 5).box 0 0).pendingCount < 4 ∧
    leNat (Tab.range 0 (Tab.put 0 ((paged 5).box 0 0).page 0xFF8 (natLe 8 5)) 0xFF8 4) =
      leNat (Tab.range 0 (Tab.put 0 ((paged 5).box 0 0).page 0xFF8 (natLe 8 5)) 4 4) ∧
    leNat (Tab.range 0 (Tab.put 0 ((paged 6).box 0 0).page 0xFF8 (natLe 8 5)) 0xFF8 4) ≠
      leNat (Tab.range 0 (Tab.put 0 ((paged 6).box 0 0).page 0xFF8 (natLe 8 5)) 4 4) := by decide +kernel

theorem wit_pageWrite : 0xFF9 + (natLe 7 5).length ≤ 4096 ∧ 0 < (natLe 7 5).length ∧ 0xFF8 < 0xFF9 ∧ up.portLive 0 = true := by
  decide +kernel

/-- `s` with command `op` of port `p` not yet checked. -/
def unchecked (s : State) (op : Nat) : State := withCmd s (cmd op []) [{ entry with checked := false }]

theorem wit_checks : ((unchecked up 0x10).queueHead.any (fun q => !q.1.checked && up.roleOk 0 0x10 && decide (up.dev.state.code ∈ statesOf 0x10))) = true ∧
    ((unchecked up 0xFF).queueHead.any (fun q => decide (q.2.opcode ∉ opcodes))) = true ∧
    ((unchecked { up with host.steward := 1 } 0x12).queueHead.any (fun q => !({ up with host.steward := 1 } : State).roleOk q.1.port q.2.opcode)) = true ∧
    ((unchecked (upIn .running) 0x20).queueHead.any (fun q => decide ((upIn .running).dev.state.code ∉ statesOf q.2.opcode))) = true := by
  decide +kernel

/-- `up` with a record of SEQ 3 shown and one of SEQ 4 waiting. -/
def recorded (irq consumed : Bool) : State :=
  let r : Record := { status := 0, opcode := 2, seq := 3, irq := irq, beat := 0, detail := 0, body := [], len := 0, wrote := none }
  { up with host.boxes := [(0, { Mailbox.empty with shown := some r, consumed := consumed, records := [{ r with seq := 4 }] })] }

theorem wit_consumed : (recorded false false).portLive 0 = true ∧ ((recorded false false).box 0 0).consumed = false ∧
    ((recorded false false).box 0 0).shown.any (fun r => r.seq == 3) = true := by decide +kernel

theorem wit_post : ((recorded true true).box 0 0).records ≠ [] ∧ ((recorded true true).box 0 0).consumed = true ∧
    Tab.get true { recorded true true with host.msixMask := [(vecKey 0 0, false)] }.host.msixMask (vecKey 0 0) = false := by decide +kernel

theorem wit_msix : Tab.get false { up with host.msixPend := [(vecKey 0 31, true)] }.host.msixPend (vecKey 0 31) = true := by
  decide +kernel

theorem wit_bar2 : up.portLive 0 = true ∧ up.host.steward = 0 ∧ up.host.steward ≠ 1 ∧ up.portLive 1 = true ∧
    (pagesOf 0 512).all (fun g => (up.pteOf g).valid && !(up.pteOf g).ro && !(up.pteOf g).wp) = true ∧
    up.badAddr 0 512 = false ∧ up.badAddr 0x7FFC000000 1 = false ∧ ({ up with pte := [(0, { Pte.idle with valid := false })] }).badAddr 0 1 = true := by
  decide +kernel

theorem wit_bar0 : bar0Writable (2 ^ 26 - 4) = false ∧ 4095 / 4096 ≠ (4095 + 2 - 1) / 4096 := by decide +kernel

theorem wit_mirror : up.dev.fwRunning = true ∧ up.time.beat % 1000 = 0 ∧ up.host.mirrorBeat ≠ up.time.beat ∧ up.dev.state ≠ .cold ∧
    up.dev.pgood = true := by decide +kernel

theorem wit_reads : rd (reads up 0x01 []) 0x01 any = true ∧ rd (reads up 0x02 []) 0x02 any = true ∧ rd (reads up 0x04 []) 0x04 any = true ∧
    rd (reads up 0x11 (body [(0, 2, 1)])) 0x11 (fun c => c.field 0 2 == 1) = true ∧
    rd (reads up 0x11 (body [(0, 2, 5)])) 0x11 (fun c => c.field 0 2 == 5) = true ∧
    rd (reads up 0x11 (body [(0, 2, 6)])) 0x11 (fun c => c.field 0 2 == 6) = true ∧
    rd (reads up 0x13 (body [(0, 2, 448)])) 0x13 (fun c => decide (c.field 0 2 ≤ 448)) = true ∧
    rd (reads up 0x13 (body [(0, 2, 449)])) 0x13 (fun c => decide (448 < c.field 0 2)) = true := by decide +kernel

/-- A bulk target in host memory of `n` bytes at address 4,096, at offset `o` of a body. -/
def target (o n : Nat) : List (Nat × Nat × Nat) := [(o, 8, 4096), (o + 8, 6, n)]

/-- A bulk target in host memory of at least `n` bytes. -/
def bulkOk (b : Bulk) (n : Nat) : Bool := b.space == 0 && b.rest == 0 && b.len % 64 == 0 && decide (n ≤ b.len)

theorem wit_mapRead : rd (reads { up with geo.published := true } 0x14 (body (target 0 0xC000))) 0x14 (fun c => bulkOk (c.bulk 0) 0xC000) = true ∧
    rd (reads up 0x14 (body (target 0 0xC000))) 0x14 any = true ∧ up.geo.published = false := by decide +kernel

theorem wit_logRead : rd (reads { up with trust.head := 2 } 0x03 (body ([(0, 8, 1), (8, 4, 1)] ++ target 16 64))) 0x03
    (fun c => bulkOk (c.bulk 16) 64 && c.field 8 4 == 1 && decide (c.field 0 8 < 2)) = true := by decide +kernel

theorem wit_telemetry : rd (reads up 0x62 (body [(0, 2, 0x040A), (8, 4, 1)])) 0x62
      (fun c => c.field 16 16 == 0 && (blockOf (c.field 0 2)).any (fun b => decide (c.field 4 4 + c.field 8 4 ≤ b.count))) = true ∧
    rd (reads up 0x62 (body [(0, 2, 0xFFFF), (8, 4, 1)])) 0x62 (fun c => c.field 16 16 == 0 && (blockOf (c.field 0 2)).isNone) = true := by
  decide +kernel

theorem wit_attest : rd (reads up 0x70 (body (target 48 50432))) 0x70 (fun c => bulkOk (c.bulk 48) 50432) = true := by decide +kernel

theorem wit_setSteward : ex (run up 0x10 (body [(0, 1, 1)])) 0x10 (fun c => c.field 0 1 == 1) = true ∧
    ex (run up 0x10 []) 0x10 (fun c => c.field 0 1 == up.host.steward) = true ∧
    ex (run up 0x10 (body [(0, 1, 2)])) 0x10 (fun c => decide (1 < c.field 0 1)) = true := by decide +kernel

theorem wit_configSet : ex (run up 0x12 (body [(0, 2, 1), (8, 8, up.fabricCfg)])) 0x12 (fun c => c.field 0 2 == 1 && fabricCfgOk (c.field 8 8)) = true ∧
    ex (run up 0x12 (body [(0, 2, 2), (8, 8, up.fabricCfg)])) 0x12 (fun c => c.field 0 2 != 1) = true ∧
    ex (run up 0x12 (body [(0, 2, 1), (8, 8, 2 ^ 63)])) 0x12 (fun c => !fabricCfgOk (c.field 8 8)) = true := by decide +kernel

/-- A spare module without identity, LOCKED. -/
def spare : State := { up with fab.role := 1, fab.modId := 0xFFF, time.state := 1 }

theorem wit_enlist : ex (run spare 0x40 []) 0x40 any = true ∧ (List.range 8).all spare.portUp = true ∧ ex (run up 0x40 []) 0x40 any = true ∧
    up.fab.role ≠ 1 := by decide +kernel

theorem wit_takeover : ex (run { spare with dev.enlisted := true } 0x41 (body [(8, 8, 1002048)])) 0x41
      (fun c => decide (c.accepted + 2048 ≤ c.field 8 8) && spare.servable (c.field 0 2)) = true ∧ spare.bareSpare = true ∧ spare.remapFull = false := by
  decide +kernel

/-- `up` with Ox 0 at physical position 5. -/
def mapped : State := { up with geo.logical := [(0, 5)] }

theorem wit_fence : ex (run up 0x42 []) 0x42 (fun c => mapIndex (c.field 0 1) (c.field 1 1) == some 0) = true ∧
    up.physOf 0 = 0xFF ∧ ex (run mapped 0x42 []) 0x42 any = true ∧ mapped.physOf 0 = 5 ∧
    ex (run { mapped with geo.fence := [(5, true)] } 0x42 []) 0x42 any = true ∧
    ex (run up 0x42 (body [(0, 1, 255)])) 0x42 (fun c => (mapIndex (c.field 0 1) (c.field 1 1)).isNone) = true := by decide +kernel

theorem wit_role : ex (run up 0x50 []) 0x50 (fun c => c.field 0 1 == 0 && up.time.role != 0) = true ∧
    ex (run up 0x50 (body [(0, 1, 2)])) 0x50 (fun c => c.field 0 1 == up.time.role) = true ∧
    ex (run up 0x50 (body [(0, 1, 1)])) 0x50 (fun c => c.field 0 1 == 1) = true ∧
    ex (run up 0x50 (body [(0, 1, 3)])) 0x50 (fun c => c.field 0 1 == 3) = true := by decide +kernel

theorem wit_wall : ex (run { up with time.role := 0 } 0x51 (body [(0, 8, 1002048)])) 0x51 (fun c => decide (1000000 + 2048 ≤ c.field 0 8)) = true ∧
    ex (run { up with time.role := 0 } 0x51 (body [(0, 8, 1002047)])) 0x51 (fun c => decide (c.field 0 8 < 1000000 + 2048)) = true ∧
    ex (run up 0x51 []) 0x51 any = true ∧ up.time.role ≠ 0 := by decide +kernel

theorem wit_power : ex (run up 0x60 (body [(0, 2, 400)])) 0x60 (fun c => decide (400 ≤ c.field 0 2)) = true ∧
    ex (run up 0x60 (body [(0, 2, 2001)])) 0x60 (fun c => decide (2000 < c.field 0 2)) = true ∧
    ex (run up 0x61 (body [(0, 1, 15)])) 0x61 (fun c => decide (c.field 0 1 < 16)) = true ∧
    ex (run up 0x61 (body [(0, 1, 16)])) 0x61 (fun c => decide (16 ≤ c.field 0 1)) = true := by decide +kernel

theorem wit_firmware : ex (run up 0x71 (body (target 0 64))) 0x71 (fun c => bulkOk (c.bulk 0) 64 && decide ((c.bulk 0).len ≤ 2 ^ 24)) = true ∧
    ex (run up 0x72 []) 0x72 any = true ∧ up.trust.staged = false ∧ ex (run { up with trust.staged := true } 0x72 []) 0x72 any = true ∧
    up.dev.warmStep = 0 ∧ up.dev.extest = false := by decide +kernel

theorem wit_halt : (reads up 0x80 []).placeOf 0 0 0x80 = some (0, cmd 0x80 []) ∧ up.serves 0 = true ∧ up.gateStatus 0 0x80 = 0 ∧
    (cmd 0x80 []).bodyOk = true ∧ rd (reads (upIn .halted) 0x80 []) 0x80 any = true ∧
    (reads up 0x81 []).placeOf 0 0 0x81 = some (0, cmd 0x81 []) ∧ up.gateStatus 0 0x81 = 0 := by decide +kernel

/-! ## Plans, runs and checkpoints -/

theorem wit_runAtBeat : ex (run { upIn .armed with dev.primed := true } 0x23 (body [(0, 8, 1002048)])) 0x23
      (fun c => decide (c.accepted + 2048 ≤ c.field 0 8)) = true ∧
    ex (run { upIn .armed with dev.primed := true } 0x23 (body [(0, 8, 1002047)])) 0x23 (fun c => decide (c.field 0 8 < c.accepted + 2048)) = true ∧
    ex (run (upIn .held) 0x23 (body [(0, 8, 1002048)])) 0x23 any = true ∧ ex (run (upIn .armed) 0x23 []) 0x23 any = true ∧
    (upIn .armed).dev.primed = false := by decide +kernel

theorem wit_resume : ex (run (upIn .held) 0x25 (body [(0, 8, 1002048)])) 0x25 (fun c => decide (c.accepted + 2048 ≤ c.field 0 8)) = true ∧
    ex (run { upIn .held with dev.stopped := true } 0x25 []) 0x25 any = true ∧
    ex (run (upIn .held) 0x25 (body [(0, 8, 1002047)])) 0x25 any = true := by decide +kernel

theorem wit_abort : ex (run (upIn .running) 0x26 (body [(0, 8, 1000256)])) 0x26 (fun c => decide (c.accepted + 256 ≤ c.field 0 8)) = true ∧
    ex (run (upIn .running) 0x26 (body [(0, 8, 1000255)])) 0x26 any = true ∧
    ex (run (upIn .held) 0x26 (body [(0, 8, 1000256)])) 0x26 (fun c => decide (c.accepted + 256 ≤ c.field 0 8)) = true := by decide +kernel

theorem wit_hold : ex (run (plan []) 0x24 (body [(0, 8, 1000256)])) 0x24 (fun c => decide (c.accepted + 256 ≤ c.field 0 8)) = true := by
  decide +kernel

theorem wit_planLoad : ex (run { up with time.state := 1 } 0x20 (body [(8, 8, 2 ^ 34)])) 0x20
      (fun c => c.field 0 8 % 4096 == 0 && decide (c.field 8 8 ≤ 2 ^ 34) && decide (c.field 0 8 + c.field 8 8 ≤ 2 ^ 39)) = true ∧
    ({ up with time.state := 1, geo.logical := (List.range 210).map (fun i => (i, i)) }).mayLoad = true ∧ up.canonical := by
  unfold State.canonical; decide +kernel

theorem wit_planArm : ex (run { upIn .armed with time.state := 1 } 0x21 []) 0x21 any = true ∧ ({ upIn .armed with time.state := 1 }).mayArm = true ∧
    (upIn .armed).mayArm = false ∧ ex (run (upIn .armed) 0x22 []) 0x22 any = true ∧
    ex (run { upIn .armed with ck.state := 1 } 0x22 []) 0x22 any = true := by decide +kernel

theorem wit_runStart : (waits (upIn .armed) 0x23 1000000 []).dueCmd 0x23 ≠ none ∧ (waits (upIn .held) 0x23 1000000 []).dueCmd 0x23 ≠ none ∧
    (waits { upIn .held with plan.holdBeat := some 999000 } 0x25 1000000 []).dueCmd 0x25 ≠ none ∧
    (waits (upIn .running) 0x26 1000000 []).dueCmd 0x26 ≠ none ∧ (waits (upIn .running) 0x26 1000001 []).dueCmd 0x26 = none := by
  decide +kernel

/-- A command in progress of unit `n`, with PLAN_CYC 10 and no SLACK, signal or effect. -/
def flight (n : Nat) (stat : Option Nat) : InFlight :=
  { desc := 64, unit := n, op := 0, rep := 0, beat := 1000000, cycles := 10, code := 0, capped := false, status := 0, statBits := 0,
    statKey := stat, bumps := [], sigId := noCtr, sigInc := 0, outs := [], planCyc := 10, slackCyc := 0, slipped := false, gated := false,
    work := none, solo := false, nonfin := none, tap := none, release := [] }

/-- A running plan in which stream `u` has the commands `l` in progress. -/
def flying (u : Nat) (l : List InFlight) : State :=
  { plan [] with unit.streams := Tab.set Stream.idle [] u { Stream.idle with flight := l } }

theorem wit_held : (waits (upIn .running) 0x24 1000000 []).dueCmd 0x24 ≠ none ∧ (upIn .running).unitsIdle = true ∧
    (waits (upIn .running) 0x24 1000000 []).waitingFor 0x24 ≠ none ∧ (flying 5 [flight 1 none]).unitsIdle = false ∧
    (waits (flying 5 [flight 1 none]) 0x24 990000 []).waitingFor 0x24 ≠ none := by decide +kernel

/-- A plan with a section 9 at 8,192 that gives an evaluation ring at 65,536 with 4 entries of 64 bytes. -/
def evals : State := plan [(0xD0, 8, 8192), (0xD8, 8, 512), (8192, 24, 256 * 2 ^ 80), (65536, 8, 4 + 64 * 2 ^ 32)]

theorem wit_evalRun : ex (run evals 0x27 (body [(0, 8, 4096), (8, 6, 64), (16, 4, 1)])) 0x27 (fun c => c.field 16 4 == 1) = true ∧ evals.secLen 9 ≠ 0 ∧
    evals.evalRing = 65536 ∧ evals.acts.evalBox = none := by decide +kernel

theorem wit_ckptCommands : ex (run up 0x30 (body [(0, 2, 0x101), (16, 8, 4096), (24, 6, 2 ^ 21)])) 0x30
      (fun c => c.field 0 1 == 1 && c.field 1 1 == 1 && (c.targets 16).all Option.isSome) = true ∧
    ex (run up 0x30 (body [(0, 1, 2)])) 0x30 (fun c => decide (1 < c.field 0 1)) = true ∧
    ex (run up 0x31 (body [(0, 8, 112 * 2 ^ 24)])) 0x31 (fun c => bits (c.field 0 8) 24 7 == 112) = true ∧
    ex (run up 0x31 (body [(0, 8, 113 * 2 ^ 24)])) 0x31 any = true ∧
    ex (run (plan []) 0x32 []) 0x32 any = true ∧ ex (run { plan [] with flt.frozen := true } 0x32 []) 0x32 any = true ∧
    (waits { plan [] with ck.enable := true } 0x32 1000000 []).dueCmd 0x32 ≠ none ∧ (waits (plan []) 0x32 1000000 []).dueCmd 0x32 ≠ none := by
  decide +kernel

theorem wit_checkpoint : ({ entryDue 0x05 0 noCtr with ck.enable := true }).dueKind 0x05 ≠ none ∧ (entryDue 0x05 0 noCtr).dueKind 0x05 ≠ none ∧
    (entryDue 0x05 0 noCtr).heldWrites = [] ∧ (entryDue 0x05 0 noCtr).ck.enable = false := by decide +kernel

theorem wit_stream : (({ plan [] with ck.state := 1 }).listHolds 0 0 ({ plan [] with ck.state := 1 } |>.ckptPages 0).length) = false ∧
    (let s : State := { plan [] with ck.state := 1, ck.openTargets := [(0, { addr := 0, len := 2 ^ 30 }), (32, { addr := 0, len := 2 ^ 30 })] }
     s.listHolds 0 0 (s.ckptPages 0).length && s.listHolds 1 0 (s.ckptPages 1).length) = true := by decide +kernel

/-- A plan with one region of kind 1, whose page 8 is copied to page 16. -/
def copied : State :=
  { plan [(0xC0, 8, 16384), (0xC8, 8, 4096)] with pte := [(8, { Pte.idle with wp := true, copied := true, region := 0, shadow := 16 })] }

theorem wit_copyBack : (copied.pteOf 8).copied = true ∧ (copied.pteOf 8).shadow ≠ 8 ∧ copied.canonical := by
  unfold State.canonical; decide +kernel

theorem wit_rollback : ex (run { upIn .held with ck.state := 3, ck.lastEffective := 77 } 0x34 (body [(0, 8, 77)])) 0x34 (fun c => c.field 0 8 == 77) = true ∧
    ex (run { upIn .held with ck.state := 3, ck.lastEffective := 77 } 0x34 (body [(0, 8, 78)])) 0x34 any = true ∧
    ex (run (upIn .held) 0x33 []) 0x33 any = true ∧ (upIn .held).restoreMay = true ∧ (upIn .armed).restoreMay = true := by decide +kernel

/-! ## Links -/

/-- A data flit of 248 zero bytes with CRC `c`. -/
def zeros (c : Nat) : Flit :=
  { crc := c, lane := 0, dclass := 0, kind := 1, dst := 0, first := true, last := true, fill := 0, payload := List.replicate 248 0 }

set_option maxRecDepth 100000 in
theorem wit_flits : (zeros 0).ok = true ∧ (zeros 1).ok = true ∧ up.carries 0 0 = true ∧ up.carries 7 7 = true ∧
    (zeros 1).crc ≠ flitCrc (zeros 1) ∧ (zeros (flitCrc (zeros 0))).crc = flitCrc (zeros (flitCrc (zeros 0))) ∧ isDataFlit (zeros 0) = true ∧
    (zeros (flitCrc (zeros 0))).ok = true := by decide +kernel

theorem wit_nak : (List.replicate 24 0).length = 24 ∧
    ({ Port.down with unacked := [zeros 0, zeros 1], txCount := 5 }).txCount = (4 + (2 - 1)) % 2 ^ 16 := by decide +kernel

theorem wit_forward : ((up.forwardHop 15 { zeros 0 with dst := 1 }).any (fun e => up.carries e.1 0 && (up.port e.1).open 0 e.2)) = true ∧ up.bareSpare = false ∧
    ({ up with fab.ports := [] }).carries 0 0 = false := by decide +kernel

/-- `up` with port 0 in state `n`. -/
def port0 (n : Nat) : State := { up with fab.ports := Tab.set Port.down up.fab.ports 0 { Port.down with state := n } }

theorem wit_train : linkOf 0 false = 0 ∧ ((port0 1).port 0).state = 1 ∧ ((port0 3).port 0).state = 3 ∧ ((port0 5).port 0).state = 5 ∧
    (port0 1).inTraining 0 = true ∧ (port0 1).widthOk 0 3 = true ∧ (port0 1).widthOk 0 2 = true ∧ (port0 1).dueWide 0 = true ∧
    ({ port0 3 with time.beat := 5 }).inTraining 0 = true ∧ (port0 2).expectedPeers 0 = [(0, 1, 1)] ∧ ((port0 3).port 0).retrainBeat + 10000 ≤ (port0 3).time.beat := by decide +kernel

/-- A takeover in hand for module 0, and an entry of it. -/
def taking (echo : Nat) (e : Option RemapEntry) : State :=
  { spare with fab.takeover := some { ident := 0, effective := 1000000, port := 0, echoBeat := echo, entry := e } }

/-- The remap entry of that takeover. -/
def remap0 : RemapEntry := { ident := 0, valid := true, dead := false, home := 0, proxy := 0, spareFold := 0, effective := 1000000 }

theorem wit_echo : (taking 999900 none).fab.takeover ≠ none ∧ (taking 999900 none).time.beat ≤ 999900 + 100 ∧ (taking 999900 none).deadClash 0 = false ∧
    up.carries 6 7 = true ∧ up.fab.role = 0 ∧ remap0.ok = true ∧ remap0 ∉ up.remaps ∧ remap0 ∉ up.fab.pendingRemap := by decide +kernel

theorem wit_deadClash : ({ taking 999900 none with fab.remap := [(0, { remap0 with ident := 1, dead := true })] }).deadClash 0 = true := by decide +kernel

theorem wit_remap : (Tab.get emptyRemap { up with fab.pendingRemap := [remap0] }.fab.remap 0).valid = false ∧ up.dev.state.fromIdle = true ∧
    remap0.effective ≤ up.time.beat ∧ up.dev.state ≠ .running ∧ up.lanesEmpty = true ∧
    remap0 ∈ ({ taking 0 (some remap0) with fab.remap := [(63, remap0)] }).remaps := by decide +kernel

theorem wit_adopt : let s : State := { up with fab.pendingRemap := [remap0] }
    s.remapOf 0 = none ∧ s.fab.pendingRemap.find? (fun e => e.ident == 0) = some remap0 ∧ up.fab.pendingRemap.find? (fun e => e.ident == 0) = none ∧
    (waits (taking 0 (some remap0)) 0x41 1000000 []).host.queue.all (fun q => q.waiting) = true ∧
    ((waits (taking 0 (some remap0)) 0x41 1000000 []).box 0 0).queue ≠ [] := by decide +kernel

/-- A module that sends what is addressed to it over port 6, and one with a message that waits for a page copy. -/
def redirected : State := { up with fab.redirect := some 6 }
def unacked : Unacked := { port := 0, src := 1, key := 2 ^ 24, len := 1, sigId := noCtr, sigInc := 0, tell := true }

theorem wit_links : ((unitAt 218 (desc 7 0 (1 + 2 ^ 24))).readyLink 0 1).isSome = true ∧ ((unitAt 218 (desc 7 0 (2 + 2 ^ 24))).readyLink 0 2).isSome = true ∧
    ((unitAt 225 (desc 7 0 (3 + 2 ^ 192))).readyLink 7 3).isSome = true ∧ ((unitAt 218 (desc 7 0 4)).readyLink 0 4).isSome = true ∧
    ((unitAt 218 (desc 7 0 (4 + 2 ^ 12))).readyLink 0 4).any (fun d => (linkCmd d).last) = true ∧
    (unitAt 218 (desc 7 0 (1 + 2 ^ 24))).path 0 1 ≠ [] ∧ (unitAt 218 (desc 7 0 1)).path 0 0 = [] := by decide +kernel

/-- A message for module `n` of eight bytes at address 4,096 of a link port's memory. -/
def msg (n : Nat) : LinkMsg :=
  { lane := 0, kind := 1, dst := n, src := 1, sigId := noCtr, sigInc := 0, addr := 4096, num := 0, space := 0, data := [1, 2, 3, 4, 5, 6, 7, 8] }

theorem wit_messages : (msg 0).ok = true ∧ up.portUp 0 = true ∧ (msg 0).dst = up.fabricAddr ∧ (msg 1).dst ≠ up.fabricAddr ∧
    (List.range 6).all (fun n => 2 ^ 48 ≤ locKey 4096 0 n || locKey 4096 0 n == 4096) = true ∧
    up.spaceFenced (locKey 4096 0 2 / 2 ^ 48) = false := by decide +kernel

theorem wit_redirect : redirected.redirectOf 0 = some 6 ∧ up.redirectOf 0 = none ∧ redirected.portUp 0 = true ∧ spare.bareSpare = true ∧
    up.bareSpare = false ∧ up.fab.unacked = [] ∧ up.heldWrites = [] ∧ (msg 0).data ≠ [] ∧ spaceKey (goatSpace 0) 0 ≥ 2 ^ 48 ∧
    (let s : State := { up with pte := [(0, { Pte.idle with wp := true })] }
     (s.pteOf (pageOf 4096)).valid && !(s.pteOf (pageOf 4096)).ro && (s.pteOf (pageOf 4096)).wp) = true ∧
    ({ up with plan.shortHops := [(up.ringEntry 0 1, 4096, false)] }).plan.shortHops.find?
      (fun (e : Nat × Nat × Bool) => e.1 == up.ringEntry 0 1 && e.2.1 == 4096) ≠ none := by decide +kernel

theorem wit_hops : (let s := unitAt 218 (desc 7 0 4)
      !(linkCmd (desc 7 0 4)).tr && !(linkCmd (desc 7 0 4)).first && (s.carryAt 0 (linkCmd (desc 7 0 4))).isNone && !s.ctrShort noCtr) = true ∧
    (let d := 7 + 4 * 2 ^ 128 + 5 * 2 ^ 8 + noCtr * 2 ^ 55 + noCtr * 2 ^ 102
     let s := { unitAt 218 d with plan.ctrs := [(5, { Ctr.zero with shortfall := 1 })] }
     (s.readyLink 0 4).isSome && s.ctrShort (dW0 d)) = true := by decide +kernel

theorem wit_carry : let y : Carry := { port := 0, addr := 8192, src := 4096, bytes := 64, step := 0, ctr := 1, wait := noCtr, trailer := false, copied := false, drop := false, lost := false }
    let s : State := { up with plan.carries := [y] }
    s.plan.carries.find? (fun y => y.port == 0 && !y.copied && !y.drop && !y.lost && !s.ctrShort y.wait) = some y := by decide +kernel

/-! ## Units -/

/-- `unitAt` with more fields of memory. -/
def unitMem (u d : Nat) (l : List (Nat × Nat × Nat)) : State := plan ([(8 * u, 8, 64 + 2 ^ 40), (4096, 64, d)] ++ l)

/-- An Ox command of MODE `mode` with extents `m`, `n`, `k` and LAST. -/
def oxDesc (mode last m n k : Nat) : Nat :=
  desc 1 0 (mode + last * 2 ^ 4 + m * 2 ^ 160 + n * 2 ^ 176 + k * 2 ^ 192)

theorem wit_ox : (List.range 3).all (fun mode => ((unitAt 100 (oxDesc mode 1 1 1 1)).readyOx 100 mode).any (fun d =>
      (fmtOfByte (oxCmd d).fmtA).any (fun fa => (fmtOfByte (oxCmd d).fmtB).any (fun fb =>
        (unitAt 100 d).oxNeeds 100 (oxCmd d) fa fb 0 == (0, 0) && (oxCmd d).last)))) = true ∧
    ((unitAt 100 (oxDesc 0 0 128 128 128)).readyOx 100 0).any (fun d => !(oxCmd d).last &&
      decide (256 * (oxCmd d).accAddr + 256 + 65536 * (oxCmd d).tiles 128 128 ≤ 0x400000)) = true ∧
    (unitAt 100 0).token (2 * 100) = .atOx ∧ (unitAt 100 0).unit.tiles = [] ∧
    (let d := oxDesc 0 1 1 1 1 + 2 ^ 141
     let s := unitAt 100 d
     (s.readyOx 100 0).isSome && (fmtOfByte (oxCmd d).fmtA).any (fun fa => (fmtOfByte (oxCmd d).fmtB).any (fun fb =>
       decide ((s.queue (2 * 100)).fed.length < (s.oxNeeds 100 (oxCmd d) fa fb 0).1)))) = true := by decide +kernel

/-- `up` with a token of bank 0 of Ox 0, and a tile of that Ox that waits for it. -/
def tokens (k : Token) : State :=
  { up with unit.tokens := [(0, k)], unit.tiles := [{ ox := 0, bank := 0, tag := 3, desc := 0, rep := 0, words := List.replicate 16384 0 }] }

/-- `up` in which a command of Goat 0 waits for the token of bank 0 with tag 3. -/
def parkedAt (u : Nat) (banks : List (Nat × Bool × Nat)) : State :=
  { tokens (.toGoat 3) with unit.streams := [(u, { Stream.idle with flight := [
    { desc := 64, unit := 2, op := 0, rep := 0, beat := 0, cycles := 0, code := 0, capped := false, status := 0, statBits := 0, statKey := none,
      bumps := [], sigId := noCtr, sigInc := 0, outs := [], planCyc := 10, slackCyc := 0, slipped := false, gated := false,
      work := some { desc := 0, count := 0, code := 0, step := 0, vals := [], banks := banks, due := [] }, solo := false, nonfin := none,
      tap := none, release := [] }] })] }

theorem wit_parked : ((parkedAt 120 [(0, false, 3)]).parked 120).any (fun w => w.code == 0 && w.banks.all (fun y =>
      (if y.1 = 0 then some 3 else heldTag ((parkedAt 120 [(0, false, 3)]).bankToken y.1)) == some y.2.2)) = true ∧
    (parkedAt 120 []).flt.pendingEntry = false ∧ (tokens (.toGoat 3)).parked 120 = none ∧ (tokens .toOx).parked 0 = none := by decide +kernel

theorem wit_tokens : (tokens (.toGoat 3)).token 0 = .toGoat 3 ∧ (tokens .toOx).token 0 = .toOx ∧
    ((tokens .toOx).unit.tiles.find? (fun y => y.ox == 0)).any (fun y => y.bank == 0) = true ∧
    (tokens .toOx).unit.tiles.find? (fun y => y.ox == 1) = none := by decide +kernel

theorem wit_goat : [(Instr.copy 0, 0x00), (Instr.fma 0, 0x04), (Instr.reduceMax 0, 0x0F)].all (fun io => ((unitAt 120 (desc 2 0 io.2)).readyGoat 0 2 io.2).any (fun d =>
      let s := unitAt 120 d
      s.heldAll 0 (s.goatIns 0 (goatCmd d)) && s.outReady 0 (s.pat 0 (goatCmd d).patO))) = true ∧
    (let s := unitMem 120 (desc 2 0 (2 ^ 32)) [(spaceKey (goatSpace 0) 64, 1, 1)]
     (s.readyGoat 0 2 0).any (fun d => !s.heldAll 0 (s.goatIns 0 (goatCmd d)))) = true := by decide +kernel

/-- The pattern of `n` consecutive FP32 elements in the scratchpad at `a`, its absence field at `x`. -/
def strip (a x n : Nat) : Nat := a * 2 ^ 32 + x * 2 ^ 128 + n * 2 ^ 176 + 2 ^ 192 + 2 ^ 208 + 2 ^ 224 + 2 ^ 240

/-- Inputs by pattern 1, output by pattern 2, of `n` elements. -/
def goatMem (op n : Nat) : State :=
  unitMem 120 (desc 2 0 (op + 2 ^ 32 + 2 ^ 48 + 2 ^ 64 + 2 * 2 ^ 80))
    [(spaceKey (goatSpace 0) 64, 64, strip 0x20000 0 n), (spaceKey (goatSpace 0) 128, 64, strip 4096 0x100000 n)]

theorem wit_elementwise : [(Instr.mul 0, 0x03), (Instr.fnMul 0, 0x0B)].all (fun io => decide (0x0E ≤ io.2) || (
    let s := { goatMem io.2 16384 with unit.tableValid := [(0, true)] }
    (s.readyGoat 0 2 io.2).any (fun d =>
      let c := goatCmd d
      let out := s.pat 0 c.patO
      s.heldAll 0 (s.goatIns 0 c) && !s.wrongTag 0 (s.goatIns 0 c) && !(usesTable c.op && !s.tableOk 0 c.slot) &&
        out.kind == 0 && decide (fmtOfByte out.fmt = some fmtF32) && out.n == [16384, 1, 1, 1] && out.st.headD 0 == 1 && out.gridTc == 0 &&
        decide (out.addr % 2 ^ 21 + 4 * 16384 ≤ out.aux % 2 ^ 21) && decide (out.aux % 2 ^ 21 + 16 ≤ 2 ^ 21) && !c.compress && !c.tap &&
        !c.drop && ((s.goatIns 0 c).map Pat.total).headD 0 == 16384))) = true := by decide +kernel

theorem wit_row : [(Instr.lnFwd 0, 0x01), (Instr.ceBwd 0, 0x15)].all (fun io => ((unitAt 120 (desc 3 0 io.2)).readyGoat 0 3 io.2).any (fun d =>
      let s := unitAt 120 d
      s.heldAll 0 (s.rowIns 0 (rowCmd d)) && s.outReady 0 (s.pat 0 (rowCmd d).patO) && !s.wrongTag 0 (s.rowIns 0 (rowCmd d)))) = true ∧
    ((unitAt 120 (desc 3 0 (1 + 2 ^ 9))).readyGoat 0 3 1).any (fun d => (rowCmd d).statsW) = true ∧
    (rowCmd (desc 3 0 1)).slots.any (fun k => !(unitAt 120 0).tableOk 0 k) = true := by decide +kernel

theorem wit_side : ((unitAt 120 (desc 3 0 (0x20 + 0xFFFF * 2 ^ 176 + 2 ^ 336))).readyGoat 0 3 0x20).any (fun d =>
      (rowCmd d).count == 1 && ((unitAt 120 d).sideRun 0 (rowCmd d)).all (fun e => e.key == (rowCmd d).stashId)) = true ∧
    ((unitAt 120 (desc 3 0 (0x20 + 2 ^ 176 + 2 ^ 336))).readyGoat 0 3 0x20).any (fun d =>
      !((unitAt 120 d).sideRun 0 (rowCmd d)).all (fun e => e.key == (rowCmd d).stashId)) = true ∧
    ((unitAt 120 (desc 3 0 0x21)).readyGoat 0 3 0x21).isSome = true ∧ ((unitAt 120 (desc 2 0 0x10)).readyGoat 0 2 0x10).isSome = true := by
  decide +kernel

/-- A RELOAD of one entry from a block whose header is `h`. -/
def reloadMem (h : Nat) : State :=
  unitMem 120 (desc 3 0 (0x21 + 2 ^ 32 + 7 * 2 ^ 176 + 2 ^ 336))
    [(spaceKey (goatSpace 0) 64, 64, strip 0x20000 0 18), (spaceKey (goatSpace 0) 0x20000, 4, h)]

theorem wit_reload : ((reloadMem (7 + 2 ^ 16)).readyGoat 0 3 0x21).any (fun d =>
      let h := (((reloadMem (7 + 2 ^ 16)).readPat 0 ((reloadMem (7 + 2 ^ 16)).pat 0 (rowCmd d).patX)).headD 0).toNat
      bits h 0 16 == (rowCmd d).stashId && bits h 16 16 == (rowCmd d).count) = true := by decide +kernel

theorem wit_updates : [(Instr.uStats 0, 0x01), (Instr.uApply 0, 0x04)].all (fun io => ((unitAt 120 (desc 4 0 io.2)).readyGoat 0 4 io.2).any (fun d =>
      let s := unitAt 120 d
      let c := updCmd d
      s.heldAll 0 ((c.inPats (s.coef 0 c.group)).map (s.pat 0)) && (c.outPats (s.coef 0 c.group)).all (fun o => s.outReady 0 (s.pat 0 o.1)) &&
        decide (s.shortWait d = none) && !s.flt.pendingEntry && s.plan.decision == 0)) = true ∧
    (let s := { unitAt 120 (4 + 0x04 * 2 ^ 128 + 5 * 2 ^ 8 + noCtr * 2 ^ 55 + noCtr * 2 ^ 102) with
       plan.decision := 1, plan.ctrs := [(5, { Ctr.zero with shortfall := 1 })] }
     (s.readyGoat 0 4 0x04).any (fun d => (s.shortWait d).isSome)) = true := by decide +kernel

theorem wit_hens : [0x01, 0x02, 0x03, 0x04].all (fun op => ((unitAt 180 (desc 5 0 op)).readyExec 180 5 op).any (fun d =>
      (fmtOfByte (henCmd d).fmtA).isSome && (fmtOfByte (henCmd d).fmtB).isSome && ((unitAt 180 d).henBound 0 (henCmd d) 1 (henCmd d).count).1 == 0)) = true ∧
    ((unitAt 180 (desc 5 0 (0x01 + 128 * 2 ^ 128 + 2 ^ 144))).readyExec 180 5 0x01).any (fun d =>
      !(henCmd d).mesh && !(henCmd d).tHbm && (henCmd d).w == 128 && (henCmd d).count == 1 && ((unitAt 180 d).henBound 0 (henCmd d) 1 1).1 == 1 &&
        decide (256 * (henCmd d).out + 65536 ≤ 0x400000)) = true := by decide +kernel

theorem wit_expert : [0x10, 0x11, 0x12, 0x13, 0x14, 0x15, 0x16].all (fun op => ((unitAt 180 (desc 5 0 op)).readyExec 180 5 op).any (fun d =>
      (fmtOfByte (expCmd d).fmt).isSome)) = true ∧ (unitAt 180 0).accepts 0 0 0 = true ∧
    ({ unitAt 180 0 with unit.gates := [(0, 1), (1, 1)] }).accepts 0 0 0 = false ∧ ({ unitAt 180 0 with unit.gates := [(0, 1), (1, 1)] }).accepts 0 1 0 = false ∧
    wellFormed (.dispatchRecordRx { src := 0, data := List.replicate 64 0 }) = true ∧ wellFormed (.answerRx { src := 0, data := List.replicate 16 0 }) = true ∧
    ({ router := 255, src := 0, epoch := 0, counts := [] } : EndMarker).ok = true := by decide +kernel

/-- A Mule command: MOP, SRC and DST locations, N0 bytes. -/
def muleDesc (mop src dst n : Nat) : Nat := desc 6 0 (mop + src * 2 ^ 32 + dst * 2 ^ 96 + n * 2 ^ 160)

theorem wit_mule : ((unitAt 210 (muleDesc 1 (2 ^ 56) (2 ^ 56 + 4096) 64)).readyMule 0 1).any (fun d =>
      let c := ((unitAt 210 d).muleBound 0 (muleCmd d)).1
      c.xform == 0 && !tooLarge (c.ins fmtF32) (c.outs fmtF32) && decide (queueOfKey (locOfWord c.dst) = none) &&
        decide (2 ^ 48 ≤ locOfWord c.src) && decide (2 ^ 48 ≤ locOfWord c.dst) && !(unitAt 210 d).spaceFenced (locOfWord c.dst / 2 ^ 48)) = true ∧
    ((unitAt 210 (muleDesc 2 0 0 0)).readyMule 0 2).isSome = true ∧ ((unitAt 210 (muleDesc 3 0 0 0)).readyMule 0 3).isSome = true := by decide +kernel

theorem wit_pages : let s : State := { up with pte := [(8, { Pte.idle with wp := true })], heldWrites := [{ req := 210, page := 8, offset := 0, data := [1] }] }
    (s.pteOf 8).valid = true ∧ (s.pteOf 8).wp = true ∧ (s.pteOf 8).ro = false ∧ s.heldWrites.any (fun h => h.page == 8) = true ∧
      s.heldWrites.any (fun h => h.page == 9) = false ∧ 5 ≤ s.dev.stepDone ∧ Tab.get 0 ({ s with lineErr := [(3, 2)] }).lineErr 3 = 2 := by
  decide +kernel

theorem wit_streams : ((unitAt 100 (desc 0 1 0)).ready 100 1).isSome = true ∧ ((unitAt 100 (desc 0 1 1)).ready 100 1).isSome = true ∧
    ((unitAt 100 (desc 0 2 0)).ready 100 2).isSome = true ∧ ((unitAt 100 (desc 0 3 (2 ^ 16 + 2 ^ 36))).ready 100 3).isSome = true ∧
    ((unitAt 100 (desc 0 4 0)).ready 100 4).isSome = true ∧ ((unitAt 100 (desc 0 4 0)).afterSwitch 0 100 0) = some 1 ∧
    ((unitAt 100 (desc 0 4 0)).afterSwitch 0 100 1) = none := by decide +kernel

theorem wit_complete : (flying 100 [flight 1 (some (oxKey 100 0))]).drained 100 (flight 1 none) = true ∧
    ((flying 100 [flight 1 (some (oxKey 100 0))]).stream 100).flight = [flight 1 (some (oxKey 100 0))] ∧
    ({ flying 100 [flight 1 none] with unit.tiles := [{ ox := 100, bank := 0, tag := 0, desc := 64, rep := 0, words := [] }] }).drained 100 (flight 1 none) = false ∧
    (flight 1 none).planCyc + (flight 1 none).slackCyc < 11 := by decide +kernel

theorem wit_done : ({ stall := 0, outStall := 0, both := 0, token := 0, ack := 0 } : Waits).ok 100 = true ∧
    (let s := flying 100 [flight 1 (some (oxKey 100 0))]
     (flight 1 none).work.isNone && !s.outStalled 100 && !s.writesHeld 100 (flight 1 none) && !s.flt.pendingEntry) = true ∧
    ({ flying 100 [] with unit.queues := [(0, { FeedQueue.empty with unsent := [[0]] })] }).outStalled 0 = true ∧
    ({ up with heldWrites := [{ req := requesterOf 210, page := 8, offset := 0, data := [1] }] }).writesHeld 210
      { flight 6 none with outs := [(2 ^ 24, 4)] } = true := by decide +kernel

theorem wit_destReady : (unitAt 210 0).destReady (muleDesc 1 0 (2 ^ 56) 64) = true ∧
    ({ unitAt 210 0 with unit.queues := [(0, { FeedQueue.empty with credits := 0 })] }).destReady (muleDesc 1 0 (2 ^ 56 + 0x400000) 64) = false := by decide +kernel

theorem wit_finish : (let s := { unitMem 100 0 [(8, 4, 1)] with unit.streams := [(100, { Stream.idle with rep := 1, closed := true })] }
     decide (s.repeats = 1) && s.plan.started && s.allEnded) = true := by decide +kernel

theorem wit_signals : up.ctrAtHole 0 = false ∧ ({ plan [] with plan.ctrShared := false, plan.ctrs := [(0, { Ctr.zero with rep := 1 })] }).ctrRunning 0 = false ∧
    (Tab.get Ctr.zero [(0, { Ctr.zero with rep := 1 })] 0).rep ≠ 0 % 2 ^ 16 := by decide +kernel

/-! ## Numbers, time, power and temperature -/

theorem wit_numbers : [Val.inf true, Val.fin false 1 1 0].Perm [Val.fin false 1 1 0, Val.inf true] ∧ isNan32 (fadd (pinf32) (ninf32)) = true ∧
    Val.nan ∉ [Val.inf false] ∧ Val.inf true ∉ [Val.inf false] ∧ 0 < 3 ∧ 7 < 2 ^ Elem.bits .e4m3 ∧ decodeElem .e4m3 7 ≠ .nan ∧
    Elem.isInt .e2m1 = false ∧ Elem.maxMag .e2m1 < roundMag .e2m1 .sr 0 100 1 0 ∧ Elem.maxMag .e2m1 < roundMag .e2m1 .rne 0 100 1 0 := by decide +kernel

/-- A SYNC of (GEN 1, Rooster 0) from module 0 at beat `b`. -/
def sync (gen b : Nat) : TimeMsg :=
  { srcId := 0, roosterId := 0, depth := 0, gen := gen, tBeat := b, tFrac := 0, rxDelta := 0, wallB0 := 0, wallW0 := 0 }

/-- Module 1, east of module 0, in time state `n`. -/
def east (n : Nat) : State := { up with fab.modId := 1, fab.identity := 1, time.state := n }

theorem wit_sync : (sync 1 1000000).ok = true ∧ (east 0).parentPort 0 = 1 ∧ (east 0).portUp 1 = true ∧ (east 0).time.role ≠ 0 ∧
    (east 0).dev.state.mayStep = true ∧ ((east 2).offsetNs 1 (sync 1 1000000) 0).natAbs ≤ 256000 ∧
    256000 < ((east 2).offsetNs 1 (sync 1 0) 0).natAbs ∧ (east 0).parentPort 0 ≠ 0 ∧ (east 0).time.counting = true ∧
    ({ east 1 with time.accepted := true, time.pairGen := 2 }).time.pairGen > (sync 1 0).gen := by decide +kernel

theorem wit_syncSend : 1000000 % 64 = 0 ∧ ({ up with time.role := 0 }).time.sent ≠ 1000000 ∧ ({ up with time.accepted := true, time.lastSync := 5 }).time.sent ≠ 5 ∧
    ({ up with time.role := 0 }).time.gen < (sync 1 0).gen ∧ ¬ ((sync 0 0).roosterId < up.ownId) := by decide +kernel

theorem wit_syncDue : ({ east 1 with time.syncDue := true }).time.syncDue = true ∧ (east 1).time.syncDue = false ∧ (east 1).time.role ≠ 0 ∧
    redirected.fab.redirect = some 6 ∧ redirected.portUp 6 = true ∧ up.fab.redirect = none := by decide +kernel

theorem wit_delay : 1000000 % 65536 ≠ 0 ∧ 983040 % 65536 = 0 ∧ Tab.get 0 ({ up with time.delaySent := [(1, 65536 * 999999 + 1)] }).time.delaySent 1 ≠ 0 ∧
    up.fab.traceNs < (65536 * 1000000 - (65536 * 999999) - 0) * 1000 / 131072 := by decide +kernel

theorem wit_holdover : (east 1).time.lastSync + 256 ≤ (east 1).time.beat ∧ (east 2).time.role ≠ 0 ∧
    ({ east 2 with time.beat := 10000000 }).time.holdoverBeat + 10000000 ≤ ({ east 2 with time.beat := 10000000 }).time.beat ∧
    (east 3).time.state = 3 ∧ ({ east 1 with time.role := 1 }).time.lastSync + 512 ≤ (east 1).time.beat ∧
    ({ up with time.nextSet := true, time.nextB0 := 1000000 }).time.nextB0 ≤ up.time.beat := by decide +kernel

theorem wit_power1 : wellFormed (.powerSample { watts := 65535, vIn := 4599, iIn := 0, coreW := 0, coreE := 0 }) = true ∧ up.dev.state ≠ .cold ∧
    ({ up with pwr.msCount := 1, pwr.msSum := 2001 }).pwr.msCount ≠ 0 ∧ ({ up with dev.sbCap := 400 }).dev.sbCap ≠ up.dev.sbCapForce := by decide +kernel

theorem wit_limit : up.limitAction = 0 ∧ up.dev.state.fromIdle = true ∧
    ({ up with pwr.limit := 400, pwr.inForce := 400, pwr.history := List.replicate 1000 500 }).limitAction = 1 ∧
    ({ up with pwr.west.limitStep := 1 }).limitAction = 2 ∧
    ({ up with pwr.budget := 0, pwr.p1ms := 2001 }).limitAction = 3 ∧ ({ up with pwr.west.peakStep := 1 }).limitAction = 4 := by decide +kernel

theorem wit_clamp : ({ up with pwr.tj := 110 }).clampCauseNow = true ∧ up.clampCauseNow = false ∧
    ({ up.pwr.west with clamp := true }).clampBeat + 1000 ≤ up.time.beat := by decide +kernel

theorem wit_thermal : ({ up with dev.sbAlertTj := true, pwr.thermBeat := 999999 }).dev.sbAlertTj = true ∧ 1000000 < 999999 + 100000 ∧
    up.pwr.coolSince + 1000000 ≤ up.time.beat ∧ 0 < ({ up.pwr.west with thermStep := 1 }).thermStep ∧ up.ringsBounded ∧
    ((up.pwr.tStack.set 0 90).all (fun x => decide (x ≤ 90))) = true := by unfold State.ringsBounded; decide +kernel

/-- A gear notice of module 5 with 2 hops left. -/
def notice (raise : Bool) : GearNotice := { srcId := 5, half := 1, gear := 3, left := 2, raise := raise, effective := 1000064 }

/-- Its entry. -/
def peer (e : Nat) : PeerEntry := { src := 5, half := 1, gear := 3, effective := e, received := 0, inForce := false, heldW := 0, heldE := 0 }

theorem wit_notices : (notice true).ok = true ∧ (notice false).ok = true ∧
    ({ up with pwr.peers := [peer 1000000] }).pwr.peers.find? (fun e => !e.inForce && decide (e.effective ≤ 1000000)) = some (peer 1000000) ∧
    ({ up with pwr.peers := [peer 1000000] }).pwr.peers.find? (fun e => decide (e.received + 1000000 ≤ 1000000)) = some (peer 1000000) ∧
    0 < ({ up with pwr.west.limitStep := 1, pwr.west.gear := 1 }).ownStep 0 ∧ up.pwr.renewBeat + 250000 ≤ up.time.beat := by decide +kernel

theorem wit_gears : ((entryDue 0x07 0x04 noCtr).nextGearEntry.any (fun x => bit x.2.2.arg 2 && !bit x.2.2.arg 3 &&
      decide (x.2.1 ≤ 1000000 + 64))) = true ∧
    bits 0x04 0 2 < (HalfPower.reset.railGear + 1) ∧
    (let s : State := { up with pwr.west.gear := 3, pwr.west.railGear := 3, pwr.west.raising := true, pwr.west.raiseTo := 0, pwr.west.raiseFrom := 0 }
     decide (s.wantGear 0 < (s.half 0).gear) && s.railAt 0 (s.wantGear 0)) = true := by decide +kernel

theorem wit_ramp : (let s := plan [(0x60, 8, 8192), (8192, 4, 1)]
    s.planRuns && decide (0 < s.planNat (s.secOff 2) 4) && decide (s.repStart s.plan.startRep ≤ s.time.beat)) = true := by decide +kernel

/-! ## Start-up, reset, faults -/

theorem wit_powerOn : State.reset.dev.state = .cold ∧ State.reset.dev.pwrEn = false ∧
    ({ State.reset with dev.reassertWait := true, dev.pwrEn := true, dev.v56 := true }).dev.reassertWait = true ∧ up.dev.pwrEn = true ∧ up.dev.v56 = true ∧
    wellFormed (.trip 1 0) = true ∧ ({ up with pwr.tj := 125 }).tripPresent 1 0 = true ∧ ({ up with pwr.highVin := 10 }).tripPresent 6 0 = true ∧
    up.dev.extest = false ∧ up.dev.warmStep = 0 ∧ up.dev.boardRef = true := by decide +kernel

theorem wit_start : (List.range 9).all (fun n => decide (({ upIn .booting with dev.stepDone := n }).dev.stepDone + 1 ≤ 9)) = true ∧
    (upIn .booting).dev.fail = false ∧ stepBound 1 < 2 ^ 32 - 1 ∧ ¬ stepBound 1 < stepBound 1 ∧
    ({ upIn .booting with dev.warmStep := 7, dev.stepDone := 4 }).dev.stepDone = 4 := by decide +kernel

theorem wit_fault : (let s : State := { upIn .running with flt.pendingEntry := true, flt.cause := 6, flt.scope := 1, ck.state := 1 }
    s.flt.pendingEntry && decide (s.flt.cause ≠ 0) && s.dev.state.fromIdle) = true ∧
    ({ src := 1, cause := 6, detail := 0, beat := 5 } : FaultNotice).ok = true ∧ up.flt.seen.contains (1, 5) = false ∧
    ({ up with flt.seen := [(1, 5)] }).flt.seen.contains (1, 5) = true := by decide +kernel

theorem wit_fences : bit (1 : Word).toNat 0 = true ∧ bit (0 : Word).toNat 0 = false ∧ Tab.get false up.geo.fence 5 = false ∧
    Tab.get false ({ up with geo.fence := [(5, true)] }).geo.fence 5 = true ∧ Tab.get 1 up.geo.site 5 ≠ 3 ∧ Tab.get 1 up.geo.site 5 ≠ 4 ∧
    Tab.get 1 ({ up with geo.site := [(5, 0)] }).geo.site 5 = 0 ∧ mapped.logicalAt 5 = some 0 := by decide +kernel

theorem wit_watchdog : up.dev.fwRunning = true ∧ up.flt.down.contains 0 = false ∧ Tab.get 0 up.flt.restartBeat 0 + 4000 ≤ up.time.beat ∧
    ({ up with flt.moving := [(0, 3)] }).flt.moving.filter (fun m => decide (up.flt.holder.getD m.1 m.1 = 0)) = [(0, 3)] ∧ up.flt.holder.length = 8 := by
  decide +kernel

theorem wit_moves : up.flt.down = [] ∧ ({ up with flt.moving := [(0, 3)] }).flt.moving.filter (fun m => decide (m.2 = 3)) = [(0, 3)] ∧
    ({ up with flt.down := [0] }).standbyFor 0 = some 3 ∧ ({ up with flt.down := [0, 3, 7] }).standbyFor 0 = none ∧
    ({ up with flt.down := [3] }).rolesOf 3 = [] ∧ (mapped.stream 0).flight = [] ∧ mapped.logicalAt 5 = some 0 := by decide +kernel

theorem wit_responder : (0x48414C54 : Nat) < 2 ^ 32 ∧ (0x52534554 : Nat) < 2 ^ 32 ∧ up.host.steward = 0 ∧ (upIn .booting).dev.state ≠ .cold ∧
    up.dev.state ≠ .booting ∧ up.dev.state ≠ .faulted := by decide +kernel

theorem wit_log : ({ up with trust.durableWait := [[1]] }).trust.durableWait ≠ [] ∧ (up.log (1, 0) 0x0010 0 0 0).trust.details ≠ [] ∧
    up.dev.state = .idle ∧ up.dev.stepDone = 9 ∧ up.dev.vaux = true ∧ wellFormed (.i3cCcc (.entdaa 127)) = true ∧
    400 ≤ leNat ([0x90, 1] : List Byte) ∧ leNat ([0x8F, 1] : List Byte) < 400 ∧ leNat ([0x54, 0x4C, 0x41, 0x48] : List Byte) = 0x48414C54 ∧
    (let s : State := { up with trust.images := [(0, { length := 64, bytes := natLe 64 (2 ^ 192) })] }
     imageHdr (s.slotImage s.dev.fwSlot) 192 1 == 1) = true := by decide +kernel

/-! ## The timetable, acts and residency -/

theorem wit_period : (let s := { plan [] with plan.started := false }
    s.planRuns && decide (s.repeats = 0) && decide (s.repStart s.plan.nextRep ≤ s.time.beat)) = true ∧
    ({ plan [] with plan.ctrShared := true }).ctrAtHole 0 = false := by decide +kernel

theorem wit_kinds : [0x01, 0x02, 0x03, 0x04, 0x05, 0x06, 0x07, 0x08, 0x09, 0x0A].all (fun k => ((entryDue k 0 0).dueKind k).any (fun x => !x.2.sig)) = true := by
  decide +kernel

theorem wit_deadline : ((entryDue 0x01 0 0).dueKind 0x01).any (fun x => reached ((entryDue 0x01 0 0).ctr x.2.ctr).value ((entryDue 0x01 0 0).effTarget x.2.ctr x.2.target 0)) = true ∧
    (let s := plan [(12, 4, 1), (16, 16, 2 ^ 48 + 5 * 2 ^ 80)]
     (s.dueKind 0x01).any (fun x => !reached (s.ctr x.2.ctr).value (s.effTarget x.2.ctr x.2.target s.plan.repNow))) = true := by decide +kernel

theorem wit_cut : (entryDue 0x02 0 noCtr).writable (entryDue 0x02 0 noCtr).trlAddr 64 ∧ (entryDue 0x02 0 noCtr).lineErr = [] := by
  unfold State.writable; decide +kernel

theorem wit_commit : ({ entryDue 0x03 0 noCtr with plan.trailer := some 0 }).dueKind 0x03 ≠ none ∧ ({ entryDue 0x03 0 noCtr with plan.trailer := some 4 }).plan.trailer = some 4 ∧
    (entryDue 0x03 0 noCtr).plan.trailer = none := by decide +kernel

theorem wit_trailer : (let s := { plan [(51, 2, 7)] with plan.ctrs := [(7, { Ctr.zero with value := 1 })] }
    s.collects && decide (s.rtrCtr = 7) && decide ((s.ctr 7).value ≠ s.plan.rtrSeen) && decide (trStep (s.read s.rtrAddr 64) = s.plan.step % 2 ^ 16)) = true := by
  decide +kernel

theorem wit_close : ({ entryDue 0x04 0 noCtr with plan.updateClose := some 5, plan.decision := 3 }).dueKind 0x04 ≠ none ∧
    ({ entryDue 0x06 0 noCtr with unit.paging := [{ router := 0, startRep := 0, startIdx := 0, started := false, adopted := false, map := [], decided := [], swaps := [] }] }).dueKind 0x06 ≠ none := by
  decide +kernel

theorem wit_actEnd : (let s := withCmd { entryDue 0x09 0 noCtr with acts.act := 4, acts.evalBox := some (0, 0) } (cmd 0x27 []) [entry]
    decide (s.dueKind 0x09 ≠ none) && decide (s.head 0 0 ≠ none) && !(s.box 0 0).resetting) = true := by decide +kernel

/-- A plan whose action block, at 8,192, names counters 3 to 6, with the triggers at 1. -/
def acts : State :=
  { plan [(0xD0, 8, 8192), (8192, 512, 3 * 2 ^ 384 + 4 * 2 ^ 400 + 5 * 2 ^ 416 + 6 * 2 ^ 432)] with
    plan.ctrs := [(3, { Ctr.zero with value := 1 }), (5, { Ctr.zero with value := 1 })] }

theorem wit_boundary : acts.planRuns = true ∧ acts.smReached 384 acts.acts.genTarget = true ∧ acts.smReached 416 acts.acts.batTarget = true ∧
    acts.acb 400 15 ≠ noCtr ∧ acts.ctrAtHole 4 = false ∧ ({ acts with acts.act := 2 }).batchRing ≠ none ∧ acts.batchRing = none := by decide +kernel

theorem wit_slots : (let x : Slot := { Slot.empty with state := 2, plen := 1, lastFed := some 0 }
    decide (x.plen ≤ 0 + 1) && decide (x.blocks.length ≤ x.fed / 16) && decide (x.state = 2)) = true ∧
    ({ Slot.empty with plen := 2, lastFed := some 0 }).plen > 0 + 1 ∧ ({ plan [(0, 1, 0)] with acts.act := 1 }).rollFull = true ∧
    (plan [(0xD0, 8, 8192), (8192, 24, 256 * 2 ^ 40), (65536, 8, 4 + 64 * 2 ^ 32)]).rollFull = false := by decide +kernel

/-- A page move of router 0 due from the first repetition. -/
def paging (started : Bool) : Paging :=
  { router := 0, startRep := 0, startIdx := 0, started := started, adopted := false, map := [], decided := [], swaps := [{ member := 0, slot := 0, out := 1, inn := 2 }] }

theorem wit_paging : ({ plan [] with plan.next := 1 }).collects = true ∧ ({ plan [] with plan.next := 1 }).plan.updateClose = none ∧
    [paging false].find? (fun x => !x.started && (decide (x.startRep < 0) || (decide (x.startRep = 0) && decide (x.startIdx < 1)))) = some (paging false) ∧
    [paging true].find? (fun p => p.started && !p.swaps.isEmpty) = some (paging true) ∧
    wellFormed (.residencyMapRx 0 0 (List.replicate 48 0) []) = true ∧ [paging true].find? (fun x => decide (x.router = 0) && !x.adopted) = some (paging true) := by
  decide +kernel

/-- A router's record of one page an expert, and the swap of that move at a state whose line `l` of HBM has an uncorrectable error. -/
def pager (l : List (Nat × Nat)) : State := { plan [] with unit.paging := [paging true], lineErr := l }

theorem wit_moveEnds : let x : Swap := { member := 0, slot := 0, out := 1, inn := 2 }
    let r : Router := {
      e := 8, k := 2, depth := 1, renorm := 2, g := 1, s := 2, quota := 2, tMax := 0, qRes := 0, maxSwaps := 0, hyst := 0, imgPages := 1,
      hostFrom := 8, coldDim := 0, hostBase := 0, coldOff := 0, slotBase := 0, groupTab := 0, mapAddr := 0, usageWin := 0, recv := [], answ := [] }
    (pager []).collects = true ∧ ((pager []).swapReads r x).any (pager []).pageUe = false ∧
    ((pager [(5, 2)]).swapReads r x).any (pager [(5, 2)]).pageUe = true ∧
    ((pager []).swapPlaces r x).any (pager []).cutOff = false ∧ (pager []).cutOff (.ring 0x2000 0) = true := by decide +kernel

theorem wit_expertLands : up.inLink 1 < 16 ∧ up.inLink 0 = loopback ∧
    (let s : State := {
       up with
       heldWrites := [{ req := 0, page := 8, offset := 0, data := [1] }]
       fab.unacked := [unacked], pte := [(8, { Pte.idle with wp := true })] }
     s.heldWrites.all (fun h => h.page == 8) && decide (s.fab.unacked = [unacked]) && (s.pteOf 8).wp) = true := by decide +kernel

theorem wit_digest : sha384 (paging true).map = sha384 [] := rfl

/-! ## Single steps with the values the spec gives -/

/-- The next state of an outcome, or `up`. -/
def nextOf (o : Host.Outcome State Fault Refusal) : State := match o with | .next t => t | _ => up

/-- 03 Table 03-1: E4M3 code 0x38 is 1 (8 · 2⁻³), its largest finite value 448 (14 · 2⁵); a value above 464 overflows to NaN. -/
theorem test_e4m3 : decodeElem .e4m3 0x38 = .fin false 8 1 (-3) ∧ decodeElem .e4m3 0x7E = .fin false 14 1 5 ∧
    (convPlain .e4m3 .rne false 0 (.fin false 464 1 0)).1 = 0x7E ∧ (convPlain .e4m3 .rne false 0 (.fin false 465 1 0)).1 = 0x7F := by
  decide +kernel

/-- 05 R114: FP32 1 + 1 is 2 and 2^127 + 2^127 overflows to infinity. -/
theorem test_fadd : fadd 0x3F800000 0x3F800000 = 0x40000000 ∧ fadd 0x7F000000 0x7F000000 = 0x7F800000 := by decide +kernel

/-- 05 Table 05-2: MUL of two strips of one element gives their product. -/
theorem test_mul :
    (let s := { goatMem 0x03 1 with mem := Tab.put 0 (goatMem 0x03 1).mem (spaceKey (goatSpace 0) 0x20000) (natLe 4 0x40400000) }
     (nextOf (exec (.mul 0) s)).natAt (spaceKey (goatSpace 0) 4096) 4) = 0x41100000 := by decide +kernel

/-- 18 R449: the record shown is consumed by its SEQ; 18 R448: the next one then takes its place with GEN one higher. -/
theorem test_records : ((nextOf (exec (.consumedWrite 0 0 3) (recorded false false))).box 0 0).consumed = true ∧
    ((nextOf (exec (.recordPost 0 0) (recorded false true))).box 0 0).shown.any (fun r => r.seq == 4) = true ∧
    ((nextOf (exec (.recordPost 0 0) (recorded false true))).box 0 0).posted = 1 := by decide +kernel

/-- 19 R479: POWER_LIMIT takes 400 W and refuses 399 W with BAD_ARG (3). -/
theorem test_powerLimit : (nextOf (exec (.powerLimit 0 0) (run up 0x60 (body [(0, 2, 400)])))).pwr.inForce = 400 ∧
    ((nextOf (exec (.powerLimit 0 0) (run up 0x60 (body [(0, 2, 399)])))).box 0 0).records.any (fun r => r.status == 3) = true := by decide +kernel

/-- 19 R461: HALT takes the part to HALTED. -/
theorem test_halt : (nextOf (exec (.halt 0 0) (reads up 0x80 []))).dev.state = .halted := by decide +kernel

/-- 11 R276, Table 11-5: a MARK entry that fires signals its counter and the next entry follows. -/
theorem test_mark : (nextOf (exec .mark (plan [(12, 4, 1), (16, 16, 10 * 2 ^ 48 + 5 * 2 ^ 64 + 2 ^ 79)]))).plan.next = 1 := by decide +kernel

/-- 11 R277: a deadline that falls short by 2 raises its counter to the target and notes the shortfall. -/
theorem test_deadline : (nextOf (exec .deadline (plan [(12, 4, 1), (16, 16, 2 ^ 48 + 5 * 2 ^ 64 + 2 * 2 ^ 80)]))).ctr 5 =
    { value := 2, rep := 0, shortfall := 2, late := true } := by decide +kernel

/-- 12 R297: a signal covers a shortfall before it counts. -/
theorem test_signal : (nextOf (exec (.counterSignal 5 3 none) { plan [] with plan.ctrs := [(5, { Ctr.zero with shortfall := 2 })] })).ctr 5 =
    { value := 1, rep := 0, shortfall := 0, late := false } := by decide +kernel

/-- 15 R369: a good flit is counted; one whose FEC fails starts the discarding and sends a NAK. -/
theorem test_flit : ((nextOf (exec (.flitRx 0 (zeros 0) false) up)).port 0).discarding = true ∧
    (nextOf (exec (.flitRx 0 (zeros 0) false) up)).out = [.nak 0 0] := by decide +kernel

/-- 23 R552, Table 23-8: a cap of 399 W is no write and sets ERR; 400 W is stored. -/
theorem test_cap : (nextOf (exec (.sbCapWrite [0x8F, 1]) up)).dev.sbErr = true ∧ (nextOf (exec (.sbCapWrite [0x90, 1]) up)).dev.sbCap = 400 := by
  decide +kernel

/-! ## The spec's worked examples -/

/-- 02, after R42: a fused hole at (4, 3) and a fused-off core in West yoke site 20 make yoke 8 site 9: Ox 16, Goat 8 and Ox 17 lie at
(7, 3), (8, 3) and (9, 3). -/
theorem test_map :
    let d : Defects := { fused := [64], run := [], cores := ((yokeSites 0).getD 20 []).take 1, fences := [] }
    d.short = false ∧ admissible d.holes 64 = true ∧ (d.logical.getD 16 0, d.logical.getD 128 0, d.logical.getD 17 0) = (67, 68, 69) := by decide +kernel

/-- 03, after R67: a block of scale 2: 5.5 rounds to code 7, −1.3 to code 0xB; under SR 5.5 rounds up when u < 12,582,912. -/
theorem test_fp4 : (convPlain .e2m1 .rne true 0 (.fin false 11 2 0)).1 = 7 ∧ (convPlain .e2m1 .rne true 0 (.fin true 13 10 0)).1 = 0xB ∧
    (convPlain .e2m1 .sr true 12582911 (.fin false 11 2 0)).1 = 7 ∧ (convPlain .e2m1 .sr true 12582912 (.fin false 11 2 0)).1 = 6 := by decide +kernel

/-- 03, after R74: the chunk of seven products with anchor 32. -/
theorem test_chunk : chunkOf 32 [.fin false 1 1 30, .fin false 1 1 0, .fin true 1 1 30, .fin false 1 1 (-25), .fin false 1 1 (-25), .fin false 1 1 (-25),
    .fin false 1 1 (-80)] = 0x3F800001 := by decide +kernel

/-- 04, after R100: 16 passes of 1,024 rows end in cycle 18,703, 32 passes in cycle 37,135. -/
theorem test_oxCycles : (oxCmd 0).cycles 16 1 1 1024 128 4096 = 18703 ∧ (oxCmd 0).cycles 32 1 1 1024 128 4096 = 37135 := by decide +kernel

/-- 06, after R151: the mean of (3, 5, 7, 9) is 6. -/
theorem test_lnFwd : (({ ex := id, lg := id, rs := id, eps := 0, gscale := 0, affine := false } : RowEnv).stats 0x01
    [0x40400000, 0x40A00000, 0x40E00000, 0x41100000]) = (0x40C00000, 0x40A00000) := by decide +kernel

/-- 07, after R171: the counter of the draw of element 1,000,003. -/
theorem test_counter : genCounter 200000 2 17 41230 0xA517 = 0x00A517000000A10E0011000200030D40 := by decide +kernel

/-- 07, after R176: spread 10 moves the entry from E4M3 to E5M2. -/
theorem test_choose : chooseCode [0x3C800000, 1000000, 40000, 0, 500, 300, 900, 57300, 901000, 0, 0, 0, 0, 0, 0, 0] (8 + 24 * 2 ^ 8 + 10 * 2 ^ 16) 0 = 1 := by
  decide +kernel

/-- 08, after R201: one AdamW element at its first committed update. -/
theorem test_adam :
    let e : Coef :=
      { a1 := 0x3F600000, a2 := 0x3E000000, b1 := 0x3F700000, b2 := 0x3D800000, cg := 0, cm := 0x3F800000, eps := 0x35800000, d := 0,
        lam := 0x3D800000, etaMul := 0x3F800000, rows := 1, cols := 1, vMode := 1, clip := 0, bias := true, schedBase := 0, schedLen := 1, rkey := 0 }
    let k : GroupScalars := { p1 := 0x3F600000, p2 := 0x3F700000, k1 := 0x41000000, k2 := 0x41800000, rbar := 0, rms := 0, eta := 0x3A800000 }
    fdiv one32 (fsub one32 0x3F600000) = k.k1 ∧ fdiv one32 (fsub one32 0x3F700000) = k.k2 ∧
      updPre e k 0x3F000000 0 0 0 0 = (0x3D800000, 0x3C800000, 0x3F7FFFE0) ∧ updPost e k.eta 0x3F800000 0x3F7FFFE0 one32 = 0x3F7FBC00 ∧
      (convPlain .bf16 .rne true 0 (ofF32 0x3F7FBC00)).1 = 0x3F80 := by decide +kernel

/-- 08, the same example: the E4M3 block with 1.5 takes scale 0x77 and code 0x78; the m′ block of 0.0625 scale 0x73. -/
theorem test_adamBlock : (convBlock { elem := .e4m3, comp := .block } .rne (fun _ => 0) [ofF32 0x3F7FBC00, ofF32 0x3FC00000]).1 = 0x77 ∧
    ((convBlock { elem := .e4m3, comp := .block } .rne (fun _ => 0) [ofF32 0x3F7FBC00, ofF32 0x3FC00000]).2.headD (0, false)).1 = 0x78 ∧
    convBlock { elem := .e4m3, comp := .block } .rne (fun _ => 0) [ofF32 0x3D800000, ofF32 0x3D800000] = (0x73, [(0x78, false), (0x78, false)]) := by
  decide +kernel

/-- 09, after R217: a BF16 block with three non-zeros takes ten bytes. -/
theorem test_pack : ((packTile .bf16 (fun p => if p = 0 then 0x3F80 else if p = 5 then 0xC000 else if p = 31 then 0x3F00 else 0)).drop 512).take 10 =
    [0x21, 0, 0, 0x80, 0x80, 0x3F, 0, 0xC0, 0, 0x3F] := by decide +kernel

/-- Probabilities 1/2, 1/4, … of the experts of a ranked list, of `n`. -/
def probs (n : Nat) (l : List Nat) : List Word :=
  (List.range n).map (fun e => match l.findIdx? (fun x => x == e) with
    | some i => BitVec.ofNat 32 (0x3F000000 - i * 0x800000)
    | none => 0)

/-- The router of 10's example: E 8, K 2, DEPTH 1, RENORM 2, QUOTA 2. -/
def rtExample : Router :=
  { e := 8, k := 2, depth := 1, renorm := 2, g := 2, s := 2, quota := 2, tMax := 0, qRes := 0, maxSwaps := 0, hyst := 0, imgPages := 0, hostFrom := 0,
    coldDim := 0, hostBase := 0, coldOff := 0, slotBase := 0, groupTab := 0, mapAddr := 0, usageWin := 0, recv := [], answ := [] }

/-- 10, after R240: five tokens; of each slot whether it is kept, its expert, QPOS and MOVES. -/
theorem test_route :
    let cold : ResEntry := { member := 0, slot := 0, res := false }
    let at_ := fun m k => ({ member := m, slot := k, res := true } : ResEntry)
    let res := [at_ 0 0, at_ 0 1, cold, cold, at_ 1 0, at_ 1 1, cold, cold]
    let out := [[4, 1, 0], [4, 5, 0], [4, 2, 1], [0, 6, 5], [5, 0, 1, 7]].foldl (fun (a : List (List RouteEntry) × RouteSt) l =>
      let o := routeToken rtExample res (probs 8 l) a.2
      (a.1 ++ [o.1], o.2)) ([], { quota := List.replicate 8 2, examined := 0, notRes := 0, full := 0 })
    out.1.map (fun l => l.map (fun x => (!x.dropped, x.expert, x.qpos, x.moves))) =
      [[(true, 4, 0, 0), (true, 1, 0, 0)], [(true, 4, 1, 0), (true, 5, 0, 0)], [(false, 0, 0, 1), (true, 1, 1, 0)],
       [(true, 0, 0, 0), (true, 5, 1, 1)], [(true, 0, 1, 1), (false, 0, 0, 1)]] ∧
      (out.1.getD 2 []).map (fun x => x.w) = [0, 0x3F800000] ∧ (out.1.getD 0 []).map (fun x => x.w) = [0x3F000000, 0x3E800000] := by decide +kernel

/-- 11, after R279, with the signal of the firing cycle applied first: COUNTER 15 and TARGET 16 leave 16 and a shortfall of 1. -/
theorem test_deadline2 :
    let s := { plan [(12, 4, 1), (16, 16, 2 ^ 48 + 0x5A10 * 2 ^ 64 + 16 * 2 ^ 80)] with plan.ctrs := [(0x5A10, { Ctr.zero with value := 14 })] }
    let t := nextOf (exec .deadline (nextOf (exec (.counterSignal 0x5A10 1 (some 0)) s)))
    t.ctr 0x5A10 = { value := 16, rep := 0, shortfall := 1, late := true } ∧
      (nextOf (exec (.counterSignal 0x5A10 1 (some 0)) t)).ctr 0x5A10 = { value := 16, rep := 0, shortfall := 0, late := true } := by decide +kernel

/-- 12, after R566: the first 16 bytes of the descriptor that waits on 0x0803 for 8 and signals 0x4005 by 1. -/
theorem test_descriptor :
    let d := 0xFF80000004080302 + 0x003001400000003F * 2 ^ 64
    (dUnit d, dOpc d, dW0 d, dW0Tgt d, dW1 d, dSig d, dInc d) = (2, 0, 0x0803, 8, 0x7FFF, 0x4005, 1) := by decide +kernel

/-- 14, after R354: the row with K_TOP 4 and P_TOP 0.75. -/
theorem test_sample :
    let p := probs 904 [17, 903, 4, 55]
    (sampleRow p 4 0x3F400000 12000000 (fun _ => 0)).map (fun o => o.token) = some 903 ∧
      (sampleRow p 4 0x3F400000 11184810 (fun _ => 0)).map (fun o => o.token) = some 17 := by decide +kernel

/-- 15, after R391: a piece of 1 MiB takes 3,222 cycles with TRACE_NS 12. -/
theorem test_linkCycles : ({ up with fab.traceNs := 12 }).linkCycles 0 (linkCmd (0x04 * 2 ^ 128 + 2 ^ 296 * 2 ^ 20)) 1 = 3222 := by decide +kernel

/-- 17, after R439: a port stream of 15,408 pages. -/
theorem test_stream : streamLength 15408 = 32315261760 := by decide +kernel

/-- 22, after R542: the entry of POWER_LIMIT 1,600 W from port A's mailbox 5 at beat 100,000,000, number 1,234,567. -/
theorem test_logEntry :
    let s : State := { up with
      time.beat := 100000000
      trust.nextSeq := 1234567
      host.boxes := [(5, { Mailbox.empty with queue := [cmd 0x60 (body [(0, 2, 1600)])] })]
      host.queue := [{ entry with mbox := 5 }] }
    let v := leNat (s.logEntry ((nextOf (exec (.powerLimit 0 5) s)).trust.details.headD { seq := 0, beat := 0, wall := 0, origin := 0, originDetail := 0, cls := 0, inst := 0, form := 0, old := 0, new := 0 }))
    [bits v 0 64, bits v 128 8, bits v 136 24, bits v 160 16, bits v 176 16, bits v 192 32, bits v 224 2, bits v 256 128, bits v 384 128] =
      [0x5F5E100, 1, 0xA, 0x0011, 0x0003, 0x12D687, 0, 0x7D0, 0x640] := by decide +kernel

/-- 16 R406: work that a moving role owed at a beat is missed, which is cause SHEEPDOG with the Sheepdog that held the role. -/
theorem test_missedWork :
    (let t := nextOf (exec .gearPreramp { entryDue 0x07 0x04 noCtr with flt.moving := [(1, 3)] })
     t.flt.cause = 0x0D ∧ t.flt.detail = 1 ∧ t.half 0 = (entryDue 0x07 0x04 noCtr).half 0) ∧
    (let t := nextOf (exec .commit { entryDue 0x03 0 noCtr with plan.trailer := some 0, flt.moving := [(5, 7)] })
     t.flt.cause = 0x0D ∧ t.flt.detail = 5 ∧ t.plan.decision = 1 ∧ t.plan.decisions = 0) := by decide +kernel

/-- 20 R492: a notice for West takes West out of its source's entry for both halves; the ceilings stay until its beat. -/
theorem test_noticeHalves :
    (let s : State := { up with pwr.peers := [{ peer 0 with half := 3, gear := 1, inForce := true }] }
     let t := nextOf (exec (.gearNoticeRx 0 { notice false with effective := s.time.beat + 64 }) s)
     t.pwr.peers.map (fun e => (e.half, e.gear, e.inForce)) = [(2, 1, true), (1, 3, false)] ∧ t.pmCeil 0 = 1 ∧ t.pmCeil 1 = 1) := by
  decide +kernel

end Sys2Proof.Tests
end

section
/-! PROOFS. Number formats (03): the order of a chunk's products and of FP32 operands, the special products of a chunk, and
stochastic rounding. -/

namespace Sys2Proof.Machine

/-! ## Chunks: what the special products decide, and what the finite ones sum to (03 R70 to R72) -/

/-- The result of a chunk that holds finite products only (03 R72). -/
def finiteChunk (a : Int) (ps : List Val) : Word :=
  let t := (ps.map (quantum (a - 103))).sum
  if t = 0 then (if ps.all negZero then 0x80000000 else 0)
  else toF32 (.fin (decide (t < 0)) t.natAbs 1 (a - 103))

theorem foldl_add_quantum (lsb : Int) (ps : List Val) :
    ps.foldl (fun t p => t + quantum lsb p) 0 = (ps.map (quantum lsb)).sum := by
  rw [List.sum_eq_foldl, List.foldl_map]

theorem any_isNan_iff (ps : List Val) : ps.any Val.isNan = true ↔ Val.nan ∈ ps := by
  rw [List.any_eq_true]
  constructor
  · rintro ⟨v, hv, hn⟩
    cases v with
    | nan => exact hv
    | inf s => cases hn
    | fin s n d x => cases hn
  · exact fun h => ⟨.nan, h, rfl⟩

/-- An infinity of sign `s` among the products, found by its sign. -/
theorem any_inf_iff (s : Bool) (ps : List Val) :
    (ps.filter Val.isInf).any (fun v => v.neg == s) = true ↔ Val.inf s ∈ ps := by
  rw [List.any_eq_true]
  constructor
  · rintro ⟨v, hv, hs⟩
    obtain ⟨hmem, hinf⟩ := List.mem_filter.mp hv
    cases v with
    | nan => cases hinf
    | inf b => exact (beq_iff_eq.mp hs : b = s) ▸ hmem
    | fin b n d x => cases hinf
  · exact fun h => ⟨.inf s, List.mem_filter.mpr ⟨h, rfl⟩, beq_self_eq_true s⟩

theorem any_neg_inf_iff (ps : List Val) : (ps.filter Val.isInf).any Val.neg = true ↔ Val.inf true ∈ ps := by
  simpa using any_inf_iff true ps

theorem any_pos_inf_iff (ps : List Val) :
    (ps.filter Val.isInf).any (fun v => !v.neg) = true ↔ Val.inf false ∈ ps := by
  simpa using any_inf_iff false ps

theorem filter_isInf_isEmpty_iff (ps : List Val) :
    (ps.filter Val.isInf).isEmpty = true ↔ Val.inf true ∉ ps ∧ Val.inf false ∉ ps := by
  rw [List.isEmpty_iff, List.filter_eq_nil_iff]
  constructor
  · exact fun h => ⟨fun ht => h _ ht rfl, fun hf => h _ hf rfl⟩
  · rintro ⟨ht, hf⟩ v hv hinf
    cases v with
    | nan => cases hinf
    | inf s => cases s with
      | false => exact hf hv
      | true => exact ht hv
    | fin s n d x => cases hinf

/-- The chunk by which special products it holds (03 R71, R72). -/
theorem chunkOf_eq (a : Int) (ps : List Val) :
    chunkOf a ps =
      if Val.nan ∈ ps then nan32
      else if Val.inf true ∈ ps ∧ Val.inf false ∈ ps then nan32
      else if Val.inf true ∈ ps then ninf32
      else if Val.inf false ∈ ps then pinf32
      else finiteChunk a ps := by
  unfold chunkOf finiteChunk
  simp only [any_isNan_iff, any_neg_inf_iff, Bool.and_eq_true, any_pos_inf_iff, Bool.not_eq_true',
    ← Bool.not_eq_true, filter_isInf_isEmpty_iff, foldl_add_quantum]
  by_cases ht : Val.inf true ∈ ps
  · simp [ht]
  · by_cases hf : Val.inf false ∈ ps
    · simp [ht, hf]
    · simp [ht, hf]

theorem finiteChunk_perm (a : Int) {l m : List Val} (h : l.Perm m) : finiteChunk a l = finiteChunk a m := by
  have hsum : (l.map (quantum (a - 103))).sum = (m.map (quantum (a - 103))).sum := (h.map _).sum_eq
  have hall : l.all negZero = m.all negZero := h.all_eq
  simp only [finiteChunk, hsum, hall]

theorem chunkOf_perm (a : Int) {l m : List Val} (h : l.Perm m) : chunkOf a l = chunkOf a m := by
  simp only [chunkOf_eq, h.mem_iff, finiteChunk_perm a h]

/-! ## Exact sums and products commute -/

theorem addFin_comm (a : Bool) (n : Nat) (x : Int) (b : Bool) (m : Nat) (y : Int) :
    addFin a n x b m y = addFin b m y a n x := by
  simp only [addFin, min_comm x y, Bool.and_comm a b, Bool.and_comm (decide (n = 0))]
  rw [Int.add_comm]

theorem addVal_comm (v w : Val) : addVal v w = addVal w v := by
  cases v with
  | nan => cases w <;> rfl
  | inf a =>
    cases w with
    | nan => rfl
    | inf b =>
      simp only [addVal, eq_comm (a := b)]
      split <;> simp_all
    | fin b m c y => rfl
  | fin a n d x =>
    cases w with
    | nan => rfl
    | inf b => rfl
    | fin b m c y => exact addFin_comm a n x b m y

theorem mulVal_comm (v w : Val) : mulVal v w = mulVal w v := by
  cases v with
  | nan => cases w <;> rfl
  | inf a =>
    cases w with
    | nan => rfl
    | inf b => simp only [mulVal, bne_comm]
    | fin b m c y => simp only [mulVal, bne_comm]
  | fin a n d x =>
    cases w with
    | nan => rfl
    | inf b => simp only [mulVal, bne_comm]
    | fin b m c y => simp only [mulVal, bne_comm, Nat.mul_comm, Int.add_comm]

theorem fadd_comm (a b : Word) : fadd a b = fadd b a := by rw [fadd, addVal_comm, ← fadd]

theorem fmul_comm (a b : Word) : fmul a b = fmul b a := by rw [fmul, mulVal_comm, ← fmul]

/-! ## Codes, their signs and magnitudes -/

theorem b2n_bit (c i : Nat) : b2n (bit c i) = c / 2 ^ i % 2 := by
  rw [bit, Nat.testBit_eq_decide_div_mod_eq, b2n]
  split <;> simp_all

/-- A code is its sign bit over its magnitude. -/
theorem withSign_bit_mod (el : Elem) {code : Nat} (h : code < 2 ^ el.bits) :
    withSign el (bit code (el.bits - 1)) (code % 2 ^ (el.bits - 1)) = code := by
  have hbits : el.bits = el.bits - 1 + 1 := by cases el <;> rfl
  have hlt : code / 2 ^ (el.bits - 1) < 2 := by
    apply Nat.div_lt_of_lt_mul
    rwa [← Nat.pow_succ, Nat.succ_eq_add_one, ← hbits]
  rw [withSign, b2n_bit, Nat.mod_eq_of_lt hlt, Nat.mul_comm]
  exact Nat.mod_add_div _ _

theorem withSign_mod (el : Elem) (s : Bool) (mag : Nat) :
    withSign el s mag % 2 ^ (el.bits - 1) = mag % 2 ^ (el.bits - 1) := Nat.add_mul_mod_self_right ..

/-- In a format with infinities the magnitudes of the top exponent begin one above the largest finite one (Table 03-1). -/
theorem Elem.mag_of_top_exponent {el : Elem} {mag : Nat} (hel : el.hasInf = true)
    (htop : mag / 2 ^ el.man = 2 ^ (el.bits - 1 - el.man) - 1) : mag = el.maxMag + 1 + mag % 2 ^ el.man := by
  cases el <;> simp [Elem.bits, Elem.hasInf, Elem.man, Elem.maxMag] at * <;> omega

/-- Below the top exponent, and off E4M3's NaN, a magnitude is at most the largest finite one (Table 03-1). -/
theorem Elem.finite_mag_le {el : Elem} {mag : Nat} (hel : el.isInt = false) (hmag : mag < 2 ^ (el.bits - 1))
    (hinf : el.hasInf = true → mag / 2 ^ el.man ≠ 2 ^ (el.bits - 1 - el.man) - 1) (hnan : el = .e4m3 → mag ≠ 0x7F) :
    mag ≤ el.maxMag := by
  cases el <;> simp [Elem.isInt, Elem.bits, Elem.hasInf, Elem.man, Elem.maxMag] at * <;> omega

/-- The exact value of a finite floating-point magnitude (R44): below the first normal exponent the quantum stays. -/
def floatVal (el : Elem) (s : Bool) (mag : Nat) : Val :=
  if mag / 2 ^ el.man = 0 then .fin s (mag % 2 ^ el.man) 1 (el.emin - el.man)
  else .fin s (mag % 2 ^ el.man + 2 ^ el.man) 1 ((mag / 2 ^ el.man : Nat) - el.bias - el.man)

/-- What a code of a floating-point format says: a NaN, the infinity one above the largest finite magnitude, or a finite value
(R44, Table 03-1). -/
theorem decodeElem_float (el : Elem) (code : Nat) (hel : el.isInt = false) :
    let s := bit code (el.bits - 1)
    let mag := code % 2 ^ (el.bits - 1)
    (decodeElem el code = .nan ∧ (el.hasInf = true → el.maxMag + 1 < mag)) ∨
    (decodeElem el code = .inf s ∧ el.hasInf = true ∧ mag = el.maxMag + 1) ∨
    (decodeElem el code = floatVal el s mag ∧ mag ≤ el.maxMag) := by
  have hmag : code % 2 ^ (el.bits - 1) < 2 ^ (el.bits - 1) := Nat.mod_lt _ (Nat.two_pow_pos _)
  simp only [decodeElem, floatVal, hel, Elem.emin, Nat.shiftRight_eq_div_pow, Bool.false_eq_true, if_false]
  generalize code % 2 ^ (el.bits - 1) = mag at hmag ⊢
  by_cases htop : el.hasInf = true ∧ mag / 2 ^ el.man = 2 ^ (el.bits - 1 - el.man) - 1
  · obtain ⟨hinf, hexp⟩ := htop
    have hmag_eq := Elem.mag_of_top_exponent hinf hexp
    by_cases hf : mag % 2 ^ el.man = 0
    · right; left
      simp only [hinf, hexp, hf, decide_true, Bool.and_self, if_true, true_and]
      omega
    · left
      simp only [hinf, hexp, hf, decide_true, Bool.and_self, if_true, if_false, true_and]
      omega
  · by_cases hnan : el = .e4m3 ∧ mag = 0x7F
    · obtain ⟨rfl, rfl⟩ := hnan
      exact .inl ⟨rfl, fun h => nomatch h⟩
    · right; right
      rw [not_and] at htop hnan
      refine ⟨?_, Elem.finite_mag_le hel hmag htop hnan⟩
      rw [if_neg (by simpa using htop), if_neg (by simpa using hnan)]

theorem floatVal_isNan (el : Elem) (s : Bool) (mag : Nat) : (floatVal el s mag).isNan = false := by
  unfold floatVal
  split <;> rfl

/-- An FP32 NaN is a magnitude above that of infinity (Table 03-1). -/
theorem isNan32_iff (w : Word) : isNan32 w = true ↔ Elem.fp32.maxMag + 1 < w.toNat % 2 ^ 31 := by
  obtain ⟨hd, hn⟩ | ⟨hd, -, hm⟩ | ⟨hd, hm⟩ := decodeElem_float .fp32 w.toNat rfl
  · exact iff_of_true (by rw [isNan32, ofF32, hd]; rfl) (hn rfl)
  · exact iff_of_false (by rw [isNan32, ofF32, hd]; exact Bool.false_ne_true) hm.le.not_gt
  · exact iff_of_false (by rw [isNan32, ofF32, hd, floatVal_isNan]; exact Bool.false_ne_true)
      (Nat.le_succ_of_le hm).not_gt

theorem convPlain_inf {el : Elem} (hel : el.isInt = false) (hinf : el.hasInf = true) (m : RMode) (u : Nat) (s : Bool) :
    convPlain el m false u (.inf s) = (withSign el s (el.maxMag + 1), false) := by
  simp [convPlain, hel, hinf]

theorem convPlain_fin {el : Elem} (hel : el.isInt = false) (m : RMode) (sat : Bool) (u : Nat) (s : Bool) {n d : Nat} {x : Int}
    (h : roundMag el m u n d x ≤ el.maxMag) :
    convPlain el m sat u (.fin s n d x) = (withSign el s (roundMag el m u n d x), false) := by
  simp [convPlain, hel, h.not_gt]

/-- Beyond the largest magnitude every mode but RTZ gives one result, whatever the draw (R63, Table 03-7). -/
theorem convPlain_overflow {el : Elem} (hel : el.isInt = false) {m : RMode} (hm : m ≠ .rtz) (sat : Bool) (u : Nat) (s : Bool)
    {n d : Nat} {x : Int} (h : el.maxMag < roundMag el m u n d x) :
    convPlain el m sat u (.fin s n d x) =
      (if sat then withSign el s el.maxMag else if el.hasInf then withSign el s (el.maxMag + 1) else el.nan, true) := by
  simp only [convPlain, hel, Bool.false_eq_true, if_false, gt_iff_lt, if_pos h, hm, decide_false, Bool.or_false]
  split
  · rfl
  · split <;> rfl

/-- What is rounded to nearest from an infinity or a finite value is at most infinity (Table 03-7). -/
theorem convPlain_rne_mag_le {el : Elem} (hel : el.isInt = false) (hinf : el.hasInf = true) {v : Val} (hv : v ≠ .nan) :
    (convPlain el .rne false 0 v).1 % 2 ^ (el.bits - 1) ≤ el.maxMag + 1 := by
  have sign_le (s : Bool) {mag : Nat} (h : mag ≤ el.maxMag + 1) : withSign el s mag % 2 ^ (el.bits - 1) ≤ el.maxMag + 1 :=
    (withSign_mod el s mag).trans_le ((Nat.mod_le _ _).trans h)
  cases v with
  | nan => exact absurd rfl hv
  | inf s =>
    rw [convPlain_inf hel hinf]
    exact sign_le s le_rfl
  | fin s n d x =>
    by_cases h : el.maxMag < roundMag el .rne 0 n d x
    · simp only [convPlain_overflow hel (by decide : RMode.rne ≠ .rtz) _ _ _ h, hinf]
      exact sign_le s le_rfl
    · rw [convPlain_fin hel _ _ _ _ (not_lt.mp h)]
      exact sign_le s (by omega)

theorem toF32_eq_nan32 (v : Val) (h : isNan32 (toF32 v) = true) : toF32 v = nan32 := by
  by_cases hv : v = .nan
  · rw [hv]
    rfl
  · have hle : _ % 2 ^ 31 ≤ _ := convPlain_rne_mag_le (el := .fp32) rfl rfl hv
    have hlt := (isNan32_iff _).mp h
    rw [toF32, BitVec.toNat_ofNat, Nat.mod_mod_of_dvd _ (by decide)] at hlt
    omega

/-! ## Rounding a value that is representable (03 R61, R63) -/

theorem pickRound_sr_zero (u lo d : Nat) : pickRound .sr u lo 0 d = lo := by simp [pickRound]

theorem pickRound_zero (m : RMode) (u lo d : Nat) (hd : 0 < d) : pickRound m u lo 0 d = lo := by
  cases m with
  | rne => simp [pickRound, hd]
  | rtz => rfl
  | sr => exact pickRound_sr_zero u lo d

/-- A whole number of quanta stays. -/
theorem roundAt_self (m : RMode) (u n : Nat) (k : Int) : roundAt m u n 1 k k = n := by
  simp [roundAt, pickRound_zero, Nat.mod_one]

theorem log2Q_one {n : Nat} (hn : n ≠ 0) : log2Q n 1 = n.log2 := by
  have hle : 1 <<< n.log2 ≤ n := by
    rw [Nat.one_shiftLeft]
    exact Nat.log2_self_le hn
  have hone : Nat.log2 1 = 0 := rfl
  simp [log2Q, hle, hone]

/-- A value whose own exponent is its quantum's keeps its significand. -/
theorem roundMag_of_quantum {el : Elem} {n : Nat} {x : Int} (m : RMode) (u : Nat) (hn : n ≠ 0)
    (hx : max (n.log2 + x) el.emin - el.man = x) :
    roundMag el m u n 1 x = (x - (el.emin - el.man)).toNat * 2 ^ el.man + n := by
  simp only [roundMag, hn, if_false, log2Q_one hn, hx, roundAt_self]

/-- Below the smallest normal value the quantum is fixed, and the code is the significand (R61). -/
theorem roundMag_subnormal {el : Elem} (m : RMode) (u : Nat) {f : Nat} (hf : f < 2 ^ el.man) :
    roundMag el m u f 1 (el.emin - el.man) = f := by
  by_cases h0 : f = 0
  · rw [roundMag, if_pos h0, h0]
  · have hlog : f.log2 < el.man := (Nat.log2_lt h0).mpr hf
    rw [roundMag_of_quantum m u h0 (by omega)]
    simp

/-- A normal value is rounded to its exponent field over its fraction (R61). -/
theorem roundMag_normal {el : Elem} (m : RMode) (u : Nat) {e f : Nat} (he : 1 ≤ e) (hf : f < 2 ^ el.man) :
    roundMag el m u (f + 2 ^ el.man) 1 (e - el.bias - el.man) = e * 2 ^ el.man + f := by
  have hlog : (f + 2 ^ el.man).log2 = el.man := by
    rw [Nat.log2_eq_iff (by omega)]
    omega
  have hbinade : ((e : Int) - el.bias - el.man - (el.emin - el.man)).toNat = e - 1 := by
    rw [Elem.emin]
    omega
  rw [roundMag_of_quantum m u (by omega) (by rw [hlog, Elem.emin]; omega), hbinade, Nat.sub_mul]
  have := Nat.mul_le_mul_right (2 ^ el.man) he
  omega

/-- A finite floating-point value is rounded to its own magnitude (R63). -/
theorem convPlain_floatVal {el : Elem} (hel : el.isInt = false) (m : RMode) (sat : Bool) (u : Nat) (s : Bool) {mag : Nat}
    (hmag : mag ≤ el.maxMag) : convPlain el m sat u (floatVal el s mag) = (withSign el s mag, false) := by
  have conv_of_round {n : Nat} {x : Int} (h : roundMag el m u n 1 x = mag) :
      convPlain el m sat u (.fin s n 1 x) = (withSign el s mag, false) := by
    rw [convPlain_fin hel m sat u s (h.trans_le hmag), h]
  have hf : mag % 2 ^ el.man < 2 ^ el.man := Nat.mod_lt _ (Nat.two_pow_pos _)
  have hdm := Nat.div_add_mod' mag (2 ^ el.man)
  unfold floatVal
  split
  next hexp =>
    rw [hexp, Nat.zero_mul, Nat.zero_add] at hdm
    exact conv_of_round ((roundMag_subnormal m u hf).trans hdm)
  next hexp => exact conv_of_round ((roundMag_normal m u (Nat.pos_of_ne_zero hexp) hf).trans hdm)

/-- A code of an integer element converts back to itself (R63). -/
theorem convPlain_decodeElem_int {el : Elem} (hel : el.isInt = true) (m : RMode) (sat : Bool) (u : Nat) {code : Nat}
    (hcode : code < 2 ^ el.bits) : convPlain el m sat u (decodeElem el code) = (code, false) := by
  have hbits : 2 ^ el.bits = 2 * 2 ^ (el.bits - 1) := by cases el <;> rfl
  simp only [decodeElem, convPlain, hel, if_true, roundAt_self, Nat.mod_eq_of_lt hcode]
  by_cases hlow : code < 2 ^ (el.bits - 1)
  · have hval : signed el.bits code = code := if_pos hlow
    have hfits : ¬ code > 2 ^ (el.bits - 1) - 1 := by omega
    have hsign : ¬ (code : Int) < 0 := by omega
    simp only [hval, Int.natAbs_natCast, hsign, hfits, decide_false, Bool.false_eq_true, if_false]
  · have hval : signed el.bits code = code - (2 ^ el.bits : Nat) := if_neg hlow
    have habs : ((code : Int) - (2 ^ el.bits : Nat)).natAbs = 2 ^ el.bits - code := by omega
    have hfits : ¬ 2 ^ el.bits - code > 2 ^ (el.bits - 1) := by omega
    have hsign : (code : Int) - (2 ^ el.bits : Nat) < 0 := by omega
    simp only [hval, habs, hsign, hfits, decide_true, if_true, if_false, Nat.sub_sub_self hcode.le, Nat.mod_eq_of_lt hcode]

/-- A code of a floating-point element that is no NaN converts back to itself (R63). -/
theorem convPlain_decodeElem_float {el : Elem} (hel : el.isInt = false) (m : RMode) (u : Nat) {code : Nat}
    (hcode : code < 2 ^ el.bits) (hnan : decodeElem el code ≠ .nan) :
    convPlain el m false u (decodeElem el code) = (code, false) := by
  obtain ⟨hd, -⟩ | ⟨hd, hinf, hm⟩ | ⟨hd, hm⟩ := decodeElem_float el code hel
  · exact absurd hd hnan
  · rw [hd, convPlain_inf hel hinf, ← hm, withSign_bit_mod el hcode]
  · rw [hd, convPlain_floatVal hel m false u _ hm, withSign_bit_mod el hcode]

theorem draw24_lt (key e mb layer step seed : Nat) : draw24 key e mb layer step seed < 2 ^ 24 :=
  Nat.mod_lt _ (Nat.two_pow_pos 24)

/-! ## The statements -/

/-- Settles O44: a permutation keeps which special products a chunk holds and what the finite ones sum to; exact sums and products
commute before they are rounded, and a rounded result above infinity comes from NaN alone. -/
theorem arithmeticIgnoresOrder : Obligations.ArithmeticIgnoresOrder :=
  ⟨fun a _ _ h => chunkOf_perm a h,
   fun a b => ⟨fadd_comm a b, fmul_comm a b, toF32_eq_nan32 _, toF32_eq_nan32 _⟩⟩

/-- Settles O45: each clause is one branch of `chunkOf_eq` or of the exact product. -/
theorem chunkSpecials : Obligations.ChunkSpecials := by
  intro a ps
  refine ⟨fun hn => ?_, fun ht hf => ?_, fun hn hf ht => ?_, fun hn ht hf => ?_, fun x => ⟨rfl, ?_⟩, fun b n d x => ⟨rfl, rfl⟩⟩
  · rw [chunkOf_eq, if_pos hn]
  · rw [chunkOf_eq, if_pos (c := _ ∧ _) ⟨ht, hf⟩, ite_self]
  · simp [chunkOf_eq, hn, ht, hf]
  · simp [chunkOf_eq, hn, ht, hf]
  · exact mulVal_comm x .nan

/-- Settles O46: the draw has 24 bits, a fraction of 0 leaves a multiple of the quantum, a code decodes to such a multiple, and an
overflow does not look at the mode. -/
theorem stochasticRounding : Obligations.StochasticRounding := by
  refine ⟨draw24_lt, fun _ _ _ _ _ => rfl, pickRound_sr_zero, fun el m u code hcode hnan => ?_,
    fun el sat s u v n d x hel hsr hrne => ?_⟩
  · cases hel : el.isInt with
    | false => exact convPlain_decodeElem_float hel m u hcode hnan
    | true => exact convPlain_decodeElem_int hel m false u hcode
  · rw [convPlain_overflow hel (by decide) sat u s hsr, convPlain_overflow hel (by decide) sat v s hrne]

end Sys2Proof.Machine
end

section
/-! PROOFS. The Ox cores (04, 05, 12): numbers as bytes and reads after writes, how a command starts on its stream and has its
effects, feeder queues, the drain and its bank tokens, the partial area, and what a passed token, a returned one and returned
credits do. -/

namespace Sys2Proof.Machine

/-! ## Numbers as bytes (00 R5) -/

@[simp] theorem length_natLe (n v : Nat) : (natLe n v).length = n := by
  induction n generalizing v with
  | zero => rfl
  | succ n ih => simp [natLe, ih]

theorem leNat_natLe (n v : Nat) : leNat (natLe n v) = v % 256 ^ n := by
  induction n generalizing v with
  | zero => simp [natLe, leNat, Nat.mod_one]
  | succ n ih => rw [natLe, leNat, ih, BitVec.toNat_ofNat, pow_succ' 256 n, Nat.mod_mul]

theorem take_natLe {m n : Nat} (h : m ≤ n) (v : Nat) : (natLe n v).take m = natLe m v := by
  induction m generalizing n v with
  | zero => simp [natLe]
  | succ m ih =>
    obtain ⟨n, rfl⟩ : ∃ k, n = k + 1 := ⟨n - 1, by omega⟩
    simp [natLe, ih (Nat.le_of_succ_le_succ h)]

@[simp] theorem length_wordBytes (ws : List Word) : (wordBytes ws).length = 4 * ws.length := by
  induction ws with
  | nil => rfl
  | cons w ws ih =>
    simp only [wordBytes, List.flatMap_cons, List.length_append, length_natLe, List.length_cons] at ih ⊢
    omega

/-- The four bytes of word `p`. -/
theorem take_drop_wordBytes {ws : List Word} {p : Nat} (hp : p < ws.length) :
    ((wordBytes ws).drop (4 * p)).take 4 = natLe 4 (ws.getD p 0).toNat := by
  induction ws generalizing p with
  | nil => cases hp
  | cons w ws ih =>
    have hcons : wordBytes (w :: ws) = natLe 4 w.toNat ++ wordBytes ws := rfl
    cases p with
    | zero => simp [hcons]
    | succ p =>
      have hdrop : (wordBytes (w :: ws)).drop (4 * (p + 1)) = (wordBytes ws).drop (4 * p) := by
        rw [hcons, show 4 * (p + 1) = (natLe 4 w.toNat).length + 4 * p by rw [length_natLe]; omega, List.drop_append,
          List.drop_eq_nil_of_le (by omega), List.nil_append, Nat.add_sub_cancel_left]
      rw [hdrop, ih (Nat.lt_of_succ_lt_succ hp), List.getD_cons_succ]

theorem leNat_natLe_word (w : Word) : leNat (natLe 4 w.toNat) = w.toNat := by
  rw [leNat_natLe]
  exact Nat.mod_eq_of_lt w.isLt

theorem fields_three (i a j b k c : Nat) : fields [(i, a), (j, b), (k, c)] = a <<< i + b <<< j + c <<< k := by
  simp [fields]

theorem bits_lt (v lo w : Nat) : bits v lo w < 2 ^ w := Nat.mod_lt _ (Nat.two_pow_pos w)

/-! ## Reads after writes -/

theorem ite_le_of {p : Prop} [Decidable p] {a b n : Nat} (ha : a ≤ n) (hb : b ≤ n) : (if p then a else b) ≤ n := by
  split
  · exact ha
  · exact hb

theorem spaceSize_le (sp : Nat) : spaceSize sp ≤ 2 ^ 48 := by
  unfold spaceSize
  repeat' apply ite_le_of
  all_goals decide

/-- A byte after bytes are laid at a key: the byte laid inside the space, the old one elsewhere. -/
theorem State.stored_poke (s : State) (key : Nat) (data : List Byte) (k : Nat) :
    (s.poke key data).stored k =
      if key ≤ k ∧ k < key + min (spaceSize (key / 2 ^ 48) - key % 2 ^ 48) data.length then data.getD (k - key) 0
      else s.stored k := by
  simp only [State.stored, State.poke, Tab.get_put, List.length_take]
  split
  · rename_i h
    have hlt : k - key < spaceSize (key / 2 ^ 48) - key % 2 ^ 48 := by omega
    rw [List.getD_eq_getElem?_getD, List.getElem?_take, if_pos hlt, ← List.getD_eq_getElem?_getD]
  · rfl

theorem State.stored_poke_of_disjoint (s : State) {key k : Nat} {data : List Byte} (h : k < key ∨ key + data.length ≤ k) :
    (s.poke key data).stored k = s.stored k := by
  rw [State.stored_poke, if_neg (by omega)]

/-- What is laid at a key stays in its space (log 16). -/
theorem State.stored_poke_of_space (s : State) {key k : Nat} (data : List Byte) (h : k / 2 ^ 48 ≠ key / 2 ^ 48) :
    (s.poke key data).stored k = s.stored k := by
  have hsize := spaceSize_le (key / 2 ^ 48)
  rw [State.stored_poke, if_neg]
  generalize spaceSize (key / 2 ^ 48) = n at hsize ⊢
  omega

theorem State.byteAt_congr {s t : State} {k : Nat} (hf : t.freeIdx = s.freeIdx) (hk : t.stored k = s.stored k) :
    t.byteAt k = s.byteAt k := by
  simp only [State.stored] at hk
  simp only [State.byteAt, hf, hk]

theorem State.natAt_congr {s t : State} {key n : Nat} (hf : t.freeIdx = s.freeIdx)
    (hk : ∀ i, i < n → t.stored (key + i) = s.stored (key + i)) : t.natAt key n = s.natAt key n := by
  unfold State.natAt State.bytesAt
  exact congrArg leNat (List.map_congr_left fun i hi => State.byteAt_congr hf (hk i (List.mem_range.mp hi)))

/-- Reading back what was laid at a key, from byte `off` of it on, inside the space. -/
theorem State.natAt_poke (s : State) {key off n : Nat} {data : List Byte} (hd : off + n ≤ data.length)
    (hs : key % 2 ^ 48 + off + n ≤ spaceSize (key / 2 ^ 48)) :
    (s.poke key data).natAt (key + off) n = leNat ((data.drop off).take n) := by
  have hsize := spaceSize_le (key / 2 ^ 48)
  have hbytes : (s.poke key data).bytesAt (key + off) n = (data.drop off).take n := by
    apply List.ext_getElem
    · simp [State.bytesAt]
      omega
    · intro i hi _
      have hin : i < n := by simpa [State.bytesAt] using hi
      have hsp : (key + off + i) / 2 ^ 48 = key / 2 ^ 48 ∧ (key + off + i) % 2 ^ 48 = key % 2 ^ 48 + off + i := by
        generalize spaceSize (key / 2 ^ 48) = m at hs hsize
        omega
      have hget : (s.poke key data).stored (key + off + i) = data.getD (off + i) 0 := by
        rw [State.stored_poke, if_pos (by omega), show key + off + i - key = off + i by omega]
      have hbyte : (s.poke key data).byteAt (key + off + i) = (s.poke key data).stored (key + off + i) := by
        unfold State.byteAt State.stored
        rw [hsp.1, hsp.2, if_pos (by omega)]
      simp only [State.bytesAt, List.getElem_map, List.getElem_range, List.getElem_take, List.getElem_drop]
      rw [hbyte, hget, List.getD_eq_getElem _ _ (by omega)]
  rw [State.natAt, hbytes]

theorem State.natAt_poke_start (s : State) {key n : Nat} {data : List Byte} (hd : n ≤ data.length)
    (hs : key % 2 ^ 48 + n ≤ spaceSize (key / 2 ^ 48)) : (s.poke key data).natAt key n = leNat (data.take n) := by
  have hread := s.natAt_poke (key := key) (off := 0) (n := n) (data := data) (by omega) (by omega)
  rwa [Nat.add_zero key, List.drop_zero] at hread

/-- Word `p` of FP32 words laid at a key. -/
theorem State.natAt_poke_words (s : State) {key p : Nat} {ws : List Word} (hp : p < ws.length)
    (hs : key % 2 ^ 48 + 4 * p + 4 ≤ spaceSize (key / 2 ^ 48)) :
    (s.poke key (wordBytes ws)).natAt (key + 4 * p) 4 = (ws.getD p 0).toNat := by
  rw [State.natAt_poke s (by rw [length_wordBytes]; omega) hs, take_drop_wordBytes hp, leNat_natLe_word]

theorem State.natAt_poke_of_disjoint (s : State) {key a n : Nat} {data : List Byte} (h : a + n ≤ key ∨ key + data.length ≤ a) :
    (s.poke key data).natAt a n = s.natAt a n :=
  State.natAt_congr (by simp) fun _ hi => State.stored_poke_of_disjoint s (by omega)

theorem spaceKey_add (sp off : Nat) : spaceKey sp 0 + off = spaceKey sp off := by
  rw [spaceKey, spaceKey, Nat.add_zero]

theorem spaceKey_div {sp off : Nat} (h : off < 2 ^ 48) : spaceKey sp off / 2 ^ 48 = sp := by
  unfold spaceKey
  omega

theorem spaceKey_mod {sp off : Nat} (h : off < 2 ^ 48) : spaceKey sp off % 2 ^ 48 = off := by
  unfold spaceKey
  omega

theorem spaceSize_oxSpace {x : Nat} (hx : x < 120) : spaceSize (oxSpace x) = 0x400000 := by
  unfold spaceSize oxSpace
  rw [if_neg (by omega), if_pos (by omega)]

theorem spaceSize_bankSpace {x b : Nat} (hx : x < 120) (hb : b < 2) : spaceSize (bankSpace x b) = 0x10000 := by
  unfold spaceSize bankSpace
  rw [if_neg, if_neg, if_neg, if_neg, if_neg, if_neg, if_pos] <;> omega

/-! ## What an Ox command reads: memory and its queues alone -/

theorem State.oxTileWords_congr {s t : State} (hm : t.mem = s.mem) (hf : t.freeIdx = s.freeIdx) (x : Nat) (c : OxCmd) (o : OxOut)
    (n : Nat) : t.oxTileWords x c o n = s.oxTileWords x c o n := by
  have h : t.oxTileWords x c o n = State.oxTileWords { s with mem := t.mem, freeIdx := t.freeIdx } x c o n := rfl
  rw [h, hm, hf]

theorem State.oxNeeds_congr {s t : State} (hm : t.mem = s.mem) (hf : t.freeIdx = s.freeIdx) (x : Nat) (c : OxCmd) (fa fb : Fmt)
    (cnt : Nat) : t.oxNeeds x c fa fb cnt = s.oxNeeds x c fa fb cnt := by
  have h : t.oxNeeds x c fa fb cnt = State.oxNeeds { s with mem := t.mem, freeIdx := t.freeIdx } x c fa fb cnt := rfl
  rw [h, hm, hf]

theorem State.oxRun_congr {s t : State} (hm : t.mem = s.mem) (hf : t.freeIdx = s.freeIdx) (hq : t.unit.queues = s.unit.queues)
    (x : Nat) (c : OxCmd) (fa fb : Fmt) (cnt code : Nat) : t.oxRun x c fa fb cnt code = s.oxRun x c fa fb cnt code := by
  have h : t.oxRun x c fa fb cnt code = State.oxRun
      { s with mem := t.mem, freeIdx := t.freeIdx, unit.queues := t.unit.queues } x c fa fb cnt code := rfl
  rw [h, hm, hf, hq]

@[simp] theorem State.length_oxTileWords (s : State) (x : Nat) (c : OxCmd) (o : OxOut) (n : Nat) :
    (s.oxTileWords x c o n).length = 16384 := by
  simp [State.oxTileWords]

/-! ## Streams: a command starts and has its effects (12 R297, R305) -/

theorem State.stream_setStream (s : State) (u : Nat) (t : Stream) (v : Nat) :
    (s.setStream u t).stream v = if v = u then t else s.stream v :=
  Tab.get_set _ _ _ _ _

theorem State.stream_setLast {s : State} {u : Nat} {f : InFlight} (h : (s.stream u).flight.getLast? = some f)
    (g : InFlight → InFlight) (v : Nat) :
    (s.setLast u g).stream v =
      if v = u then { s.stream u with flight := (s.stream u).flight.dropLast ++ [g f] } else s.stream v := by
  simp only [State.setLast, h]
  exact s.stream_setStream u _ v

/-- The change of a stream's last command leaves everything but the streams alone. -/
theorem State.setLast_eq (s : State) (u : Nat) (g : InFlight → InFlight) :
    ∃ v, s.setLast u g = { s with unit.streams := v } := by
  unfold State.setLast
  dsimp only
  split
  · exact ⟨_, rfl⟩
  · exact ⟨s.unit.streams, rfl⟩

theorem State.parked_eq {s : State} {u : Nat} {l : List InFlight} {f : InFlight} (h : (s.stream u).flight = l ++ [f]) :
    s.parked u = f.work := by
  simp [State.parked, h]

/-- A command that has had its effects leaves its stream with nothing in hand. -/
@[simp] theorem State.parked_launch (s : State) (u : Nat) (f : InFlight) : (s.launch u f).parked u = none := by
  cases h : (s.stream u).flight.getLast? with
  | none => simp [State.launch, State.setLast, State.parked, h]
  | some g =>
    refine State.parked_eq (l := (s.stream u).flight.dropLast) (f := { f with
      desc := g.desc, rep := g.rep, beat := g.beat, slipped := g.slipped, work := none }) ?_
    rw [State.launch, State.stream_setLast h, if_pos rfl]

theorem startsWith_startCmd (s : State) (u d : Nat) {f : InFlight} (hunit : f.unit = dUnit d) (hop : f.op = bits d 128 8)
    (hrep : f.rep = (s.stream u).rep) (hbeat : f.beat = s.time.beat) (hsig : f.sigId = dSig d) (hinc : f.sigInc = dInc d)
    (hslip : f.slipped = false) : StartsWith s (s.startCmd u f) u d f := by
  refine ⟨?_, hunit, hop, hrep, hbeat, hsig, hinc, hslip, fun v hv => ?_⟩
  · rw [State.startCmd, State.stream_setStream, if_pos rfl]
  · rw [State.startCmd, State.stream_setStream, if_neg hv]

section Starts

variable {s t : State} {u d : Nat} {f : InFlight} (h : StartsWith s t u d f)
include h

theorem StartsWith.flight_eq : (t.stream u).flight = (s.stream u).flight ++ [f] := by
  rw [h.1]

theorem StartsWith.parked_eq : t.parked u = f.work := State.parked_eq h.flight_eq

/-- What does not touch the streams keeps the command's place. -/
theorem StartsWith.of_streams {r : State} (hr : r.unit.streams = t.unit.streams) : StartsWith s r u d f := by
  have hstream : ∀ v, r.stream v = t.stream v := fun v => by rw [State.stream, State.stream, hr]
  obtain ⟨hu, hunit, hop, hrep, hbeat, hsig, hinc, hslip, hother⟩ := h
  exact ⟨(hstream u).trans hu, hunit, hop, hrep, hbeat, hsig, hinc, hslip, fun v hv => (hstream v).trans (hother v hv)⟩

theorem StartsWith.setLast {g : InFlight → InFlight} (hunit : (g f).unit = f.unit) (hop : (g f).op = f.op)
    (hrep : (g f).rep = f.rep) (hbeat : (g f).beat = f.beat) (hsig : (g f).sigId = f.sigId) (hinc : (g f).sigInc = f.sigInc)
    (hslip : (g f).slipped = f.slipped) : StartsWith s (t.setLast u g) u d (g f) := by
  have hlast : (t.stream u).flight.getLast? = some f := by rw [h.flight_eq, List.getLast?_concat]
  obtain ⟨hu, hunit', hop', hrep', hbeat', hsig', hinc', hslip', hother⟩ := h
  refine ⟨?_, hunit.trans hunit', hop.trans hop', hrep.trans hrep', hbeat.trans hbeat', hsig.trans hsig', hinc.trans hinc',
    hslip.trans hslip', fun v hv => ?_⟩
  · rw [State.stream_setLast hlast, if_pos rfl, hu, List.dropLast_concat]
  · rw [State.stream_setLast hlast, if_neg hv, hother v hv]

/-- The command in hand has its effects as `e` says: it keeps its place, repetition and cycle 0. -/
theorem StartsWith.launch {e : InFlight} (hunit : e.unit = dUnit d) (hop : e.op = bits d 128 8) (hsig : e.sigId = dSig d)
    (hinc : e.sigInc = dInc d) : StartsWith s (t.launch u e) u d
      { e with desc := f.desc, rep := f.rep, beat := f.beat, slipped := f.slipped, work := none } := by
  obtain ⟨-, hunit', hop', -, -, hsig', hinc', -, -⟩ := id h
  exact h.setLast (g := fun g => { e with desc := g.desc, rep := g.rep, beat := g.beat, slipped := g.slipped, work := none })
    (hunit.trans hunit'.symm) (hop.trans hop'.symm) rfl rfl (hsig.trans hsig'.symm) (hinc.trans hinc'.symm) rfl

end Starts

/-! ## Feeder queues (12 R301 to R304) -/

theorem State.queue_updQueue (s : State) (q : Nat) (f : FeedQueue → FeedQueue) (k : Nat) :
    (s.updQueue q f).queue k = if k = q then f (s.queue q) else s.queue k :=
  Tab.get_upd _ _ _ _ _

/-- A feeder that needs no byte consumes none. -/
@[simp] theorem FeedQueue.feed_zero (f : FeedQueue) : f.feed 0 = f := by
  have htake : f.take 0 f.flits = f := by
    cases hf : f.flits <;> simp [FeedQueue.take, ← hf]
  simp [FeedQueue.feed, htake, fit]

/-- The state of Ox `x` whose feeders have consumed up to `n` bytes of its A and its B queue. -/
def State.oxFed (s : State) (x : Nat) (n : Nat × Nat) : State :=
  (s.updQueue (2 * x) (fun q => q.feed n.1)).updQueue (2 * x + 1) (fun q => q.feed n.2)

@[simp] theorem State.queue_oxFed_zero (s : State) (x k : Nat) : (s.oxFed x (0, 0)).queue k = s.queue k := by
  simp only [State.oxFed, State.queue_updQueue, FeedQueue.feed_zero]
  split
  · subst k
    simp
  · split
    · subst k
      rfl
    · rfl

/-- The state of Ox `x` whose feeders hold nothing any more of what they consumed. -/
def State.oxEmptied (s : State) (x : Nat) : State :=
  (s.updQueue (2 * x) (fun q => { q with fed := [] })).updQueue (2 * x + 1) (fun q => { q with fed := [] })

theorem State.queue_oxEmptied (s : State) (x k : Nat) :
    (s.oxEmptied x).queue k = if k = 2 * x ∨ k = 2 * x + 1 then { s.queue k with fed := [] } else s.queue k := by
  rw [State.oxEmptied, State.queue_updQueue, State.queue_updQueue, State.queue_updQueue]
  by_cases ha : k = 2 * x
  · subst ha
    simp
  · by_cases hb : k = 2 * x + 1
    · subst hb
      simp
    · simp [ha, hb]

/-! ## The drain (04 R86, R91) -/

/-- Ox `x` writes tile `y` into its bank and passes the bank's token on. -/
def State.drainTile (s : State) (x : Nat) (y : OxTile) : State :=
  let s1 := (s.poke (spaceKey (bankSpace x y.bank) 0) (wordBytes y.words)).setToken (2 * x + y.bank) (.toGoat y.tag)
  { s1 with unit.tiles := s1.unit.tiles.erase y }

theorem State.token_drainTile (s : State) (x : Nat) (y : OxTile) (j : Nat) :
    (s.drainTile x y).token j = if j = 2 * x + y.bank then .toGoat y.tag else s.token j :=
  Tab.get_set _ _ _ _ _

theorem State.stored_drainTile_of_space (s : State) {x : Nat} {y : OxTile} {k : Nat} (h : k / 2 ^ 48 ≠ bankSpace x y.bank) :
    (s.drainTile x y).stored k = s.stored k :=
  s.stored_poke_of_space _ (by rwa [spaceKey_div (by decide)])

theorem State.natAt_drainTile (s : State) {x : Nat} {y : OxTile} {p : Nat} (hx : x < 120) (hb : y.bank < 2)
    (hw : y.words.length = 16384) (hp : p < 16384) :
    (s.drainTile x y).natAt (spaceKey (bankSpace x y.bank) (4 * p)) 4 = (y.words.getD p 0).toNat := by
  rw [← spaceKey_add, ← s.natAt_poke_words (key := spaceKey (bankSpace x y.bank) 0) (hw ▸ hp)
    (by rw [spaceKey_div (by decide), spaceKey_mod (by decide), spaceSize_bankSpace hx hb]; omega)]
  exact State.natAt_congr rfl fun _ _ => rfl

theorem State.drainOx_of_none {s : State} {x : Nat} (h : s.unit.tiles.find? (fun y => y.ox == x) = none) (n : Nat) :
    s.drainOx x n = s := by
  cases n with
  | zero => rfl
  | succ n => rw [State.drainOx, h]

theorem State.drainOx_of_token {s : State} {x : Nat} {y : OxTile} (h : s.unit.tiles.find? (fun y => y.ox == x) = some y)
    (ht : s.token (2 * x + y.bank) = .atOx) (n : Nat) : s.drainOx x (n + 1) = (s.drainTile x y).drainOx x n := by
  rw [State.drainOx, h]
  exact if_pos ht

/-- What every tile's way into its bank keeps, the drain keeps. -/
theorem State.drainOx_keeps {P : State → Prop} {x : Nat}
    (hstep : ∀ r y, r.token (2 * x + y.bank) = .atOx → P r → P (r.drainTile x y)) (n : Nat) {s : State} (hs : P s) :
    P (s.drainOx x n) := by
  induction n generalizing s with
  | zero => exact hs
  | succ n ih =>
    rw [State.drainOx]
    split
    · rename_i y _
      split
      · rename_i ht
        exact ih (hstep s y ht hs)
      · exact hs
    · exact hs

/-- The drain touches tokens and tiles of the units' state alone. -/
theorem State.drainOx_unit (s : State) (x n : Nat) :
    (s.drainOx x n).unit.streams = s.unit.streams ∧ (s.drainOx x n).unit.queues = s.unit.queues :=
  State.drainOx_keeps (P := fun r => r.unit.streams = s.unit.streams ∧ r.unit.queues = s.unit.queues)
    (fun _ _ _ h => h) n ⟨rfl, rfl⟩

/-- The drain writes into banks alone. -/
theorem State.stored_drainOx (s : State) (x n : Nat) {k : Nat} (hk : k / 2 ^ 48 < 0x6000) :
    (s.drainOx x n).stored k = s.stored k :=
  State.drainOx_keeps (P := fun r => r.stored k = s.stored k)
    (fun r y _ h => (r.stored_drainTile_of_space (by unfold bankSpace; omega)).trans h) n rfl

/-- A bank whose token is away from the Ox keeps its bytes and its token. -/
theorem State.drainOx_bank_held (s : State) (x n : Nat) {b : Nat} (ht : s.token (2 * x + b) ≠ .atOx) :
    (s.drainOx x n).token (2 * x + b) = s.token (2 * x + b) ∧
      ∀ k, k / 2 ^ 48 = bankSpace x b → (s.drainOx x n).stored k = s.stored k := by
  refine State.drainOx_keeps (P := fun r => r.token (2 * x + b) = s.token (2 * x + b) ∧
    ∀ k, k / 2 ^ 48 = bankSpace x b → r.stored k = s.stored k) (fun r y hy ⟨htok, hmem⟩ => ?_) n ⟨rfl, fun _ _ => rfl⟩
  have hne : b ≠ y.bank := by
    rintro rfl
    exact ht (htok.symm.trans hy)
  refine ⟨?_, fun k hk => ?_⟩
  · rw [State.token_drainTile, if_neg (by omega), htok]
  · rw [State.stored_drainTile_of_space r (by unfold bankSpace at hk ⊢; omega), hmem k hk]

/-- The Ox's first tile goes into its bank, whose token goes to the Goat with the tile's tag. -/
theorem State.drainOx_first {s : State} {x : Nat} {y : OxTile} {n : Nat} (hx : x < 120)
    (hfind : s.unit.tiles.find? (fun y => y.ox == x) = some y) (hb : y.bank < 2) (hw : y.words.length = 16384)
    (ht : s.token (2 * x + y.bank) = .atOx) (hn : 0 < n) :
    (s.drainOx x n).token (2 * x + y.bank) = .toGoat y.tag ∧
      ∀ p, p < 16384 → (s.drainOx x n).natAt (spaceKey (bankSpace x y.bank) (4 * p)) 4 = (y.words.getD p 0).toNat := by
  obtain ⟨m, rfl⟩ : ∃ m, n = m + 1 := ⟨n - 1, by omega⟩
  have htok : (s.drainTile x y).token (2 * x + y.bank) = .toGoat y.tag := by rw [State.token_drainTile, if_pos rfl]
  obtain ⟨hkept, hbytes⟩ := (s.drainTile x y).drainOx_bank_held x m (b := y.bank) (by rw [htok]; simp)
  rw [State.drainOx_of_token hfind ht]
  refine ⟨hkept.trans htok, fun p hp => ?_⟩
  rw [← s.natAt_drainTile hx hb hw hp]
  exact State.natAt_congr (by simp) fun i hi => hbytes _ (by unfold spaceKey; omega)

/-! ## The partial area (04 R82, R85) -/

/-- Tiles laid one after another from a key on. -/
def State.pokeTiles (s : State) (key : Nat) (ws : Nat → List Word) (n : Nat) : State :=
  (List.range n).foldl (fun r t => r.poke (key + 65536 * t) (wordBytes (ws t))) s

theorem State.pokeTiles_succ (s : State) (key : Nat) (ws : Nat → List Word) (n : Nat) :
    s.pokeTiles key ws (n + 1) = (s.pokeTiles key ws n).poke (key + 65536 * n) (wordBytes (ws n)) := by
  simp [State.pokeTiles, List.range_succ]

theorem State.natAt_pokeTiles (s : State) {key : Nat} {ws : Nat → List Word} (hws : ∀ n, (ws n).length = 16384) {m n p : Nat}
    (hn : n < m) (hp : p < 16384) (hs : key % 2 ^ 48 + 65536 * m ≤ spaceSize (key / 2 ^ 48)) :
    (s.pokeTiles key ws m).natAt (key + 65536 * n + 4 * p) 4 = ((ws n).getD p 0).toNat := by
  have hsize := spaceSize_le (key / 2 ^ 48)
  induction m with
  | zero => cases hn
  | succ m ih =>
    rw [State.pokeTiles_succ]
    rcases Nat.lt_succ_iff_lt_or_eq.mp hn with hlt | rfl
    · rw [State.natAt_poke_of_disjoint _ (by omega), ih hlt (by omega)]
    · have hkey : (key + 65536 * n) / 2 ^ 48 = key / 2 ^ 48 ∧ (key + 65536 * n) % 2 ^ 48 = key % 2 ^ 48 + 65536 * n := by
        generalize spaceSize (key / 2 ^ 48) = z at hs hsize
        omega
      exact State.natAt_poke_words _ (by rw [hws]; exact hp) (by rw [hkey.1, hkey.2]; omega)

theorem State.stored_pokeTiles_of_space (s : State) {key : Nat} (ws : Nat → List Word) {n k : Nat}
    (hkey : key % 2 ^ 48 + 65536 * n < 2 ^ 48) (hk : k / 2 ^ 48 ≠ key / 2 ^ 48) :
    (s.pokeTiles key ws n).stored k = s.stored k := by
  induction n with
  | zero => rfl
  | succ n ih => rw [State.pokeTiles_succ, State.stored_poke_of_space _ _ (by omega), ih (by omega)]

/-- The partial area's header: NEXT_CHUNK, VALID and the streamed extent (04 R82). -/
def partialHead (c : OxCmd) (o : OxOut) : Nat :=
  fields [(0, (c.chunk0 + o.kEff / 128) % 2 ^ 29), (31, 1), (32, c.streamed o.mEff o.nEff)]

theorem partialHead_eq (c : OxCmd) (o : OxOut) :
    partialHead c o = (c.chunk0 + o.kEff / 128) % 2 ^ 29 + 2 ^ 31 + c.streamed o.mEff o.nEff * 2 ^ 32 := by
  rw [partialHead, fields_three, Nat.shiftLeft_eq, Nat.shiftLeft_eq, Nat.shiftLeft_eq, pow_zero, Nat.mul_one, Nat.one_mul]

theorem State.oxPartial_of_open (s : State) (x : Nat) {c : OxCmd} (o : OxOut) (h : c.last = false) :
    s.oxPartial x c o = (s.pokeTiles (oxKey x c.accAddr + 256) (s.oxTileWords x c o) (c.tiles o.mEff o.nEff)).poke
      (oxKey x c.accAddr) (natLe 256 (partialHead c o)) := by
  have hopen : (!c.last) = true := by rw [h]; rfl
  unfold State.oxPartial
  exact if_pos hopen

/-- A finished product leaves the partial area alone, or clears its VALID. -/
theorem State.oxPartial_of_last (s : State) (x : Nat) {c : OxCmd} (o : OxOut) (h : c.last = true) :
    s.oxPartial x c o = s ∨ ∃ data, s.oxPartial x c o = s.poke (oxKey x c.accAddr) data := by
  rw [State.oxPartial, if_neg (by rw [h]; decide)]
  split
  · exact .inr ⟨_, rfl⟩
  · exact .inl rfl

theorem oxKey_div {x a : Nat} (ha : a < 2 ^ 14) : oxKey x a / 2 ^ 48 = oxSpace x := spaceKey_div (by omega)

theorem oxKey_mod {x a : Nat} (ha : a < 2 ^ 14) : oxKey x a % 2 ^ 48 = 256 * a := spaceKey_mod (by omega)

theorem State.stored_oxPartial (s : State) {x : Nat} {c : OxCmd} {o : OxOut} {k : Nat} (ha : c.accAddr < 2 ^ 14)
    (ht : c.tiles o.mEff o.nEff ≤ 2 ^ 13) (hk : k / 2 ^ 48 ≠ oxSpace x) : (s.oxPartial x c o).stored k = s.stored k := by
  have hdiv := oxKey_div (x := x) ha
  have hmod := oxKey_mod (x := x) ha
  have hpoke : ∀ (r : State) (data : List Byte), (r.poke (oxKey x c.accAddr) data).stored k = r.stored k :=
    fun r data => r.stored_poke_of_space data (by rwa [hdiv])
  cases hl : c.last with
  | false => rw [s.oxPartial_of_open x o hl, hpoke, State.stored_pokeTiles_of_space _ _ (by omega) (by omega)]
  | true =>
    rcases s.oxPartial_of_last x o hl with heq | ⟨data, heq⟩
    · rw [heq]
    · rw [heq, hpoke]

/-- What LAST = 0 leaves at ACC_ADDR: the header, and the words of every tile. -/
theorem State.natAt_oxPartial (s : State) {x : Nat} {c : OxCmd} {o : OxOut} (hx : x < 120) (hl : c.last = false)
    (ha : c.accAddr < 2 ^ 14) (he : c.streamed o.mEff o.nEff < 2 ^ 13)
    (hs : 256 * c.accAddr + 256 + 65536 * c.tiles o.mEff o.nEff ≤ 0x400000) :
    (s.oxPartial x c o).natAt (oxKey x c.accAddr) 8 =
        (c.chunk0 + o.kEff / 128) % 2 ^ 29 + 2 ^ 31 + c.streamed o.mEff o.nEff * 2 ^ 32 ∧
      ∀ n p, n < c.tiles o.mEff o.nEff → p < 16384 →
        (s.oxPartial x c o).natAt (oxKey x c.accAddr + 256 + 65536 * n + 4 * p) 4 = ((s.oxTileWords x c o n).getD p 0).toNat := by
  have hdiv := oxKey_div (x := x) ha
  have hmod := oxKey_mod (x := x) ha
  have hsize : spaceSize (oxKey x c.accAddr / 2 ^ 48) = 0x400000 := by rw [hdiv, spaceSize_oxSpace hx]
  rw [s.oxPartial_of_open x o hl]
  refine ⟨?_, fun n p hn hp => ?_⟩
  · rw [State.natAt_poke_start _ (by rw [length_natLe]; decide) (by omega), take_natLe (by decide), leNat_natLe, partialHead_eq]
    omega
  · have hkey : (oxKey x c.accAddr + 256) / 2 ^ 48 = oxKey x c.accAddr / 2 ^ 48 := by omega
    rw [State.natAt_poke_of_disjoint _ (.inr (by simp only [length_natLe]; omega))]
    exact State.natAt_pokeTiles s (s.length_oxTileWords x c o) hn hp (by rw [hkey, hsize]; omega)

/-! ## Extents (04 R107) -/

theorem State.oxRun_extents (s : State) (x : Nat) (c : OxCmd) (fa fb : Fmt) (cnt code : Nat) :
    (s.oxRun x c fa fb cnt code).mEff = (c.extents cnt).1 ∧ (s.oxRun x c fa fb cnt code).nEff = (c.extents cnt).2.1 ∧
      (s.oxRun x c fa fb cnt code).code = code :=
  ⟨rfl, rfl, rfl⟩

theorem OxCmd.extents_le (c : OxCmd) (n : Nat) : (c.extents n).1 ≤ c.m ∧ (c.extents n).2.1 ≤ c.n := by
  unfold OxCmd.extents
  split
  · split
    · exact ⟨le_rfl, Nat.min_le_right _ _⟩
    · exact ⟨Nat.min_le_right _ _, le_rfl⟩
  · exact ⟨le_rfl, le_rfl⟩
  · exact ⟨le_rfl, le_rfl⟩

theorem OxCmd.tiles_eq (c : OxCmd) (m n : Nat) : c.tiles m n = ceilDiv (c.streamed m n) 128 := by
  unfold OxCmd.tiles OxCmd.streamed
  split <;> rfl

theorem OxCmd.tiles_pos {c : OxCmd} {m n : Nat} (h : c.streamed m n ≠ 0) : 0 < c.tiles m n := by
  rw [OxCmd.tiles_eq, ceilDiv]
  omega

theorem OxCmd.tiles_le {c : OxCmd} {m n : Nat} (h : c.streamed m n < 2 ^ 13) : c.tiles m n ≤ 2 ^ 13 := by
  rw [OxCmd.tiles_eq, ceilDiv]
  omega

/-- A descriptor's extents have 13 bits (04 Table 04-8). -/
theorem oxRun_streamed_lt (s : State) (x d : Nat) (fa fb : Fmt) (cnt code : Nat) :
    let o := s.oxRun x (oxCmd d) fa fb cnt code
    (oxCmd d).streamed o.mEff o.nEff < 2 ^ 13 := by
  have hm : (oxCmd d).m < 2 ^ 13 := bits_lt d 288 13
  have hn : (oxCmd d).n < 2 ^ 13 := bits_lt d 304 13
  obtain ⟨hme, hne⟩ := (oxCmd d).extents_le cnt
  obtain ⟨hom, hon, -⟩ := s.oxRun_extents x (oxCmd d) fa fb cnt code
  intro o
  rw [hom, hon, OxCmd.streamed]
  split
  · exact hne.trans_lt hn
  · exact hme.trans_lt hm

/-! ## An Ox command has its effects (04 R82 to R87, R91) -/

/-- The output tiles of the command of descriptor position `desc` and repetition `rep`, in the order of their drain. -/
def oxTileList (x : Nat) (c : OxCmd) (desc rep n : Nat) (ws : Nat → List Word) : List OxTile :=
  (List.range n).map (fun t => { ox := x, bank := (c.bank0 + t) % 2, tag := t, desc := desc, rep := rep, words := ws t })

/-- The state in which the command `w` of Ox `x` has its results `o` and its feeders hold nothing more. -/
def State.oxLaunched (s : State) (x : Nat) (w : Work) (o : OxOut) : State :=
  (s.launch x (s.oxFlight x w.desc (oxCmd w.desc) o)).oxEmptied x

/-- The state with more tiles in the Oxes. -/
def State.addTiles (s : State) (l : List OxTile) : State := { s with unit.tiles := s.unit.tiles ++ l }

section Issue

variable (s : State) (x : Nat) (w : Work) (fa fb : Fmt)

/-- The results of the command `w` of Ox `x`. -/
def State.oxResult : OxOut := s.oxRun x (oxCmd w.desc) fa fb w.count w.code

/-- The state after the partial area is written. -/
def State.oxParted : State := (s.oxLaunched x w (s.oxResult x w fa fb)).oxPartial x (oxCmd w.desc) (s.oxResult x w fa fb)

theorem State.oxIssue_of_empty (h : (oxCmd w.desc).streamed (s.oxResult x w fa fb).mEff (s.oxResult x w fa fb).nEff = 0) :
    s.oxIssue x w fa fb = s.oxLaunched x w (s.oxResult x w fa fb) :=
  if_pos h

theorem State.oxIssue_of_open (h : (oxCmd w.desc).streamed (s.oxResult x w fa fb).mEff (s.oxResult x w fa fb).nEff ≠ 0)
    (hl : (oxCmd w.desc).last = false) : s.oxIssue x w fa fb = s.oxParted x w fa fb :=
  (if_neg h).trans (if_neg (by rw [hl]; decide))

theorem State.oxIssue_of_last (h : (oxCmd w.desc).streamed (s.oxResult x w fa fb).mEff (s.oxResult x w fa fb).nEff ≠ 0)
    (hl : (oxCmd w.desc).last = true) :
    ∃ (desc rep : Nat) (r : State), r = (s.oxParted x w fa fb).addTiles (oxTileList x (oxCmd w.desc) desc rep
        ((oxCmd w.desc).tiles (s.oxResult x w fa fb).mEff (s.oxResult x w fa fb).nEff)
        (s.oxTileWords x (oxCmd w.desc) (s.oxResult x w fa fb))) ∧
      s.oxIssue x w fa fb = r.drainOx x r.unit.tiles.length :=
  ⟨_, _, _, rfl, (if_neg h).trans (if_pos hl)⟩

/-- What an Ox command does to the state: it has its results; with a streamed extent it also writes its partial area, and tiles
may follow into the drain. -/
theorem State.oxIssue_cases : s.oxIssue x w fa fb = s.oxLaunched x w (s.oxResult x w fa fb) ∨
    ∃ l n, s.oxIssue x w fa fb = ((s.oxParted x w fa fb).addTiles l).drainOx x n := by
  by_cases he : (oxCmd w.desc).streamed (s.oxResult x w fa fb).mEff (s.oxResult x w fa fb).nEff = 0
  · exact .inl (s.oxIssue_of_empty x w fa fb he)
  · cases hl : (oxCmd w.desc).last with
    | false => exact .inr ⟨[], 0, by rw [s.oxIssue_of_open x w fa fb he hl]; simp [State.addTiles, State.drainOx]⟩
    | true =>
      obtain ⟨_, _, r, rfl, heq⟩ := s.oxIssue_of_last x w fa fb he hl
      exact .inr ⟨_, _, heq⟩

/-- Results and emptied feeders touch streams and queues alone. -/
theorem State.oxLaunched_keeps (o : OxOut) :
    (s.oxLaunched x w o).mem = s.mem ∧ (s.oxLaunched x w o).freeIdx = s.freeIdx ∧
      (s.oxLaunched x w o).unit.tokens = s.unit.tokens ∧ (s.oxLaunched x w o).unit.tiles = s.unit.tiles := by
  obtain ⟨v, hv⟩ := s.setLast_eq x (fun g => { s.oxFlight x w.desc (oxCmd w.desc) o with
    desc := g.desc, rep := g.rep, beat := g.beat, slipped := g.slipped, work := none })
  rw [State.oxLaunched, State.launch, hv]
  exact ⟨rfl, rfl, rfl, rfl⟩

theorem State.oxIssue_streams : (s.oxIssue x w fa fb).unit.streams =
    (s.launch x (s.oxFlight x w.desc (oxCmd w.desc) (s.oxResult x w fa fb))).unit.streams := by
  rcases s.oxIssue_cases x w fa fb with heq | ⟨l, n, heq⟩
  · rw [heq]
    rfl
  · rw [heq, (State.drainOx_unit _ x n).1, State.addTiles, State.oxParted]
    simp only [State.oxPartial_frame]
    rfl

theorem State.queue_oxIssue (k : Nat) : (s.oxIssue x w fa fb).queue k = (s.oxEmptied x).queue k := by
  have hlaunched : (s.oxLaunched x w (s.oxResult x w fa fb)).queue k = (s.oxEmptied x).queue k := by
    obtain ⟨v, hv⟩ := s.setLast_eq x (fun g => { s.oxFlight x w.desc (oxCmd w.desc) (s.oxResult x w fa fb) with
      desc := g.desc, rep := g.rep, beat := g.beat, slipped := g.slipped, work := none })
    rw [State.oxLaunched, State.launch, hv]
    rfl
  rw [← hlaunched]
  rcases s.oxIssue_cases x w fa fb with heq | ⟨l, n, heq⟩
  · rw [heq]
  · rw [heq, State.queue, (State.drainOx_unit _ x n).2, State.addTiles, State.oxParted]
    simp only [State.oxPartial_frame]
    rfl

/-- An Ox command writes its own scratchpad and banks alone. -/
theorem State.stored_oxIssue {k : Nat} (hx : k / 2 ^ 48 ≠ oxSpace x) (hk : k / 2 ^ 48 < 0x6000) :
    (s.oxIssue x w fa fb).stored k = s.stored k := by
  have hlaunched : (s.oxLaunched x w (s.oxResult x w fa fb)).stored k = s.stored k := by
    rw [State.stored, (s.oxLaunched_keeps x w _).1, State.stored]
  have hparted : (s.oxParted x w fa fb).stored k = s.stored k :=
    (State.stored_oxPartial _ (bits_lt w.desc 224 14) (OxCmd.tiles_le (oxRun_streamed_lt s x w.desc fa fb w.count w.code)) hx).trans
      hlaunched
  rcases s.oxIssue_cases x w fa fb with heq | ⟨l, n, heq⟩
  · rw [heq, hlaunched]
  · rw [heq, State.stored_drainOx _ x n hk]
    exact hparted

/-- A command of streamed extent 0 writes nothing. -/
theorem State.oxIssue_empty (h : (oxCmd w.desc).streamed (s.oxResult x w fa fb).mEff (s.oxResult x w fa fb).nEff = 0) :
    (s.oxIssue x w fa fb).mem = s.mem ∧ (s.oxIssue x w fa fb).unit.tokens = s.unit.tokens := by
  rw [s.oxIssue_of_empty x w fa fb h]
  obtain ⟨hmem, -, htok, -⟩ := s.oxLaunched_keeps x w (s.oxResult x w fa fb)
  exact ⟨hmem, htok⟩

/-- LAST = 0 leaves the header and the partial words at ACC_ADDR (04 R82, R85). -/
theorem State.oxIssue_open (hx : x < 120) (hl : (oxCmd w.desc).last = false)
    (he : (oxCmd w.desc).streamed (s.oxResult x w fa fb).mEff (s.oxResult x w fa fb).nEff ≠ 0)
    (hs : 256 * (oxCmd w.desc).accAddr + 256 +
      65536 * (oxCmd w.desc).tiles (s.oxResult x w fa fb).mEff (s.oxResult x w fa fb).nEff ≤ 0x400000) :
    (s.oxIssue x w fa fb).natAt (oxKey x (oxCmd w.desc).accAddr) 8 =
        ((oxCmd w.desc).chunk0 + (s.oxResult x w fa fb).kEff / 128) % 2 ^ 29 + 2 ^ 31 +
          (oxCmd w.desc).streamed (s.oxResult x w fa fb).mEff (s.oxResult x w fa fb).nEff * 2 ^ 32 ∧
      ∀ n p, n < (oxCmd w.desc).tiles (s.oxResult x w fa fb).mEff (s.oxResult x w fa fb).nEff → p < 16384 →
        (s.oxIssue x w fa fb).natAt (oxKey x (oxCmd w.desc).accAddr + 256 + 65536 * n + 4 * p) 4 =
          ((s.oxTileWords x (oxCmd w.desc) (s.oxResult x w fa fb) n).getD p 0).toNat := by
  obtain ⟨hmem, hfree, -, -⟩ := s.oxLaunched_keeps x w (s.oxResult x w fa fb)
  obtain ⟨hhead, hwords⟩ := (s.oxLaunched x w (s.oxResult x w fa fb)).natAt_oxPartial hx hl (bits_lt w.desc 224 14)
    (oxRun_streamed_lt s x w.desc fa fb w.count w.code) hs
  rw [s.oxIssue_of_open x w fa fb he hl]
  exact ⟨hhead, fun n p hn hp => by rw [← State.oxTileWords_congr hmem hfree]; exact hwords n p hn hp⟩

/-- LAST = 1 puts the first tile into the bank BANK_0, whose token goes to the Goat with tag 0 (04 R86, R91). -/
theorem State.oxIssue_last (hx : x < 120) (hl : (oxCmd w.desc).last = true)
    (he : (oxCmd w.desc).streamed (s.oxResult x w fa fb).mEff (s.oxResult x w fa fb).nEff ≠ 0)
    (hnone : ∀ y ∈ s.unit.tiles, y.ox ≠ x) (ht : s.token (2 * x + (oxCmd w.desc).bank0) = .atOx) :
    (s.oxIssue x w fa fb).token (2 * x + (oxCmd w.desc).bank0) = .toGoat 0 ∧
      ∀ p, p < 16384 → (s.oxIssue x w fa fb).natAt (spaceKey (bankSpace x (oxCmd w.desc).bank0) (4 * p)) 4 =
        ((s.oxTileWords x (oxCmd w.desc) (s.oxResult x w fa fb) 0).getD p 0).toNat := by
  obtain ⟨-, -, htok, htiles⟩ := s.oxLaunched_keeps x w (s.oxResult x w fa fb)
  obtain ⟨desc, rep, r, hr, heq⟩ := s.oxIssue_of_last x w fa fb he hl
  obtain ⟨m, hm⟩ : ∃ m, (oxCmd w.desc).tiles (s.oxResult x w fa fb).mEff (s.oxResult x w fa fb).nEff = m + 1 :=
    ⟨_, (Nat.sub_add_cancel (OxCmd.tiles_pos he)).symm⟩
  have hbank : (oxCmd w.desc).bank0 < 2 := bits_lt w.desc 133 1
  have hrt : r.unit.tiles = s.unit.tiles ++ oxTileList x (oxCmd w.desc) desc rep (m + 1)
      (s.oxTileWords x (oxCmd w.desc) (s.oxResult x w fa fb)) := by
    rw [hr, ← hm, State.addTiles, State.oxParted]
    simp only [State.oxPartial_frame, htiles]
  obtain ⟨y, hfind, hb, htag, hwords⟩ : ∃ y, r.unit.tiles.find? (fun y => y.ox == x) = some y ∧
      y.bank = (oxCmd w.desc).bank0 ∧ y.tag = 0 ∧ y.words = s.oxTileWords x (oxCmd w.desc) (s.oxResult x w fa fb) 0 := by
    rw [hrt, List.find?_append, List.find?_eq_none.mpr (by simpa using hnone)]
    simp [oxTileList, List.range_succ_eq_map, Nat.mod_eq_of_lt hbank]
  have hrtok : r.token (2 * x + (oxCmd w.desc).bank0) = .atOx := by
    rw [← ht, hr, State.token, State.token, State.addTiles, State.oxParted]
    simp only [State.oxPartial_frame, htok]
  rw [heq, ← hwords, ← hb, ← htag]
  exact State.drainOx_first hx hfind (hb ▸ hbank) (by rw [hwords, State.length_oxTileWords]) (by rw [hb, hrtok])
    (List.length_pos_of_mem (List.mem_of_find?_eq_some hfind))

end Issue

/-! ## Cycle 0 and the feeders (04 R83, R91, R107) -/

/-- What the Ox command of descriptor `d` takes in at its cycle 0: the count of its shape word and the code of its start
conditions. -/
def State.oxWork (s : State) (x d : Nat) : Work :=
  let c := oxCmd d
  let cnt := s.shapeCount (oxKey x c.swAddr)
  let e := c.extents cnt
  let ext := c.streamed e.1 e.2.1
  { s.newWork d with count := cnt, code := if ext = 0 then 0 else s.oxCode x c ext e.2.2.1 }

theorem State.oxBegin_startsWith (s : State) (x d : Nat) : ∃ f, StartsWith s (s.oxBegin x d) x d f ∧
    f.work = some (s.oxWork x d) ∧ f.planCyc = (oxCmd d).planCyc ∧ f.slackCyc = (oxCmd d).slackCyc ∧
    f.statKey = some (oxKey x (oxCmd d).statAddr) := by
  have hstart := startsWith_startCmd s x d (f := { s.newFlight x d with
    work := some (s.oxWork x d), planCyc := (oxCmd d).planCyc, slackCyc := (oxCmd d).slackCyc,
    statKey := some (oxKey x (oxCmd d).statAddr) }) rfl rfl rfl rfl rfl rfl rfl
  exact ⟨_, hstart.setLast (g := fun f => { f with
    outs := (oxCmd d).loose x ((oxCmd d).extents (s.oxWork x d).count).1 ((oxCmd d).extents (s.oxWork x d).count).2.1 })
    rfl rfl rfl rfl rfl rfl rfl, rfl, rfl, rfl, rfl⟩

/-- Cycle 0 touches the streams alone. -/
theorem State.oxBegin_eq (s : State) (x d : Nat) : ∃ v, s.oxBegin x d = { s with unit.streams := v } := by
  obtain ⟨v, hv⟩ := (s.parkCmd x (s.oxWork x d) (oxCmd d).planCyc (oxCmd d).slackCyc (oxKey x (oxCmd d).statAddr)).setLast_eq x
    (fun f => { f with
      outs := (oxCmd d).loose x ((oxCmd d).extents (s.oxWork x d).count).1 ((oxCmd d).extents (s.oxWork x d).count).2.1 })
  exact ⟨v, hv⟩

/-- A command with both operands in its scratchpad needs no byte of its queues. -/
theorem State.oxNeeds_of_memory (s : State) (x : Nat) {c : OxCmd} (fa fb : Fmt) (cnt : Nat) (ha : c.qA = false) (hb : c.qB = false) :
    s.oxNeeds x c fa fb cnt = (0, 0) := by
  simp [State.oxNeeds, ha, hb]

/-- The feeders of the command in hand take in what their queues hold; it has its effects once they have all it needs. -/
theorem State.oxFeed_of_parked {s : State} {x : Nat} {w : Work} {fa fb : Fmt} {n : Nat × Nat} (hp : s.parked x = some w)
    (ha : fmtOfByte (oxCmd w.desc).fmtA = some fa) (hb : fmtOfByte (oxCmd w.desc).fmtB = some fb)
    (hn : s.oxNeeds x (oxCmd w.desc) fa fb w.count = n) :
    s.oxFeed x = if n.1 ≤ ((s.oxFed x n).queue (2 * x)).fed.length ∧ n.2 ≤ ((s.oxFed x n).queue (2 * x + 1)).fed.length then
      (s.oxFed x n).oxIssue x w fa fb else s.oxFed x n := by
  simp only [State.oxFeed, hp, ha, hb, hn, Bool.and_eq_true, decide_eq_true_eq]
  rfl

theorem State.oxFeed_of_none {s : State} {x : Nat} (hp : s.parked x = none) : s.oxFeed x = s := by
  rw [State.oxFeed, hp]

theorem State.oxStep_of_ready {s : State} {x mode d : Nat} {fa fb : Fmt} (hr : s.readyOx x mode = some d)
    (ha : fmtOfByte (oxCmd d).fmtA = some fa) (hb : fmtOfByte (oxCmd d).fmtB = some fb) :
    s.oxStep x mode = (s.oxBegin x d).oxFeed x := by
  rw [State.oxStep, hr]
  dsimp only
  rw [ha, hb]

/-- A ready Ox command begins; its feeders take in what there is, and it has its effects if that is all it needs. Nothing but
the streams sets the state `r` apart from the one whose feeders have consumed those bytes. -/
theorem State.oxStep_cases {s : State} {x mode d : Nat} {fa fb : Fmt} (hr : s.readyOx x mode = some d)
    (ha : fmtOfByte (oxCmd d).fmtA = some fa) (hb : fmtOfByte (oxCmd d).fmtB = some fb) :
    let need := s.oxNeeds x (oxCmd d) fa fb (s.oxWork x d).count
    let fed := s.oxFed x need
    ∃ (f : InFlight) (v : Tab Stream) (r : State), r = { fed with unit.streams := v } ∧ StartsWith s r x d f ∧
      f.work = some (s.oxWork x d) ∧ f.planCyc = (oxCmd d).planCyc ∧ f.slackCyc = (oxCmd d).slackCyc ∧
      f.statKey = some (oxKey x (oxCmd d).statAddr) ∧
      s.oxStep x mode =
        if need.1 ≤ (fed.queue (2 * x)).fed.length ∧ need.2 ≤ (fed.queue (2 * x + 1)).fed.length then
          r.oxIssue x (s.oxWork x d) fa fb else r := by
  obtain ⟨f, hstart, hwork, hplan, hslack, hstat⟩ := s.oxBegin_startsWith x d
  obtain ⟨v, hv⟩ := s.oxBegin_eq x d
  intro need fed
  have hfeed := State.oxFeed_of_parked (n := need) (hstart.parked_eq.trans hwork) ha hb
    (State.oxNeeds_congr (by simp) (by simp) x (oxCmd d) fa fb _)
  have hqueue : ∀ k, ((s.oxBegin x d).oxFed x need).queue k = fed.queue k := fun k => by rw [hv]; rfl
  refine ⟨f, v, (s.oxBegin x d).oxFed x need, by rw [hv]; rfl, hstart.of_streams rfl, hwork, hplan, hslack, hstat, ?_⟩
  rw [State.oxStep_of_ready hr ha hb, hfeed, hqueue, hqueue]

/-! ## Bank tokens reach the Goat (05 R119) -/

theorem State.parked_setLast {s : State} {u : Nat} {f : InFlight} (h : (s.stream u).flight.getLast? = some f)
    (g : InFlight → InFlight) : (s.setLast u g).parked u = (g f).work :=
  State.parked_eq (l := (s.stream u).flight.dropLast) (by rw [State.stream_setLast h, if_pos rfl])

/-- A command that finds every bank token it names, each with the tag of its tile, waits for none. -/
theorem State.parked_bankStep {s : State} {g : Nat} {w : Work} (hp : s.parked (goatStream g) = some w) (hcode : w.code = 0)
    (hbanks : ∀ y ∈ w.banks, heldTag (s.bankToken y.1) = some y.2.2) :
    (s.bankStep g).parked (goatStream g) = some { w with due := [] } := by
  obtain ⟨f, hf⟩ : ∃ f, (s.stream (goatStream g)).flight.getLast? = some f := by
    unfold State.parked at hp
    split at hp
    · exact ⟨_, by assumption⟩
    · cases hp
  have htags : w.banks.map (fun b => (b.1, b.2.2, heldTag (s.bankToken b.1))) = w.banks.map (fun b => (b.1, b.2.2, some b.2.2)) :=
    List.map_congr_left fun y hy => by rw [hbanks y hy]
  have hdue : (w.banks.map (fun b => (b.1, b.2.2, some b.2.2))).filter (fun b => b.2.2.isNone) = [] := by
    refine List.filter_eq_nil_iff.mpr fun b hb => ?_
    obtain ⟨y, -, rfl⟩ := List.mem_map.mp hb
    simp
  rw [State.bankStep, hp]
  dsimp only
  rw [htags, hdue, if_neg (by rw [hcode]; decide), if_neg]
  · exact State.parked_setLast hf _
  · rw [Bool.and_eq_true]
    rintro ⟨-, hbad⟩
    obtain ⟨b, hb, hne⟩ := List.any_eq_true.mp hbad
    obtain ⟨y, -, rfl⟩ := List.mem_map.mp hb
    simp at hne

theorem State.goatDue_of_parked {s : State} {g : Nat} {w : Work} (hp : s.parked (goatStream g) = some w) (hd : w.due = []) :
    s.goatDue g = some w := by
  rw [State.goatDue, hp]
  exact if_pos (by rw [hd]; rfl)

theorem State.parked_goatIssue (s : State) (g : Nat) (w : Work) : (s.goatIssue g w).parked (goatStream g) = none :=
  State.parked_launch _ _ _

theorem State.parked_rowIssue (s : State) (g : Nat) (w : Work) : (s.rowIssue g w).parked (goatStream g) = none :=
  State.parked_launch _ _ _

theorem State.parked_updIssue (s : State) (g : Nat) (w : Work) : (s.updIssue g w).parked (goatStream g) = none :=
  State.parked_launch _ _ _

/-- A command in hand of a Goat that waits for no token has its effects, whichever engine runs it. -/
theorem State.parked_go {s : State} {g : Nat} {w : Work} (h : s.goatDue g = some w) :
    (s.goatGo g).parked (goatStream g) = none ∧ (s.rowGo g).parked (goatStream g) = none ∧
      (w.code ≠ 5 → (s.updGo g).parked (goatStream g) = none) := by
  refine ⟨?_, ?_, fun hcode => ?_⟩
  · rw [State.goatGo, h]
    exact State.parked_goatIssue _ g w
  · rw [State.rowGo, h]
    exact State.parked_rowIssue s g w
  · rw [State.updGo, h]
    dsimp only
    rw [if_neg hcode]
    exact State.parked_updIssue _ g w

theorem State.parked_resumeGoat {s : State} {g : Nat} {w : Work} (hp : s.parked (goatStream g) = some w) (hcode : w.code = 0)
    (hbanks : ∀ y ∈ w.banks, heldTag (s.bankToken y.1) = some y.2.2) : (s.resumeGoat g).parked (goatStream g) = none := by
  have hstep := State.parked_bankStep hp hcode hbanks
  obtain ⟨hgoat, hrow, hupd⟩ := State.parked_go (State.goatDue_of_parked hstep rfl)
  rw [State.resumeGoat, hstep]
  dsimp only
  split
  · exact hgoat
  · split
    · exact hrow
    · exact hupd (by rw [hcode]; decide)

theorem State.resumeGoat_of_none {s : State} {g : Nat} (hp : s.parked (goatStream g) = none) : s.resumeGoat g = s := by
  have hstep : s.bankStep g = s := by rw [State.bankStep, hp]
  rw [State.resumeGoat, hstep, hp]

theorem onlyChanges_unit (s : State) (v : Units) : OnlyChanges [.unit] s { s with unit := v } := by
  intro p hp
  cases p
  case unit => exact absurd (List.mem_singleton.mpr rfl) hp
  all_goals rfl

theorem State.oxStep_onlyChanges (s : State) (x mode : Nat) : OnlyChanges [.mem, .unit] s (s.oxStep x mode) := by
  intro p hp
  cases p
  case mem | unit => simp at hp
  all_goals simp [SamePart]

theorem exec_ox (x : Fin 120) (s : State) :
    ∀ im ∈ [(Instr.oxWs x, 0), (Instr.oxOs x, 1), (Instr.oxIs x, 2)], exec im.1 s = .next (s.oxStep x.val im.2) := by
  intro im him
  simp only [List.mem_cons, List.not_mem_nil, or_false] at him
  rcases him with rfl | rfl | rfl <;> rfl

/-! ## The statements -/

/-- BANK_TOKEN_PASS: the token arrives, and the Goat's command in hand may go on. -/
theorem bankTokenPass_moves (x : Fin 120) (b : Fin 2) (s : State) {tag : Nat} (ht : s.token (2 * x.val + b.val) = .toGoat tag) :
    ∃ t, exec (.bankTokenPass x b) s = .next t ∧
      (s.flt.pendingEntry = true ∨ s.parked (120 + x.val / 2) = none → t.token (2 * x.val + b.val) = .atGoat tag ∧
        (∀ j, j ≠ 2 * x.val + b.val → t.token j = s.token j) ∧ t.unit = { s.unit with tokens := t.unit.tokens } ∧
        OnlyChanges [.unit] s t) ∧
      (∀ w, s.flt.pendingEntry = false → s.parked (120 + x.val / 2) = some w → w.code = 0 →
        (∀ y ∈ w.banks, (if y.1 = 2 * x.val + b.val then some tag else heldTag (s.bankToken y.1)) = some y.2.2) →
        t.parked (120 + x.val / 2) = none) := by
  let s1 := s.setToken (2 * x.val + b.val) (.atGoat tag)
  have htoken : ∀ j, s1.token j = if j = 2 * x.val + b.val then .atGoat tag else s.token j := fun j => Tab.get_set _ _ _ _ _
  have hexec : exec (.bankTokenPass x b) s = .next (if s1.flt.pendingEntry then s1 else s1.resumeGoat (x.val / 2)) := by
    change execBankTokenPass x b s = _
    unfold execBankTokenPass
    dsimp only
    rw [show s.bankToken (2 * x.val + b.val) = .toGoat tag from ht]
    rfl
  refine ⟨_, hexec, fun hidle => ?_, fun w hpend hp hcode hbanks => ?_⟩
  · have hstay : (if s1.flt.pendingEntry then s1 else s1.resumeGoat (x.val / 2)) = s1 := by
      rcases hidle with hpend | hnone
      · exact if_pos hpend
      · rw [State.resumeGoat_of_none (s := s1) (g := x.val / 2) hnone, ite_self]
    rw [hstay]
    exact ⟨by rw [htoken, if_pos rfl], fun j hj => by rw [htoken, if_neg hj], rfl, onlyChanges_unit s _⟩
  · rw [if_neg (show ¬ s1.flt.pendingEntry = true by rw [show s1.flt = s.flt from rfl, hpend]; decide)]
    refine State.parked_resumeGoat (s := s1) hp hcode fun y hy => ?_
    rw [show s1.bankToken y.1 = _ from htoken y.1, ← hbanks y hy]
    split <;> rfl

/-- BANK_TOKEN_RETURN: the token reaches the Ox, whose drain goes on. -/
theorem bankTokenReturn_drains (x : Fin 120) (b : Fin 2) (s : State) (ht : s.token (2 * x.val + b.val) = .toOx) :
    ∃ t, exec (.bankTokenReturn x b) s = .next t ∧
      (s.unit.tiles.find? (fun y => y.ox == x.val) = none → t.token (2 * x.val + b.val) = .atOx ∧ t.mem = s.mem) ∧
      (∀ y, s.unit.tiles.find? (fun y => y.ox == x.val) = some y → y.bank = b.val → y.words.length = 16384 →
        t.token (2 * x.val + b.val) = .toGoat y.tag ∧
        ∀ p, p < 16384 → t.natAt (spaceKey (bankSpace x.val b.val) (4 * p)) 4 = (y.words.getD p 0).toNat) ∧
      (∀ j, j / 2 ^ 48 < 0x6000 → t.stored j = s.stored j) ∧ OnlyChanges [.mem, .unit] s t := by
  let s1 := s.setToken (2 * x.val + b.val) .atOx
  have htoken : s1.token (2 * x.val + b.val) = .atOx := Tab.get_set_self _ _ _ _
  have hexec : exec (.bankTokenReturn x b) s = .next (s1.drainOx x.val s1.unit.tiles.length) := by
    change execBankTokenReturn x b s = _
    unfold execBankTokenReturn
    rw [ht]
  refine ⟨_, hexec, fun hnone => ?_, fun y hfind hbank hwords => ?_, fun j hj => s1.stored_drainOx x.val _ hj, fun p hp => ?_⟩
  · rw [State.drainOx_of_none (s := s1) hnone]
    exact ⟨htoken, rfl⟩
  · rw [← hbank] at htoken ⊢
    exact State.drainOx_first (s := s1) x.isLt hfind (hbank ▸ b.isLt) hwords htoken
      (List.length_pos_of_mem (List.mem_of_find?_eq_some hfind))
  · cases p
    case mem | unit => simp at hp
    all_goals simp [SamePart, s1]

/-- A producer that sends what it has credits for touches its queue's flits, and a closed port's count and free number. -/
theorem State.sendQueue_keeps (s : State) (q : Nat) :
    (s.sendQueue q).mem = s.mem ∧ (s.sendQueue q).unit.streams = s.unit.streams ∧
      ∀ k, (s.sendQueue q).queue k =
        if k = q then (s.queue q).send (s.spaceFenced (oxSpace (q / 2))) else s.queue k := by
  have hunit : (s.sendQueue q).unit = (s.updQueue q (fun f => f.send (s.spaceFenced (oxSpace (q / 2))))).unit := by
    unfold State.sendQueue
    dsimp only
    split
    · simp
    · rfl
  refine ⟨by simp, by rw [hunit]; rfl, fun k => ?_⟩
  rw [State.queue, hunit]
  exact s.queue_updQueue q _ k

/-- QUEUE_CREDIT_RETURN: the credits of consumed flits reach the producer, which sends what it has waiting. -/
theorem queueCreditReturn_sends (x : Fin 120) (b : Fin 2) (s : State) : ∃ t, exec (.queueCreditReturn x b) s = .next t ∧
    (s.parked x.val = none → t.queue (2 * x.val + b.val) =
        ({ s.queue (2 * x.val + b.val) with returning := 0, credits := (s.queue (2 * x.val + b.val)).credits +
          (s.queue (2 * x.val + b.val)).returning } : FeedQueue).send (s.spaceFenced (oxSpace x.val)) ∧
      (∀ j, j ≠ 2 * x.val + b.val → t.queue j = s.queue j) ∧ t.mem = s.mem) ∧
    OnlyChanges [.unit, .mem, .geo, .free] s t := by
  refine ⟨_, rfl, fun hp => ?_, fun p hp => ?_⟩
  · let s2 := s.updQueue (2 * x.val + b.val) (fun f => { f with returning := 0, credits := f.credits + f.returning })
    obtain ⟨hmem, hstreams, hqueue⟩ := s2.sendQueue_keeps (2 * x.val + b.val)
    have hparked : (s2.sendQueue (2 * x.val + b.val)).parked x.val = none := by
      rw [State.parked, State.stream, hstreams]
      exact hp
    have hox : (2 * x.val + b.val) / 2 = x.val := by omega
    rw [State.oxFeed_of_none hp, State.oxFeed_of_none hparked]
    refine ⟨?_, fun j hj => ?_, hmem⟩
    · rw [hqueue, if_pos rfl, hox, State.queue_updQueue, if_pos rfl]
      rfl
    · rw [hqueue, if_neg hj, State.queue_updQueue, if_neg hj]
  · cases p
    case unit | mem | geo | free => simp at hp
    all_goals simp [SamePart]

/-- Settles O34: cycle 0 and the feeders by `oxStep_cases`, a command's effects by the lemmas on `oxIssue`; the first tile of a
drain reaches its bank by `drainOx_first`, and a command in hand of a Goat goes on by `parked_resumeGoat`. -/
theorem oxCommandsRunAndTokensMove : Obligations.OxCommandsRunAndTokensMove := by
  refine ⟨fun x d s fa fb im him hr ha hb => ?_, fun x b s =>
    ⟨fun tag ht => bankTokenPass_moves x b s ht, bankTokenReturn_drains x b s, queueCreditReturn_sends x b s⟩⟩
  intro c cnt e ext code need fed o part
  obtain ⟨f, v, r, hrfed, hstart, hwork, hplan, hslack, hstat, hstep⟩ := State.oxStep_cases hr ha hb
  by_cases henough : need.1 ≤ (fed.queue (2 * x.val)).fed.length ∧ need.2 ≤ (fed.queue (2 * x.val + 1)).fed.length
  · have hissued : s.oxStep x.val im.2 = r.oxIssue x.val (s.oxWork x.val d) fa fb := hstep.trans (if_pos henough)
    have hmem : r.mem = s.mem := by rw [hrfed]; rfl
    have htok : r.unit.tokens = s.unit.tokens := by rw [hrfed]; rfl
    have htiles : r.unit.tiles = s.unit.tiles := by rw [hrfed]; rfl
    have hqueue : ∀ k, r.queue k = fed.queue k := fun k => by rw [hrfed]; rfl
    have ho : r.oxResult x.val (s.oxWork x.val d) fa fb = o :=
      State.oxRun_congr (by rw [hrfed]; rfl) (by rw [hrfed]; rfl) (by rw [hrfed]; rfl) x.val c fa fb cnt code
    have hwords : ∀ n, r.oxTileWords x.val c o n = fed.oxTileWords x.val c o n :=
      State.oxTileWords_congr (by rw [hrfed]; rfl) (by rw [hrfed]; rfl) x.val c o
    have hissue := (hstart.launch (e := r.oxFlight x.val d c o) rfl rfl rfl rfl).of_streams
      (r := r.oxIssue x.val (s.oxWork x.val d) fa fb) (by rw [r.oxIssue_streams, ho]; rfl)
    refine ⟨s.oxStep x.val im.2, _, exec_ox x s im him, by rw [hissued]; exact hissue, rfl, rfl, rfl, fun _ _ =>
      ⟨rfl, rfl, rfl, fun hqa hqb k => ?_, fun h0 => ?_, fun hl h0 hs => ?_, fun hl h0 hnone ht => ?_, fun k hkx hk => ?_,
        s.oxStep_onlyChanges x.val im.2⟩, fun hshort => ?_⟩
    · have hkept : fed.queue k = s.queue k := by
        change (s.oxFed x.val (s.oxNeeds x.val c fa fb cnt)).queue k = _
        rw [s.oxNeeds_of_memory x.val fa fb cnt hqa hqb, State.queue_oxFed_zero]
      rw [hissued, r.queue_oxIssue, State.queue_oxEmptied, hqueue, hkept]
      split <;> rfl
    · obtain ⟨hkeptMem, hkeptTok⟩ := r.oxIssue_empty x.val (s.oxWork x.val d) fa fb (by rw [ho]; exact h0)
      rw [hissued]
      exact ⟨hkeptMem.trans hmem, hkeptTok.trans htok⟩
    · obtain ⟨hhead, hparts⟩ := r.oxIssue_open x.val (s.oxWork x.val d) fa fb x.isLt hl (by rw [ho]; exact h0)
        (by rw [ho]; exact hs)
      rw [ho] at hhead hparts
      rw [hissued]
      exact ⟨hhead, fun n p hn hp => by rw [← hwords]; exact hparts n p hn hp⟩
    · have hlast := r.oxIssue_last x.val (s.oxWork x.val d) fa fb x.isLt hl (by rw [ho]; exact h0) (by rw [htiles]; exact hnone)
        (by rw [State.token, htok]; exact ht)
      rw [ho] at hlast
      rw [hissued, ← hwords]
      exact hlast
    · rw [hissued, r.stored_oxIssue x.val _ fa fb hkx hk, State.stored, hmem, State.stored]
    · omega
  · have hwaits : s.oxStep x.val im.2 = r := hstep.trans (if_neg henough)
    refine ⟨s.oxStep x.val im.2, f, exec_ox x s im him, by rw [hwaits]; exact hstart, hplan, hslack, hstat,
      fun h1 h2 => absurd ⟨h1, h2⟩ henough, fun _ => ⟨by rw [hwork]; rfl, fun k => ?_, ?_⟩⟩
    · rw [hwaits, hrfed]
      rfl
    · rw [hwaits, hrfed]
      exact onlyChanges_unit s _

end Sys2Proof.Machine
end

section
/-! PROOFS. The commit decision (08 R195, 12 R310): the step record resets the step's tallies, and the gate counter is signalled
after it. -/

namespace Sys2Proof.Machine

/-! ## A signal that late contributions waited for (12 R297, R310) -/

/-- The late contributions that wait on counter `id` and are discarded when they arrive. -/
def State.lateOn (s : State) (id : Nat) : List Carry := s.plan.carries.filter (fun y => y.drop && y.wait == id)

theorem droppedNow_foldl_dropLate (l : List Carry) (hgrad : ∀ y ∈ l, y.trailer = false) (s : State) :
    (l.foldl (fun s y => s.dropLate y.trailer) s).plan.droppedNow = s.plan.droppedNow + l.length := by
  induction l generalizing s with
  | nil => rfl
  | cons y l ih =>
    have hone : (s.dropLate y.trailer).plan.droppedNow = s.plan.droppedNow + 1 := by
      rw [hgrad y List.mem_cons_self]
      rfl
    rw [List.foldl_cons, ih (fun z hz => hgrad z (List.mem_cons_of_mem y hz)), hone, List.length_cons]
    omega

/-- Each gradient contribution that is discarded adds one to the step's tally. -/
theorem State.droppedNow_discardLate (s : State) {id : Nat} (hgrad : ∀ y ∈ s.lateOn id, y.trailer = false) :
    (s.discardLate id).plan.droppedNow = s.plan.droppedNow + (s.lateOn id).length :=
  droppedNow_foldl_dropLate _ hgrad _

section Signal

variable {s : State} {id n : Nat} (hid : id ≠ noCtr) (hrep : (s.ctr id).rep = n % 2 ^ 16) (hshort : (s.ctr id).shortfall = 1)
include hid hrep hshort

/-- A signal covers the last of a shortfall: what waited for it has arrived. -/
theorem State.applySignal_last : s.applySignal id 1 (some n) =
    ((s.setCtr id { s.ctr id with value := (s.ctr id).value % 2 ^ 32, shortfall := 0 }).bump
      TimeCnt.lateSignals 1).discardLate id := by
  simp [State.applySignal, hid, hrep, hshort]

theorem State.droppedNow_applySignal_last (hgrad : ∀ y ∈ s.lateOn id, y.trailer = false) :
    (s.applySignal id 1 (some n)).plan.droppedNow = s.plan.droppedNow + (s.lateOn id).length := by
  rw [State.applySignal_last hid hrep hshort]
  exact State.droppedNow_discardLate _ hgrad

end Signal

theorem State.applySignal_noCtr (s : State) (inc : Nat) (rep : Option Nat) : s.applySignal noCtr inc rep = s := if_pos rfl

theorem State.droppedNow_entryDone_of_no_signal (s : State) {e : Entry} (h : e.sig = false) :
    (s.entryDone e).plan.droppedNow = s.plan.droppedNow := by
  simp [State.entryDone, h]

/-! ## COMMIT under SUPPRESS (08 R195) -/

/-- The state with the beat of the update-close entry noted that follows the commit in hand (08 R197). -/
def State.closeNoted (s : State) : State :=
  { s with plan.updateClose := s.fromClose.head?.map (fun x => s.repStart x.1 + x.2.2.offset) }

theorem exec_commit_of_trailer {s : State} {i red : Nat} {e : Entry} (hdue : s.dueKind 0x03 = some (i, e))
    (hred : s.plan.trailer = some red) : exec .commit s = .next ((s.closeNoted.decideStep red).entryDone e) := by
  change execCommit s = _
  simp only [execCommit, hdue, hred]
  rfl

/-- The state once the step record of a SUPPRESS with the reduced word `red` is written. -/
def State.suppressRecorded (s : State) (red : Nat) : State :=
  let word := healthWord red s.plan.step
  let s1 : State :=
    { s with
      plan.decision := 2
      plan.dstep := s.plan.step % 2 ^ 40
      plan.dbeat := s.time.beat
      plan.healthRed := word
      plan.trailer := none }
  (((s1.bump HealthCnt.suppressed 1).log (s.dog 5) 0x0022 0 0 word).emptyCarries.smSuppress word).writeStepRecord s.plan.step
    s.plan.variant

theorem State.droppedNow_suppressRecorded (s : State) (red : Nat) : (s.suppressRecorded red).plan.droppedNow = 0 := rfl

/-- Under SUPPRESS the gate and the regear counter are signalled once the step record is written. -/
theorem State.decideStep_suppress (s : State) {red : Nat} (hred : red % 16 ≠ 0) (hdog : s.roleMoving 5 = false) :
    s.decideStep red =
      ((s.suppressRecorded red).applySignal s.gateCtr 1 (some s.plan.repNow)).applySignal s.regearCtr 1 (some s.plan.repNow) := by
  simp [State.decideStep, hred, hdog, State.suppressRecorded]

/-- What waited for a gate counter that is short by one is counted after the tally's reset. -/
theorem State.droppedNow_decideStep_suppress {s : State} {red : Nat} (hred : red % 16 ≠ 0) (hdog : s.roleMoving 5 = false)
    (hgate : s.gateCtr ≠ noCtr) (hregear : s.regearCtr = noCtr)
    (hrep : ((s.suppressRecorded red).ctr s.gateCtr).rep = s.plan.repNow % 2 ^ 16)
    (hshort : ((s.suppressRecorded red).ctr s.gateCtr).shortfall = 1)
    (hgrad : ∀ y ∈ (s.suppressRecorded red).lateOn s.gateCtr, y.trailer = false) :
    (s.decideStep red).plan.droppedNow = ((s.suppressRecorded red).lateOn s.gateCtr).length := by
  rw [s.decideStep_suppress hred hdog, hregear, State.applySignal_noCtr, State.droppedNow_applySignal_last hgate hrep hshort hgrad,
    State.droppedNow_suppressRecorded, Nat.zero_add]

/-! ## A commit that leaves a tally -/

/-- The COMMIT entry at offset 0 of a repetition, with no signal. -/
def commitEntry : Entry := { offset := 0, kind := 3, arg := 0, ctr := noCtr, sig := false, target := 0 }

/-- A late gradient contribution of LATE_POLICY 0 that waits on counter 5. -/
def lateContribution : Carry :=
  { port := 0, addr := 8192, src := 4096, bytes := 64, step := 0, ctr := 6, wait := 5, trailer := false, copied := false, drop := true,
    lost := false }

/-- A running plan at address 0 with step records at 2^20 and, at 4096, a timetable of the one entry `commitEntry`. The gate counter
is 5, there is no regear counter. The reduced trailer has come with NONFIN set; counter 5 is short by one signal, and a late
contribution waits on it. -/
def gateShort : State :=
  { State.reset with
    dev := { Device.reset with state := .running }
    plan := { PlanState.reset with
      loaded := true, started := true, ctrShared := true, trailer := some 1, carries := [lateContribution],
      ctrs := [(5, { value := 1, rep := 0, shortfall := 1, late := true })] }
    mem := [(22, 5), (24, 0xFF), (25, 0x7F), (42, 0x10), (65, 0x10), (4108, 1), (4118, 3), (4120, 0xFF), (4121, 0x7F)] }

theorem gateShort_due : gateShort.dueKind 0x03 = some (0, commitEntry) := by decide +kernel

theorem gateShort_counters : gateShort.closeNoted.gateCtr = 5 ∧ gateShort.closeNoted.regearCtr = noCtr := by decide +kernel

/-- Once the step record is written, the gate counter is still short and the contribution still waits. -/
theorem gateShort_recorded : let r := gateShort.closeNoted.suppressRecorded 1
    (r.ctr 5).rep = 0 ∧ (r.ctr 5).shortfall = 1 ∧ r.lateOn 5 = [lateContribution] := by
  decide +kernel

theorem droppedNow_gateShort : (gateShort.closeNoted.decideStep 1).plan.droppedNow = 1 := by
  obtain ⟨hgate, hregear⟩ := gateShort_counters
  obtain ⟨hrep, hshort, hlate⟩ := gateShort_recorded
  have hgrad : ∀ y ∈ (gateShort.closeNoted.suppressRecorded 1).lateOn 5, y.trailer = false := by
    rw [hlate]
    decide
  have htally := State.droppedNow_decideStep_suppress (s := gateShort.closeNoted) (red := 1) (by decide) rfl (by rw [hgate]; decide)
    hregear (hgate.symm ▸ hrep) (hgate.symm ▸ hshort) (hgate.symm ▸ hgrad)
  rw [htally, hgate, hlate]
  rfl

/-- Refutes O58: in `gateShort` COMMIT decides SUPPRESS, and its signal of the gate counter is the one that the late contribution
waited for. The contribution is then dropped and counted in the step's tally, which the step record has reset before: the tally is 1
after the command and not 0. -/
theorem not_healthAndCommit : ¬ Obligations.HealthAndCommit := by
  rintro ⟨-, hcommit, -⟩
  obtain ⟨t, hexec, -, -, -, -, -, -, -, -, -, -, hdecided⟩ := hcommit 0 commitEntry gateShort gateShort_due
  obtain ⟨-, -, -, -, -, htallies, -⟩ := hdecided 1 rfl
  obtain ⟨-, -, hdropped, -⟩ := htallies rfl
  obtain rfl : t = (gateShort.closeNoted.decideStep 1).entryDone commitEntry :=
    next_state ((exec_commit_of_trailer gateShort_due rfl).symm.trans hexec)
  have hone : ((gateShort.closeNoted.decideStep 1).entryDone commitEntry).plan.droppedNow = 1 := by
    rw [State.droppedNow_entryDone_of_no_signal _ rfl, droppedNow_gateShort]
  exact absurd (hone.symm.trans (hdropped rfl)) (by decide)

end Sys2Proof.Machine
end

section
/-! PROOFS. Sampling and routing (10 R236, R237, 14 R352 to R354): the elements of a row by falling probability, the token drawn from
the kept ones, and the slots of a token with the quota that they take. -/

namespace Sys2Proof.Machine

/-! ## Lists put in an order -/

theorem perm_insertBy {α : Type} (le : α → α → Bool) (a : α) (l : List α) : (insertBy le a l).Perm (a :: l) := by
  induction l with
  | nil => exact .refl _
  | cons b l ih =>
    rw [insertBy]
    split
    · exact (ih.cons b).trans (.swap a b l)
    · exact .refl _

theorem sortBy_concat {α : Type} (le : α → α → Bool) (l : List α) (a : α) :
    sortBy le (l ++ [a]) = insertBy le a (sortBy le l) := by
  simp [sortBy]

theorem perm_sortBy {α : Type} (le : α → α → Bool) (l : List α) : (sortBy le l).Perm l := by
  induction l using List.reverseRecOn with
  | nil => exact .refl _
  | append_singleton l a ih =>
    rw [sortBy_concat]
    exact (perm_insertBy le a _).trans ((ih.cons a).trans (List.perm_append_singleton a l).symm)

section Order

variable {α : Type} {le : α → α → Bool} (total : ∀ a b, le a b = false → le b a = true)
  (trans : ∀ a b c, le a b = true → le b c = true → le a c = true)
include total trans

theorem pairwise_insertBy (a : α) {l : List α} (hl : l.Pairwise (fun x y => le x y = true)) :
    (insertBy le a l).Pairwise (fun x y => le x y = true) := by
  induction l with
  | nil => exact List.pairwise_singleton _ a
  | cons b l ih =>
    obtain ⟨hb, hrest⟩ := List.pairwise_cons.mp hl
    rw [insertBy]
    split
    next hba =>
      refine List.pairwise_cons.mpr ⟨fun x hx => ?_, ih hrest⟩
      rcases List.mem_cons.mp ((perm_insertBy le a l).mem_iff.mp hx) with rfl | hx
      · exact hba
      · exact hb x hx
    next hba =>
      have hab : le a b = true := total b a (Bool.eq_false_of_not_eq_true hba)
      refine List.pairwise_cons.mpr ⟨fun x hx => ?_, hl⟩
      rcases List.mem_cons.mp hx with rfl | hx
      · exact hab
      · exact trans a b x hab (hb x hx)

theorem pairwise_sortBy (l : List α) : (sortBy le l).Pairwise (fun x y => le x y = true) := by
  induction l using List.reverseRecOn with
  | nil => exact .nil
  | append_singleton l a ih =>
    rw [sortBy_concat]
    exact pairwise_insertBy total trans a ih

end Order

/-! ## The elements of a row by falling probability (14 R352) -/

theorem rankBefore_iff (a b : Nat × Word) :
    rankBefore a b = true ↔ key32 b.2 < key32 a.2 ∨ (key32 a.2 = key32 b.2 ∧ a.1 ≤ b.1) := by
  simp [rankBefore]

theorem rankBefore_total (a b : Nat × Word) (h : rankBefore a b = false) : rankBefore b a = true := by
  rw [← Bool.not_eq_true, rankBefore_iff] at h
  rw [rankBefore_iff]
  omega

theorem rankBefore_trans (a b c : Nat × Word) (hab : rankBefore a b = true) (hbc : rankBefore b c = true) :
    rankBefore a c = true := by
  rw [rankBefore_iff] at *
  omega

@[simp] theorem length_ranked (p : List Word) : (ranked p).length = p.length := by
  rw [ranked, (perm_sortBy _ _).length_eq]
  simp

theorem mem_ranked {p : List Word} {x : Nat × Word} : x ∈ ranked p ↔ p[x.1]? = some x.2 := by
  rw [ranked, (perm_sortBy _ _).mem_iff, List.mem_iff_getElem?]
  simp only [List.getElem?_zip_eq_some]
  constructor
  · rintro ⟨i, hi, hx⟩
    obtain ⟨-, rfl⟩ := List.getElem?_eq_some_iff.mp hi |>.imp fun _ h => by simpa using h
    exact hx
  · intro hx
    obtain ⟨hlt, -⟩ := List.getElem?_eq_some_iff.mp hx
    exact ⟨x.1, by simp [hlt], hx⟩

theorem fst_lt_of_mem_ranked {p : List Word} {x : Nat × Word} (h : x ∈ ranked p) : x.1 < p.length :=
  (List.getElem?_eq_some_iff.mp (mem_ranked.mp h)).1

/-- No element of a row is above the first of the ranked ones. -/
theorem flt_ranked_head {p : List Word} {x : Nat × Word} {l : List (Nat × Word)} (h : ranked p = x :: l) {i : Nat}
    (hi : i < p.length) : flt (p.getD x.1 0) (p.getD i 0) = false := by
  have hx : p[x.1]? = some x.2 := mem_ranked.mp (h ▸ List.mem_cons_self)
  have hsorted : (x :: l).Pairwise (fun a b => rankBefore a b = true) :=
    h ▸ pairwise_sortBy rankBefore_total rankBefore_trans _
  have hmem : (i, p[i]) ∈ x :: l := h ▸ mem_ranked.mpr (List.getElem?_eq_getElem hi)
  have hkey : key32 p[i] ≤ key32 x.2 := by
    rcases List.mem_cons.mp hmem with rfl | hl
    · exact le_rfl
    · have hbefore := (rankBefore_iff _ _).mp ((List.pairwise_cons.mp hsorted).1 _ hl)
      dsimp only at hbefore
      omega
  rw [List.getD_eq_getElem?_getD, hx, List.getD_eq_getElem _ _ hi, Option.getD_some, flt, decide_eq_false (by omega),
    Bool.and_false]

/-! ## SAMPLE's draw (14 R352 to R354) -/

theorem keptSet_isPrefix (pTop z : Word) (l : List (Nat × Word)) : (keptSet pTop z l).1 <+: l := by
  induction l generalizing z with
  | nil => exact List.prefix_rfl
  | cons x l ih =>
    rw [keptSet]
    dsimp only
    split
    · exact ⟨l, rfl⟩
    · exact (List.prefix_cons_inj x).mpr (ih _)

/-- The most probable element is always kept. -/
theorem keptSet_cons (pTop z : Word) (x : Nat × Word) (l : List (Nat × Word)) :
    ∃ k, (keptSet pTop z (x :: l)).1 = x :: k := by
  rw [keptSet]
  dsimp only
  split
  · exact ⟨[], rfl⟩
  · exact ⟨_, rfl⟩

theorem pickAbove_mem {t c : Word} {l : List (Nat × Word)} {e : Nat} (h : pickAbove t c l = some e) :
    e ∈ l.map (fun x => x.1) := by
  induction l generalizing c with
  | nil => cases h
  | cons x l ih =>
    rw [pickAbove] at h
    split at h
    · cases h
      exact List.mem_cons_self
    · exact List.mem_cons_of_mem _ (ih h)

/-- The token drawn from a kept set is one of it, whatever the draw. -/
theorem drawn_mem (t : Word) (x : Nat × Word) (k : List (Nat × Word)) (zero : Bool) :
    (if zero then x.1 else (pickAbove t 0 (x :: k)).getD ((x :: k).getLastD x).1) ∈ (x :: k).map (fun y => y.1) := by
  split
  · exact List.mem_cons_self
  · cases hpick : pickAbove t 0 (x :: k) with
    | none => exact List.mem_map_of_mem (by rw [List.getLastD_cons]; exact List.getLastD_mem_cons)
    | some e => exact pickAbove_mem hpick

theorem sampleRow_of_nan {p : List Word} (h : p.any isNan32 = true) (kTop draw : Nat) (pTop : Word) (lp : Nat → Word) :
    sampleRow p kTop pTop draw lp = some { token := 0xFFFFFFFF, logp := nan32, cut := false } :=
  if_pos h

/-- A row without a NaN gives a token of its kept set. -/
theorem sampleRow_of_kept {p : List Word} (h : p.any isNan32 = false) {kTop : Nat} {pTop : Word} (draw : Nat)
    (lp : Nat → Word) {x : Nat × Word} {k : List (Nat × Word)} (hk : (keptSet pTop 0 ((ranked p).take kTop)).1 = x :: k) :
    ∃ e ∈ (x :: k).map (fun y => y.1), sampleRow p kTop pTop draw lp =
      some { token := e, logp := lp e, cut := decide ((x :: k).length < ((ranked p).take kTop).length) } := by
  unfold sampleRow
  rw [if_neg (by rw [h]; decide)]
  dsimp only
  rw [hk]
  exact ⟨_, drawn_mem _ x k _, rfl⟩

/-- A sampled token is one of the `kTop` most probable, and with `kTop` 1 the most probable (14 R352). -/
theorem sampleRow_bounds {p : List Word} (h : p.any isNan32 = false) (hp : p ≠ []) {kTop : Nat} (hkTop : 0 < kTop) (draw : Nat)
    (pTop : Word) (lp : Nat → Word) : ∃ o, sampleRow p kTop pTop draw lp = some o ∧ o.logp = lp o.token ∧ o.token < p.length ∧
      o.token ∈ ((ranked p).take kTop).map (fun x => x.1) ∧
      (kTop = 1 → o.cut = false ∧ ∀ i, i < p.length → flt (p.getD o.token 0) (p.getD i 0) = false) := by
  obtain ⟨x, l, hranked⟩ : ∃ x l, ranked p = x :: l :=
    List.exists_cons_of_ne_nil (List.ne_nil_of_length_pos (by rw [length_ranked]; exact List.length_pos_of_ne_nil hp))
  have htop : (ranked p).take kTop = x :: l.take (kTop - 1) := by
    rw [hranked, List.take_cons hkTop]
  obtain ⟨k, hk⟩ : ∃ k, (keptSet pTop 0 ((ranked p).take kTop)).1 = x :: k := htop ▸ keptSet_cons pTop 0 x _
  have hprefix : x :: k <+: (ranked p).take kTop := hk ▸ keptSet_isPrefix pTop 0 _
  obtain ⟨e, he, hsample⟩ := sampleRow_of_kept h draw lp hk
  have hmem : e ∈ ((ranked p).take kTop).map (fun y => y.1) := List.map_subset _ hprefix.subset he
  refine ⟨_, hsample, rfl, ?_, hmem, ?_⟩
  · obtain ⟨y, hy, rfl⟩ := List.mem_map.mp hmem
    exact fst_lt_of_mem_ranked (List.mem_of_mem_take hy)
  · rintro rfl
    rw [htop] at hmem ⊢
    obtain rfl : e = x.1 := by simpa using hmem
    exact ⟨by simp, fun i hi => flt_ranked_head hranked hi⟩

/-! ## Routing a token (10 R236, R237) -/

/-- How many slots of `out` are kept for expert `e`. -/
def keptFor (out : List RouteEntry) (e : Nat) : Nat := (out.filter (fun x => !x.dropped && x.expert == e)).length

/-- The slots `out` have taken their experts' quota, from `st` to `st'`. -/
def QuotaTaken (out : List RouteEntry) (st st' : RouteSt) : Prop :=
  st'.quota.length = st.quota.length ∧ ∀ e, st'.quota.getD e 0 + keptFor out e = st.quota.getD e 0

/-- A slot, if kept, names one of `n` experts that is resident, with its member and slot, after at most `depth` moves. -/
def SlotSound (res : List ResEntry) (depth n : Nat) (x : RouteEntry) : Prop :=
  x.dropped = false → x.expert < n ∧ x.moves ≤ depth ∧
    res.getD x.expert { member := 0, slot := 0, res := false } = { member := x.member, slot := x.slot, res := true }

theorem keptFor_cons (x : RouteEntry) (out : List RouteEntry) (e : Nat) :
    keptFor (x :: out) e = keptFor [x] e + keptFor out e := by
  rw [keptFor, ← List.singleton_append, List.filter_append, List.length_append, ← keptFor, ← keptFor]

theorem keptFor_of_dropped {out : List RouteEntry} (h : ∀ x ∈ out, x.dropped = true) (e : Nat) : keptFor out e = 0 := by
  rw [keptFor, List.length_eq_zero_iff, List.filter_eq_nil_iff]
  intro x hx
  simp [h x hx]

theorem QuotaTaken.of_dropped {out : List RouteEntry} (h : ∀ x ∈ out, x.dropped = true) {st st' : RouteSt}
    (hst : st'.quota = st.quota) : QuotaTaken out st st' :=
  ⟨by rw [hst], fun e => by rw [keptFor_of_dropped h, hst, Nat.add_zero]⟩

theorem QuotaTaken.cons {x : RouteEntry} {out : List RouteEntry} {st st1 st2 : RouteSt} (hx : QuotaTaken [x] st st1)
    (hout : QuotaTaken out st1 st2) : QuotaTaken (x :: out) st st2 := by
  obtain ⟨hlen, hq⟩ := hx
  obtain ⟨hlen', hq'⟩ := hout
  refine ⟨hlen'.trans hlen, fun e => ?_⟩
  rw [keptFor_cons, ← hq e, ← hq' e]
  omega

/-- A kept slot takes one of its expert's quota. -/
theorem QuotaTaken.of_kept {x : RouteEntry} (hx : x.dropped = false) {st st' : RouteSt} (hleft : 0 < st.quota.getD x.expert 0)
    (hst : st'.quota = st.quota.set x.expert (st.quota.getD x.expert 0 - 1)) : QuotaTaken [x] st st' := by
  refine ⟨by rw [hst, List.length_set], fun e => ?_⟩
  have hlt : x.expert < st.quota.length := by
    by_contra hge
    rw [List.getD_eq_default _ _ (by omega)] at hleft
    exact absurd hleft (by decide)
  by_cases he : x.expert = e
  · have hone : keptFor [x] e = 1 := by simp [keptFor, hx, he]
    rw [hst, hone, ← he, List.getD_eq_getElem _ _ (by rwa [List.length_set]), List.getElem_set_self]
    omega
  · have hzero : keptFor [x] e = 0 := by simp [keptFor, he]
    rw [hst, hzero, List.getD_eq_getElem?_getD, List.getElem?_set_ne he, ← List.getD_eq_getElem?_getD, Nat.add_zero]

/-- What filling one slot can do, by the ranked list (10 R236): it drops the slot and leaves every quota as it is, or keeps it for a
resident expert of the list that has quota left, after at most `depth` moves. -/
theorem fillSlot_cases (res : List ResEntry) (quota depth r : Nat) {moves : Nat} (hm : moves ≤ depth) (l : List (Nat × Word))
    (st : RouteSt) :
    let o := fillSlot res quota depth r moves l st
    o.2.1 <:+ l ∧ (o.1.dropped = true ∧ o.2.2.quota = st.quota ∨
      o.1.dropped = false ∧ o.1.expert ∈ l.map (fun y => y.1) ∧ o.1.moves ≤ depth ∧
        res.getD o.1.expert { member := 0, slot := 0, res := false } = { member := o.1.member, slot := o.1.slot, res := true } ∧
        0 < st.quota.getD o.1.expert 0 ∧
        o.2.2.quota = st.quota.set o.1.expert (st.quota.getD o.1.expert 0 - 1)) := by
  induction l generalizing moves st with
  | nil => exact ⟨List.suffix_rfl, .inl ⟨rfl, rfl⟩⟩
  | cons y l ih =>
    obtain ⟨e, p⟩ := y
    rw [fillSlot]
    dsimp only
    split
    next hkeep =>
      obtain ⟨hres, hleft⟩ := Bool.and_eq_true_iff.mp hkeep
      refine ⟨List.suffix_cons _ l, .inr ⟨rfl, List.mem_cons_self, hm, ?_, of_decide_eq_true hleft, rfl⟩⟩
      rw [← hres]
    next =>
      split
      · exact ⟨List.suffix_cons _ l, .inl ⟨rfl, rfl⟩⟩
      next hmoves =>
        obtain ⟨hrest, hcases⟩ := ih (moves := moves + 1) (by omega)
          { st with
            examined := st.examined + 1
            notRes := st.notRes + b2n (!(res.getD e { member := 0, slot := 0, res := false }).res)
            full := st.full + b2n (decide (st.quota.getD e 0 = 0)) }
        refine ⟨hrest.trans (List.suffix_cons _ l), hcases.imp_right ?_⟩
        rintro ⟨hd, he, hother⟩
        exact ⟨hd, List.mem_cons_of_mem _ he, hother⟩

/-- Filling the slots of a token keeps their number, takes the quota of those kept, and keeps only sound ones. -/
theorem fillSlots_bounds (res : List ResEntry) (quota depth : Nat) {n : Nat} (rs : List Nat) {l : List (Nat × Word)}
    (hl : ∀ y ∈ l, y.1 < n) (st : RouteSt) :
    let o := fillSlots res quota depth rs l st
    o.1.length = rs.length ∧ QuotaTaken o.1 st o.2 ∧ ∀ x ∈ o.1, SlotSound res depth n x := by
  induction rs generalizing l st with
  | nil => exact ⟨rfl, .of_dropped (List.forall_mem_nil _) rfl, List.forall_mem_nil _⟩
  | cons r rs ih =>
    obtain ⟨hrest, hslot⟩ := fillSlot_cases res quota depth r (Nat.zero_le depth) l st
    obtain ⟨hlen, htaken, hsound⟩ := ih (fun y hy => hl y (hrest.subset hy)) (fillSlot res quota depth r 0 l st).2.2
    refine ⟨congrArg (· + 1) hlen, .cons ?_ htaken, List.forall_mem_cons.mpr ⟨?_, hsound⟩⟩
    · rcases hslot with ⟨hd, hq⟩ | ⟨hd, -, -, -, hleft, hq⟩
      · exact .of_dropped (fun x hx => List.mem_singleton.mp hx ▸ hd) hq
      · exact .of_kept hd hleft hq
    · rcases hslot with ⟨hd, -⟩ | ⟨-, he, hmoves, hres, -, -⟩
      · exact fun hkept => absurd (hd.symm.trans hkept) (by decide)
      · obtain ⟨y, hy, heq⟩ := List.mem_map.mp he
        exact fun _ => ⟨heq ▸ hl y hy, hmoves, hres⟩

/-- Renormalisation changes weights alone. -/
theorem renormalise_eq_map (rt : Router) (out : List RouteEntry) :
    ∃ w : RouteEntry → Word, renormalise rt out = out.map (fun x => { x with w := w x }) := by
  unfold renormalise
  split
  · refine ⟨fun x => if x.dropped then x.w else fdiv x.p (keptSum out), List.map_congr_left fun x _ => ?_⟩
    rcases x with ⟨_, _ | _, _⟩ <;> rfl
  · exact ⟨fun x => x.w, (List.map_id' out).symm⟩

theorem keptFor_map_w (w : RouteEntry → Word) (out : List RouteEntry) (e : Nat) :
    keptFor (out.map (fun x => { x with w := w x })) e = keptFor out e := by
  rw [keptFor, List.filter_map, List.length_map]
  rfl

/-- A token with a NaN has every slot dropped with a NaN (10 R237). -/
theorem routeToken_of_nan (rt : Router) (res : List ResEntry) {p : List Word} (h : p.any isNan32 = true) (st : RouteSt) :
    routeToken rt res p st = ((List.range rt.k).map (fun r => dropEntry r 0 nan32), st) :=
  if_pos h

/-- Routing a token fills its K slots, takes the quota of those kept, and keeps only sound ones (10 R236). -/
theorem routeToken_bounds (rt : Router) (res : List ResEntry) (p : List Word) (st : RouteSt) :
    let o := routeToken rt res p st
    o.1.length = rt.k ∧ QuotaTaken o.1 st o.2 ∧ ∀ x ∈ o.1, SlotSound res rt.depth p.length x := by
  cases hnan : p.any isNan32 with
  | true =>
    have hdropped : ∀ x ∈ (List.range rt.k).map (fun r => dropEntry r 0 nan32), x.dropped = true := by
      intro x hx
      obtain ⟨r, -, rfl⟩ := List.mem_map.mp hx
      rfl
    rw [routeToken_of_nan rt res hnan]
    exact ⟨by simp, .of_dropped hdropped rfl, fun x hx hkept => absurd ((hdropped x hx).symm.trans hkept) (by decide)⟩
  | false =>
    obtain ⟨hlen, ⟨hquota, htaken⟩, hsound⟩ := fillSlots_bounds res rt.quota rt.depth (List.range rt.k)
      (fun _ hy => fst_lt_of_mem_ranked hy : ∀ y ∈ ranked p, y.1 < p.length) st
    obtain ⟨w, hw⟩ := renormalise_eq_map rt (fillSlots res rt.quota rt.depth (List.range rt.k) (ranked p) st).1
    rw [routeToken, if_neg (by rw [hnan]; decide)]
    dsimp only
    rw [hw]
    refine ⟨by rw [List.length_map, hlen, List.length_range], ⟨hquota, fun e => ?_⟩, fun x hx => ?_⟩
    · rw [keptFor_map_w]
      exact htaken e
    · obtain ⟨y, hy, rfl⟩ := List.mem_map.mp hx
      exact hsound y hy

end Sys2Proof.Machine
end

section
/-! PROOFS. The Hen's commands (09 R207 to R226, 14 R352): reads and writes of a scratchpad that no fence closes, FP32 rows of 128
columns in it, how GATHER, SCATTER_ADD, SPMM and SAMPLE start, and what GATHER and SAMPLE write. -/

namespace Sys2Proof.Machine

/-! ## A Hen's own scratchpad -/

/-- A key of a space that a unit reaches: not HBM's, and no fence closes it (02 R35). -/
def State.opens (s : State) (key : Nat) : Prop := 2 ^ 48 ≤ key ∧ s.spaceFenced (key / 2 ^ 48) = false

section Opens

variable {s : State} {key : Nat} (h : s.opens key)
include h

theorem State.write_of_opens (req : Nat) (data : List Byte) : s.write req key data = s.poke key data := by
  obtain ⟨hkey, hfence⟩ := h
  rw [State.write, if_neg (Nat.not_lt.mpr hkey), hfence]
  rfl

theorem State.read_of_opens (n : Nat) : s.read key n = s.bytesAt key n := by
  obtain ⟨hkey, hfence⟩ := h
  rw [State.read, if_neg (Nat.not_lt.mpr hkey), hfence]
  rfl

theorem State.noteRead_of_opens (req n : Nat) : s.noteRead req key n = s := by
  obtain ⟨hkey, hfence⟩ := h
  rw [State.noteRead, if_neg (Nat.not_lt.mpr hkey), hfence]
  exact ite_self s

theorem State.opens_of_geo {t : State} (hgeo : t.geo = s.geo) : t.opens key := by
  obtain ⟨hkey, hfence⟩ := h
  refine ⟨hkey, ?_⟩
  rw [← hfence]
  simp only [State.spaceFenced, State.spacePos, State.physOf, hgeo]

end Opens

theorem henKey_add (h a off : Nat) : henKey h a + off = spaceKey (henSpace h) (256 * a + off) := by
  rw [henKey, spaceKey, spaceKey, Nat.add_assoc]

theorem henKey_add_div {h a off : Nat} (hoff : 256 * a + off < 2 ^ 48) : (henKey h a + off) / 2 ^ 48 = henSpace h := by
  rw [henKey_add, spaceKey_div hoff]

theorem spaceSize_henSpace {h : Nat} (hh : h < 30) : spaceSize (henSpace h) = 0x400000 := by
  unfold spaceSize henSpace
  rw [if_neg, if_neg, if_neg, if_pos] <;> omega

/-- A command whose cycle 0 has come runs on a core that no fence closes (12 R287, 02 R34). -/
theorem State.unitFenced_of_ready {s : State} {u kind op d : Nat} (h : s.readyExec u kind op = some d) : s.unitFenced u = false := by
  have hmay : s.unitMay u = true := by
    by_contra hno
    rw [State.readyExec, State.ready, if_neg hno] at h
    cases h
  simp only [State.unitMay, Bool.and_eq_true, Bool.not_eq_true'] at hmay
  obtain ⟨⟨⟨⟨⟨-, hfence⟩, -⟩, -⟩, -⟩, -⟩ := hmay
  exact hfence

theorem State.opens_henKey {s : State} {h : Nat} (hh : h < 30) (hfence : s.unitFenced (180 + h) = false) {a off : Nat}
    (hoff : 256 * a + off < 2 ^ 48) : s.opens (henKey h a + off) := by
  have hspace : ¬ henSpace h < 0x2000 ∧ ¬ henSpace h < 0x3000 ∧ henSpace h < 0x4000 ∧ henSpace h - 0x3000 = h := by
    unfold henSpace
    omega
  obtain ⟨h2, h3, h4, hsub⟩ := hspace
  refine ⟨?_, ?_⟩
  · rw [henKey_add, spaceKey, henSpace]
    omega
  · rw [State.unitFenced, decide_eq_true (by omega), Bool.true_and] at hfence
    rw [henKey_add_div hoff, State.spaceFenced, State.spacePos, if_neg h2, if_neg h3, if_pos h4, hsub, hfence, Bool.and_false]

/-! ## FP32 rows of 128 columns: 512 bytes each, one after another (04 R80) -/

/-- Rows of 512 bytes laid one after another from a key on. -/
def State.pokeRows (s : State) (key : Nat) (row : Nat → List Byte) (n : Nat) : State :=
  (List.range n).foldl (fun r i => r.poke (key + 512 * i) (row i)) s

theorem State.pokeRows_succ (s : State) (key : Nat) (row : Nat → List Byte) (n : Nat) :
    s.pokeRows key row (n + 1) = (s.pokeRows key row n).poke (key + 512 * n) (row n) := by
  simp [State.pokeRows, List.range_succ]

@[simp] theorem State.pokeRows_geo (s : State) (key : Nat) (row : Nat → List Byte) (n : Nat) : (s.pokeRows key row n).geo = s.geo := by
  simp [State.pokeRows]

theorem State.natAt_pokeRows (s : State) {key : Nat} {row : Nat → List Byte} (hrow : ∀ i, (row i).length = 512) {m i j : Nat}
    (hi : i < m) (hj : j < 128) (hs : key % 2 ^ 48 + 512 * m ≤ spaceSize (key / 2 ^ 48)) :
    (s.pokeRows key row m).natAt (key + 512 * i + 4 * j) 4 = leNat (((row i).drop (4 * j)).take 4) := by
  have hsize := spaceSize_le (key / 2 ^ 48)
  induction m with
  | zero => cases hi
  | succ m ih =>
    rw [State.pokeRows_succ]
    rcases Nat.lt_succ_iff_lt_or_eq.mp hi with hlt | rfl
    · rw [State.natAt_poke_of_disjoint _ (by omega), ih hlt (by omega)]
    · have hkey : (key + 512 * i) / 2 ^ 48 = key / 2 ^ 48 ∧ (key + 512 * i) % 2 ^ 48 = key % 2 ^ 48 + 512 * i := by
        generalize spaceSize (key / 2 ^ 48) = z at hs hsize
        omega
      exact State.natAt_poke _ (by rw [hrow]; omega) (by rw [hkey.1, hkey.2]; omega)

/-- An FP32 tensor of 128 columns at a key. -/
def wordBlock (key rows : Nat) : RowBlock := blockAt key rows 128 fmtF32

@[simp] theorem wordBlock_fmt (key rows : Nat) : (wordBlock key rows).fmt = fmtF32 := rfl

theorem place_wordBlock (key rows r : Nat) : (wordBlock key rows).place r 0 = (r / 128, 128 * (r % 128)) := by
  simp [RowBlock.place, wordBlock, blockAt, ceilDiv]

theorem rowPieces_wordBlock (key rows r : Nat) : (wordBlock key rows).rowPieces r 128 = [(key + 512 * r, 512)] := by
  have hcols : List.range (ceilDiv 128 128) = [0] := rfl
  have htile : fmtF32.elem.tileBytes = 65536 := rfl
  have hbits : fmtF32.elem.bits = 32 := rfl
  have hcomp : fmtF32.comp = .plain := rfl
  have hlen : ceilDiv (Nat.min 128 128 * 32) 8 = 512 := rfl
  have hkey : (wordBlock key rows).val + r / 128 * 65536 + 16 * (r % 128) * 32 = key + 512 * r := by
    change key + r / 128 * 65536 + 16 * (r % 128) * 32 = key + 512 * r
    omega
  simp only [RowBlock.rowPieces, wordBlock_fmt, hcols, htile, hbits, hcomp, List.map_cons, List.map_nil, Nat.mul_zero,
    place_wordBlock, hkey, Nat.sub_zero, hlen, List.append_nil]

section Words

variable {s : State} {key r : Nat} (h : s.opens (key + 512 * r)) (rows : Nat)
include h

theorem State.rowAt_wordBlock : s.rowAt (wordBlock key rows) r 128 = s.bytesAt (key + 512 * r) 512 := by
  rw [State.rowAt, rowPieces_wordBlock, List.flatMap_singleton, State.read_of_opens h]

theorem State.noteRow_wordBlock (req : Nat) : s.noteRow req (wordBlock key rows) r 128 = s := by
  rw [State.noteRow, rowPieces_wordBlock]
  exact State.noteRead_of_opens h req 512

theorem State.putRow_wordBlock (req : Nat) (data : List Byte) :
    s.putRow req (wordBlock key rows) r 128 data = s.poke (key + 512 * r) (fit 0 512 data) := by
  rw [State.putRow, rowPieces_wordBlock]
  exact State.write_of_opens h req _

end Words

theorem State.noteRows_wordBlock {s : State} {key n : Nat} (h : ∀ r, r < n → s.opens (key + 512 * r)) (rows req : Nat) {l : List Nat}
    (hl : ∀ r ∈ l, r < n) : l.foldl (fun s r => s.noteRow req (wordBlock key rows) r 128) s = s := by
  induction l with
  | nil => rfl
  | cons r l ih =>
    obtain ⟨hr, hrest⟩ := List.forall_mem_cons.mp hl
    rw [List.foldl_cons, State.noteRow_wordBlock (h r hr), ih hrest]

@[simp] theorem length_fit {α : Type} (d : α) (n : Nat) (l : List α) : (fit d n l).length = n := by
  simp [fit]
  omega

theorem fit_of_length {α : Type} (d : α) {n : Nat} {l : List α} (h : l.length = n) : fit d n l = l := by
  simp [fit, ← h]

/-- A row's bytes as the grid of an output of 128 FP32 columns takes them. -/
def gridRow (data : List Byte) : List Byte := fit 0 512 (fit 0 512 (data.take 512) ++ data.drop 512)

@[simp] theorem length_gridRow (data : List Byte) : (gridRow data).length = 512 := length_fit _ _ _

theorem gridRow_of_length {data : List Byte} (h : data.length = 512) : gridRow data = data := by
  have hdrop : data.drop 512 = [] := List.drop_eq_nil_of_le h.le
  rw [gridRow, hdrop, List.append_nil, List.take_of_length_le h.le, fit_of_length 0 h, fit_of_length 0 h]

theorem State.putGrid_wordBlock {s : State} {key n : Nat} (rows req : Nat) {data : List (List Byte)} (hn : roundUp data.length 128 = n)
    (h : ∀ r, r < n → s.opens (key + 512 * r)) :
    s.putGrid req (wordBlock key rows) 128 data = s.pokeRows key (fun r => gridRow (data.getD r [])) n := by
  have hgrid : s.putGrid req (wordBlock key rows) 128 data =
      (List.range n).foldl (fun t r => t.putRow req (wordBlock key rows) r 128
        (fit 0 512 ((data.getD r []).take 512) ++ (data.getD r []).drop 512)) s := by
    have hcols : roundUp 128 128 = 128 := rfl
    have hbytes : ceilDiv (128 * fmtF32.elem.bits) 8 = 512 := rfl
    simp only [State.putGrid, wordBlock_fmt, hn, hcols, hbytes]
  rw [hgrid]
  clear hgrid hn
  induction n with
  | zero => rfl
  | succ n ih =>
    rw [List.range_succ, List.foldl_append, ih (fun r hr => h r (by omega)), State.pokeRows_succ]
    exact State.putRow_wordBlock (State.opens_of_geo (h n n.lt_succ_self) (by simp)) rows req _

@[simp] theorem State.length_bytesAt (s : State) (key n : Nat) : (s.bytesAt key n).length = n := by
  simp [State.bytesAt]

theorem State.take_drop_bytesAt (s : State) (key : Nat) {n a m : Nat} (h : a + m ≤ n) :
    ((s.bytesAt key n).drop a).take m = s.bytesAt (key + a) m := by
  apply List.ext_getElem
  · simp
    omega
  · intro i _ _
    simp [State.bytesAt, Nat.add_assoc]

theorem leNat_replicate_zero (n : Nat) : leNat (List.replicate n 0) = 0 := by
  induction n with
  | zero => rfl
  | succ n ih =>
    rw [List.replicate_succ, leNat, ih]
    rfl

/-! ## How a Hen's command starts (09 R207, R210, R218, R226) -/

/-- `t` has Hen `h`'s command of descriptor `d` in progress with its budget, its record's key and its count, and the groups of the state
that no unit's command touches are as in `s`. -/
def HenStarts (s t : State) (h d : Nat) : Prop :=
  ∃ f, StartsWith s t (180 + h) d f ∧ f.planCyc = (henCmd d).planCyc ∧ f.slackCyc = (henCmd d).slackCyc ∧
    f.statKey = some (henKey h (henCmd d).stat) ∧ (HenCnt.commands h, 1) ∈ f.bumps ∧ GoatFrame s t

/-- `t` has Hen `h`'s command of descriptor `d` in progress for 16 cycles with nothing to write, and nothing else changed (09 R226). -/
def HenIdles (s t : State) (h d : Nat) : Prop :=
  (∃ f, StartsWith s t (180 + h) d f ∧ f.cycles = 16 ∧ f.outs = []) ∧ OnlyChanges [.unit] s t

/-- `t` is a state with the streams of `s` in which the command of descriptor `d` takes its place in progress. -/
def HenIssues (s t : State) (h d : Nat) : Prop :=
  ∃ (r : State) (cycles status : Nat) (capped : Bool) (extra : List Bump) (outs : List (Nat × Nat)), r.unit.streams = s.unit.streams ∧
    t = r.startCmd (henStream h) (s.henFlight h d (henCmd d) cycles status capped extra outs)

theorem startsWith_startCmd_of_streams {s r : State} (hr : r.unit.streams = s.unit.streams) (u d : Nat) {f : InFlight}
    (hunit : f.unit = dUnit d) (hop : f.op = bits d 128 8) (hrep : f.rep = (s.stream u).rep) (hbeat : f.beat = s.time.beat)
    (hsig : f.sigId = dSig d) (hinc : f.sigInc = dInc d) (hslip : f.slipped = false) : StartsWith s (r.startCmd u f) u d f :=
  (startsWith_startCmd s u d hunit hop hrep hbeat hsig hinc hslip).of_streams
    (by simp only [State.startCmd, State.setStream, State.stream, hr])

theorem HenIssues.starts {s t : State} {h d : Nat} (hissues : HenIssues (s.clearReuse h) t h d) (hframe : GoatFrame s t) :
    HenStarts s t h d := by
  obtain ⟨r, cycles, status, capped, extra, outs, hr, rfl⟩ := hissues
  exact ⟨_, startsWith_startCmd_of_streams (s := s) hr _ d rfl rfl rfl rfl rfl rfl rfl, rfl, rfl, rfl, List.mem_cons_self, hframe⟩

theorem State.henShort_issues (s : State) (h d : Nat) (capped : Bool) : HenIssues s (s.henShort h d (henCmd d) capped) h d :=
  ⟨s, 16, 0, capped, [], [], rfl, rfl⟩

theorem State.henShort_idles (s : State) (h d : Nat) (capped : Bool) :
    HenIdles s ((s.clearReuse h).henShort h d (henCmd d) capped) h d :=
  ⟨⟨_, startsWith_startCmd_of_streams rfl _ d rfl rfl rfl rfl rfl rfl rfl, rfl, rfl⟩, onlyChanges_unit s _⟩

/-- A command that issues starts, and it idles if the model answers its short form when it has no row. -/
theorem HenIssues.runs {s t : State} {h d : Nat} (hissues : HenIssues (s.clearReuse h) t h d) (hframe : GoatFrame s t)
    (hshort : (s.henBound h (henCmd d) 1 (henCmd d).count).1 = 0 → ∃ capped, t = (s.clearReuse h).henShort h d (henCmd d) capped) :
    HenStarts s t h d ∧ ((s.henBound h (henCmd d) 1 (henCmd d).count).1 = 0 → HenIdles s t h d) := by
  refine ⟨hissues.starts hframe, fun h0 => ?_⟩
  obtain ⟨capped, rfl⟩ := hshort h0
  exact s.henShort_idles h d capped

section Commands

variable (s : State) {h d : Nat} {fa fb : Fmt} (ha : fmtOfByte (henCmd d).fmtA = some fa)
include ha

theorem State.gather_issues : HenIssues s (s.gather h d) h d := by
  unfold State.gather
  simp only [ha]
  split
  · exact s.henShort_issues h d _
  · exact ⟨_, _, _, _, _, _, by simp, rfl⟩

theorem State.gather_of_no_row (h0 : (s.henBound h (henCmd d) 1 (henCmd d).count).1 = 0) :
    ∃ capped, s.gather h d = s.henShort h d (henCmd d) capped := by
  unfold State.gather
  simp only [ha]
  exact ⟨_, if_pos h0⟩

theorem State.scatterAdd_issues : HenIssues s (s.scatterAdd h d) h d := by
  unfold State.scatterAdd
  simp only [ha]
  split
  · exact s.henShort_issues h d _
  · exact ⟨_, _, _, _, _, _, by simp, rfl⟩

theorem State.scatterAdd_of_no_row (h0 : (s.henBound h (henCmd d) 1 (henCmd d).count).1 = 0) :
    ∃ capped, s.scatterAdd h d = s.henShort h d (henCmd d) capped := by
  unfold State.scatterAdd
  simp only [ha]
  exact ⟨_, if_pos h0⟩

variable (hb : fmtOfByte (henCmd d).fmtB = some fb)
include hb

theorem State.spmm_issues : HenIssues s (s.spmm h d) h d := by
  unfold State.spmm
  simp only [ha, hb]
  split
  · exact s.henShort_issues h d _
  · exact ⟨_, _, _, _, _, _, by simp, rfl⟩

theorem State.spmm_of_no_row (h0 : (s.henBound h (henCmd d) 1 (henCmd d).count).1 = 0) :
    ∃ capped, s.spmm h d = s.henShort h d (henCmd d) capped := by
  unfold State.spmm
  simp only [ha, hb]
  exact ⟨_, if_pos h0⟩

end Commands

/-! ## GATHER's rows (09 R207) -/

theorem wordBlock_eq (key rows : Nat) : wordBlock key rows = blockAt key rows 128 fmtF32 := rfl

/-- What the output's row `i` becomes, of FP32 rows of 128 columns in the own scratchpad: the table's row that index `i` names, or zeros. -/
def State.gatheredRow (s : State) (h : Nat) (c : HenCmd) (i : Nat) : List Byte :=
  let x := s.henIdx h c i
  if decide (0 ≤ x) && decide (x < c.rows) then s.rowAt (wordBlock (henKey h c.src) c.rows) x.toNat 128
  else List.replicate 512 0

/-- The words of a gathered row. -/
theorem State.leNat_gatheredRow {s : State} {h : Nat} {c : HenCmd}
    (hopen : ∀ r, r < c.rows → s.opens (henKey h c.src + 512 * r)) (i : Nat) {j : Nat} (hj : j < 128) :
    (s.gatheredRow h c i).length = 512 ∧ leNat (((s.gatheredRow h c i).drop (4 * j)).take 4) =
      if 0 ≤ s.henIdx h c i ∧ s.henIdx h c i < c.rows then
        s.natAt (henKey h c.src + 512 * (s.henIdx h c i).toNat + 4 * j) 4
      else 0 := by
  unfold State.gatheredRow
  by_cases hx : 0 ≤ s.henIdx h c i ∧ s.henIdx h c i < c.rows
  · rw [if_pos hx, if_pos (by simpa using hx), State.rowAt_wordBlock (hopen _ (by omega)),
      State.take_drop_bytesAt _ _ (by omega)]
    exact ⟨State.length_bytesAt s _ _, rfl⟩
  · rw [if_neg hx, if_neg (by simpa using hx), List.drop_replicate, List.take_replicate]
    exact ⟨List.length_replicate, leNat_replicate_zero _⟩

section Gather

variable {s : State} {h d : Nat} (ha : fmtOfByte (henCmd d).fmtA = some fmtF32) (hmesh : (henCmd d).mesh = false)
  (hhbm : (henCmd d).tHbm = false) (hw : (henCmd d).w = 128)
  (hall : (s.henBound h (henCmd d) 1 (henCmd d).count).1 = (henCmd d).count) (hpos : 0 < (henCmd d).count)
include ha hmesh hhbm hw hall hpos

/-- GATHER of FP32 rows of 128 columns within the own scratchpad: it notes rows of the table read and lays the gathered rows. -/
theorem State.gather_of_words : ∃ ins : List Nat, (∀ x ∈ ins, x < (henCmd d).rows) ∧
    let table := wordBlock (henKey h (henCmd d).src) (henCmd d).rows
    let r := (ins.foldl (fun s x => s.noteRow (henStream h) table x 128) s).putGrid (henStream h)
      (wordBlock (henKey h (henCmd d).out) (henCmd d).count) 128 ((List.range (henCmd d).count).map (s.gatheredRow h (henCmd d)))
    (s.gather h d).mem = r.mem ∧ (s.gather h d).freeIdx = r.freeIdx := by
  have hbytes : rowBytes fmtF32 128 = 512 := rfl
  have hrows : (fun x : Int => if decide (0 ≤ x) && decide (x < (henCmd d).rows) then
      s.rowAt (wordBlock (henKey h (henCmd d).src) (henCmd d).rows) x.toNat 128 else List.replicate 512 0) ∘
      (fun i => s.henIdx h (henCmd d) i) = s.gatheredRow h (henCmd d) := rfl
  unfold State.gather
  simp only [ha, hall, hpos.ne', if_false, HenCmd.outKey, hmesh, hhbm, hw, Bool.false_eq_true, hbytes, List.map_map,
    ← wordBlock_eq, hrows, State.startCmd_frame]
  refine ⟨_, fun x hx => ?_, rfl, rfl⟩
  obtain ⟨y, hy, rfl⟩ := List.mem_map.mp (List.mem_eraseDups.mp hx)
  obtain ⟨-, hgood⟩ := List.mem_filter.mp hy
  simp only [Bool.and_eq_true, decide_eq_true_eq] at hgood
  omega

/-- Word (i, j) of the output, which fits the scratchpad. -/
theorem State.natAt_gather (hh : h < 30) (hfence : s.unitFenced (180 + h) = false)
    (hfits : 256 * (henCmd d).out + 65536 * ceilDiv (henCmd d).count 128 ≤ 0x400000) {i j : Nat} (hi : i < (henCmd d).count)
    (hj : j < 128) : (s.gather h d).natAt (henKey h (henCmd d).out + 512 * i + 4 * j) 4 =
      if 0 ≤ s.henIdx h (henCmd d) i ∧ s.henIdx h (henCmd d) i < (henCmd d).rows then
        s.natAt (henKey h (henCmd d).src + 512 * (s.henIdx h (henCmd d) i).toNat + 4 * j) 4
      else 0 := by
  have hsrc : (henCmd d).src < 2 ^ 14 := bits_lt d 176 14
  have hrows : (henCmd d).rows < 2 ^ 32 := bits_lt d 304 32
  obtain ⟨ins, hins, hmem, hfree⟩ := State.gather_of_words ha hmesh hhbm hw hall hpos
  generalize henCmd d = c at *
  have hopen : ∀ r, r < c.rows → s.opens (henKey h c.src + 512 * r) := fun r hr => State.opens_henKey hh hfence (by omega)
  have hn : roundUp ((List.range c.count).map (s.gatheredRow h c)).length 128 = 128 * ceilDiv c.count 128 := by
    rw [List.length_map, List.length_range, roundUp, ceilDiv, Nat.mul_comm]
  have hgrid := State.putGrid_wordBlock (s := s) (key := henKey h c.out) c.count (henStream h) hn
    (fun r hr => State.opens_henKey hh hfence (by omega))
  have hlen : ∀ r, (gridRow (((List.range c.count).map (s.gatheredRow h c)).getD r [])).length = 512 := fun r => length_gridRow _
  have hrow : ((List.range c.count).map (s.gatheredRow h c)).getD i [] = s.gatheredRow h c i := by
    rw [List.getD_eq_getElem _ _ (by simpa using hi), List.getElem_map, List.getElem_range]
  obtain ⟨hrowLen, hword⟩ := State.leNat_gatheredRow hopen i hj
  have hceil : i < 128 * ceilDiv c.count 128 := by
    unfold ceilDiv
    omega
  have hspace : henKey h c.out / 2 ^ 48 = henSpace h ∧ henKey h c.out % 2 ^ 48 = 256 * c.out :=
    ⟨spaceKey_div (by omega), spaceKey_mod (by omega)⟩
  obtain ⟨hdiv, hmod⟩ := hspace
  rw [State.noteRows_wordBlock hopen _ _ hins, hgrid] at hmem hfree
  rw [State.natAt_congr hfree fun k _ => by rw [State.stored, hmem, ← State.stored],
    State.natAt_pokeRows s hlen hceil hj (by rw [hdiv, hmod, spaceSize_henSpace hh]; omega), hrow, gridRow_of_length hrowLen, hword]

end Gather

/-! ## SAMPLE's result -/

/-- A write at a key beyond HBM's lays nothing outside its bytes. -/
theorem State.stored_write_of_disjoint (s : State) (req : Nat) {key k : Nat} {data : List Byte} (hkey : 2 ^ 48 ≤ key)
    (hk : k < key ∨ key + data.length ≤ k) : (s.write req key data).stored k = s.stored k := by
  rw [State.write, if_neg (Nat.not_lt.mpr hkey)]
  split
  · rw [State.stored, State.stored]
    simp only [State.discard_frame]
  · exact State.stored_poke_of_disjoint s hk

theorem State.mem_startCmd (s : State) (u : Nat) (f : InFlight) : (s.startCmd u f).mem = s.mem := rfl

theorem length_flatMap_le {α β : Type} {f : α → List β} {n : Nat} (h : ∀ x, (f x).length ≤ n) (l : List α) :
    (l.flatMap f).length ≤ n * l.length := by
  induction l with
  | nil => exact Nat.zero_le _
  | cons x l ih =>
    have hx := h x
    rw [List.flatMap_cons, List.length_append, List.length_cons, Nat.mul_succ]
    omega

/-- The rows that a SAMPLE samples: ROWS, or what its shape word says if that is less (14 R352). -/
def State.sampleCount (s : State) (h d : Nat) : Nat :=
  if bits d 137 2 = 1 then Nat.min (s.shapeCount (henKey h (bits d 288 14))) (bits d 256 7) else bits d 256 7

/-- SAMPLE starts at its stream's head and writes at most 8 bytes for each row it samples. -/
theorem State.sampleCmd_starts (s : State) (h d : Nat) : ∃ f n data, StartsWith s (s.sampleCmd h d) (henStream h) d f ∧
    (ActCnt.sampleRows, s.sampleCount h d) ∈ f.bumps ∧ f.outs = [(henKey h (bits d 192 14), 8 * s.sampleCount h d)] ∧
    (data : List Byte).length ≤ 8 * s.sampleCount h d ∧
    (s.sampleCmd h d).mem = ((s.drawBytes n).2.write (henStream h) (henKey h (bits d 192 14)) data).mem := by
  have hcount : (if decide (bits d 137 2 = 1) = true then Nat.min (s.shapeCount (henKey h (bits d 288 14))) (bits d 256 7)
      else bits d 256 7) = s.sampleCount h d := by
    rw [State.sampleCount]
    simp only [decide_eq_true_eq]
  unfold State.sampleCmd
  simp only [hcount]
  refine ⟨_, _, _, startsWith_startCmd_of_streams (by simp) _ d rfl rfl rfl rfl rfl rfl rfl, List.mem_cons_self, rfl, ?_,
    State.mem_startCmd _ _ _⟩
  refine (length_flatMap_le (n := 8) (fun x => ?_) _).trans (by simp)
  split
  · simp
  · exact List.length_take_le _ _

/-! ## The statements -/

section Runs

variable {h : Fin 30} {s : State} {d : Nat} {fa fb : Fmt}

/-- GATHER starts, idles with no row, and gathers FP32 rows of 128 columns within the scratchpad as its indices say (09 R207, R226). -/
theorem gather_runs (hr : s.readyExec (180 + h.val) 5 0x01 = some d) (ha : fmtOfByte (henCmd d).fmtA = some fa) :
    ∃ t, exec (.gather h) s = .next t ∧ HenStarts s t h.val d ∧
      ((s.henBound h.val (henCmd d) 1 (henCmd d).count).1 = 0 → HenIdles s t h.val d) ∧
      ((henCmd d).mesh = false → (henCmd d).tHbm = false → fa = fmtF32 → (henCmd d).w = 128 →
        (s.henBound h.val (henCmd d) 1 (henCmd d).count).1 = (henCmd d).count → 0 < (henCmd d).count →
        256 * (henCmd d).out + 65536 * ceilDiv (henCmd d).count 128 ≤ 0x400000 → ∀ i j, i < (henCmd d).count → j < 128 →
        let x := s.henIdx h.val (henCmd d) i
        t.natAt (henKey h.val (henCmd d).out + 65536 * (i / 128) + 4 * (128 * (i % 128) + j)) 4 =
          if 0 ≤ x ∧ x < (henCmd d).rows then
            s.natAt (henKey h.val (henCmd d).src + 65536 * (x.toNat / 128) + 4 * (128 * (x.toNat % 128) + j)) 4
          else 0) := by
  obtain ⟨hstarts, hidles⟩ := (State.gather_issues (s.clearReuse h.val) ha).runs (by simp [GoatFrame])
    (State.gather_of_no_row (s.clearReuse h.val) ha)
  refine ⟨(s.clearReuse h.val).gather h.val d, ?_, hstarts, hidles, fun hmesh hhbm hfa hw hall hpos hfits i j hi hj => ?_⟩
  · change execGather h s = _
    rw [execGather, henStream, hr]
  · have hkey (a r : Nat) : henKey h.val a + 65536 * (r / 128) + 4 * (128 * (r % 128) + j) = henKey h.val a + 512 * r + 4 * j := by
      omega
    intro x
    rw [hkey, hkey]
    exact State.natAt_gather (s := s.clearReuse h.val) (hfa ▸ ha) hmesh hhbm hw hall hpos h.isLt (State.unitFenced_of_ready hr)
      hfits hi hj

theorem scatterAdd_runs (hr : s.readyExec (180 + h.val) 5 0x02 = some d) (ha : fmtOfByte (henCmd d).fmtA = some fa) :
    ∃ t, exec (.scatterAdd h) s = .next t ∧ HenStarts s t h.val d ∧
      ((s.henBound h.val (henCmd d) 1 (henCmd d).count).1 = 0 → HenIdles s t h.val d) := by
  refine ⟨(s.clearReuse h.val).scatterAdd h.val d, ?_, (State.scatterAdd_issues _ ha).runs (by simp [GoatFrame])
    (State.scatterAdd_of_no_row (s.clearReuse h.val) ha)⟩
  change execScatterAdd h s = _
  rw [execScatterAdd, henStream, hr]

theorem spmm_runs (hr : s.readyExec (180 + h.val) 5 0x03 = some d) (ha : fmtOfByte (henCmd d).fmtA = some fa)
    (hb : fmtOfByte (henCmd d).fmtB = some fb) : ∃ t, exec (.spmm h) s = .next t ∧ HenStarts s t h.val d ∧
      ((s.henBound h.val (henCmd d) 1 (henCmd d).count).1 = 0 → HenIdles s t h.val d) := by
  refine ⟨(s.clearReuse h.val).spmm h.val d, ?_, (State.spmm_issues _ ha hb).runs (by simp [GoatFrame])
    (State.spmm_of_no_row (s.clearReuse h.val) ha hb)⟩
  change execSpmm h s = _
  rw [execSpmm, henStream, hr]

/-- SAMPLE starts and, with no shape word, writes 8 bytes for each of its rows and nothing else (14 R352). -/
theorem sample_runs (hr : s.readyExec (180 + h.val) 5 0x04 = some d) :
    ∃ t f, exec (.sample h) s = .next t ∧ StartsWith s t (180 + h.val) d f ∧ GoatFrame s t ∧
      (bits d 137 2 ≠ 1 → (ActCnt.sampleRows, bits d 256 7) ∈ f.bumps ∧
        f.outs = [(henKey h.val (bits d 192 14), 8 * bits d 256 7)] ∧ BytesKept f.outs s t) := by
  obtain ⟨f, n, data, hstart, hrows, houts, hlen, hmem⟩ := (s.clearReuse h.val).sampleCmd_starts h.val d
  refine ⟨(s.clearReuse h.val).sampleCmd h.val d, f, ?_, hstart, by simp [GoatFrame], fun hshape => ?_⟩
  · change execSample h s = _
    rw [execSample, henStream, hr]
  · have hcount : (s.clearReuse h.val).sampleCount h.val d = bits d 256 7 := if_neg hshape
    rw [hcount] at hrows houts hlen
    refine ⟨hrows, houts, fun k hk _ => ?_⟩
    have hout : k < henKey h.val (bits d 192 14) ∨ henKey h.val (bits d 192 14) + data.length ≤ k := by
      by_contra hin
      exact hk ⟨_, houts ▸ List.mem_singleton.mpr rfl, by omega, by omega⟩
    have hhbm : 2 ^ 48 ≤ henKey h.val (bits d 192 14) := by
      rw [henKey, spaceKey, henSpace]
      omega
    rw [State.stored, hmem, ← State.stored, State.stored_write_of_disjoint _ _ hhbm hout, State.stored, State.stored]
    simp only [State.drawBytes_frame, State.clearReuse_frame]

end Runs

/-- Settles O38: the Hen's commands by what their state operations issue, a gathered word by the rows that the output's grid takes,
a sampled token by its place in the ranked row, and a routed token by induction over its slots. -/
theorem henOperationsRun : Obligations.HenOperationsRun := by
  unfold Obligations.HenOperationsRun
  refine ⟨fun h d s fa fb => ⟨fun ha hr => gather_runs hr ha, fun ha hr => scatterAdd_runs hr ha, fun ha hb hr => spmm_runs hr ha hb,
    fun hr => sample_runs hr⟩, fun p kTop draw pTop lp hkTop => ⟨fun hnan => sampleRow_of_nan hnan kTop draw pTop lp,
    fun hnan hp => sampleRow_bounds hnan hp hkTop draw pTop lp⟩, fun rt res p st => ?_⟩
  obtain ⟨hlen, ⟨hquota, htaken⟩, hsound⟩ := routeToken_bounds rt res p st
  refine ⟨hlen, hquota, htaken, hsound, fun hnan => ?_⟩
  rw [routeToken_of_nan rt res hnan]
  refine ⟨rfl, fun x hx => ?_⟩
  obtain ⟨r, -, rfl⟩ := List.mem_map.mp hx
  exact ⟨rfl, rfl, rfl⟩

end Sys2Proof.Machine
end

section
/-! PROOFS. What accesses to memory, links and acknowledgements leave alone: the plan that is loaded and the counters of the expert
operations (10 Table 10-10). How flits leave a link (15 R367 to R372), how a message received is acknowledged (15 R382). -/

namespace Sys2Proof.Machine

/-! ## The counters of the expert operations -/

/-- Whether a plan is loaded, and the module's counters of the expert operations (10 Table 10-10). -/
def State.expView (s : State) : Bool × (Fin 256 → Nat) := (s.plan.loaded, fun i => s.cntGet (cntKey 0x0A0A 0 i.val))

theorem State.cntGet_bump (s : State) (key n k : Nat) : (s.bump key n).cntGet k =
    if k = key then (if cntWide key then sat64 (s.cntGet key + n) else sat32 (s.cntGet key + n)) else s.cntGet k := by
  rw [State.bump, State.cntGet, Tab.get_upd]
  rfl

theorem State.cntGet_bump_ne (s : State) {key k : Nat} (h : k ≠ key) (n : Nat) : (s.bump key n).cntGet k = s.cntGet k := by
  rw [State.cntGet_bump, if_neg h]

theorem State.cntGet_bump_narrow (s : State) {key : Nat} (h : cntWide key = false) (n : Nat) :
    (s.bump key n).cntGet key = min (s.cntGet key + n) 0xFFFFFFFF := by
  rw [State.cntGet_bump, if_pos rfl, h]
  rfl

theorem State.cntGet_bump_wide (s : State) {key : Nat} (h : cntWide key = true) (n : Nat) :
    (s.bump key n).cntGet key = min (s.cntGet key + n) 0xFFFFFFFFFFFFFFFF := by
  rw [State.cntGet_bump, if_pos rfl, h]
  rfl

theorem countersKept_bump (s : State) (key n : Nat) : CountersKept [key] s (s.bump key n) :=
  fun _ hk => s.cntGet_bump_ne (fun h => hk (List.mem_singleton.mpr h)) n

section View

variable {s t : State} (h : t.expView = s.expView)
include h

theorem State.loaded_of_expView : t.plan.loaded = s.plan.loaded := congrArg Prod.fst h

theorem State.cntGet_of_expView (i : Fin 256) : t.cntGet (cntKey 0x0A0A 0 i.val) = s.cntGet (cntKey 0x0A0A 0 i.val) :=
  congrFun (congrArg Prod.snd h) i

end View

theorem State.expView_congr {s t : State} (hp : t.plan.loaded = s.plan.loaded) (hc : t.cnt = s.cnt) : t.expView = s.expView := by
  simp only [State.expView, State.cntGet, hp, hc]

/-- A counter of another block does not show. -/
theorem State.expView_bump (s : State) {key : Nat} (h : key / 2 ^ 28 ≠ 0x0A0A) (n : Nat) : (s.bump key n).expView = s.expView := by
  have hkept (i : Fin 256) : (s.bump key n).cntGet (cntKey 0x0A0A 0 i.val) = s.cntGet (cntKey 0x0A0A 0 i.val) := by
    refine s.cntGet_bump_ne (fun he => h ?_) n
    rw [← he, cntKey]
    omega
  simp only [State.expView, hkept, State.bump_frame]

@[simp] theorem ite_expView (c : Prop) [Decidable c] (a b : State) :
    (if c then a else b).expView = if c then a.expView else b.expView :=
  apply_ite State.expView c a b

@[simp] theorem foldl_expView {β : Type} (f : State → β → State) (h : ∀ s a, Keeps State.expView s (f s a)) (l : List β) (s : State) :
    (l.foldl f s).expView = s.expView := foldl_keeps State.expView f h l s

/-! ### Accesses to HBM (13 R317, R318, R323) -/

@[simp] theorem State.expView_raiseCause (s : State) (cause detail : Nat) : (s.raiseCause cause detail).expView = s.expView := by
  have hcnt : (s.raiseCause cause detail).cnt = (s.bump FaultCnt.faults 1).cnt := by simp [State.raiseCause]
  rw [State.expView_congr (by simp) hcnt, State.expView_bump s (by decide)]

@[simp] theorem State.expView_log (s : State) (origin : Nat × Nat) (cls inst old new : Nat) :
    (s.log origin cls inst old new).expView = s.expView := State.expView_congr (by simp) (by simp)

@[simp] theorem State.expView_setHealth (s : State) (b : Nat) : (s.setHealth b).expView = s.expView := rfl

@[simp] theorem State.expView_eccUe (s : State) (line : Nat) (flag : Bool) : (s.eccUe line flag).expView = s.expView := by
  have hcount := s.expView_bump (key := MemCnt.eccUe) (by decide) 1
  unfold State.eccUe
  dsimp only
  split
  · rw [State.expView_setHealth, State.expView_log, ← hcount]
    rfl
  · rw [State.expView_log, ← hcount]
    rfl

@[simp] theorem State.expView_eccCe (s : State) (line : Nat) : (s.eccCe line).expView = s.expView :=
  s.expView_bump (key := MemCnt.eccCe) (by decide) 1

@[simp] theorem State.expView_addrFault (s : State) (req a : Nat) : (s.addrFault req a).expView = s.expView := by
  have hbar2 := s.expView_bump (key := MemCnt.bar2Faults) (by decide) 1
  have hunit := s.expView_bump (key := MemCnt.addrFaults) (by decide) 1
  simp [State.addrFault, hbar2, hunit]

@[simp] theorem State.expView_lineNotes (s : State) (req a n : Nat) : (s.lineNotes req a n).expView = s.expView := by
  simp [State.lineNotes]

@[simp] theorem State.expView_hbmNoteRead (s : State) (req a n : Nat) : (s.hbmNoteRead req a n).expView = s.expView := by
  simp [State.hbmNoteRead]

@[simp] theorem State.expView_lineWrite (s : State) (req a : Nat) (data : List Byte) : (s.lineWrite req a data).expView = s.expView := by
  refine foldl_keeps State.expView _ (fun r e => ?_) _ s
  have hcount := ({ r with lineErr := Tab.set 0 r.lineErr e.1 0 } : State).expView_bump (key := MemCnt.eccCe) (by decide) 1
  simp only [keeps_iff, ite_expView]
  split
  · rfl
  · split
    · exact State.expView_eccUe _ _ _
    · exact hcount

@[simp] theorem State.expView_pageWrite (s : State) (base req a : Nat) (data : List Byte) :
    (s.pageWrite base req a data).expView = s.expView := by
  have hro := s.expView_bump (key := PlanCnt.planWritesDiscarded) (by decide) 1
  have hheld (off : Nat) : (s.holdWrite base req (pageOf a) off data).expView = s.expView := State.expView_congr (by simp) (by simp)
  simp [State.pageWrite, hro, hheld]

@[simp] theorem State.expView_hbmWriteN (s : State) (base req n a : Nat) (data : List Byte) :
    (s.hbmWriteN base req n a data).expView = s.expView := by
  induction n generalizing s a data with
  | zero => rfl
  | succ n ih => simp [State.hbmWriteN, ih]

@[simp] theorem State.expView_hbmWrite (s : State) (req a : Nat) (data : List Byte) : (s.hbmWrite req a data).expView = s.expView :=
  s.expView_hbmWriteN _ _ _ _ _

/-! ## Flits leave a link (15 R367 to R372) -/

theorem State.port_setPort (s : State) (p : Nat) (q : Port) (j : Nat) : (s.setPort p q).port j = if j = p then q else s.port j :=
  Tab.get_set _ _ _ _ _

theorem PortsOnly.refl (l : List Nat) (s : State) : PortsOnly l s s := ⟨rfl, fun _ _ => rfl⟩

theorem PortsOnly.trans {l : List Nat} {s t r : State} (h : PortsOnly l s t) (h' : PortsOnly l t r) : PortsOnly l s r := by
  obtain ⟨hfab, hports⟩ := h
  obtain ⟨hfab', hports'⟩ := h'
  refine ⟨?_, fun p hp => (hports' p hp).trans (hports p hp)⟩
  rw [← hfab, ← hfab']

theorem portsOnly_setPort (s : State) (p : Nat) (q : Port) : PortsOnly [p] s (s.setPort p q) := by
  refine ⟨rfl, fun j hj => ?_⟩
  rw [State.port_setPort, if_neg (fun h => hj (List.mem_singleton.mpr h))]

/-- `t` is `s` after the flits `sent` have left link `p`: each flit that waited waits still or has left, and those that have left are
kept for their acknowledgement. -/
structure Pumped (s t : State) (p : Nat) (sent : List Flit) : Prop where
  out : t.out = s.out ++ sent.map (OutEvent.flit p)
  waiting : ∀ f ∈ (s.port p).waiting, f ∈ (t.port p).waiting ∨ (f ∈ sent ∧ f ∈ (t.port p).unacked)
  unacked : (s.port p).unacked ⊆ (t.port p).unacked
  ports : PortsOnly [p] s t
  view : t.expView = s.expView

theorem Pumped.refl (s : State) (p : Nat) : Pumped s s p [] :=
  ⟨by simp, fun _ hf => .inl hf, List.Subset.refl _, .refl _ s, rfl⟩

theorem Pumped.trans {s t r : State} {p : Nat} {l m : List Flit} (h : Pumped s t p l) (h' : Pumped t r p m) :
    Pumped s r p (l ++ m) := by
  refine ⟨by rw [h'.out, h.out, List.map_append, List.append_assoc], fun f hf => ?_, fun f hf => h'.unacked (h.unacked hf),
    h.ports.trans h'.ports, h'.view.trans h.view⟩
  rcases h.waiting f hf with hw | ⟨hl, hu⟩
  · exact (h'.waiting f hw).imp_right fun ⟨hm, hu⟩ => ⟨List.mem_append_right _ hm, hu⟩
  · exact .inr ⟨List.mem_append_left _ hl, h'.unacked hu⟩

/-- One flit leaves a link. -/
theorem State.sendFlit_pumped (s : State) (p : Nat) (f : Flit) (turn : Nat × Nat) :
    Pumped s ((s.setPort p { s.port p with waiting := (s.port p).waiting.erase f, turn := turn }).sendFlit p f) p [f] := by
  let s1 := s.setPort p { s.port p with waiting := (s.port p).waiting.erase f, turn := turn }
  have hport : s1.port p = { s.port p with waiting := (s.port p).waiting.erase f, turn := turn } := by
    rw [State.port_setPort, if_pos rfl]
  have hsent : (s1.sendFlit p f).port p = { s1.port p with
      unacked := (s1.port p).unacked ++ [f], txCount := ((s1.port p).txCount + 1) % 2 ^ 16,
      sinceControl := (s1.port p).sinceControl + 1,
      used := bump24 (s1.port p).used (creditIx f.lane f.dclass) (fun v => v + 1) } := Tab.get_set_self _ _ _ _
  refine ⟨rfl, fun g hg => ?_, fun g hg => ?_, (portsOnly_setPort s p _).trans (portsOnly_setPort s1 p _), ?_⟩
  · rw [hsent, hport]
    by_cases hgf : g = f
    · exact .inr ⟨List.mem_singleton.mpr hgf, List.mem_append_right _ (List.mem_singleton.mpr hgf)⟩
    · exact .inl ((List.mem_erase_of_ne hgf).mpr hg)
  · rw [hsent, hport]
    exact List.mem_append_left _ hg
  · refine s.expView_bump (key := LinkCnt.flitsTx (p % 8)) ?_ 1
    rw [LinkCnt.flitsTx, cntKey]
    omega

theorem State.pump_pumped (s : State) (p n : Nat) : ∃ sent, Pumped s (s.pump p n) p sent := by
  induction n generalizing s with
  | zero => exact ⟨[], .refl s p⟩
  | succ n ih =>
    rw [State.pump]
    split
    · split
      next f turn _ =>
        obtain ⟨sent, hrest⟩ := ih ((s.setPort p { s.port p with waiting := (s.port p).waiting.erase f, turn := turn }).sendFlit p f)
        exact ⟨_, (s.sendFlit_pumped p f turn).trans hrest⟩
      · exact ⟨[], .refl s p⟩
    · exact ⟨[], .refl s p⟩

/-- A message handed to a link: its flits join those that wait, and those that may leave do. -/
theorem State.sendMsg_pumped (s : State) (p cls : Nat) (m : LinkMsg) : ∃ r sent, Pumped r (s.sendMsg p cls m) p sent ∧
    r.out = s.out ++ [.link p m] ∧ (r.port p).waiting = (s.port p).waiting ++ flitsOf m cls ∧ PortsOnly [p] s r ∧
    r.expView = s.expView := by
  let s1 := s.emit (.link p m)
  let s2 := s1.setPort p { s1.port p with waiting := (s1.port p).waiting ++ flitsOf m cls }
  obtain ⟨sent, hpumped⟩ := s2.pump_pumped p (s2.port p).waiting.length
  refine ⟨s2, sent, hpumped, rfl, ?_, portsOnly_setPort s1 p _, rfl⟩
  rw [State.port_setPort, if_pos rfl]
  rfl

theorem State.sendMsg_hands (s : State) (p cls : Nat) (m : LinkMsg) :
    Hands s (s.sendMsg p cls m) p (.link p m) (flitsOf m cls) := by
  obtain ⟨r, sent, hpumped, hout, hwaiting, -, -⟩ := s.sendMsg_pumped p cls m
  refine ⟨sent, ?_, fun f hf => hpumped.waiting f (hwaiting ▸ hf)⟩
  rw [hpumped.out, hout, List.append_assoc]
  rfl

theorem State.sendMsg_portsOnly (s : State) (p cls : Nat) (m : LinkMsg) : PortsOnly [p] s (s.sendMsg p cls m) := by
  obtain ⟨r, sent, hpumped, -, -, hports, -⟩ := s.sendMsg_pumped p cls m
  exact hports.trans hpumped.ports

theorem State.sendMsg_onlyChanges (s : State) (p cls : Nat) (m : LinkMsg) : OnlyChanges [.fab, .out, .cnt] s (s.sendMsg p cls m) := by
  intro q hq
  cases q
  case fab | out | cnt => simp at hq
  all_goals simp [SamePart]

@[simp] theorem State.expView_sendMsg (s : State) (p cls : Nat) (m : LinkMsg) : (s.sendMsg p cls m).expView = s.expView := by
  obtain ⟨r, sent, hpumped, -, -, -, hview⟩ := s.sendMsg_pumped p cls m
  exact hpumped.view.trans hview

theorem State.out_prefix_sendMsg (s : State) (p cls : Nat) (m : LinkMsg) : s.out <+: (s.sendMsg p cls m).out := by
  obtain ⟨sent, hout, -⟩ := s.sendMsg_hands p cls m
  exact ⟨_, hout.symm⟩

/-! ## Routes: a function of the configuration and the remap table (15 R380) -/

section Routes

variable {s t : State} (hfab : { t.fab with ports := s.fab.ports } = s.fab)
include hfab

theorem State.ringOf_congr (d : Nat) : t.ringOf d = s.ringOf d := (congrArg (fun f => State.ringOf { s with fab := f } d) hfab :)

theorem State.neighbour_congr (id d : Nat) (plus : Bool) : t.neighbour id d plus = s.neighbour id d plus :=
  (congrArg (fun f => State.neighbour { s with fab := f } id d plus) hfab :)

theorem State.legs_congr (src fuel at_ goal last cls : Nat) : t.legs src fuel at_ goal last cls = s.legs src fuel at_ goal last cls := by
  have hhole (id : Nat) : t.isHole id = s.isHole id := (congrArg (fun f => State.isHole { s with fab := f } id) hfab :)
  have hdetour (d : Nat) : t.detourDim d = s.detourDim d := (congrArg (fun f => State.detourDim { s with fab := f } d) hfab :)
  have hport (a b d : Nat) (plus : Bool) : t.hopPort a b d plus = s.hopPort a b d plus :=
    (congrArg (fun f => State.hopPort { s with fab := f } a b d plus) hfab :)
  induction fuel generalizing at_ last cls with
  | zero => rfl
  | succ fuel ih =>
    simp only [State.legs, State.ringOf_congr hfab, State.neighbour_congr hfab, hhole, hdetour, hport, ih]

theorem State.path_congr (src dst : Nat) : t.path src dst = s.path src dst := by
  have hentry : t.entryOf src dst = s.entryOf src dst := (congrArg (fun f => State.entryOf { s with fab := f } src dst) hfab :)
  have hexit (at_ : Nat) : t.exitOf dst at_ = s.exitOf dst at_ := (congrArg (fun f => State.exitOf { s with fab := f } dst at_) hfab :)
  simp only [State.path, hentry, hexit, State.legs_congr hfab]

theorem State.fabricAddr_congr : t.fabricAddr = s.fabricAddr := (congrArg (fun f => State.fabricAddr { s with fab := f }) hfab :)

theorem State.ownId_congr : t.ownId = s.ownId := (congrArg (fun f => State.ownId { s with fab := f }) hfab :)

theorem State.hopHere_congr (src dst : Nat) : t.hopHere src dst = s.hopHere src dst := by
  have hnode : t.ownNode = s.ownNode := (congrArg (fun f => State.ownNode { s with fab := f }) hfab :)
  simp only [State.hopHere, State.path_congr hfab, hnode]

theorem State.inLink_congr (src : Nat) : t.inLink src = s.inLink src := by
  have hrole : t.fab.role = s.fab.role := (congrArg Fabric.role hfab :)
  have hfold : t.fab.fold = s.fab.fold := (congrArg Fabric.fold hfab :)
  have hmod : t.fab.modId = s.fab.modId := (congrArg Fabric.modId hfab :)
  simp only [State.inLink, State.arrival, State.path_congr hfab, State.fabricAddr_congr hfab, State.ownId_congr hfab, hrole, hfold,
    hmod]

end Routes

/-! ## Changes one after another -/

theorem SamePart.trans {s t r : State} {p : Part} (h : SamePart s t p) (h' : SamePart t r p) : SamePart s r p := by
  cases p <;> exact Eq.trans h' h

theorem OnlyChanges.refl (l : List Part) (s : State) : OnlyChanges l s s := fun p _ => by cases p <;> rfl

theorem OnlyChanges.trans {l m n : List Part} {s t r : State} (h : OnlyChanges l s t) (h' : OnlyChanges m t r) (hl : l ⊆ n)
    (hm : m ⊆ n) : OnlyChanges n s r :=
  fun p hp => (h p (fun hpl => hp (hl hpl))).trans (h' p (fun hpm => hp (hm hpm)))

theorem onlyChanges_bump (s : State) (key n : Nat) : OnlyChanges [.cnt] s (s.bump key n) := by
  intro p hp
  cases p
  case cnt => simp at hp
  all_goals rfl

theorem foldl_out_prefix {β : Type} (f : State → β → State) (h : ∀ r a, r.out <+: (f r a).out) (l : List β) (s : State) :
    s.out <+: (l.foldl f s).out := by
  induction l generalizing s with
  | nil => exact List.prefix_rfl
  | cons a l ih => exact (h s a).trans (ih (f s a))

/-! ## Acknowledgements (15 R382) -/

@[simp] theorem State.expView_dropLate (s : State) (trailer : Bool) : (s.dropLate trailer).expView = s.expView := by
  cases trailer with
  | false => exact s.expView_bump (key := PlanCnt.droppedLate) (by decide) 1
  | true => exact s.expView_bump (key := HealthCnt.droppedTrailers) (by decide) 1

@[simp] theorem State.expView_discardLate (s : State) (id : Nat) : (s.discardLate id).expView = s.expView :=
  foldl_keeps State.expView (fun r (y : Carry) => r.dropLate y.trailer) (fun r y => r.expView_dropLate y.trailer) _ _

@[simp] theorem State.expView_applySignal (s : State) (id inc : Nat) (rep : Option Nat) :
    (s.applySignal id inc rep).expView = s.expView := by
  have hset (c : Ctr) : (s.setCtr id c).expView = s.expView := rfl
  have hlate (r : State) : (r.bump TimeCnt.lateSignals 1).expView = r.expView := r.expView_bump (by decide) 1
  have hstale : (s.bump PlanCnt.staleSignals 1).expView = s.expView := s.expView_bump (by decide) 1
  simp [State.applySignal, hset, hlate, hstale]

@[simp] theorem State.expView_ackMsg (s : State) (u : Unacked) : (s.ackMsg u).expView = s.expView := by
  have hemit (r : State) (e : OutEvent) : (r.emit e).expView = r.expView := rfl
  simp [State.ackMsg, hemit]

@[simp] theorem State.expView_received (s : State) (u : Unacked) : (s.received u).expView = s.expView :=
  foldl_keeps State.expView _ (fun r v => r.expView_ackMsg v) _ _

/-- An acknowledgement changes the list of those that wait and nothing else of the link unit. -/
theorem State.fab_received (s : State) (u : Unacked) : { (s.received u).fab with unacked := s.fab.unacked } = s.fab := by
  have hfab : (s.received u).fab = { s.fab with unacked :=
      (State.splitAcks { s with fab.unacked := s.fab.unacked ++ [u] } (s.fab.unacked ++ [u])).2 } :=
    foldl_keeps State.fab _ (fun r v => by simp) _ _
  rw [hfab]

theorem State.out_prefix_ackMsg (s : State) (u : Unacked) : s.out <+: (s.ackMsg u).out := by
  rw [State.ackMsg]
  split
  · exact ⟨[.ack u.port u.src], by simp [State.emit]⟩
  · simp

theorem State.out_prefix_received (s : State) (u : Unacked) : s.out <+: (s.received u).out := by
  let s1 : State := { s with fab.unacked := s.fab.unacked ++ [u] }
  let acks := s1.splitAcks s1.fab.unacked
  exact foldl_out_prefix State.ackMsg State.out_prefix_ackMsg acks.1 { s1 with fab.unacked := acks.2 }

theorem State.received_onlyChanges (s : State) (u : Unacked) : OnlyChanges [.plan, .cnt, .out, .fab] s (s.received u) := by
  intro q hq
  cases q
  case plan | cnt | out | fab => simp at hq
  all_goals simp [SamePart]

/-- With no other message waiting, a message received waits while its bytes are held, and is acknowledged at once otherwise. -/
theorem State.received_of_none {s : State} (h : s.fab.unacked = []) (u : Unacked) :
    s.received u = if s.ackHeld u then { s with fab.unacked := [u] } else s.ackMsg u := by
  have hsame : ({ s with fab.unacked := [] } : State) = s := by rw [← h]
  have hheld : ({ s with fab.unacked := [u] } : State).ackHeld u = s.ackHeld u := rfl
  cases hu : s.ackHeld u with
  | true => simp [State.received, State.settleAcks, State.splitAcks, h, hheld, hu]
  | false => simp [State.received, State.settleAcks, State.splitAcks, h, hheld, hu, hsame]

theorem State.ackHeld_of_none {s : State} (h : s.heldWrites = []) (u : Unacked) : s.ackHeld u = false := by
  rw [State.ackHeld, h]
  rfl

/-- A signal's own counter by the groups that a signal reads; a late contribution that it lets go changes no counter. -/
theorem State.ctrs_applySignal (s : State) (id inc : Nat) : (s.applySignal id inc none).plan.ctrs =
    if id = noCtr then s.plan.ctrs
    else (s.setCtr id { s.ctr id with
      value := ((s.ctr id).value + (inc - Nat.min (s.ctr id).shortfall inc)) % 2 ^ 32
      shortfall := (s.ctr id).shortfall - Nat.min (s.ctr id).shortfall inc }).plan.ctrs := by
  have hdiscard (r : State) : (r.discardLate id).plan.ctrs = r.plan.ctrs :=
    foldl_keeps (fun r => r.plan.ctrs) _ (fun r y => by cases y.trailer <;> rfl) _ _
  unfold State.applySignal
  split
  · rfl
  · dsimp only
    rw [if_neg (by simp)]
    split
    · rfl
    · split
      · rw [hdiscard]
        rfl
      · rfl

end Sys2Proof.Machine
end

section
/-! PROOFS. The expert commands of a Hen and the expert messages of lanes 1 and 2 (10 R233 to R253): the gates, how a command starts,
what loopback leaves alone, how a record, an answer and an end marker are received. -/

namespace Sys2Proof.Machine

/-! ## Gates (10 R249) -/

@[simp] theorem State.gates_beginEpoch (s : State) (r x : Nat) : (s.beginEpoch r x).unit.gates = s.unit.gates := by
  unfold State.beginEpoch
  dsimp only
  split <;> rfl

@[simp] theorem State.streams_beginEpoch (s : State) (r x : Nat) : (s.beginEpoch r x).unit.streams = s.unit.streams := by
  unfold State.beginEpoch
  dsimp only
  split <;> rfl

@[simp] theorem State.streams_closeEpoch (s : State) (r gate x : Nat) : (s.closeEpoch r gate x).unit.streams = s.unit.streams := by
  unfold State.closeEpoch
  split <;> rfl

/-- What a command begins depends on what has begun. -/
theorem State.begun_beginEpoch (s : State) (r x : Nat) : (s.beginEpoch r x).unit.begun =
    if (x + 1 + 65536 - Tab.get 0 s.unit.begun r) % 65536 < 32768 then Tab.set 0 s.unit.begun r ((x + 1) % 65536)
    else s.unit.begun := by
  unfold State.beginEpoch
  dsimp only
  split <;> rfl

theorem State.accepts_congr {s t : State} (h : t.unit.gates = s.unit.gates) (r gate x : Nat) :
    t.accepts r gate x = s.accepts r gate x := by
  rw [State.accepts, State.gateLow, h]
  rfl

theorem State.gates_closeEpoch (s : State) (r gate x : Nat) : (s.closeEpoch r gate x).unit.gates =
    if s.accepts r gate x then Tab.set 0 s.unit.gates (2 * r + gate) ((x + 1) % 65536) else s.unit.gates := by
  unfold State.closeEpoch
  split <;> rfl

theorem State.gates_closeEpoch_congr {s t : State} (h : t.unit.gates = s.unit.gates) (r gate x : Nat) :
    (t.closeEpoch r gate x).unit.gates = (s.closeEpoch r gate x).unit.gates := by
  rw [State.gates_closeEpoch, State.gates_closeEpoch, State.accepts_congr h, h]

/-- A gate that has closed an epoch is past it. -/
theorem gate_closes {s t : State} {r gate x : Nat} (h : t.unit.gates = (s.closeEpoch r gate x).unit.gates) (hx : x < 65536) :
    (s.accepts r gate x = true → t.gateLow r gate = (x + 1) % 65536 ∧ t.accepts r gate x = false) ∧
      (s.accepts r gate x = false → t.unit.gates = s.unit.gates) := by
  rw [State.gates_closeEpoch] at h
  refine ⟨fun hopen => ?_, fun hshut => by rw [h, hshut]; rfl⟩
  have hlow : t.gateLow r gate = (x + 1) % 65536 := by rw [State.gateLow, h, if_pos hopen, Tab.get_set_self]
  refine ⟨hlow, ?_⟩
  rw [State.accepts, hlow]
  simp
  omega

/-! ## How an expert command starts (10 R241, Table 10-8) -/

/-- `t` has Hen `h`'s expert command of descriptor `d` in progress with its budget, its record's key and its count, and the groups of
the state that no expert command touches are as in `s`. -/
def ExpStarts (s t : State) (h d : Nat) : Prop :=
  ∃ g, StartsWith s t (180 + h) d g ∧ g.planCyc = (expCmd d).planCyc ∧ g.slackCyc = (expCmd d).slackCyc ∧
    g.statKey = some (henKey h (expCmd d).stat) ∧ (ExpCnt.commands h, 1) ∈ g.bumps ∧
    t.dev = s.dev ∧ t.pwr = s.pwr ∧ t.time = s.time ∧ t.acts = s.acts ∧ t.ck = s.ck ∧ t.host = s.host

/-- `t` is `r` in which the expert command of descriptor `d`, read in `s`, takes its place in progress. -/
def ExpIssues (s r t : State) (h d : Nat) : Prop :=
  ∃ (cycles code : Nat) (capped drops : Bool) (a b : Nat) (extra : List Bump) (outs : List (Nat × Nat)),
    t = r.startCmd (henStream h) (s.expFlight h d (expCmd d) cycles code capped drops a b extra outs)

section Issues

variable {s r t : State} {h d : Nat} (hissues : ExpIssues (s.clearReuse h) r t h d)
include hissues

theorem ExpIssues.starts (hr : r.unit.streams = s.unit.streams)
    (hframe : t.dev = s.dev ∧ t.pwr = s.pwr ∧ t.time = s.time ∧ t.acts = s.acts ∧ t.ck = s.ck ∧ t.host = s.host) :
    ExpStarts s t h d := by
  obtain ⟨cycles, code, capped, drops, a, b, extra, outs, rfl⟩ := hissues
  exact ⟨_, startsWith_startCmd_of_streams (s := s) hr _ d rfl rfl rfl rfl rfl rfl rfl, rfl, rfl, rfl, List.mem_cons_self, hframe⟩

theorem ExpIssues.kept : t.out = r.out ∧ t.unit.gates = r.unit.gates ∧ t.unit.begun = r.unit.begun := by
  obtain ⟨cycles, code, capped, drops, a, b, extra, outs, rfl⟩ := hissues
  exact ⟨rfl, rfl, rfl⟩

/-- A command that begins its epoch starts, and closes no gate. -/
theorem ExpIssues.begins (hunit : r.unit = ((s.clearReuse h).beginEpoch (expCmd d).router (expCmd d).epoch).unit)
    (hframe : t.dev = s.dev ∧ t.pwr = s.pwr ∧ t.time = s.time ∧ t.acts = s.acts ∧ t.ck = s.ck ∧ t.host = s.host) :
    ExpStarts s t h d ∧ t.unit.gates = s.unit.gates := by
  obtain ⟨-, hgates, -⟩ := hissues.kept
  exact ⟨hissues.starts (hunit ▸ State.streams_beginEpoch _ _ _) hframe, hgates.trans (hunit ▸ State.gates_beginEpoch _ _ _)⟩

/-- A command that begins its epoch and closes it at a gate starts. -/
theorem ExpIssues.closes {gate : Nat} (hunit : r.unit = (((s.clearReuse h).beginEpoch (expCmd d).router (expCmd d).epoch).closeEpoch
      (expCmd d).router gate (expCmd d).epoch).unit)
    (hframe : t.dev = s.dev ∧ t.pwr = s.pwr ∧ t.time = s.time ∧ t.acts = s.acts ∧ t.ck = s.ck ∧ t.host = s.host) :
    ExpStarts s t h d ∧ t.unit.gates = (s.closeEpoch (expCmd d).router gate (expCmd d).epoch).unit.gates := by
  obtain ⟨-, hgates, -⟩ := hissues.kept
  refine ⟨hissues.starts ?_ hframe, ?_⟩
  · rw [hunit, State.streams_closeEpoch, State.streams_beginEpoch]
    rfl
  · rw [hgates, hunit]
    exact State.gates_closeEpoch_congr (s := s) (State.gates_beginEpoch (s.clearReuse h) _ _) _ _ _

end Issues

theorem State.route_issues (s : State) (h d : Nat) :
    ∃ r, r.unit = (s.beginEpoch (expCmd d).router (expCmd d).epoch).unit ∧ ExpIssues s r (s.route h d) h d :=
  ⟨_, by simp, _, _, _, _, _, _, _, _, rfl⟩

theorem State.epochCloseCmd_issues (s : State) (h d : Nat) : ∃ r, r.unit = ((s.beginEpoch (expCmd d).router
      (expCmd d).epoch).closeEpoch (expCmd d).router (b2n (expCmd d).gscale) (expCmd d).epoch).unit ∧
    ExpIssues s r (s.epochCloseCmd h d) h d :=
  ⟨_, rfl, _, _, _, _, _, _, _, _, rfl⟩

section Formats

variable (s : State) {h d : Nat} {f : Fmt} (hf : fmtOfByte (expCmd d).fmt = some f)
include hf

theorem State.sortCmd_issues : ∃ r, r.unit = ((s.beginEpoch (expCmd d).router (expCmd d).epoch).closeEpoch (expCmd d).router 0
    (expCmd d).epoch).unit ∧ ExpIssues s r (s.sortCmd h d) h d := by
  unfold State.sortCmd
  simp only [hf]
  exact ⟨_, by simp, _, _, _, _, _, _, _, _, rfl⟩

theorem State.combineCmd_issues : ∃ r, r.unit = ((s.beginEpoch (expCmd d).router (expCmd d).epoch).closeEpoch (expCmd d).router 1
    (expCmd d).epoch).unit ∧ ExpIssues s r (s.combineCmd h d) h d := by
  unfold State.combineCmd
  simp only [hf]
  exact ⟨_, by simp, _, _, _, _, _, _, _, _, rfl⟩

theorem State.gateGradCmd_issues : ∃ r, r.unit = (s.beginEpoch (expCmd d).router (expCmd d).epoch).unit ∧
    ExpIssues s r (s.gateGradCmd h d) h d := by
  unfold State.gateGradCmd
  simp only [hf]
  exact ⟨_, by simp, _, _, _, _, _, _, _, _, rfl⟩

end Formats

/-! ## What records, answers and end markers leave alone, sent or received (10 R233, R243, R244, R247) -/

/-- The streams and the gates. -/
def State.streamsGates (s : State) : Tab Stream × Tab Nat := (s.unit.streams, s.unit.gates)

theorem State.streamsGates_of_unit {s t : State} (h : t.unit = s.unit) : t.streamsGates = s.streamsGates := by
  rw [State.streamsGates, h]
  rfl

theorem State.streamsGates_recvRecord (s : State) (link : Nat) (data : List Byte) :
    (s.recvRecord link data).streamsGates = s.streamsGates := by
  unfold State.recvRecord
  dsimp only
  split
  · rfl
  · split
    · rfl
    · refine foldl_keeps State.streamsGates _ (fun r j => ?_) _ _
      simp [State.streamsGates]

/-- The state with a dispatch end marker kept: its counts and that it has come (10 R244). -/
def State.keepMarker (s : State) (m : EndMarker) : State :=
  let s1 := s.dropMarkers m.router m.epoch
  { s1 with unit.markers := Tab.put 0 s1.unit.markers (markerKey m.router m.epoch m.src 0) (fit 0 32 m.counts ++ [1]) }

theorem State.recvMarker_of_accepts {s : State} {m : EndMarker} (h : s.accepts m.router 0 m.epoch = true) (link : Nat) :
    s.recvMarker link m = (s.keepMarker m).received
      { port := link, src := m.src, key := (s.recvBytes m.router m.epoch).1, len := (s.recvBytes m.router m.epoch).2,
        sigId := s.expBase + 2 * m.router, sigInc := 1, tell := false } :=
  if_pos h

theorem State.recvMarker_of_refused {s : State} {m : EndMarker} (h : s.accepts m.router 0 m.epoch = false) (link : Nat) :
    s.recvMarker link m = s :=
  if_neg (by rw [h]; decide)

theorem State.streamsGates_recvMarker (s : State) (link : Nat) (m : EndMarker) :
    (s.recvMarker link m).streamsGates = s.streamsGates := by
  cases h : s.accepts m.router 0 m.epoch with
  | true =>
    rw [State.recvMarker_of_accepts h]
    exact State.streamsGates_of_unit (s := s.keepMarker m) (by simp)
  | false => rw [State.recvMarker_of_refused h]

theorem State.out_prefix_recvMarker (s : State) (link : Nat) (m : EndMarker) : s.out <+: (s.recvMarker link m).out := by
  cases h : s.accepts m.router 0 m.epoch with
  | true =>
    rw [State.recvMarker_of_accepts h]
    exact (s.keepMarker m).out_prefix_received _
  | false => rw [State.recvMarker_of_refused h]

theorem State.out_prefix_recvAnswerMarker (s : State) (link : Nat) (m : EndMarker) : s.out <+: (s.recvAnswerMarker link m).out := by
  unfold State.recvAnswerMarker
  split
  · exact s.out_prefix_received _
  · exact List.prefix_rfl

theorem State.out_prefix_sendExpert (s : State) (lane dst : Nat) (data : List Byte) : s.out <+: (s.sendExpert lane dst data).out := by
  unfold State.sendExpert
  split
  · exact State.out_prefix_sendMsg _ _ _ _
  · exact List.prefix_rfl

/-- `t` is `s` after expert messages have been sent or have come by loopback: the outbox has grown, and streams and gates are as they
were. -/
structure Loops (s t : State) : Prop where
  out : s.out <+: t.out
  kept : t.streamsGates = s.streamsGates

theorem Loops.of_eq {s t : State} (hout : t.out = s.out) (hunit : t.streamsGates = s.streamsGates) : Loops s t :=
  ⟨hout ▸ List.prefix_rfl, hunit⟩

theorem Loops.trans {s t r : State} (h : Loops s t) (h' : Loops t r) : Loops s r := ⟨h.out.trans h'.out, h'.kept.trans h.kept⟩

theorem Loops.setPlaced {s t : State} (h : Loops s t) (p : List (Nat × Nat)) : Loops s { t with unit.placed := p } :=
  ⟨h.out, h.kept⟩

theorem foldl_loops {β : Type} (f : State → β → State) (h : ∀ r a, Loops r (f r a)) (l : List β) (s : State) :
    Loops s (l.foldl f s) :=
  ⟨foldl_out_prefix f (fun r a => (h r a).out) l s, foldl_keeps State.streamsGates f (fun r a => (h r a).kept) l s⟩

theorem State.sendExpert_loops (s : State) (lane dst : Nat) (data : List Byte) : Loops s (s.sendExpert lane dst data) :=
  ⟨s.out_prefix_sendExpert lane dst data, State.streamsGates_of_unit (by simp)⟩

theorem State.sendRecord_loops (s : State) (rt : Router) (c : ExpCmd) (me t g : Nat) (sels : List RouteEntry) (row : List Byte) :
    Loops s (s.sendRecord rt c me t g sels row) := by
  unfold State.sendRecord
  dsimp only
  split
  · exact .of_eq (by simp) (s.streamsGates_recvRecord loopback _)
  · exact (s.sendExpert_loops 1 _ _).setPlaced _

theorem State.sendMarkers_loops (s : State) (rt : Router) (router epoch lane : Nat) (counts : Nat → List Nat) :
    Loops s (s.sendMarkers rt router epoch lane counts) := by
  refine foldl_loops _ (fun r g => ?_) _ s
  dsimp only
  split
  · split
    · exact ⟨r.out_prefix_recvMarker _ _, r.streamsGates_recvMarker _ _⟩
    · exact ⟨r.out_prefix_recvAnswerMarker _ _, State.streamsGates_of_unit (by simp)⟩
  · exact r.sendExpert_loops lane _ _

theorem State.answer_loops (s : State) (dst own : Nat) (data : List Byte) :
    Loops s (if dst = own then s.recvAnswer loopback data else s.sendExpert 2 dst data) := by
  split
  · exact .of_eq (by simp) (State.streamsGates_of_unit (by simp))
  · exact s.sendExpert_loops 2 dst data

/-- What a command does before it sends: its epoch begins, and the rows that it reads, with their entries, are noted read. -/
theorem State.notedRows_loops (s : State) (x y u w n : Nat) (b : RowBlock) (key len : Nat → Nat) :
    Loops s ((List.range n).foldl (fun r i => (r.noteRow u b i w).noteRead u (key i) (len i)) (s.beginEpoch x y)) :=
  .of_eq (by simp) (by simp [State.streamsGates])

section Formats

variable (s : State) {h d : Nat} {f : Fmt} (hf : fmtOfByte (expCmd d).fmt = some f)
include hf

/-- DISPATCH starts after what it sends (10 R241, R244). -/
theorem State.dispatchCmd_issues : ∃ r, Loops s r ∧ ExpIssues s r (s.dispatchCmd h d) h d := by
  unfold State.dispatchCmd
  simp only [hf]
  refine ⟨_, ?_, _, _, _, _, _, _, _, _, rfl⟩
  split
  · exact ((s.notedRows_loops _ _ _ _ _ _ _ _).trans (foldl_loops _ (fun r x => r.sendRecord_loops _ _ _ _ _ _ _) _ _)).trans
      ((State.sendMarkers_loops _ _ _ _ _ _).setPlaced _)
  · exact (s.notedRows_loops _ _ _ _ _ _ _ _).trans (foldl_loops _ (fun r x => r.sendRecord_loops _ _ _ _ _ _ _) _ _)

/-- RETURN starts after what it sends (10 R247). -/
theorem State.returnCmd_issues : ∃ r, Loops s r ∧ ExpIssues s r (s.returnCmd h d) h d := by
  unfold State.returnCmd
  simp only [hf]
  refine ⟨_, ?_, _, _, _, _, _, _, _, _, rfl⟩
  split
  · exact ((s.notedRows_loops _ _ _ _ _ _ _ _).trans (foldl_loops _ (fun r i => r.answer_loops _ _ _) _ _)).trans
      (State.sendMarkers_loops _ _ _ _ _ _)
  · exact (s.notedRows_loops _ _ _ _ _ _ _ _).trans (foldl_loops _ (fun r i => r.answer_loops _ _ _) _ _)

end Formats

/-! ## The commands -/

section Commands

variable {h : Fin 30} {s : State} {d : Nat}

/-- ROUTE, which begins its epoch (10 R236, R249). -/
theorem route_runs (hr : s.readyExec (180 + h.val) 5 0x10 = some d) : ∃ t, exec (.route h) s = .next t ∧ ExpStarts s t h.val d ∧
    t.out = s.out ∧ t.unit.gates = s.unit.gates ∧
    t.unit.begun = (s.beginEpoch (expCmd d).router (expCmd d).epoch).unit.begun := by
  obtain ⟨r, hunit, hissues⟩ := (s.clearReuse h.val).route_issues h.val d
  obtain ⟨hstarts, hgates⟩ := hissues.begins hunit (by simp)
  obtain ⟨-, -, hbegun⟩ := hissues.kept
  refine ⟨(s.clearReuse h.val).route h.val d, ?_, hstarts, by simp, hgates, ?_⟩
  · change execRoute h s = _
    rw [execRoute, henStream, hr]
  · rw [hbegun, hunit, State.begun_beginEpoch, State.begun_beginEpoch]
    rfl

/-- EPOCH_CLOSE closes the gate that it names and changes nothing else (10 R249). -/
theorem epochClose_runs (hr : s.readyExec (180 + h.val) 5 0x15 = some d) : ∃ t, exec (.epochClose h) s = .next t ∧
    (ExpStarts s t h.val d ∧ t.unit.gates = (s.closeEpoch (expCmd d).router (b2n (expCmd d).gscale) (expCmd d).epoch).unit.gates) ∧
    OnlyChanges [.unit] s t := by
  obtain ⟨r, hunit, hissues⟩ := (s.clearReuse h.val).epochCloseCmd_issues h.val d
  refine ⟨(s.clearReuse h.val).epochCloseCmd h.val d, ?_, hissues.closes hunit (by simp), fun p hp => ?_⟩
  · change execEpochClose h s = _
    rw [execEpochClose, henStream, hr]
  · cases p
    case unit => simp at hp
    all_goals simp [SamePart]

variable {f : Fmt} (hf : fmtOfByte (expCmd d).fmt = some f)
include hf

theorem dispatch_runs (hr : s.readyExec (180 + h.val) 5 0x11 = some d) : ∃ t, exec (.dispatch h) s = .next t ∧
    ExpStarts s t h.val d ∧ s.out <+: t.out ∧ t.unit.gates = s.unit.gates := by
  obtain ⟨r, ⟨hgrows, hkept⟩, hissues⟩ := (s.clearReuse h.val).dispatchCmd_issues (h := h.val) hf
  obtain ⟨hout, hgates, -⟩ := hissues.kept
  refine ⟨(s.clearReuse h.val).dispatchCmd h.val d, ?_, hissues.starts (congrArg Prod.fst hkept) (by simp), hout ▸ hgrows,
    hgates.trans (congrArg Prod.snd hkept)⟩
  change execDispatch h s = _
  rw [execDispatch, henStream, hr]

theorem ret_runs (hr : s.readyExec (180 + h.val) 5 0x13 = some d) : ∃ t, exec (.ret h) s = .next t ∧ ExpStarts s t h.val d ∧
    s.out <+: t.out ∧ t.unit.gates = s.unit.gates := by
  obtain ⟨r, ⟨hgrows, hkept⟩, hissues⟩ := (s.clearReuse h.val).returnCmd_issues (h := h.val) hf
  obtain ⟨hout, hgates, -⟩ := hissues.kept
  refine ⟨(s.clearReuse h.val).returnCmd h.val d, ?_, hissues.starts (congrArg Prod.fst hkept) (by simp), hout ▸ hgrows,
    hgates.trans (congrArg Prod.snd hkept)⟩
  change execRet h s = _
  rw [execRet, henStream, hr]

/-- SORT closes its epoch at the dispatch gate (10 R246, R249). -/
theorem sort_runs (hr : s.readyExec (180 + h.val) 5 0x12 = some d) : ∃ t, exec (.sort h) s = .next t ∧ ExpStarts s t h.val d ∧
    t.out = s.out ∧ t.unit.gates = (s.closeEpoch (expCmd d).router 0 (expCmd d).epoch).unit.gates := by
  obtain ⟨r, hunit, hissues⟩ := (s.clearReuse h.val).sortCmd_issues (h := h.val) hf
  obtain ⟨hstarts, hgates⟩ := hissues.closes hunit (by simp)
  refine ⟨(s.clearReuse h.val).sortCmd h.val d, ?_, hstarts, by simp, hgates⟩
  change execSort h s = _
  rw [execSort, henStream, hr]

/-- COMBINE closes its epoch at the answer gate (10 R248, R249). -/
theorem combine_runs (hr : s.readyExec (180 + h.val) 5 0x14 = some d) : ∃ t, exec (.combine h) s = .next t ∧ ExpStarts s t h.val d ∧
    t.out = s.out ∧ t.unit.gates = (s.closeEpoch (expCmd d).router 1 (expCmd d).epoch).unit.gates := by
  obtain ⟨r, hunit, hissues⟩ := (s.clearReuse h.val).combineCmd_issues (h := h.val) hf
  obtain ⟨hstarts, hgates⟩ := hissues.closes hunit (by simp)
  refine ⟨(s.clearReuse h.val).combineCmd h.val d, ?_, hstarts, by simp, hgates⟩
  change execCombine h s = _
  rw [execCombine, henStream, hr]

theorem gateGrad_runs (hr : s.readyExec (180 + h.val) 5 0x16 = some d) : ∃ t, exec (.gateGrad h) s = .next t ∧
    ExpStarts s t h.val d ∧ t.out = s.out ∧ t.unit.gates = s.unit.gates := by
  obtain ⟨r, hunit, hissues⟩ := (s.clearReuse h.val).gateGradCmd_issues (h := h.val) hf
  obtain ⟨hstarts, hgates⟩ := hissues.begins hunit (by simp)
  refine ⟨(s.clearReuse h.val).gateGradCmd h.val d, ?_, hstarts, by simp, hgates⟩
  change execGateGrad h s = _
  rw [execGateGrad, henStream, hr]

end Commands

/-! ## What comes for a failed module goes on to its spare (15 R395) -/

/-- `t` is `s` after the expert message with these fields, for the failed module, has been handed to link `p`. -/
def Passes (s t : State) (p lane src : Nat) (data : List Byte) : Prop :=
  ∃ lm cls, lm.kind = 5 ∧ lm.lane = lane ∧ lm.dst = s.fab.modId ∧ lm.src = src ∧ lm.data = data ∧
    Hands s t p (.link p lm) (flitsOf lm cls) ∧ PortsOnly [p] s t ∧ OnlyChanges [.fab, .out, .cnt] s t

theorem State.passExpert_passes (s : State) (p lane src : Nat) (data : List Byte) :
    Passes s (s.passExpert p lane src data) p lane src data :=
  ⟨_, _, rfl, rfl, rfl, rfl, rfl, s.sendMsg_hands p _ _, s.sendMsg_portsOnly p _ _, s.sendMsg_onlyChanges p _ _⟩

/-! ## Records and answers are acknowledged (10 R233, R261) -/

/-- `t` is `s` after an expert message of module `src` has been received and acknowledged: the link unit has only its list of messages
that wait changed, and with nothing waiting and nothing held its sender is told, unless it came by loopback. -/
def Acked (s t : State) (src : Nat) : Prop :=
  (s.fab.unacked = [] → t.heldWrites = [] → t.fab = s.fab ∧
      t.out = s.out ++ (if s.inLink src < 16 then [OutEvent.ack (s.inLink src) src] else [])) ∧
    { t.fab with unacked := s.fab.unacked } = s.fab ∧ t.dev = s.dev ∧ t.time = s.time

/-- With nothing waiting and nothing held, the acknowledgement leaves at once. -/
theorem State.ackExpert_of_none {s : State} (h : s.fab.unacked = []) (hheld : s.heldWrites = []) (src : Nat) (area : Nat × Nat) :
    s.ackExpert src area = if s.inLink src < 16 then s.emit (.ack (s.inLink src) src) else s := by
  rw [State.ackExpert, State.received_of_none h, State.ackHeld_of_none hheld, if_neg (by decide), State.ackMsg]
  dsimp only
  rw [State.applySignal_noCtr]
  simp only [decide_eq_true_eq]

/-- With nothing waiting, what is received waits or is acknowledged, and no counter counts it. -/
theorem State.ackExpert_keeps {s : State} (h : s.fab.unacked = []) (src : Nat) (area : Nat × Nat) :
    (s.ackExpert src area).cnt = s.cnt ∧ (s.ackExpert src area).plan = s.plan := by
  rw [State.ackExpert, State.received_of_none h]
  split
  · exact ⟨rfl, rfl⟩
  · rw [State.ackMsg]
    dsimp only
    rw [State.applySignal_noCtr]
    split <;> exact ⟨rfl, rfl⟩

theorem State.ackExpert_acked {s r : State} (hfab : r.fab = s.fab) (hout : r.out = s.out) (hdev : r.dev = s.dev)
    (htime : r.time = s.time) (src : Nat) (area : Nat × Nat) : Acked s (r.ackExpert src area) src := by
  have hlink : r.inLink src = s.inLink src := State.inLink_congr (by rw [hfab]) src
  refine ⟨fun hnone hheld => ?_, hfab ▸ r.fab_received _, by simpa using hdev, by simpa using htime⟩
  rw [State.ackExpert_of_none (hfab ▸ hnone) (by simpa using hheld), hlink]
  split
  · exact ⟨hfab, congrArg (· ++ [OutEvent.ack (s.inLink src) src]) hout⟩
  · exact ⟨hfab, by rw [hout, List.append_nil]⟩

/-- A record or an answer that its gate refuses is counted in field `i` of the expert counters, and acknowledged. -/
theorem State.ackExpert_refused (s : State) (i : Fin 256) (hnarrow : cntWide (cntKey 0x0A0A 0 i.val) = false) (src : Nat)
    (area : Nat × Nat) :
    let key := cntKey 0x0A0A 0 i.val
    let t := (s.bump key 1).ackExpert src area
    t.cntGet key = min (s.cntGet key + 1) 0xFFFFFFFF ∧
      (s.fab.unacked = [] → CountersKept [key] s t ∧ OnlyChanges [.cnt, .out, .fab] s t) := by
  intro key t
  have hcount := s.cntGet_bump_narrow hnarrow 1
  refine ⟨(State.cntGet_of_expView (State.expView_received _ _) i).trans hcount, fun hnone => ?_⟩
  obtain ⟨hcnt, hplan⟩ := State.ackExpert_keeps (s := s.bump key 1) hnone src area
  refine ⟨fun k hk => ?_, fun p hp => ?_⟩
  · rw [State.cntGet, hcnt]
    exact countersKept_bump s key 1 k hk
  · cases p
    case cnt | out | fab => simp at hp
    case plan => exact hplan
    all_goals simp [SamePart, t]

theorem State.recvRecord_of_refused {s : State} {data : List Byte} (h : s.accepts (recordBatch data).1 0 (recordBatch data).2 = false)
    (link : Nat) : s.recvRecord link data = s.bump ExpModCnt.epochDiscDisp 1 :=
  if_pos (by rw [Bool.not_eq_true']; exact h)

theorem State.recvAnswer_of_refused {s : State} {data : List Byte} (h : s.accepts (answerBatch data).1 1 (answerBatch data).2 = false)
    (link : Nat) : s.recvAnswer link data = s.bump ExpModCnt.epochDiscAns 1 :=
  if_pos (by rw [Bool.not_eq_true']; exact h)

/-! ## End markers signal (10 R244, R247) -/

/-- `t` is `s` after an end marker that signals counter `id` has been received: the link unit has only its list of messages that wait
changed, and with nothing waiting and nothing held the signal has been applied. -/
def Signals (s t : State) (id : Nat) : Prop :=
  { t.fab with unacked := s.fab.unacked } = s.fab ∧ OnlyChanges [.unit, .plan, .cnt, .out, .fab] s t ∧
    (s.fab.unacked = [] → s.heldWrites = [] → t.plan.ctrs = (s.applySignal id 1 none).plan.ctrs ∧ t.out = s.out ∧ t.fab = s.fab)

/-- A marker's signal; `v` is what the units keep of the marker. -/
theorem State.received_signals (s : State) (v : Units) (port src key len id : Nat) :
    Signals s (({ s with unit := v } : State).received
      { port := port, src := src, key := key, len := len, sigId := id, sigInc := 1, tell := false }) id := by
  refine ⟨State.fab_received { s with unit := v } _, ?_, fun hnone hheld => ?_⟩
  · exact (onlyChanges_unit s v).trans (State.received_onlyChanges { s with unit := v } _) (by simp) (by simp)
  · rw [State.received_of_none (s := { s with unit := v }) hnone, State.ackHeld_of_none (s := { s with unit := v }) hheld,
      if_neg (by decide), State.ackMsg]
    dsimp only
    rw [if_neg (by decide), State.ctrs_applySignal, State.ctrs_applySignal]
    refine ⟨rfl, ?_, ?_⟩ <;> simp

/-- What is kept of a dispatch end marker: that it has come, and its counts. -/
theorem State.markers_keepMarker (s : State) {m : EndMarker} (hlen : m.counts.length ≤ 32) :
    Tab.get 0 (s.keepMarker m).unit.markers (markerKey m.router m.epoch m.src 32) = 1 ∧
      ∀ sl, sl < 32 → Tab.get 0 (s.keepMarker m).unit.markers (markerKey m.router m.epoch m.src sl) = m.counts.getD sl 0 := by
  have hfit : fit 0 32 m.counts = m.counts ++ List.replicate (32 - m.counts.length) 0 := by
    rw [fit, List.take_of_length_le hlen]
  have hcells (sl : Nat) (hsl : sl < 33) : Tab.get 0 (s.keepMarker m).unit.markers (markerKey m.router m.epoch m.src sl) =
      (fit 0 32 m.counts ++ [1]).getD sl 0 := by
    have hkey : markerKey m.router m.epoch m.src sl = markerKey m.router m.epoch m.src 0 + sl := by
      rw [markerKey, markerKey, Nat.add_zero]
    rw [State.keepMarker, Tab.get_put, hkey, if_pos (by simp; omega), Nat.add_sub_cancel_left]
  refine ⟨?_, fun sl hsl => ?_⟩
  · rw [hcells 32 (by decide), List.getD_append_right _ _ _ _ (by simp), length_fit]
    rfl
  · rw [hcells sl (by omega), List.getD_append _ _ _ _ (by simpa using hsl), hfit]
    by_cases hin : sl < m.counts.length
    · rw [List.getD_append _ _ _ _ hin]
    · rw [List.getD_append_right _ _ _ _ (by omega), List.getD_eq_default _ _ (by omega : m.counts.length ≤ sl)]
      simp

/-! ## The messages -/

section Messages

variable {s : State} (hloaded : s.plan.loaded = true)
include hloaded

/-- DISPATCH_RECORD_RX (10 R243, R250). -/
theorem dispatchRecordRx_receives {m : ExpertMsg} (hok : wellFormed (.dispatchRecordRx m) = true) :
    ∃ t, exec (.dispatchRecordRx m) s = .next t ∧
      (∀ p, s.fab.redirect = some p → Passes s t p 1 m.src m.data) ∧
      (s.fab.redirect = none → Acked s t m.src ∧ (s.accepts (recordBatch m.data).1 0 (recordBatch m.data).2 = false →
        t.cntGet ExpModCnt.epochDiscDisp = min (s.cntGet ExpModCnt.epochDiscDisp + 1) 0xFFFFFFFF ∧
          (s.fab.unacked = [] → CountersKept [ExpModCnt.epochDiscDisp] s t ∧ OnlyChanges [.cnt, .out, .fab] s t))) := by
  change ∃ t, execDispatchRecordRx m s = .next t ∧ _
  rw [execDispatchRecordRx, checked, if_pos hok]
  dsimp only
  rw [hloaded, if_neg (by decide)]
  cases hred : s.fab.redirect with
  | some p => exact ⟨_, rfl, fun q hq => Option.some.inj hq ▸ s.passExpert_passes p 1 m.src m.data, fun hq => (nomatch hq)⟩
  | none =>
    refine ⟨_, rfl, fun q hq => (nomatch hq), fun _ => ⟨State.ackExpert_acked (by simp) (by simp) (by simp) (by simp) _ _, fun hshut => ?_⟩⟩
    rw [State.recvRecord_of_refused hshut]
    exact s.ackExpert_refused 0 rfl m.src _

/-- ANSWER_RX (10 R247, R250). -/
theorem answerRx_receives {m : ExpertMsg} (hok : wellFormed (.answerRx m) = true) :
    ∃ t, exec (.answerRx m) s = .next t ∧
      (∀ p, s.fab.redirect = some p → Passes s t p 2 m.src m.data) ∧
      (s.fab.redirect = none → Acked s t m.src ∧ (s.accepts (answerBatch m.data).1 1 (answerBatch m.data).2 = false →
        t.cntGet ExpModCnt.epochDiscAns = min (s.cntGet ExpModCnt.epochDiscAns + 1) 0xFFFFFFFF ∧
          (s.fab.unacked = [] → CountersKept [ExpModCnt.epochDiscAns] s t ∧ OnlyChanges [.cnt, .out, .fab] s t))) := by
  change ∃ t, execAnswerRx m s = .next t ∧ _
  rw [execAnswerRx, checked, if_pos hok]
  dsimp only
  rw [hloaded, if_neg (by decide)]
  cases hred : s.fab.redirect with
  | some p => exact ⟨_, rfl, fun q hq => Option.some.inj hq ▸ s.passExpert_passes p 2 m.src m.data, fun hq => (nomatch hq)⟩
  | none =>
    refine ⟨_, rfl, fun q hq => (nomatch hq), fun _ => ⟨State.ackExpert_acked (by simp) (by simp) (by simp) (by simp) _ _, fun hshut => ?_⟩⟩
    rw [State.recvAnswer_of_refused hshut]
    exact s.ackExpert_refused 1 rfl m.src _

/-- DISPATCH_END_MARKER_RX (10 R244, R250). -/
theorem dispatchEndMarkerRx_receives {e : EndMarker} (hok : e.ok = true) : ∃ t, exec (.dispatchEndMarkerRx e) s = .next t ∧
      (∀ p, s.fab.redirect = some p → Passes s t p 1 (s.memberAddr e.router e.src) (EndMarker.bytes e)) ∧
      (s.fab.redirect = none → s.accepts e.router 0 e.epoch = false → t = s) ∧
      (s.fab.redirect = none → s.accepts e.router 0 e.epoch = true → Signals s t (s.expBase + 2 * e.router) ∧
        Tab.get 0 t.unit.markers (markerKey e.router e.epoch e.src 32) = 1 ∧
        (∀ sl, sl < 32 → Tab.get 0 t.unit.markers (markerKey e.router e.epoch e.src sl) = e.counts.getD sl 0)) := by
  have hwf : wellFormed (.dispatchEndMarkerRx e) = true := hok
  have hlen : e.counts.length ≤ 32 := by
    simp only [EndMarker.ok, Bool.and_eq_true, decide_eq_true_eq] at hok
    obtain ⟨⟨-, hlen⟩, -⟩ := hok
    exact hlen
  change ∃ t, execDispatchEndMarkerRx e s = .next t ∧ _
  rw [execDispatchEndMarkerRx, checked, if_pos hwf]
  dsimp only
  rw [hloaded, if_neg (by decide)]
  cases hred : s.fab.redirect with
  | some p => exact ⟨_, rfl, fun q hq => Option.some.inj hq ▸ s.passExpert_passes p 1 _ _, fun hq => (nomatch hq), fun hq => (nomatch hq)⟩
  | none =>
    refine ⟨_, rfl, fun q hq => (nomatch hq), fun _ hshut => State.recvMarker_of_refused hshut _, fun _ hopen => ?_⟩
    rw [State.recvMarker_of_accepts hopen]
    refine ⟨s.received_signals (s.keepMarker e).unit _ _ _ _ _, ?_⟩
    simp only [State.received_frame]
    exact s.markers_keepMarker hlen

/-- ANSWER_END_MARKER_RX (10 R247, R250). -/
theorem answerEndMarkerRx_receives {e : EndMarker} (hok : e.ok = true) : ∃ t, exec (.answerEndMarkerRx e) s = .next t ∧
      (∀ p, s.fab.redirect = some p → Passes s t p 2 (s.memberAddr e.router e.src) (EndMarker.bytes e)) ∧
      (s.fab.redirect = none → s.accepts e.router 1 e.epoch = false → t = s) ∧
      (s.fab.redirect = none → s.accepts e.router 1 e.epoch = true → Signals s t (s.expBase + 2 * e.router + 1) ∧ t.unit = s.unit) := by
  have hwf : wellFormed (.answerEndMarkerRx e) = true := hok
  change ∃ t, execAnswerEndMarkerRx e s = .next t ∧ _
  rw [execAnswerEndMarkerRx, checked, if_pos hwf]
  dsimp only
  rw [hloaded, if_neg (by decide)]
  cases hred : s.fab.redirect with
  | some p => exact ⟨_, rfl, fun q hq => Option.some.inj hq ▸ s.passExpert_passes p 2 _ _, fun hq => (nomatch hq), fun hq => (nomatch hq)⟩
  | none =>
    refine ⟨_, rfl, fun q hq => (nomatch hq), fun _ hshut => if_neg (by rw [hshut]; decide), fun _ hopen => ⟨?_, by simp⟩⟩
    rw [State.recvAnswerMarker, if_pos hopen]
    exact s.received_signals s.unit _ _ _ _ _

end Messages

/-- Settles O39: a command by the state in which it takes its place, a gate by the LOW that closing leaves, a message by its one
acknowledgement, signal or passage. -/
theorem expertCommandsRun : Obligations.ExpertCommandsRun := by
  unfold Obligations.ExpertCommandsRun
  refine ⟨fun h d s f => ⟨route_runs, fun hr hf => dispatch_runs hf hr, fun hr hf => sort_runs hf hr, fun hr hf => ret_runs hf hr,
    fun hr hf => combine_runs hf hr, fun hr => ?_, fun hr hf => gateGrad_runs hf hr⟩, fun m e s hloaded =>
    ⟨dispatchRecordRx_receives hloaded, answerRx_receives hloaded, dispatchEndMarkerRx_receives hloaded,
      answerEndMarkerRx_receives hloaded⟩⟩
  obtain ⟨t, hexec, ⟨hstarts, hgates⟩, honly⟩ := epochClose_runs hr
  obtain ⟨hopen, hshut⟩ := gate_closes hgates (bits_lt d 144 16)
  exact ⟨t, hexec, hstarts, hopen, hshut, honly⟩

end Sys2Proof.Machine
end

section
/-! PROOFS. Residency changes (10 R255 to R258): how the lead's map reaches the group, how a map is adopted, and how the pager's move
ends. -/

namespace Sys2Proof.Machine

/-! ## Faults -/

theorem State.raiseCause_raises (s : State) (cause detail : Nat) :
    (s.raiseCause cause detail).flt.pendingEntry = true ∧ (s.flt.cause = 0 → (s.raiseCause cause detail).flt.cause = cause) := by
  unfold State.raiseCause
  dsimp only
  simp only [State.log_frame]
  refine ⟨trivial, fun h => ?_⟩
  rw [if_pos h]

theorem State.raiseCause_onlyChanges (s : State) (cause detail : Nat) :
    OnlyChanges [.flt, .cnt, .trust] s (s.raiseCause cause detail) := by
  intro p hp
  cases p
  case flt | cnt | trust => simp at hp
  all_goals simp [SamePart]

theorem State.eccUe_onlyChanges (s : State) (line : Nat) (flag : Bool) :
    OnlyChanges [.pte, .cnt, .trust, .plan] s (s.eccUe line flag) := by
  intro p hp
  cases p
  case pte | cnt | trust | plan => simp at hp
  all_goals simp [SamePart]

/-- The page of an uncorrectable line is poisoned (13 R318). -/
theorem State.poison_eccUe (s : State) (line : Nat) (flag : Bool) : ((s.eccUe line flag).pteOf (pageOf (64 * line))).poison = true := by
  have hpte : (s.eccUe line flag).pte = (s.setPte (pageOf (64 * line))
      { s.pteOf (pageOf (64 * line)) with poison := true }).pte := by
    unfold State.eccUe
    dsimp only
    split <;> simp [State.setPte, State.setHealth, State.pteOf]
  rw [State.pteOf, hpte]
  exact congrArg Pte.poison (Tab.get_set_self _ _ _ _)

/-! ## Messages leave -/

/-- `t` is `s` after events and messages have left: the outbox has grown, links have taken flits, and the expert counters are as they
were. -/
structure Sent (s t : State) : Prop where
  out : s.out <+: t.out
  fab : { t.fab with ports := s.fab.ports } = s.fab
  only : OnlyChanges [.fab, .out, .cnt] s t
  view : t.expView = s.expView

theorem Sent.refl (s : State) : Sent s s := ⟨List.prefix_rfl, rfl, .refl _ s, rfl⟩

theorem Sent.trans {s t r : State} (h : Sent s t) (h' : Sent t r) : Sent s r :=
  ⟨h.out.trans h'.out, by rw [← h.fab, ← h'.fab], h.only.trans h'.only (by simp) (by simp), h'.view.trans h.view⟩

theorem State.emit_sent (s : State) (e : OutEvent) : Sent s (s.emit e) := by
  refine ⟨⟨[e], rfl⟩, rfl, fun p hp => ?_, rfl⟩
  cases p
  case out => simp at hp
  all_goals rfl

theorem State.sendMsg_sent (s : State) (p cls : Nat) (m : LinkMsg) : Sent s (s.sendMsg p cls m) :=
  ⟨s.out_prefix_sendMsg p cls m, (s.sendMsg_portsOnly p cls m).1, s.sendMsg_onlyChanges p cls m, s.expView_sendMsg p cls m⟩

theorem State.sendPager_sent (s : State) (dst addr : Nat) (data : List Byte) : Sent s (s.sendPager dst addr data) := by
  unfold State.sendPager
  split
  · exact s.sendMsg_sent _ _ _
  · exact .refl s

/-- A pager's message leaves by the first hop of its route. -/
theorem State.sendPager_links {s : State} {dst : Nat} {h : Hop} (hh : s.hopHere s.fabricAddr dst = some h) (addr : Nat)
    (data : List Byte) : ∃ m, OutEvent.link h.port m ∈ (s.sendPager dst addr data).out ∧ m.lane = 6 ∧ m.kind = 8 ∧ m.dst = dst ∧
      m.data = data := by
  let m : LinkMsg :=
    { lane := 6, kind := 8, dst := dst, src := s.fabricAddr, sigId := noCtr, sigInc := 0, addr := addr, num := 0, space := 0,
      data := data }
  have hsend : s.sendPager dst addr data = s.sendMsg h.port h.cls m := by rw [State.sendPager, hh]
  obtain ⟨sent, hout, -⟩ := s.sendMsg_hands h.port h.cls m
  refine ⟨m, ?_, rfl, rfl, rfl, rfl⟩
  rw [hsend, hout]
  exact List.mem_append_right _ List.mem_cons_self

theorem foldl_sent {β : Type} {f : State → β → State} (h : ∀ r a, Sent r (f r a)) (l : List β) (s : State) : Sent s (l.foldl f s) := by
  induction l generalizing s with
  | nil => exact .refl s
  | cons a l ih => exact (h s a).trans (ih (f s a))

/-- Each step of a fold that sends is taken from a state that has only sent. -/
theorem foldl_sent_through {β : Type} {f : State → β → State} (h : ∀ r a, Sent r (f r a)) {l : List β} {a : β} (ha : a ∈ l) (s : State) :
    ∃ r, Sent s r ∧ Sent (f r a) (l.foldl f s) := by
  obtain ⟨before, after, rfl⟩ := List.append_of_mem ha
  refine ⟨before.foldl f s, foldl_sent h before s, ?_⟩
  rw [List.foldl_append, List.foldl_cons]
  exact foldl_sent h after _

theorem State.memberOf_congr {s t : State} (hm : t.mem = s.mem) (hl : t.lineErr = s.lineErr) (hp : t.pte = s.pte)
    (hf : t.freeIdx = s.freeIdx) (hg : t.geo = s.geo) (rt : Router) (g : Nat) : t.memberOf rt g = s.memberOf rt g := by
  have h : t.memberOf rt g = State.memberOf
      { s with mem := t.mem, lineErr := t.lineErr, pte := t.pte, freeIdx := t.freeIdx, geo := t.geo } rt g := rfl
  rw [h, hm, hl, hp, hf, hg]

theorem Sent.memberOf {s t : State} (h : Sent s t) (rt : Router) (g : Nat) : t.memberOf rt g = s.memberOf rt g :=
  State.memberOf_congr (h.only .mem (by simp)) (h.only .lineErr (by simp)) (h.only .pte (by simp)) (h.only .free (by simp))
    (h.only .geo (by simp)) rt g

/-! ## The lead's map (10 R255) -/

/-- The lead sends the map to member `g` of the group, unless it is itself. -/
def State.sendMap (s : State) (rt : Router) (p : Paging) (g : Nat) : State :=
  if s.memberOf rt g = s.ownId then s
  else (s.emit (.residencyMap (s.memberOf rt g) p.router (mapVersion p.map) p.map)).sendPager (s.memberOf rt g) 0
    (natLe 1 p.router ++ sha384 p.map ++ p.map)

theorem State.leadMap_of_lead {s : State} {p : Paging} (h : s.ownMember (s.router p.router) = some 0) :
    s.leadMap p = ((List.range (s.router p.router).g).foldl (fun r g => r.sendMap (s.router p.router) p g) s).adoptMap p.router :=
  if_pos h

theorem State.leadMap_of_other {s : State} {p : Paging} (h : s.ownMember (s.router p.router) ≠ some 0) : s.leadMap p = s := if_neg h

theorem State.sendMap_sent (s : State) (rt : Router) (p : Paging) (g : Nat) : Sent s (s.sendMap rt p g) := by
  unfold State.sendMap
  split
  · exact .refl s
  · exact (s.emit_sent _).trans (State.sendPager_sent _ _ _ _)

/-- What says that the map of `p` has left for the module `id` by hop `h`. -/
def MapSent (out : List OutEvent) (p : Paging) (id : Nat) (hop : Option Hop) : Prop :=
  OutEvent.residencyMap id p.router (mapVersion p.map) p.map ∈ out ∧
    ∀ h, hop = some h → ∃ m, OutEvent.link h.port m ∈ out ∧ m.lane = 6 ∧ m.kind = 8 ∧ m.dst = id ∧
      m.data = natLe 1 p.router ++ sha384 p.map ++ p.map

theorem MapSent.mono {out out' : List OutEvent} {p : Paging} {id : Nat} {hop : Option Hop} (h : MapSent out p id hop)
    (hout : out <+: out') : MapSent out' p id hop := by
  obtain ⟨hevent, hlink⟩ := h
  refine ⟨hout.subset hevent, fun h hh => ?_⟩
  obtain ⟨m, hm, hfields⟩ := hlink h hh
  exact ⟨m, hout.subset hm, hfields⟩

theorem State.hopHere_emit (s : State) (e : OutEvent) (dst : Nat) :
    (s.emit e).hopHere (s.emit e).fabricAddr dst = s.hopHere s.fabricAddr dst :=
  State.hopHere_congr (s := s) (t := s.emit e) rfl s.fabricAddr dst

theorem State.sendMap_sends {s : State} {rt : Router} {p : Paging} {g : Nat} (h : s.memberOf rt g ≠ s.ownId) :
    MapSent (s.sendMap rt p g).out p (s.memberOf rt g) (s.hopHere s.fabricAddr (s.memberOf rt g)) := by
  rw [State.sendMap, if_neg h]
  refine ⟨(State.sendPager_sent _ _ _ _).out.subset (List.mem_append_right _ (List.mem_singleton.mpr rfl)), fun hop hhop => ?_⟩
  rw [← s.hopHere_emit (.residencyMap (s.memberOf rt g) p.router (mapVersion p.map) p.map)] at hhop
  exact State.sendPager_links hhop _ _

/-! ## A map is adopted (10 R255, R258) -/

/-- The pager's work of router `r` with its map adopted. -/
def Paging.adopt (r : Nat) (q : Paging) : Paging := if q.router = r then { q with adopted := true } else q

@[simp] theorem Paging.router_adopt (r : Nat) (q : Paging) : (q.adopt r).router = q.router := by
  unfold Paging.adopt
  split <;> rfl

@[simp] theorem Paging.started_adopt (r : Nat) (q : Paging) : (q.adopt r).started = q.started := by
  unfold Paging.adopt
  split <;> rfl

theorem Paging.adopted_adopt {r : Nat} {q : Paging} (h : q.router = r) : (q.adopt r).adopted = true := by
  rw [Paging.adopt, if_pos h]

/-- The pager's work of router `r` begun. -/
def Paging.start (r : Nat) (q : Paging) : Paging := if q.router = r then { q with started := true } else q

@[simp] theorem Paging.router_start (r : Nat) (q : Paging) : (q.start r).router = q.router := by
  unfold Paging.start
  split <;> rfl

theorem Paging.started_start {r : Nat} {q : Paging} (h : q.router = r) : (q.start r).started = true := by
  rw [Paging.start, if_pos h]

theorem State.mem_paging_of_prune {s : State} {x : Paging} (h : x ∈ s.prunePaging.unit.paging) : x ∈ s.unit.paging :=
  List.mem_of_mem_filter h

/-- `t` is `s` after router `r`'s new map has been adopted: its work says so, and the adoption is logged and counted. -/
def Adopts (s t : State) (r : Nat) : Prop :=
  (∀ x ∈ t.unit.paging, x.router = r → x.adopted = true) ∧ (∃ d ∈ t.trust.details, d.cls = 0x0042) ∧
    t.cntGet ExpModCnt.mapAdoptions = min (s.cntGet ExpModCnt.mapAdoptions + 1) 0xFFFFFFFF

theorem State.adoptMap_adopts {s : State} {r : Nat} {p : Paging} (hp : p ∈ s.unit.paging) (hr : p.router = r) :
    (s.adoptMap r).unit.paging = s.unit.paging.map (Paging.adopt r) ∧ Adopts s (s.adoptMap r).prunePaging r := by
  obtain ⟨q, hq⟩ : ∃ q, s.unit.paging.find? (fun p => decide (p.router = r)) = some q :=
    Option.isSome_iff_exists.mp (List.find?_isSome.mpr ⟨p, hp, by simpa using hr⟩)
  let s1 := (s.hbmWrite 220 (s.router r).mapAddr q.map).bump ExpModCnt.mapAdoptions 1
  let s2 := s1.logHash (s.dog 2) 0x0042 r (swapBytes (s.readNat (s.router r).versionAddr 4) []) (swapBytes (mapVersion q.map) q.decided)
  have hadopt : s.adoptMap r = { s2 with unit.paging := s2.unit.paging.map (Paging.adopt r) } := by
    rw [State.adoptMap, hq]
    rfl
  have hunit : s2.unit = s.unit := by simp [s2, s1]
  have hpaging : (s.adoptMap r).unit.paging = s.unit.paging.map (Paging.adopt r) := by rw [hadopt, hunit]
  refine ⟨hpaging, fun x hx hxr => ?_, ?_, ?_⟩
  · obtain ⟨y, -, rfl⟩ := List.mem_map.mp (hpaging ▸ State.mem_paging_of_prune hx)
    exact Paging.adopted_adopt (by simpa using hxr)
  · have htrust : (s.adoptMap r).prunePaging.trust = s2.trust := by simp [hadopt]
    rw [htrust]
    exact ⟨_, List.mem_append_right _ (List.mem_singleton.mpr rfl), rfl⟩
  · have hcnt : (s.adoptMap r).prunePaging.cnt = s1.cnt := by simp [hadopt, s2]
    have hold : (s.hbmWrite 220 (s.router r).mapAddr q.map).cntGet ExpModCnt.mapAdoptions = s.cntGet ExpModCnt.mapAdoptions :=
      State.cntGet_of_expView (s.expView_hbmWrite 220 _ _) 3
    rw [State.cntGet, hcnt, ← hold]
    exact State.cntGet_bump_narrow _ (by decide) 1

/-! ## PAGING_START and RESIDENCY_MAP_RX (10 R255, R257) -/

/-- The state with the paging of router `r` begun. -/
def State.startPaging (s : State) (r : Nat) : State := { s with unit.paging := s.unit.paging.map (Paging.start r) }

/-- Paging of router `r` that has begun shows it, whatever of it is adopted or done. -/
theorem State.started_of_prune {s t : State} {r : Nat} (h : t.unit.paging = (s.startPaging r).unit.paging ∨
      t.unit.paging = (s.startPaging r).unit.paging.map (Paging.adopt r)) :
    ∀ x ∈ t.prunePaging.unit.paging, x.router = r → x.started = true := by
  intro x hx hxr
  have hmem := State.mem_paging_of_prune hx
  rcases h with h | h
  · obtain ⟨y, -, rfl⟩ := List.mem_map.mp (h ▸ hmem)
    exact Paging.started_start (by simpa using hxr)
  · obtain ⟨y, hy, rfl⟩ := List.mem_map.mp (h ▸ hmem)
    obtain ⟨z, -, rfl⟩ := List.mem_map.mp hy
    rw [Paging.started_adopt]
    exact Paging.started_start (by simpa using hxr)

/-- The lead sends its map to every other member, and adopts it. -/
theorem State.leadMap_leads {s : State} {p q : Paging} (hq : q ∈ s.unit.paging) (hr : q.router = p.router)
    (hlead : s.ownMember (s.router p.router) = some 0) :
    let t := (s.leadMap p).prunePaging
    s.out <+: t.out ∧ (s.leadMap p).unit.paging = s.unit.paging.map (Paging.adopt p.router) ∧ Adopts s t p.router ∧
      ∀ g, g < (s.router p.router).g → s.memberOf (s.router p.router) g ≠ s.ownId →
        MapSent t.out p (s.memberOf (s.router p.router) g) (s.hopHere s.fabricAddr (s.memberOf (s.router p.router) g)) := by
  let rt := s.router p.router
  let r := (List.range rt.g).foldl (fun r g => r.sendMap rt p g) s
  have hall : Sent s r := foldl_sent (fun r g => r.sendMap_sent rt p g) _ s
  have hunit : r.unit = s.unit := hall.only .unit (by simp)
  obtain ⟨hpaging, hadopted, hlogged, hcounted⟩ := State.adoptMap_adopts (s := r) (hunit ▸ hq) hr
  have hout : (r.adoptMap p.router).prunePaging.out = r.out := by simp
  rw [State.leadMap_of_lead hlead]
  refine ⟨?_, hpaging.trans (by rw [hunit]), ⟨hadopted, hlogged, ?_⟩, fun g hg hother => ?_⟩
  · rw [hout]
    exact hall.out
  · rw [hcounted]
    exact congrArg (fun v => min (v + 1) 0xFFFFFFFF) (State.cntGet_of_expView hall.view 3)
  · obtain ⟨b, hbefore, hafter⟩ := foldl_sent_through (fun r g => State.sendMap_sent r rt p g) (List.mem_range.mpr hg) s
    have hsent := State.sendMap_sends (s := b) (rt := rt) (p := p) (g := g)
      (by rwa [hbefore.memberOf, State.ownId_congr hbefore.fab])
    rw [hbefore.memberOf, State.fabricAddr_congr hbefore.fab, State.hopHere_congr hbefore.fab] at hsent
    rw [hout]
    exact hsent.mono hafter.out

theorem exec_pagingStart {p : Paging} {s : State} (hcollects : s.collects = true)
    (hdue : s.unit.paging.find? (fun x => !x.started && (decide (x.startRep < s.plan.repNow) ||
      (decide (x.startRep = s.plan.repNow) && decide (x.startIdx < s.plan.next)))) = some p) (hclose : s.plan.updateClose = none) :
    exec .pagingStart s = .next ((s.startPaging p.router).leadMap p).prunePaging := by
  change execPagingStart s = _
  simp only [execPagingStart, hdue, hcollects, hclose]
  rfl

/-- PAGING_START (10 R255, R257). -/
theorem pagingStart_begins {p : Paging} {s : State} (hcollects : s.collects = true)
    (hdue : s.unit.paging.find? (fun x => !x.started && (decide (x.startRep < s.plan.repNow) ||
      (decide (x.startRep = s.plan.repNow) && decide (x.startIdx < s.plan.next)))) = some p) (hclose : s.plan.updateClose = none) :
    ∃ t, exec .pagingStart s = .next t ∧ s.out <+: t.out ∧ (∀ x ∈ t.unit.paging, x.router = p.router → x.started = true) ∧
      (s.ownMember (s.router p.router) ≠ some 0 → t.out = s.out ∧ OnlyChanges [.unit] s t) ∧
      (s.ownMember (s.router p.router) = some 0 → (∀ g, g < (s.router p.router).g → s.memberOf (s.router p.router) g ≠ s.ownId →
          MapSent t.out p (s.memberOf (s.router p.router) g) (s.hopHere s.fabricAddr (s.memberOf (s.router p.router) g))) ∧
        Adopts s t p.router) := by
  refine ⟨_, exec_pagingStart hcollects hdue hclose, ?_⟩
  let s1 := s.startPaging p.router
  by_cases hlead : s.ownMember (s.router p.router) = some 0
  · have hp : Paging.start p.router p ∈ s1.unit.paging := List.mem_map_of_mem (List.mem_of_find?_eq_some hdue)
    obtain ⟨hout, hpaging, hadopts, hmaps⟩ := State.leadMap_leads (s := s1) hp (Paging.router_start _ p) hlead
    refine ⟨hout, State.started_of_prune (.inr hpaging), fun h => absurd hlead h, fun _ => ⟨fun g hg hother => ?_, hadopts⟩⟩
    rw [← State.hopHere_congr (s := s) (t := s1) rfl]
    exact hmaps g hg hother
  · have hother : s1.leadMap p = s1 := State.leadMap_of_other (s := s1) hlead
    rw [hother]
    exact ⟨by simp [s1, State.startPaging], State.started_of_prune (.inl rfl), fun _ => ⟨rfl, onlyChanges_unit s _⟩,
      fun h => absurd h hlead⟩

/-- RESIDENCY_MAP_RX (10 R255, R258). -/
theorem residencyMapRx_adopts {router : Fin 256} {version : Nat} {digest mapBytes : List Byte} {p : Paging} {s : State}
    (hcollects : s.collects = true) (hok : wellFormed (.residencyMapRx router version digest mapBytes) = true)
    (hfind : s.unit.paging.find? (fun x => decide (x.router = router.val) && !x.adopted) = some p) :
    ∃ t, exec (.residencyMapRx router version digest mapBytes) s = .next t ∧
      (sha384 p.map = digest → Adopts s t router.val) ∧
      (sha384 p.map ≠ digest → t.unit = s.unit ∧ t.flt.pendingEntry = true ∧ (s.flt.cause = 0 → t.flt.cause = 7) ∧
        t.cntGet ExpModCnt.mapMismatch = min (s.cntGet ExpModCnt.mapMismatch + 1) 0xFFFFFFFF ∧ OnlyChanges [.cnt, .flt, .trust] s t) := by
  change ∃ t, execResidencyMapRx router version digest mapBytes s = .next t ∧ _
  rw [execResidencyMapRx, checked, if_pos hok]
  dsimp only
  rw [hfind]
  dsimp only
  rw [if_pos hcollects]
  by_cases hdigest : sha384 p.map = digest
  · rw [if_pos hdigest]
    have hrouter : p.router = router.val := by
      have hhere := List.find?_some hfind
      simp only [Bool.and_eq_true, decide_eq_true_eq] at hhere
      obtain ⟨hrouter, -⟩ := hhere
      exact hrouter
    obtain ⟨-, hadopts⟩ := State.adoptMap_adopts (List.mem_of_find?_eq_some hfind) hrouter
    exact ⟨_, rfl, fun _ => hadopts, fun h => absurd hdigest h⟩
  · rw [if_neg hdigest]
    obtain ⟨hpending, hcause⟩ := (s.bump ExpModCnt.mapMismatch 1).raiseCause_raises 0x07 router.val
    have hcount := s.cntGet_bump_narrow (key := ExpModCnt.mapMismatch) (by decide) 1
    exact ⟨_, rfl, fun h => absurd h hdigest, fun _ => ⟨by simp, hpending, hcause,
      (State.cntGet_of_expView (State.expView_raiseCause _ _ _) 5).trans hcount,
      (onlyChanges_bump s _ _).trans (State.raiseCause_onlyChanges _ _ _) (by simp) (by simp)⟩⟩

/-! ## The pager's move (10 R256, R258) -/

@[simp] theorem State.expView_sendPager (s : State) (dst addr : Nat) (data : List Byte) :
    (s.sendPager dst addr data).expView = s.expView := (s.sendPager_sent dst addr data).view

@[simp] theorem State.expView_coldWrite (s : State) (place : ColdPlace) (data : List Byte) :
    (s.coldWrite place data).expView = s.expView := by
  cases place with
  | ring id page => simp [State.coldWrite]
  | host a => rfl

@[simp] theorem State.expView_coldRead (s : State) (place : ColdPlace) : (s.coldRead place).2.expView = s.expView := by
  cases place with
  | ring id page =>
    rw [State.coldRead]
    split
    · exact s.expView_hbmNoteRead _ _ _
    · exact State.expView_sendPager (s.drawBytes (2 ^ 21)).2 _ _ _
  | host a => rfl

/-- The state once a swap's outgoing image has been written back and counted. -/
def State.swapOut (s : State) (rt : Router) (x : Swap) : State :=
  if x.out < rt.e then
    ((List.range rt.imgPages).foldl (fun s j =>
      (s.coldWrite (s.coldPlace rt x.out j) (s.hbmBytes (rt.slotPage x j) (2 ^ 21))).hbmNoteRead 220 (rt.slotPage x j) (2 ^ 21))
      s).bump ExpModCnt.pageBytesOut (rt.imgPages * 2 ^ 21)
  else s

/-- The state once a swap's incoming image has been read into its slot. -/
def State.swapIn (s : State) (rt : Router) (x : Swap) : State :=
  (List.range rt.imgPages).foldl (fun s j =>
    (s.coldRead (s.coldPlace rt x.inn j)).2.hbmWrite 220 (rt.slotPage x j) (s.coldRead (s.coldPlace rt x.inn j)).1) s

theorem State.moveSwap_eq (s : State) (rt : Router) (x : Swap) : s.moveSwap rt x =
    (((s.swapOut rt x).swapIn rt x).bump ExpModCnt.pageBytesIn (rt.imgPages * 2 ^ 21)).bump ExpModCnt.swaps 1 := rfl

theorem State.expView_swapIn (s : State) (rt : Router) (x : Swap) : (s.swapIn rt x).expView = s.expView :=
  foldl_keeps State.expView _ (fun r j => by simp) _ _

/-- Writing an image back counts its bytes and nothing else of the expert counters. -/
theorem State.swapOut_keeps (s : State) (rt : Router) (x : Swap) :
    (s.swapOut rt x).plan.loaded = s.plan.loaded ∧
      ∀ i : Fin 256, i ≠ 6 → (s.swapOut rt x).cntGet (cntKey 0x0A0A 0 i.val) = s.cntGet (cntKey 0x0A0A 0 i.val) := by
  unfold State.swapOut
  split
  · let r := (List.range rt.imgPages).foldl (fun s j =>
      (s.coldWrite (s.coldPlace rt x.out j) (s.hbmBytes (rt.slotPage x j) (2 ^ 21))).hbmNoteRead 220 (rt.slotPage x j) (2 ^ 21)) s
    have hview : r.expView = s.expView := foldl_keeps State.expView _ (fun r j => by simp) _ _
    refine ⟨State.loaded_of_expView (t := r) hview, fun i hi => ?_⟩
    rw [State.cntGet_bump_ne, State.cntGet_of_expView hview]
    rw [ExpModCnt.pageBytesOut, cntKey, cntKey]
    omega
  · exact ⟨rfl, fun _ _ => rfl⟩

/-- A swap moved is counted with the bytes that it has read in. -/
theorem State.moveSwap_counts (s : State) (rt : Router) (x : Swap) :
    (s.moveSwap rt x).cntGet ExpModCnt.swaps = min (s.cntGet ExpModCnt.swaps + 1) 0xFFFFFFFF ∧
      (s.moveSwap rt x).cntGet ExpModCnt.pageBytesIn =
        min (s.cntGet ExpModCnt.pageBytesIn + rt.imgPages * 2 ^ 21) 0xFFFFFFFFFFFFFFFF ∧
      (s.moveSwap rt x).plan.loaded = s.plan.loaded := by
  obtain ⟨hloaded, hkept⟩ := s.swapOut_keeps rt x
  have hview := (s.swapOut rt x).expView_swapIn rt x
  have hswaps : ((s.swapOut rt x).swapIn rt x).cntGet ExpModCnt.swaps = s.cntGet ExpModCnt.swaps :=
    (State.cntGet_of_expView hview 4).trans (hkept 4 (by decide))
  have hbytes : ((s.swapOut rt x).swapIn rt x).cntGet ExpModCnt.pageBytesIn = s.cntGet ExpModCnt.pageBytesIn :=
    (State.cntGet_of_expView hview 7).trans (hkept 7 (by decide))
  rw [State.moveSwap_eq]
  refine ⟨?_, ?_, (State.loaded_of_expView hview).trans hloaded⟩
  · rw [State.cntGet_bump_narrow _ (by decide), State.cntGet_bump_ne _ (by decide), hswaps]
  · rw [State.cntGet_bump_ne _ (by decide), State.cntGet_bump_wide _ (by decide), hbytes]

/-- The pager's work `p` is left with the swaps `rest` once one of its moves has ended; `ecc` is what was found on the way. -/
def State.swapDone (s : State) (ecc : EccOutcome) (p : Paging) (rest : List Swap) : State :=
  let s1 : State := { s with unit.paging := s.unit.paging.map (fun q => if q = p then { q with swaps := rest } else q) }
  if ecc = .corrected then s1.prunePaging.bump MemCnt.eccCe 1 else s1.prunePaging

/-- What the end of a move that met neither an uncorrectable error nor a fenced peer leaves. -/
def State.swapTried (s : State) (ecc : EccOutcome) (p : Paging) (x : Swap) (rest : List Swap) : State :=
  if (s.tryMove p.router x).flt.pendingEntry then s.tryMove p.router x else (s.tryMove p.router x).swapDone ecc p rest

/-- PAGER_MOVE_DONE by what it met. -/
theorem exec_pagerMoveDone {p : Paging} {x : Swap} {rest : List Swap} {s : State} (hcollects : s.collects = true)
    (hfind : s.unit.paging.find? (fun p => p.started && !p.swaps.isEmpty) = some p) (hswaps : p.swaps = x :: rest) (ecc : EccOutcome)
    (fencedPeer : Bool) : exec (.pagerMoveDone { ecc := ecc, fencedPeer := fencedPeer }) s = .next
      (if fencedPeer then s.raiseCause 0x06 p.router
      else if ecc = .uncorrectable then
        (s.eccUe ((pageOf (s.router p.router).slotBase + (s.router p.router).imgPages * x.slot) * 2 ^ 15) true).raiseCause 0x05
          (pageOf (s.router p.router).slotBase + (s.router p.router).imgPages * x.slot)
      else s.swapTried ecc p x rest) := by
  change execPagerMoveDone _ s = _
  rw [execPagerMoveDone, hfind]
  dsimp only
  rw [hswaps]
  dsimp only
  rw [if_pos hcollects]
  cases fencedPeer with
  | true => rfl
  | false =>
    unfold State.swapTried
    generalize s.tryMove p.router x = r
    cases ecc with
    | uncorrectable => rfl
    | clean => cases r.flt.pendingEntry <;> rfl
    | corrected => cases r.flt.pendingEntry <;> rfl

theorem State.tryMove_of_ue {s : State} {router : Nat} {x : Swap} (h : (s.swapReads (s.router router) x).any s.pageUe = true) :
    ∃ a, s.tryMove router x = (s.hbmNoteRead 220 a (2 ^ 21)).raiseCause 0x05 (pageOf a) := by
  obtain ⟨a, ha, hue⟩ := List.any_eq_true.mp h
  obtain ⟨b, hb⟩ := Option.isSome_iff_exists.mp (List.find?_isSome.mpr ⟨a, ha, hue⟩)
  refine ⟨b, ?_⟩
  unfold State.tryMove
  simp only [hb]

theorem State.tryMove_of_clean {s : State} {router : Nat} {x : Swap} (h : (s.swapReads (s.router router) x).any s.pageUe = false) :
    s.tryMove router x = if (s.swapPlaces (s.router router) x).any s.cutOff then s.raiseCause 0x06 router
      else s.moveSwap (s.router router) x := by
  have hnone : (s.swapReads (s.router router) x).find? s.pageUe = none := List.find?_eq_none.mpr (by simpa using h)
  unfold State.tryMove
  simp only [hnone]

theorem State.swapTried_of_fault {s : State} {p : Paging} {x : Swap} (h : (s.tryMove p.router x).flt.pendingEntry = true)
    (ecc : EccOutcome) (rest : List Swap) : s.swapTried ecc p x rest = s.tryMove p.router x := if_pos h

/-- A swap done leaves the list of its work, and of the state only that and the ECC count change. -/
theorem State.swapDone_keeps (s : State) (ecc : EccOutcome) (p : Paging) (rest : List Swap) :
    (s.swapDone ecc p rest).unit.paging =
        (s.unit.paging.map (fun q => if q = p then { q with swaps := rest } else q)).filter (fun q => !(q.adopted && q.swaps.isEmpty)) ∧
      (s.swapDone ecc p rest).expView = s.expView ∧ (s.swapDone ecc p rest).dev = s.dev ∧ (s.swapDone ecc p rest).time = s.time := by
  unfold State.swapDone
  dsimp only
  split
  · exact ⟨rfl, State.expView_bump _ (by decide) 1, rfl, rfl⟩
  · exact ⟨rfl, rfl, rfl, rfl⟩

/-- `t` is `s` after the pager's move has faulted the module with cause `cause`: the swap is still to do. -/
def MoveFaults (s t : State) (cause : Nat) : Prop :=
  t.unit = s.unit ∧ t.mem = s.mem ∧ t.flt.pendingEntry = true ∧ (s.flt.cause = 0 → t.flt.cause = cause) ∧
    OnlyChanges [.flt, .pte, .cnt, .trust, .plan, .lineErr] s t

theorem State.raiseCause_moveFaults {s r : State} (hr : OnlyChanges [.pte, .cnt, .trust, .plan] s r) (cause detail : Nat) :
    MoveFaults s (r.raiseCause cause detail) cause := by
  obtain ⟨hpending, hcause⟩ := r.raiseCause_raises cause detail
  have hflt : r.flt = s.flt := hr .flt (by simp)
  have hunit : r.unit = s.unit := hr .unit (by simp)
  have hmem : r.mem = s.mem := hr .mem (by simp)
  exact ⟨by simpa using hunit, by simpa using hmem, hpending, hflt ▸ hcause,
    hr.trans (State.raiseCause_onlyChanges _ _ _) (by simp) (by simp)⟩

theorem State.swapTried_of_ue {s : State} {p : Paging} {x : Swap} (h : (s.swapReads (s.router p.router) x).any s.pageUe = true)
    (ecc : EccOutcome) (rest : List Swap) : let t := s.swapTried ecc p x rest
    t.unit = s.unit ∧ t.mem = s.mem ∧ t.flt.pendingEntry = true := by
  obtain ⟨a, hmove⟩ := State.tryMove_of_ue h
  obtain ⟨hpending, -⟩ := (s.hbmNoteRead 220 a (2 ^ 21)).raiseCause_raises 0x05 (pageOf a)
  rw [← hmove] at hpending
  intro t
  have ht : t = (s.hbmNoteRead 220 a (2 ^ 21)).raiseCause 0x05 (pageOf a) := (State.swapTried_of_fault hpending ecc rest).trans hmove
  exact ⟨by simp [ht], by simp [ht], by rw [ht, ← hmove]; exact hpending⟩

section Reads

variable {s : State} {p : Paging} {x : Swap} (hue : (s.swapReads (s.router p.router) x).any s.pageUe = false)
include hue

theorem State.swapTried_of_cut (hcut : (s.swapPlaces (s.router p.router) x).any s.cutOff = true) (ecc : EccOutcome) (rest : List Swap) :
    MoveFaults s (s.swapTried ecc p x rest) 6 := by
  have hmove : s.tryMove p.router x = s.raiseCause 0x06 p.router := (State.tryMove_of_clean hue).trans (if_pos hcut)
  have hfaults := State.raiseCause_moveFaults (OnlyChanges.refl _ s) 0x06 p.router
  obtain ⟨-, -, hpending, -⟩ := id hfaults
  rw [State.swapTried_of_fault (hmove ▸ hpending), hmove]
  exact hfaults

/-- A swap that can be moved is moved, counted, and leaves its list unless a write has faulted the module. -/
theorem State.swapTried_of_clear (hcut : (s.swapPlaces (s.router p.router) x).any s.cutOff = false) (ecc : EccOutcome)
    (rest : List Swap) : let t := s.swapTried ecc p x rest
    (t.flt.pendingEntry = false → t.unit.paging =
        (s.unit.paging.map (fun q => if q = p then { q with swaps := rest } else q)).filter (fun q => !(q.adopted && q.swaps.isEmpty))) ∧
      t.cntGet ExpModCnt.swaps = min (s.cntGet ExpModCnt.swaps + 1) 0xFFFFFFFF ∧
      t.cntGet ExpModCnt.pageBytesIn =
        min (s.cntGet ExpModCnt.pageBytesIn + (s.router p.router).imgPages * 2 ^ 21) 0xFFFFFFFFFFFFFFFF ∧
      t.plan.loaded = s.plan.loaded ∧ t.dev = s.dev ∧ t.time = s.time := by
  let r := s.moveSwap (s.router p.router) x
  have hmove : s.tryMove p.router x = r := (State.tryMove_of_clean hue).trans (if_neg (by rw [hcut]; decide))
  obtain ⟨hswaps, hbytes, hloaded⟩ := s.moveSwap_counts (s.router p.router) x
  obtain ⟨hpaging, hview, hdev, htime⟩ := r.swapDone_keeps ecc p rest
  have hunit : r.unit = s.unit := by simp [r]
  have hrdev : r.dev = s.dev := by simp [r]
  have hrtime : r.time = s.time := by simp [r]
  cases hpending : r.flt.pendingEntry with
  | true =>
    rw [State.swapTried_of_fault (hmove ▸ hpending), hmove]
    exact ⟨fun h => absurd (hpending.symm.trans h) (by decide), hswaps, hbytes, hloaded, hrdev, hrtime⟩
  | false =>
    have hdone : s.swapTried ecc p x rest = r.swapDone ecc p rest := by
      rw [State.swapTried, hmove, hpending]
      rfl
    rw [hdone]
    exact ⟨fun _ => hunit ▸ hpaging, (State.cntGet_of_expView hview 4).trans hswaps, (State.cntGet_of_expView hview 7).trans hbytes,
      (State.loaded_of_expView hview).trans hloaded, hdev.trans hrdev, htime.trans hrtime⟩

end Reads

/-- PAGER_MOVE_DONE (10 R256, R258, 13 R318). -/
theorem pagerMoveDone_ends {p : Paging} {x : Swap} {rest : List Swap} {s : State} (hcollects : s.collects = true)
    (hfind : s.unit.paging.find? (fun p => p.started && !p.swaps.isEmpty) = some p) (hswaps : p.swaps = x :: rest) (ecc : EccOutcome)
    (fencedPeer : Bool) :
    let rt := s.router p.router
    let ue := (s.swapReads rt x).any s.pageUe
    let cut := (s.swapPlaces rt x).any s.cutOff
    ∃ t, exec (.pagerMoveDone { ecc := ecc, fencedPeer := fencedPeer }) s = .next t ∧
      (fencedPeer = true → MoveFaults s t 6) ∧
      (fencedPeer = false → ecc = .uncorrectable → MoveFaults s t 5 ∧
        (t.pteOf (pageOf rt.slotBase + rt.imgPages * x.slot)).poison = true) ∧
      (fencedPeer = false → ecc ≠ .uncorrectable → ue = true → t.unit = s.unit ∧ t.mem = s.mem ∧ t.flt.pendingEntry = true) ∧
      (fencedPeer = false → ecc ≠ .uncorrectable → ue = false → cut = true → MoveFaults s t 6) ∧
      (fencedPeer = false → ecc ≠ .uncorrectable → ue = false → cut = false →
        (t.flt.pendingEntry = false → t.unit.paging = (s.unit.paging.map (fun q => if q = p then { q with swaps := rest } else q)).filter
          (fun q => !(q.adopted && q.swaps.isEmpty))) ∧
        t.cntGet ExpModCnt.swaps = min (s.cntGet ExpModCnt.swaps + 1) 0xFFFFFFFF ∧
        t.cntGet ExpModCnt.pageBytesIn = min (s.cntGet ExpModCnt.pageBytesIn + rt.imgPages * 2 ^ 21) 0xFFFFFFFFFFFFFFFF ∧
        t.plan.loaded = s.plan.loaded ∧ t.dev = s.dev ∧ t.time = s.time) := by
  intro rt ue cut
  refine ⟨_, exec_pagerMoveDone hcollects hfind hswaps ecc fencedPeer, fun hfenced => ?_, fun hopen hecc => ?_, fun hopen hecc hue => ?_,
    fun hopen hecc hue hcut => ?_, fun hopen hecc hue hcut => ?_⟩
  · rw [if_pos hfenced]
    exact State.raiseCause_moveFaults (OnlyChanges.refl _ s) 0x06 p.router
  · let page := pageOf rt.slotBase + rt.imgPages * x.slot
    have hpage : pageOf (64 * (page * 2 ^ 15)) = page := by
      unfold pageOf
      omega
    have hpoison := s.poison_eccUe (page * 2 ^ 15) true
    rw [hpage] at hpoison
    rw [if_neg (by rw [hopen]; decide), if_pos hecc]
    exact ⟨State.raiseCause_moveFaults (s.eccUe_onlyChanges _ true) 0x05 page, by simpa [State.pteOf] using hpoison⟩
  · rw [if_neg (by rw [hopen]; decide), if_neg hecc]
    exact State.swapTried_of_ue hue ecc rest
  · rw [if_neg (by rw [hopen]; decide), if_neg hecc]
    exact State.swapTried_of_cut hue hcut ecc rest
  · rw [if_neg (by rw [hopen]; decide), if_neg hecc]
    exact State.swapTried_of_clear hue hcut ecc rest

/-- Settles O60: the lead's map by the state from which each member is sent it, a map adopted by the one change of the pager's work, and
a move by what it met. -/
theorem residencyChanges : Obligations.ResidencyChanges := by
  unfold Obligations.ResidencyChanges
  exact ⟨fun router version digest mapBytes p s hcollects => ⟨pagingStart_begins hcollects, residencyMapRx_adopts hcollects⟩,
    fun ecc fencedPeer p x rest s hcollects hfind hswaps => pagerMoveDone_ends hcollects hfind hswaps ecc fencedPeer⟩

end Sys2Proof.Machine
end

section
/-! PROOFS. A beat passes (11 R263, R264): the gears that its boundary makes (20 R488, R489), the lines of HBM and the remap table that
may change with it (13 R318, 16 R410); and what no command touches, the queue of waiting commands. -/

namespace Sys2Proof.Machine

/-! ## A half's power state -/

@[simp] theorem State.half_setHalf_self (s : State) (h : Nat) (p : HalfPower) : (s.setHalf h p).half h = p := by
  unfold State.half State.setHalf
  split <;> rfl

theorem State.half_setHalf_other (s : State) {h j : Nat} (hh : h < 2) (hj : j < 2) (hne : j ≠ h) (p : HalfPower) :
    (s.setHalf h p).half j = s.half j := by
  obtain ⟨rfl, rfl⟩ | ⟨rfl, rfl⟩ : h = 0 ∧ j = 1 ∨ h = 1 ∧ j = 0 := by omega
  · rfl
  · rfl

theorem State.setHalf_half (s : State) (h : Nat) : s.setHalf h (s.half h) = s := by
  unfold State.half State.setHalf
  split <;> rfl

theorem State.setHalf_setHalf (s : State) (h : Nat) (p q : HalfPower) : (s.setHalf h p).setHalf h q = s.setHalf h q := by
  unfold State.setHalf
  split <;> rfl

theorem State.setHalf_onlyChanges (s : State) (h : Nat) (p : HalfPower) : OnlyChanges [.pwr] s (s.setHalf h p) := by
  intro q hq
  cases q
  case pwr => simp at hq
  all_goals simp [SamePart]

/-- Of the power state only the halves may differ between `s` and `t`. -/
def HalvesOnly (s t : State) : Prop := { t.pwr with west := s.pwr.west, east := s.pwr.east } = s.pwr

theorem HalvesOnly.refl (s : State) : HalvesOnly s s := rfl

theorem HalvesOnly.trans {s t r : State} (h : HalvesOnly s t) (h' : HalvesOnly t r) : HalvesOnly s r := by
  unfold HalvesOnly at *
  rw [← h, ← h']

theorem State.setHalf_halvesOnly (s : State) (h : Nat) (p : HalfPower) : HalvesOnly s (s.setHalf h p) := by
  unfold HalvesOnly State.setHalf
  split <;> rfl

theorem CountersKept.trans {l : List Nat} {s t r : State} (h : CountersKept l s t) (h' : CountersKept l t r) : CountersKept l s r :=
  fun k hk => (h' k hk).trans (h k hk)

theorem countersKept_of_cnt {s t : State} (h : t.cnt = s.cnt) (l : List Nat) : CountersKept l s t :=
  fun k _ => congrArg (fun c => Tab.get 0 c k) h

/-! ## A gear follows (20 R488, R489) -/

/-- What a beat boundary leaves of a half as it is: all but its gear, its rail and a raise of it. -/
def HalfPower.settings (p : HalfPower) : HalfPower :=
  { p with gear := 0, railGear := 0, raising := false, raiseTo := 0, raiseFrom := 0, deferred := none }

/-- The gear that R488 asks of a half with the settings `p`. -/
def wantedGear (d : DevState) (armed : Bool) (p : HalfPower) : Nat :=
  if d = .booting then 3 else max (max (if armed then p.req else 0) p.ceilNow) (if p.clampNow then 3 else 0)

theorem State.wantGear_eq (s : State) (h : Nat) : s.wantGear h = wantedGear s.dev.state s.plan.loaded (s.half h).settings := rfl

theorem State.wantGear_congr {s t : State} {h : Nat} (hd : t.dev = s.dev) (hp : t.plan.loaded = s.plan.loaded)
    (hs : (t.half h).settings = (s.half h).settings) : t.wantGear h = s.wantGear h := by
  rw [State.wantGear_eq, State.wantGear_eq, hd, hp, hs]

/-- The half `p` has become `q` at a boundary that asks for gear `w`: a lowering acts, a raise acts or is deferred. -/
structure Follows (p q : HalfPower) (w : Nat) : Prop where
  settings : q.settings = p.settings
  lowered : p.gear ≤ w → q.gear = w
  taken : q.gear = w ∨ q.gear = p.gear

theorem Follows.wanted_le {p q : HalfPower} {w : Nat} (h : Follows p q w) : w ≤ q.gear := by
  obtain ⟨-, hlow, htaken⟩ := h
  omega

theorem Follows.of_taken {p q : HalfPower} {w : Nat} (hs : q.settings = p.settings) (hg : q.gear = w) : Follows p q w :=
  ⟨hs, fun _ => hg, .inl hg⟩

theorem Follows.of_deferred {p q : HalfPower} {w : Nat} (hs : q.settings = p.settings) (hg : q.gear = p.gear) (hw : w < p.gear) :
    Follows p q w :=
  ⟨hs, fun hle => absurd hle hw.not_ge, .inr hg⟩

/-- A rail that starts to rise changes nothing else of its half. -/
theorem State.startRaise_eq (s : State) (h g : Nat) : ∃ q, q.settings = (s.half h).settings ∧ q.gear = (s.half h).gear ∧
    s.startRaise h g = s.setHalf h q := by
  unfold State.startRaise
  dsimp only
  split
  · exact ⟨{ s.half h with raising := true, raiseTo := g, raiseFrom := s.time.beat }, rfl, rfl, rfl⟩
  · exact ⟨s.half h, rfl, rfl, (s.setHalf_half h).symm⟩

/-- A boundary changes the half itself, and counts a raise that it defers. -/
theorem State.applyGear_cases (s : State) (h : Nat) : ∃ q, Follows (s.half h) q (s.wantGear h) ∧
    (s.applyGear h = s.setHalf h q ∨ s.applyGear h = (s.setHalf h q).bump PwrCnt.gearDeferred 1) := by
  unfold State.applyGear
  dsimp only
  split
  · refine ⟨_, ?_, .inl rfl⟩
    exact .of_taken rfl rfl
  · split
    next heq =>
      refine ⟨_, ?_, .inl rfl⟩
      exact .of_taken rfl heq.symm
    next hne =>
      have hraise : s.wantGear h < (s.half h).gear := by omega
      split
      · exact ⟨s.half h, .of_deferred rfl rfl hraise, .inl (s.setHalf_half h).symm⟩
      · split
        · refine ⟨_, ?_, .inl rfl⟩
          exact .of_taken rfl rfl
        · obtain ⟨q, hsettings, hgear, hstart⟩ := s.startRaise_eq h (s.wantGear h)
          rw [hstart, State.half_setHalf_self, State.setHalf_setHalf]
          refine ⟨_, ?_, .inr rfl⟩
          exact .of_deferred (hsettings ▸ rfl) hgear hraise

/-- `t` is `s` after the halves in `l` have followed the gears asked of them. -/
structure GearsFollow (l : List Nat) (s t : State) : Prop where
  follows : ∀ h ∈ l, Follows (s.half h) (t.half h) (s.wantGear h)
  kept : ∀ h, h < 2 → h ∉ l → t.half h = s.half h
  halves : HalvesOnly s t
  counters : CountersKept [PwrCnt.gearDeferred] s t
  only : OnlyChanges [.pwr, .cnt] s t

theorem State.applyGear_follows (s : State) {h : Nat} (hh : h < 2) : GearsFollow [h] s (s.applyGear h) := by
  obtain ⟨q, hq, heq⟩ := s.applyGear_cases h
  have hone : GearsFollow [h] s (s.setHalf h q) := by
    refine ⟨fun j hj => ?_, fun j hj hne => s.half_setHalf_other hh hj (by simpa using hne) q, s.setHalf_halvesOnly h q,
      countersKept_of_cnt (by simp) _, (s.setHalf_onlyChanges h q).trans (.refl [] _) (by simp) (by simp)⟩
    obtain rfl := List.mem_singleton.mp hj
    rwa [State.half_setHalf_self]
  rcases heq with heq | heq
  · rwa [heq]
  · rw [heq]
    exact ⟨hone.follows, hone.kept, hone.halves, hone.counters.trans (countersKept_bump _ _ _),
      hone.only.trans (onlyChanges_bump _ _ _) (by simp) (by simp)⟩

theorem State.applyGears_follow (s : State) : GearsFollow [0, 1] s s.applyGears := by
  have hwest := s.applyGear_follows (h := 0) (by decide)
  have heast := (s.applyGear 0).applyGear_follows (h := 1) (by decide)
  have hkept0 : s.applyGears.half 0 = (s.applyGear 0).half 0 := heast.kept 0 (by decide) (by decide)
  have hkept1 : (s.applyGear 0).half 1 = s.half 1 := hwest.kept 1 (by decide) (by decide)
  have hwant1 : (s.applyGear 0).wantGear 1 = s.wantGear 1 :=
    State.wantGear_congr (by simp) (by simp) (by rw [hkept1])
  refine ⟨fun h hh => ?_, fun h hh hne => absurd hh (by simp at hne; omega), hwest.halves.trans heast.halves,
    hwest.counters.trans heast.counters, hwest.only.trans heast.only (by simp) (by simp)⟩
  obtain rfl | rfl : h = 0 ∨ h = 1 := by simpa using hh
  · rw [hkept0]
    exact hwest.follows 0 (by simp)
  · rw [← hkept1, ← hwant1]
    exact heast.follows 1 (by simp)

/-! ## A beat boundary (20 R489, R498) -/

/-- The half `h` once its ceiling and clamp act. -/
def State.noted (s : State) (h : Nat) : HalfPower := { s.half h with ceilNow := s.ceiling h, clampNow := (s.half h).clamp }

theorem State.half_noteCeils (s : State) {h : Nat} (hh : h < 2) : ((s.noteCeil 0).noteCeil 1).half h = s.noted h := by
  obtain rfl | rfl : h = 0 ∨ h = 1 := by omega
  · rfl
  · rfl

/-- A beat boundary makes the gears follow what is asked of the halves as they stand. -/
theorem State.gearBoundary_follows (s : State) {h : Nat} (hh : h < 2) :
    Follows (s.noted h) (s.gearBoundary.half h) (wantedGear s.dev.state s.plan.loaded (s.noted h).settings) := by
  have hfollow := ((s.noteCeil 0).noteCeil 1).applyGears_follow.follows h (by simp; omega)
  rw [State.wantGear_eq, s.half_noteCeils hh] at hfollow
  simpa only [State.gearBoundary, State.noteCeil_frame] using hfollow

theorem State.gearBoundary_keeps (s : State) : HalvesOnly s s.gearBoundary ∧ CountersKept [PwrCnt.gearDeferred] s s.gearBoundary := by
  have hfollow := ((s.noteCeil 0).noteCeil 1).applyGears_follow
  have hnoted : HalvesOnly s ((s.noteCeil 0).noteCeil 1) := (s.setHalf_halvesOnly 0 _).trans (State.setHalf_halvesOnly _ 1 _)
  exact ⟨hnoted.trans hfollow.halves, (countersKept_of_cnt (by simp) _).trans hfollow.counters⟩

/-! ## A tick -/

/-- The state after a tick's beat and its boundary. -/
def State.ticked (s : State) : State :=
  if s.time.counting then ({ s with time.beat := mod64 (s.time.beat + 1) } : State).gearBoundary else s

theorem State.tick_eq (s : State) : s.tick = s.ticked.lineUpset.settleRemap := rfl

theorem State.ticked_of_stopped {s : State} (h : s.time.counting = false) : s.ticked = s := if_neg (by simp [h])

theorem State.ticked_of_counting {s : State} (h : s.time.counting = true) :
    s.ticked = ({ s with time.beat := mod64 (s.time.beat + 1) } : State).gearBoundary := if_pos h

@[simp] theorem State.ticked_keeps (s : State) : s.ticked.fab = s.fab ∧ s.ticked.lineErr = s.lineErr := by
  unfold State.ticked
  split <;> simp

theorem State.time_ticked (s : State) : s.ticked.time =
    { s.time with beat := if s.time.counting then (s.time.beat + 1) % 2 ^ 64 else s.time.beat } := by
  cases h : s.time.counting with
  | false => rw [State.ticked_of_stopped h]; simp
  | true => rw [State.ticked_of_counting h]; simp [mod64]

/-- An error arises in one line of HBM at most. -/
theorem State.lineErr_lineUpset (s : State) : ∃ l, ∀ k, k ≠ l → Tab.get 0 s.lineUpset.lineErr k = Tab.get 0 s.lineErr k := by
  unfold State.lineUpset
  dsimp only
  split
  · refine ⟨s.drawBool.2.drawNat.1 % 2 ^ 33, fun k hk => ?_⟩
    rw [Tab.get_upd, if_neg hk]
    simp
  · exact ⟨0, fun _ _ => by simp⟩

theorem State.fab_settleRemap (s : State) :
    s.settleRemap.fab.ports = s.fab.ports ∧ (s.fab.remapClear = false → s.settleRemap.fab = s.fab) ∧
      (s.fab.remapClear = true → s.lanesEmpty = true → s.settleRemap.fab.remap = [] ∧ s.settleRemap.fab.remapClear = false) := by
  unfold State.settleRemap
  cases hclear : s.fab.remapClear <;> cases hempty : s.lanesEmpty <;> simp [hclear]

theorem State.tick_onlyChanges (s : State) : OnlyChanges [.time, .fab, .pwr, .lineErr, .free, .cnt] s s.tick := by
  intro p hp
  cases p
  case time | fab | pwr | lineErr | free | cnt => simp at hp
  all_goals simp [SamePart]

theorem State.tick_gears {s : State} (hcount : s.time.counting = true) {h : Nat} (hh : h < 2) :
    Follows (s.noted h) (s.tick.half h) (wantedGear s.dev.state s.plan.loaded (s.noted h).settings) := by
  have hhalf : s.tick.half h = s.ticked.half h := by simp [State.tick_eq, State.half]
  rw [hhalf, State.ticked_of_counting hcount]
  exact State.gearBoundary_follows { s with time.beat := mod64 (s.time.beat + 1) } hh

theorem State.tick_keeps (s : State) : HalvesOnly s s.tick ∧ CountersKept [PwrCnt.gearDeferred] s s.tick ∧
    (s.time.counting = false → s.tick.pwr = s.pwr) := by
  have hpwr : s.tick.pwr = s.ticked.pwr := by simp [State.tick_eq]
  have hcnt : s.tick.cnt = s.ticked.cnt := by simp [State.tick_eq]
  have hkept := countersKept_of_cnt hcnt [PwrCnt.gearDeferred]
  unfold HalvesOnly
  rw [hpwr]
  cases h : s.time.counting with
  | false =>
    rw [State.ticked_of_stopped h] at hkept ⊢
    exact ⟨rfl, hkept, fun _ => rfl⟩
  | true =>
    obtain ⟨hhalves, hcounters⟩ := State.gearBoundary_keeps { s with time.beat := mod64 (s.time.beat + 1) }
    rw [State.ticked_of_counting h] at hkept ⊢
    exact ⟨hhalves, CountersKept.trans hcounters hkept, nofun⟩

/-! ## The queue of waiting commands -/

theorem pending_of_execPwrEnDeassert {s t : State} (h : execPwrEnDeassert s = .next t) : t.pending = s.pending := by
  unfold execPwrEnDeassert at h
  split at h <;> rw [next_state h]
  rfl

theorem pending_of_execInputPowerLoss {s t : State} (h : execInputPowerLoss s = .next t) : t.pending = s.pending := by
  unfold execInputPowerLoss at h
  split at h <;> rw [next_state h]
  rfl

theorem pending_of_execTrip (cause : Fin 16) (detail : Nat) {s t : State} (h : execTrip cause detail s = .next t) :
    t.pending = s.pending := by
  unfold execTrip at h
  split at h
  next hchecked =>
    obtain ⟨-, rfl⟩ := (checked_next _ _ _).1 hchecked
    split at h <;> rw [next_state h]
    rfl
  next hother => exact absurd h (hother t)

/-- Each command's own frame holds the queue. -/
theorem exec_pending {c : Instr} {s t : State} (hexec : exec c s = .next t) : t.pending = s.pending := by
  cases c with
  | ident p m => exact (execIdent_frame p m s t hexec).1
  | status p m => exact (execStatus_frame p m s t hexec).1
  | logRead p m => exact (execLogRead_frame p m s t hexec).1
  | logTail p m => exact (execLogTail_frame p m s t hexec).1
  | setSteward p m => exact (execSetSteward_frame p m s t hexec).1
  | configGet p m => exact (execConfigGet_frame p m s t hexec).1
  | configSet p m => exact (execConfigSet_frame p m s t hexec).1
  | apertureSet p m => exact (execApertureSet_frame p m s t hexec).1
  | mapRead p m => exact (execMapRead_frame p m s t hexec).1
  | planLoad p m => exact (execPlanLoad_frame p m s t hexec).1
  | planArm p m => exact (execPlanArm_frame p m s t hexec).1
  | planUnload p m => exact (execPlanUnload_frame p m s t hexec).1
  | runAtBeat p m => exact (execRunAtBeat_frame p m s t hexec).1
  | hold p m => exact (execHold_frame p m s t hexec).1
  | resume p m => exact (execResume_frame p m s t hexec).1
  | abortRound p m => exact (execAbortRound_frame p m s t hexec).1
  | evalRun p m host => exact (execEvalRun_frame p m host s t hexec).1
  | ckptTargets p m => exact (execCkptTargets_frame p m s t hexec).1
  | ckptPolicy p m => exact (execCkptPolicy_frame p m s t hexec).1
  | ckptNow p m => exact (execCkptNow_frame p m s t hexec).1
  | restore p m hostA hostB => exact (execRestore_frame p m hostA hostB s t hexec).1
  | rollback p m => exact (execRollback_frame p m s t hexec).1
  | spareEnlist p m => exact (execSpareEnlist_frame p m s t hexec).1
  | spareTakeover p m => exact (execSpareTakeover_frame p m s t hexec).1
  | fenceCore p m => exact (execFenceCore_frame p m s t hexec).1
  | timeRole p m => exact (execTimeRole_frame p m s t hexec).1
  | timeSyncWall p m => exact (execTimeSyncWall_frame p m s t hexec).1
  | powerLimit p m => exact (execPowerLimit_frame p m s t hexec).1
  | gearPolicy p m => exact (execGearPolicy_frame p m s t hexec).1
  | telemetryRead p m => exact (execTelemetryRead_frame p m s t hexec).1
  | attest p m => exact (execAttest_frame p m s t hexec).1
  | fwStage p m host => exact (execFwStage_frame p m host s t hexec).1
  | fwCommit p m => exact (execFwCommit_frame p m s t hexec).1
  | halt p m => exact (execHalt_frame p m s t hexec).1
  | resetPart p m => exact (execResetPart_frame p m s t hexec).1
  | mailboxSubmit p m offset data => exact (execMailboxSubmit_frame p m offset data s t hexec).1
  | consumedWrite p m seq => exact (execConsumedWrite_frame p m seq s t hexec).1
  | recordPost p m => exact (execRecordPost_frame p m s t hexec).1
  | deviceQueueHead => exact (execDeviceQueueHead_frame s t hexec).1
  | respStatus p tag => exact (execRespStatus_frame p tag s t hexec).1
  | respLogTail p tag => exact (execRespLogTail_frame p tag s t hexec).1
  | respHalt p tag key => exact (execRespHalt_frame p tag key s t hexec).1
  | respResetPart p tag key => exact (execRespResetPart_frame p tag key s t hexec).1
  | portReset p kind => exact (execPortReset_frame p kind s t hexec).1
  | perstDeassert p speed width => exact (execPerstDeassert_frame p speed width s t hexec).1
  | msixUnmask p vector => exact (execMsixUnmask_frame p vector s t hexec).1
  | bar2Read p offset len => exact (execBar2Read_frame p offset len s t hexec).1
  | bar2Write p offset data => exact (execBar2Write_frame p offset data s t hexec).1
  | bar0WriteDiscard p offset len => exact (execBar0WriteDiscard_frame p offset len s t hexec).1
  | pwrEnAssert slotId within200ms => exact (execPwrEnAssert_frame slotId within200ms s t hexec).1
  | startStepDone ok ms => exact (execStartStepDone_frame ok ms s t hexec).1
  | pwrEnDeassert => exact pending_of_execPwrEnDeassert hexec
  | inputPowerLoss => exact pending_of_execInputPowerLoss hexec
  | resetIn => exact (execResetIn_frame s t hexec).1
  | warmResetStep ok ms => exact (execWarmResetStep_frame ok ms s t hexec).1
  | boardRefLoss => exact (execBoardRefLoss_frame s t hexec).1
  | i3cCcc c => exact (execI3cCcc_frame c s t hexec).1
  | sbCapWrite bytes => exact (execSbCapWrite_frame bytes s t hexec).1
  | sbHaltWrite bytes => exact (execSbHaltWrite_frame bytes s t hexec).1
  | sbStatusWrite bytes => exact (execSbStatusWrite_frame bytes s t hexec).1
  | jtagExtest => exact (execJtagExtest_frame s t hexec).1
  | jtagInstruction op => exact (execJtagInstruction_frame op s t hexec).1
  | periodStart => exact (execPeriodStart_frame s t hexec).1
  | deadline => exact (execDeadline_frame s t hexec).1
  | healthCut => exact (execHealthCut_frame s t hexec).1
  | commit => exact (execCommit_frame s t hexec).1
  | updateClose => exact (execUpdateClose_frame s t hexec).1
  | checkpoint => exact (execCheckpoint_frame s t hexec).1
  | residencyReady => exact (execResidencyReady_frame s t hexec).1
  | gear => exact (execGear_frame s t hexec).1
  | actStart => exact (execActStart_frame s t hexec).1
  | actEnd => exact (execActEnd_frame s t hexec).1
  | mark => exact (execMark_frame s t hexec).1
  | envelopeRamp missed => exact (execEnvelopeRamp_frame missed s t hexec).1
  | syncSend => exact (execSyncSend_frame s t hexec).1
  | syncRx port msg frac => exact (execSyncRx_frame port msg frac s t hexec).1
  | delayMeasure port frac => exact (execDelayMeasure_frame port frac s t hexec).1
  | delayReqRx port msg frac heldFor => exact (execDelayReqRx_frame port msg frac heldFor s t hexec).1
  | delayRespRx port msg frac => exact (execDelayRespRx_frame port msg frac s t hexec).1
  | holdoverEntry => exact (execHoldoverEntry_frame s t hexec).1
  | holdoverExpiry => exact (execHoldoverExpiry_frame s t hexec).1
  | slewDone => exact (execSlewDone_frame s t hexec).1
  | standbyTakeover => exact (execStandbyTakeover_frame s t hexec).1
  | wallAdopt => exact (execWallAdopt_frame s t hexec).1
  | counterSignal id inc rep => exact (execCounterSignal_frame id inc rep s t hexec).1
  | oxWs x => exact (execOxWs_frame x s t hexec).1
  | oxOs x => exact (execOxOs_frame x s t hexec).1
  | oxIs x => exact (execOxIs_frame x s t hexec).1
  | bankTokenPass x bank => exact (execBankTokenPass_frame x bank s t hexec).1
  | bankTokenReturn x bank => exact (execBankTokenReturn_frame x bank s t hexec).1
  | queueCreditReturn x q => exact (execQueueCreditReturn_frame x q s t hexec).1
  | copy g => exact (execCopy_frame g s t hexec).1
  | add g => exact (execAdd_frame g s t hexec).1
  | sub g => exact (execSub_frame g s t hexec).1
  | mul g => exact (execMul_frame g s t hexec).1
  | fma g => exact (execFma_frame g s t hexec).1
  | scale g => exact (execScale_frame g s t hexec).1
  | axpby g => exact (execAxpby_frame g s t hexec).1
  | max g => exact (execMax_frame g s t hexec).1
  | min g => exact (execMin_frame g s t hexec).1
  | select g => exact (execSelect_frame g s t hexec).1
  | fn g => exact (execFn_frame g s t hexec).1
  | fnMul g => exact (execFnMul_frame g s t hexec).1
  | dfn g => exact (execDfn_frame g s t hexec).1
  | dfnMul g => exact (execDfnMul_frame g s t hexec).1
  | reduceAdd g => exact (execReduceAdd_frame g s t hexec).1
  | reduceMax g => exact (execReduceMax_frame g s t hexec).1
  | tableLoad g => exact (execTableLoad_frame g s t hexec).1
  | lnFwd g => exact (execLnFwd_frame g s t hexec).1
  | rmsFwd g => exact (execRmsFwd_frame g s t hexec).1
  | smFwd g => exact (execSmFwd_frame g s t hexec).1
  | lsmFwd g => exact (execLsmFwd_frame g s t hexec).1
  | ceFwd g => exact (execCeFwd_frame g s t hexec).1
  | lnBwd g => exact (execLnBwd_frame g s t hexec).1
  | rmsBwd g => exact (execRmsBwd_frame g s t hexec).1
  | smBwd g => exact (execSmBwd_frame g s t hexec).1
  | lsmBwd g => exact (execLsmBwd_frame g s t hexec).1
  | ceBwd g => exact (execCeBwd_frame g s t hexec).1
  | spill g => exact (execSpill_frame g s t hexec).1
  | reload g => exact (execReload_frame g s t hexec).1
  | uStats g => exact (execUStats_frame g s t hexec).1
  | uFact g => exact (execUFact_frame g s t hexec).1
  | uUsum g => exact (execUUsum_frame g s t hexec).1
  | uApply g => exact (execUApply_frame g s t hexec).1
  | uCast g => exact (execUCast_frame g s t hexec).1
  | gather h => exact (execGather_frame h s t hexec).1
  | scatterAdd h => exact (execScatterAdd_frame h s t hexec).1
  | spmm h => exact (execSpmm_frame h s t hexec).1
  | sample h => exact (execSample_frame h s t hexec).1
  | route h => exact (execRoute_frame h s t hexec).1
  | dispatch h => exact (execDispatch_frame h s t hexec).1
  | sort h => exact (execSort_frame h s t hexec).1
  | ret h => exact (execRet_frame h s t hexec).1
  | combine h => exact (execCombine_frame h s t hexec).1
  | epochClose h => exact (execEpochClose_frame h s t hexec).1
  | gateGrad h => exact (execGateGrad_frame h s t hexec).1
  | muleCopy n => exact (execMuleCopy_frame n s t hexec).1
  | stashPut n => exact (execStashPut_frame n s t hexec).1
  | stashGet n => exact (execStashGet_frame n s t hexec).1
  | xsend port => exact (execXsend_frame port s t hexec).1
  | xsignal port => exact (execXsignal_frame port s t hexec).1
  | xmcast port => exact (execXmcast_frame port s t hexec).1
  | xreduce port => exact (execXreduce_frame port s t hexec).1
  | barrier u => exact (execBarrier_frame u s t hexec).1
  | endRep u => exact (execEndRep_frame u s t hexec).1
  | selectAlternative u => exact (execSelectAlternative_frame u s t hexec).1
  | switch u => exact (execSwitch_frame u s t hexec).1
  | commandComplete u w => exact (execCommandComplete_frame u w s t hexec).1
  | slipEvent u elapsed => exact (execSlipEvent_frame u elapsed s t hexec).1
  | planFinish => exact (execPlanFinish_frame s t hexec).1
  | genBoundary => exact (execGenBoundary_frame s t hexec).1
  | batchTake => exact (execBatchTake_frame s t hexec).1
  | reducedTrailerRx => exact (execReducedTrailerRx_frame s t hexec).1
  | pagingStart => exact (execPagingStart_frame s t hexec).1
  | pagerMoveDone r => exact (execPagerMoveDone_frame r s t hexec).1
  | residencyMapRx router version digest mapBytes => exact (execResidencyMapRx_frame router version digest mapBytes s t hexec).1
  | dispatchRecordRx msg => exact (execDispatchRecordRx_frame msg s t hexec).1
  | dispatchEndMarkerRx msg => exact (execDispatchEndMarkerRx_frame msg s t hexec).1
  | answerRx msg => exact (execAnswerRx_frame msg s t hexec).1
  | answerEndMarkerRx msg => exact (execAnswerEndMarkerRx_frame msg s t hexec).1
  | messageRx port msg => exact (execMessageRx_frame port msg s t hexec).1
  | mcastRx port msg => exact (execMcastRx_frame port msg s t hexec).1
  | partialRx port msg => exact (execPartialRx_frame port msg s t hexec).1
  | carryCopy port => exact (execCarryCopy_frame port s t hexec).1
  | flitRx port flit fecOk => exact (execFlitRx_frame port flit fecOk s t hexec).1
  | nakRx port count => exact (execNakRx_frame port count s t hexec).1
  | controlFlitSend port => exact (execControlFlitSend_frame port s t hexec).1
  | controlFlitRx port credits count nak => exact (execControlFlitRx_frame port credits count nak s t hexec).1
  | flitForward ingress src flit => exact (execFlitForward_frame ingress src flit s t hexec).1
  | linkTrainDone port width second => exact (execLinkTrainDone_frame port width second s t hexec).1
  | peerIdentityRx port modId role fold peerPort => exact (execPeerIdentityRx_frame port modId role fold peerPort s t hexec).1
  | portRetrain port => exact (execPortRetrain_frame port s t hexec).1
  | portFailed port => exact (execPortFailed_frame port s t hexec).1
  | echoRx port src => exact (execEchoRx_frame port src s t hexec).1
  | echoTimeout => exact (execEchoTimeout_frame s t hexec).1
  | redirectSet port src => exact (execRedirectSet_frame port src s t hexec).1
  | remapEntryRx port e => exact (execRemapEntryRx_frame port e s t hexec).1
  | remapAdopt r => exact (execRemapAdopt_frame r s t hexec).1
  | faultNoticeRx port n => exact (execFaultNoticeRx_frame port n s t hexec).1
  | gearNoticeRx port n => exact (execGearNoticeRx_frame port n s t hexec).1
  | gearNoticeRenew => exact (execGearNoticeRenew_frame s t hexec).1
  | peerEntryExpire => exact (execPeerEntryExpire_frame s t hexec).1
  | meshStopFail pos => exact (execMeshStopFail_frame pos s t hexec).1
  | msCtrlWrite pos v => exact (execMsCtrlWrite_frame pos v s t hexec).1
  | fenceDrained pos => exact (execFenceDrained_frame pos s t hexec).1
  | cowWriteHold page offset data => exact (execCowWriteHold_frame page offset data s t hexec).1
  | cowCopyDone page held => exact (execCowCopyDone_frame page held s t hexec).1
  | patrolScrub line ecc => exact (execPatrolScrub_frame line ecc s t hexec).1
  | ckptStreamStart => exact (execCkptStreamStart_frame s t hexec).1
  | ckptClose => exact (execCkptClose_frame s t hexec).1
  | ckptTargetError p => exact (execCkptTargetError_frame p s t hexec).1
  | snapshotClose => exact (execSnapshotClose_frame s t hexec).1
  | ckptNowEffect => exact (execCkptNowEffect_frame s t hexec).1
  | restoreSourceError p m hostA hostB doneA doneB => exact (execRestoreSourceError_frame p m hostA hostB doneA doneB s t hexec).1
  | runStart => exact (execRunStart_frame s t hexec).1
  | holdEffect => exact (execHoldEffect_frame s t hexec).1
  | heldEnter => exact (execHeldEnter_frame s t hexec).1
  | holdStop => exact (execHoldStop_frame s t hexec).1
  | resumeEffect => exact (execResumeEffect_frame s t hexec).1
  | abortEffect => exact (execAbortEffect_frame s t hexec).1
  | takeoverEffective => exact (execTakeoverEffective_frame s t hexec).1
  | faultEnter => exact (execFaultEnter_frame s t hexec).1
  | watchdogRestart n => exact (execWatchdogRestart_frame n s t hexec).1
  | watchdogExpiry n => exact (execWatchdogExpiry_frame n s t hexec).1
  | roleMoveDone n => exact (execRoleMoveDone_frame n s t hexec).1
  | powerSample r => exact (execPowerSample_frame r s t hexec).1
  | budgetTick => exact (execBudgetTick_frame s t hexec).1
  | limitStep => exact (execLimitStep_frame s t hexec).1
  | railOvercurrent rail => exact (execRailOvercurrent_frame rail s t hexec).1
  | clampEngage half => exact (execClampEngage_frame half s t hexec).1
  | clampRelease half => exact (execClampRelease_frame half s t hexec).1
  | trip cause detail => exact pending_of_execTrip cause detail hexec
  | thermalSample tj inlet outlet => exact (execThermalSample_frame tj inlet outlet s t hexec).1
  | gearPreramp => exact (execGearPreramp_frame s t hexec).1
  | gearRaiseDeferred half => exact (execGearRaiseDeferred_frame half s t hexec).1
  | mirrorRefresh => exact (execMirrorRefresh_frame s t hexec).1
  | logEntryWrite => exact (execLogEntryWrite_frame s t hexec).1
  | durableLogCopy => exact (execDurableLogCopy_frame s t hexec).1
  | fuseAdvance => exact (execFuseAdvance_frame s t hexec).1
  | echoAnswerRx => exact (execEchoAnswerRx_frame s t hexec).1
  | peerEntryEffective => exact (execPeerEntryEffective_frame s t hexec).1
  | pwrEnReassertDelay => exact (execPwrEnReassertDelay_frame s t hexec).1
  | stackTemperatureReport stack temp => exact (execStackTemperatureReport_frame stack temp s t hexec).1
  | bar0CrossingRead p offset len => exact (execBar0CrossingRead_frame p offset len s t hexec).1

/-- Settles O2: a tick by the boundary that it brings to each half, the one line that it may upset and the remap table that it may adopt;
the queue of waiting commands by the frame of each command. -/
theorem ticksAndQueueKept : Obligations.TicksAndQueueKept := by
  unfold Obligations.TicksAndQueueKept
  refine ⟨fun s hidle => ⟨s.tick, by rw [step, hidle], ?_⟩, fun c s t h => exec_pending h⟩
  have htime : s.tick.time = s.ticked.time := by simp [State.tick_eq]
  have hlineErr : s.tick.lineErr = s.ticked.lineUpset.lineErr := by simp [State.tick_eq]
  obtain ⟨hhalves, hcounters, hstopped⟩ := s.tick_keeps
  obtain ⟨l, hline⟩ := s.ticked.lineErr_lineUpset
  obtain ⟨hports, hkept, hadopts⟩ := s.ticked.lineUpset.fab_settleRemap
  have hlanes : s.ticked.lineUpset.lanesEmpty = s.lanesEmpty := by simp [State.lanesEmpty]
  rw [hlanes] at hadopts
  simp only [State.lineUpset_frame, State.ticked_keeps] at hports hkept hadopts hline
  refine ⟨by rw [htime, State.time_ticked], s.tick_onlyChanges, by rw [htime, State.time_ticked], hcounters, hstopped,
    fun hcount h hh => ?_, hhalves, ⟨l, fun k hk => ?_⟩, hkept, hadopts, hports⟩
  · obtain ⟨-, hlow, htaken⟩ := State.tick_gears hcount hh
    exact ⟨hlow, htaken⟩
  · rw [← hline k hk, hlineErr]

end Sys2Proof.Machine
end

section
/-! PROOFS. Changing commands of the mailboxes that end at once (16 R413, 18 R448): the record they make, the entry they leave in the
change log (22 R536). TIME_ROLE, TIME_SYNC_WALL, POWER_LIMIT and GEAR_POLICY (11 R265, R271, R278, 19 R478, R479, 20 R496). -/

namespace Sys2Proof.Machine

/-! ## Frames, field by field -/

theorem onlyChanges_iff {l : List Part} {s t : State} : OnlyChanges l s t ↔
    (.pending ∉ l → t.pending = s.pending) ∧ (.free ∉ l → t.freeIdx = s.freeIdx) ∧ (.out ∉ l → t.out = s.out) ∧
    (.dev ∉ l → t.dev = s.dev) ∧ (.pwr ∉ l → t.pwr = s.pwr) ∧ (.geo ∉ l → t.geo = s.geo) ∧ (.mem ∉ l → t.mem = s.mem) ∧
    (.lineErr ∉ l → t.lineErr = s.lineErr) ∧ (.pte ∉ l → t.pte = s.pte) ∧ (.shadowNext ∉ l → t.shadowNext = s.shadowNext) ∧
    (.heldWrites ∉ l → t.heldWrites = s.heldWrites) ∧ (.unit ∉ l → t.unit = s.unit) ∧ (.plan ∉ l → t.plan = s.plan) ∧
    (.time ∉ l → t.time = s.time) ∧ (.acts ∉ l → t.acts = s.acts) ∧ (.fab ∉ l → t.fab = s.fab) ∧ (.flt ∉ l → t.flt = s.flt) ∧
    (.ck ∉ l → t.ck = s.ck) ∧ (.host ∉ l → t.host = s.host) ∧ (.trust ∉ l → t.trust = s.trust) ∧ (.cnt ∉ l → t.cnt = s.cnt) := by
  constructor
  · exact fun h => ⟨h .pending, h .free, h .out, h .dev, h .pwr, h .geo, h .mem, h .lineErr, h .pte, h .shadowNext, h .heldWrites,
      h .unit, h .plan, h .time, h .acts, h .fab, h .flt, h .ck, h .host, h .trust, h .cnt⟩
  · rintro ⟨h0, h1, h2, h3, h4, h5, h6, h7, h8, h9, h10, h11, h12, h13, h14, h15, h16, h17, h18, h19, h20⟩ (_ | _)
    all_goals assumption

/-- A frame of few groups is one of more. -/
theorem OnlyChanges.mono {l m : List Part} {s t : State} (h : OnlyChanges l s t) (hl : l ⊆ m) : OnlyChanges m s t :=
  fun p hp => h p (fun hpl => hp (hl hpl))

theorem State.log_onlyChanges (s : State) (o : Nat × Nat) (cls inst old new : Nat) :
    OnlyChanges [.trust] s (s.log o cls inst old new) := by
  simp [onlyChanges_iff]

theorem CountersKept.mono {l m : List Nat} {s t : State} (h : CountersKept l s t) (hl : l ⊆ m) : CountersKept m s t :=
  fun k hk => h k (fun hkl => hk (hl hkl))

theorem State.cntGet_of_cnt {s t : State} (h : t.cnt = s.cnt) (k : Nat) : t.cntGet k = s.cntGet k :=
  congrArg (fun c => Tab.get 0 c k) h

/-! ## The change log (22 R536) -/

theorem State.log_logsOne (s : State) (o : Nat × Nat) (cls inst old new : Nat) :
    LogsOne s (s.log o cls inst old new) o cls inst :=
  ⟨rfl, _, rfl, rfl, rfl, rfl, rfl, rfl⟩

/-- An entry logged is logged whatever else changes before it, but for the log and the beat, and after it, but for the log. -/
theorem LogsOne.congr {s t s' t' : State} {o : Nat × Nat} {cls inst : Nat} (h : LogsOne s t o cls inst) (hs : s.trust = s'.trust)
    (hb : s.time.beat = s'.time.beat) (ht : t'.trust = t.trust) : LogsOne s' t' o cls inst := by
  unfold LogsOne at *
  rwa [ht, ← hs, ← hb]

/-! ## Records (18 R448) -/

theorem State.box_congr {s t : State} (h : t.host = s.host) (p m : Nat) : t.box p m = s.box p m := by
  rw [State.box, State.box, h]

theorem State.box_setBox_self (s : State) (p m : Nat) (b : Mailbox) : (s.setBox p m b).box p m = b :=
  Tab.get_set_self _ _ _ _

/-- Outside a reset of its mailbox the command at the head ends in its record. -/
theorem State.makeRecord_answers {s : State} {p m : Nat} {c : Command} {rest : List Command} (hq : (s.box p m).queue = c :: rest)
    (hset : s.settled p m) (status detail : Nat) (body : List Byte) :
    Answers s (s.makeRecord p m status detail body) p m status detail body := by
  let r : Record :=
    { status := status, opcode := c.opcode, seq := c.seq, irq := c.irq, beat := s.time.beat, detail := detail, body := body,
      len := body.length, wrote := none }
  have hbox : (s.makeRecord p m status detail body).box p m =
      { s.box p m with queue := rest, records := (s.box p m).records ++ [r], ackSeq := c.seq, progress := 255 } := by
    unfold State.makeRecord State.makeRecordLen
    rw [hq]
    dsimp only
    rw [if_neg (by rw [hset]; decide)]
    exact s.box_setBox_self _ _ _
  refine ⟨c, ?_, ?_, ?_⟩ <;> rw [hbox]
  exact hq

theorem State.makeRecord_onlyChanges (s : State) (p m status detail : Nat) (body : List Byte) :
    OnlyChanges [.host] s (s.makeRecord p m status detail body) := by
  simp [onlyChanges_iff]

/-- A record made once other groups have changed. -/
theorem Answers.of_host {s r t : State} {p m status detail : Nat} {body : List Byte} (h : Answers r t p m status detail body)
    (hhost : r.host = s.host) (hbeat : r.time.beat = s.time.beat) : Answers s t p m status detail body := by
  have hbox : r.box p m = s.box p m := State.box_congr hhost p m
  unfold Answers at *
  rwa [← hbox, ← hbeat]

/-! ## The changing command in execution (16 R413) -/

theorem State.head_of_queueHead {s : State} {q : Queued} {c : Command} (h : s.queueHead = some (q, c)) :
    s.head q.port q.mbox = some c := by
  unfold State.queueHead at h
  split at h
  · split at h
    next hhead =>
      split at h
      · obtain ⟨rfl, rfl⟩ := Prod.mk.inj (Option.some.inj h)
        exact hhead
      · cases h
    · cases h
  · cases h

section Changing

variable {s : State} {p m op : Nat} {c : Command} (h : s.changing p m op = some c)
include h

theorem State.head_of_changing : s.head p m = some c := by
  unfold State.changing at h
  split at h
  next q d hqueue =>
    have hhead := State.head_of_queueHead hqueue
    split at h
    next hfits =>
      obtain rfl := Option.some.inj h
      simp only [Bool.and_eq_true, decide_eq_true_eq] at hfits
      obtain ⟨⟨⟨⟨hport, hmbox⟩, -⟩, -⟩, -⟩ := hfits
      rwa [hport, hmbox] at hhead
    · cases h
  · cases h

theorem State.queue_of_changing : ∃ rest, (s.box p m).queue = c :: rest := List.head?_eq_some_iff.mp (State.head_of_changing h)

/-- A command whose body is as the table gives it is rejected in the wrong state, and otherwise has its effects. -/
theorem State.runChanging_of_body (hbody : c.bodyOk = true) (wrong : Command → Bool) (f : Command → State) :
    s.runChanging p m op wrong f = .next (if wrong c then s.reject p m stWrongState 0 else f c) := by
  simp [State.runChanging, h, hbody]

section Settled

variable (hset : s.settled p m)
include hset

/-- What a command that is done has changed, and its record. -/
theorem State.ok_answers {r : State} (hhost : r.host = s.host) (hbeat : r.time.beat = s.time.beat) :
    Answers s (r.ok p m []) p m 0 0 [] := by
  have hbox : r.box p m = s.box p m := State.box_congr hhost p m
  obtain ⟨rest, hq⟩ := State.queue_of_changing h
  exact (State.makeRecord_answers (s := r) (hbox ▸ hq) (by unfold State.settled; rwa [hbox]) _ _ _).of_host hhost hbeat

/-- A command rejected has its record and its entry in the change log, and is counted in the wrong state. -/
theorem State.reject_answers (status : Nat) : Answers s (s.reject p m status 0) p m status 0 [] ∧
    OnlyChanges [.host, .trust, .cnt] s (s.reject p m status 0) ∧
    (status ≠ stWrongState → OnlyChanges [.host, .trust] s (s.reject p m status 0)) := by
  obtain ⟨rest, hq⟩ := State.queue_of_changing h
  unfold State.reject
  rw [State.head_of_changing h]
  dsimp only
  generalize hs1 : (if status = stWrongState then s.bump FaultCnt.wrongState 1 else s) = s1
  have hbump : OnlyChanges [.cnt] s s1 := by
    rw [← hs1]
    split
    · exact onlyChanges_bump s _ _
    · exact .refl _ s
  generalize hs2 : s1.log _ _ _ _ _ = s2
  have hlog : OnlyChanges [.trust] s1 s2 := hs2 ▸ s1.log_onlyChanges _ _ _ _ _
  have hrecord := s2.makeRecord_onlyChanges p m status 0 []
  have hhost : s2.host = s.host := (hbump .host (by simp)).trans (hlog .host (by simp))
  have htime : s2.time = s.time := (hbump .time (by simp)).trans (hlog .time (by simp))
  have hbox : s2.box p m = s.box p m := State.box_congr hhost p m
  refine ⟨(State.makeRecord_answers (s := s2) (hbox ▸ hq) (by unfold State.settled; rwa [hbox]) _ _ _).of_host hhost
      (congrArg Time.beat htime), (hbump.trans hlog (n := [.trust, .cnt]) (by simp) (by simp)).trans hrecord (by simp) (by simp),
    fun hstatus => ?_⟩
  obtain rfl : s = s1 := (if_neg hstatus).symm.trans hs1
  exact hlog.trans hrecord (by simp) (by simp)

/-- A command that logs its one change and is done. -/
theorem State.logged_answers {r : State} {l : List Part} (hl : .host ∉ l ∧ .trust ∉ l) (honly : OnlyChanges l s r)
    (hbeat : r.time.beat = s.time.beat) (cls inst old new : Nat) :
    let t := (r.log (fromMailbox p m) cls inst old new).ok p m []
    Answers s t p m 0 0 [] ∧ LogsOne s t (1, 0) cls inst ∧ OnlyChanges (.host :: .trust :: l) s t := by
  obtain ⟨hnohost, hnotrust⟩ := hl
  have hhost : r.host = s.host := honly .host hnohost
  have htrust : r.trust = s.trust := honly .trust hnotrust
  intro t
  have hlog := r.log_onlyChanges (fromMailbox p m) cls inst old new
  refine ⟨State.ok_answers h hset (by simpa using hhost) (by simpa using hbeat), ?_, ?_⟩
  · exact (r.log_logsOne (fromMailbox p m) cls inst old new).congr htrust hbeat (by simp [t])
  · exact (honly.trans hlog (n := .trust :: l) (by simp) (by simp)).trans (State.makeRecord_onlyChanges _ _ _ _ _ _)
      (by simp) (by simp)

end Settled

end Changing

/-! ## Roles of a module in time (11 R265, R271, R274) -/

theorem State.holdoverEnds_countersKept (s : State) : CountersKept [TimeCnt.holdMax] s s.holdoverEnds := by
  unfold State.holdoverEnds
  split
  · exact countersKept_bump s _ _
  · exact fun _ _ => rfl

theorem State.time_becomeRooster (s : State) : s.becomeRooster.time =
    { s.time with role := 0, state := 1, depth := 0, roosterId := s.ownId, lastSync := s.time.beat, syncDue := false,
                  gen := ((if s.time.accepted then s.time.pairGen else s.time.gen) + 1) % 2 ^ 28 } := by
  simp [State.becomeRooster]

theorem State.cnt_becomeRooster (s : State) : s.becomeRooster.cnt = s.holdoverEnds.cnt := rfl

/-- The state with the role taken and not yet counted and logged. -/
def State.roleTaken (s : State) (role : Nat) : State :=
  if role = 0 then s.becomeRooster
  else
    { s with time.role := role, time.gen := (s.time.gen + 1) % 2 ^ 28,
             time.lastSync := if s.time.role = 0 || !s.time.accepted then s.time.beat else s.time.lastSync }

theorem State.roleTaken_rooster (s : State) : s.roleTaken 0 = s.becomeRooster := rfl

theorem State.roleTaken_other (s : State) {role : Nat} (h : role ≠ 0) : s.roleTaken role =
    { s with time.role := role, time.gen := (s.time.gen + 1) % 2 ^ 28,
             time.lastSync := if s.time.role = 0 || !s.time.accepted then s.time.beat else s.time.lastSync } := if_neg h

theorem State.roleTaken_keeps (s : State) (role : Nat) : (s.roleTaken role).time.role = role ∧
    (s.roleTaken role).time.beat = s.time.beat ∧ (s.roleTaken role).time.counting = s.time.counting ∧
    CountersKept [TimeCnt.holdMax] s (s.roleTaken role) ∧ OnlyChanges [.time, .cnt] s (s.roleTaken role) := by
  by_cases h : role = 0
  · subst h
    rw [State.roleTaken_rooster, State.time_becomeRooster]
    exact ⟨rfl, rfl, rfl, fun k hk => (State.cntGet_of_cnt s.cnt_becomeRooster k).trans (s.holdoverEnds_countersKept k hk),
      by simp [onlyChanges_iff]⟩
  · rw [s.roleTaken_other h]
    exact ⟨rfl, rfl, rfl, fun _ _ => rfl, by simp [onlyChanges_iff]⟩

theorem State.setTimeRole_same {s : State} {role : Nat} (h : s.time.role = role) (o : Nat × Nat) : s.setTimeRole o role = s := if_pos h

theorem State.setTimeRole_new {s : State} {role : Nat} (h : s.time.role ≠ role) (o : Nat × Nat) : s.setTimeRole o role =
    ((s.roleTaken role).bump TimeCnt.roleChanges 1).log o 0x0050 logRole s.time.role
      (fields [(0, role), (8, (s.roleTaken role).time.gen)]) := if_neg h

/-- A role that is new is taken, counted and logged. -/
theorem State.setTimeRole_changes {s : State} {role : Nat} (h : s.time.role ≠ role) (o : Nat × Nat) :
    (s.setTimeRole o role).time = (s.roleTaken role).time ∧ LogsOne s (s.setTimeRole o role) o 0x0050 0 ∧
      (s.setTimeRole o role).cntGet TimeCnt.roleChanges = min (s.cntGet TimeCnt.roleChanges + 1) 0xFFFFFFFF ∧
      CountersKept [TimeCnt.roleChanges, TimeCnt.holdMax] s (s.setTimeRole o role) ∧
      OnlyChanges [.trust, .time, .cnt] s (s.setTimeRole o role) := by
  obtain ⟨-, hbeat, -, hcounters, honly⟩ := s.roleTaken_keeps role
  rw [State.setTimeRole_new h]
  generalize s.roleTaken role = r at hbeat hcounters honly ⊢
  have hcount : (r.bump TimeCnt.roleChanges 1).cntGet TimeCnt.roleChanges = min (s.cntGet TimeCnt.roleChanges + 1) 0xFFFFFFFF := by
    rw [State.cntGet_bump_narrow _ (by decide), hcounters _ (by decide)]
  have htrust : r.trust = s.trust := honly .trust (by simp)
  refine ⟨by simp, (State.log_logsOne _ _ _ _ _ _).congr (by simpa using htrust) (by simpa using hbeat) rfl,
    (State.cntGet_of_cnt (by simp) _).trans hcount, ?_, ?_⟩
  · exact (hcounters.mono (by simp)).trans ((countersKept_bump r TimeCnt.roleChanges 1).mono (by simp))
  · exact (honly.trans (onlyChanges_bump r _ _) (n := [.time, .cnt]) (by simp) (by simp)).trans (State.log_onlyChanges _ _ _ _ _ _)
      (by simp) (by simp)

/-! ## The commands -/

section Commands

variable {p : Fin 2} {m : Fin 16} {s : State} {c : Command} (hset : s.settled p.val m.val) (hbody : c.bodyOk = true)
include hset hbody

/-- TIME_ROLE (19 R478). -/
theorem timeRole_answers (h : s.changing p.val m.val 0x50 = some c) : ∃ t, exec (.timeRole p m) s = .next t ∧
    (3 ≤ c.field 0 1 → Answers s t p.val m.val 3 0 [] ∧ OnlyChanges [.host, .trust] s t) ∧
    (c.field 0 1 < 3 → c.field 0 1 = s.time.role → Answers s t p.val m.val 0 0 [] ∧ OnlyChanges [.host] s t) ∧
    (c.field 0 1 < 3 → c.field 0 1 ≠ s.time.role → Answers s t p.val m.val 0 0 [] ∧ t.time = (s.roleTaken (c.field 0 1)).time ∧
      LogsOne s t (1, 0) 0x0050 0 ∧ t.cntGet TimeCnt.roleChanges = min (s.cntGet TimeCnt.roleChanges + 1) 0xFFFFFFFF ∧
      CountersKept [TimeCnt.roleChanges, TimeCnt.holdMax] s t ∧ OnlyChanges [.host, .trust, .time, .cnt] s t) := by
  refine ⟨_, State.runChanging_of_body h hbody (fun _ => false) _, fun hrole => ?_, fun hrole hsame => ?_, fun hrole hnew => ?_⟩
  · obtain ⟨hans, -, honly⟩ := State.reject_answers h hset stBadArg
    simp only [Bool.false_eq_true, if_false, if_pos hrole]
    exact ⟨hans, honly (by decide)⟩
  · simp only [Bool.false_eq_true, if_false, if_neg hrole.not_ge, State.setTimeRole_same hsame.symm]
    exact ⟨State.ok_answers h hset rfl rfl, s.makeRecord_onlyChanges _ _ _ _ _⟩
  · obtain ⟨-, hbeat, -⟩ := s.roleTaken_keeps (c.field 0 1)
    obtain ⟨htime, hlogs, hcount, hcounters, honly⟩ := State.setTimeRole_changes (Ne.symm hnew) (fromMailbox p.val m.val)
    simp only [Bool.false_eq_true, if_false, if_neg hrole.not_ge]
    generalize s.setTimeRole (fromMailbox p.val m.val) (c.field 0 1) = r at htime hlogs hcount hcounters honly ⊢
    exact ⟨State.ok_answers h hset (honly .host (by simp)) (htime ▸ hbeat), by simpa using htime,
      hlogs.congr rfl rfl (by simp), (State.cntGet_of_cnt (by simp) _).trans hcount,
      hcounters.trans (countersKept_of_cnt (by simp) _), honly.trans (r.makeRecord_onlyChanges _ _ _ _ _) (by simp) (by simp)⟩

/-- TIME_SYNC_WALL (11 R278). -/
theorem timeSyncWall_answers (h : s.changing p.val m.val 0x51 = some c) : ∃ t, exec (.timeSyncWall p m) s = .next t ∧
    (s.time.role ≠ 0 → Answers s t p.val m.val 2 0 [] ∧ OnlyChanges [.host, .trust, .cnt] s t) ∧
    (s.time.role = 0 → c.field 0 8 < s.time.beat + 2048 → Answers s t p.val m.val 3 0 [] ∧ OnlyChanges [.host, .trust] s t) ∧
    (s.time.role = 0 → s.time.beat + 2048 ≤ c.field 0 8 → Answers s t p.val m.val 0 0 [] ∧ LogsOne s t (1, 0) 0x0050 5 ∧
      t.time = { s.time with nextSet := true, nextB0 := c.field 0 8, nextW0 := c.field 8 8 } ∧
      OnlyChanges [.host, .trust, .time] s t) := by
  refine ⟨_, State.runChanging_of_body h hbody (fun _ => decide (s.time.role ≠ 0)) _, fun hrole => ?_, fun hrole hsoon => ?_,
    fun hrole hahead => ?_⟩
  · obtain ⟨hans, honly, -⟩ := State.reject_answers h hset stWrongState
    simp only [if_pos (show decide (s.time.role ≠ 0) = true by simpa using hrole)]
    exact ⟨hans, honly⟩
  · obtain ⟨hans, -, honly⟩ := State.reject_answers h hset stBadArg
    simp only [if_neg (show ¬ decide (s.time.role ≠ 0) = true by simpa using hrole), if_pos hsoon]
    exact ⟨hans, honly (by decide)⟩
  · obtain ⟨hans, hlogs, honly⟩ := State.logged_answers h hset (l := [.time])
      (r := { s with time.nextSet := true, time.nextB0 := c.field 0 8, time.nextW0 := c.field 8 8 }) (by simp)
      (by simp [onlyChanges_iff]) rfl 0x0050 logPair (fields [(0, s.time.wallB0), (64, s.time.wallW0)])
      (fields [(0, c.field 0 8), (64, c.field 8 8)])
    simp only [if_neg (show ¬ decide (s.time.role ≠ 0) = true by simpa using hrole), if_neg hahead.not_gt]
    exact ⟨hans, hlogs, by simp, honly⟩

/-- POWER_LIMIT (19 R479, 20 R496). -/
theorem powerLimit_answers (h : s.changing p.val m.val 0x60 = some c) : ∃ t, exec (.powerLimit p m) s = .next t ∧
    (if 400 ≤ c.field 0 2 ∧ c.field 0 2 ≤ 2000 then
      Answers s t p.val m.val 0 0 [] ∧ LogsOne s t (1, 0) 0x0011 0x0003 ∧ OnlyChanges [.host, .trust, .pwr] s t ∧
      t.pwr = { s.pwr with limit := c.field 0 2, inForce := min (c.field 0 2) s.dev.sbCapForce }
     else Answers s t p.val m.val 3 0 [] ∧ OnlyChanges [.host, .trust] s t) := by
  refine ⟨_, State.runChanging_of_body h hbody (fun _ => false) _, ?_⟩
  by_cases hrange : 400 ≤ c.field 0 2 ∧ c.field 0 2 ≤ 2000
  · have hin : (decide (c.field 0 2 < 400) || decide (2000 < c.field 0 2)) = false := by simpa using hrange
    obtain ⟨hans, hlogs, honly⟩ := State.logged_answers h hset (l := [.pwr])
      (r := { s with pwr := { s.pwr with limit := c.field 0 2, inForce := min (c.field 0 2) s.dev.sbCapForce } }) (by simp)
      (by simp [onlyChanges_iff]) rfl 0x0011 0x0003 s.pwr.limit (c.field 0 2)
    simp only [Bool.false_eq_true, if_false, hin, if_pos hrange]
    exact ⟨hans, hlogs, honly, by simp [State.limitNow]⟩
  · have hout : (decide (c.field 0 2 < 400) || decide (2000 < c.field 0 2)) = true := by
      simp only [Bool.or_eq_true, decide_eq_true_eq]
      omega
    obtain ⟨hans, -, honly⟩ := State.reject_answers h hset stBadArg
    simp only [Bool.false_eq_true, if_false, hout, if_true, if_neg hrange]
    exact ⟨hans, honly (by decide)⟩

/-- GEAR_POLICY (19 R479): the requested ceilings bound the ceilings from below. -/
theorem gearPolicy_answers (h : s.changing p.val m.val 0x61 = some c) : ∃ t, exec (.gearPolicy p m) s = .next t ∧
    Answers s t p.val m.val 0 0 [] ∧ LogsOne s t (1, 0) 0x0011 0x0004 ∧
    t.pwr = { s.pwr with west.hostCeil := c.field 0 1 % 4, east.hostCeil := c.field 0 1 / 4 % 4 } ∧
    (∀ h, h < 2 → (if h = 0 then c.field 0 1 % 4 else c.field 0 1 / 4 % 4) ≤ t.ceiling h) ∧
    OnlyChanges [.host, .trust, .pwr] s t := by
  let r : State := { s with pwr := { s.pwr with west.hostCeil := c.field 0 1 % 4, east.hostCeil := c.field 0 1 / 4 % 4 } }
  obtain ⟨hans, hlogs, honly⟩ := State.logged_answers h hset (r := r) (l := [.pwr]) (by simp) (by simp [r, onlyChanges_iff]) rfl
    0x0011 0x0004 s.hostCeilings r.hostCeilings
  have hr : ({ s with pwr.west.hostCeil := bits (c.field 0 1) 0 2, pwr.east.hostCeil := bits (c.field 0 1) 2 2 } : State) = r := by
    simp [r, bits, Nat.shiftRight_eq_div_pow]
  refine ⟨_, State.runChanging_of_body h hbody (fun _ => false) _, ?_⟩
  simp only [Bool.false_eq_true, if_false, hr]
  have hpwr : ((r.log (fromMailbox p.val m.val) 0x0011 0x0004 s.hostCeilings r.hostCeilings).ok p.val m.val []).pwr = r.pwr := by simp
  refine ⟨hans, hlogs, hpwr, fun h hh => ?_, honly⟩
  unfold State.ceiling
  rw [hpwr]
  refine le_trans ?_ (Nat.le_max_left _ _)
  obtain rfl | rfl : h = 0 ∨ h = 1 := by omega
  · exact le_rfl
  · exact le_rfl

end Commands

/-- Settles O17: each command by its record, its entry in the change log and the state between the two; a role by the state in which it is
taken. -/
theorem timeAndPowerCommands : Obligations.TimeAndPowerCommands := by
  unfold Obligations.TimeAndPowerCommands
  refine ⟨fun p m s c hset hbody => ⟨fun h => ?_, timeSyncWall_answers hset hbody⟩,
    fun p m s c hset hbody => ⟨powerLimit_answers hset hbody, gearPolicy_answers hset hbody⟩⟩
  obtain ⟨t, hexec, hreserved, hsame, hnew⟩ := timeRole_answers hset hbody h
  obtain ⟨hrole, hbeat, hcounting, -, -⟩ := s.roleTaken_keeps (c.field 0 1)
  refine ⟨t, hexec, hreserved, hsame, fun hlt hne => ?_⟩
  obtain ⟨hans, htime, hlogs, hcount, hcounters, honly⟩ := hnew hlt hne
  rw [htime]
  refine ⟨hans, hrole, hbeat, hcounting, hlogs, fun hzero => ?_, fun hother => ?_, hcount, hcounters, honly⟩
  · rw [hzero, State.roleTaken_rooster, State.time_becomeRooster]
    exact ⟨rfl, rfl, rfl, rfl⟩
  · rw [s.roleTaken_other hother]
    exact ⟨rfl, rfl⟩

end Sys2Proof.Machine
end

section
/-! PROOFS. Time messages and what follows from them (11 R263 to R278): a message of one flit leaves a link (15 R367 to R372); SYNC is
sent down the tree, accepted from the parent, and demotes an older Rooster; link delays, holdover, takeover and wall time. -/

namespace Sys2Proof.Machine

/-! ## Messages of one flit leave a link (15 R367 to R372) -/

theorem PortsOnly.mono {l m : List Nat} {s t : State} (h : PortsOnly l s t) (hl : l ⊆ m) : PortsOnly m s t :=
  h.imp_right fun hports p hp => hports p (fun hpl => hp (hl hpl))

/-- An event said and flits handed to a link: they join those that wait, and those that may leave do. -/
theorem State.emit_queueFlits (s : State) (p : Nat) (e : OutEvent) (l : List Flit) :
    Hands s ((s.emit e).queueFlits p l) p e l ∧ PortsOnly [p] s ((s.emit e).queueFlits p l) := by
  let r := (s.emit e).setPort p { (s.emit e).port p with waiting := ((s.emit e).port p).waiting ++ l }
  have hwaiting : (r.port p).waiting = (s.port p).waiting ++ l := by
    rw [State.port_setPort, if_pos rfl]
    rfl
  obtain ⟨sent, hpumped⟩ := r.pump_pumped p (r.port p).waiting.length
  refine ⟨⟨sent, ?_, fun f hf => hpumped.waiting f (hwaiting ▸ hf)⟩, (portsOnly_setPort (s.emit e) p _).trans hpumped.ports⟩
  calc ((s.emit e).queueFlits p l).out = r.out ++ sent.map (OutEvent.flit p) := hpumped.out
    _ = s.out ++ e :: sent.map (OutEvent.flit p) := List.append_assoc _ [e] _

theorem State.sendTime_hands (s : State) (p kind : Nat) (m : TimeMsg) :
    Hands s (s.sendTime p kind m) p (.time p kind m) [cardFlit 5 6 (s.linkDst p) (timePayload kind m)] :=
  (s.emit_queueFlits p _ _).1

theorem State.sendTime_portsOnly (s : State) (p kind : Nat) (m : TimeMsg) : PortsOnly [p] s (s.sendTime p kind m) :=
  (s.emit_queueFlits p _ _).2

theorem State.sendTime_onlyChanges (s : State) (p kind : Nat) (m : TimeMsg) : OnlyChanges [.fab, .out, .cnt] s (s.sendTime p kind m) := by
  simp [onlyChanges_iff]

/-! ## Link delays (11 R268, 23 R560) -/

theorem checked_of_wellFormed {i : Instr} (h : wellFormed i = true) (s : State) : checked i s = .next s := if_pos h

theorem fits_of_lt {w v : Nat} (h : v < 2 ^ w) : fits w v = true := decide_eq_true h

section Delays

variable {port : Fin 16} {m : TimeMsg} {frac held : Nat} {s : State} (hfrac : frac < 2 ^ 16) (hup : s.portUp port.val = true)
include hfrac hup

/-- DELAY_MEASURE sends its request when it is due. -/
theorem exec_delayMeasure : exec (.delayMeasure port frac) s = .next
    (if s.time.beat % 65536 = 0 ∨ Tab.get 0 s.time.delaySent port.val = 0 then
      ({ s with time.delaySent := Tab.set 0 s.time.delaySent port.val (65536 * s.time.beat + frac + 1) } : State).sendTime
        port.val 2 (s.timeMsg frac 0)
     else s) := by
  change execDelayMeasure _ _ _ = _
  rw [execDelayMeasure, checked_of_wellFormed (by simp [wellFormed, fits_of_lt hfrac])]
  dsimp only
  rw [hup, Bool.true_and, ← apply_ite Host.Outcome.next]
  simp only [Bool.or_eq_true, decide_eq_true_eq]

theorem delayMeasure_sends : ∃ t, exec (.delayMeasure port frac) s = .next t ∧
    if s.time.beat % 65536 = 0 ∨ Tab.get 0 s.time.delaySent port.val = 0 then
      Tab.get 0 t.time.delaySent port.val = 65536 * s.time.beat + frac + 1 ∧
      { t.time with delaySent := s.time.delaySent } = s.time ∧
      (∃ q, (Hands s t port.val (.time port.val 2 q) [cardFlit 5 6 (s.linkDst port.val) (timePayload 2 q)] ∧
        PortsOnly [port.val] s t) ∧ q.tBeat = s.time.beat ∧ q.tFrac = frac) ∧ OnlyChanges [.time, .out, .fab, .cnt] s t
    else t = s := by
  refine ⟨_, exec_delayMeasure hfrac hup, ?_⟩
  split
  · let r : State := { s with time.delaySent := Tab.set 0 s.time.delaySent port.val (65536 * s.time.beat + frac + 1) }
    have htime : (r.sendTime port.val 2 (s.timeMsg frac 0)).time = r.time := by simp
    have honly : OnlyChanges [.time] s r := by simp [r, onlyChanges_iff]
    refine ⟨by rw [htime]; exact Tab.get_set_self _ _ _ _, by rw [htime], ⟨s.timeMsg frac 0,
      ⟨r.sendTime_hands _ _ _, r.sendTime_portsOnly _ _ _⟩, rfl, Nat.mod_eq_of_lt hfrac⟩,
      honly.trans (r.sendTime_onlyChanges _ _ _) (by simp) (by simp)⟩
  · rfl

variable (hok : m.ok = true)
include hok

/-- DELAY_REQ_RX answers with what it has held the request. -/
theorem delayReqRx_answers (hheld : held < 2 ^ 48) : ∃ t q, exec (.delayReqRx port m frac held) s = .next t ∧
    (Hands s t port.val (.time port.val 3 q) [cardFlit 5 6 (s.linkDst port.val) (timePayload 3 q)] ∧ PortsOnly [port.val] s t) ∧
    q.rxDelta = held ∧ q.tBeat = (65536 * s.time.beat + frac + held) / 65536 % 2 ^ 64 ∧
    q.tFrac = (65536 * s.time.beat + frac + held) % 65536 ∧ OnlyChanges [.out, .fab, .cnt] s t := by
  let sentAt := 65536 * s.time.beat + frac + held
  let q : TimeMsg := { s.timeMsg sentAt held with tBeat := mod64 (sentAt / 65536) }
  have hexec : exec (.delayReqRx port m frac held) s = .next (s.sendTime port.val 3 q) := by
    change execDelayReqRx _ _ _ _ _ = _
    rw [execDelayReqRx, checked_of_wellFormed (by simp [wellFormed, hok, fits_of_lt hfrac, fits_of_lt hheld])]
    exact if_pos hup
  exact ⟨_, q, hexec, ⟨s.sendTime_hands _ _ _, s.sendTime_portsOnly _ _ _⟩, Nat.mod_eq_of_lt hheld, rfl, rfl,
    (s.sendTime_onlyChanges _ _ _).mono (by simp)⟩

/-- DELAY_RESP_RX notes the delay, and logs one beyond TRACE_NS. -/
theorem delayRespRx_notes (hsent : Tab.get 0 s.time.delaySent port.val ≠ 0) :
    let ns := (65536 * s.time.beat + frac - (Tab.get 0 s.time.delaySent port.val - 1) - m.rxDelta) * 1000 / 131072
    ∃ t, exec (.delayRespRx port m frac) s = .next t ∧ t.port port.val = { s.port port.val with delayNs := ns % 2 ^ 16 } ∧
      PortsOnly [port.val] s t ∧
      (if s.fab.traceNs < ns then LogsOne s t (3, 0) 0x0080 (0x0200 + port.val) else t.trust = s.trust) ∧
      OnlyChanges [.fab, .trust] s t := by
  intro ns
  let r := s.setPort port.val { s.port port.val with delayNs := ns % 2 ^ 16 }
  let logged := r.log (fromHardware port.val) 0x0080 (0x0200 + port.val) s.fab.traceNs ns
  have hexec : exec (.delayRespRx port m frac) s = .next (if s.fab.traceNs < ns then logged else r) := by
    change execDelayRespRx _ _ _ _ = _
    rw [execDelayRespRx, checked_of_wellFormed (by simp [wellFormed, hok, fits_of_lt hfrac])]
    exact if_pos (by simp [hup, hsent])
  have hport : r.port port.val = { s.port port.val with delayNs := ns % 2 ^ 16 } := by rw [State.port_setPort, if_pos rfl]
  have hports : PortsOnly [port.val] s r := portsOnly_setPort s _ _
  have honly : OnlyChanges [.fab] s r := by simp [r, onlyChanges_iff]
  refine ⟨_, hexec, ?_⟩
  split
  · exact ⟨hport, hports, (r.log_logsOne (fromHardware port.val) 0x0080 (0x0200 + port.val) s.fab.traceNs ns).congr rfl rfl rfl,
      honly.trans (r.log_onlyChanges _ _ _ _ _) (by simp) (by simp)⟩
  · exact ⟨hport, hports, rfl, honly.mono (by simp)⟩

end Delays

/-! ## Holdover, takeover, wall time (11 R271 to R274, R278) -/

theorem State.raiseCause_logsOne (s : State) (cause detail : Nat) :
    LogsOne s (s.raiseCause cause detail) (fromHardware detail) 0x0002 0 := by
  unfold State.raiseCause
  dsimp only
  split <;> exact (State.log_logsOne _ _ _ _ _ _).congr rfl rfl rfl

theorem State.adoptWall_adopts (s : State) : s.adoptWall.time =
      { s.time with wallSet := true, wallB0 := s.time.nextB0, wallW0 := s.time.nextW0, nextSet := false } ∧
    LogsOne s s.adoptWall (0, 0) 0x0050 4 ∧ OnlyChanges [.time, .trust] s s.adoptWall := by
  refine ⟨by simp [State.adoptWall], ?_, by simp [onlyChanges_iff]⟩
  exact (State.log_logsOne { s with time.wallSet := true, time.wallB0 := s.time.nextB0, time.wallW0 := s.time.nextW0,
                                    time.nextSet := false } (s.dog 5) 0x0050 logWall _ _).congr rfl rfl rfl

section Holdover

variable {s : State}

/-- HOLDOVER_ENTRY (11 R272). -/
theorem holdoverEntry_enters (hlocked : s.time.state = 1) (hrole : s.time.role ≠ 0) (hlate : s.time.lastSync + 256 ≤ s.time.beat) :
    ∃ t, exec .holdoverEntry s = .next t ∧ t.time = { s.time with state := 2, holdoverBeat := s.time.beat } ∧
      t.cntGet TimeCnt.holdovers = min (s.cntGet TimeCnt.holdovers + 1) 0xFFFFFFFF ∧ CountersKept [TimeCnt.holdovers] s t ∧
      OnlyChanges [.time, .cnt] s t := by
  let r : State := { s with time.state := 2, time.holdoverBeat := s.time.beat }
  have hexec : exec .holdoverEntry s = .next (r.bump TimeCnt.holdovers 1) := if_pos (by simp [hlocked, hrole, hlate])
  exact ⟨_, hexec, rfl, r.cntGet_bump_narrow (by decide) 1, countersKept_bump r _ _, by simp [r, onlyChanges_iff]⟩

/-- HOLDOVER_EXPIRY (11 R272). -/
theorem holdoverExpiry_loses (hholdover : s.time.state = 2) (hlate : s.time.holdoverBeat + 10000000 ≤ s.time.beat) :
    ∃ t, exec .holdoverExpiry s = .next t ∧ t.time = { s.time with state := 4 } ∧ t.flt.pendingEntry = true ∧
      (s.flt.cause = 0 → t.flt.cause = 9) ∧ LogsOne s t (3, 0) 0x0002 0 ∧ OnlyChanges [.time, .cnt, .flt, .trust] s t := by
  let r : State := { s.holdoverEnds with time.state := 4 }
  have hexec : exec .holdoverExpiry s = .next (r.raiseCause 0x09 0) := if_pos (by simp [hholdover, hlate])
  obtain ⟨hpending, hcause⟩ := r.raiseCause_raises 0x09 0
  refine ⟨_, hexec, by simp [r], hpending, fun h => hcause (by simpa [r] using h),
    (r.raiseCause_logsOne 0x09 0).congr (by simp [r]) (by simp [r]) rfl, by simp [r, onlyChanges_iff]⟩

/-- SLEW_DONE (11 R273). -/
theorem slewDone_locks (hslewing : s.time.state = 3) : ∃ t, exec .slewDone s = .next t ∧ t.time = { s.time with state := 1 } ∧
    OnlyChanges [.time] s t :=
  ⟨{ s with time.state := 1 }, if_pos hslewing, rfl, by simp [onlyChanges_iff]⟩

/-- STANDBY_TAKEOVER (11 R274). -/
theorem standbyTakeover_leads (hstandby : s.time.role = 1) (hcount : s.time.counting = true)
    (hlate : s.time.lastSync + 512 ≤ s.time.beat) : ∃ t, exec .standbyTakeover s = .next t ∧ t.time = s.becomeRooster.time ∧
      LogsOne s t (3, 0) 0x0050 2 ∧ OnlyChanges [.time, .cnt, .trust] s t := by
  let r := s.becomeRooster.bump TimeCnt.roleChanges 1
  have hexec : exec .standbyTakeover s = .next
      (r.log (fromHardware 5) 0x0050 logTakeover 1 (fields [(0, 0), (8, s.becomeRooster.time.gen)])) :=
    if_pos (by simp [hstandby, hcount, hlate])
  have hbeat : r.time.beat = s.time.beat := by simp [r, State.time_becomeRooster]
  exact ⟨_, hexec, by simp [r], (r.log_logsOne (fromHardware 5) 0x0050 logTakeover _ _).congr (by simp [r]) hbeat rfl,
    by simp [r, onlyChanges_iff]⟩

/-- WALL_ADOPT (11 R278). -/
theorem wallAdopt_adopts (hset : s.time.nextSet = true) (hdue : s.time.nextB0 ≤ s.time.beat) : ∃ t, exec .wallAdopt s = .next t ∧
    t.time = { s.time with wallSet := true, wallB0 := s.time.nextB0, wallW0 := s.time.nextW0, nextSet := false } ∧
    LogsOne s t (0, 0) 0x0050 4 ∧ OnlyChanges [.time, .trust] s t :=
  ⟨s.adoptWall, if_pos (by simp [hset, hdue]), s.adoptWall_adopts⟩

end Holdover

/-- Settles O48: each message by the state from which it leaves, each change of the time state by the state that it is made in. -/
theorem delaysHoldoverAndWallTime : Obligations.DelaysHoldoverAndWallTime := by
  unfold Obligations.DelaysHoldoverAndWallTime
  refine ⟨fun port m frac held s hok hfrac hheld hup =>
      ⟨delayMeasure_sends hfrac hup, delayReqRx_answers hfrac hup hok hheld, delayRespRx_notes hfrac hup hok⟩,
    fun s => ⟨holdoverEntry_enters, holdoverExpiry_loses, slewDone_locks, fun hstandby hcount hlate => ?_, wallAdopt_adopts⟩⟩
  obtain ⟨t, hexec, htime, hlogs, honly⟩ := standbyTakeover_leads hstandby hcount hlate
  exact ⟨t, hexec, htime.trans s.time_becomeRooster, hlogs, honly⟩

end Sys2Proof.Machine
end

section
/-! PROOFS. SYNC (11 R263 to R274): sent down the tree, accepted from the parent by time state, and what a Rooster makes of one. -/

namespace Sys2Proof.Machine

/-! ## SYNC leaves (11 R266, R267) -/

/-- A time message said in the outbox: its port, KIND and fields. -/
def timeEvent : OutEvent → Option (Nat × Nat × TimeMsg)
  | .time p k q => some (p, k, q)
  | _ => none

/-- What the outbox says of a message sent on each of the links `ports`, in order, with the data flits that leave meanwhile. -/
def SaysSync (m : TimeMsg) (ports : List Nat) (l : List OutEvent) : Prop :=
  l.filterMap timeEvent = ports.map (fun p => (p, 1, m)) ∧ ∀ e ∈ l, (∃ p k q, e = .time p k q) ∨ ∃ p f, e = .flit p f

theorem filterMap_timeEvent_flits (p : Nat) (l : List Flit) : (l.map (OutEvent.flit p)).filterMap timeEvent = [] := by
  rw [List.filterMap_map]
  exact List.filterMap_eq_nil_iff.mpr fun _ _ => rfl

theorem State.sendTimes_says (m : TimeMsg) (ports : List Nat) (s : State) :
    ∃ l, (ports.foldl (fun r p => r.sendTime p 1 m) s).out = s.out ++ l ∧ SaysSync m ports l := by
  induction ports generalizing s with
  | nil => exact ⟨[], by simp, rfl, by simp⟩
  | cons p ports ih =>
    obtain ⟨sent, hout, -⟩ := s.sendTime_hands p 1 m
    obtain ⟨l, hrest, htimes, hevents⟩ := ih (s.sendTime p 1 m)
    refine ⟨.time p 1 m :: (sent.map (OutEvent.flit p) ++ l), ?_, ?_, fun e he => ?_⟩
    · rw [List.foldl_cons, hrest, hout, List.append_assoc, List.cons_append]
    · rw [List.filterMap_cons_some (f := timeEvent) (b := (p, 1, m)) rfl, List.filterMap_append, filterMap_timeEvent_flits, htimes]
      rfl
    · rcases List.mem_cons.mp he with rfl | he
      · exact .inl ⟨p, 1, m, rfl⟩
      · rcases List.mem_append.mp he with he | he
        · obtain ⟨f, -, rfl⟩ := List.mem_map.mp he
          exact .inr ⟨p, f, rfl⟩
        · exact hevents e he

theorem State.sendTimes_portsOnly (m : TimeMsg) {ports all : List Nat} (h : ports ⊆ all) (s : State) :
    PortsOnly all s (ports.foldl (fun r p => r.sendTime p 1 m) s) := by
  induction ports generalizing s with
  | nil => exact .refl all s
  | cons p ports ih =>
    obtain ⟨hp, hports⟩ := List.cons_subset.mp h
    exact ((s.sendTime_portsOnly p 1 m).mono (by simpa using hp)).trans (ih hports _)

/-- The module's SYNC has left on every link of its place on the tree that is up. -/
def SendsSync (s t : State) : Prop :=
  ∃ (m : TimeMsg) (l : List OutEvent), m.tBeat = s.time.beat ∧ m.gen = s.time.gen ∧ m.roosterId = s.time.roosterId ∧
    m.depth = s.time.depth ∧ m.srcId = s.ownId ∧ m.tFrac < 2 ^ 16 ∧ t.out = s.out ++ l ∧
    l.filterMap timeEvent = (s.treeSends.filter (fun p => s.portUp p)).map (fun p => (p, 1, m)) ∧
    (∀ e ∈ l, (∃ p k q, e = .time p k q) ∨ ∃ p f, e = .flit p f) ∧ PortsOnly s.treeSends s t ∧
    t.time = { s.time with sent := s.time.beat, syncDue := false } ∧ OnlyChanges [.out, .time, .free, .fab, .cnt] s t

theorem State.sendSync_sends (s : State) : SendsSync s s.sendSync := by
  let r : State := { s.drawNat.2 with time.sent := s.time.beat, time.syncDue := false }
  let m := s.timeMsg s.drawNat.1 0
  obtain ⟨l, hout, htimes, hevents⟩ := State.sendTimes_says m (s.treeSends.filter (fun p => s.portUp p)) r
  have hports : PortsOnly s.treeSends r s.sendSync := State.sendTimes_portsOnly m (List.filter_subset_self _) r
  exact ⟨m, l, rfl, rfl, rfl, rfl, rfl, Nat.mod_lt _ (Nat.two_pow_pos 16), hout, htimes, hevents, hports, by simp [State.sendSync],
    by simp [onlyChanges_iff]⟩

section Send

variable {s : State} (hcount : s.time.counting = true)
include hcount

theorem exec_syncSend : exec .syncSend s = .next
    (if s.time.role = 0 then (if s.time.beat % 64 = 0 ∧ s.time.sent ≠ s.time.beat then s.sendSync else s)
     else if s.time.syncDue then s.sendSync else s) := by
  change execSyncSend s = _
  rw [execSyncSend, hcount]
  simp only [Bool.not_true, Bool.false_eq_true, if_false, Bool.and_eq_true, decide_eq_true_eq, apply_ite Host.Outcome.next]

/-- SYNC_SEND (11 R266). -/
theorem syncSend_sends : ∃ t, exec .syncSend s = .next t ∧
    (s.time.role = 0 → s.time.beat % 64 = 0 → s.time.sent ≠ s.time.beat → SendsSync s t) ∧
    (s.time.role ≠ 0 → s.time.syncDue = true → SendsSync s t) ∧
    (s.time.role = 0 → s.time.beat % 64 ≠ 0 ∨ s.time.sent = s.time.beat → t = s) ∧
    (s.time.role ≠ 0 → s.time.syncDue = false → t = s) := by
  refine ⟨_, exec_syncSend hcount, fun hrole hbeat hsent => ?_, fun hrole hdue => ?_, fun hrole hidle => ?_, fun hrole hdue => ?_⟩
  · rw [if_pos hrole, if_pos ⟨hbeat, hsent⟩]
    exact s.sendSync_sends
  · rw [if_neg hrole, if_pos hdue]
    exact s.sendSync_sends
  · rw [if_pos hrole, if_neg (by omega)]
  · rw [if_neg hrole, if_neg (by simp [hdue])]

end Send

/-! ## What an accepted SYNC leaves (11 R270, R271, R273) -/

/-- The time of a module without its wall pairs, which an accepted SYNC may bring too. -/
def Time.offWall (x : Time) : Time := { x with wallSet := false, wallB0 := 0, wallW0 := 0, nextSet := false, nextB0 := 0, nextW0 := 0 }

/-- The time `x` once SYNC `m` of port `port`, `hop` modules off, is noted with offset `off`. -/
def Time.noting (x : Time) (port : Nat) (m : TimeMsg) (hop : Nat) (off : Int) : Time :=
  { x with accepted := true, pairGen := m.gen, pairRooster := m.roosterId, gen := m.gen, roosterId := m.roosterId,
           depth := (m.depth + hop) % 2 ^ 8, offset := off, lastSync := x.beat, parent := port, syncDue := decide (x.role ≠ 0) }

/-- The modules by which a SYNC makes its receiver deeper than its sender (11 R266). -/
def State.hopDepth (s : State) : Nat := if s.fab.role = 1 ∧ s.fab.identity ≠ 0xFFF then 2 else 1

theorem State.offWall_adoptWall (s : State) : s.adoptWall.time.offWall = s.time.offWall := by
  rw [s.adoptWall_adopts.1]
  rfl

theorem State.offWall_adoptIf (due : Bool) (s : State) : (if due then s.adoptWall else s).time.offWall = s.time.offWall := by
  cases due
  · rfl
  · exact s.offWall_adoptWall

theorem State.offWall_noteSync (s : State) (port : Nat) (m : TimeMsg) (off : Int) :
    (s.noteSync port m off).time.offWall = (s.time.noting port m s.hopDepth (satOffset off)).offWall := by
  have hhop : (if s.fab.role = 1 && decide (s.fab.identity ≠ 0xFFF) then 2 else 1) = s.hopDepth := by
    simp [State.hopDepth]
  unfold State.noteSync
  rw [hhop]
  exact (State.offWall_adoptIf _ _).trans (by split <;> rfl)

theorem State.noteSync_countersKept (s : State) (port : Nat) (m : TimeMsg) (off : Int) :
    CountersKept [TimeCnt.syncAccepted] s (s.noteSync port m off) := by
  refine fun k hk => Eq.trans (State.cntGet_of_cnt ?_ k) (countersKept_bump s TimeCnt.syncAccepted 1 k hk)
  simp [State.noteSync, State.adoptWall]
  rfl

/-- The counter of a FREE module that accepts SYNC `m`: one step, never back (11 R263, R271). -/
def State.steppedBeat (s : State) (port : Nat) (m : TimeMsg) : Nat := max s.time.beat (s.parentTime port m / 65536 % 2 ^ 64)

/-- `t` is `s` after SYNC `m` is accepted, which has left the beat counter at `beat` and the time state at `state`. -/
structure Accepts (s t : State) (port : Nat) (m : TimeMsg) (beat state : Nat) : Prop where
  time : ∃ off, t.time.offWall = ({ s.time with beat := beat, state := state }.noting port m s.hopDepth off).offWall
  counters : CountersKept [TimeCnt.syncAccepted, TimeCnt.holdMax, FaultCnt.faults] s t

/-- What an accepted SYNC leaves of the module's time (11 R266, R270). -/
theorem Accepts.noted {s t : State} {port : Nat} {m : TimeMsg} {beat state : Nat} (h : Accepts s t port m beat state) :
    t.time.accepted = true ∧ t.time.pairGen = m.gen ∧ t.time.pairRooster = m.roosterId ∧ t.time.gen = m.gen ∧
    t.time.roosterId = m.roosterId ∧ t.time.parent = port ∧ t.time.lastSync = t.time.beat ∧ t.time.role = s.time.role ∧
    t.time.depth = (m.depth + s.hopDepth) % 2 ^ 8 ∧ t.time.syncDue = decide (s.time.role ≠ 0) := by
  obtain ⟨off, h⟩ := h.time
  exact ⟨congrArg Time.accepted h, congrArg Time.pairGen h, congrArg Time.pairRooster h, congrArg Time.gen h, congrArg Time.roosterId h,
    congrArg Time.parent h, (congrArg Time.lastSync h).trans (congrArg Time.beat h).symm, (congrArg Time.role h :), congrArg Time.depth h,
    congrArg Time.syncDue h⟩

theorem Accepts.beat_eq {s t : State} {port : Nat} {m : TimeMsg} {beat state : Nat} (h : Accepts s t port m beat state) :
    t.time.beat = beat := by
  obtain ⟨off, h⟩ := h.time
  exact congrArg Time.beat h

theorem Accepts.state_eq {s t : State} {port : Nat} {m : TimeMsg} {beat state : Nat} (h : Accepts s t port m beat state) :
    t.time.state = state := by
  obtain ⟨off, h⟩ := h.time
  exact congrArg Time.state h

theorem State.noteSync_accepts {s r : State} {beat state : Nat} (htime : r.time = { s.time with beat := beat, state := state })
    (hfab : r.fab = s.fab) (hcounters : CountersKept [TimeCnt.holdMax] s r) (port : Nat) (m : TimeMsg) (off : Int) :
    Accepts s (r.noteSync port m off) port m beat state := by
  have hhop : r.hopDepth = s.hopDepth := by rw [State.hopDepth, State.hopDepth, hfab]
  refine ⟨⟨satOffset off, ?_⟩, (hcounters.mono (by simp)).trans ((r.noteSync_countersKept port m off).mono (by simp))⟩
  rw [State.offWall_noteSync, htime, hhop]

theorem Accepts.raiseCause {s t : State} {port : Nat} {m : TimeMsg} {beat state : Nat} (h : Accepts s t port m beat state)
    (cause detail : Nat) : Accepts s (t.raiseCause cause detail) port m beat state := by
  obtain ⟨htime, hcounters⟩ := h
  refine ⟨by simpa using htime, hcounters.trans fun k hk => ?_⟩
  rw [← t.cntGet_bump_ne (key := FaultCnt.faults) (k := k) (by rintro rfl; simp at hk) 1]
  refine State.cntGet_of_cnt ?_ k
  unfold State.raiseCause
  dsimp only
  split <;> rfl

section Accept

variable (s : State) (port : Nat) (m : TimeMsg) (frac : Nat)

/-- A FREE module steps its counter and locks. -/
theorem State.acceptSync_free (h : s.time.state = 0) : Accepts s (s.acceptSync port m frac) port m (s.steppedBeat port m) 1 ∧
    (s.acceptSync port m frac).flt = s.flt := by
  unfold State.acceptSync
  rw [h]
  exact ⟨State.noteSync_accepts (by simp; rfl) (by simp) (countersKept_of_cnt (by simp) _) _ _ _, by simp⟩

/-- A module in HOLDOVER slews, or is lost and the part faults. -/
theorem State.acceptSync_holdover (h : s.time.state = 2) :
    ((s.offsetNs port m frac).natAbs ≤ 256000 → Accepts s (s.acceptSync port m frac) port m s.time.beat 3 ∧
      (s.acceptSync port m frac).flt = s.flt) ∧
    (256000 < (s.offsetNs port m frac).natAbs → Accepts s (s.acceptSync port m frac) port m s.time.beat 4 ∧
      (s.acceptSync port m frac).flt.pendingEntry = true ∧ (s.flt.cause = 0 → (s.acceptSync port m frac).flt.cause = 9)) := by
  have hnote (state : Nat) (off : Int) :
      Accepts s (({ s.holdoverEnds with time.state := state } : State).noteSync port m off) port m s.time.beat state :=
    State.noteSync_accepts (r := { s.holdoverEnds with time.state := state }) (by simp) (by simp) s.holdoverEnds_countersKept _ _ _
  unfold State.acceptSync
  rw [h]
  dsimp only
  refine ⟨fun hnear => ?_, fun hfar => ?_⟩
  · rw [if_neg hnear.not_gt]
    exact ⟨hnote 3 _, by simp⟩
  · rw [if_pos hfar]
    obtain ⟨hpending, hcause⟩ := (({ s.holdoverEnds with time.state := 4 } : State).noteSync port m
      (s.offsetNs port m frac)).raiseCause_raises 0x09 0
    exact ⟨(hnote 4 _).raiseCause _ _, hpending, fun hnone => hcause (by simpa using hnone)⟩

/-- A module in any other state stays in it. -/
theorem State.acceptSync_other (hfree : s.time.state ≠ 0) (hholdover : s.time.state ≠ 2) :
    Accepts s (s.acceptSync port m frac) port m s.time.beat s.time.state ∧ (s.acceptSync port m frac).flt = s.flt := by
  have heq : s.acceptSync port m frac = s.noteSync port m (s.offsetNs port m frac) := by
    unfold State.acceptSync
    dsimp only
    split
    next h => exact absurd h hfree
    next h => exact absurd h hholdover
    next => rfl
  rw [heq]
  exact ⟨State.noteSync_accepts rfl rfl (fun _ _ => rfl) _ _ _, by simp⟩

theorem State.acceptSync_accepts : ∃ beat state, Accepts s (s.acceptSync port m frac) port m beat state := by
  by_cases hfree : s.time.state = 0
  · exact ⟨_, _, (s.acceptSync_free port m frac hfree).1⟩
  · by_cases hholdover : s.time.state = 2
    · obtain ⟨hnear, hfar⟩ := s.acceptSync_holdover port m frac hholdover
      rcases le_or_gt (s.offsetNs port m frac).natAbs 256000 with h | h
      · exact ⟨_, _, (hnear h).1⟩
      · exact ⟨_, _, (hfar h).1⟩
    · exact ⟨_, _, (s.acceptSync_other port m frac hfree hholdover).1⟩

end Accept

/-! ## SYNC_RX (11 R265, R270, R274, 15 R395) -/

theorem newer_iff (a b : Nat × Nat) : newer a b = true ↔ b.1 < a.1 ∨ (a.1 = b.1 ∧ a.2 < b.2) := by simp [newer]

/-- SYNC `m` is older than the last pair accepted (11 R270). -/
def State.outdates (s : State) (m : TimeMsg) : Prop :=
  s.time.accepted = true ∧ (m.gen < s.time.pairGen ∨ (m.gen = s.time.pairGen ∧ s.time.pairRooster < m.roosterId))

theorem State.outdates_iff (s : State) (m : TimeMsg) :
    (s.time.accepted && newer (s.time.pairGen, s.time.pairRooster) (m.gen, m.roosterId)) = true ↔ s.outdates m := by
  rw [Bool.and_eq_true, newer_iff, State.outdates]
  simp only [eq_comm]

/-- What a module that is no Rooster makes of SYNC `m`. -/
def State.hearSync (s : State) (port : Nat) (m : TimeMsg) (frac : Nat) : State :=
  let old := s.time.accepted && newer (s.time.pairGen, s.time.pairRooster) (m.gen, m.roosterId)
  if decide (s.parentPort m.roosterId ≠ port) || old then s.bump TimeCnt.syncRefused 1
  else if s.time.state = 0 && !s.dev.state.mayStep then s
  else s.acceptSync port m frac

section Hear

variable {s : State} {port : Nat} {m : TimeMsg} (frac : Nat)

theorem State.hearSync_refuses (h : s.parentPort m.roosterId ≠ port ∨ s.outdates m) :
    s.hearSync port m frac = s.bump TimeCnt.syncRefused 1 :=
  if_pos (by rwa [Bool.or_eq_true, decide_eq_true_eq, s.outdates_iff])

/-- The module accepts SYNC `m` (11 R270). -/
def State.takesSync (s : State) (port : Nat) (m : TimeMsg) : Prop :=
  s.parentPort m.roosterId = port ∧ ¬ s.outdates m ∧ (s.time.state ≠ 0 ∨ s.dev.state.mayStep = true)

theorem State.hearSync_takes (h : s.takesSync port m) : s.hearSync port m frac = s.acceptSync port m frac := by
  obtain ⟨hparent, hold, hmay⟩ := h
  unfold State.hearSync
  dsimp only
  rw [if_neg, if_neg]
  · simpa [Classical.or_iff_not_imp_left] using hmay
  · rw [Bool.or_eq_true, decide_eq_true_eq, s.outdates_iff]
    exact not_or.mpr ⟨not_not.mpr hparent, hold⟩

theorem State.hearSync_cases : s.hearSync port m frac = s.bump TimeCnt.syncRefused 1 ∨ s.hearSync port m frac = s ∨
    s.hearSync port m frac = s.acceptSync port m frac := by
  unfold State.hearSync
  dsimp only
  split
  · exact .inl rfl
  · split
    · exact .inr (.inl rfl)
    · exact .inr (.inr rfl)

theorem State.hearSync_onlyChanges (s : State) (port : Nat) (m : TimeMsg) (frac : Nat) :
    OnlyChanges [.time, .cnt, .trust, .flt] s (s.hearSync port m frac) := by
  have haccept : OnlyChanges [.time, .cnt, .trust, .flt] s (s.acceptSync port m frac) := by simp [onlyChanges_iff]
  rcases s.hearSync_cases (port := port) (m := m) frac with h | h | h <;> rw [h]
  · exact (onlyChanges_bump s _ _).mono (by simp)
  · exact .refl _ s
  · exact haccept

/-- A SYNC heard keeps the role and the count of role changes; GEN is kept or taken from it. -/
theorem State.hearSync_keeps (s : State) (port : Nat) (m : TimeMsg) (frac : Nat) :
    (s.hearSync port m frac).time.role = s.time.role ∧
    ((s.hearSync port m frac).time.gen = s.time.gen ∨ (s.hearSync port m frac).time.gen = m.gen) ∧
    (s.hearSync port m frac).cntGet TimeCnt.roleChanges = s.cntGet TimeCnt.roleChanges := by
  rcases s.hearSync_cases (port := port) (m := m) frac with h | h | h <;> rw [h]
  · exact ⟨rfl, .inl rfl, countersKept_bump s _ 1 _ (by decide)⟩
  · exact ⟨rfl, .inl rfl, rfl⟩
  · obtain ⟨beat, state, haccepts⟩ := s.acceptSync_accepts port m frac
    obtain ⟨-, -, -, hgen, -, -, -, hrole, -⟩ := haccepts.noted
    exact ⟨hrole, .inr hgen, haccepts.counters _ (by decide)⟩

/-- A Rooster demoted is a follower with GEN one higher, and the change of role is counted (11 R265). -/
theorem State.demote_demotes (s : State) : s.demote.time.role = 2 ∧ s.demote.time.gen = (s.time.gen + 1) % 2 ^ 28 ∧
    s.demote.cntGet TimeCnt.roleChanges = min (s.cntGet TimeCnt.roleChanges + 1) 0xFFFFFFFF :=
  ⟨by simp [State.demote], by simp [State.demote], State.cntGet_bump_narrow _ (key := TimeCnt.roleChanges) rfl 1⟩

end Hear

section Receive

variable {port : Fin 16} {m : TimeMsg} {frac : Nat} {s : State} (hok : m.ok = true) (hfrac : frac < 2 ^ 16)
  (hup : s.portUp port.val = true) (hcount : s.time.counting = true)
include hok hfrac hup hcount

/-- A module whose identity a spare has taken sends what comes for it to the spare. -/
theorem exec_syncRx_of_redirect {w : Nat} (hredirect : s.fab.redirect = some w) (hw : w ≠ port.val) :
    exec (.syncRx port m frac) s = .next (s.sendTime w 1 m) := by
  change execSyncRx _ _ _ _ = _
  rw [execSyncRx, checked_of_wellFormed (by simp [wellFormed, hok, fits_of_lt hfrac])]
  simp [hup, hcount, hredirect, hw]

variable (hhere : s.fab.redirect = none ∨ s.fab.redirect = some port.val)
include hhere

/-- A module that no spare stands in for hears the SYNC; a Rooster refuses one not newer, and is demoted first by another. -/
theorem exec_syncRx_of_here : exec (.syncRx port m frac) s = .next
    (if s.time.role = 0 then
      if newer (m.gen, m.roosterId) (s.time.gen, s.ownId) then s.demote.hearSync port.val m frac else s.bump TimeCnt.syncRefused 1
     else s.hearSync port.val m frac) := by
  have hstay : (decide (s.fab.redirect ≠ none) && decide (s.fab.redirect ≠ some port.val)) = false := by
    rcases hhere with h | h <;> simp [h]
  change execSyncRx _ _ _ _ = _
  rw [execSyncRx, checked_of_wellFormed (by simp [wellFormed, hok, fits_of_lt hfrac])]
  dsimp only
  rw [hup, hcount, hstay]
  unfold State.hearSync
  by_cases hrole : s.time.role = 0
  · cases hnewer : newer (m.gen, m.roosterId) (s.time.gen, s.ownId)
    · simp [hrole]
    · simp only [hrole, if_true, decide_true, Bool.not_true, Bool.and_false, Bool.false_eq_true, if_false, Bool.and_self,
        apply_ite Host.Outcome.next]
  · simp only [hrole, if_false, decide_false, Bool.false_and, Bool.and_self, Bool.not_true, Bool.false_eq_true,
      apply_ite Host.Outcome.next]

/-- SYNC_RX at a module that is no Rooster (11 R270). -/
theorem syncRx_hears (hrole : s.time.role ≠ 0) : ∃ t, exec (.syncRx port m frac) s = .next t ∧ OnlyChanges [.time, .cnt, .trust, .flt] s t ∧
    (s.parentPort m.roosterId ≠ port.val ∨ s.outdates m →
      t.cntGet TimeCnt.syncRefused = min (s.cntGet TimeCnt.syncRefused + 1) 0xFFFFFFFF ∧
      CountersKept [TimeCnt.syncRefused] s t ∧ OnlyChanges [.cnt] s t) ∧
    (s.takesSync port.val m → t.time.accepted = true ∧ t.time.pairGen = m.gen ∧ t.time.pairRooster = m.roosterId ∧ t.time.gen = m.gen ∧
      t.time.roosterId = m.roosterId ∧ t.time.parent = port.val ∧ t.time.lastSync = t.time.beat ∧ t.time.role = s.time.role ∧
      t.time.depth = (m.depth + s.hopDepth) % 2 ^ 8 ∧ t.time.syncDue = true) ∧
    (s.takesSync port.val m → s.time.state = 0 → t.time.state = 1 ∧ t.time.beat = s.steppedBeat port.val m ∧ t.flt = s.flt) ∧
    (s.takesSync port.val m → s.time.state = 1 → t.time.state = 1 ∧ t.time.beat = s.time.beat ∧ t.flt = s.flt) ∧
    (s.takesSync port.val m → s.time.state = 2 → t.time.beat = s.time.beat ∧
      ((s.offsetNs port.val m frac).natAbs ≤ 256000 → t.time.state = 3 ∧ t.flt = s.flt) ∧
      (256000 < (s.offsetNs port.val m frac).natAbs →
        t.time.state = 4 ∧ t.flt.pendingEntry = true ∧ (s.flt.cause = 0 → t.flt.cause = 9))) := by
  refine ⟨s.hearSync port.val m frac, ?_, s.hearSync_onlyChanges _ _ _, fun hrefused => ?_, fun htakes => ?_, fun htakes hfree => ?_,
    fun htakes hlocked => ?_, fun htakes hholdover => ?_⟩
  · rw [exec_syncRx_of_here hok hfrac hup hcount hhere, if_neg hrole]
  · rw [State.hearSync_refuses frac hrefused]
    exact ⟨s.cntGet_bump_narrow rfl 1, countersKept_bump s _ 1, onlyChanges_bump s _ 1⟩
  · obtain ⟨beat, state, h⟩ := s.acceptSync_accepts port.val m frac
    rw [State.hearSync_takes frac htakes]
    simpa [hrole] using h.noted
  · rw [State.hearSync_takes frac htakes]
    obtain ⟨h, hflt⟩ := s.acceptSync_free port.val m frac hfree
    exact ⟨h.state_eq, h.beat_eq, hflt⟩
  · rw [State.hearSync_takes frac htakes]
    obtain ⟨h, hflt⟩ := s.acceptSync_other port.val m frac (by omega) (by omega)
    exact ⟨h.state_eq.trans hlocked, h.beat_eq, hflt⟩
  · rw [State.hearSync_takes frac htakes]
    obtain ⟨hnear, hfar⟩ := s.acceptSync_holdover port.val m frac hholdover
    refine ⟨?_, fun h => ⟨(hnear h).1.state_eq, (hnear h).2⟩, fun h => ⟨(hfar h).1.state_eq, (hfar h).2⟩⟩
    rcases le_or_gt (s.offsetNs port.val m frac).natAbs 256000 with h | h
    · exact (hnear h).1.beat_eq
    · exact (hfar h).1.beat_eq

/-- SYNC_RX at a Rooster: one of a newer pair demotes it and is then heard, any other is counted (11 R265, R274). -/
theorem syncRx_demotes (hrole : s.time.role = 0) : ∃ t, exec (.syncRx port m frac) s = .next t ∧
    (s.time.gen < m.gen ∨ (m.gen = s.time.gen ∧ m.roosterId < s.ownId) →
      t.time.role = 2 ∧ (t.time.gen = (s.time.gen + 1) % 2 ^ 28 ∨ t.time.gen = m.gen) ∧
      t.cntGet TimeCnt.roleChanges = min (s.cntGet TimeCnt.roleChanges + 1) 0xFFFFFFFF) ∧
    (¬ (s.time.gen < m.gen ∨ (m.gen = s.time.gen ∧ m.roosterId < s.ownId)) →
      t.time = s.time ∧ CountersKept [TimeCnt.syncRefused] s t ∧ OnlyChanges [.cnt] s t) := by
  refine ⟨_, exec_syncRx_of_here hok hfrac hup hcount hhere, fun hnewer => ?_, fun holder => ?_⟩
  · rw [if_pos hrole, if_pos ((newer_iff _ _).mpr hnewer)]
    obtain ⟨hdrole, hdgen, hdcount⟩ := s.demote_demotes
    obtain ⟨hhrole, hhgen, hhcount⟩ := s.demote.hearSync_keeps port.val m frac
    exact ⟨hhrole.trans hdrole, hhgen.imp_left (·.trans hdgen), hhcount.trans hdcount⟩
  · rw [if_pos hrole, if_neg fun h => holder ((newer_iff _ _).mp h)]
    exact ⟨rfl, countersKept_bump s _ 1, onlyChanges_bump s _ 1⟩

end Receive

/-- Settles O47: each time event of an instruction goes through the one function of the model that answers it, and what an accepted
SYNC leaves is one relation for all time states. -/
theorem syncIsSentAndAccepted : Obligations.SyncIsSentAndAccepted := by
  unfold Obligations.SyncIsSentAndAccepted
  refine ⟨fun s hcount => syncSend_sends hcount, fun port m frac s hok hfrac hup hcount => ⟨fun w hredirect hw => ?_, ?_⟩,
    fun port m frac s hok hfrac hup hcount hrole hhere => syncRx_demotes hok hfrac hup hcount hhere hrole⟩
  · exact ⟨_, exec_syncRx_of_redirect hok hfrac hup hcount hredirect hw, s.sendTime_hands w 1 m, s.sendTime_portsOnly w 1 m,
      s.sendTime_onlyChanges w 1 m⟩
  · exact fun hhere hrole => syncRx_hears hok hfrac hup hcount hhere hrole

end Sys2Proof.Machine
end

section
/-! PROOFS. Period starts, marks, gears, act starts and deadlines (11 R276, R277, 12 R287, R296): the entries that move the counters of
a plan. -/

namespace Sys2Proof.Machine

/-! ## The counter table (11 R275, 12 R296) -/

/-- `t` finds the counter table where `s` does, and it says the same there. -/
structure SameTable (s t : State) : Prop where
  base : t.plan.base = s.plan.base
  shared : t.plan.ctrShared = s.plan.ctrShared
  free : t.freeIdx = s.freeIdx
  mem : t.mem = s.mem
  geo : t.geo = s.geo

section Table

variable {s t : State} (h : SameTable s t)
include h

theorem SameTable.planNat (off n : Nat) : t.planNat off n = s.planNat off n := by
  rw [State.planNat, State.planNat, h.base]
  exact State.natAt_congr h.free fun i _ => by rw [State.stored, State.stored, h.mem]

theorem SameTable.ctrRunning (id : Nat) : t.ctrRunning id = s.ctrRunning id := by
  rw [State.ctrRunning, State.ctrRunning, State.secOff, State.secOff, h.planNat, h.planNat]

theorem SameTable.ctrPeriod (id : Nat) : t.ctrPeriod id = s.ctrPeriod id := by
  rw [State.ctrPeriod, State.ctrPeriod, h.shared, h.ctrRunning]

theorem SameTable.ctrAtHole (id : Nat) : t.ctrAtHole id = s.ctrAtHole id := by
  rw [State.ctrAtHole, State.ctrAtHole, State.unnumbered, State.unnumbered, h.geo]

/-- A counter away from a hole by its register, and by the repetition in hand where the period has one for all. -/
theorem SameTable.ctr {id : Nat} (hhole : s.ctrAtHole id = false) : t.ctr id =
    if s.ctrPeriod id then { Tab.get Ctr.zero t.plan.ctrs id with rep := t.plan.ctrRep % 2 ^ 16 }
    else Tab.get Ctr.zero t.plan.ctrs id := by
  rw [State.ctr, h.ctrAtHole, hhole, h.ctrPeriod]
  rfl

theorem SameTable.ctr_congr {id : Nat} (hget : Tab.get Ctr.zero t.plan.ctrs id = Tab.get Ctr.zero s.plan.ctrs id)
    (hrep : t.plan.ctrRep = s.plan.ctrRep) : t.ctr id = s.ctr id := by
  rw [State.ctr, State.ctr, h.ctrAtHole, h.ctrPeriod, hget, hrep]

end Table

theorem SameTable.refl (s : State) : SameTable s s := ⟨rfl, rfl, rfl, rfl, rfl⟩

theorem State.ctr_of_hole {s : State} {id : Nat} (h : s.ctrAtHole id = true) : s.ctr id = Ctr.zero := if_pos h

section Write

variable {s t : State} (h : SameTable s t) {id : Nat} {c : Ctr}
  (hctrs : t.plan.ctrs = Tab.set Ctr.zero s.plan.ctrs id (if s.ctrPeriod id then { c with rep := 0 } else c))
  (hrep : t.plan.ctrRep = s.plan.ctrRep)
include h hctrs hrep

/-- A counter written reads back, its repetition as it was where the period has one for all. -/
theorem SameTable.ctr_set_self (hhole : s.ctrAtHole id = false) (hc : c.rep = (s.ctr id).rep) : t.ctr id = c := by
  rw [h.ctr hhole, hctrs, Tab.get_set_self, hrep]
  cases hperiod : s.ctrPeriod id with
  | false => rfl
  | true =>
    have hctr : (s.ctr id).rep = s.plan.ctrRep % 2 ^ 16 := by
      rw [(SameTable.refl s).ctr hhole, hperiod]
      rfl
    rw [← hctr, ← hc]
    rfl

theorem SameTable.ctr_set_other {j : Nat} (hj : j ≠ id) : t.ctr j = s.ctr j :=
  h.ctr_congr (by rw [hctrs, Tab.get_set_ne _ _ _ _ _ hj]) hrep

end Write

/-! ## PERIOD_START (11 R276, 12 R287, R296) -/

/-- The running counters that stay, LATE cleared. -/
def runningOf (running : Nat → Bool) (t : Tab Ctr) : Tab Ctr :=
  ((t.filter (fun e => running e.1)).map (fun e => (e.1, { e.2 with late := false }))).filter (fun e => decide (e.2 ≠ Ctr.zero))

section RunningOf

variable {running : Nat → Bool} {t : Tab Ctr} {id : Nat}

theorem get_runningOf_stopped (h : running id = false) : Tab.get Ctr.zero (runningOf running t) id = Ctr.zero := by
  refine Tab.get_of_not_mem _ _ _ fun e he => ?_
  simp only [runningOf, List.mem_filter, List.mem_map] at he
  obtain ⟨⟨x, ⟨-, hx⟩, rfl⟩, -⟩ := he
  rintro rfl
  exact absurd hx (by simp [h])

theorem get_late_of_all (h : ∀ e ∈ t, e.2.late = false) : (Tab.get Ctr.zero t id).late = false := by
  induction t with
  | nil => rfl
  | cons e t ih =>
    obtain ⟨hhead, htail⟩ := List.forall_mem_cons.mp h
    rw [Tab.get]
    split
    · exact hhead
    · exact ih htail

theorem late_runningOf : (Tab.get Ctr.zero (runningOf running t) id).late = false := by
  refine get_late_of_all fun e he => ?_
  simp only [runningOf, List.mem_filter, List.mem_map] at he
  obtain ⟨⟨x, -, rfl⟩, -⟩ := he
  rfl

/-- A running counter that is more than zero without LATE keeps what else it holds. -/
theorem get_runningOf_running (h : running id = true) (hne : { Tab.get Ctr.zero t id with late := false } ≠ Ctr.zero) :
    Tab.get Ctr.zero (runningOf running t) id = { Tab.get Ctr.zero t id with late := false } := by
  induction t with
  | nil => exact absurd rfl hne
  | cons e t ih =>
    obtain ⟨j, c⟩ := e
    by_cases hj : j = id
    · subst hj
      have hc : { c with late := false } ≠ Ctr.zero := by simpa [Tab.get] using hne
      simp [runningOf, h, hc, Tab.get]
    · have htail := ih (by simpa [Tab.get, hj] using hne)
      have hskip : Tab.get Ctr.zero (runningOf running ((j, c) :: t)) id = Tab.get Ctr.zero (runningOf running t) id := by
        by_cases hr : running j = true
        · by_cases hz : { c with late := false } = Ctr.zero
          · simp [runningOf, hr, hz]
          · simp [runningOf, hr, hz, Tab.get, hj]
        · simp [runningOf, hr]
      rw [hskip, htail]
      simp [Tab.get, hj]

end RunningOf

/-- A stream that has ended a repetition that has begun opens again (12 R287). -/
def State.opened (s : State) (t : Stream) : Stream := if t.closed && s.repBegun t.rep then s.openStream t else t

def State.openDue (s : State) (u : Nat) : State :=
  let t := s.stream u
  if t.closed && s.repBegun t.rep then s.setStream u (s.openStream t) else s

theorem State.openDue_plan (s : State) (u : Nat) : (s.openDue u).plan = s.plan := by
  unfold State.openDue
  dsimp only
  split
  · rfl
  · rfl

theorem State.stream_openDue (s : State) (u v : Nat) : (s.openDue u).stream v = if v = u then s.opened (s.stream v) else s.stream v := by
  unfold State.openDue State.opened
  dsimp only
  split
  next hopen =>
    rw [State.stream_setStream]
    split
    next hv => rw [hv, if_pos hopen]
    next => rfl
  next hshut =>
    split
    next hv => rw [hv, if_neg hshut]
    next => rfl

theorem State.openDue_onlyChanges (s : State) (u : Nat) : OnlyChanges [.unit] s (s.openDue u) := by
  unfold State.openDue
  dsimp only
  split
  · simp [onlyChanges_iff]
  · exact .refl _ s

/-- The first `n` streams opened where they are due, by what the plan says beforehand. -/
theorem State.openDues_open (s : State) (n : Nat) : ((List.range n).foldl State.openDue s).plan = s.plan ∧
    OnlyChanges [.unit] s ((List.range n).foldl State.openDue s) ∧
    ∀ v, ((List.range n).foldl State.openDue s).stream v = if v < n then s.opened (s.stream v) else s.stream v := by
  induction n with
  | zero => exact ⟨rfl, .refl _ s, fun v => rfl⟩
  | succ n ih =>
    obtain ⟨hplan, honly, hstream⟩ := ih
    rw [List.range_succ, List.foldl_append]
    generalize (List.range n).foldl State.openDue s = r at hplan honly hstream
    have hopened (t : Stream) : r.opened t = s.opened t := congrArg (fun p => State.opened { s with plan := p } t) hplan
    refine ⟨(r.openDue_plan n).trans hplan, honly.trans (r.openDue_onlyChanges n) (by simp) (by simp), fun v => ?_⟩
    change (r.openDue n).stream v = _
    rw [State.stream_openDue, hopened, hstream]
    rcases Nat.lt_trichotomy v n with hv | rfl | hv
    · rw [if_neg (by omega), if_pos hv, if_pos (by omega)]
    · rw [if_pos rfl, if_neg (by omega), if_pos (by omega)]
    · rw [if_neg (by omega), if_neg (by omega), if_neg (by omega)]

/-- The state at the first beat of repetition `n`, before its streams open. -/
def State.periodBegun (s : State) (n : Nat) : State :=
  { s.resetPeriod n with plan.started := true, plan.repNow := n, plan.nextRep := n + 1, plan.next := 0 }

section PeriodBegun

variable (s : State) (n : Nat)

theorem State.ctrs_periodBegun : (s.periodBegun n).plan.ctrs = runningOf s.ctrRunning s.plan.ctrs := rfl

theorem State.periodBegun_onlyChanges : OnlyChanges [.plan] s (s.periodBegun n) := by simp [State.periodBegun, onlyChanges_iff]

theorem State.opened_periodBegun (t : Stream) : (s.periodBegun n).opened t =
    if t.closed = true ∧ t.rep ≤ n then { t with closed := false, variant := s.plan.variant, pos := 0, jumpAt := 0, jumpTo := 0 } else t := by
  have hopen : (t.closed && (s.periodBegun n).repBegun t.rep) = true ↔ t.closed = true ∧ t.rep ≤ n := by
    simp [State.repBegun, State.periodBegun]
  simp only [State.opened, hopen]
  rfl

end PeriodBegun

section PeriodStart

variable {s : State} (hrun : s.planRuns = true) (hmore : s.repeats = 0 ∨ s.plan.nextRep < s.repeats)
  (hbeat : s.repStart s.plan.nextRep ≤ s.time.beat) (hlast : s.plan.started = false ∨ s.ttCount ≤ s.plan.next)
include hrun hmore hbeat hlast

theorem exec_periodStart : exec .periodStart s = .next ((List.range 226).foldl State.openDue (s.periodBegun s.plan.nextRep)) := by
  have hlast' : (!s.plan.started || decide (s.ttCount ≤ s.plan.next)) = true := by simpa using hlast
  have hmore' : (decide (s.repeats = 0) || decide (s.plan.nextRep < s.repeats)) = true := by simpa using hmore
  exact if_pos (by rw [hrun, hmore', hlast', decide_eq_true hbeat]; rfl)

theorem periodStart_begins : ∃ t, exec .periodStart s = .next t ∧ t.plan.started = true ∧ t.plan.repNow = s.plan.nextRep ∧
    t.plan.nextRep = s.plan.nextRep + 1 ∧ t.plan.next = 0 ∧
    (∀ id, s.plan.ctrShared = true → s.ctrRunning id = false → s.ctrAtHole id = false →
      t.ctr id = { value := 0, rep := s.plan.nextRep % 2 ^ 16, shortfall := 0, late := false }) ∧
    (∀ id, s.ctrRunning id = true → (t.ctr id).late = false ∧
      ({ s.ctr id with late := false } ≠ Ctr.zero → t.ctr id = { s.ctr id with late := false })) ∧
    (∀ u, u < 226 → t.stream u = if (s.stream u).closed = true ∧ (s.stream u).rep ≤ s.plan.nextRep then
      { s.stream u with closed := false, variant := s.plan.variant, pos := 0, jumpAt := 0, jumpTo := 0 } else s.stream u) ∧
    OnlyChanges [.plan, .unit] s t := by
  refine ⟨_, exec_periodStart hrun hmore hbeat hlast, ?_⟩
  obtain ⟨hplan, honly, hstream⟩ := (s.periodBegun s.plan.nextRep).openDues_open 226
  generalize (List.range 226).foldl State.openDue (s.periodBegun s.plan.nextRep) = t at hplan honly hstream
  have hchanged : OnlyChanges [.plan, .unit] s t := (s.periodBegun_onlyChanges _).trans honly (by simp) (by simp)
  have htable : SameTable s t := ⟨by rw [hplan]; rfl, by rw [hplan]; rfl, hchanged .free (by simp), hchanged .mem (by simp),
    hchanged .geo (by simp)⟩
  have hctrs : t.plan.ctrs = runningOf s.ctrRunning s.plan.ctrs := by rw [hplan, s.ctrs_periodBegun]
  have hrep : t.plan.ctrRep = s.plan.nextRep := by rw [hplan]; rfl
  refine ⟨by rw [hplan]; rfl, by rw [hplan]; rfl, by rw [hplan]; rfl, by rw [hplan]; rfl, fun id hshared hstop hhole => ?_,
    fun id hrunning => ?_, fun u hu => ?_, hchanged⟩
  · have hperiod : s.ctrPeriod id = true := by rw [State.ctrPeriod, hshared, hstop]; rfl
    rw [htable.ctr hhole, hperiod, hctrs, get_runningOf_stopped hstop, hrep]
    rfl
  · have hperiod : s.ctrPeriod id = false := by rw [State.ctrPeriod, hrunning, Bool.not_true, Bool.and_false]
    cases hhole : s.ctrAtHole id with
    | true =>
      rw [State.ctr_of_hole hhole, State.ctr_of_hole ((htable.ctrAtHole id).trans hhole)]
      exact ⟨rfl, fun _ => rfl⟩
    | false =>
      rw [htable.ctr hhole, (SameTable.refl s).ctr hhole, hperiod, hctrs]
      exact ⟨late_runningOf, get_runningOf_running hrunning⟩
  · rw [hstream, if_pos hu, State.opened_periodBegun]
    rfl

end PeriodStart

/-! ## A signal (11 R277, 12 R297) -/

/-- A signal of repetition `rep` is stale for counter `id`. -/
def State.stale (s : State) (id : Nat) (rep : Option Nat) : Bool :=
  !s.ctrRunning id && (match rep with
    | some n => decide ((s.ctr id).rep ≠ n % 2 ^ 16)
    | none => false)

/-- What of `inc` makes up for the shortfall of counter `id`. -/
def State.covers (s : State) (id inc : Nat) : Nat := Nat.min (s.ctr id).shortfall inc

/-- Counter `id` moved by `inc`, after what makes up for its shortfall. -/
def State.moved (s : State) (id inc : Nat) : State :=
  s.setCtr id { s.ctr id with
    value := ((s.ctr id).value + (inc - s.covers id inc)) % 2 ^ 32
    shortfall := (s.ctr id).shortfall - s.covers id inc }

theorem State.applySignal_eq (s : State) (id inc : Nat) (rep : Option Nat) : s.applySignal id inc rep =
    if id = noCtr then s
    else if s.stale id rep then s.bump PlanCnt.staleSignals 1
    else if s.covers id inc = 0 then s.moved id inc
    else if (s.ctr id).shortfall = s.covers id inc then ((s.moved id inc).bump TimeCnt.lateSignals 1).discardLate id
    else (s.moved id inc).bump TimeCnt.lateSignals 1 := rfl

/-- `r` is at entry `k` of the plan, and else at what `s` is at, as far as a signal reads. -/
structure Ahead (k : Nat) (s r : State) : Prop where
  plan : r.plan = { s.plan with next := k }
  free : r.freeIdx = s.freeIdx
  mem : r.mem = s.mem
  geo : r.geo = s.geo

section Ahead

variable {k : Nat} {s r : State} (h : Ahead k s r)
include h

theorem Ahead.table : SameTable s r := ⟨by rw [h.plan], by rw [h.plan], h.free, h.mem, h.geo⟩

theorem Ahead.ctr (id : Nat) : r.ctr id = s.ctr id := h.table.ctr_congr (by rw [h.plan]) (by rw [h.plan])

theorem Ahead.stale (id : Nat) (rep : Option Nat) : r.stale id rep = s.stale id rep := by
  unfold State.stale
  rw [h.ctr, h.table.ctrRunning]

theorem Ahead.covers (id inc : Nat) : r.covers id inc = s.covers id inc := by rw [State.covers, State.covers, h.ctr]

theorem Ahead.bump (key n : Nat) : Ahead k (s.bump key n) (r.bump key n) := ⟨h.plan, h.free, h.mem, h.geo⟩

theorem Ahead.setCtr (id : Nat) (c : Ctr) : Ahead k (s.setCtr id c) (r.setCtr id c) := by
  refine ⟨?_, by simpa using h.free, by simpa using h.mem, by simpa using h.geo⟩
  rw [State.setCtr, State.setCtr, h.table.ctrPeriod, h.plan]

theorem Ahead.moved (id inc : Nat) : Ahead k (s.moved id inc) (r.moved id inc) := by
  rw [State.moved, State.moved, h.covers, h.ctr]
  exact h.setCtr id _

theorem Ahead.dropLate (trailer : Bool) : Ahead k (s.dropLate trailer) (r.dropLate trailer) := by
  cases trailer with
  | true => exact h.bump HealthCnt.droppedTrailers 1
  | false =>
    refine ⟨?_, h.free, h.mem, h.geo⟩
    change { r.plan with droppedNow := r.plan.droppedNow + 1 } = _
    rw [h.plan]
    rfl

omit h in
theorem Ahead.dropLates (l : List Carry) (h : Ahead k s r) :
    Ahead k (l.foldl (fun s y => s.dropLate y.trailer) s) (l.foldl (fun s y => s.dropLate y.trailer) r) := by
  induction l generalizing s r with
  | nil => exact h
  | cons y l ih => exact ih (h.dropLate y.trailer)

theorem Ahead.discardLate (id : Nat) : Ahead k (s.discardLate id) (r.discardLate id) := by
  rw [State.discardLate, State.discardLate, h.plan]
  exact Ahead.dropLates _ ⟨rfl, h.free, h.mem, h.geo⟩

theorem Ahead.applySignal (id inc : Nat) (rep : Option Nat) : Ahead k (s.applySignal id inc rep) (r.applySignal id inc rep) := by
  rw [State.applySignal_eq, State.applySignal_eq, h.stale, h.covers, h.ctr]
  split
  · exact h
  · split
    · exact h.bump _ _
    · split
      · exact h.moved id inc
      · split
        · exact ((h.moved id inc).bump _ _).discardLate id
        · exact (h.moved id inc).bump _ _

end Ahead

/-- The counters that a signal may raise (11 Table 11-5, 12 Table 12-11). -/
def signalCounters : List Nat := [PlanCnt.staleSignals, TimeCnt.lateSignals, PlanCnt.droppedLate, HealthCnt.droppedTrailers]

theorem State.dropLate_countersKept (s : State) (trailer : Bool) : CountersKept signalCounters s (s.dropLate trailer) := by
  cases trailer with
  | true => exact (countersKept_bump s HealthCnt.droppedTrailers 1).mono (by decide)
  | false => exact (countersKept_bump s PlanCnt.droppedLate 1).mono (by decide)

theorem State.dropLates_countersKept (l : List Carry) (s : State) :
    CountersKept signalCounters s (l.foldl (fun s y => s.dropLate y.trailer) s) := by
  induction l generalizing s with
  | nil => exact fun _ _ => rfl
  | cons y l ih => exact (s.dropLate_countersKept y.trailer).trans (ih _)

theorem State.discardLate_countersKept (s : State) (id : Nat) : CountersKept signalCounters s (s.discardLate id) :=
  State.dropLates_countersKept _ _

theorem State.applySignal_countersKept (s : State) (id inc : Nat) (rep : Option Nat) :
    CountersKept signalCounters s (s.applySignal id inc rep) := by
  have hmoved : CountersKept signalCounters s (s.moved id inc) := countersKept_of_cnt (by simp [State.moved]) _
  have hlate (r : State) : CountersKept signalCounters r (r.bump TimeCnt.lateSignals 1) :=
    (countersKept_bump r TimeCnt.lateSignals 1).mono (by decide)
  rw [State.applySignal_eq]
  split
  · exact fun _ _ => rfl
  · split
    · exact (countersKept_bump s PlanCnt.staleSignals 1).mono (by decide)
    · split
      · exact hmoved
      · split
        · exact (hmoved.trans (hlate _)).trans (State.discardLate_countersKept _ id)
        · exact hmoved.trans (hlate _)

/-! ## An entry done (11 R276) -/

/-- The plan of `s` counts on to the next entry after `e`, and the counter of `e` is signalled where `e` says so. -/
def Fires (s : State) (e : Entry) (t : State) : Prop :=
  t.plan.next = s.plan.next + 1 ∧ (e.sig = false → t.plan = { s.plan with next := s.plan.next + 1 }) ∧
  (e.sig = true → t.plan = { (s.applySignal e.ctr 1 (some s.plan.repNow)).plan with next := s.plan.next + 1 })

section EntryDone

variable (s : State) (e : Entry)

theorem State.entryDone_quiet (h : e.sig = false) : s.entryDone e = { s with plan.next := s.plan.next + 1 } := by
  rw [State.entryDone, h]
  rfl

theorem State.entryDone_signals (h : e.sig = true) : s.entryDone e =
    ({ s with plan.next := s.plan.next + 1 } : State).applySignal e.ctr 1 (some s.plan.repNow) := by
  rw [State.entryDone, h]
  rfl

theorem State.entryDone_countersKept : CountersKept signalCounters s (s.entryDone e) := by
  cases h : e.sig with
  | false =>
    rw [s.entryDone_quiet e h]
    exact fun _ _ => rfl
  | true =>
    rw [s.entryDone_signals e h]
    exact State.applySignal_countersKept { s with plan.next := s.plan.next + 1 } _ _ _

theorem State.loaded_entryDone : (s.entryDone e).plan.loaded = s.plan.loaded := by
  cases h : e.sig with
  | false => rw [s.entryDone_quiet e h]
  | true =>
    rw [s.entryDone_signals e h]
    exact congrArg Prod.fst (State.expView_applySignal { s with plan.next := s.plan.next + 1 } _ _ _)

/-- An entry done on a state that differs from `s` in nothing that a signal reads. -/
theorem State.entryDone_fires {r : State} (hplan : r.plan = s.plan) (hfree : r.freeIdx = s.freeIdx) (hmem : r.mem = s.mem)
    (hgeo : r.geo = s.geo) : Fires s e (r.entryDone e) := by
  have hahead : Ahead (s.plan.next + 1) s ({ r with plan.next := r.plan.next + 1 } : State) := by
    refine ⟨?_, hfree, hmem, hgeo⟩
    rw [← hplan]
  have hquiet (h : e.sig = false) : (r.entryDone e).plan = { s.plan with next := s.plan.next + 1 } := by
    rw [r.entryDone_quiet e h]
    exact hahead.plan
  have hsignal (h : e.sig = true) :
      (r.entryDone e).plan = { (s.applySignal e.ctr 1 (some s.plan.repNow)).plan with next := s.plan.next + 1 } := by
    have hrep : r.plan.repNow = s.plan.repNow := by rw [hplan]
    rw [r.entryDone_signals e h, hrep]
    exact (hahead.applySignal e.ctr 1 (some s.plan.repNow)).plan
  refine ⟨?_, hquiet, hsignal⟩
  cases h : e.sig with
  | false => rw [hquiet h]
  | true => rw [hsignal h]

end EntryDone

/-! ## MARK, GEAR and ACT_START (14 R336, 20 R488) -/

/-- A GEAR entry sets the request of the half `h` if it names it. -/
def State.requestGear (s : State) (e : Entry) (h : Nat) : State :=
  if bit e.arg (2 + h) then s.setHalf h { s.half h with req := e.arg % 4 } else s

theorem State.half_requestGear_self (s : State) (e : Entry) (h : Nat) : (s.requestGear e h).half h =
    { s.half h with req := if bit e.arg (2 + h) then e.arg % 4 else (s.half h).req } := by
  unfold State.requestGear
  split
  · rw [State.half_setHalf_self]
  · rfl

theorem State.half_requestGear_other (s : State) (e : Entry) {h j : Nat} (hh : h < 2) (hj : j < 2) (hne : j ≠ h) :
    (s.requestGear e h).half j = s.half j := by
  unfold State.requestGear
  split
  · exact s.half_setHalf_other hh hj hne _
  · rfl

theorem State.requestGear_onlyChanges (s : State) (e : Entry) (h : Nat) : OnlyChanges [.pwr] s (s.requestGear e h) := by
  unfold State.requestGear
  split
  · exact s.setHalf_onlyChanges h _
  · exact .refl _ s

/-- The state with both halves' requests as a GEAR entry sets them. -/
def State.geared (s : State) (e : Entry) : State := (s.requestGear e 0).requestGear e 1

theorem State.geared_onlyChanges (s : State) (e : Entry) : OnlyChanges [.pwr] s (s.geared e) :=
  (s.requestGear_onlyChanges e 0).trans (State.requestGear_onlyChanges _ e 1) (by simp) (by simp)

theorem State.half_geared (s : State) (e : Entry) {h : Nat} (hh : h < 2) : (s.geared e).half h =
    { s.half h with req := if bit e.arg (2 + h) then e.arg % 4 else (s.half h).req } := by
  obtain rfl | rfl : h = 0 ∨ h = 1 := by omega
  · exact (State.half_requestGear_other _ e (by decide) (by decide) (by decide)).trans (s.half_requestGear_self e 0)
  · rw [State.geared, State.half_requestGear_self, s.half_requestGear_other e (by decide) (by decide) (by decide)]

section Entries

variable {i : Nat} {e : Entry} {s : State}

theorem mark_fires (hdue : s.dueKind 0x0A = some (i, e)) : ∃ t, exec .mark s = .next t ∧ Fires s e t ∧ OnlyChanges [.plan, .cnt] s t := by
  have hexec : exec .mark s = .next (s.entryDone e) := by
    change execMark s = _
    rw [execMark, hdue]
  exact ⟨_, hexec, s.entryDone_fires e rfl rfl rfl rfl, by simp [onlyChanges_iff]⟩

theorem gear_fires (hdue : s.dueKind 0x07 = some (i, e)) : ∃ t, exec .gear s = .next t ∧ Fires s e t ∧
    OnlyChanges [.plan, .cnt, .pwr] s t ∧
    (∀ h, h < 2 → (t.half h).req = (if bit e.arg (2 + h) then e.arg % 4 else (s.half h).req) ∧
      (t.half h).hostCeil = (s.half h).hostCeil ∧ t.wantGear h ≤ (t.half h).gear) := by
  have hexec : exec .gear s = .next ((s.geared e).applyGears.entryDone e) := by
    change execGear s = _
    rw [execGear, hdue]
    rfl
  have hfollow := (s.geared e).applyGears_follow
  have honly : OnlyChanges [.pwr, .cnt] s (s.geared e).applyGears := (s.geared_onlyChanges e).trans hfollow.only (by simp) (by simp)
  generalize (s.geared e).applyGears = r at hexec hfollow honly
  refine ⟨_, hexec, s.entryDone_fires e (honly .plan (by simp)) (honly .free (by simp)) (honly .mem (by simp)) (honly .geo (by simp)),
    honly.trans (m := [.plan, .cnt]) (by simp [onlyChanges_iff]) (by simp) (by simp), fun h hh => ?_⟩
  have hhalf : (r.entryDone e).half h = r.half h := by simp [State.half]
  have hhfollow := hfollow.follows h (by simp; omega)
  have hsettings := hhfollow.settings
  have hplan : r.plan = (s.geared e).plan := hfollow.only .plan (by simp)
  have hdev : (r.entryDone e).dev = (s.geared e).dev := (r.entryDone_frame e).2.2.2.1.trans (hfollow.only .dev (by simp))
  have hwant : (r.entryDone e).wantGear h = (s.geared e).wantGear h :=
    State.wantGear_congr hdev (by rw [r.loaded_entryDone, hplan]) (by rw [hhalf, hsettings])
  rw [s.half_geared e hh] at hsettings
  rw [hwant, hhalf]
  exact ⟨(congrArg HalfPower.req hsettings :), (congrArg HalfPower.hostCeil hsettings :), hhfollow.wanted_le⟩

theorem actStart_fires (hdue : s.dueKind 0x08 = some (i, e)) : ∃ t, exec .actStart s = .next t ∧ Fires s e t ∧
    t.acts = { s.acts with act := e.arg % 4 + 1, rep := s.plan.repNow % 2 ^ 16 } ∧
    t.cntGet ActCnt.actsOpened = min (s.cntGet ActCnt.actsOpened + 1) 0xFFFFFFFF ∧ OnlyChanges [.plan, .cnt, .acts] s t := by
  let r := ({ s with acts.act := e.arg % 4 + 1, acts.rep := s.plan.repNow % 2 ^ 16 } : State).bump ActCnt.actsOpened 1
  have hexec : exec .actStart s = .next (r.entryDone e) := by
    change execActStart s = _
    rw [execActStart, hdue]
  refine ⟨_, hexec, s.entryDone_fires e rfl rfl rfl rfl, by simp [r], ?_, by simp [r, onlyChanges_iff]⟩
  rw [r.entryDone_countersKept e ActCnt.actsOpened (by decide)]
  exact State.cntGet_bump_narrow _ (key := ActCnt.actsOpened) rfl 1

end Entries

/-! ## DEADLINE (11 R277, 12 R308, 15 R386) -/

theorem State.plan_abandonCarry (s : State) (y : Carry) : ∃ dropped, (s.abandonCarry y).plan =
    { s.plan with carries := s.plan.carries.filter (fun x => x != y), droppedNow := dropped } := by
  rw [State.abandonCarry]
  cases y.trailer with
  | true => exact ⟨_, rfl⟩
  | false => exact ⟨_, rfl⟩

/-- Abandoned carries leave the list; what else they change of the plan is the step's tally of dropped contributions. -/
theorem State.plan_abandonCarries (s : State) (l : List Carry) : ∃ dropped, (l.foldl (fun s y => s.abandonCarry y) s).plan =
    { s.plan with carries := s.plan.carries.filter (fun x => decide (x ∉ l)), droppedNow := dropped } := by
  induction l generalizing s with
  | nil => exact ⟨s.plan.droppedNow, by simp⟩
  | cons y l ih =>
    obtain ⟨d, hy⟩ := s.plan_abandonCarry y
    obtain ⟨dropped, hl⟩ := ih (s.abandonCarry y)
    refine ⟨dropped, ?_⟩
    rw [List.foldl_cons, hl, hy]
    have hfilter (x : Carry) : (decide (x ∉ l) && (x != y)) = decide (x ∉ y :: l) := by
      by_cases hx : x = y <;> simp [hx]
    simp only [List.filter_filter, hfilter]

theorem carryAbandon_ne_lateDeadlines (port : Nat) : TimeCnt.lateDeadlines ≠ LinkCnt.carryAbandon port := by
  unfold TimeCnt.lateDeadlines LinkCnt.carryAbandon cntKey
  omega

theorem State.lateDeadlines_abandonCarry (s : State) (y : Carry) :
    (s.abandonCarry y).cntGet TimeCnt.lateDeadlines = s.cntGet TimeCnt.lateDeadlines := by
  rw [State.abandonCarry, State.dropLate_countersKept _ y.trailer _ (by decide),
    State.cntGet_bump_ne _ (carryAbandon_ne_lateDeadlines y.port)]
  rfl

/-- The carries on counter `id` whose copy has not begun (15 R386). -/
def State.uncopiedOn (s : State) (id : Nat) : List Carry := s.plan.carries.filter (fun y => y.ctr == id && !y.copied && !y.drop)

/-- A fenced unit has a command that signals counter `id`, in any variant of its stream. -/
def State.fencedSignals (s : State) (id : Nat) : Bool := (List.range 210).any (fun u => s.unitFenced u && s.signals u id)

/-- Counter `id` raised to the target `g` that it has not reached. -/
def State.raisedCtr (s : State) (id g : Nat) : Ctr :=
  { s.ctr id with value := g % 2 ^ 32, shortfall := ((s.ctr id).shortfall + (g + 2 ^ 32 - (s.ctr id).value) % 2 ^ 32) % 2 ^ 32, late := true }

section FallShort

variable (s : State) (i id g : Nat)

/-- The state with the late event of entry `i` noted and its counter raised. -/
def State.raised : State :=
  (({ s with plan.lateEvents := s.plan.lateEvents ++
      [{ entry := i, rep := s.plan.repNow, shortfall := (g + 2 ^ 32 - (s.ctr id).value) % 2 ^ 32 }] } : State).setCtr id
    (s.raisedCtr id g)).bump TimeCnt.lateDeadlines 1

theorem State.fallShort_eq : s.fallShort i id g = (s.uncopiedOn id).foldl (fun s y => s.abandonCarry y)
    (if s.fencedSignals id then (s.raised i id g).setHealth hMissing else s.raised i id g) := rfl

theorem State.plan_fallShort : ∃ dropped, (s.fallShort i id g).plan =
    { s.plan with
      lateEvents := s.plan.lateEvents ++ [{ entry := i, rep := s.plan.repNow, shortfall := (g + 2 ^ 32 - (s.ctr id).value) % 2 ^ 32 }]
      ctrs := (s.setCtr id (s.raisedCtr id g)).plan.ctrs
      health := if s.fencedSignals id then s.plan.health ||| hMissing else s.plan.health
      carries := s.plan.carries.filter (fun x => decide (x ∉ s.uncopiedOn id))
      droppedNow := dropped } := by
  rw [State.fallShort_eq]
  obtain ⟨dropped, hplan⟩ := State.plan_abandonCarries
    (if s.fencedSignals id then (s.raised i id g).setHealth hMissing else s.raised i id g) (s.uncopiedOn id)
  refine ⟨dropped, hplan.trans ?_⟩
  split
  · rfl
  · rfl

theorem State.lateDeadlines_fallShort :
    (s.fallShort i id g).cntGet TimeCnt.lateDeadlines = min (s.cntGet TimeCnt.lateDeadlines + 1) 0xFFFFFFFF := by
  rw [State.fallShort_eq]
  refine (foldl_keeps (fun r => r.cntGet TimeCnt.lateDeadlines) _ (fun r y => r.lateDeadlines_abandonCarry y) _ _).trans ?_
  split
  · exact State.cntGet_bump_narrow _ (key := TimeCnt.lateDeadlines) rfl 1
  · exact State.cntGet_bump_narrow _ (key := TimeCnt.lateDeadlines) rfl 1

theorem State.mem_uncopiedOn (y : Carry) :
    y ∈ s.uncopiedOn id ↔ y ∈ s.plan.carries ∧ ¬ (y.ctr ≠ id ∨ y.copied = true ∨ y.drop = true) := by
  simp [State.uncopiedOn, and_assoc]

end FallShort

theorem bit_setMissing (v : Nat) (b : Bool) : bit (if b then v ||| hMissing else v) 2 = (bit v 2 || b) := by
  cases b with
  | false => exact (Bool.or_false _).symm
  | true =>
    rw [if_pos rfl, bit, Nat.testBit_or, Bool.or_true]
    exact Bool.or_true _

section Falls

variable {s : State} {i id g : Nat} (hhole : s.ctrAtHole id = false)
include hhole

/-- What a counter short of its target leaves, its entry done (11 R277). -/
theorem fallShort_next_falls : let t := { s.fallShort i id g with plan.next := (s.fallShort i id g).plan.next + 1 }
    t.ctr id = s.raisedCtr id g ∧ (∀ j, j ≠ id → t.ctr j = s.ctr j) ∧
    t.cntGet TimeCnt.lateDeadlines = min (s.cntGet TimeCnt.lateDeadlines + 1) 0xFFFFFFFF ∧
    bit t.plan.health 2 = (bit s.plan.health 2 || s.fencedSignals id) ∧
    t.plan.lateEvents = s.plan.lateEvents ++
      [{ entry := i, rep := s.plan.repNow, shortfall := (g + 2 ^ 32 - (s.ctr id).value) % 2 ^ 32 }] ∧
    (∀ y, y ∈ t.plan.carries ↔ y ∈ s.plan.carries ∧ (y.ctr ≠ id ∨ y.copied = true ∨ y.drop = true)) ∧
    OnlyChanges [.plan, .cnt] s t := by
  obtain ⟨dropped, hplan⟩ := s.plan_fallShort i id g
  have hcount := s.lateDeadlines_fallShort i id g
  have honly : OnlyChanges [.plan, .cnt] s (s.fallShort i id g) := by simp [onlyChanges_iff]
  generalize s.fallShort i id g = r at hplan hcount honly
  have htable : SameTable s { r with plan.next := r.plan.next + 1 } :=
    ⟨by rw [hplan], by rw [hplan], honly .free (by simp), honly .mem (by simp), honly .geo (by simp)⟩
  have hctrs : r.plan.ctrs = (s.setCtr id (s.raisedCtr id g)).plan.ctrs := by rw [hplan]
  have hrep : r.plan.ctrRep = s.plan.ctrRep := by rw [hplan]
  have hhealth : bit r.plan.health 2 = (bit s.plan.health 2 || s.fencedSignals id) := by
    rw [hplan]
    exact bit_setMissing _ _
  have hevents : r.plan.lateEvents = s.plan.lateEvents ++
      [{ entry := i, rep := s.plan.repNow, shortfall := (g + 2 ^ 32 - (s.ctr id).value) % 2 ^ 32 }] := by rw [hplan]
  have hcarries (y : Carry) : y ∈ r.plan.carries ↔ y ∈ s.plan.carries ∧ (y.ctr ≠ id ∨ y.copied = true ∨ y.drop = true) := by
    rw [hplan, List.mem_filter, decide_eq_true_eq, s.mem_uncopiedOn, not_and, not_not]
    exact ⟨fun h => ⟨h.1, h.2 h.1⟩, fun h => ⟨h.1, fun _ => h.2⟩⟩
  exact ⟨htable.ctr_set_self hctrs hrep hhole rfl, fun j hj => htable.ctr_set_other hctrs hrep hj, hcount, hhealth, hevents, hcarries,
    honly.trans (m := [.plan]) (by simp [onlyChanges_iff]) (by simp) (by simp)⟩

end Falls

/-- The deadline's target as the repetition in hand moves it. -/
def State.goal (s : State) (e : Entry) : Nat := s.effTarget e.ctr e.target s.plan.repNow

section Deadline

variable {i : Nat} {e : Entry} {s : State} (hdue : s.dueKind 0x01 = some (i, e))
include hdue

theorem exec_deadline : exec .deadline s = .next
    ((if reached (s.ctr e.ctr).value (s.goal e) then s else s.fallShort i e.ctr (s.goal e)).entryDone e) := by
  change execDeadline s = _
  rw [execDeadline, hdue]
  rfl

variable (hsig : e.sig = false)
include hsig

theorem exec_deadline_reached (h : reached (s.ctr e.ctr).value (s.goal e) = true) :
    exec .deadline s = .next { s with plan.next := s.plan.next + 1 } := by
  rw [exec_deadline hdue, if_pos h, s.entryDone_quiet e hsig]

theorem exec_deadline_short (h : reached (s.ctr e.ctr).value (s.goal e) = false) :
    exec .deadline s = .next { s.fallShort i e.ctr (s.goal e) with plan.next := (s.fallShort i e.ctr (s.goal e)).plan.next + 1 } := by
  rw [exec_deadline hdue, if_neg (ne_true_of_eq_false h), State.entryDone_quiet _ e hsig]

theorem deadline_answers (hhole : s.ctrAtHole e.ctr = false) : ∃ t, exec .deadline s = .next t ∧ t.plan.next = s.plan.next + 1 ∧
    (reached (s.ctr e.ctr).value (s.goal e) = true →
      t.plan = { s.plan with next := s.plan.next + 1 } ∧ OnlyChanges [.plan] s t) ∧
    (reached (s.ctr e.ctr).value (s.goal e) = false →
      t.ctr e.ctr = { value := s.goal e % 2 ^ 32, rep := (s.ctr e.ctr).rep,
                      shortfall := ((s.ctr e.ctr).shortfall + (s.goal e + 2 ^ 32 - (s.ctr e.ctr).value) % 2 ^ 32) % 2 ^ 32, late := true } ∧
      (∀ id, id ≠ e.ctr → t.ctr id = s.ctr id) ∧
      t.cntGet TimeCnt.lateDeadlines = min (s.cntGet TimeCnt.lateDeadlines + 1) 0xFFFFFFFF ∧
      bit t.plan.health 2 = (bit s.plan.health 2 || s.fencedSignals e.ctr) ∧
      t.plan.lateEvents = s.plan.lateEvents ++
        [{ entry := i, rep := s.plan.repNow, shortfall := (s.goal e + 2 ^ 32 - (s.ctr e.ctr).value) % 2 ^ 32 }] ∧
      (∀ y, y ∈ t.plan.carries ↔ y ∈ s.plan.carries ∧ (y.ctr ≠ e.ctr ∨ y.copied = true ∨ y.drop = true)) ∧
      OnlyChanges [.plan, .cnt] s t) := by
  cases h : reached (s.ctr e.ctr).value (s.goal e) with
  | true => exact ⟨_, exec_deadline_reached hdue hsig h, rfl, fun _ => ⟨rfl, by simp [onlyChanges_iff]⟩, fun hshort => by simp at hshort⟩
  | false =>
    refine ⟨_, exec_deadline_short hdue hsig h, ?_, fun hreached => by simp at hreached, fun _ => ?_⟩
    · obtain ⟨dropped, hplan⟩ := s.plan_fallShort i e.ctr (s.goal e)
      rw [hplan]
    · exact fallShort_next_falls hhole

end Deadline

/-- Settles O57: the counters by one table that an entry leaves in place, a signal by what it reads, and a shortfall by the fields of
the plan that it changes. -/
theorem periodsAndDeadlines : Obligations.PeriodsAndDeadlines := by
  unfold Obligations.PeriodsAndDeadlines
  exact ⟨fun s hrun hmore hbeat hlast => periodStart_begins hrun hmore hbeat hlast,
    fun i e s => ⟨mark_fires, gear_fires, actStart_fires⟩, fun i e s hdue hsig hhole => deadline_answers hdue hsig hhole⟩

end Sys2Proof.Machine
end

section
/-! PROOFS. Signals and waits (11 R277, 12 R296 to R298, R310): what a signal leaves of its counter's shortfall, which late
contributions it lets arrive, and when a wait holds in serial arithmetic. -/

namespace Sys2Proof.Machine

/-! ## Late contributions dropped (12 R310) -/

/-- `t` is `s` with `n` gradient contributions more in the tally and the count of those dropped. -/
structure Drops (s t : State) (n : Nat) : Prop where
  plan : t.plan = { s.plan with droppedNow := s.plan.droppedNow + n }
  count : t.cntGet PlanCnt.droppedLate =
    if n = 0 then s.cntGet PlanCnt.droppedLate else min (s.cntGet PlanCnt.droppedLate + n) 0xFFFFFFFF
  kept : CountersKept [PlanCnt.droppedLate, HealthCnt.droppedTrailers] s t
  only : OnlyChanges [.plan, .cnt] s t

theorem Drops.refl (s : State) : Drops s s 0 := ⟨rfl, rfl, fun _ _ => rfl, .refl _ s⟩

theorem Drops.trans {s t r : State} {m n : Nat} (h : Drops s t m) (h' : Drops t r n) : Drops s r (m + n) := by
  refine ⟨by rw [h'.plan, h.plan, Nat.add_assoc], ?_, h.kept.trans h'.kept, h.only.trans h'.only (by simp) (by simp)⟩
  rw [h'.count, h.count]
  split <;> split <;> split <;> omega

theorem State.dropLate_drops (s : State) (trailer : Bool) : Drops s (s.dropLate trailer) (if trailer then 0 else 1) := by
  cases trailer with
  | true =>
    exact ⟨rfl, s.cntGet_bump_ne (by decide) 1, (countersKept_bump s _ 1).mono (by simp), (onlyChanges_bump s _ 1).mono (by simp)⟩
  | false =>
    exact ⟨rfl, s.cntGet_bump_narrow (key := PlanCnt.droppedLate) rfl 1,
      (countersKept_bump s PlanCnt.droppedLate 1).mono (by simp), by simp [State.dropLate, onlyChanges_iff]⟩

theorem State.dropLates_drops (l : List Carry) (s : State) :
    Drops s (l.foldl (fun s y => s.dropLate y.trailer) s) (l.filter (fun y => !y.trailer)).length := by
  induction l generalizing s with
  | nil => exact .refl s
  | cons y l ih =>
    have hone := s.dropLate_drops y.trailer
    have hrest := ih (s.dropLate y.trailer)
    have hlen : ((y :: l).filter (fun y => !y.trailer)).length =
        (if y.trailer then 0 else 1) + (l.filter (fun y => !y.trailer)).length := by
      cases h : y.trailer <;> simp [h, Nat.add_comm]
    rw [hlen]
    exact hone.trans hrest

/-- The gradient contributions among the late ones of counter `id` that are to be discarded. -/
theorem State.discardLate_drops (s : State) (id : Nat) :
    Drops { s with plan.carries := s.plan.carries.filter (fun y => !(y.drop && y.wait == id)) } (s.discardLate id)
      (s.plan.carries.filter (fun y => y.drop && y.wait == id && !y.trailer)).length := by
  have hcount : s.plan.carries.filter (fun y => y.drop && y.wait == id && !y.trailer) =
      (s.plan.carries.filter (fun y => y.drop && y.wait == id)).filter (fun y => !y.trailer) := by
    rw [List.filter_filter]
    exact List.filter_congr fun y _ => Bool.and_comm _ _
  rw [hcount]
  exact State.dropLates_drops _ _

/-! ## COUNTER_SIGNAL (12 R297, R310, 11 R277) -/

theorem exec_counterSignal {id inc : Nat} (hid : id < 2 ^ 15) (hinc : inc < 2 ^ 8) (rep : Option Nat) (s : State) :
    exec (.counterSignal id inc rep) s = .next (s.applySignal id inc rep) := by
  change execCounterSignal id inc rep s = _
  rw [execCounterSignal, checked_of_wellFormed (by simp [wellFormed, fits_of_lt hid, fits_of_lt hinc])]

theorem State.stale_iff (s : State) (id : Nat) (rep : Option Nat) :
    s.stale id rep = true ↔ s.ctrRunning id = false ∧ ∃ n, rep = some n ∧ (s.ctr id).rep ≠ n % 2 ^ 16 := by
  cases rep <;> simp [State.stale]

/-- What a signal that is not stale leaves of its counter. -/
def Ctr.signalled (c : Ctr) (inc : Nat) : Ctr :=
  { c with value := (c.value + (inc - c.shortfall)) % 2 ^ 32, shortfall := c.shortfall - inc }

section Signal

variable {s : State} {id inc : Nat} {rep : Option Nat}

theorem State.covers_eq (s : State) (id inc : Nat) : s.covers id inc = min (s.ctr id).shortfall inc := rfl

theorem State.moved_eq (s : State) (id inc : Nat) : s.moved id inc = s.setCtr id ((s.ctr id).signalled inc) := by
  have hvalue : inc - s.covers id inc = inc - (s.ctr id).shortfall := by rw [State.covers_eq]; omega
  have hshort : (s.ctr id).shortfall - s.covers id inc = (s.ctr id).shortfall - inc := by rw [State.covers_eq]; omega
  rw [State.moved, hvalue, hshort, Ctr.signalled]

theorem State.moved_onlyChanges (s : State) (id inc : Nat) : OnlyChanges [.plan] s (s.moved id inc) := by
  simp [State.moved, onlyChanges_iff]

/-- The signalled counter, and every other, whatever the signal does to the late contributions. -/
theorem State.ctr_of_moved {t : State} (hhole : s.ctrAtHole id = false) (honly : OnlyChanges [.plan, .cnt] s t)
    {carries : List Carry} {dropped : Nat}
    (hplan : t.plan = { (s.moved id inc).plan with carries := carries, droppedNow := dropped }) :
    t.ctr id = (s.ctr id).signalled inc ∧ ∀ j, j ≠ id → t.ctr j = s.ctr j := by
  have htable : SameTable s t :=
    ⟨by rw [hplan]; rfl, by rw [hplan]; rfl, honly .free (by simp), honly .mem (by simp), honly .geo (by simp)⟩
  have hset : t.plan.ctrs = Tab.set Ctr.zero s.plan.ctrs id
      (if s.ctrPeriod id then { (s.ctr id).signalled inc with rep := 0 } else (s.ctr id).signalled inc) := by
    rw [hplan, State.moved_eq]
    rfl
  have hrep : t.plan.ctrRep = s.plan.ctrRep := by rw [hplan]; rfl
  exact ⟨htable.ctr_set_self hset hrep hhole rfl, fun _ hj => htable.ctr_set_other hset hrep hj⟩

variable (hid : id ≠ noCtr)
include hid

theorem State.applySignal_stale (hstale : s.stale id rep = true) : s.applySignal id inc rep = s.bump PlanCnt.staleSignals 1 := by
  rw [State.applySignal_eq, if_neg hid, if_pos hstale]

variable (hfresh : ¬ s.stale id rep = true)
include hfresh

/-- A signal that makes up for nothing. -/
theorem State.applySignal_uncovering (h : (s.ctr id).shortfall = 0 ∨ inc = 0) : s.applySignal id inc rep = s.moved id inc := by
  rw [State.applySignal_eq, if_neg hid, if_neg hfresh, if_pos (by rw [State.covers_eq]; omega)]

/-- A signal that makes up for a part of a shortfall. -/
theorem State.applySignal_partial (hinc : inc ≠ 0) (h : inc < (s.ctr id).shortfall) :
    s.applySignal id inc rep = (s.moved id inc).bump TimeCnt.lateSignals 1 := by
  rw [State.applySignal_eq, if_neg hid, if_neg hfresh, State.covers_eq, if_neg (by omega), if_neg (by omega)]

/-- A signal that makes up for the rest of a shortfall. -/
theorem State.applySignal_whole (hshort : (s.ctr id).shortfall ≠ 0) (h : (s.ctr id).shortfall ≤ inc) :
    s.applySignal id inc rep = ((s.moved id inc).bump TimeCnt.lateSignals 1).discardLate id := by
  rw [State.applySignal_eq, if_neg hid, if_neg hfresh, State.covers_eq, if_neg (by omega), if_pos (by omega)]

end Signal
/-- The counters and the late contributions of `s` once a signal that is not stale has reached counter `id`. -/
structure Signalled (s t : State) (id inc : Nat) : Prop where
  ctr : t.ctr id = (s.ctr id).signalled inc
  others : ∀ j, j ≠ id → t.ctr j = s.ctr j
  late : if (s.ctr id).shortfall ≠ 0 ∧ inc ≠ 0 then
      t.cntGet TimeCnt.lateSignals = min (s.cntGet TimeCnt.lateSignals + 1) 0xFFFFFFFF ∧
      CountersKept [TimeCnt.lateSignals, PlanCnt.droppedLate, HealthCnt.droppedTrailers] s t
    else t.cnt = s.cnt
  waiting : inc < (s.ctr id).shortfall ∨ (s.ctr id).shortfall = 0 →
    t.plan.carries = s.plan.carries ∧ CountersKept [TimeCnt.lateSignals] s t
  arrived : (s.ctr id).shortfall ≠ 0 → (s.ctr id).shortfall ≤ inc →
    t.plan.carries = s.plan.carries.filter (fun y => !(y.drop && y.wait == id)) ∧
    ∀ n, n = (s.plan.carries.filter (fun y => y.drop && y.wait == id && !y.trailer)).length → 0 < n →
      t.cntGet PlanCnt.droppedLate = min (s.cntGet PlanCnt.droppedLate + n) 0xFFFFFFFF ∧
      t.plan.droppedNow = s.plan.droppedNow + n
  only : OnlyChanges [.plan, .cnt] s t

section Signal

variable {s : State} {id inc : Nat} {rep : Option Nat} (hhole : s.ctrAtHole id = false)
include hhole

theorem State.moved_signalled (h : (s.ctr id).shortfall = 0 ∨ inc = 0) : Signalled s (s.moved id inc) id inc := by
  have honly := (s.moved_onlyChanges id inc).mono (m := [.plan, .cnt]) (by simp)
  obtain ⟨hctr, hothers⟩ := State.ctr_of_moved hhole honly rfl
  have hcnt : (s.moved id inc).cnt = s.cnt := by simp [State.moved]
  exact ⟨hctr, hothers, by rwa [if_neg (by omega)], fun _ => ⟨rfl, countersKept_of_cnt hcnt _⟩,
    fun _ _ => by omega, honly⟩

theorem State.moved_late_signalled (hinc : inc ≠ 0) (h : inc < (s.ctr id).shortfall) :
    Signalled s ((s.moved id inc).bump TimeCnt.lateSignals 1) id inc := by
  have honly := (s.moved_onlyChanges id inc).trans (onlyChanges_bump _ TimeCnt.lateSignals 1) (n := [.plan, .cnt]) (by simp) (by simp)
  obtain ⟨hctr, hothers⟩ := State.ctr_of_moved hhole honly rfl
  have hcnt : CountersKept [TimeCnt.lateSignals] s ((s.moved id inc).bump TimeCnt.lateSignals 1) :=
    (countersKept_of_cnt (by simp [State.moved]) _).trans (countersKept_bump (s.moved id inc) _ 1)
  refine ⟨hctr, hothers, ?_, fun _ => ⟨rfl, hcnt⟩, fun _ _ => by omega, honly⟩
  rw [if_pos (by omega)]
  exact ⟨(s.moved id inc).cntGet_bump_narrow (key := TimeCnt.lateSignals) rfl 1, hcnt.mono (by simp)⟩

theorem State.moved_arrived_signalled (hshort : (s.ctr id).shortfall ≠ 0) (h : (s.ctr id).shortfall ≤ inc) :
    Signalled s (((s.moved id inc).bump TimeCnt.lateSignals 1).discardLate id) id inc := by
  have hdrops := State.discardLate_drops ((s.moved id inc).bump TimeCnt.lateSignals 1) id
  have hlate : (s.moved id inc).cntGet PlanCnt.droppedLate = s.cntGet PlanCnt.droppedLate := State.cntGet_of_cnt (by simp [State.moved]) _
  have hbump := countersKept_bump (s.moved id inc) TimeCnt.lateSignals 1
  have honly : OnlyChanges [.plan, .cnt] s (((s.moved id inc).bump TimeCnt.lateSignals 1).discardLate id) :=
    OnlyChanges.trans (by simp [State.moved, onlyChanges_iff]) hdrops.only (l := [.plan, .cnt]) (by simp) (by simp)
  obtain ⟨hctr, hothers⟩ := State.ctr_of_moved hhole honly hdrops.plan
  have hkept : CountersKept [TimeCnt.lateSignals, PlanCnt.droppedLate, HealthCnt.droppedTrailers] s
      (((s.moved id inc).bump TimeCnt.lateSignals 1).discardLate id) :=
    ((countersKept_of_cnt (by simp [State.moved]) _).trans (hbump.mono (by simp))).trans (hdrops.kept.mono (by simp))
  refine ⟨hctr, hothers, ?_, fun _ => by omega, fun _ _ => ⟨?_, ?_⟩, honly⟩
  · rw [if_pos (by omega)]
    refine ⟨?_, hkept⟩
    rw [hdrops.kept _ (by decide)]
    exact (s.moved id inc).cntGet_bump_narrow (key := TimeCnt.lateSignals) rfl 1
  · rw [hdrops.plan]
    rfl
  · rintro n rfl hn
    rw [hdrops.plan, hdrops.count]
    refine ⟨?_, rfl⟩
    rw [if_neg (by exact hn.ne')]
    exact congrArg (fun x => min (x + _) 0xFFFFFFFF) ((hbump PlanCnt.droppedLate (by decide)).trans hlate)

theorem State.applySignal_signalled (hid : id ≠ noCtr) (hfresh : ¬ s.stale id rep = true) :
    Signalled s (s.applySignal id inc rep) id inc := by
  by_cases hnone : (s.ctr id).shortfall = 0 ∨ inc = 0
  · rw [State.applySignal_uncovering hid hfresh hnone]
    exact State.moved_signalled hhole hnone
  · rw [not_or] at hnone
    rcases Nat.lt_or_ge inc (s.ctr id).shortfall with hlt | hge
    · rw [State.applySignal_partial hid hfresh hnone.2 hlt]
      exact State.moved_late_signalled hhole hnone.2 hlt
    · rw [State.applySignal_whole hid hfresh hnone.1 hge]
      exact State.moved_arrived_signalled hhole hnone.1 hge

end Signal

/-! ## Waits (12 R298) -/

theorem reached_iff {v : Nat} (t : Nat) (hv : v < 2 ^ 32) : reached v t = true ↔ ∃ k, k < 2 ^ 31 ∧ v = (t + k) % 2 ^ 32 := by
  rw [reached, decide_eq_true_eq]
  constructor
  · exact fun h => ⟨_, h, by omega⟩
  · rintro ⟨k, hk, rfl⟩
    omega

section Waits

variable {s : State} {id tgt m : Nat} (hid : id ≠ noCtr)
include hid

theorem State.waitHolds_running (h : s.ctrRunning id = true) :
    s.waitHolds id tgt m = reached (s.ctr id).value (s.effTarget id tgt m) := by
  rw [State.waitHolds, if_neg hid]
  exact if_pos h

/-- By how many repetitions the counter is ahead of the command, in serial arithmetic. -/
theorem State.waitHolds_period (h : s.ctrRunning id = false) : s.waitHolds id tgt m =
    if ((s.ctr id).rep + 2 ^ 16 - m % 2 ^ 16) % 2 ^ 16 = 0 then reached (s.ctr id).value tgt
    else decide (((s.ctr id).rep + 2 ^ 16 - m % 2 ^ 16) % 2 ^ 16 < 2 ^ 15) := by
  rw [State.waitHolds, if_neg hid, State.effTarget, h]
  rfl

end Waits

/-- Settles O43: a signal by how much of the shortfall it covers, a wait by how far the counter's repetition and value are ahead. -/
theorem signalsAndWaits : Obligations.SignalsAndWaits := by
  unfold Obligations.SignalsAndWaits
  refine ⟨fun id inc rep s hbound hinc hid hhole => ⟨_, exec_counterSignal hbound hinc rep s, fun hstale => ?_, fun hfresh => ?_⟩,
    fun id tgt m s hid htgt hvalue hrep => ⟨fun hrun => ?_, fun hper heq => ?_, fun hper => ?_, fun hper => ?_⟩⟩
  · rw [State.applySignal_stale hid ((s.stale_iff id rep).mpr hstale)]
    exact ⟨s.cntGet_bump_narrow rfl 1, countersKept_bump s _ 1, onlyChanges_bump s _ 1⟩
  · have h := State.applySignal_signalled (inc := inc) hhole hid (fun hs => hfresh ((s.stale_iff id rep).mp hs))
    rw [h.ctr]
    exact ⟨rfl, rfl, rfl, rfl, h.others, h.late, h.waiting, h.arrived, h.only⟩
  · rw [State.waitHolds_running hid hrun]
    exact reached_iff _ hvalue
  · rw [State.waitHolds_period hid hper, if_pos (by omega)]
    exact reached_iff tgt hvalue
  · rintro ⟨k, hpos, hk, hahead⟩
    rw [State.waitHolds_period hid hper, if_neg (by omega), decide_eq_true_eq]
    omega
  · rintro ⟨k, hpos, hk, hbehind⟩
    rw [State.waitHolds_period hid hper, if_neg (by omega), decide_eq_false_iff_not]
    omega

end Sys2Proof.Machine
end

section
/-! PROOFS. The completion of a unit command (12 R297): a command whose signal names no counter of the table's 2^15 may find its
counter's table entry in the status record that it has just written. -/

namespace Sys2Proof.Machine

theorem exec_commandComplete {u : Fin 226} {w : Waits} {s : State} {f : InFlight} {rest : List InFlight} (hok : w.ok u.val = true)
    (hpending : s.flt.pendingEntry = false) (hdone : s.doneHead u.val = some (f, rest)) : exec (.commandComplete u w) s =
    .next ((s.setStream u.val { s.stream u.val with flight := rest }).completeCmd u.val f w) := by
  change execCommandComplete u w s = _
  rw [execCommandComplete, checked_of_wellFormed (i := .commandComplete u w) hok]
  simp only [hpending, hdone]
  rfl

/-- A counter number whose entry, in a counter table at address 0, would lie at the start of Ox 0's scratchpad. -/
def strayCtr : Nat := 2 ^ 58

/-- A command of repetition 1 that signals `strayCtr` and has its status record at the start of Ox 0's scratchpad, with bit 31 set. -/
def strayCommand : InFlight :=
  { desc := 0, unit := 1, op := 0, rep := 1, beat := 0, cycles := 1, code := 0, capped := false, status := 2 ^ 31, statBits := 7,
    statKey := some (spaceKey (oxSpace 0) 0), bumps := [], sigId := strayCtr, sigInc := 1, outs := [], planCyc := 1, slackCyc := 0,
    slipped := false, gated := false, work := none, solo := false, nonfin := none, tap := none, release := [] }

def noWaits : Waits := { stall := 0, outStall := 0, both := 0, token := 0, ack := 0 }

/-- The reset state with that command in progress on stream 0. -/
def strayStream : State :=
  { State.reset with unit := { State.reset.unit with streams := [(0, { Stream.idle with flight := [strayCommand] })] } }

theorem strayStream_flight : (strayStream.stream 0).flight = [strayCommand] := rfl

theorem strayStream_done : strayStream.doneHead 0 = some (strayCommand, []) := by decide +kernel

/-- The state in which that command has completed. -/
def strayDone : State :=
  (strayStream.setStream 0 { strayStream.stream 0 with flight := [] }).completeCmd 0 strayCommand noWaits

theorem exec_strayStream : exec (.commandComplete 0 noWaits) strayStream = .next strayDone :=
  exec_commandComplete (by decide) rfl strayStream_done

/-- Before the command completes the entry says a period counter in repetition 0: the signal of repetition 1 is stale. -/
theorem strayStream_stale : (strayStream.applySignal strayCtr 1 (some 1)).plan.ctrs = [] := by decide +kernel

/-- Bit 31 of the record, once written, says a running counter, which no signal is stale for. -/
theorem strayDone_counts : Tab.get Ctr.zero strayDone.plan.ctrs strayCtr = { Ctr.zero with value := 1 } := by decide +kernel

theorem strayStream_reads : strayStream.plan.base = 0 ∧ strayStream.secOff 4 = 0 := by decide +kernel

/-- Refutes O42: nothing in its second clause holds the counter that a command in progress signals to the 15 bits of a descriptor, and so
the counter's entry in the table may lie past every address of the plan. In `strayStream` it is where the command's status record goes:
once the record is written the signal is applied, where before it was stale. -/
theorem not_streamsMoveOn : ¬ Obligations.StreamsMoveOn := by
  rintro ⟨-, hcompletes, -⟩
  obtain ⟨t, hexec, -, hdone⟩ := hcompletes 0 noWaits strayCommand [] strayStream strayStream_flight (by decide)
  obtain ⟨-, -, -, -, -, -, -, -, hctrs, -⟩ := hdone (by decide)
  obtain rfl : t = strayDone := next_state (exec_strayStream.symm.trans hexec)
  have hfar : ∀ k, strayCommand.statKey = some k ∨ k ∈ ([] : List (Nat × Nat)).map (fun r => r.1) →
      2 ^ 48 ≤ k ∧ strayStream.plan.base < 2 ^ 40 ∧ strayStream.secOff 4 < 2 ^ 40 := by
    obtain ⟨hbase, hsec⟩ := strayStream_reads
    rw [hbase, hsec]
    rintro k (hk | hk)
    · obtain rfl := Option.some.inj hk
      decide
    · exact absurd hk List.not_mem_nil
  have hnone : strayDone.plan.ctrs = [] := (hctrs (.inr hfar)).trans strayStream_stale
  exact absurd (hnone ▸ strayDone_counts) (by decide)

end Sys2Proof.Machine
end

section
/-! PROOFS. Plans armed and unloaded (12 R292, 13 R316, 19 R469): what arming leaves of the plan and of the units, whatever its writes
to memory meet, and what unloading does with the writes and the acknowledgements that wait. -/

namespace Sys2Proof.Machine

/-! ## Records of commands that change the device state (18 R448, 19 R461) -/

theorem State.boxes_raiseVector (s : State) (p v : Nat) : (s.raiseVector p v).host.boxes = s.host.boxes := by
  unfold State.raiseVector
  split
  · rfl
  · simp [State.emit]

theorem State.boxes_setDev (s : State) (d : DevState) (origin : Nat × Nat) : (s.setDev d origin).host.boxes = s.host.boxes := by
  unfold State.setDev
  split
  · rfl
  · rw [State.raiseBoth, State.boxes_raiseVector, State.boxes_raiseVector]
    simp

theorem State.dev_setDev (s : State) (d : DevState) (origin : Nat × Nat) : (s.setDev d origin).dev = { s.dev with state := d } := by
  unfold State.setDev
  split
  next h => rw [← h]
  next => simp

theorem State.box_of_boxes {s t : State} (h : t.host.boxes = s.host.boxes) (p m : Nat) : t.box p m = s.box p m := by
  rw [State.box, State.box, h]

theorem Answers.of_boxes {s r t : State} {p m status detail : Nat} {body : List Byte} (h : Answers r t p m status detail body)
    (hboxes : r.host.boxes = s.host.boxes) (hbeat : r.time.beat = s.time.beat) : Answers s t p m status detail body := by
  have hbox : r.box p m = s.box p m := State.box_of_boxes hboxes p m
  unfold Answers at *
  rwa [← hbox, ← hbeat]

/-- A plan command of mailbox (p, m) done: logged with its opcode and the plan's digests, the part in device state `d`, its record made. -/
def State.entered (s : State) (p m : Nat) (d : DevState) (opcode old new : Nat) : State :=
  ((s.logForm 1 (fromMailbox p m) 0x0020 opcode old new).setDev d (fromMailbox p m)).ok p m []

section Entered

variable (s : State) (p m : Nat) (d : DevState) (opcode old new : Nat)

theorem State.dev_entered : (s.entered p m d opcode old new).dev = { s.dev with state := d } := by
  simp [State.entered, State.dev_setDev]

theorem State.entered_onlyChanges : OnlyChanges [.dev, .host, .trust, .out, .cnt] s (s.entered p m d opcode old new) := by
  simp [State.entered, onlyChanges_iff]

variable {s p m d opcode old new} in
/-- A command that takes the part to a device state and is done has its record. -/
theorem State.entered_answers {s₀ : State} {c : Command} {op : Nat} (h : s₀.changing p m op = some c) (hset : s₀.settled p m)
    (hhost : s.host = s₀.host) (hbeat : s.time.beat = s₀.time.beat) : Answers s₀ (s.entered p m d opcode old new) p m 0 0 [] := by
  let logged := s.logForm 1 (fromMailbox p m) 0x0020 opcode old new
  have hboxes : (logged.setDev d (fromMailbox p m)).host.boxes = s₀.host.boxes := by
    rw [State.boxes_setDev, ← hhost]
    simp [logged]
  have hbox := State.box_of_boxes hboxes p m
  obtain ⟨rest, hq⟩ := State.queue_of_changing h
  exact (State.makeRecord_answers (hbox ▸ hq) (by unfold State.settled; rwa [hbox]) 0 0 []).of_boxes hboxes
    (by simpa [logged] using hbeat)

end Entered

/-! ## What arming writes (12 R285, R290, R314) -/

/-- The plan but for the health word, and of the units what R292 sets: streams, feeder queues and tiles. -/
def State.runView (s : State) : PlanState × Tab Stream × Tab FeedQueue × List OxTile :=
  ({ s.plan with health := 0 }, s.unit.streams, s.unit.queues, s.unit.tiles)

theorem State.runView_congr {s t : State} (hplan : t.plan = s.plan) (hunit : t.unit = s.unit) : t.runView = s.runView := by
  rw [State.runView, State.runView, hplan, hunit]

@[simp] theorem ite_runView (c : Prop) [Decidable c] (a b : State) :
    (if c then a else b).runView = if c then a.runView else b.runView :=
  apply_ite State.runView c a b

@[simp] theorem foldl_runView {β : Type} (f : State → β → State) (h : ∀ s a, Keeps State.runView s (f s a)) (l : List β) (s : State) :
    (l.foldl f s).runView = s.runView := foldl_keeps State.runView f h l s

theorem State.runView_eccUe (s : State) (line : Nat) (flag : Bool) : (s.eccUe line flag).runView = s.runView := by
  have hlogged (r : State) (o : Nat × Nat) (cls inst old new : Nat) (h : r.plan = s.plan ∧ r.unit = s.unit) :
      (r.log o cls inst old new).runView = s.runView :=
    State.runView_congr (by simpa using h.1) (by simpa using h.2)
  unfold State.eccUe
  dsimp only
  split
  · exact hlogged _ _ _ _ _ _ (by simp)
  · exact hlogged _ _ _ _ _ _ (by simp)

/-- An uncorrectable error that a write covers in part shows in the health word (07 R177, 13 R318), and nothing else does. -/
@[simp] theorem State.runView_lineWrite (s : State) (req a : Nat) (data : List Byte) : (s.lineWrite req a data).runView = s.runView := by
  refine foldl_keeps State.runView _ (fun r e => ?_) _ s
  simp only [keeps_iff, ite_runView]
  split
  · rfl
  · split
    · exact State.runView_eccUe { r with lineErr := Tab.set 0 r.lineErr e.1 0 } e.1 _
    · exact State.runView_congr (by simp) (by simp)

@[simp] theorem State.runView_pageWrite (s : State) (base req a : Nat) (data : List Byte) :
    (s.pageWrite base req a data).runView = s.runView := by
  unfold State.pageWrite
  dsimp only
  split
  · exact State.runView_congr (by simp) (by simp)
  · split
    · exact State.runView_congr (by simp) (by simp)
    · split
      · exact State.runView_congr (by simp) (by simp)
      · exact s.runView_lineWrite _ _ _

@[simp] theorem State.runView_hbmWriteN (s : State) (base req n a : Nat) (data : List Byte) :
    (s.hbmWriteN base req n a data).runView = s.runView := by
  induction n generalizing s a data with
  | zero => rfl
  | succ n ih => simp [State.hbmWriteN, ih]

@[simp] theorem State.runView_write (s : State) (req key : Nat) (data : List Byte) : (s.write req key data).runView = s.runView := by
  unfold State.write
  split
  · exact s.runView_hbmWriteN _ _ _ _ _
  · split
    · exact State.runView_congr (by simp) (by simp)
    · rfl

@[simp] theorem State.runView_loadTable (s : State) (g slot : Nat) (data : List Byte) : (s.loadTable g slot data).runView = s.runView := by
  have hgoat (key : Nat) : (s.toGoat g key data).runView = s.runView := State.runView_congr (by simp) (by simp)
  unfold State.loadTable
  dsimp only
  split
  · exact hgoat _
  · exact hgoat _

@[simp] theorem State.runView_loadVariantImages (s : State) (v : Nat) : (s.loadVariantImages v).runView = s.runView := by
  have hgoat (r : State) (g k : Nat) (d : List Byte) : (r.toGoat g k d).runView = r.runView :=
    State.runView_congr (by simp) (by simp)
  unfold State.loadVariantImages
  dsimp only
  generalize hgoats : (List.range 60).foldl _ s = r
  have hview : r.runView = s.runView := by
    rw [← hgoats]
    exact foldl_keeps State.runView _ (fun _ _ => (hgoat _ _ _ _).trans (hgoat _ _ _ _)) (List.range 60) s
  exact hview

@[simp] theorem State.runView_writePlanImages (s : State) : s.writePlanImages.runView = s.runView := by
  have himage (r : State) (e : Nat) : (r.writeImage e).runView = r.runView := by
    refine foldl_keeps State.runView _ (fun q n => ?_) _ r
    simp only [keeps_iff, ite_runView, State.runView_loadTable, State.runView_write, ite_self]
  simp [State.writePlanImages, himage]

@[simp] theorem State.runView_clearUsage (s : State) : s.clearUsage.runView = s.runView :=
  foldl_keeps State.runView _ (fun r _ => r.runView_hbmWriteN _ _ _ _ _) _ s

@[simp] theorem State.runView_clearSlots (s : State) : s.clearSlots.runView = s.runView :=
  State.runView_write _ _ _ _

theorem State.slots_clearSlots (s : State) : s.clearSlots.acts.slots = [] := by
  simp [State.clearSlots, State.smWrite]

theorem State.runView_closeGates (s : State) : s.closeGates.runView = s.runView := by
  have hgates := foldl_keeps State.runView
    (fun r q => { r with unit.gates := Tab.put 0 r.unit.gates (2 * q) [Tab.get 0 r.unit.begun q, Tab.get 0 r.unit.begun q] })
    (fun _ _ => rfl) (List.range 256) { s with unit.placed := [] }
  exact hgates

/-! ## PLAN_ARM (19 R469) -/

/-- The streams of a plan armed in variant `v`. -/
def armedStreams (v : Nat) : Tab Stream := Tab.put Stream.idle [] 0 (List.replicate 226 { Stream.idle with variant := v })

theorem get_armedStreams (v : Nat) {u : Nat} (hu : u < 226) :
    Tab.get Stream.idle (armedStreams v) u = { Stream.idle with variant := v } := by
  rw [armedStreams, Tab.get_put, if_pos (by rw [List.length_replicate]; omega), List.getD_eq_getElem?_getD,
    List.getElem?_replicate, if_pos (by omega)]
  rfl

theorem State.ctr_of_cleared {s : State} (hctrs : s.plan.ctrs = []) (hrep : s.plan.ctrRep = 0) (id : Nat) : s.ctr id = Ctr.zero := by
  rw [State.ctr, hctrs, hrep]
  split
  · rfl
  · dsimp only
    split <;> rfl

/-- A plan at the start of its run, but for the health word (12 R292). -/
def PlanState.begun (x : PlanState) : PlanState :=
  { x with
    ctrs := [], ctrRep := 0, ctrShared := true, carries := [], lateSet := [], shortHops := [], decisions := 0, decision := 0,
    dstep := 0, dbeat := 0, trailer := none, rtrSeen := 0, carriedNow := 0, droppedNow := 0, slipsNow := 0, updateClose := none,
    started := false, ran := false, holdBeat := none, shift := 0, next := 0, nextRep := 0, health := 0 }

theorem State.runView_resetRun (s : State) (hqueues : s.unit.queues = []) :
    (s.resetRun 0).runView = (s.plan.begun, armedStreams s.plan.variant, [], []) := by
  rw [State.resetRun]
  dsimp only
  rw [State.runView_closeGates, State.runView, State.emptyQueues]
  dsimp only
  rw [hqueues]
  rfl

theorem State.runView_cleared (s : State) (o : Nat × Nat) : (s.clearStatus.clearFrozen o).runView = s.runView :=
  State.runView_congr (by simp) (by simp)

/-- The plan primed for its first repetition. -/
def State.primeRun (s : State) : State :=
  { s with dev.primed := true, dev.stopped := false, plan.repNow := 0, plan.startRep := 0 }

theorem State.runView_primeRun (s : State) : s.primeRun.runView = ({ s.runView.1 with repNow := 0, startRep := 0 }, s.runView.2) := rfl

theorem State.primeRun_frame (s : State) : s.primeRun.flt = s.flt ∧ s.primeRun.ck = s.ck ∧ s.primeRun.acts = s.acts ∧
    s.primeRun.pwr = s.pwr ∧ s.primeRun.dev = { s.dev with primed := true, stopped := false } := ⟨rfl, rfl, rfl, rfl, rfl⟩

/-- What arming resets (12 R292) and writes (12 R285, R314), before the slots and the status registers. -/
def State.armWrites (s : State) : State :=
  let s1 : State :=
    { s with
      plan.variant := s.ceilingVariant, plan.sel := s.initCodes, plan.windows := [], unit.queues := [], pwr.west.req := 0,
      pwr.east.req := 0 }
  (((s1.resetRun 0).loadVariantImages s.ceilingVariant).writePlanImages).clearUsage

section Arm

variable (s : State) (o : Nat × Nat)

theorem State.armPlan_eq : s.armPlan o = (s.armWrites.clearSlots.clearStatus.clearFrozen o).primeRun := rfl

theorem State.runView_armWrites : s.armWrites.runView =
    ({ s.plan.begun with variant := s.ceilingVariant, sel := s.initCodes, windows := [] }, armedStreams s.ceilingVariant, [], []) := by
  rw [State.armWrites]
  dsimp only
  rw [State.runView_clearUsage, State.runView_writePlanImages, State.runView_loadVariantImages, State.runView_resetRun _ rfl]
  rfl

theorem State.runView_armPlan : (s.armPlan o).runView =
    ({ s.plan.begun with variant := s.ceilingVariant, sel := s.initCodes, windows := [], repNow := 0, startRep := 0 },
      armedStreams s.ceilingVariant, [], []) := by
  rw [State.armPlan_eq, State.runView_primeRun, State.runView_cleared, State.runView_clearSlots, State.runView_armWrites]

theorem State.flt_clearFrozen (s : State) (o : Nat × Nat) : (s.clearFrozen o).flt = { s.flt with frozen := false } := by
  unfold State.clearFrozen
  split
  · simp
  next h => rw [← eq_false_of_ne_true h]

theorem State.clearStatus_clears (s : State) : s.clearStatus.flt.cause = 0 ∧ s.clearStatus.ck.state = 0 ∧
    s.clearStatus.ck.lastEffective = 0 ∧ s.clearStatus.acts.act = 0 ∧ s.clearStatus.acts.retries = 0 ∧
    s.clearStatus.acts.slots = s.acts.slots := ⟨rfl, rfl, rfl, rfl, rfl, rfl⟩

theorem State.status_armPlan : (s.armPlan o).flt.cause = 0 ∧ (s.armPlan o).flt.frozen = false ∧ (s.armPlan o).ck.state = 0 ∧
    (s.armPlan o).ck.lastEffective = 0 ∧ (s.armPlan o).acts.act = 0 ∧ (s.armPlan o).acts.retries = 0 ∧
    (s.armPlan o).acts.slots = [] := by
  obtain ⟨hcause, hstate, hlast, hact, hretries, hslots⟩ := s.armWrites.clearSlots.clearStatus_clears
  simp only [State.armPlan_eq, State.primeRun_frame, State.flt_clearFrozen, State.clearFrozen_frame, hcause, hstate, hlast, hact,
    hretries, hslots, State.slots_clearSlots, and_self]

theorem State.dev_armPlan : (s.armPlan o).dev = { s.dev with primed := true, stopped := false } := by
  simp [State.armPlan_eq, State.primeRun_frame, State.armWrites]

theorem State.limit_armPlan : (s.armPlan o).pwr.limit = s.pwr.limit := by
  simp [State.armPlan_eq, State.primeRun_frame, State.armWrites]

end Arm

/-! ## PLAN_UNLOAD (13 R316, R323, 19 R469) -/

theorem State.splitAcks_of_none {s : State} (h : s.heldWrites = []) (l : List Unacked) : s.splitAcks l = (l, []) := by
  have hstep (l done : List Unacked) : l.foldl (fun acc u =>
      if acc.2.any (fun v => v.port == u.port) || s.ackHeld u then (acc.1, acc.2 ++ [u]) else (acc.1 ++ [u], acc.2)) (done, []) =
      (done ++ l, []) := by
    induction l generalizing done with
    | nil => simp
    | cons u l ih =>
      rw [List.foldl_cons, State.ackHeld_of_none h]
      exact (ih (done ++ [u])).trans (by simp)
  exact hstep l []

/-- With no write held, every message that waits is acknowledged. -/
theorem State.fab_settleAcks {s : State} (h : s.heldWrites = []) : s.settleAcks.fab = { s.fab with unacked := [] } := by
  have hkeep := foldl_keeps State.fab State.ackMsg (fun r u => by simp) s.fab.unacked { s with fab.unacked := [] }
  rw [State.settleAcks, State.splitAcks_of_none h]
  exact hkeep

theorem State.releaseHeld_releases (s : State) :
    s.releaseHeld.heldWrites = [] ∧ s.releaseHeld.fab = { s.fab with unacked := [] } := by
  rw [State.releaseHeld]
  generalize hr : s.heldWrites.foldl _ _ = r
  have hheld : r.heldWrites = [] := by
    rw [← hr]
    exact foldl_keeps State.heldWrites _ (fun q h => by simp) _ _
  have hfab : r.fab = s.fab := by
    rw [← hr]
    exact foldl_keeps State.fab _ (fun q h => by simp) _ _
  exact ⟨by rw [← hheld]; simp [State.settleAcks], by rw [State.fab_settleAcks hheld, hfab]⟩

theorem State.unloadPlan_unloads (s : State) : s.unloadPlan.plan.loaded = false ∧ s.unloadPlan.plan.holdBeat = none ∧
    s.unloadPlan.dev.primed = false ∧ s.unloadPlan.pte = logPages ∧ s.unloadPlan.pwr.west.req = 0 ∧ s.unloadPlan.pwr.east.req = 0 :=
  ⟨rfl, rfl, rfl, rfl, rfl, rfl⟩

theorem State.unloadPlan_lands (s : State) : s.unloadPlan.heldWrites = [] ∧ s.unloadPlan.fab = { s.fab with unacked := [] } := by
  obtain ⟨hheld, hfab⟩ := s.releaseHeld_releases
  simp [State.unloadPlan, hheld, hfab]

/-! ## The commands -/

theorem State.ceilingVariant_eq (s : State) : s.ceilingVariant = 4 * s.ceiling 0 + s.ceiling 1 := rfl

section Armed

variable {s t : State}

/-- A state whose plan and units are as arming leaves them. -/
theorem State.armed_of_runView {o : Nat × Nat} (h : t.runView = (s.armPlan o).runView) :
    t.plan.variant = 4 * s.ceiling 0 + s.ceiling 1 ∧ t.plan.started = false ∧ t.plan.holdBeat = none ∧
    (∀ i, t.ctr i = Ctr.zero) ∧
    (∀ u, u < 226 → t.stream u = { Stream.idle with variant := 4 * s.ceiling 0 + s.ceiling 1 }) ∧
    (∀ q, t.queue q = FeedQueue.empty) ∧ t.unit.tiles = [] ∧ t.plan.loaded = s.plan.loaded ∧ t.plan.step = s.plan.step := by
  rw [s.runView_armPlan o] at h
  obtain ⟨hplan, hunit⟩ := Prod.mk.inj h
  obtain ⟨hstreams, hrest⟩ := Prod.mk.inj hunit
  obtain ⟨hqueues, htiles⟩ := Prod.mk.inj hrest
  refine ⟨congrArg PlanState.variant hplan, congrArg PlanState.started hplan, congrArg PlanState.holdBeat hplan,
    State.ctr_of_cleared (congrArg PlanState.ctrs hplan) (congrArg PlanState.ctrRep hplan), fun u hu => ?_, fun q => ?_, htiles,
    (congrArg PlanState.loaded hplan :), (congrArg PlanState.step hplan :)⟩
  · rw [State.stream, hstreams, get_armedStreams _ hu, State.ceilingVariant_eq]
  · rw [State.queue, hqueues]
    rfl

end Armed

section Commands

variable {p : Fin 2} {m : Fin 16} {s : State} {c : Command} (hbody : c.bodyOk = true)
include hbody

theorem exec_planArm (h : s.changing p.val m.val 0x21 = some c) : exec (.planArm p m) s = .next
    (if !s.mayArm then s.reject p.val m.val stWrongState 0
      else (s.armPlan (fromMailbox p.val m.val)).entered p.val m.val .armed 0x21 0
        (digest128 (s.armPlan (fromMailbox p.val m.val)).plan.digest)) :=
  State.runChanging_of_body h hbody (fun _ => !s.mayArm) _

theorem exec_planUnload (h : s.changing p.val m.val 0x22 = some c) : exec (.planUnload p m) s = .next
    (if decide (s.ck.state = 1) then s.reject p.val m.val stWrongState 0
      else s.unloadPlan.entered p.val m.val .idle 0x22 (digest128 s.plan.digest) 0) :=
  State.runChanging_of_body h hbody (fun _ => decide (s.ck.state = 1)) _

variable (hset : s.settled p.val m.val)
include hset

theorem planArm_arms (h : s.changing p.val m.val 0x21 = some c) : ∃ t, exec (.planArm p m) s = .next t ∧
    (s.mayArm = false → Answers s t p.val m.val 2 0 [] ∧ OnlyChanges [.host, .trust, .cnt] s t) ∧
    (s.mayArm = true → Answers s t p.val m.val 0 0 [] ∧ t.dev.state = .armed ∧ t.dev.primed = true ∧ t.dev.stopped = false ∧
      t.plan.variant = 4 * s.ceiling 0 + s.ceiling 1 ∧ t.plan.started = false ∧ t.plan.holdBeat = none ∧
      (∀ i, t.ctr i = Ctr.zero) ∧
      (∀ u, u < 226 → t.stream u = { Stream.idle with variant := 4 * s.ceiling 0 + s.ceiling 1 }) ∧
      (∀ i, t.slot i = Slot.empty) ∧ (∀ q, t.queue q = FeedQueue.empty) ∧ t.unit.tiles = [] ∧
      t.flt.cause = 0 ∧ t.flt.frozen = false ∧ t.ck.state = 0 ∧ t.ck.lastEffective = 0 ∧ t.acts.act = 0 ∧ t.acts.retries = 0 ∧
      t.plan.loaded = s.plan.loaded ∧ t.plan.step = s.plan.step ∧ t.time = s.time ∧ t.fab = s.fab ∧ t.pwr.limit = s.pwr.limit) := by
  let o := fromMailbox p.val m.val
  let r := s.armPlan o
  have hexec := exec_planArm hbody h
  cases hmay : s.mayArm with
  | false =>
    have hreject := State.reject_answers h hset stWrongState
    rw [hmay, if_pos (by decide)] at hexec
    exact ⟨_, hexec, fun _ => ⟨hreject.1, hreject.2.1⟩, fun hyes => absurd hyes Bool.false_ne_true⟩
  | true =>
    have hanswers := State.entered_answers (s := r) (d := .armed) (opcode := 0x21) (old := 0) (new := digest128 r.plan.digest) h hset
      (by simp [r]) (by simp [r])
    have hdev := r.dev_entered p.val m.val .armed 0x21 0 (digest128 r.plan.digest)
    have honly := r.entered_onlyChanges p.val m.val .armed 0x21 0 (digest128 r.plan.digest)
    rw [hmay, if_neg (by decide)] at hexec
    refine ⟨_, hexec, fun hno => absurd hno.symm Bool.false_ne_true, fun _ => ?_⟩
    change Answers s (r.entered p.val m.val .armed 0x21 0 (digest128 r.plan.digest)) _ _ _ _ _ ∧ _
    generalize r.entered p.val m.val .armed 0x21 0 (digest128 r.plan.digest) = t at hanswers hdev honly ⊢
    obtain ⟨hvariant, hstarted, hhold, hctrs, hstreams, hqueues, htiles, hloaded, hstep⟩ :=
      State.armed_of_runView (State.runView_congr (s := r) (honly .plan (by simp)) (honly .unit (by simp)))
    obtain ⟨hcause, hfrozen, hstate, hlast, hact, hretries, hslots⟩ := s.status_armPlan o
    have hflt : t.flt = r.flt := honly .flt (by simp)
    have hck : t.ck = r.ck := honly .ck (by simp)
    have hacts : t.acts = r.acts := honly .acts (by simp)
    have hpwr : t.pwr = r.pwr := honly .pwr (by simp)
    have hempty (i : Nat) : t.slot i = Slot.empty := by
      rw [State.slot, hacts, hslots]
      rfl
    rw [s.dev_armPlan o] at hdev
    have htime : t.time = r.time := honly .time (by simp)
    have hfab : t.fab = r.fab := honly .fab (by simp)
    rw [hdev, hflt, hck, hacts, hpwr, htime, hfab]
    exact ⟨hanswers, rfl, rfl, rfl, hvariant, hstarted, hhold, hctrs, hstreams, hempty, hqueues, htiles, hcause, hfrozen, hstate, hlast,
      hact, hretries, hloaded, hstep, by simp [r], by simp [r], s.limit_armPlan o⟩

theorem planUnload_unloads (h : s.changing p.val m.val 0x22 = some c) : ∃ t, exec (.planUnload p m) s = .next t ∧
    (s.ck.state = 1 → Answers s t p.val m.val 2 0 [] ∧ OnlyChanges [.host, .trust, .cnt] s t) ∧
    (s.ck.state ≠ 1 → Answers s t p.val m.val 0 0 [] ∧ t.dev.state = .idle ∧ t.plan.loaded = false ∧ t.dev.primed = false ∧
      t.pte = logPages ∧ t.heldWrites = [] ∧ t.pwr.west.req = 0 ∧ t.pwr.east.req = 0 ∧ t.plan.holdBeat = none ∧
      t.time = s.time ∧ t.fab = { s.fab with unacked := [] } ∧ t.ck = s.ck ∧ t.acts = s.acts ∧ t.geo = s.geo) := by
  let r := s.unloadPlan
  have hexec := exec_planUnload hbody h
  by_cases hopen : s.ck.state = 1
  · have hreject := State.reject_answers h hset stWrongState
    rw [decide_eq_true hopen, if_pos rfl] at hexec
    exact ⟨_, hexec, fun _ => ⟨hreject.1, hreject.2.1⟩, fun hclosed => absurd hopen hclosed⟩
  · have hanswers := State.entered_answers (s := r) (d := .idle) (opcode := 0x22) (old := digest128 s.plan.digest) (new := 0) h hset
      (by simp [r]) (by simp [r])
    have hdev := r.dev_entered p.val m.val .idle 0x22 (digest128 s.plan.digest) 0
    have honly := r.entered_onlyChanges p.val m.val .idle 0x22 (digest128 s.plan.digest) 0
    rw [decide_eq_false hopen, if_neg (by decide)] at hexec
    refine ⟨_, hexec, fun h => absurd h hopen, fun _ => ?_⟩
    change Answers s (r.entered p.val m.val .idle 0x22 (digest128 s.plan.digest) 0) _ _ _ _ _ ∧ _
    generalize r.entered p.val m.val .idle 0x22 (digest128 s.plan.digest) 0 = t at hanswers hdev honly ⊢
    obtain ⟨hloaded, hhold, hprimed, hpte, hwest, heast⟩ := s.unloadPlan_unloads
    obtain ⟨hheld, hfab⟩ := s.unloadPlan_lands
    have hplan : t.plan = r.plan := honly .plan (by simp)
    have hpwr : t.pwr = r.pwr := honly .pwr (by simp)
    have hpages : t.pte = r.pte := honly .pte (by simp)
    have hwrites : t.heldWrites = r.heldWrites := honly .heldWrites (by simp)
    have hlink : t.fab = r.fab := honly .fab (by simp)
    have htime : t.time = r.time := honly .time (by simp)
    have hck : t.ck = r.ck := honly .ck (by simp)
    have hacts : t.acts = r.acts := honly .acts (by simp)
    have hgeo : t.geo = r.geo := honly .geo (by simp)
    rw [hdev, hplan, hpwr, hpages, hwrites, hlink, htime, hck, hacts, hgeo]
    exact ⟨hanswers, rfl, hloaded, hprimed, hpte, hheld, hwest, heast, hhold, by simp [r], hfab, by simp [r], by simp [r], by simp [r]⟩

end Commands

/-- Settles O22: arming by what of plan and units its writes to memory leave as its reset has it, unloading by the writes held, which all
land, so that every message that waits is acknowledged. -/
theorem planIsArmedOrUnloaded : Obligations.PlanIsArmedOrUnloaded :=
  ⟨fun _ _ _ _ hset hbody h => planArm_arms hbody hset h, fun _ _ _ _ hset hbody h => planUnload_unloads hbody hset h⟩

end Sys2Proof.Machine
end

section
/-! PROOFS. Plans loaded (12 R312, 13 R316, 19 R468): the read of the plan's bytes changes none of them, the shipped tables go past HBM, and
the page table is the one that the regions give. -/

namespace Sys2Proof.Machine

/-! ## Rejections with a detail (16 R413) -/

/-- A command rejected in the right state has its record, with its DETAIL, and its entry in the change log. -/
theorem State.reject_detail_answers {s : State} {p m op : Nat} {c : Command} (h : s.changing p m op = some c) (hset : s.settled p m)
    {status : Nat} (hstatus : status ≠ stWrongState) (detail : Nat) :
    Answers s (s.reject p m status detail) p m status detail [] ∧ OnlyChanges [.host, .trust] s (s.reject p m status detail) := by
  obtain ⟨rest, hq⟩ := State.queue_of_changing h
  rw [State.reject, State.head_of_changing h]
  dsimp only
  rw [if_neg hstatus]
  generalize hr : s.log _ _ _ _ _ = r
  have hlog : OnlyChanges [.trust] s r := hr ▸ s.log_onlyChanges _ _ _ _ _
  have hhost : r.host = s.host := hlog .host (by simp)
  have htime : r.time = s.time := hlog .time (by simp)
  have hbox : r.box p m = s.box p m := State.box_congr hhost p m
  exact ⟨(State.makeRecord_answers (hbox ▸ hq) (by unfold State.settled; rwa [hbox]) _ _ _).of_host hhost (congrArg Time.beat htime),
    hlog.trans (r.makeRecord_onlyChanges _ _ _ _ _) (by simp) (by simp)⟩

/-! ## A read of HBM leaves what it reads (13 R317, R318) -/

theorem Tab.get_of_mem {α : Type} [DecidableEq α] {d : α} {t : Tab α} (h : Tab.wf d t = true) {e : Nat × α} (he : e ∈ t) :
    Tab.get d t e.1 = e.2 := by
  have hrises (k : Nat) (hk : Tab.risesFrom k t = true) : k ≤ e.1 ∧ Tab.get d t e.1 = e.2 := by
    clear h
    induction t generalizing k with
    | nil => cases he
    | cons x t ih =>
      obtain ⟨j, v⟩ := x
      rw [Tab.risesFrom, Bool.and_eq_true, decide_eq_true_eq] at hk
      rcases List.mem_cons.mp he with rfl | htail
      · exact ⟨hk.1, if_pos rfl⟩
      · obtain ⟨hlow, hget⟩ := ih htail (j + 1) hk.2
        exact ⟨by omega, (if_neg (by omega)).trans hget⟩
  rw [Tab.wf, Bool.and_eq_true] at h
  exact (hrises 0 h.1).2

/-- Reads of HBM deliver in `t` what they do in `s`. -/
structure ReadsAs (s t : State) : Prop where
  mem : t.mem = s.mem
  valid : ∀ p, (t.pteOf p).valid = (s.pteOf p).valid
  bad : ∀ l, Tab.get 0 t.lineErr l = 2 ↔ Tab.get 0 s.lineErr l = 2
  lines : Tab.wf 0 t.lineErr = true

theorem ReadsAs.trans {s t r : State} (h : ReadsAs s t) (h' : ReadsAs t r) : ReadsAs s r :=
  ⟨h'.mem.trans h.mem, fun p => (h'.valid p).trans (h.valid p), fun l => (h'.bad l).trans (h.bad l), h'.lines⟩

theorem ReadsAs.hbmBytes {s t : State} (h : ReadsAs s t) (a n : Nat) : t.hbmBytes a n = s.hbmBytes a n := by
  have hbad (p : Nat) : t.badPage p = s.badPage p := by rw [State.badPage, State.badPage, h.valid]
  simp only [State.hbmBytes, hbad, h.mem, h.bad]

section Reads

variable {s t : State} (h : ReadsAs s t)
include h

theorem ReadsAs.eccUe (line : Nat) (flag : Bool) : ReadsAs s (t.eccUe line flag) := by
  refine h.trans ⟨by simp, fun p => ?_, by simp, by simpa using h.lines⟩
  have hpte : (t.eccUe line flag).pte =
      Tab.set Pte.idle t.pte (pageOf (64 * line)) { t.pteOf (pageOf (64 * line)) with poison := true } := by
    unfold State.eccUe
    dsimp only
    split <;> simp [State.setPte]
  rw [State.pteOf, hpte, Tab.get_set]
  split
  next hp => rw [hp]
  next => rfl

theorem ReadsAs.eccCe {line : Nat} (hline : Tab.get 0 s.lineErr line ≠ 2) : ReadsAs s (t.eccCe line) := by
  refine ⟨by simpa using h.mem, fun p => by simpa [State.pteOf] using h.valid p, fun l => ?_, Tab.wf_set 0 _ _ _ h.lines⟩
  rw [State.eccCe, Tab.get_set]
  split
  next hl => simpa [hl] using hline
  next => exact h.bad l

theorem ReadsAs.addrFault (req a : Nat) : ReadsAs s (t.addrFault req a) :=
  ⟨by simpa using h.mem, fun p => by simpa [State.pteOf] using h.valid p, fun l => by simpa using h.bad l, by simpa using h.lines⟩

end Reads

theorem State.lineNotes_readsAs {s : State} (h : Tab.wf 0 s.lineErr = true) (req a n : Nat) : ReadsAs s (s.lineNotes req a n) := by
  have hall (l : List (Nat × Nat)) (hl : ∀ e ∈ l, e ∈ s.lineErr) (t : State) (ht : ReadsAs s t) :
      ReadsAs s (l.foldl (fun s e => if e.2 = 2 then s.eccUe e.1 (!isBar2 req) else s.eccCe e.1) t) := by
    induction l generalizing t with
    | nil => exact ht
    | cons e l ih =>
      refine ih (fun x hx => hl x (List.mem_cons_of_mem e hx)) _ ?_
      dsimp only
      split
      · exact ht.eccUe _ _
      next hkind => exact ht.eccCe (by rwa [Tab.get_of_mem h (hl e List.mem_cons_self)])
  exact hall (s.badLines a n) (fun _ he => List.mem_of_mem_filter he) s ⟨rfl, fun _ => rfl, fun _ => .rfl, h⟩

theorem State.hbmNoteRead_readsAs {s : State} (h : Tab.wf 0 s.lineErr = true) (req a n : Nat) :
    ReadsAs s (s.hbmNoteRead req a n) := by
  have hall (l : List (Nat × Nat)) (t : State) (ht : ReadsAs s t) : ReadsAs s (l.foldl (fun s r =>
      if s.badPage (pageOf r.1) then s.addrFault req r.1 else s.lineNotes req r.1 r.2) t) := by
    induction l generalizing t with
    | nil => exact ht
    | cons r l ih =>
      refine ih _ ?_
      dsimp only
      split
      · exact ht.addrFault _ _
      · exact ht.trans (State.lineNotes_readsAs ht.lines _ _ _)
  exact hall (pageParts a n) s ⟨rfl, fun _ => rfl, fun _ => .rfl, h⟩

/-! ## The page table of a plan (13 R316, R321) -/

/-- A plan says of its regions what its bytes say. -/
theorem State.regions_congr {s t : State} (hbase : t.plan.base = s.plan.base) (hmem : t.mem = s.mem) (hfree : t.freeIdx = s.freeIdx) :
    t.regions = s.regions := by
  have hnat (key n : Nat) : t.natAt key n = s.natAt key n :=
    State.natAt_congr hfree fun i _ => by rw [State.stored, State.stored, hmem]
  have hregion (i : Nat) : t.region i = s.region i := by
    simp only [State.region, State.regionAt, State.secOff, State.planNat, hbase, hnat]
  simp only [State.regions, hregion]

/-- The entry of page `g`: free of copies, and valid where a region of the plan has the page. -/
theorem State.get_buildPages (s : State) {g : Nat} (hg : g < 262144) : let e := Tab.get Pte.idle s.buildPages g
    e.wp = false ∧ e.copied = false ∧ (e.valid = true ↔ ∃ r ∈ s.regions, r.2.base ≤ g ∧ g < r.2.base + r.2.pages) := by
  rw [State.buildPages]
  dsimp only
  rw [Tab.get_put, List.length_map, List.length_range, if_pos (by omega), List.getD_eq_getElem?_getD, List.getElem?_map,
    List.getElem?_range (by omega)]
  dsimp only [Option.map_some, Option.getD_some]
  rw [Nat.sub_zero]
  split
  next r hfind =>
    have hin := List.find?_some hfind
    rw [Bool.and_eq_true, decide_eq_true_eq, decide_eq_true_eq] at hin
    exact ⟨rfl, rfl, fun _ => ⟨_, List.mem_of_find?_eq_some hfind, hin⟩, fun _ => rfl⟩
  next hfind =>
    refine ⟨rfl, rfl, fun h => absurd h Bool.false_ne_true, fun ⟨r, hr, hlow, hhigh⟩ => ?_⟩
    have hout := List.find?_eq_none.mp hfind r hr
    simp [hlow, hhigh] at hout

/-! ## PLAN_LOAD (19 R468) -/

/-- The shipped tables lie past HBM (05 R133). -/
theorem State.stored_writeShipped (s : State) {k : Nat} (hk : k < 2 ^ 48) : s.writeShipped.stored k = s.stored k := by
  have hgoat (r : State) (g slot : Nat) (data : List Byte) :
      (r.toGoat g (spaceKey (tableSpace g) (6272 * slot)) data).stored k = r.stored k := by
    unfold State.toGoat
    split
    · rw [State.stored, State.stored, (r.discard_frame _).2.2.2.2.1]
    · exact r.stored_poke_of_disjoint (.inl (by unfold spaceKey tableSpace; omega))
  have htable (r : State) (g slot : Nat) (data : List Byte) : (r.loadTable g slot data).stored k = r.stored k := by
    unfold State.loadTable
    dsimp only
    split
    · exact hgoat r g slot data
    · exact hgoat r g slot data
  exact foldl_keeps (fun r => r.stored k) _ (fun r g =>
    foldl_keeps (fun r => r.stored k) _ (fun r slot => htable r g slot _) (List.range 7) r) (List.range 60) s

/-- What PLAN_LOAD makes of a plan, but for the counters and the shipped tables. -/
def State.installed (s : State) (base len : Nat) : State :=
  { s.asPlan base len with
    plan.digest := sha384 (s.hbmBytes base len)
    plan.shadowBase := (((s.asPlan base len).regions.find? (fun r => decide (r.2.kind = 2))).map (fun r => r.2.base)).getD 0
    plan.ran := false
    dev.primed := false
    dev.stopped := false
    pwr.west.req := 0
    pwr.east.req := 0
    unit.begun := []
    pte := (s.asPlan base len).buildPages
    shadowNext := [] }

theorem State.loadPlan_eq (s : State) (base len : Nat) : s.loadPlan base len = (s.installed base len).clearForLoad.writeShipped := rfl

/-- A plan at `base` of `len` bytes of `s` is loaded in `r`. -/
structure Loaded (s r : State) (base len : Nat) : Prop where
  loaded : r.plan.loaded = true
  place : r.plan.base = base
  length : r.plan.length = len
  digest : r.plan.digest = sha384 (s.hbmBytes base len)
  unprimed : r.dev.primed = false
  stopped : r.dev.stopped = false
  west : r.pwr.west.req = 0
  east : r.pwr.east.req = 0
  hbm : ∀ k, k < 2 ^ 48 → r.stored k = s.stored k
  pages : r.pte = (s.asPlan base len).buildPages
  only : OnlyChanges [.dev, .pwr, .mem, .pte, .shadowNext, .unit, .plan, .cnt, .geo, .free] s r

theorem State.loadPlan_loads (s : State) (base len : Nat) : Loaded s (s.loadPlan base len) base len := by
  let x := s.installed base len
  have hplan : (s.loadPlan base len).plan = x.plan := by rw [State.loadPlan_eq]; simp [x]
  have hdev : (s.loadPlan base len).dev = x.dev := by rw [State.loadPlan_eq]; simp [x]
  have hpwr : (s.loadPlan base len).pwr = x.pwr := by rw [State.loadPlan_eq]; simp [x]
  have hpte : (s.loadPlan base len).pte = x.pte := by rw [State.loadPlan_eq]; simp [x]
  have hstored (k : Nat) (hk : k < 2 ^ 48) : (s.loadPlan base len).stored k = x.stored k := by
    rw [State.loadPlan_eq, State.stored_writeShipped _ hk, State.stored, State.stored]
    simp [x]
  have hx : OnlyChanges [.dev, .pwr, .pte, .shadowNext, .unit, .plan] s x := by simp [x, State.installed, onlyChanges_iff]
  have hrest : OnlyChanges [.mem, .unit, .cnt, .geo, .free] x (s.loadPlan base len) := by
    rw [State.loadPlan_eq]
    simp [x, onlyChanges_iff]
  refine ⟨by rw [hplan]; rfl, by rw [hplan]; rfl, by rw [hplan]; rfl, by rw [hplan]; rfl, by rw [hdev]; rfl, by rw [hdev]; rfl,
    by rw [hpwr]; rfl, by rw [hpwr]; rfl, hstored, by rw [hpte]; rfl, hx.trans hrest (by simp) (by simp)⟩

/-- The read of the plan that goes before leaves what is loaded as it is. -/
theorem Loaded.of_read {s q r : State} {base len : Nat} (h : Loaded q r base len) (hread : ReadsAs s q) (hfree : q.freeIdx = s.freeIdx)
    (honly : OnlyChanges [.lineErr, .pte, .plan, .flt, .trust, .cnt] s q) :
    r.plan.digest = sha384 (s.hbmBytes base len) ∧ (∀ k, k < 2 ^ 48 → r.stored k = s.stored k) ∧
    (∀ g, g < 262144 → (r.pteOf g).wp = false ∧ (r.pteOf g).copied = false ∧
      ((r.pteOf g).valid = true ↔ ∃ x ∈ (s.asPlan base len).regions, x.2.base ≤ g ∧ g < x.2.base + x.2.pages)) ∧
    OnlyChanges [.trust, .dev, .pwr, .mem, .pte, .shadowNext, .unit, .plan, .cnt, .flt, .lineErr, .geo, .free] s r := by
  have hregions : (q.asPlan base len).regions = (s.asPlan base len).regions :=
    State.regions_congr rfl (by simpa using hread.mem) (by simpa using hfree)
  refine ⟨by rw [h.digest, hread.hbmBytes], fun k hk => ?_, fun g hg => ?_, honly.trans h.only (by simp) (by simp)⟩
  · rw [h.hbm k hk, State.stored, State.stored, hread.mem]
  · rw [State.pteOf, h.pages, ← hregions]
    exact State.get_buildPages _ hg

/-- LENGTH of the plan at `base`, as its header says (12 Table 12-1): what PLAN_LOAD reads. -/
def State.planLength (s : State) (base : Nat) : Nat := bits (leNat (s.hbmBytes base 64)) 64 64

section Command

variable {p : Fin 2} {m : Fin 16} {s : State} {c : Command} (hbody : c.bodyOk = true) (h : s.changing p.val m.val 0x20 = some c)
  (hmay : s.mayLoad = true) (halign : c.field 0 8 % 4096 = 0) (hlen : c.field 8 8 ≤ 2 ^ 34) (hend : c.field 0 8 + c.field 8 8 ≤ 2 ^ 39)
include hbody h hmay halign hlen hend

theorem exec_planLoad_failing {x : Nat}
    (hreport : (s.asPlan (c.field 0 8) (s.planLength (c.field 0 8))).planReport (c.field 8 8) = some x) :
    exec (.planLoad p m) s = .next (s.reject p.val m.val stBadArg x) := by
  unfold State.planLength at hreport
  change execPlanLoad p m s = _
  rw [execPlanLoad, State.runChanging_of_body h hbody, hmay, if_neg (by decide)]
  dsimp only
  rw [if_neg (by simp only [decide_eq_true_eq, Bool.or_eq_true]; omega), hreport]

theorem exec_planLoad_passing {r : State}
    (hr : r = (s.hbmNoteRead (portRequester p.val) (c.field 0 8) (s.planLength (c.field 0 8))).loadPlan (c.field 0 8)
      (s.planLength (c.field 0 8)))
    (hreport : (s.asPlan (c.field 0 8) (s.planLength (c.field 0 8))).planReport (c.field 8 8) = none) :
    exec (.planLoad p m) s = .next (r.entered p.val m.val .armed 0x20 0 (digest128 r.plan.digest)) := by
  unfold State.planLength at *
  change execPlanLoad p m s = _
  rw [execPlanLoad, State.runChanging_of_body h hbody, hmay, if_neg (by decide)]
  dsimp only
  rw [if_neg (by simp only [decide_eq_true_eq, Bool.or_eq_true]; omega), hreport]
  dsimp only
  rw [← hr]
  rfl

end Command

/-- Settles O21: a failing check by its rejection; a plan that passes by the read of its bytes, which leaves them as they are, and what
PLAN_LOAD then installs. -/
theorem planIsLoadedOrReported : Obligations.PlanIsLoadedOrReported := by
  unfold Obligations.PlanIsLoadedOrReported
  intro p m s c hset hbody h hmay halign hlen hend hcanonical base len
  obtain ⟨-, hlines, -⟩ := hcanonical
  have hlength : len = s.planLength base := rfl
  clear_value len
  subst hlength
  let q := s.hbmNoteRead (portRequester p.val) base (s.planLength base)
  obtain ⟨r, hr⟩ : ∃ r, r = q.loadPlan base (s.planLength base) := ⟨_, rfl⟩
  cases hreport : (s.asPlan base (s.planLength base)).planReport (c.field 8 8) with
  | some x =>
    obtain ⟨hanswers, honly⟩ := State.reject_detail_answers h hset (status := stBadArg) (by decide) x
    exact ⟨_, exec_planLoad_failing hbody h hmay halign hlen hend hreport, hanswers, honly .plan (by simp), honly⟩
  | none =>
    have hload : Loaded q r base (s.planLength base) := hr ▸ q.loadPlan_loads base _
    obtain ⟨hdigest, hhbm, hpages, honly⟩ := hload.of_read (State.hbmNoteRead_readsAs hlines _ _ _) (by simp [q])
      (by simp [q, onlyChanges_iff])
    have hanswers := State.entered_answers (s := r) (d := .armed) (opcode := 0x20) (old := 0) (new := digest128 r.plan.digest) h hset
      (honly .host (by simp)) (congrArg Time.beat (honly .time (by simp)))
    have hdev := r.dev_entered p.val m.val .armed 0x20 0 (digest128 r.plan.digest)
    have hentered := r.entered_onlyChanges p.val m.val .armed 0x20 0 (digest128 r.plan.digest)
    refine ⟨r.entered p.val m.val .armed 0x20 0 (digest128 r.plan.digest),
      exec_planLoad_passing hbody h hmay halign hlen hend hr hreport, ?_⟩
    · generalize r.entered p.val m.val .armed 0x20 0 (digest128 r.plan.digest) = t at hanswers hdev hentered ⊢
      have hplan : t.plan = r.plan := hentered .plan (by simp)
      have hpwr : t.pwr = r.pwr := hentered .pwr (by simp)
      have hmem : t.mem = r.mem := hentered .mem (by simp)
      have hpte : t.pte = r.pte := hentered .pte (by simp)
      dsimp only
      rw [hplan, hdev, hpwr]
      refine ⟨hanswers, hload.loaded, hload.place, hload.length, hdigest, rfl, hload.unprimed, hload.stopped, hload.west, hload.east,
        fun k hk => ?_, fun g hg => ?_, honly.trans hentered (by simp) (by simp)⟩
      · rw [State.stored, hmem]
        exact hhbm k hk
      · rw [State.pteOf, hpte]
        exact hpages g hg

end Sys2Proof.Machine
end

section
/-! PROOFS. The canonical form of the memories, of the table of HBM lines with an error and of the page table (13 R315, R316, R318):
every operation of the model that writes one of them writes it in canonical form, every other one leaves the three alone, and so
every step keeps the form. -/

namespace Sys2Proof

/-! ## Tables -/

section Tables

variable {α : Type} [DecidableEq α] {d : α} {t u : Tab α}

theorem Tab.wf_iff : Tab.wf d t = true ↔ Tab.risesFrom 0 t = true ∧ ∀ e ∈ t, e.2 ≠ d := by
  simp [Tab.wf]

theorem Tab.wf_clear (h : Tab.wf d t = true) (b n : Nat) : Tab.wf d (t.clear b n) = true := Tab.wf_filter d t _ h

omit [DecidableEq α] in
/-- Keys moved by the same distance still rise. -/
theorem Tab.risesFrom_shift {b k : Nat} (dst : Nat) (hb : b ≤ k) (h : Tab.risesFrom k t = true) :
    Tab.risesFrom (k - b + dst) (t.map (fun e => (e.1 - b + dst, e.2))) = true := by
  induction t generalizing k with
  | nil => rfl
  | cons e t ih =>
    obtain ⟨j, v⟩ := e
    simp only [Tab.risesFrom, List.map_cons, Bool.and_eq_true, decide_eq_true_eq] at h ⊢
    obtain ⟨hk, hrest⟩ := h
    refine ⟨by omega, ?_⟩
    have hnext := ih (by omega) hrest
    rwa [show j + 1 - b + dst = j - b + dst + 1 by omega] at hnext

/-- Entries grafted from a canonical table into a canonical one give a canonical one. -/
theorem Tab.wf_graft (ht : Tab.wf d t = true) (hu : Tab.wf d u = true) (b dst n : Nat) : Tab.wf d (t.graft u b dst n) = true := by
  obtain ⟨hrise, hval⟩ := Tab.wf_iff.1 ht
  obtain ⟨hriseU, hvalU⟩ := Tab.wf_iff.1 hu
  have hslice : ∀ e ∈ u.slice b n, b ≤ e.1 ∧ e.1 < b + n ∧ e ∈ u := fun e he => by
    obtain ⟨hmem, hin⟩ := List.mem_filter.1 he
    simp only [Bool.and_eq_true, decide_eq_true_eq] at hin
    exact ⟨hin.1, hin.2, hmem⟩
  refine Tab.wf_iff.2 ⟨?_, fun e he => ?_⟩
  · refine Tab.risesFrom_append _ _ 0 dst (Tab.risesFrom_filter t _ 0 hrise) (fun e he => ?_) (Nat.zero_le dst) ?_
    · exact of_decide_eq_true (List.mem_filter.1 he).2
    · refine Tab.risesFrom_append _ _ dst (dst + n) ?_ (fun e he => ?_) (by omega) ?_
      · have hfrom : Tab.risesFrom b (u.slice b n) = true :=
          Tab.risesFrom_raise _ 0 b (Tab.risesFrom_filter u _ 0 hriseU) fun e he => (hslice e he).1
        simpa using Tab.risesFrom_shift dst le_rfl hfrom
      · obtain ⟨x, hx, rfl⟩ := List.mem_map.1 he
        have := hslice x hx
        simp only
        omega
      · refine Tab.risesFrom_raise _ 0 _ (Tab.risesFrom_filter t _ 0 hrise) fun e he => ?_
        exact of_decide_eq_true (List.mem_filter.1 he).2
  · rw [Tab.graft, List.mem_append, List.mem_append, List.mem_map] at he
    obtain he | ⟨x, hx, rfl⟩ | he := he
    · exact hval e (List.mem_filter.1 he).1
    · exact hvalU x (hslice x hx).2.2
    · exact hval e (List.mem_filter.1 he).1

omit [DecidableEq α] in
theorem Tab.risesFrom_map (f : α → α) {k : Nat} (h : Tab.risesFrom k t = true) :
    Tab.risesFrom k (t.map (fun e => (e.1, f e.2))) = true := by
  induction t generalizing k with
  | nil => rfl
  | cons e t ih =>
    obtain ⟨j, v⟩ := e
    simp only [Tab.risesFrom, List.map_cons, Bool.and_eq_true] at h ⊢
    exact ⟨h.1, ih h.2⟩

/-- Every entry changed, and those dropped that now read as unlisted ones do. -/
theorem Tab.wf_map_filter (f : α → α) (h : Tab.wf d t = true) :
    Tab.wf d ((t.map (fun e => (e.1, f e.2))).filter (fun e => decide (e.2 ≠ d))) = true :=
  Tab.wf_iff.2 ⟨Tab.risesFrom_filter _ _ 0 (Tab.risesFrom_map f (Tab.wf_iff.1 h).1), fun _ he =>
    of_decide_eq_true (List.mem_filter.1 he).2⟩

end Tables

namespace Machine

theorem wf_logPages : Tab.wf Pte.idle logPages = true := by decide

theorem State.wf_buildPages (s : State) : Tab.wf Pte.idle s.buildPages = true := Tab.wf_put _ _ _ _ (Tab.wf_nil _)

end Machine

end Sys2Proof
end

section
/-! PROOFS. The canonical form is kept by the operations that commands share (13 R315 to R323): what leaves the three tables alone, and
the accesses to HBM and to the cores' memories. -/

namespace Sys2Proof.Machine

namespace State.canonical

/-! ## States put together -/

theorem of_frame {s t : State} (h : s.canonical) (hf : t.mem = s.mem ∧ t.lineErr = s.lineErr ∧ t.pte = s.pte) : t.canonical := by
  obtain ⟨hmem, hline, hpte⟩ := hf
  rwa [State.canonical, hmem, hline, hpte]

/-- The other groups of the state do not matter. -/
theorem other {s : State} (h : s.canonical)
    {pending freeIdx out dev pwr geo shadowNext heldWrites unit plan time acts fab flt ck host trust cnt} :
    (State.mk pending freeIdx out dev pwr geo s.mem s.lineErr s.pte shadowNext heldWrites unit plan time acts fab flt ck host trust
      cnt).canonical := h

theorem ite {s t : State} {c : Prop} [Decidable c] (hs : s.canonical) (ht : t.canonical) : (if c then s else t).canonical := by
  split <;> assumption

section Folds

variable {α β : Type} {s : State}

theorem foldl {f : State → α → State} {l : List α} (h : s.canonical) (hf : ∀ {s a}, s.canonical → (f s a).canonical) :
    (l.foldl f s).canonical := by
  induction l generalizing s with
  | nil => exact h
  | cons a l ih => exact ih (hf h)

end Folds

section

variable {s : State} (h : s.canonical)
include h

theorem atStep {n : Nat} {f : State → State} (hf : ∀ {s}, s.canonical → (f s).canonical) : (s.atStep n f).canonical :=
  .other (hf (.other h))

theorem eachSlot {f : State → Nat → State} (hf : ∀ {s i}, s.canonical → (f s i).canonical) : (s.eachSlot f).canonical := .foldl h hf

/-! ## What leaves the tables alone -/

theorem abandonCarry {y} : (s.abandonCarry y).canonical := h.of_frame (by simp)

theorem acknowledge {p m seq} : (s.acknowledge p m seq).canonical := h.of_frame (by simp)

theorem ackExpert {src area} : (s.ackExpert src area).canonical := h.of_frame (by simp)

theorem addTaps : s.addTaps.canonical := h.of_frame (by simp)

theorem applyGears : s.applyGears.canonical := h.of_frame (by simp)

theorem applySignal {id inc rep} : (s.applySignal id inc rep).canonical := h.of_frame (by simp)

theorem asPlan {base len} : (s.asPlan base len).canonical := h.of_frame (by simp)

theorem await {p m beat arg} : (s.await p m beat arg).canonical := h.of_frame (by simp)

theorem awaitObject {arg} : (s.awaitObject arg).canonical := h.of_frame (by simp)

theorem bankStep {g} : (s.bankStep g).canonical := h.of_frame (by simp)

theorem beginEpoch {r x} : (s.beginEpoch r x).canonical := h.of_frame (by simp)

theorem breakQueues {u} : (s.breakQueues u).canonical := h.of_frame (by simp)

theorem bump {key n} : (s.bump key n).canonical := h.of_frame (by simp)

theorem bumps {l} : (s.bumps l).canonical := h.of_frame (by simp)

theorem chooseCodes : s.chooseCodes.canonical := h.of_frame (by simp)

theorem ckptSkip {id why origin} : (s.ckptSkip id why origin).canonical := h.of_frame (by simp)

theorem clearCnt {blk f} : (s.clearCnt blk f).canonical := h.of_frame (by simp)

theorem clearForLoad : s.clearForLoad.canonical := h.of_frame (by simp)

theorem clearFrozen {origin} : (s.clearFrozen origin).canonical := h.of_frame (by simp)

theorem clearReuse {hen} : (s.clearReuse hen).canonical := h.of_frame (by simp)

theorem clearStatus : s.clearStatus.canonical := h.of_frame (by simp)

theorem clearStatusWords : s.clearStatusWords.canonical := h.of_frame (by simp)

theorem closeEpoch {r gate x} : (s.closeEpoch r gate x).canonical := h.of_frame (by simp)

theorem closeGates : s.closeGates.canonical := h.of_frame (by simp)

theorem discard {pos} : (s.discard pos).canonical := h.of_frame (by simp)

theorem drawBool : s.drawBool.2.canonical := h.of_frame (by simp)

theorem drawBytes {n} : (s.drawBytes n).2.canonical := h.of_frame (by simp)

theorem drawNat : s.drawNat.2.canonical := h.of_frame (by simp)

theorem dropMarkers {router x} : (s.dropMarkers router x).canonical := h.of_frame (by simp)

theorem dropQueues {x} : (s.dropQueues x).canonical := h.of_frame (by simp)

theorem emit {e} : (s.emit e).canonical := h.of_frame (by simp)

theorem emptyCarries : s.emptyCarries.canonical := h.of_frame (by simp)

theorem enterHeld {hold stopped} : (s.enterHeld hold stopped).canonical := h.of_frame (by simp)

theorem entryDone {e} : (s.entryDone e).canonical := h.of_frame (by simp)

theorem failAll {status} : (s.failAll status).canonical := h.of_frame (by simp)

theorem failStep {n ms warm} : (s.failStep n ms warm).canonical := h.of_frame (by simp)

theorem faultRecord {origin value} : (s.faultRecord origin value).canonical := h.of_frame (by simp)

theorem feedRows : s.feedRows.canonical := h.of_frame (by simp)

theorem gearBoundary : s.gearBoundary.canonical := h.of_frame (by simp)

theorem generateMap {origin} : (s.generateMap origin).canonical := h.of_frame (by simp)

theorem goatPark {g w ins planCyc slackCyc statKey} : (s.goatPark g w ins planCyc slackCyc statKey).canonical := h.of_frame (by simp)

theorem grow {i} : (s.grow i).canonical := h.of_frame (by simp)

theorem henShort {hen d c capped} : (s.henShort hen d c capped).canonical := h.of_frame (by simp)

theorem keepReps : s.keepReps.canonical := h.of_frame (by simp)

theorem kvTakeN {n} : (s.kvTakeN n).2.canonical := h.of_frame (by simp)

theorem latePartial {p addr} : (s.latePartial p addr).canonical := h.of_frame (by simp)

theorem launch {u f} : (s.launch u f).canonical := h.of_frame (by simp)

theorem log {origin cls inst old new} : (s.log origin cls inst old new).canonical := h.of_frame (by simp)

theorem logForm {form origin cls inst old new} : (s.logForm form origin cls inst old new).canonical := h.of_frame (by simp)

theorem logHash {origin cls inst old new} : (s.logHash origin cls inst old new).canonical := h.of_frame (by simp)

theorem makeBulkRecord {p m t n} : (s.makeBulkRecord p m t n).canonical := h.of_frame (by simp)

theorem makeRecord {p m status detail body} : (s.makeRecord p m status detail body).canonical := h.of_frame (by simp)

theorem markLate {p c own up} : (s.markLate p c own up).canonical := h.of_frame (by simp)

theorem missWork {r} : (s.missWork r).canonical := h.of_frame (by simp)

theorem muleOverlap {n d c capped} : (s.muleOverlap n d c capped).canonical := h.of_frame (by simp)

theorem noteLate {p d c} : (s.noteLate p d c).canonical := h.of_frame (by simp)

theorem ok {p m body} : (s.ok p m body).canonical := h.of_frame (by simp)

theorem oxBegin {x d} : (s.oxBegin x d).canonical := h.of_frame (by simp)

theorem packPrefill : s.packPrefill.2.canonical := h.of_frame (by simp)

theorem passExpert {w lane src data} : (s.passExpert w lane src data).canonical := h.of_frame (by simp)

theorem passOn {w m} : (s.passOn w m).canonical := h.of_frame (by simp)

theorem prunePaging : s.prunePaging.canonical := h.of_frame (by simp)

theorem pushQueue {q data} : (s.pushQueue q data).canonical := h.of_frame (by simp)

theorem raiseBoth {v} : (s.raiseBoth v).canonical := h.of_frame (by simp)

theorem raiseCause {cause detail} : (s.raiseCause cause detail).canonical := h.of_frame (by simp)

theorem received {u} : (s.received u).canonical := h.of_frame (by simp)

theorem reject {p m status detail} : (s.reject p m status detail).canonical := h.of_frame (by simp)

theorem resetPort {p} : (s.resetPort p).canonical := h.of_frame (by simp)

theorem resetRun {rep} : (s.resetRun rep).canonical := h.of_frame (by simp)

theorem respond {p tag result} : (s.respond p tag result).canonical := h.of_frame (by simp)

theorem returnTokens {ks} : (s.returnTokens ks).canonical := h.of_frame (by simp)

theorem sendExpert {lane dst data} : (s.sendExpert lane dst data).canonical := h.of_frame (by simp)

theorem sendMarkers {rt router epoch lane counts} : (s.sendMarkers rt router epoch lane counts).canonical := h.of_frame (by simp)

theorem sendMsg {port cls m} : (s.sendMsg port cls m).canonical := h.of_frame (by simp)

theorem sendNotice {n except} : (s.sendNotice n except).canonical := h.of_frame (by simp)

theorem sendPager {dst addr data} : (s.sendPager dst addr data).canonical := h.of_frame (by simp)

theorem sendQueue {q} : (s.sendQueue q).canonical := h.of_frame (by simp)

theorem setDev {d origin} : (s.setDev d origin).canonical := h.of_frame (by simp)

theorem setHealth {b} : (s.setHealth b).canonical := h.of_frame (by simp)

theorem setSide {g i e} : (s.setSide g i e).canonical := h.of_frame (by simp)

theorem setSlot {i x} : (s.setSlot i x).canonical := h.of_frame (by simp)

theorem setStream {u t} : (s.setStream u t).canonical := h.of_frame (by simp)

theorem setToken {k t} : (s.setToken k t).canonical := h.of_frame (by simp)

theorem settleAcks : s.settleAcks.canonical := h.of_frame (by simp)

theorem settleRemap : s.settleRemap.canonical := h.of_frame (by simp)

theorem shipPieces {p ts l} : (s.shipPieces p ts l).canonical := h.of_frame (by simp)

theorem slip {u f} : (s.slip u f).canonical := h.of_frame (by simp)

theorem stageImage {origin img} : (s.stageImage origin img).canonical := h.of_frame (by simp)

theorem startCmd {u f} : (s.startCmd u f).canonical := h.of_frame (by simp)

theorem startFirmware : s.startFirmware.canonical := h.of_frame (by simp)

theorem startNow {beat} : (s.startNow beat).canonical := h.of_frame (by simp)

theorem startPorts : s.startPorts.canonical := h.of_frame (by simp)

theorem stepRails : s.stepRails.canonical := h.of_frame (by simp)

theorem takeCap : s.takeCap.canonical := h.of_frame (by simp)

theorem takeDevice {b} : (s.takeDevice b).canonical := h.of_frame (by simp)

theorem updBegin {g d code} : (s.updBegin g d code).canonical := h.of_frame (by simp)

theorem updQueue {q f} : (s.updQueue q f).canonical := h.of_frame (by simp)

theorem updSuppress {g w} : (s.updSuppress g w).canonical := h.of_frame (by simp)

theorem warmMesh : s.warmMesh.canonical := h.of_frame (by simp)

theorem failQueue {p m status n} : (s.failQueue p m status n).canonical := h.of_frame (by simp)


/-! ## Pages and lines of HBM (13 R315 to R318, R323) -/

theorem setPte {p e} : (s.setPte p e).canonical := ⟨h.1, h.2.1, Tab.wf_set _ _ _ _ h.2.2⟩

theorem setLine {l v} : ({ s with lineErr := Tab.set 0 s.lineErr l v } : State).canonical := ⟨h.1, Tab.wf_set _ _ _ _ h.2.1, h.2.2⟩

theorem clearLine {b n} : ({ s with mem := Tab.clear s.mem b n } : State).canonical := ⟨Tab.wf_clear h.1 _ _, h.2⟩

theorem poke {key data} : (s.poke key data).canonical := ⟨Tab.wf_put _ _ _ _ h.1, h.2⟩

theorem addrFault {req a} : (s.addrFault req a).canonical := h.of_frame (by simp)

theorem eccUe {line flag} : (s.eccUe line flag).canonical :=
  .ite (.setHealth (.log (.setPte h.bump))) (.log (.setPte h.bump))

theorem eccCe {line} : (s.eccCe line).canonical := h.bump.setLine

theorem lineNotes {req a n} : (s.lineNotes req a n).canonical := .foldl h fun h => .ite h.eccUe h.eccCe

theorem hbmNoteRead {req a n} : (s.hbmNoteRead req a n).canonical := .foldl h fun h => .ite h.addrFault h.lineNotes

theorem noteRead {req key n} : (s.noteRead req key n).canonical :=
  .ite h (.ite h.hbmNoteRead (.ite (.discard h.drawBytes) h))

theorem lineWrite {req a data} : (s.lineWrite req a data).canonical :=
  .poke (.foldl h fun h => .ite h.setLine (.ite (.clearLine (.eccUe h.setLine)) (.bump h.setLine)))

theorem logRegionWrite {a data} : (s.logRegionWrite a data).canonical := h.lineWrite

theorem holdWrite {base req p off data} : (s.holdWrite base req p off data).canonical := .other (.ite (.other h.setPte) h)

theorem pageWrite {base req a data} : (s.pageWrite base req a data).canonical :=
  .ite h.addrFault (.ite h.bump (.ite h.holdWrite h.lineWrite))

theorem hbmWriteN {base req fuel a data} : (s.hbmWriteN base req fuel a data).canonical := by
  induction fuel generalizing s a data with
  | zero => exact h
  | succ fuel ih => exact .ite h (ih h.pageWrite)

theorem hbmWrite {req a data} : (s.hbmWrite req a data).canonical := h.hbmWriteN

/-! ## Spaces and queues (02 R35, 12 R302) -/

theorem write {req key data} : (s.write req key data).canonical := .ite h.hbmWrite (.ite h.discard h.poke)

theorem writeAny {req key data} : (s.writeAny req key data).canonical := by
  unfold State.writeAny
  split
  · exact h.pushQueue
  · exact h.write

theorem clobber {req outs} : (s.clobber req outs).canonical := .foldl h fun h => .ite (.hbmWrite h.drawBytes) (.poke h.drawBytes)

theorem joinTap {key clr t} : (s.joinTap key clr t).canonical := h.poke

end

end State.canonical

end Sys2Proof.Machine
end

section
/-! PROOFS. The canonical form is kept by the units' operations (04 to 10, 12, 13, 15): the results they write, the notes their reads
make, and the effects of commands in progress. -/

namespace Sys2Proof.Machine

namespace State.canonical

section

variable {s : State} (h : s.canonical)
include h

/-! ## The slot manager (14 R325, R341 to R351) -/

omit h in
theorem fstIte {α : Type} {x y : State × α} {p : Prop} [Decidable p] (hx : x.1.canonical) (hy : y.1.canonical) :
    (if p then x else y).1.canonical := by
  split <;> assumption

theorem smWrite {a data} : (s.smWrite a data).canonical := h.write

theorem kvRelease {b} : (s.kvRelease b).canonical := .ite h.bump (.smWrite (.other h))

theorem freeSlot {i} : (s.freeSlot i).canonical := .setSlot (.foldl h fun h => h.kvRelease)

theorem setIdx {a f v} : (s.setIdx a f v).canonical := h.smWrite

theorem writeRollout {i} : (s.writeRollout i).canonical := by
  refine .bump (.setIdx (.smWrite (.smWrite ?_)))
  split
  · exact h.drawNat
  · exact h

theorem retireLast {i} : (s.retireLast i).canonical := .ite h (.ite (.freeSlot (.log h.bump)) (.freeSlot h.writeRollout))

theorem closeSlots {reason} : (s.closeSlots reason).canonical := .eachSlot (.eachSlot h fun h => .ite h.setSlot h) fun h => h.retireLast

theorem harvest {i} : (s.harvest i).canonical := by
  unfold State.harvest
  extract_lets x
  split
  · exact h
  · refine .ite h.setSlot ?_
    split
    · exact .setSlot h.noteRead
    · exact .setSlot h.noteRead

theorem retire {i} : (s.retire i).canonical := .ite h (.ite h.bump (.freeSlot h.writeRollout))

theorem writeTables : s.writeTables.canonical := .smWrite (.smWrite h.drawBytes)

theorem writeIteration {dec pf} : (s.writeIteration dec pf).canonical := .smWrite (.smWrite (.smWrite h.drawBytes))

theorem publish {prod} : (s.publish prod).canonical := .bump (.other (.feedRows (.writeTables (.writeIteration h.packPrefill))))

theorem refill {prod i} : (s.refill prod i).1.canonical := by
  unfold State.refill
  extract_lets r a head len bad need t last x s1 acts s2 s3
  have hslot : s1.canonical := .setSlot (.noteRead h.kvTakeN)
  have hsample : s2.canonical := .other hslot
  have hring : s3.canonical := .ite hsample.setIdx hsample
  exact .fstIte h (.fstIte h (.fstIte h hring.bump))

theorem refillFrom {prod l} : (s.refillFrom prod l).canonical := by
  induction l generalizing s with
  | nil => exact h
  | cons i l ih => exact .ite (ih h.refill) h.refill

theorem breakStall : s.breakStall.canonical := by
  unfold State.breakStall
  refine .ite ?_ h
  split
  · exact .retire (.bump h.setSlot)
  · exact h

theorem boundary : s.boundary.canonical := .bump (.publish (.refillFrom (.breakStall
  (.eachSlot (.eachSlot (.eachSlot h.noteRead fun h => h.harvest) fun h => h.retire) fun h => h.grow))))

theorem smGo : s.smGo.canonical := .ite h (.other h.setIdx)

theorem smSuppress {red} : (s.smSuppress red).canonical := .ite h (.ite (.bump (.other h.setIdx)) (.log (.bump (.other h.setIdx))))

theorem writeBatch {r idx n rewards} : (s.writeBatch r idx n rewards).canonical :=
  .smWrite (.smWrite (.smWrite (.smWrite (.smWrite (.foldl h fun h => h.noteRead)))))

theorem clearSlots : s.clearSlots.canonical := .smWrite (.other h)

/-! ## Bulk replies (18 R452, 19 R466) -/

theorem bulkWrite {p t data} : (s.bulkWrite p t data).canonical := .ite h.emit h.hbmWrite

theorem bulkReply {p m t data} : (s.bulkReply p m t data).canonical := .ite (.makeBulkRecord h.bulkWrite) h.reject

theorem evalFinish : s.evalFinish.canonical := by
  unfold State.evalFinish
  split
  · split
    · exact .makeBulkRecord (.hbmNoteRead (.bulkWrite (.other h)))
    · exact h
  · exact h

/-! ## Ox cores (04 R82 to R91) -/

theorem drainOx {x fuel} : (s.drainOx x fuel).canonical := by
  induction fuel generalizing s with
  | zero => exact h
  | succ fuel ih =>
    unfold State.drainOx
    split
    · exact .ite (ih (.other (.setToken h.poke))) h
    · exact h

theorem oxPartial {x c o} : (s.oxPartial x c o).canonical := .ite (.poke (.foldl h fun h => h.poke)) (.ite h.poke h)

theorem oxIssue {x w fa fb} : (s.oxIssue x w fa fb).canonical := by
  have hstart {f p q} : (((s.launch x f).updQueue (2 * x) p).updQueue (2 * x + 1) q).canonical := .updQueue (.updQueue h.launch)
  exact .ite hstart (.ite (.drainOx (.other (.oxPartial hstart))) (.oxPartial hstart))

theorem oxFeed {x} : (s.oxFeed x).canonical := by
  unfold State.oxFeed
  split
  · extract_lets c
    split
    · exact .ite (.oxIssue h.updQueue.updQueue) h.updQueue.updQueue
    · exact h
  · exact h

theorem oxStep {x mode} : (s.oxStep x mode).canonical := by
  unfold State.oxStep
  split
  · split
    · exact .oxFeed h.oxBegin
    · exact h
  · exact h

/-! ## Goats (05 R119 to R130, 06, 08) -/

theorem flush {req d o} : (s.flush req d o).canonical := by
  unfold State.flush
  split
  · exact h.writeAny
  · exact .foldl h fun h => h.write

theorem drainEls {g p compress r els} : (s.drainEls g p compress r els).state.canonical := by
  unfold State.drainEls
  split
  · exact h.flush
  · exact h

theorem drainPat {g p compress r res} : (s.drainPat g p compress r res).state.canonical := h.drainEls

theorem drainRaw {g p ws} : (s.drainRaw g p ws).1.canonical := h.flush

theorem addInto {g c pat n rows} : (s.addInto g c pat n rows).state.canonical := h.drainPat

theorem goatIssue {g w} : (s.goatIssue g w).canonical := .launch (.returnTokens h.drainPat)

theorem goatGo {g} : (s.goatGo g).canonical := by
  unfold State.goatGo
  split
  · exact .atStep h fun h => h.goatIssue
  · exact h

theorem goatStep {g op} : (s.goatStep g op).canonical := by
  unfold State.goatStep
  split
  · exact .ite (.goatGo h.goatPark) h
  · exact h

theorem addIf {p : Prop} [Decidable p] {g c pat n rows counts outs cycles words} :
    (if p then s.addInto g c pat n rows
      else { state := s, counts := counts, outs := outs, cycles := cycles, words := words } : DrainOut).state.canonical := by
  split
  · exact h.addInto
  · exact h

theorem rowIssue {g w} : (s.rowIssue g w).canonical :=
  .launch (.addIf (.addIf (.foldl (.returnTokens h.drainPat) fun h => h.setSide)))

theorem rowGo {g} : (s.rowGo g).canonical := by
  unfold State.rowGo
  split
  · exact h.rowIssue
  · exact h

theorem rowOp {g rop} : (s.rowOp g rop).canonical := by
  unfold State.rowOp
  split
  · exact .ite (.rowGo h.goatPark) h
  · exact h

theorem toGoat {g key data} : (s.toGoat g key data).canonical := .ite h.discard h.poke

theorem loadTable {g slot data} : (s.loadTable g slot data).canonical := .ite h.toGoat (.other h.toGoat)

/-! ## Updates (08 R187 to R195) -/

theorem addLanes {rec off cnt clr ws} : (s.addLanes rec off cnt clr ws).canonical := .poke h.poke

theorem putGrec {g c k} : (s.putGrec g c k).canonical := .poke (.poke h.poke)

omit h in
/-- A record of outputs has the state that it was made with. -/
theorem outMk {t : State} (ht : t.canonical) {counts outs blocks clipped} : (UpdOut.mk t counts outs blocks clipped).state.canonical :=
  ht

omit h in
theorem emitOut {a : UpdOut} (ha : a.state.canonical) {g c e pat o els} : (a.emit g c e pat o els).state.canonical :=
  outMk ha.drainEls

omit h in
theorem emitAll {α : Type} {a : UpdOut} {f : UpdOut → α → UpdOut} {l : List α} (ha : a.state.canonical)
    (hf : ∀ {a x}, a.state.canonical → (f a x).state.canonical) : (l.foldl f a).state.canonical := by
  induction l generalizing a with
  | nil => exact ha
  | cons x l ih => exact ih (hf ha)

theorem updNan {g c e} : (s.updNan g c e).state.canonical := emitAll h fun ha => emitOut ha

theorem updStats {g c e} : (s.updStats g c e).state.canonical := emitOut (emitOut h)

theorem updFact {g c e} : (s.updFact g c e).state.canonical := by
  unfold State.updFact
  dsimp only
  split
  · exact outMk (.addLanes (emitOut h))
  · exact emitOut h

theorem updUsum {g c e k} : (s.updUsum g c e k).state.canonical := outMk h.addLanes

theorem updApply {g c e k} : (s.updApply g c e k).state.canonical :=
  outMk (.ite (.putGrec (emitAll h fun ha => emitOut ha)) (emitAll h fun ha => emitOut ha))

theorem updCast {g c e} : (s.updCast g c e).state.canonical := emitAll h fun ha => emitOut ha

theorem updRun {g c e k} : (s.updRun g c e k).state.canonical := by
  unfold State.updRun
  split
  · exact h.updStats
  · exact h.updFact
  · exact h.updUsum
  · exact h.updApply
  · exact h.updCast

theorem updIssue {g w} : (s.updIssue g w).canonical := by
  have hout {g c e b l} (k : GroupScalars) :
      ((if b = true then s.updNan g c e else s.updRun g c e k).state.returnTokens l).canonical := by
    refine .returnTokens ?_
    split
    · exact h.updNan
    · exact h.updRun
  refine .launch ?_
  split
  · exact .ite (.raiseCause (hout _)) (hout _)
  · exact hout _

theorem updGo {g} : (s.updGo g).canonical := by
  unfold State.updGo
  split
  · exact .ite h.updSuppress (.atStep h fun h => h.updIssue)
  · exact h

theorem updGate {g d} : (s.updGate g d).canonical := by
  refine .ite ?_ (.ite (.updGo h.updBegin) h.raiseCause)
  split
  · exact h.raiseCause
  · exact .updGo h.updBegin

theorem updOp {g uop} : (s.updOp g uop).canonical := by
  unfold State.updOp
  split
  · exact .ite (.ite h.updGate (.updGo h.updBegin)) h
  · exact h

theorem resumeGoat {g} : (s.resumeGoat g).canonical := by
  unfold State.resumeGoat
  dsimp only
  split
  · exact .ite (.goatGo h.bankStep) (.ite (.rowGo h.bankStep) (.updGo h.bankStep))
  · exact h.bankStep

/-! ## Hens (09 R207 to R226, 10 R233 to R253) -/

theorem noteRow {req b r w} : (s.noteRow req b r w).canonical := .foldl h fun h => h.noteRead

theorem putPieces {req l d} : (s.putPieces req l d).canonical := by
  induction l generalizing s d with
  | nil => exact h
  | cons p l ih => exact ih h.write

theorem putRow {req b r w data} : (s.putRow req b r w data).canonical := h.putPieces

theorem putGrid {req b w rows} : (s.putGrid req b w rows).canonical := .foldl h fun h => h.putRow

theorem setPresent {req map row v} : (s.setPresent req map row v).canonical := h.write

theorem gather {hen d} : (s.gather hen d).canonical := by
  unfold State.gather
  extract_lets c u
  split
  · exact h
  · exact .ite h.henShort (.startCmd (.other (.putGrid (.foldl h fun h => h.noteRow))))

theorem scatterAdd {hen d} : (s.scatterAdd hen d).canonical := by
  unfold State.scatterAdd
  extract_lets c u
  split
  · exact h
  · exact .ite h.henShort (.startCmd (.foldl (.foldl h fun h => h.noteRow) fun h => h.putRow))

theorem spmm {hen d} : (s.spmm hen d).canonical := by
  unfold State.spmm
  extract_lets c u
  split
  · exact .ite h.henShort (.startCmd (.poke (.foldl h fun h => h.write)))
  · exact h

theorem sampleCmd {hen d} : (s.sampleCmd hen d).canonical := .startCmd (.write h.drawBytes)

theorem route {hen d} : (s.route hen d).canonical :=
  .startCmd (.poke (.write (.write (.noteRead (.foldl h.beginEpoch fun h => h.noteRow)))))

theorem combineCmd {hen d} : (s.combineCmd hen d).canonical := by
  unfold State.combineCmd
  extract_lets c u rt
  split
  · exact h
  · exact .startCmd (.foldl (.putGrid (.noteRead (.foldl h.beginEpoch.closeEpoch fun h => h.noteRow))) fun h => h.setPresent)

theorem gateGradCmd {hen d} : (s.gateGradCmd hen d).canonical := by
  unfold State.gateGradCmd
  extract_lets c u rt
  split
  · exact h
  · exact .startCmd (.putGrid (.noteRead (.foldl (.foldl h.beginEpoch fun h => h.noteRow) fun h => h.noteRow)))

theorem sortCmd {hen d} : (s.sortCmd hen d).canonical := by
  unfold State.sortCmd
  extract_lets c u rt
  split
  · exact h
  · exact .startCmd (.foldl (.write (.putGrid (.foldl h.beginEpoch.closeEpoch fun h => h.noteRow))) fun h => h.write)

theorem recvRecord {link data} : (s.recvRecord link data).canonical := by
  unfold State.recvRecord
  refine .ite h.bump ?_
  dsimp only
  split
  · exact h
  · exact .foldl h.dropMarkers fun h => .other h.putRow

theorem sendRecord {rt c me t g sels row} : (s.sendRecord rt c me t g sels row).canonical := .other (.ite h.recvRecord h.sendExpert)

theorem dispatchCmd {hen d} : (s.dispatchCmd hen d).canonical := by
  unfold State.dispatchCmd
  extract_lets c u rt
  split
  · exact h
  · exact .startCmd (.ite (.other (.sendMarkers (.foldl (.foldl h.beginEpoch fun h => .noteRead h.noteRow) fun h => h.sendRecord)))
      (.foldl (.foldl h.beginEpoch fun h => .noteRead h.noteRow) fun h => h.sendRecord))

theorem recvAnswer {link data} : (s.recvAnswer link data).canonical := by
  unfold State.recvAnswer
  refine .ite h.bump ?_
  dsimp only
  split
  · exact h
  · exact .ite h.bump (.setPresent h.putRow)

theorem returnCmd {hen d} : (s.returnCmd hen d).canonical := by
  unfold State.returnCmd
  extract_lets c u rt
  split
  · exact h
  · exact .startCmd (.ite
      (.sendMarkers (.foldl (.foldl h.beginEpoch fun h => .noteRead h.noteRow) fun h => .ite h.recvAnswer h.sendExpert))
      (.foldl (.foldl h.beginEpoch fun h => .noteRead h.noteRow) fun h => .ite h.recvAnswer h.sendExpert))

/-! ## Mules (13 R328 to R334) -/

theorem muleCopy {n d} : (s.muleCopy n d).canonical := by
  unfold State.muleCopy
  dsimp only
  split
  · exact h
  · exact .ite h.muleOverlap (.startCmd (.foldl (.foldl h fun h => h.noteRead) fun h => h.writeAny))

theorem setTop {u r top} : (s.setTop u r top).canonical := h.hbmWrite

theorem stashPutCmd {n d} : (s.stashPutCmd n d).canonical := by
  have hdir {p : Prop} [Decidable p] {u r top} : (if p then s.setTop u r top else s.noteRead u r.dir 8).canonical :=
    .ite h.setTop h.noteRead
  exact .ite (.ite h.muleOverlap (.startCmd (.setTop (.write (.write (.noteRead hdir)))))) (.startCmd (.write (.drawNat hdir)))

theorem stashGetCmd {n d} : (s.stashGetCmd n d).canonical :=
  .ite (.ite h.muleOverlap (.startCmd (.foldl (.writeAny (.noteRead h.noteRead)) fun h => h.write)))
    (.startCmd (.foldl h.noteRead fun h => h.write))

/-! ## Links (15 R381 to R388) -/

theorem place {link m} : (s.place link m).canonical := .ite h h.write

theorem deliver {link m} : (s.deliver link m).canonical := .received h.place

theorem linkRead {p word n} : (s.linkRead p word n).2.canonical := h.noteRead

theorem sendTo {p d c} : (s.sendTo p d c).canonical := by
  refine .startCmd ?_
  split
  · exact .deliver h.linkRead
  · exact .sendMsg h.linkRead

theorem reduceHop {p d c} : (s.reduceHop p d c).canonical := by
  unfold State.reduceHop
  extract_lets own up s1
  have hlate : s1.canonical := h.markLate
  split
  next src s2 hread =>
    have hown : s2.canonical := by
      have := hlate.linkRead (p := p) (word := c.src) (n := if c.tr then s1.trailerBytes else c.cBytes)
      rwa [hread] at this
    extract_lets cy carry s3 r plan s4 s5 s6 code dst exit s7
    have hcarry : s3.canonical := by
      unfold s3 cy
      split
      · exact .ite (.other hown.noteRead) hown.abandonCarry
      · exact hown
    have htrailer : s4.canonical := .ite hcarry.other hcarry
    have hstale : s5.canonical := .ite htrailer.bump htrailer
    have hnoted : s6.canonical := .ite hstale.noteLate hstale
    have hsent : s7.canonical := .ite hnoted.write hnoted.sendMsg
    exact hsent.startCmd

/-! ## Commands in progress (12 R297, R307, 16 R404) -/

theorem completeCmd {u f w} : (s.completeCmd u f w).canonical := by
  unfold State.completeCmd
  extract_lets late s1 s1a s1c s1b s2 s3
  have hslip : s1.canonical := .ite h.slip h
  have hcode : s1a.canonical := .ite hslip hslip.setHealth
  have hnonfin : s1c.canonical := by
    unfold s1c
    split
    · exact hcode.other
    · exact hcode
  have htap : s1b.canonical := by
    unfold s1b
    split
    · exact hnonfin.joinTap
    · exact hnonfin
  have hstatus : s3.canonical := by
    unfold s3
    split
    · exact .poke (.bumps htap.bumps)
    · exact .bumps htap.bumps
  exact hstatus.applySignal

theorem stopStream {u} : (s.stopStream u).canonical :=
  .setStream (.ite (.updQueue (.updQueue (.other (.foldl h fun h => h.clobber)))) (.other (.foldl h fun h => h.clobber)))

theorem stopUnits : s.stopUnits.canonical := .other (.foldl h fun h => h.stopStream)

end

end State.canonical

end Sys2Proof.Machine
end

section
/-! PROOFS. The canonical form is kept by what Filuidom and the hardware do (13 R315, R316, R323, 16, 17, 19, 21): plans loaded, armed and
unloaded, checkpoints, the commit decision, paging, stops, fences and resets. -/

namespace Sys2Proof.Machine

namespace State.canonical

section

variable {s : State} (h : s.canonical)
include h

/-! ## A tick (13 R318) -/

theorem updLine {l f} : ({ s with lineErr := Tab.upd 0 s.lineErr l f } : State).canonical := ⟨h.1, Tab.wf_upd _ _ _ _ h.2.1, h.2.2⟩

theorem lineUpset : s.lineUpset.canonical := .ite (.updLine (.drawNat (.drawNat h.drawBool))) h.drawBool

theorem tick : s.tick.canonical := .settleRemap (.lineUpset (.ite (.gearBoundary (.other h)) h))

/-! ## Plans (12 R285, R290, R314, 13 R316, 19 R468, R469) -/

theorem writeImage {e} : (s.writeImage e).canonical := .foldl h fun h => .ite h.loadTable h.write

theorem writePlanImages : s.writePlanImages.canonical := .ite h (.foldl h fun h => h.writeImage)

theorem loadVariantImages {v} : (s.loadVariantImages v).canonical := .other (.foldl h fun h => .toGoat h.toGoat)

theorem clearUsage : s.clearUsage.canonical := .foldl h fun h => h.hbmWrite

theorem armPlan {origin} : (s.armPlan origin).canonical :=
  .other (.clearFrozen (.clearStatus (.clearSlots (.clearUsage (.writePlanImages (.loadVariantImages (.resetRun (.other h))))))))

theorem writeShipped : s.writeShipped.canonical := .foldl h fun h => .foldl h fun h => h.loadTable

theorem loadPlan {base len} : (s.loadPlan base len).canonical := by
  unfold State.loadPlan
  extract_lets digest s1 shadow dev pwr west east unit plan s2
  have hbuilt : s2.canonical := ⟨h.1, h.2.1, State.wf_buildPages s1⟩
  exact hbuilt.clearForLoad.writeShipped

theorem rewindRollouts : s.rewindRollouts.canonical := .clearSlots (.ite h (.setIdx (.setIdx h.setIdx)))

theorem abortRound : s.abortRound.canonical := .ite h.closeGates (.closeSlots h.closeGates)

theorem copyEntries {req r data n} : (s.copyEntries req r data n).canonical := .hbmWrite (.foldl h fun h => h.hbmWrite)

/-! ## Copy-on-write and checkpoints (13 R322, R323, 17 R421 to R437) -/

theorem copyPage {p} : (s.copyPage p).canonical := .foldl (.other (.setPte (.lineWrite h.hbmNoteRead))) fun h => h.lineWrite

theorem releaseHeld : s.releaseHeld.canonical := .settleAcks (.foldl (.other h) fun h => h.lineWrite)

theorem protect : s.protect.canonical := .other (.foldl h fun h => h.setPte)

theorem ckptEffect {id} : (s.ckptEffect id).canonical := .raiseBoth (.bump (.other (.protect (.releaseHeld (.ite h.bump h)))))

theorem noteImages {pages} : (s.noteImages pages).canonical :=
  .foldl h fun h => .ite (.other (.bump (.foldl h fun h => .ite h.eccUe h.eccCe))) (.foldl h fun h => .ite h.eccUe h.eccCe)

theorem shipCut {p} : (s.shipCut p).canonical := .other (.shipPieces (.noteImages h.drawNat))

theorem shipWhole {p list full pages} : (s.shipWhole p list full pages).1.canonical := .other (.shipPieces h.noteImages)

theorem cutStream : s.cutStream.canonical := .ite (.other (.shipCut (.shipCut (.other h)))) (.other h)

theorem abandonStream : s.abandonStream.canonical := by
  have habandoned : (if s.ck.state = 1 then (({ s.cutStream with ck.state := 5 } : State).bump CkptCnt.abandoned 1).raiseBoth 17
    else s).canonical := .ite (.raiseBoth (.bump (.other h.cutStream))) h
  exact .ite (.bump (.other habandoned)) habandoned

theorem failStream {code} : (s.failStream code).canonical := .ite (.raiseBoth (.log (.bump (.other h.cutStream)))) h

/-- Every page writable again and none copied. -/
theorem unprotect : s.unprotect.canonical := 
  ⟨h.1, h.2.1, Tab.wf_map_filter (fun e : Pte => { e with wp := false, copied := false }) h.2.2⟩

theorem copyBack : s.copyBack.canonical := by
  refine State.canonical.unprotect (.foldl h fun h => ?_)
  exact ⟨Tab.wf_graft h.1 h.1 _ _ _, Tab.wf_graft h.2.1 h.2.1 _ _ _, h.2.2⟩

theorem restoreBegin {o} : (s.restoreBegin o).canonical := .clearFrozen h.abandonStream

theorem loadPages {l} : (s.loadPages l).1.canonical := .foldl h fun h => h.lineWrite

theorem returnTo {b} : (s.returnTo b).canonical :=
  .other (.rewindRollouts (.writePlanImages (.loadVariantImages (.resetRun h.takeDevice))))

/-- The page table of IDLE. -/
theorem idlePages : ({ s with pte := logPages } : State).canonical := ⟨h.1, h.2.1, wf_logPages⟩

theorem unloadPlan : s.unloadPlan.canonical :=
  .other h.releaseHeld.keepReps.idlePages

/-! ## The commit decision and residency (07 R177, 08 R195, 10 R253 to R258) -/

theorem addUsage : s.addUsage.canonical := .foldl h fun h => h.hbmWrite

theorem writeStepRecord {step variant} : (s.writeStepRecord step variant).canonical := .other h.hbmWrite

theorem regear : s.regear.canonical := by
  unfold State.regear
  extract_lets v old plan s1 s2 chosen codes s3
  have hvariant : s1.canonical := .other h
  have hlogged : s2.canonical := .ite hvariant (.log hvariant.bump)
  have hcodes : s3.canonical := .other hlogged.chooseCodes
  exact hcodes.loadVariantImages

theorem residency {r} : (s.residency r).canonical := .other h.hbmWrite

theorem residencies : s.residencies.canonical := .foldl h fun h => .ite h.residency h

theorem decideStep {red} : (s.decideStep red).canonical := by
  unfold State.decideStep
  extract_lets n variant go plan s1 s2 s3 s4 s5
  have hdecided : s1.canonical := .other h
  have hgone : s2.canonical := .ite (.smGo hdecided.addTaps.addUsage) (.smSuppress (.emptyCarries (.log hdecided.bump)))
  have hrecord : s3.canonical := .applySignal hgone.writeStepRecord
  have hregear : s4.canonical := .ite hrecord.regear hrecord
  have hmaps : s5.canonical := .ite hregear (.ite hregear.missWork hregear.residencies)
  exact .ite hdecided.missWork hmaps.applySignal

theorem adoptMap {r} : (s.adoptMap r).canonical := by
  unfold State.adoptMap
  split
  · exact h
  · exact .other (.logHash (.bump h.hbmWrite))

theorem leadMap {p} : (s.leadMap p).canonical :=
  .ite (.adoptMap (.foldl h fun h => .ite h (.sendPager h.emit))) h

theorem coldWrite {place data} : (s.coldWrite place data).canonical := by
  unfold State.coldWrite
  split
  · exact .ite h.hbmWrite h.sendPager
  · exact h.emit

theorem coldRead {place} : (s.coldRead place).2.canonical := by
  unfold State.coldRead
  split
  · split
    · exact h.hbmNoteRead
    · exact .sendPager h.drawBytes
  · exact .emit h.drawBytes

theorem moveSwap {rt x} : (s.moveSwap rt x).canonical := by
  refine .bump (.bump (.foldl (.ite (.bump (.foldl h fun h => .hbmNoteRead h.coldWrite)) h) fun h => ?_))
  exact .hbmWrite h.coldRead

theorem tryMove {router x} : (s.tryMove router x).canonical := by
  unfold State.tryMove
  extract_lets rt
  split
  · exact .raiseCause h.hbmNoteRead
  · exact .ite h.raiseCause h.moveSwap

/-! ## Stops and fences (02 R34, 16 R404, R410) -/

theorem looseBanks {u} : (s.looseBanks u).canonical := .ite h.clobber h

theorem fenceUnit {u pos} : (s.fenceUnit u pos).canonical := by
  unfold State.fenceUnit
  extract_lets gated s1 unit s2 s3
  have hstopped : s1.canonical := .ite h (.setHealth (.looseBanks h.stopStream))
  have htiles : s2.canonical := .other hstopped
  have hqueues : s3.canonical := .breakQueues (.ite htiles.dropQueues htiles)
  exact .ite hqueues.raiseCause hqueues

theorem fencePos {pos} : (s.fencePos pos).canonical := by
  unfold State.fencePos
  refine .ite h ?_
  extract_lets geo s1
  have hclosed : s1.canonical := .other h
  split
  · exact .ite hclosed.fenceUnit hclosed
  · exact hclosed

theorem fenceSite {pos} : (s.fenceSite pos).canonical := .foldl h fun h => h.fencePos

theorem fenceCore {origin kind n pos} : (s.fenceCore origin kind n pos).canonical := .log (.other h.fenceSite)

theorem enterFaulted : s.enterFaulted.canonical := by
  unfold State.enterFaulted
  extract_lets s1 s2 s3 s4 flt s5 s6
  have hstopped : s2.canonical := .ite (.abandonStream h.stopUnits) h.stopUnits
  have hnoticed : s5.canonical := .other (s := s4) hstopped.faultRecord.sendNotice
  have hfaulted : s6.canonical := hnoticed.setDev
  exact .ite hfaulted.failAll hfaulted

theorem haltStop {origin entry} : (s.haltStop origin entry).canonical := by
  refine .sendNotice ?_
  split
  · exact .faultRecord h.stopUnits.abandonStream
  · exact h.stopUnits.abandonStream

theorem haltCore {origin entry} : (s.haltCore origin entry).canonical := .setDev h.haltStop

theorem haltActions {origin entry} : (s.haltActions origin entry).canonical := .ite (.failAll h.haltCore) h.haltCore

/-! ## Start-up, warm reset and the change log (21, 22 R536) -/

theorem enterIdle {ms} : (s.enterIdle ms).canonical := .takeCap (.setDev (.other h.idlePages))

theorem stepDone {n ms} : (s.stepDone n ms).canonical := by
  have hstep : ({ s with dev.stepDone := n } : State).canonical := .other h
  unfold State.stepDone
  extract_lets t
  split
  · exact hstep.stepRails
  · split
    · exact .other h
    · exact h.failStep
  · exact hstep.startFirmware
  · exact hstep.startPorts
  · exact hstep.generateMap
  · exact .ite (.other h) h.enterIdle
  · exact hstep

theorem warmQuiesce : s.warmQuiesce.canonical := by
  unfold State.warmQuiesce
  extract_lets o s1 s2 s3 s4
  have hbooting : s2.canonical := .ite (.log h.haltStop) (.setDev h.haltStop)
  have hfailed : s3.canonical := .ite hbooting.failAll hbooting
  exact .other (.clearFrozen (.clearStatusWords (.resetPort hfailed.resetPort)))

theorem warmCores : s.warmCores.canonical :=
  .applyGears (.foldl ⟨Tab.wf_filter _ _ _ h.1, h.2.1, wf_logPages⟩ fun h => h.clearCnt)

omit h in
theorem powerOff {dev} : (s.powerOff dev).canonical := ⟨Tab.wf_nil _, Tab.wf_nil _, wf_logPages⟩

theorem warmAction {k} : (s.warmAction k).canonical := by
  unfold State.warmAction
  split
  · exact h.warmQuiesce
  · exact h.releaseHeld
  · exact h.warmCores
  · exact h.warmMesh
  · exact .other h
  · exact .other h
  · exact h

theorem writeLogEntry {d} : (s.writeLogEntry d).canonical := .ite (.raiseBoth (.other h.logRegionWrite)) (.other h.logRegionWrite)

end

end State.canonical

end Sys2Proof.Machine
end

section
/-! PROOFS. Every command keeps the canonical form (13 R315, R316, R318), and so does every step: the commands that write one of the three
tables through the operations above, the others by their frames. -/

namespace Sys2Proof.Machine

/-- The state that an outcome gives next, if it gives one, is in canonical form. -/
def NextCanonical (o : Host.Outcome State Fault Refusal) : Prop := ∀ t, o = .next t → t.canonical

namespace NextCanonical

theorem next {t : State} (h : t.canonical) : NextCanonical (.next t) := fun _ heq => next_state heq ▸ h

theorem ite {p : Prop} [Decidable p] {a b : Host.Outcome State Fault Refusal} (ha : NextCanonical a) (hb : NextCanonical b) :
    NextCanonical (if p then a else b) := by
  split <;> assumption

theorem of_frame {s : State} {o : Host.Outcome State Fault Refusal} (h : s.canonical)
    (hf : ∀ t, o = .next t → t.mem = s.mem ∧ t.lineErr = s.lineErr ∧ t.pte = s.pte) : NextCanonical o :=
  fun t heq => h.of_frame (hf t heq)

theorem stop {o : Host.Outcome State Fault Refusal} (h : ∀ t, o = .next t → False) : NextCanonical o :=
  fun t heq => absurd heq (h t)

theorem fault {r : Fault} : NextCanonical (.fault r) := .stop fun _ heq => by cases heq

/-- A command that starts at the head of its stream, or does nothing. -/
theorem ofReady {s : State} {x : Option Nat} {f : Nat → State} (h : s.canonical) (hf : ∀ d, (f d).canonical) :
    NextCanonical (match x with | some d => .next (f d) | none => .next s) := by
  split
  · exact .next (hf _)
  · exact .next h

section

variable {s : State} (h : s.canonical)
include h

theorem runChanging {p m op wrong} {f : Command → State} (hf : ∀ c, (f c).canonical) :
    NextCanonical (s.runChanging p m op wrong f) := by
  unfold State.runChanging
  split
  · exact .next (.ite h.reject (.ite h.reject (hf _)))
  · exact .next h

theorem runReading {p m op} {f : State → Command → State} (hf : ∀ {s c}, s.canonical → (f s c).canonical) :
    NextCanonical (s.runReading p m op f) := by
  unfold State.runReading
  split
  · exact .next (.ite (hf h.acknowledge) (.reject h.acknowledge))
  · exact .next h

theorem runAtOnce {p m op} {f : State → State} (hf : ∀ {s}, s.canonical → (f s).canonical) :
    NextCanonical (s.runAtOnce p m op f) := by
  unfold State.runAtOnce
  split
  · exact .ite (.next h) (.ite (.next (.ite (.reject h.acknowledge) h)) (.next (hf h.failQueue)))
  · exact .next h

/-! ## Commands of the units -/

theorem execActEnd : NextCanonical (execActEnd s) := by
  unfold Machine.execActEnd
  split
  · exact .next (.entryDone (.other (.ite h.closeSlots (.ite h.evalFinish h))))
  · exact .next h

theorem execBatchTake : NextCanonical (execBatchTake s) := by
  unfold Machine.execBatchTake
  refine .ite (.next (.applySignal ?_)) (.next h)
  split
  · exact .bump (.setIdx (.writeBatch (.other h)))
  · exact .bump (.writeBatch (.other h))

theorem execGenBoundary : NextCanonical (execGenBoundary s) :=
  .ite (.next (.applySignal (.ite (.boundary (.other h)) (.bump (.writeIteration (.other h)))))) (.next h)

theorem execTableLoad {g} : NextCanonical (execTableLoad g s) := .ofReady h fun _ => .startCmd h.loadTable

theorem execSpill {g} : NextCanonical (execSpill g s) := by
  unfold Machine.execSpill
  split
  · refine .ite (.next h) (.next (.startCmd (.ite (.foldl ?_ fun h => h.setSide) h)))
    split
    · exact h.drainRaw
    · exact h
  · exact .next h

theorem execBankTokenReturn {x bank} : NextCanonical (execBankTokenReturn x bank s) := by
  unfold Machine.execBankTokenReturn
  split
  · exact .next (.drainOx h.setToken)
  · exact .next h

theorem execQueueCreditReturn {x q} : NextCanonical (execQueueCreditReturn x q s) :=
  .next (.oxFeed (.sendQueue (.updQueue h.oxFeed)))

theorem execBankTokenPass {x bank} : NextCanonical (execBankTokenPass x bank s) := by
  unfold Machine.execBankTokenPass
  extract_lets k
  split
  · exact .next (.ite (.other h) (.resumeGoat (.other h)))
  · exact .next h

theorem execGather {n} : NextCanonical (execGather n s) := .ofReady h fun _ => h.clearReuse.gather

theorem execScatterAdd {n} : NextCanonical (execScatterAdd n s) := .ofReady h fun _ => h.clearReuse.scatterAdd

theorem execSpmm {n} : NextCanonical (execSpmm n s) := .ofReady h fun _ => h.clearReuse.spmm

theorem execSample {n} : NextCanonical (execSample n s) := .ofReady h fun _ => h.clearReuse.sampleCmd

theorem execRoute {n} : NextCanonical (execRoute n s) := .ofReady h fun _ => h.clearReuse.route

theorem execDispatch {n} : NextCanonical (execDispatch n s) := .ofReady h fun _ => h.clearReuse.dispatchCmd

theorem execSort {n} : NextCanonical (execSort n s) := .ofReady h fun _ => h.clearReuse.sortCmd

theorem execRet {n} : NextCanonical (execRet n s) := .ofReady h fun _ => h.clearReuse.returnCmd

theorem execCombine {n} : NextCanonical (execCombine n s) := .ofReady h fun _ => h.clearReuse.combineCmd

theorem execGateGrad {n} : NextCanonical (execGateGrad n s) := .ofReady h fun _ => h.clearReuse.gateGradCmd

theorem execMuleCopy {n} : NextCanonical (execMuleCopy n s) := .ofReady h fun _ => .ite h.muleCopy h

theorem execStashPut {n} : NextCanonical (execStashPut n s) := .ofReady h fun _ => h.stashPutCmd

theorem execStashGet {n} : NextCanonical (execStashGet n s) := .ofReady h fun _ => .ite h.stashGetCmd h

theorem execXsend {port} : NextCanonical (execXsend port s) := .ofReady h fun _ => h.sendTo

theorem execXsignal {port} : NextCanonical (execXsignal port s) := .ofReady h fun _ => h.sendTo

theorem execXreduce {port} : NextCanonical (execXreduce port s) := .ofReady h fun _ => h.reduceHop

theorem execXmcast {port} : NextCanonical (execXmcast port s) := .ofReady h fun _ => .startCmd (.sendMsg h.linkRead)

theorem execCommandComplete {u w} : NextCanonical (execCommandComplete u w s) := by
  unfold Machine.execCommandComplete
  split
  next hchecked =>
    obtain ⟨-, rfl⟩ := (checked_next _ _ _).1 hchecked
    refine .ite (.next h) ?_
    split
    · exact .next (.completeCmd h.setStream)
    · exact .next h
  next hother => exact .stop hother

/-! ## Links -/

theorem execDispatchRecordRx {msg} : NextCanonical (execDispatchRecordRx msg s) := by
  unfold Machine.execDispatchRecordRx
  split
  next hchecked =>
    obtain ⟨-, rfl⟩ := (checked_next _ _ _).1 hchecked
    refine .ite (.next h) ?_
    split
    · exact .next h.passExpert
    · exact .next (.ackExpert h.recvRecord)
  next hother => exact .stop hother

theorem execAnswerRx {msg} : NextCanonical (execAnswerRx msg s) := by
  unfold Machine.execAnswerRx
  split
  next hchecked =>
    obtain ⟨-, rfl⟩ := (checked_next _ _ _).1 hchecked
    refine .ite (.next h) ?_
    split
    · exact .next h.passExpert
    · exact .next (.ackExpert h.recvAnswer)
  next hother => exact .stop hother

theorem execCarryCopy {port} : NextCanonical (execCarryCopy port s) := by
  unfold Machine.execCarryCopy
  split
  · exact .next (.applySignal (.bumps (.hbmWrite (.other h.noteRead))))
  · exact .next h

theorem execMcastRx {port msg} : NextCanonical (execMcastRx port msg s) := by
  unfold Machine.execMcastRx
  split
  next hchecked =>
    obtain ⟨-, rfl⟩ := (checked_next _ _ _).1 hchecked
    refine .ite (.next h) ?_
    split
    · exact .ite (.next h) (.next h.passOn)
    · exact .ite (.next h.deliver) (.next (.sendMsg h.deliver))
  next hother => exact .stop hother

theorem execMessageRx {port msg} : NextCanonical (execMessageRx port msg s) := by
  unfold Machine.execMessageRx
  split
  next hchecked =>
    obtain ⟨-, rfl⟩ := (checked_next _ _ _).1 hchecked
    refine .ite (.next h) ?_
    split
    · exact .next h.passOn
    · exact .ite (.next h.deliver) (.next h)
  next hother => exact .stop hother

theorem execPartialRx {port msg} : NextCanonical (execPartialRx port msg s) := by
  unfold Machine.execPartialRx
  split
  next hchecked =>
    obtain ⟨-, rfl⟩ := (checked_next _ _ _).1 hchecked
    refine .ite (.next h) ?_
    split
    · exact .next h.passOn
    · exact .ite (.next (.received (.latePartial h.poke))) (.next h)
  next hother => exact .stop hother

theorem execRedirectSet {port src} : NextCanonical (execRedirectSet port src s) := by
  unfold Machine.execRedirectSet
  split
  next hchecked =>
    obtain ⟨-, rfl⟩ := (checked_next _ _ _).1 hchecked
    exact .ite (.next (.foldl (.other h) fun h => .ite h.fencePos h)) (.next h)
  next hother => exact .stop hother

/-! ## Pages and lines -/

theorem execCowCopyDone {page held} : NextCanonical (execCowCopyDone page held s) :=
  .ite (.next (.settleAcks (.bumps h.copyPage))) (.next h)

theorem execCowWriteHold {page offset data} : NextCanonical (execCowWriteHold page offset data s) := by
  unfold Machine.execCowWriteHold
  split
  next hchecked =>
    obtain ⟨-, rfl⟩ := (checked_next _ _ _).1 hchecked
    exact .ite (.next h.holdWrite) (.next h)
  next hother => exact .stop hother

theorem execPatrolScrub {line ecc} : NextCanonical (execPatrolScrub line ecc s) := by
  unfold Machine.execPatrolScrub
  split
  next hchecked =>
    obtain ⟨-, rfl⟩ := (checked_next _ _ _).1 hchecked
    exact .ite (.next h) (.ite (.next (.eccUe h.setLine)) (.ite (.next h.eccCe) (.next h)))
  next hother => exact .stop hother

/-! ## Checkpoints -/

theorem execCheckpoint : NextCanonical (execCheckpoint s) := by
  have hfrozen : (if s.flt.frozen = true then s.bump FaultCnt.frozenCkpts 1 else s).canonical := .ite h.bump h
  unfold Machine.execCheckpoint
  split
  · exact .next (.entryDone (.ite hfrozen.ckptSkip (.ite hfrozen.missWork hfrozen.ckptEffect)))
  · exact .next h

theorem execCkptNowEffect : NextCanonical (execCkptNowEffect s) := by
  unfold Machine.execCkptNowEffect
  split
  · exact .ite (.next (.makeRecord h.missWork)) (.ite (.next (.ok (.log h.ckptEffect))) (.next (.makeRecord h.ckptSkip)))
  · exact .next h

theorem execCkptStreamStart : NextCanonical (execCkptStreamStart s) :=
  .ite (.ite (.next (.other h.drawNat)) (.next h.failStream)) (.next h)

theorem execCkptTargetError {p} : NextCanonical (execCkptTargetError p s) := .ite (.next h.failStream) (.next h)

theorem execCkptClose : NextCanonical (execCkptClose s) := by
  unfold Machine.execCkptClose
  refine .ite ?_ (.next h)
  extract_lets pa pb
  split
  next s1 ca hshipA =>
    split
    next s2 cb hshipB =>
      have hA : s1.canonical := by simpa [hshipA] using h.shipWhole (p := 0) (list := 0) (full := s.ck.fullCold) (pages := pa)
      have hB : s2.canonical := by simpa [hshipB] using hA.shipWhole (p := 1) (list := 0) (full := s.ck.fullCold) (pages := pb)
      exact .next (.raiseBoth (.log (.bump hB.other)))

theorem execSnapshotClose : NextCanonical (execSnapshotClose s) := by
  have hshipped {p : Prop} [Decidable p] {full pa pb} :
      (if p then ((s.shipWhole 0 1 full pa).1.shipWhole 1 1 full pb).1 else s).canonical := .ite h.shipWhole.shipWhole h
  exact .ite (.next (.log (.bump (.other hshipped)))) (.next h)

theorem execRestore {p m hostA hostB} : NextCanonical (execRestore p m hostA hostB s) := by
  unfold Machine.execRestore
  split
  next hchecked =>
    obtain ⟨-, rfl⟩ := (checked_next _ _ _).1 hchecked
    exact .runChanging h fun _ => .ite h.reject (.ok (.setDev (.bump (.log (.log (.other (.returnTo (.loadPages (.loadPages
      h.restoreBegin.unprotect)))))))))
  next hother => exact .stop hother

theorem execRestoreSourceError {p m hostA hostB doneA doneB} :
    NextCanonical (execRestoreSourceError p m hostA hostB doneA doneB s) := by
  unfold Machine.execRestoreSourceError
  split
  next hchecked =>
    obtain ⟨-, rfl⟩ := (checked_next _ _ _).1 hchecked
    exact .runChanging h fun _ => .ite h.reject (.makeRecord (.other (.loadPages (.loadPages h.restoreBegin.unprotect))))
  next hother => exact .stop hother

theorem execRollback {p m} : NextCanonical (execRollback p m s) :=
  .runChanging h fun _ => .ite h.reject (.ok (.setDev (.log (.bump (.returnTo (.copyBack (.clearFrozen h.abandonStream)))))))

/-! ## Host commands -/

theorem execFenceCore {p m} : NextCanonical (execFenceCore p m s) := by
  refine .runChanging h fun _ => ?_
  dsimp only
  split
  · exact .ite h.reject (.ite h.makeRecord (.awaitObject h.fenceCore))
  · exact h.reject

theorem execFwStage {p m host} : NextCanonical (execFwStage p m host s) := by
  unfold Machine.execFwStage
  split
  next hchecked =>
    obtain ⟨-, rfl⟩ := (checked_next _ _ _).1 hchecked
    refine .runChanging h fun _ => .ite h.reject ?_
    have hread {q : Prop} [Decidable q] {req a n} : (if q then s.hbmNoteRead req a n else s).canonical := .ite h.hbmNoteRead h
    exact .ite (.ok (.stageImage hread)) (.reject hread)
  next hother => exact .stop hother

theorem execHalt {p m} : NextCanonical (execHalt p m s) :=
  .ite (.runReading h fun h => h.ok) (.runAtOnce h fun h => .failAll (.ok h.haltCore))

theorem execBar2Read {p offset len} : NextCanonical (execBar2Read p offset len s) := by
  unfold Machine.execBar2Read
  split
  next hchecked =>
    obtain ⟨-, rfl⟩ := (checked_next _ _ _).1 hchecked
    exact .ite .fault (.ite (.next (.emit h.hbmNoteRead)) (.next h))
  next hother => exact .stop hother

theorem execBar2Write {p offset data} : NextCanonical (execBar2Write p offset data s) := by
  unfold Machine.execBar2Write
  split
  next hchecked =>
    obtain ⟨-, rfl⟩ := (checked_next _ _ _).1 hchecked
    exact .ite .fault (.ite (.ite (.next h.hbmWrite) (.next h.bump)) (.next h))
  next hother => exact .stop hother

theorem execPortReset {p kind} : NextCanonical (execPortReset p kind s) := by
  refine .ite (.next h) ?_
  have hreset {c} : (((s.resetPort p.val).log (fromHardware p.val) 0x0012 p.val 0 c).bump (MbxCnt.portResets p.val) 1).canonical :=
    .bump (.log h.resetPort)
  cases kind with
  | functionLevel => exact .next hreset
  | hot => exact .next hreset
  | perst => exact .next (.ite (.failStream (.other hreset)) (.other hreset))
  | linkDown => exact .next (.ite (.failStream (.other hreset)) (.other hreset))

theorem execAttest {p m} : NextCanonical (execAttest p m s) := .runReading h fun h => .ite h.reject (.bulkReply (.logForm (.other h)))

theorem execLogRead {p m} : NextCanonical (execLogRead p m s) :=
  .runReading h fun h => .ite h.reject (.ite h.reject (.ite h.reject h.bulkReply))

theorem execMapRead {p m} : NextCanonical (execMapRead p m s) := .runReading h fun h => .ite h.bulkReply h.reject

theorem execTelemetryRead {p m} : NextCanonical (execTelemetryRead p m s) := by
  refine .runReading h fun h => ?_
  split
  · exact .ite h.bulkReply (.ite h.ok h.reject)
  · exact h.reject

theorem execAbortEffect : NextCanonical (execAbortEffect s) := by
  unfold Machine.execAbortEffect
  split
  · exact .next (.ok (.log h.abortRound))
  · exact .next h

theorem execAbortRound {p m} : NextCanonical (execAbortRound p m s) :=
  .runChanging h fun _ => .ite h.reject (.ite (.ok (.log h.abortRound)) h.await)

theorem execEvalRun {p m host} : NextCanonical (execEvalRun p m host s) := by
  unfold Machine.execEvalRun
  split
  next hchecked =>
    obtain ⟨-, rfl⟩ := (checked_next _ _ _).1 hchecked
    exact .runChanging h fun _ => .ite h.reject (.awaitObject (.other (.log (.copyEntries (.ite h.hbmNoteRead h)))))
  next hother => exact .stop hother

theorem execHoldStop : NextCanonical (execHoldStop s) := by
  unfold Machine.execHoldStop
  split
  · exact .ite (.next (.enterHeld h.stopUnits)) (.next h)
  · exact .next h

theorem execPlanArm {p m} : NextCanonical (execPlanArm p m s) := .runChanging h fun _ => .ok (.setDev (.logForm h.armPlan))

theorem execPlanLoad {p m} : NextCanonical (execPlanLoad p m s) := by
  refine .runChanging h fun _ => .ite h.reject ?_
  extract_lets len
  split
  · exact h.reject
  · exact .ok (.setDev (.logForm (.loadPlan h.hbmNoteRead)))

theorem execPlanUnload {p m} : NextCanonical (execPlanUnload p m s) := .runChanging h fun _ => .ok (.setDev (.logForm h.unloadPlan))

theorem execRunStart : NextCanonical (execRunStart s) := by
  unfold Machine.execRunStart
  split
  · exact .next (.ok (.setDev (.log (.startNow (.ite (.rewindRollouts h.resetRun) h)))))
  · exact .next h

/-! ## Stops, start-up and reset -/

theorem execFaultEnter : NextCanonical (execFaultEnter s) := by
  unfold Machine.execFaultEnter
  refine .ite ?_ (.next h)
  split
  · exact .next h.enterFaulted
  · exact .next h.enterFaulted
  · exact .next h.enterFaulted
  · exact .next h.enterFaulted
  · exact .next (.other h)
  · exact .next (.other h)
  · exact .next h
  · exact .next h

theorem execMsCtrlWrite {pos v} : NextCanonical (execMsCtrlWrite pos v s) :=
  .ite (.next h) (.ite (.next h.fenceSite) (.ite (.next (.other h)) (.next h)))

theorem execRespHalt {p tag key} : NextCanonical (execRespHalt p tag key s) := by
  unfold Machine.execRespHalt
  split
  next hchecked =>
    obtain ⟨-, rfl⟩ := (checked_next _ _ _).1 hchecked
    exact .ite (.next h) (.ite (.next h.respond) (.ite (.next h.respond) (.ite (.next h.respond) (.next (.respond h.haltActions)))))
  next hother => exact .stop hother

theorem execLogEntryWrite : NextCanonical (execLogEntryWrite s) := by
  unfold Machine.execLogEntryWrite
  split
  · exact .ite (.next h.writeLogEntry) (.next h)
  · exact .next h

theorem execPwrEnDeassert : NextCanonical (execPwrEnDeassert s) := .ite (.next .powerOff) (.next h)

theorem execInputPowerLoss : NextCanonical (execInputPowerLoss s) := .ite (.next .powerOff) (.next h)

theorem execTrip {cause detail} : NextCanonical (execTrip cause detail s) := by
  unfold Machine.execTrip
  split
  next hchecked =>
    obtain ⟨-, rfl⟩ := (checked_next _ _ _).1 hchecked
    exact .ite (.next .powerOff) (.next h)
  next hother => exact .stop hother

theorem execJtagExtest : NextCanonical (execJtagExtest s) :=
  .ite (.next h) (.next (.ite (.log (.other h)) (.haltActions (.log (.other h)))))

theorem execSbHaltWrite {bytes} : NextCanonical (execSbHaltWrite bytes s) :=
  .next (.ite h (.ite (.other h) (.ite (.other h) (.ite (.other h) (.haltActions (.other h))))))

theorem execStartStepDone {ok ms} : NextCanonical (execStartStepDone ok ms s) := by
  unfold Machine.execStartStepDone
  split
  next hchecked =>
    obtain ⟨-, rfl⟩ := (checked_next _ _ _).1 hchecked
    exact .ite (.next h) (.ite (.next h.failStep.settleRemap) (.ite (.next h) (.next h.stepDone.settleRemap)))
  next hother => exact .stop hother

theorem execWarmResetStep {ok ms} : NextCanonical (execWarmResetStep ok ms s) := by
  unfold Machine.execWarmResetStep
  split
  next hchecked =>
    obtain ⟨-, rfl⟩ := (checked_next _ _ _).1 hchecked
    exact .ite (.next h) (.ite (.next h.failStep) (.next (.settleRemap (.other h.warmAction))))
  next hother => exact .stop hother

/-! ## The commit decision and paging -/

theorem execCommit : NextCanonical (execCommit s) := by
  unfold Machine.execCommit
  split
  · split
    · exact .next (.entryDone (.decideStep (.other h)))
    · exact .next (.entryDone (.other h))
  · exact .next h

theorem execHealthCut : NextCanonical (execHealthCut s) := by
  unfold Machine.execHealthCut
  split
  · exact .next (.entryDone (.hbmWrite (.bump (.other h.clearCnt))))
  · exact .next h

theorem execReducedTrailerRx : NextCanonical (execReducedTrailerRx s) := by
  have hread {req a n v} : ({ s.hbmNoteRead req a n with plan.rtrSeen := v } : State).canonical := .other h.hbmNoteRead
  exact .ite (.ite (.ite (.next (.bump (.decideStep hread))) (.next (.other hread))) (.next (.bump hread))) (.next h)

theorem execPagingStart : NextCanonical (execPagingStart s) := by
  unfold Machine.execPagingStart
  split
  · exact .ite (.next (.prunePaging (.leadMap (.other h)))) (.next h)
  · exact .next h

theorem execResidencyMapRx {router version digest mapBytes} : NextCanonical (execResidencyMapRx router version digest mapBytes s) := by
  unfold Machine.execResidencyMapRx
  split
  next hchecked =>
    obtain ⟨-, rfl⟩ := (checked_next _ _ _).1 hchecked
    split
    · exact .ite (.ite (.next h.adoptMap.prunePaging) (.next h.bump.raiseCause)) (.next h)
    · exact .next h
  next hother => exact .stop hother

theorem execPagerMoveDone {r} : NextCanonical (execPagerMoveDone r s) := by
  unfold Machine.execPagerMoveDone
  split
  · split
    · refine .ite (.ite (.next h.raiseCause) ?_) (.next h)
      dsimp only
      split
      · exact .next h.eccUe.raiseCause
      · exact .ite (.next h.tryMove) (.next (.ite (.bump (.prunePaging (.other h.tryMove))) (.prunePaging (.other h.tryMove))))
    · exact .next h
  · exact .next h

/-! ## Every command -/

/-- Each command that writes one of the three tables by its own lemma, every other one by its frame. -/
theorem exec (c : Instr) : NextCanonical (exec c s) := by
  cases c with
  | ident p m => exact .of_frame h fun t hnext => by simp [execIdent_frame p m s t hnext]
  | status p m => exact .of_frame h fun t hnext => by simp [execStatus_frame p m s t hnext]
  | logRead => exact .execLogRead h
  | logTail p m => exact .of_frame h fun t hnext => by simp [execLogTail_frame p m s t hnext]
  | setSteward p m => exact .of_frame h fun t hnext => by simp [execSetSteward_frame p m s t hnext]
  | configGet p m => exact .of_frame h fun t hnext => by simp [execConfigGet_frame p m s t hnext]
  | configSet p m => exact .of_frame h fun t hnext => by simp [execConfigSet_frame p m s t hnext]
  | apertureSet p m => exact .of_frame h fun t hnext => by simp [execApertureSet_frame p m s t hnext]
  | mapRead => exact .execMapRead h
  | planLoad => exact .execPlanLoad h
  | planArm => exact .execPlanArm h
  | planUnload => exact .execPlanUnload h
  | runAtBeat p m => exact .of_frame h fun t hnext => by simp [execRunAtBeat_frame p m s t hnext]
  | hold p m => exact .of_frame h fun t hnext => by simp [execHold_frame p m s t hnext]
  | resume p m => exact .of_frame h fun t hnext => by simp [execResume_frame p m s t hnext]
  | abortRound => exact .execAbortRound h
  | evalRun => exact .execEvalRun h
  | ckptTargets p m => exact .of_frame h fun t hnext => by simp [execCkptTargets_frame p m s t hnext]
  | ckptPolicy p m => exact .of_frame h fun t hnext => by simp [execCkptPolicy_frame p m s t hnext]
  | ckptNow p m => exact .of_frame h fun t hnext => by simp [execCkptNow_frame p m s t hnext]
  | restore => exact .execRestore h
  | rollback => exact .execRollback h
  | spareEnlist p m => exact .of_frame h fun t hnext => by simp [execSpareEnlist_frame p m s t hnext]
  | spareTakeover p m => exact .of_frame h fun t hnext => by simp [execSpareTakeover_frame p m s t hnext]
  | fenceCore => exact .execFenceCore h
  | timeRole p m => exact .of_frame h fun t hnext => by simp [execTimeRole_frame p m s t hnext]
  | timeSyncWall p m => exact .of_frame h fun t hnext => by simp [execTimeSyncWall_frame p m s t hnext]
  | powerLimit p m => exact .of_frame h fun t hnext => by simp [execPowerLimit_frame p m s t hnext]
  | gearPolicy p m => exact .of_frame h fun t hnext => by simp [execGearPolicy_frame p m s t hnext]
  | telemetryRead => exact .execTelemetryRead h
  | attest => exact .execAttest h
  | fwStage => exact .execFwStage h
  | fwCommit p m => exact .of_frame h fun t hnext => by simp [execFwCommit_frame p m s t hnext]
  | halt => exact .execHalt h
  | resetPart p m => exact .of_frame h fun t hnext => by simp [execResetPart_frame p m s t hnext]
  | mailboxSubmit p m offset data => exact .of_frame h fun t hnext => by simp [execMailboxSubmit_frame p m offset data s t hnext]
  | consumedWrite p m seq => exact .of_frame h fun t hnext => by simp [execConsumedWrite_frame p m seq s t hnext]
  | recordPost p m => exact .of_frame h fun t hnext => by simp [execRecordPost_frame p m s t hnext]
  | deviceQueueHead => exact .of_frame h fun t hnext => by simp [execDeviceQueueHead_frame s t hnext]
  | respStatus p tag => exact .of_frame h fun t hnext => by simp [execRespStatus_frame p tag s t hnext]
  | respLogTail p tag => exact .of_frame h fun t hnext => by simp [execRespLogTail_frame p tag s t hnext]
  | respHalt => exact .execRespHalt h
  | respResetPart p tag key => exact .of_frame h fun t hnext => by simp [execRespResetPart_frame p tag key s t hnext]
  | portReset => exact .execPortReset h
  | perstDeassert p speed width => exact .of_frame h fun t hnext => by simp [execPerstDeassert_frame p speed width s t hnext]
  | msixUnmask p vector => exact .of_frame h fun t hnext => by simp [execMsixUnmask_frame p vector s t hnext]
  | bar2Read => exact .execBar2Read h
  | bar2Write => exact .execBar2Write h
  | bar0WriteDiscard p offset len => exact .of_frame h fun t hnext => by simp [execBar0WriteDiscard_frame p offset len s t hnext]
  | pwrEnAssert slotId within200ms => exact .of_frame h fun t hnext => by simp [execPwrEnAssert_frame slotId within200ms s t hnext]
  | startStepDone => exact .execStartStepDone h
  | pwrEnDeassert => exact .execPwrEnDeassert h
  | inputPowerLoss => exact .execInputPowerLoss h
  | resetIn => exact .of_frame h fun t hnext => by simp [execResetIn_frame s t hnext]
  | warmResetStep => exact .execWarmResetStep h
  | boardRefLoss => exact .of_frame h fun t hnext => by simp [execBoardRefLoss_frame s t hnext]
  | i3cCcc c => exact .of_frame h fun t hnext => by simp [execI3cCcc_frame c s t hnext]
  | sbCapWrite bytes => exact .of_frame h fun t hnext => by simp [execSbCapWrite_frame bytes s t hnext]
  | sbHaltWrite => exact .execSbHaltWrite h
  | sbStatusWrite bytes => exact .of_frame h fun t hnext => by simp [execSbStatusWrite_frame bytes s t hnext]
  | jtagExtest => exact .execJtagExtest h
  | jtagInstruction op => exact .of_frame h fun t hnext => by simp [execJtagInstruction_frame op s t hnext]
  | periodStart => exact .of_frame h fun t hnext => by simp [execPeriodStart_frame s t hnext]
  | deadline => exact .of_frame h fun t hnext => by simp [execDeadline_frame s t hnext]
  | healthCut => exact .execHealthCut h
  | commit => exact .execCommit h
  | updateClose => exact .of_frame h fun t hnext => by simp [execUpdateClose_frame s t hnext]
  | checkpoint => exact .execCheckpoint h
  | residencyReady => exact .of_frame h fun t hnext => by simp [execResidencyReady_frame s t hnext]
  | gear => exact .of_frame h fun t hnext => by simp [execGear_frame s t hnext]
  | actStart => exact .of_frame h fun t hnext => by simp [execActStart_frame s t hnext]
  | actEnd => exact .execActEnd h
  | mark => exact .of_frame h fun t hnext => by simp [execMark_frame s t hnext]
  | envelopeRamp missed => exact .of_frame h fun t hnext => by simp [execEnvelopeRamp_frame missed s t hnext]
  | syncSend => exact .of_frame h fun t hnext => by simp [execSyncSend_frame s t hnext]
  | syncRx port msg frac => exact .of_frame h fun t hnext => by simp [execSyncRx_frame port msg frac s t hnext]
  | delayMeasure port frac => exact .of_frame h fun t hnext => by simp [execDelayMeasure_frame port frac s t hnext]
  | delayReqRx port msg frac heldFor =>
    exact .of_frame h fun t hnext => by simp [execDelayReqRx_frame port msg frac heldFor s t hnext]
  | delayRespRx port msg frac => exact .of_frame h fun t hnext => by simp [execDelayRespRx_frame port msg frac s t hnext]
  | holdoverEntry => exact .of_frame h fun t hnext => by simp [execHoldoverEntry_frame s t hnext]
  | holdoverExpiry => exact .of_frame h fun t hnext => by simp [execHoldoverExpiry_frame s t hnext]
  | slewDone => exact .of_frame h fun t hnext => by simp [execSlewDone_frame s t hnext]
  | standbyTakeover => exact .of_frame h fun t hnext => by simp [execStandbyTakeover_frame s t hnext]
  | wallAdopt => exact .of_frame h fun t hnext => by simp [execWallAdopt_frame s t hnext]
  | counterSignal id inc rep => exact .of_frame h fun t hnext => by simp [execCounterSignal_frame id inc rep s t hnext]
  | oxWs => exact .next h.oxStep
  | oxOs => exact .next h.oxStep
  | oxIs => exact .next h.oxStep
  | bankTokenPass => exact .execBankTokenPass h
  | bankTokenReturn => exact .execBankTokenReturn h
  | queueCreditReturn => exact .execQueueCreditReturn h
  | copy => exact .next h.goatStep
  | add => exact .next h.goatStep
  | sub => exact .next h.goatStep
  | mul => exact .next h.goatStep
  | fma => exact .next h.goatStep
  | scale => exact .next h.goatStep
  | axpby => exact .next h.goatStep
  | max => exact .next h.goatStep
  | min => exact .next h.goatStep
  | select => exact .next h.goatStep
  | fn => exact .next h.goatStep
  | fnMul => exact .next h.goatStep
  | dfn => exact .next h.goatStep
  | dfnMul => exact .next h.goatStep
  | reduceAdd => exact .next h.goatStep
  | reduceMax => exact .next h.goatStep
  | tableLoad => exact .execTableLoad h
  | lnFwd => exact .next h.rowOp
  | rmsFwd => exact .next h.rowOp
  | smFwd => exact .next h.rowOp
  | lsmFwd => exact .next h.rowOp
  | ceFwd => exact .next h.rowOp
  | lnBwd => exact .next h.rowOp
  | rmsBwd => exact .next h.rowOp
  | smBwd => exact .next h.rowOp
  | lsmBwd => exact .next h.rowOp
  | ceBwd => exact .next h.rowOp
  | spill => exact .execSpill h
  | reload g => exact .of_frame h fun t hnext => by simp [execReload_frame g s t hnext]
  | uStats => exact .next h.updOp
  | uFact => exact .next h.updOp
  | uUsum => exact .next h.updOp
  | uApply => exact .next h.updOp
  | uCast => exact .next h.updOp
  | gather => exact .execGather h
  | scatterAdd => exact .execScatterAdd h
  | spmm => exact .execSpmm h
  | sample => exact .execSample h
  | route => exact .execRoute h
  | dispatch => exact .execDispatch h
  | sort => exact .execSort h
  | ret => exact .execRet h
  | combine => exact .execCombine h
  | epochClose n => exact .of_frame h fun t hnext => by simp [execEpochClose_frame n s t hnext]
  | gateGrad => exact .execGateGrad h
  | muleCopy => exact .execMuleCopy h
  | stashPut => exact .execStashPut h
  | stashGet => exact .execStashGet h
  | xsend => exact .execXsend h
  | xsignal => exact .execXsignal h
  | xmcast => exact .execXmcast h
  | xreduce => exact .execXreduce h
  | barrier u => exact .of_frame h fun t hnext => by simp [execBarrier_frame u s t hnext]
  | endRep u => exact .of_frame h fun t hnext => by simp [execEndRep_frame u s t hnext]
  | selectAlternative u => exact .of_frame h fun t hnext => by simp [execSelectAlternative_frame u s t hnext]
  | switch u => exact .of_frame h fun t hnext => by simp [execSwitch_frame u s t hnext]
  | commandComplete => exact .execCommandComplete h
  | slipEvent u elapsed => exact .of_frame h fun t hnext => by simp [execSlipEvent_frame u elapsed s t hnext]
  | planFinish => exact .of_frame h fun t hnext => by simp [execPlanFinish_frame s t hnext]
  | genBoundary => exact .execGenBoundary h
  | batchTake => exact .execBatchTake h
  | reducedTrailerRx => exact .execReducedTrailerRx h
  | pagingStart => exact .execPagingStart h
  | pagerMoveDone => exact .execPagerMoveDone h
  | residencyMapRx => exact .execResidencyMapRx h
  | dispatchRecordRx => exact .execDispatchRecordRx h
  | dispatchEndMarkerRx msg => exact .of_frame h fun t hnext => by simp [execDispatchEndMarkerRx_frame msg s t hnext]
  | answerRx => exact .execAnswerRx h
  | answerEndMarkerRx msg => exact .of_frame h fun t hnext => by simp [execAnswerEndMarkerRx_frame msg s t hnext]
  | messageRx => exact .execMessageRx h
  | mcastRx => exact .execMcastRx h
  | partialRx => exact .execPartialRx h
  | carryCopy => exact .execCarryCopy h
  | flitRx port flit fecOk => exact .of_frame h fun t hnext => by simp [execFlitRx_frame port flit fecOk s t hnext]
  | nakRx port count => exact .of_frame h fun t hnext => by simp [execNakRx_frame port count s t hnext]
  | controlFlitSend port => exact .of_frame h fun t hnext => by simp [execControlFlitSend_frame port s t hnext]
  | controlFlitRx port credits count nak =>
    exact .of_frame h fun t hnext => by simp [execControlFlitRx_frame port credits count nak s t hnext]
  | flitForward ingress src flit => exact .of_frame h fun t hnext => by simp [execFlitForward_frame ingress src flit s t hnext]
  | linkTrainDone port width second =>
    exact .of_frame h fun t hnext => by simp [execLinkTrainDone_frame port width second s t hnext]
  | peerIdentityRx port modId role fold peerPort =>
    exact .of_frame h fun t hnext => by simp [execPeerIdentityRx_frame port modId role fold peerPort s t hnext]
  | portRetrain port => exact .of_frame h fun t hnext => by simp [execPortRetrain_frame port s t hnext]
  | portFailed port => exact .of_frame h fun t hnext => by simp [execPortFailed_frame port s t hnext]
  | echoRx port src => exact .of_frame h fun t hnext => by simp [execEchoRx_frame port src s t hnext]
  | echoTimeout => exact .of_frame h fun t hnext => by simp [execEchoTimeout_frame s t hnext]
  | redirectSet => exact .execRedirectSet h
  | remapEntryRx port e => exact .of_frame h fun t hnext => by simp [execRemapEntryRx_frame port e s t hnext]
  | remapAdopt r => exact .of_frame h fun t hnext => by simp [execRemapAdopt_frame r s t hnext]
  | faultNoticeRx port n => exact .of_frame h fun t hnext => by simp [execFaultNoticeRx_frame port n s t hnext]
  | gearNoticeRx port n => exact .of_frame h fun t hnext => by simp [execGearNoticeRx_frame port n s t hnext]
  | gearNoticeRenew => exact .of_frame h fun t hnext => by simp [execGearNoticeRenew_frame s t hnext]
  | peerEntryExpire => exact .of_frame h fun t hnext => by simp [execPeerEntryExpire_frame s t hnext]
  | meshStopFail pos => exact .of_frame h fun t hnext => by simp [execMeshStopFail_frame pos s t hnext]
  | msCtrlWrite => exact .execMsCtrlWrite h
  | fenceDrained pos => exact .of_frame h fun t hnext => by simp [execFenceDrained_frame pos s t hnext]
  | cowWriteHold => exact .execCowWriteHold h
  | cowCopyDone => exact .execCowCopyDone h
  | patrolScrub => exact .execPatrolScrub h
  | ckptStreamStart => exact .execCkptStreamStart h
  | ckptClose => exact .execCkptClose h
  | ckptTargetError => exact .execCkptTargetError h
  | snapshotClose => exact .execSnapshotClose h
  | ckptNowEffect => exact .execCkptNowEffect h
  | restoreSourceError => exact .execRestoreSourceError h
  | runStart => exact .execRunStart h
  | holdEffect => exact .of_frame h fun t hnext => by simp [execHoldEffect_frame s t hnext]
  | heldEnter => exact .of_frame h fun t hnext => by simp [execHeldEnter_frame s t hnext]
  | holdStop => exact .execHoldStop h
  | resumeEffect => exact .of_frame h fun t hnext => by simp [execResumeEffect_frame s t hnext]
  | abortEffect => exact .execAbortEffect h
  | takeoverEffective => exact .of_frame h fun t hnext => by simp [execTakeoverEffective_frame s t hnext]
  | faultEnter => exact .execFaultEnter h
  | watchdogRestart n => exact .of_frame h fun t hnext => by simp [execWatchdogRestart_frame n s t hnext]
  | watchdogExpiry n => exact .of_frame h fun t hnext => by simp [execWatchdogExpiry_frame n s t hnext]
  | roleMoveDone n => exact .of_frame h fun t hnext => by simp [execRoleMoveDone_frame n s t hnext]
  | powerSample r => exact .of_frame h fun t hnext => by simp [execPowerSample_frame r s t hnext]
  | budgetTick => exact .of_frame h fun t hnext => by simp [execBudgetTick_frame s t hnext]
  | limitStep => exact .of_frame h fun t hnext => by simp [execLimitStep_frame s t hnext]
  | railOvercurrent rail => exact .of_frame h fun t hnext => by simp [execRailOvercurrent_frame rail s t hnext]
  | clampEngage half => exact .of_frame h fun t hnext => by simp [execClampEngage_frame half s t hnext]
  | clampRelease half => exact .of_frame h fun t hnext => by simp [execClampRelease_frame half s t hnext]
  | trip => exact .execTrip h
  | thermalSample tj inlet outlet => exact .of_frame h fun t hnext => by simp [execThermalSample_frame tj inlet outlet s t hnext]
  | gearPreramp => exact .of_frame h fun t hnext => by simp [execGearPreramp_frame s t hnext]
  | gearRaiseDeferred half => exact .of_frame h fun t hnext => by simp [execGearRaiseDeferred_frame half s t hnext]
  | mirrorRefresh => exact .of_frame h fun t hnext => by simp [execMirrorRefresh_frame s t hnext]
  | logEntryWrite => exact .execLogEntryWrite h
  | durableLogCopy => exact .of_frame h fun t hnext => by simp [execDurableLogCopy_frame s t hnext]
  | fuseAdvance => exact .of_frame h fun t hnext => by simp [execFuseAdvance_frame s t hnext]
  | echoAnswerRx => exact .of_frame h fun t hnext => by simp [execEchoAnswerRx_frame s t hnext]
  | peerEntryEffective => exact .of_frame h fun t hnext => by simp [execPeerEntryEffective_frame s t hnext]
  | pwrEnReassertDelay => exact .of_frame h fun t hnext => by simp [execPwrEnReassertDelay_frame s t hnext]
  | stackTemperatureReport stack temp =>
    exact .of_frame h fun t hnext => by simp [execStackTemperatureReport_frame stack temp s t hnext]
  | bar0CrossingRead p offset len => exact .of_frame h fun t hnext => by simp [execBar0CrossingRead_frame p offset len s t hnext]

end

end NextCanonical

/-- Settles O6: a step is a command on the state with the queue's rest, or a tick, and both keep the canonical form. -/
theorem stepKeepsMemoryCanonical : Obligations.StepKeepsMemoryCanonical := by
  unfold Obligations.StepKeepsMemoryCanonical
  intro s t h hstep
  cases hpending : s.pending with
  | nil =>
    rw [step, hpending] at hstep
    exact next_state hstep ▸ h.tick
  | cons c rest =>
    rw [step, hpending] at hstep
    exact NextCanonical.exec (s := { s with pending := rest }) h.other c t hstep

end Sys2Proof.Machine
end

section
/-! PROOFS. What reads and writes of the memories lay and leave (13 R315 to R318): a write lays nothing outside its bytes but in the lines
with an uncorrectable error that it covers in part, and no access gives a line an error. -/

namespace Sys2Proof.Machine

/-! ## Bytes laid -/

theorem Tab.set_default_subset {α : Type} [DecidableEq α] (d : α) (t : Tab α) (k : Nat) : Tab.set d t k d ⊆ t := by
  intro e he
  simp only [Tab.set, Tab.put, Tab.cells, List.nil_append, List.mem_append, List.mem_filter, if_true] at he
  rcases he with ⟨h, -⟩ | ⟨h, -⟩ <;> exact h

theorem Tab.get_clear {α : Type} (d : α) (t : Tab α) {b n k : Nat} (h : k < b ∨ b + n ≤ k) :
    Tab.get d (t.clear b n) k = Tab.get d t k :=
  Tab.get_filter_of d t (fun j => decide (j < b) || decide (b + n ≤ j)) k (by simpa using h)

/-- Accesses that lay bytes in the ranges `l` and give no line an error. -/
structure Lays (l : List (Nat × Nat)) (s t : State) : Prop where
  kept : BytesKept l s t
  lines : t.lineErr ⊆ s.lineErr

theorem Lays.of_mem {s t : State} (hmem : t.mem = s.mem) (hlines : t.lineErr ⊆ s.lineErr) (l : List (Nat × Nat)) : Lays l s t :=
  ⟨fun k _ _ => by rw [State.stored, hmem, State.stored], hlines⟩

theorem Lays.refl (l : List (Nat × Nat)) (s : State) : Lays l s s := .of_mem rfl (List.Subset.refl _) l

/-- What is laid in smaller ranges is laid in the ranges that hold them. -/
theorem Lays.widen {l m : List (Nat × Nat)} {s t : State} (h : Lays l s t)
    (hin : ∀ r ∈ l, ∃ q ∈ m, q.1 ≤ r.1 ∧ r.1 + r.2 ≤ q.1 + q.2) : Lays m s t := by
  refine ⟨fun k hout hline => h.kept k (fun ⟨r, hr, hlow, hhigh⟩ => ?_) fun ⟨hk, hmem, r, hr, hlow, hhigh⟩ => ?_, h.lines⟩
  · obtain ⟨q, hq, hlow', hhigh'⟩ := hin r hr
    exact hout ⟨q, hq, by omega, by omega⟩
  · obtain ⟨q, hq, hlow', hhigh'⟩ := hin r hr
    exact hline ⟨hk, hmem, q, hq, by omega, by omega⟩

theorem Lays.mono {l m : List (Nat × Nat)} {s t : State} (h : Lays l s t) (hl : l ⊆ m) : Lays m s t :=
  h.widen fun r hr => ⟨r, hl hr, Nat.le_refl _, Nat.le_refl _⟩

theorem Lays.trans {l : List (Nat × Nat)} {s t r : State} (h : Lays l s t) (h' : Lays l t r) : Lays l s r :=
  ⟨fun k hout hline => (h'.kept k hout fun ⟨hk, hmem, hr⟩ => hline ⟨hk, h.lines hmem, hr⟩).trans (h.kept k hout hline),
    fun _ he => h.lines (h'.lines he)⟩

theorem foldl_lays {β : Type} {f : State → β → State} {l : List (Nat × Nat)} {xs : List β} (h : ∀ s, ∀ x ∈ xs, Lays l s (f s x))
    (s : State) : Lays l s (xs.foldl f s) := by
  induction xs generalizing s with
  | nil => exact .refl l s
  | cons x xs ih => exact (h s x List.mem_cons_self).trans (ih (fun s y hy => h s y (List.mem_cons_of_mem x hy)) (f s x))

/-! ## Lines and pages of HBM (13 R316 to R318, R323) -/

/-- A line with an error that a write of the `n` bytes from `a` on meets: the error goes, and an uncorrectable line that is written in part
loses its bytes (13 R318). -/
def State.overwriteLine (req a n : Nat) (s : State) (e : Nat × Nat) : State :=
  let s2 : State := { s with lineErr := Tab.set 0 s.lineErr e.1 0 }
  if decide (a ≤ 64 * e.1) && decide (64 * (e.1 + 1) ≤ a + n) then s2
  else if e.2 = 2 then { s2.eccUe e.1 (!isBar2 req) with mem := Tab.clear (s2.eccUe e.1 (!isBar2 req)).mem (64 * e.1) 64 }
  else s2.bump MemCnt.eccCe 1

theorem State.lineWrite_eq (s : State) (req a : Nat) (data : List Byte) : s.lineWrite req a data =
    ((s.badLines a data.length).foldl (State.overwriteLine req a data.length) s).poke a data := rfl

theorem State.lineErr_overwriteLine (req a n : Nat) (s : State) (e : Nat × Nat) :
    (s.overwriteLine req a n e).lineErr = Tab.set 0 s.lineErr e.1 0 := by
  unfold State.overwriteLine
  dsimp only
  split
  · rfl
  · split <;> simp

theorem State.stored_overwriteLine (req a n : Nat) (s : State) {e : Nat × Nat} {k : Nat} (h : e.2 = 2 → k / 64 ≠ e.1) :
    (s.overwriteLine req a n e).stored k = s.stored k := by
  unfold State.overwriteLine
  dsimp only
  split
  · rfl
  · split
    next hkind =>
      have hline := h hkind
      rw [State.stored, Tab.get_clear 0 _ (by omega)]
      simp [State.stored]
    next => simp [State.stored]

/-- A write to lines of HBM leaves a byte outside it that lies in no uncorrectable line which it meets, and gives no line an error. -/
theorem State.lineWrite_leaves (s : State) (req a : Nat) (data : List Byte) : (s.lineWrite req a data).lineErr ⊆ s.lineErr ∧
    ∀ k, (k < a ∨ a + data.length ≤ k) →
      ((k / 64, 2) ∈ s.lineErr → ¬ (a < 64 * (k / 64 + 1) ∧ 64 * (k / 64) < a + data.length)) →
      (s.lineWrite req a data).stored k = s.stored k := by
  have hlines (l : List (Nat × Nat)) (hl : ∀ e ∈ l, e ∈ s.badLines a data.length) (t : State) (ht : t.lineErr ⊆ s.lineErr) :
      (l.foldl (State.overwriteLine req a data.length) t).lineErr ⊆ s.lineErr ∧
      ∀ k, ((k / 64, 2) ∈ s.lineErr → ¬ (a < 64 * (k / 64 + 1) ∧ 64 * (k / 64) < a + data.length)) →
        (l.foldl (State.overwriteLine req a data.length) t).stored k = t.stored k := by
    induction l generalizing t with
    | nil => exact ⟨ht, fun _ _ => rfl⟩
    | cons e l ih =>
      have hmeets := hl e List.mem_cons_self
      rw [State.badLines, List.mem_filter, Bool.and_eq_true, decide_eq_true_eq, decide_eq_true_eq] at hmeets
      obtain ⟨hmem, hlow, hhigh⟩ := hmeets
      have hset : (t.overwriteLine req a data.length e).lineErr ⊆ s.lineErr := by
        rw [State.lineErr_overwriteLine]
        exact fun x hx => ht (Tab.set_default_subset 0 _ _ hx)
      obtain ⟨hsub, hkept⟩ := ih (fun x hx => hl x (List.mem_cons_of_mem e hx)) _ hset
      refine ⟨hsub, fun k hk => (hkept k hk).trans (State.stored_overwriteLine _ _ _ t fun hkind hline => ?_)⟩
      exact hk (by rwa [hline, ← hkind]) (by rw [hline]; exact ⟨hlow, hhigh⟩)
  obtain ⟨hsub, hkept⟩ := hlines _ (fun _ he => he) s (List.Subset.refl _)
  rw [State.lineWrite_eq]
  refine ⟨by simpa only [State.poke_frame] using hsub, fun k hk hline => ?_⟩
  exact (State.stored_poke_of_disjoint _ hk).trans (hkept k hline)

theorem State.lineWrite_lays (s : State) (req : Nat) {a : Nat} {data : List Byte} (h : a + data.length ≤ 2 ^ 39) :
    Lays [(a, data.length)] s (s.lineWrite req a data) := by
  obtain ⟨hlines, hkept⟩ := s.lineWrite_leaves req a data
  refine ⟨fun k hout hline => hkept k ?_ fun hmem hmeets => hline ⟨by omega, hmem, _, List.mem_singleton.mpr rfl, hmeets⟩, hlines⟩
  by_contra hin
  exact hout ⟨_, List.mem_singleton.mpr rfl, by dsimp only; omega, by dsimp only; omega⟩

/-- A write within a page of HBM. -/
theorem State.pageWrite_lays (s : State) (base req : Nat) {a : Nat} {data : List Byte} (h : a % 2 ^ 21 + data.length ≤ 2 ^ 21) :
    Lays [(a, data.length)] s (s.pageWrite base req a data) := by
  unfold State.pageWrite
  dsimp only
  split
  · exact .of_mem (by simp) (by simp) _
  next hgood =>
    split
    · exact .of_mem (by simp) (by simp) _
    · split
      · exact .of_mem (by simp) (by simp) _
      · rw [State.badPage, Bool.or_eq_true, decide_eq_true_eq, not_or, pageOf] at hgood
        exact s.lineWrite_lays req (by omega)

theorem State.hbmWriteN_nil (s : State) (base req fuel a : Nat) : s.hbmWriteN base req fuel a [] = s := by
  cases fuel <;> rfl

theorem State.hbmWriteN_lays (s : State) (base req fuel a : Nat) (data : List Byte) :
    Lays [(a, data.length)] s (s.hbmWriteN base req fuel a data) := by
  induction fuel generalizing s a data with
  | zero => exact .refl _ s
  | succ fuel ih =>
    unfold State.hbmWriteN
    dsimp only
    split
    · exact .refl _ s
    · have hpage : (data.take (2 ^ 21 - a % 2 ^ 21)).length = min (2 ^ 21 - a % 2 ^ 21) data.length := List.length_take
      have hfirst := s.pageWrite_lays base req (a := a) (data := data.take (2 ^ 21 - a % 2 ^ 21)) (by omega)
      have hfirst : Lays [(a, data.length)] s _ :=
        hfirst.widen fun r hr => ⟨_, List.mem_singleton.mpr rfl, by rw [List.mem_singleton.mp hr]; dsimp only; omega⟩
      refine hfirst.trans ?_
      by_cases hlen : data.length ≤ 2 ^ 21 - a % 2 ^ 21
      · rw [List.drop_eq_nil_of_le hlen, State.hbmWriteN_nil]
        exact .refl _ _
      · refine (ih _ (a + (2 ^ 21 - a % 2 ^ 21)) (data.drop (2 ^ 21 - a % 2 ^ 21))).widen fun r hr =>
          ⟨_, List.mem_singleton.mpr rfl, ?_⟩
        rw [List.mem_singleton.mp hr, List.length_drop]
        dsimp only
        omega

/-! ## Writes and reads of a space -/

theorem State.write_lays (s : State) (req key : Nat) (data : List Byte) : Lays [(key, data.length)] s (s.write req key data) := by
  rw [State.write]
  split
  · exact s.hbmWriteN_lays _ _ _ _ _
  · split
    · exact .of_mem (by simp) (by simp) _
    · refine ⟨fun k hout _ => State.stored_poke_of_disjoint s ?_, by simp⟩
      by_contra hin
      exact hout ⟨_, List.mem_singleton.mpr rfl, by dsimp only; omega, by dsimp only; omega⟩

theorem State.lineNotes_lineErr_subset (s : State) (req a n : Nat) : (s.lineNotes req a n).lineErr ⊆ s.lineErr := by
  refine (foldl_lays (l := []) (fun r e _ => ?_) s).lines
  split
  · exact .of_mem (by simp) (by simp) _
  · exact .of_mem (by simp) (by rw [State.eccCe]; exact Tab.set_default_subset 0 _ _) _

theorem State.hbmNoteRead_lineErr_subset (s : State) (req a n : Nat) : (s.hbmNoteRead req a n).lineErr ⊆ s.lineErr := by
  refine (foldl_lays (l := []) (fun r x _ => ?_) s).lines
  split
  · exact .of_mem (by simp) (by simp) _
  · exact .of_mem (by simp) (r.lineNotes_lineErr_subset _ _ _) _

/-- A read lays nothing. -/
theorem State.noteRead_lays (s : State) (req key n : Nat) (l : List (Nat × Nat)) : Lays l s (s.noteRead req key n) := by
  refine .of_mem (by simp) ?_ l
  rw [State.noteRead]
  split
  · exact List.Subset.refl _
  · split
    · exact s.hbmNoteRead_lineErr_subset _ _ _
    · split <;> simp

@[simp] theorem State.length_read (s : State) (key n : Nat) : (s.read key n).length = n := by
  rw [State.read]
  split
  · simp [State.hbmBytes]
  · split <;> simp [State.drawBytes]

@[simp] theorem State.streams_pushQueue (s : State) (q : Nat) (data : List Byte) :
    (s.pushQueue q data).unit.streams = s.unit.streams := by
  rw [State.pushQueue, (State.sendQueue_keeps _ q).2.1]
  rfl

@[simp] theorem State.streams_writeAny (s : State) (req key : Nat) (data : List Byte) :
    (s.writeAny req key data).unit.streams = s.unit.streams := by
  rw [State.writeAny]
  split <;> simp

theorem State.writeAny_of_memory (s : State) {key : Nat} (h : queueOfKey key = none) (req : Nat) (data : List Byte) :
    s.writeAny req key data = s.write req key data := by
  rw [State.writeAny, h]

end Sys2Proof.Machine
end

section
/-! PROOFS. The Mules' commands (12 R302, 13 R326 to R334): a COPY reads its whole source and then writes, and how a PUT and a GET of the
stash start and end. -/

namespace Sys2Proof.Machine

/-! ## A Mule's command in progress (13 Table 13-7) -/

/-- The status word of a command has its CODE in its low bits. -/
theorem status_muleFlight (s : State) (n d : Nat) (c : MuleCmd) (capped : Bool) (cycles : Nat) {code : Nat} (hcode : code < 16)
    (written : Nat) (bumps : List Bump) (outs : List (Nat × Nat)) :
    (s.muleFlight n d c capped cycles code written bumps outs).status % 16 = code := by
  have hfields : (s.muleFlight n d c capped cycles code written bumps outs).status =
      code <<< 0 + b2n capped <<< 5 + sat32 written <<< 64 := fields_three _ _ _ _ _ _
  rw [hfields, Nat.shiftLeft_eq, Nat.shiftLeft_eq, Nat.shiftLeft_eq]
  omega

/-- A Mule's command starts on the streams as they were. -/
theorem State.muleFlight_starts {s r : State} (hr : r.unit.streams = s.unit.streams) (n d : Nat) (c : MuleCmd) (capped : Bool)
    (cycles code written : Nat) (bumps : List Bump) (outs : List (Nat × Nat)) :
    StartsWith s (r.startCmd (muleStream n) (s.muleFlight n d c capped cycles code written bumps outs)) (muleStream n) d
      (s.muleFlight n d c capped cycles code written bumps outs) :=
  startsWith_startCmd_of_streams hr (muleStream n) d rfl rfl rfl rfl rfl rfl rfl

theorem Lays.startCmd {l : List (Nat × Nat)} {s t : State} (h : Lays l s t) (u : Nat) (f : InFlight) : Lays l s (t.startCmd u f) :=
  h.trans (.of_mem (by simp) (by simp) l)

/-! ## COPY (13 R332 to R334) -/

/-- The state after a COPY's reads and writes. -/
def State.copied (s : State) (n : Nat) (c : MuleCmd) (f : Fmt) : State :=
  (s.copyWrites c f).foldl (fun s w => s.writeAny (muleStream n) w.1 w.2)
    ((c.ins f).foldl (fun s r => s.noteRead (muleStream n) r.1 r.2) s)

section Copy

variable (s : State) (n d : Nat) {f : Fmt}
  (hf : (if (s.muleBound n (muleCmd d)).1.xform = 0 then some fmtF32 else fmtOfByte (s.muleBound n (muleCmd d)).1.fmt) = some f)
include hf

theorem State.muleCopy_of_large (hlarge : tooLarge ((s.muleBound n (muleCmd d)).1.ins f) ((s.muleBound n (muleCmd d)).1.outs f) = true) :
    s.muleCopy n d = s.muleOverlap n d (s.muleBound n (muleCmd d)).1 (s.muleBound n (muleCmd d)).2 := by
  unfold State.muleCopy
  simp only [hf, hlarge, if_true]

theorem State.muleCopy_of_fitting
    (hfits : tooLarge ((s.muleBound n (muleCmd d)).1.ins f) ((s.muleBound n (muleCmd d)).1.outs f) = false) :
    let c := (s.muleBound n (muleCmd d)).1
    s.muleCopy n d = (s.copied n c f).startCmd (muleStream n) (s.muleFlight n d c (s.muleBound n (muleCmd d)).2
      (moveCycles c.xform (rangesLen (c.ins f)) (rangesLen (c.outs f))) 0 (rangesLen (c.outs f)) [] (c.outs f)) := by
  unfold State.muleCopy
  simp only [hf, hfits, Bool.false_eq_true, if_false]
  rfl

end Copy

theorem State.copied_keeps (s : State) (n : Nat) (c : MuleCmd) (f : Fmt) :
    (s.copied n c f).unit.streams = s.unit.streams ∧ (s.copied n c f).dev = s.dev ∧ (s.copied n c f).time = s.time ∧
    (s.copied n c f).acts = s.acts ∧ (s.copied n c f).fab = s.fab ∧ (s.copied n c f).ck = s.ck ∧
    (s.copied n c f).host = s.host ∧ (s.copied n c f).out = s.out := by
  have hstreams : (s.copied n c f).unit.streams = s.unit.streams :=
    (foldl_keeps (fun r => r.unit.streams) _ (fun r w => r.streams_writeAny _ _ _) _ _).trans
      (foldl_keeps (fun r => r.unit.streams) _ (fun r w => by simp) _ s)
  exact ⟨hstreams, by simp [State.copied]⟩

section Linear

variable (s : State) (n : Nat) {c : MuleCmd} {f : Fmt} (hxform : c.xform = 0) (hdst : queueOfKey (locOfWord c.dst) = none)
include hxform hdst

/-- XFORM 0 to a memory is one read and one write. -/
theorem State.copied_linear : s.copied n c f = (s.noteRead (muleStream n) (locOfWord c.src) c.bytes).write (muleStream n)
    (locOfWord c.dst) (s.read (locOfWord c.src) c.bytes) := by
  simp only [State.copied, State.copyWrites, MuleCmd.ins, hxform, List.foldl_cons, List.foldl_nil,
    State.writeAny_of_memory _ hdst]

theorem State.copied_lays : Lays [(locOfWord c.dst, c.bytes)] s (s.copied n c f) := by
  rw [s.copied_linear n hxform hdst]
  have hwrite := (s.noteRead (muleStream n) (locOfWord c.src) c.bytes).write_lays (muleStream n) (locOfWord c.dst)
    (s.read (locOfWord c.src) c.bytes)
  rw [State.length_read] at hwrite
  exact (s.noteRead_lays _ _ _ _).trans hwrite

theorem State.stored_copied (hsrc : s.opens (locOfWord c.src)) (hopens : s.opens (locOfWord c.dst))
    (hspace : locOfWord c.dst % 2 ^ 48 + c.bytes ≤ spaceSize (locOfWord c.dst / 2 ^ 48)) {i : Nat} (hi : i < c.bytes) :
    (s.copied n c f).stored (locOfWord c.dst + i) = s.byteAt (locOfWord c.src + i) := by
  rw [s.copied_linear n hxform hdst, State.noteRead_of_opens hsrc, State.write_of_opens hopens, State.read_of_opens hsrc,
    State.stored_poke, State.length_bytesAt, if_pos (by omega), Nat.add_sub_cancel_left, State.bytesAt,
    List.getD_eq_getElem?_getD, List.getElem?_map, List.getElem?_range hi]
  rfl

end Linear

/-- MULE_COPY: nothing moves if the move is refused, and otherwise the source is read whole before any byte is written. -/
theorem muleCopy_runs (n : Fin 8) (d : Nat) (s : State) (f : Fmt) (hready : s.readyMule n.val 1 = some d) :
    let c := (s.muleBound n.val (muleCmd d)).1
    let src := locOfWord c.src
    let dst := locOfWord c.dst
    (if c.xform = 0 then some fmtF32 else fmtOfByte c.fmt) = some f → s.destReady d = true →
    ∃ t g, exec (.muleCopy n) s = .next t ∧ StartsWith s t (210 + n.val) d g ∧ g.planCyc = c.planCyc ∧ g.slackCyc = c.slackCyc ∧
       (if tooLarge (c.ins f) (c.outs f) = true then
         g.status % 16 = 1 ∧ g.cycles = 64 ∧ (MemCnt.overlapRejects, 1) ∈ g.bumps ∧ OnlyChanges [.unit] s t
        else
         g.status % 16 = 0 ∧ g.outs = c.outs f ∧
         g.cycles = moveCycles c.xform (rangesLen (c.ins f)) (rangesLen (c.outs f)) ∧
         (c.xform = 0 → queueOfKey dst = none → BytesKept [(dst, c.bytes)] s t) ∧
         (c.xform = 0 → queueOfKey dst = none → 2 ^ 48 ≤ src → 2 ^ 48 ≤ dst → s.spaceFenced (src / 2 ^ 48) = false →
           s.spaceFenced (dst / 2 ^ 48) = false → dst % 2 ^ 48 + c.bytes ≤ spaceSize (dst / 2 ^ 48) →
           ∀ i, i < c.bytes → t.stored (dst + i) = s.byteAt (src + i))) ∧
       t.dev = s.dev ∧ t.time = s.time ∧ t.acts = s.acts ∧ t.fab = s.fab ∧ t.ck = s.ck ∧ t.host = s.host ∧ t.out = s.out := by
  intro c src dst hf hdest
  have hexec : exec (.muleCopy n) s = .next (s.muleCopy n.val d) := by
    show execMuleCopy n s = _
    rw [execMuleCopy, hready]
    simp only [hdest, if_true]
  cases hlarge : tooLarge (c.ins f) (c.outs f) with
  | true =>
    rw [s.muleCopy_of_large n.val d hf hlarge] at hexec
    refine ⟨_, _, hexec, State.muleFlight_starts rfl _ _ _ _ _ _ _ _ _, rfl, rfl, ?_, rfl, rfl, rfl, rfl, rfl, rfl, rfl⟩
    rw [if_pos rfl]
    exact ⟨status_muleFlight _ _ _ _ _ _ (by decide) _ _ _, rfl, List.mem_cons_self, onlyChanges_unit s _⟩
  | false =>
    rw [s.muleCopy_of_fitting n.val d hf hlarge] at hexec
    obtain ⟨hstreams, hkept⟩ := s.copied_keeps n.val c f
    refine ⟨_, _, hexec, State.muleFlight_starts hstreams _ _ _ _ _ _ _ _ _, rfl, rfl, ?_, hkept⟩
    rw [if_neg Bool.false_ne_true]
    refine ⟨status_muleFlight _ _ _ _ _ _ (by decide) _ _ _, rfl, rfl, fun hxform hdst => ?_,
      fun hxform hdst hsrc hdstHigh hsrcFence hdstFence hspace i hi => ?_⟩
    · exact (s.copied_lays n.val hxform hdst).kept
    · exact s.stored_copied n.val hxform hdst ⟨hsrc, hsrcFence⟩ ⟨hdstHigh, hdstFence⟩ hspace hi

/-! ## The stash (13 R326 to R329) -/

/-- What a command of the stash leaves alone. -/
def StashFrame (s t : State) : Prop :=
  t.dev = s.dev ∧ t.time = s.time ∧ t.acts = s.acts ∧ t.fab = s.fab ∧ t.ck = s.ck ∧ t.host = s.host

/-- `t` has Mule `n`'s command of descriptor `d` in progress as `f`, and no group changed that the stash leaves alone. -/
def StashIssues (s t : State) (n d : Nat) (c : MuleCmd) (capped : Bool) (cycles code written : Nat) (bumps : List Bump)
    (outs : List (Nat × Nat)) : Prop :=
  ∃ r, r.unit.streams = s.unit.streams ∧ StashFrame s r ∧
    t = r.startCmd (muleStream n) (s.muleFlight n d c capped cycles code written bumps outs)

theorem StashIssues.starts {s t : State} {n d : Nat} {c : MuleCmd} {capped : Bool} {cycles code written : Nat} {bumps : List Bump}
    {outs : List (Nat × Nat)} (h : StashIssues s t n d c capped cycles code written bumps outs) (hcode : code < 16) :
    ∃ f, StartsWith s t (210 + n) d f ∧ StashFrame s t ∧ f.status % 16 = code ∧ f.cycles = cycles ∧ f.bumps = bumps ∧
      f.outs = outs := by
  obtain ⟨r, hstreams, hframe, rfl⟩ := h
  exact ⟨_, State.muleFlight_starts hstreams _ _ _ _ _ _ _ _ _, hframe, status_muleFlight _ _ _ _ _ _ hcode _ _ _, rfl, rfl, rfl⟩

/-- A refused move of the stash is one too. -/
theorem State.muleOverlap_issues (s : State) (n d : Nat) (c : MuleCmd) (capped : Bool) :
    StashIssues s (s.muleOverlap n d c capped) n d c capped 64 1 0 [(MemCnt.overlapRejects, 1)] [] :=
  ⟨s, rfl, ⟨rfl, rfl, rfl, rfl, rfl, rfl⟩, rfl⟩

section Put

variable (s : State) (n d : Nat)

/-- The first byte of the entry that a PUT stores. -/
def State.stashTop (s : State) (c : MuleCmd) : Nat :=
  if c.reset then (s.stashOf c).dropFrom else s.readNat (s.stashOf c).dir 8 % 2 ^ 48

/-- A PUT over HIGH_WATER is dropped (13 R328). -/
theorem State.stashPutCmd_of_full
    (hfull : (s.stashOf (s.muleBound n (muleCmd d)).1).highWater <
      s.stashTop (s.muleBound n (muleCmd d)).1 + (s.muleBound n (muleCmd d)).1.bytes) :
    let c := (s.muleBound n (muleCmd d)).1
    StashIssues s (s.stashPutCmd n d) n d c (s.muleBound n (muleCmd d)).2 80 2 0 [(MemCnt.stashDropped, 1)]
      [((s.stashOf c).record c, 32)] := by
  unfold State.stashPutCmd
  simp only [← State.stashTop.eq_1, if_neg (Nat.not_le.mpr hfull)]
  refine ⟨_, ?_, ?_, rfl⟩
  · split <;> simp [State.setTop]
  · split <;> simp [State.setTop, StashFrame]

/-- A PUT under HIGH_WATER is refused as a move, or lays the entry, its record and the header (13 R328, R333). -/
theorem State.stashPutCmd_of_room
    (hroom : s.stashTop (s.muleBound n (muleCmd d)).1 + (s.muleBound n (muleCmd d)).1.bytes ≤
      (s.stashOf (s.muleBound n (muleCmd d)).1).highWater) :
    let c := (s.muleBound n (muleCmd d)).1
    let capped := (s.muleBound n (muleCmd d)).2
    let top := s.stashTop c
    if tooLarge [(locOfWord c.src, c.bytes)] [(top, c.bytes)] = true then
      StashIssues s (s.stashPutCmd n d) n d c capped 64 1 0 [(MemCnt.overlapRejects, 1)] []
    else
      StashIssues s (s.stashPutCmd n d) n d c capped (moveCycles 0 c.bytes c.bytes) 0 c.bytes []
        [(top, c.bytes), ((s.stashOf c).record c, 32), ((s.stashOf c).dir, 8)] := by
  unfold State.stashPutCmd
  simp only [← State.stashTop.eq_1, if_pos hroom]
  split
  · exact s.muleOverlap_issues n d _ _
  · refine ⟨_, ?_, ?_, rfl⟩
    · split <;> simp [State.setTop]
    · split <;> simp [State.setTop, StashFrame]

end Put

/-- A GET's fan-out is told a number of elements (13 R329). -/
def State.tellFan (s : State) (n : Nat) (dests : List Nat) (count : Nat) : State :=
  dests.foldl (fun s k => s.write (muleStream n) k (natLe 8 count)) s

@[simp] theorem State.tellFan_keeps (s : State) (n : Nat) (dests : List Nat) (count : Nat) :
    (s.tellFan n dests count).unit = s.unit ∧ StashFrame s (s.tellFan n dests count) := by
  simp [State.tellFan, StashFrame]

theorem State.tellFan_lays (s : State) (n : Nat) (dests : List Nat) (count : Nat) :
    Lays (dests.map (fun k => (k, 8))) s (s.tellFan n dests count) := by
  refine foldl_lays (fun r k hk => ?_) s
  have hwrite := r.write_lays (muleStream n) k (natLe 8 count)
  rw [length_natLe] at hwrite
  exact hwrite.mono (List.cons_subset.mpr ⟨List.mem_map_of_mem hk, List.nil_subset _⟩)

section Get

variable (s : State) (n d : Nat)

/-- The directory record that a GET reads. -/
def State.stashRec (s : State) (d : Nat) : Nat := s.readNat ((s.stashOf (muleCmd d)).record (muleCmd d)) 32

/-- A GET of an entry not stored in this step tells its fan-out so, and writes nothing else. -/
theorem State.stashGetCmd_of_stale (hstale : bit (s.stashRec d) 96 = false ∨ bits (s.stashRec d) 128 40 ≠ s.plan.step % 2 ^ 40) :
    let c := muleCmd d
    let fan := s.muleFan n c
    StashIssues s (s.stashGetCmd n d) n d c false (moveCycles 0 0 0 + 4 * fan.length) 3 0 [(MemCnt.stashRecomp, 1)]
        (fan.map (fun k => (k, 8))) ∧
      BytesKept (fan.map (fun k => (k, 8))) s (s.stashGetCmd n d) := by
  intro c fan
  have hfresh : (bit (s.stashRec d) 96 && decide (bits (s.stashRec d) 128 40 = s.plan.step % 2 ^ 40)) = false := by
    rw [Bool.and_eq_false_iff, decide_eq_false_iff_not]
    exact hstale
  have hget : s.stashGetCmd n d = ((s.noteRead (muleStream n) ((s.stashOf c).record c) 32).tellFan n fan 0xFFFFFFFF).startCmd
      (muleStream n) (s.muleFlight n d c false (moveCycles 0 0 0 + 4 * fan.length) 3 0 [(MemCnt.stashRecomp, 1)]
        (fan.map (fun k => (k, 8)))) := by
    unfold State.stashGetCmd
    simp only [← State.stashRec.eq_1, hfresh, Bool.false_eq_true, if_false]
    rfl
  rw [hget]
  refine ⟨⟨_, ?_, ?_, rfl⟩, ?_⟩
  · simp
  · have htell := ((s.noteRead (muleStream n) ((s.stashOf c).record c) 32).tellFan_keeps n fan 0xFFFFFFFF).2
    simpa [StashFrame] using htell
  · exact (((s.noteRead_lays _ _ _ _).trans (State.tellFan_lays _ n fan _)).startCmd _ _).kept

/-- A GET of an entry of this step is refused as a move, or copies it out and tells its fan-out. -/
theorem State.stashGetCmd_of_fresh (hstored : bit (s.stashRec d) 96 = true)
    (hstep : bits (s.stashRec d) 128 40 = s.plan.step % 2 ^ 40) :
    let c := muleCmd d
    let fan := s.muleFan n c
    let size := bits (s.stashRec d) 64 32
    if tooLarge [(addr256 (bits (s.stashRec d) 0 40), size)] [(locOfWord c.dst, size)] = true then
      StashIssues s (s.stashGetCmd n d) n d c false 64 1 0 [(MemCnt.overlapRejects, 1)] []
    else
      StashIssues s (s.stashGetCmd n d) n d c false (moveCycles 0 size size + 4 * fan.length) 0 size []
        ((locOfWord c.dst, size) :: fan.map (fun k => (k, 8))) := by
  intro c fan size
  have hfresh : (bit (s.stashRec d) 96 && decide (bits (s.stashRec d) 128 40 = s.plan.step % 2 ^ 40)) = true := by
    rw [hstored, hstep, decide_eq_true rfl, Bool.and_true]
  unfold State.stashGetCmd
  simp only [← State.stashRec.eq_1, hfresh, if_true]
  split
  · exact s.muleOverlap_issues n d _ _
  · refine ⟨(((s.noteRead (muleStream n) ((s.stashOf c).record c) 32).noteRead (muleStream n)
      (addr256 (bits (s.stashRec d) 0 40)) size).writeAny (muleStream n) (locOfWord c.dst)
        (s.read (addr256 (bits (s.stashRec d) 0 40)) size)).tellFan n fan 0, ?_, ?_, rfl⟩
    · simp
    · have htell := (State.tellFan_keeps (((s.noteRead (muleStream n) ((s.stashOf c).record c) 32).noteRead (muleStream n)
        (addr256 (bits (s.stashRec d) 0 40)) size).writeAny (muleStream n) (locOfWord c.dst)
          (s.read (addr256 (bits (s.stashRec d) 0 40)) size)) n fan 0).2
      simpa [StashFrame] using htell

end Get

/-! ## The commands -/

section Commands

variable (n : Fin 8) (d : Nat) (s : State)

/-- STASH_PUT. -/
theorem stashPut_runs (hready : s.readyMule n.val 2 = some d) :
    let c := (s.muleBound n.val (muleCmd d)).1
    let r := s.stashOf c
    let top := s.stashTop c
    ∃ t f, exec (.stashPut n) s = .next t ∧ StartsWith s t (210 + n.val) d f ∧ StashFrame s t ∧
       (top + c.bytes ≤ r.highWater → tooLarge [(locOfWord c.src, c.bytes)] [(top, c.bytes)] = false →
         f.status % 16 = 0 ∧ f.outs = [(top, c.bytes), (r.record c, 32), (r.dir, 8)] ∧ f.cycles = moveCycles 0 c.bytes c.bytes) ∧
       (r.highWater < top + c.bytes → f.status % 16 = 2 ∧ f.cycles = 80 ∧ f.bumps = [(MemCnt.stashDropped, 1)]) := by
  intro c r top
  have hexec : exec (.stashPut n) s = .next (s.stashPutCmd n.val d) := by
    show execStashPut n s = _
    rw [execStashPut, hready]
  by_cases hroom : top + c.bytes ≤ r.highWater
  · have hcases := s.stashPutCmd_of_room n.val d hroom
    dsimp only at hcases
    split at hcases
    next hlarge =>
      obtain ⟨f, hstarts, hframe, -⟩ := hcases.starts (by decide)
      exact ⟨_, f, hexec, hstarts, hframe, fun _ hfits => absurd (hlarge.symm.trans hfits) (by decide),
        fun hfull => absurd hfull (by omega)⟩
    next =>
      obtain ⟨f, hstarts, hframe, hcode, hcycles, -, houts⟩ := hcases.starts (by decide)
      exact ⟨_, f, hexec, hstarts, hframe, fun _ _ => ⟨hcode, houts, hcycles⟩,
        fun hfull => absurd hfull (by omega)⟩
  · obtain ⟨f, hstarts, hframe, hcode, hcycles, hbumps, -⟩ :=
      (s.stashPutCmd_of_full n.val d (Nat.lt_of_not_le hroom)).starts (by decide)
    exact ⟨_, f, hexec, hstarts, hframe, fun h => absurd h hroom, fun _ => ⟨hcode, hcycles, hbumps⟩⟩

/-- STASH_GET. -/
theorem stashGet_runs (hready : s.readyMule n.val 3 = some d) (hdest : s.destReady d = true) :
    ∃ t f, exec (.stashGet n) s = .next t ∧ StartsWith s t (210 + n.val) d f ∧ StashFrame s t ∧
       (bit (s.stashRec d) 96 = false ∨ bits (s.stashRec d) 128 40 ≠ s.plan.step % 2 ^ 40 →
         f.status % 16 = 3 ∧ f.bumps = [(MemCnt.stashRecomp, 1)] ∧ f.outs = (s.muleFan n.val (muleCmd d)).map (fun k => (k, 8)) ∧
         BytesKept f.outs s t) ∧
       (bit (s.stashRec d) 96 = true → bits (s.stashRec d) 128 40 = s.plan.step % 2 ^ 40 →
         tooLarge [(addr256 (bits (s.stashRec d) 0 40), bits (s.stashRec d) 64 32)]
           [(locOfWord (muleCmd d).dst, bits (s.stashRec d) 64 32)] = false →
         f.status % 16 = 0 ∧ f.cycles = moveCycles 0 (bits (s.stashRec d) 64 32) (bits (s.stashRec d) 64 32) +
           4 * (s.muleFan n.val (muleCmd d)).length) := by
  have hexec : exec (.stashGet n) s = .next (s.stashGetCmd n.val d) := by
    show execStashGet n s = _
    rw [execStashGet, hready]
    simp only [hdest, if_true]
  by_cases hfresh : bit (s.stashRec d) 96 = true ∧ bits (s.stashRec d) 128 40 = s.plan.step % 2 ^ 40
  · obtain ⟨hstored, hstep⟩ := hfresh
    have hno : ¬ (bit (s.stashRec d) 96 = false ∨ bits (s.stashRec d) 128 40 ≠ s.plan.step % 2 ^ 40) := by simp [hstored, hstep]
    have hcases := s.stashGetCmd_of_fresh n.val d hstored hstep
    dsimp only at hcases
    split at hcases
    next hlarge =>
      obtain ⟨f, hstarts, hframe, -⟩ := hcases.starts (by decide)
      exact ⟨_, f, hexec, hstarts, hframe, fun h => absurd h hno, fun _ _ hfits => absurd (hlarge.symm.trans hfits) (by decide)⟩
    next =>
      obtain ⟨f, hstarts, hframe, hcode, hcycles, -⟩ := hcases.starts (by decide)
      exact ⟨_, f, hexec, hstarts, hframe, fun h => absurd h hno, fun _ _ _ => ⟨hcode, hcycles⟩⟩
  · have hstale : bit (s.stashRec d) 96 = false ∨ bits (s.stashRec d) 128 40 ≠ s.plan.step % 2 ^ 40 := by
      rwa [Decidable.not_and_iff_or_not, Bool.not_eq_true] at hfresh
    obtain ⟨hissues, hkept⟩ := s.stashGetCmd_of_stale n.val d hstale
    obtain ⟨f, hstarts, hframe, hcode, -, hbumps, houts⟩ := hissues.starts (by decide)
    exact ⟨_, f, hexec, hstarts, hframe, fun _ => ⟨hcode, hbumps, houts, houts ▸ hkept⟩,
      fun hstored hstep => absurd ⟨hstored, hstep⟩ hfresh⟩

end Commands

/-- A command whose destination is an Ox queue without START credits does not start (12 R302). -/
theorem exec_mule_waits (n : Fin 8) (d : Nat) (s : State) (hdest : s.destReady d = false) :
    (s.readyMule n.val 1 = some d → exec (.muleCopy n) s = .next s) ∧
      (s.readyMule n.val 3 = some d → exec (.stashGet n) s = .next s) := by
  constructor <;> intro hready
  · show execMuleCopy n s = _
    rw [execMuleCopy, hready]
    simp [hdest]
  · show execStashGet n s = _
    rw [execStashGet, hready]
    simp [hdest]

/-- Settles O40: a COPY's one read and one write, and the three ends of a PUT and of a GET. -/
theorem muleCommandsRun : Obligations.MuleCommandsRun := by
  unfold Obligations.MuleCommandsRun
  refine ⟨fun n d s f hready => ?_, fun n d s => ⟨fun hready => ?_, fun hready hdest => ?_, fun hready hdest => ?_⟩⟩
  · exact fun hf => ⟨fun hdest => (exec_mule_waits n d s hdest).1 hready, fun hdest => muleCopy_runs n d s f hready hf hdest⟩
  · exact stashPut_runs n d s hready
  · exact (exec_mule_waits n d s hdest).2 hready
  · exact stashGet_runs n d s hready hdest

end Sys2Proof.Machine
end

section
/-! PROOFS. Copy-on-write and the patrol scrub (13 R318, R323, 15 R382): a write held, a page copied and its writes released, and a line that
the scrub reads. -/

namespace Sys2Proof.Machine

/-! ## What accesses to HBM leave of the page table, the plan and the counters (13 R317, R318) -/

/-- A page-table entry but for POISON. -/
def State.pageView (s : State) (q : Nat) : Pte := { s.pteOf q with poison := false }

@[simp] theorem ite_pageView (c : Prop) [Decidable c] (a b : State) (q : Nat) :
    (if c then a else b).pageView q = if c then a.pageView q else b.pageView q :=
  apply_ite (fun s => s.pageView q) c a b

theorem State.pageView_congr {s t : State} (h : t.pte = s.pte) (q : Nat) : t.pageView q = s.pageView q := by
  rw [State.pageView, State.pageView, State.pteOf, State.pteOf, h]

/-- The page table after an uncorrectable error: its page is poisoned. -/
theorem State.pte_eccUe (s : State) (line : Nat) (flag : Bool) : (s.eccUe line flag).pte =
    (s.setPte (pageOf (64 * line)) { s.pteOf (pageOf (64 * line)) with poison := true }).pte := by
  unfold State.eccUe
  dsimp only
  split <;> simp [State.setPte, State.setHealth, State.pteOf]

@[simp] theorem State.pageView_eccUe (s : State) (line : Nat) (flag : Bool) (q : Nat) :
    (s.eccUe line flag).pageView q = s.pageView q := by
  rw [State.pageView_congr (s.pte_eccUe line flag), State.pageView, State.pteOf, State.setPte, Tab.get_set]
  split
  next hq => rw [hq]; rfl
  next => rfl

@[simp] theorem State.pageView_eccCe (s : State) (line q : Nat) : (s.eccCe line).pageView q = s.pageView q :=
  State.pageView_congr (by simp) q

@[simp] theorem State.pageView_addrFault (s : State) (req a q : Nat) : (s.addrFault req a).pageView q = s.pageView q :=
  State.pageView_congr (by simp) q

@[simp] theorem State.pageView_lineWrite (s : State) (req a : Nat) (data : List Byte) (q : Nat) :
    (s.lineWrite req a data).pageView q = s.pageView q := by
  have hpoke (r : State) : (r.poke a data).pageView q = r.pageView q := State.pageView_congr (by simp) q
  rw [State.lineWrite_eq, hpoke]
  refine foldl_keeps (fun s => s.pageView q) _ (fun r e => ?_) _ s
  unfold State.overwriteLine
  simp only [keeps_iff, ite_pageView]
  split
  · rfl
  · split
    · exact ({ r with lineErr := Tab.set 0 r.lineErr e.1 0 } : State).pageView_eccUe _ _ q
    · exact State.pageView_congr (by simp) q

@[simp] theorem State.pageView_hbmNoteRead (s : State) (req a n q : Nat) : (s.hbmNoteRead req a n).pageView q = s.pageView q := by
  refine foldl_keeps (fun s => s.pageView q) _ (fun r x => ?_) _ s
  simp only [keeps_iff, ite_pageView, State.pageView_addrFault]
  split
  · rfl
  · exact foldl_keeps (fun s => s.pageView q) _ (fun r x => by simp) _ r

theorem State.runView_hbmNoteRead (s : State) (req a n : Nat) : (s.hbmNoteRead req a n).runView = s.runView := by
  refine foldl_keeps State.runView _ (fun r x => ?_) _ s
  simp only [keeps_iff, ite_runView]
  split
  · exact State.runView_congr (by simp) (by simp)
  · refine foldl_keeps State.runView _ (fun r x => ?_) _ r
    simp only [keeps_iff, ite_runView, State.runView_eccUe]
    split
    · rfl
    · exact State.runView_congr (by simp) (by simp)

/-- The counters that accesses to HBM raise (13 Table 13-8, 16 Table 16-10). -/
def accessCounters : List Nat := [MemCnt.eccUe, MemCnt.eccCe, MemCnt.addrFaults, MemCnt.bar2Faults, FaultCnt.faults]

theorem foldl_countersKept {β : Type} {f : State → β → State} {l : List Nat} (h : ∀ s x, CountersKept l s (f s x)) (xs : List β)
    (s : State) : CountersKept l s (xs.foldl f s) := by
  induction xs generalizing s with
  | nil => exact fun _ _ => rfl
  | cons x xs ih => exact (h s x).trans (ih (f s x))

theorem State.cnt_eccUe (s : State) (line : Nat) (flag : Bool) : (s.eccUe line flag).cnt = (s.bump MemCnt.eccUe 1).cnt := by
  unfold State.eccUe
  dsimp only
  split <;> simp

theorem State.eccUe_countersKept (s : State) (line : Nat) (flag : Bool) : CountersKept accessCounters s (s.eccUe line flag) :=
  ((countersKept_bump s MemCnt.eccUe 1).mono (by decide)).trans (countersKept_of_cnt (s.cnt_eccUe line flag) _)

theorem State.eccCe_countersKept (s : State) (line : Nat) : CountersKept accessCounters s (s.eccCe line) :=
  (countersKept_bump s MemCnt.eccCe 1).mono (by decide)

theorem State.cnt_raiseCause (s : State) (cause detail : Nat) : (s.raiseCause cause detail).cnt = (s.bump FaultCnt.faults 1).cnt := by
  simp [State.raiseCause]

theorem State.addrFault_countersKept (s : State) (req a : Nat) : CountersKept accessCounters s (s.addrFault req a) := by
  rw [State.addrFault]
  split
  · exact ((countersKept_bump s MemCnt.bar2Faults 1).mono (by decide)).trans (countersKept_of_cnt (by simp) _)
  · refine ((countersKept_bump s MemCnt.addrFaults 1).mono (by decide)).trans ?_
    refine (countersKept_of_cnt (t := (s.bump MemCnt.addrFaults 1).log (fromHardware req) 0x0080 req 0 a) (by simp) _).trans ?_
    exact ((countersKept_bump _ FaultCnt.faults 1).mono (by decide)).trans (countersKept_of_cnt (State.cnt_raiseCause _ _ _) _)

theorem State.hbmNoteRead_countersKept (s : State) (req a n : Nat) : CountersKept accessCounters s (s.hbmNoteRead req a n) := by
  refine foldl_countersKept (fun r x => ?_) _ s
  split
  · exact r.addrFault_countersKept _ _
  · refine foldl_countersKept (fun r e => ?_) _ r
    split
    · exact r.eccUe_countersKept _ _
    · exact r.eccCe_countersKept _

theorem State.lineWrite_countersKept (s : State) (req a : Nat) (data : List Byte) :
    CountersKept accessCounters s (s.lineWrite req a data) := by
  have hpoke (r : State) : CountersKept accessCounters r (r.poke a data) := countersKept_of_cnt (by simp) _
  rw [State.lineWrite_eq]
  refine CountersKept.trans (foldl_countersKept (fun r e => ?_) _ s) (hpoke _)
  have hline : CountersKept accessCounters r ({ r with lineErr := Tab.set 0 r.lineErr e.1 0 } : State) := countersKept_of_cnt rfl _
  unfold State.overwriteLine
  dsimp only
  split
  · exact hline
  · split
    · exact hline.trans ((State.eccUe_countersKept _ e.1 _).trans (countersKept_of_cnt rfl _))
    · exact hline.trans ((countersKept_bump _ MemCnt.eccCe 1).mono (by decide))

/-! ## The page copied (13 R323 steps 3 to 5) -/

/-- The held writes of the page whose first byte is `a` go to memory in order. -/
def State.pageReleased (s : State) (p a : Nat) : State :=
  (s.heldWrites.filter (fun h => h.page == p)).foldl (fun s h => s.lineWrite h.req (a + h.offset) h.data)
    { s with heldWrites := s.heldWrites.filter (fun h => h.page != p) }

/-- `n` bytes from `a` on read, and the bytes `data` laid from `b` on. -/
def State.relaid (s : State) (req a n b : Nat) (data : List Byte) : State := (s.hbmNoteRead req a n).lineWrite req b data

/-- The page with its copy made. -/
def State.marked (s : State) (p : Nat) : State := s.setPte p { s.pteOf p with copied := true, wp := false }

/-- Page `p` copied from `a` to `b`, where `data` comes to lie. -/
def State.copiedOver (s : State) (p a n b : Nat) (data : List Byte) : State :=
  ((s.relaid (210 + p % 8) a n b data).marked p).pageReleased p a

/-- The copy of a page lays a page of bytes on the shadow page. -/
theorem State.copyPage_eq (s : State) (p : Nat) : ∃ data, data.length = 2 ^ 21 ∧
    s.copyPage p = s.copiedOver p (p * 2 ^ 21) (2 ^ 21) ((s.pteOf p).shadow * 2 ^ 21) data :=
  ⟨s.hbmBytes (p * 2 ^ 21) (2 ^ 21), by simp [State.hbmBytes], rfl⟩

section Copied

variable (s : State) (p a n b : Nat) (data : List Byte)

theorem State.pageView_pageReleased (q : Nat) : (s.pageReleased p a).pageView q = s.pageView q :=
  foldl_keeps (fun s => s.pageView q) _ (fun r h => by simp) _ _

theorem State.heldWrites_copiedOver : (s.copiedOver p a n b data).heldWrites = s.heldWrites.filter (fun h => h.page != p) := by
  rw [State.copiedOver, State.pageReleased, foldl_keeps State.heldWrites _ (fun r h => by simp) _ _]
  simp [State.marked, State.relaid]

theorem State.pteOf_copiedOver :
    ((s.copiedOver p a n b data).pteOf p).copied = true ∧ ((s.copiedOver p a n b data).pteOf p).wp = false := by
  have hview := ((s.relaid (210 + p % 8) a n b data).marked p).pageView_pageReleased p a p
  rw [← State.copiedOver, State.pageView, State.pageView, State.marked, State.setPte, State.pteOf, State.pteOf,
    Tab.get_set_self] at hview
  exact ⟨congrArg Pte.copied hview, congrArg Pte.wp hview⟩

theorem State.ctrs_copiedOver : (s.copiedOver p a n b data).plan.ctrs = s.plan.ctrs := by
  have hrelaid : (s.relaid (210 + p % 8) a n b data).runView = s.runView := by
    rw [State.relaid, State.runView_lineWrite, State.runView_hbmNoteRead]
  have hview : (s.copiedOver p a n b data).runView = (s.relaid (210 + p % 8) a n b data).runView :=
    foldl_keeps State.runView _ (fun r h => by simp) _ _
  exact congrArg (fun v => v.1.ctrs) (hview.trans hrelaid)

theorem State.copiedOver_countersKept : CountersKept accessCounters s (s.copiedOver p a n b data) := by
  have hrelaid : CountersKept accessCounters s (s.relaid (210 + p % 8) a n b data) :=
    (s.hbmNoteRead_countersKept _ _ _).trans (State.lineWrite_countersKept _ _ _ _)
  exact hrelaid.trans (foldl_countersKept (fun r h => r.lineWrite_countersKept _ _ _) _ _)

end Copied

/-- A write within a page leaves every byte outside the page. -/
theorem State.stored_lineWrite_of_page (s : State) (req : Nat) {p a off k : Nat} {data : List Byte} (ha : a = p * 2 ^ 21)
    (hdata : off + data.length ≤ 2 ^ 21) (hk : ¬ (p * 2 ^ 21 ≤ k ∧ k < (p + 1) * 2 ^ 21)) :
    (s.lineWrite req (a + off) data).stored k = s.stored k :=
  (s.lineWrite_leaves req (a + off) data).2 k (by omega) fun _ => by omega

/-- A copy changes the page and its shadow page alone. -/
theorem State.stored_copiedOver (s : State) {p a n b k q : Nat} {data : List Byte} (ha : a = p * 2 ^ 21) (hb : b = q * 2 ^ 21)
    (hdata : data.length = 2 ^ 21) (hpage : ¬ (p * 2 ^ 21 ≤ k ∧ k < (p + 1) * 2 ^ 21))
    (hshadow : ¬ (q * 2 ^ 21 ≤ k ∧ k < (q + 1) * 2 ^ 21))
    (hheld : ∀ h ∈ s.heldWrites, h.page = p → h.offset + h.data.length ≤ 2 ^ 21) :
    (s.copiedOver p a n b data).stored k = s.stored k := by
  have hcopy : (s.relaid (210 + p % 8) a n b data).stored k = s.stored k := by
    have hlay := (s.hbmNoteRead (210 + p % 8) a n).stored_lineWrite_of_page (210 + p % 8) (off := 0) hb
      (by omega : 0 + data.length ≤ 2 ^ 21) hshadow
    refine hlay.trans ?_
    simp [State.stored]
  have hall (l : List HeldWrite) (hl : ∀ h ∈ l, h ∈ s.heldWrites ∧ h.page = p) (r : State) :
      (l.foldl (fun s h => s.lineWrite h.req (a + h.offset) h.data) r).stored k = r.stored k := by
    induction l generalizing r with
    | nil => rfl
    | cons h l ih =>
      obtain ⟨hmem, heq⟩ := hl h List.mem_cons_self
      exact (ih (fun x hx => hl x (List.mem_cons_of_mem h hx)) _).trans
        (r.stored_lineWrite_of_page h.req ha (hheld h hmem heq) hpage)
  have hsame : ((s.relaid (210 + p % 8) a n b data).marked p).heldWrites = s.heldWrites := by simp [State.marked, State.relaid]
  rw [State.copiedOver, State.pageReleased, hsame]
  refine (hall _ (fun h hh => ?_) _).trans hcopy
  rwa [List.mem_filter, beq_iff_eq] at hh

/-! ## Messages that waited for held writes (15 R382) -/

theorem State.ackMsg_countersKept (s : State) (u : Unacked) : CountersKept signalCounters s (s.ackMsg u) := by
  have hsignal := s.applySignal_countersKept u.sigId u.sigInc none
  rw [State.ackMsg]
  split
  · exact hsignal.trans (countersKept_of_cnt (by simp) _)
  · exact hsignal

theorem State.settleAcks_countersKept (s : State) : CountersKept signalCounters s s.settleAcks :=
  foldl_countersKept State.ackMsg_countersKept (s.splitAcks s.fab.unacked).1 { s with fab.unacked := (s.splitAcks s.fab.unacked).2 }

theorem State.fab_settleAcks_others (s : State) : { s.settleAcks.fab with unacked := s.fab.unacked } = s.fab := by
  have hfab : s.settleAcks.fab = { s.fab with unacked := (s.splitAcks s.fab.unacked).2 } :=
    foldl_keeps State.fab _ (fun r u => by simp) _ _
  rw [hfab]

theorem State.settleAcks_of_none {s : State} (h : s.fab.unacked = []) : s.settleAcks = s := by
  have hsame : ({ s with fab.unacked := [] } : State) = s := by rw [← h]
  rw [State.settleAcks, h]
  exact hsame

theorem State.out_ackMsg (s : State) (u : Unacked) :
    (s.ackMsg u).out = s.out ++ (if u.tell then [OutEvent.ack u.port u.src] else []) := by
  rw [State.ackMsg]
  split <;> simp [State.emit]

theorem State.out_settleAcks_single {s : State} (hheld : s.heldWrites = []) {u : Unacked} (h : s.fab.unacked = [u]) :
    s.settleAcks.out = s.out ++ (if u.tell then [OutEvent.ack u.port u.src] else []) := by
  rw [State.settleAcks, State.splitAcks_of_none hheld, h]
  exact State.out_ackMsg _ u

/-! ## The commands -/

section Hold

variable (s : State) (base req p off : Nat) (data : List Byte)

theorem State.holdWrite_onlyChanges : OnlyChanges [.pte, .shadowNext, .heldWrites] s (s.holdWrite base req p off data) := by
  simp [onlyChanges_iff]

theorem State.heldWrites_holdWrite : (s.holdWrite base req p off data).heldWrites =
    s.heldWrites ++ [{ req := req, page := p, offset := off, data := data }] := by
  rw [State.holdWrite]
  dsimp only
  split <;> rfl

/-- The first write held for a page takes the stack's next shadow page (13 R323 step 1). -/
theorem State.holdWrite_first (h : s.heldWrites.any (fun h => h.page == p) = false) :
    (s.holdWrite base req p off data).pte =
      (s.setPte p { s.pteOf p with shadow := shadowPage base (p % 8) (Tab.get 0 s.shadowNext (p % 8)) }).pte ∧
    (s.holdWrite base req p off data).shadowNext =
      Tab.set 0 s.shadowNext (p % 8) (Tab.get 0 s.shadowNext (p % 8) + 1) := by
  simp only [State.holdWrite, h, Bool.not_false, if_true, State.setPte, and_self]

/-- A later one waits behind it (13 R323 step 2). -/
theorem State.holdWrite_later (h : s.heldWrites.any (fun h => h.page == p) = true) :
    (s.holdWrite base req p off data).pte = s.pte ∧ (s.holdWrite base req p off data).shadowNext = s.shadowNext := by
  simp only [State.holdWrite, h, Bool.not_true, Bool.false_eq_true, if_false, and_self]

end Hold

/-- COW_WRITE_HOLD: a write to a protected page is held, and memory is untouched. -/
theorem cowWriteHold_holds (page : Fin 262144) (off : Nat) (data : List Byte) (s : State) :
    let p := page.val
    let first := !(s.heldWrites.any (fun h => h.page == p))
    let k := Tab.get 0 s.shadowNext (p % 8)
    off + data.length ≤ 2 ^ 21 → 0 < data.length → (s.pteOf p).valid = true → (s.pteOf p).wp = true → (s.pteOf p).ro = false →
       ∃ t, exec (.cowWriteHold page off data) s = .next t ∧ t.mem = s.mem ∧
         t.heldWrites = s.heldWrites ++ [{ req := 210 + p % 8, page := p, offset := off, data := data }] ∧
         (first = true → (t.pteOf p).shadow = shadowPage s.shadowBase (p % 8) k ∧ Tab.get 0 t.shadowNext (p % 8) = k + 1) ∧
         (first = false → t.pte = s.pte ∧ t.shadowNext = s.shadowNext) ∧
         (∀ q, q ≠ p → t.pteOf q = s.pteOf q) ∧ OnlyChanges [.pte, .shadowNext, .heldWrites] s t := by
  intro p first k hroom hlen hvalid hwp hro
  have hexec : exec (.cowWriteHold page off data) s = .next (s.holdWrite s.shadowBase (210 + p % 8) p off data) := by
    show execCowWriteHold page off data s = _
    rw [execCowWriteHold, checked_of_wellFormed (by rw [wellFormed, decide_eq_true hroom, decide_eq_true hlen]; rfl)]
    simp only [p, hvalid, hwp, hro, Bool.not_false, Bool.and_true, if_true]
  refine ⟨_, hexec, by simp, s.heldWrites_holdWrite _ _ _ _ _, fun hfirst => ?_, fun hlater => ?_, fun q hq => ?_,
    s.holdWrite_onlyChanges _ _ _ _ _⟩
  · obtain ⟨hpte, hnext⟩ := s.holdWrite_first s.shadowBase (210 + p % 8) p off data (by simpa [first] using hfirst)
    rw [State.pteOf, hpte, hnext]
    exact ⟨by rw [State.setPte, Tab.get_set_self], Tab.get_set_self _ _ _ _⟩
  · exact s.holdWrite_later _ _ _ _ _ (by simpa [first] using hlater)
  · cases hany : s.heldWrites.any (fun h => h.page == p) with
    | true => rw [State.pteOf, (s.holdWrite_later _ _ _ _ _ hany).1, State.pteOf]
    | false => rw [State.pteOf, (s.holdWrite_first _ _ _ _ _ hany).1, State.setPte, Tab.get_set_ne _ _ _ _ _ hq, State.pteOf]

/-- Page `p` has its copy made and its held writes released. -/
structure PageCopied (s r : State) (p : Nat) : Prop where
  copied : (r.pteOf p).copied = true
  wp : (r.pteOf p).wp = false
  held : r.heldWrites = s.heldWrites.filter (fun h => h.page != p)
  ctrs : r.plan.ctrs = s.plan.ctrs
  counters : CountersKept accessCounters s r
  stored : ∀ k, ¬ (p * 2 ^ 21 ≤ k ∧ k < (p + 1) * 2 ^ 21) →
    ¬ ((s.pteOf p).shadow * 2 ^ 21 ≤ k ∧ k < ((s.pteOf p).shadow + 1) * 2 ^ 21) →
    (∀ h ∈ s.heldWrites, h.page = p → h.offset + h.data.length ≤ 2 ^ 21) → r.stored k = s.stored k
  out : r.out = s.out
  fab : r.fab = s.fab
  unit : r.unit = s.unit
  dev : r.dev = s.dev
  time : r.time = s.time

theorem State.copyPage_copies (s : State) (p : Nat) : PageCopied s (s.copyPage p) p := by
  obtain ⟨data, hdata, hcopy⟩ := s.copyPage_eq p
  obtain ⟨hcopied, hfree⟩ := s.pteOf_copiedOver p (p * 2 ^ 21) (2 ^ 21) ((s.pteOf p).shadow * 2 ^ 21) data
  obtain ⟨-, -, hout, hdev, -, -, -, hunit, htime, -, hfab, -, -⟩ := s.copyPage_frame p
  rw [hcopy] at hout hdev hunit htime hfab ⊢
  exact ⟨hcopied, hfree, s.heldWrites_copiedOver _ _ _ _ _, s.ctrs_copiedOver _ _ _ _ _, s.copiedOver_countersKept _ _ _ _ _,
    fun _ => s.stored_copiedOver rfl rfl hdata, hout, hfab, hunit, hdev, htime⟩

section Settled

variable {s r : State} {p : Nat} (h : PageCopied s r p)
include h

/-- A copy counted has what a copy made has. -/
theorem PageCopied.counted (held : Nat) : let q := r.bumps [(MemCnt.cowCopies, 1), (MemCnt.cowHoldCyc, held)]
    q.cntGet MemCnt.cowCopies = min (s.cntGet MemCnt.cowCopies + 1) 0xFFFFFFFF ∧
      q = { r with cnt := q.cnt } := by
  refine ⟨?_, rfl⟩
  rw [State.bumps, List.foldl_cons, List.foldl_cons, List.foldl_nil,
    State.cntGet_bump_ne _ (by decide : MemCnt.cowCopies ≠ MemCnt.cowHoldCyc), State.cntGet_bump_narrow _ (by decide),
    h.counters MemCnt.cowCopies (by decide)]

/-- What COW_COPY_DONE leaves, once the messages that waited have been acknowledged. -/
theorem PageCopied.settled {q : State} (hcount : q.cntGet MemCnt.cowCopies = min (s.cntGet MemCnt.cowCopies + 1) 0xFFFFFFFF)
    (hsame : q = { r with cnt := q.cnt }) : let t := q.settleAcks
    (t.pteOf p).copied = true ∧ (t.pteOf p).wp = false ∧ t.heldWrites = s.heldWrites.filter (fun h => h.page != p) ∧
       t.cntGet MemCnt.cowCopies = min (s.cntGet MemCnt.cowCopies + 1) 0xFFFFFFFF ∧
       (∀ a, ¬ (p * 2 ^ 21 ≤ a ∧ a < (p + 1) * 2 ^ 21) →
         ¬ ((s.pteOf p).shadow * 2 ^ 21 ≤ a ∧ a < ((s.pteOf p).shadow + 1) * 2 ^ 21) →
         (∀ h ∈ s.heldWrites, h.page = p → h.offset + h.data.length ≤ 2 ^ 21) → t.stored a = s.stored a) ∧
       (∀ u, s.fab.unacked = [u] → (∀ h ∈ s.heldWrites, h.page = p) →
         t.fab.unacked = [] ∧ t.out = s.out ++ (if u.tell then [OutEvent.ack u.port u.src] else [])) ∧
       (s.fab.unacked = [] → t.out = s.out ∧ t.plan.ctrs = s.plan.ctrs) ∧ { t.fab with unacked := s.fab.unacked } = s.fab ∧
       t.unit = s.unit ∧ t.dev = s.dev ∧ t.time = s.time := by
  have hfab : q.fab = s.fab := by rw [hsame]; exact h.fab
  have hout : q.out = s.out := by rw [hsame]; exact h.out
  have hheld : q.heldWrites = s.heldWrites.filter (fun h => h.page != p) := by rw [hsame]; exact h.held
  have hpte : q.settleAcks.pteOf p = r.pteOf p := by
    rw [State.pteOf, (by simp : q.settleAcks.pte = q.pte), hsame, State.pteOf]
  refine ⟨hpte ▸ h.copied, hpte ▸ h.wp, by simpa using hheld, ?_, fun k hpage hshadow hroom => ?_,
    fun u hu hmine => ?_, fun hnone => ?_, ?_, ?_, ?_, ?_⟩
  · rw [q.settleAcks_countersKept MemCnt.cowCopies (by decide), hcount]
  · rw [← h.stored k hpage hshadow hroom, State.stored, (by simp : q.settleAcks.mem = q.mem), hsame, State.stored]
  · have hempty : q.heldWrites = [] := by
      rw [hheld, List.filter_eq_nil_iff]
      intro h hh
      simp [hmine h hh]
    rw [State.fab_settleAcks hempty, State.out_settleAcks_single hempty (hfab ▸ hu), hout]
    exact ⟨rfl, rfl⟩
  · rw [State.settleAcks_of_none (hfab ▸ hnone)]
    exact ⟨hout, by rw [hsame]; exact h.ctrs⟩
  · rw [← hfab]
    exact q.fab_settleAcks_others
  · rw [← h.unit, (by simp : q.settleAcks.unit = q.unit), hsame]
  · rw [← h.dev, (by simp : q.settleAcks.dev = q.dev), hsame]
  · rw [← h.time, (by simp : q.settleAcks.time = q.time), hsame]

end Settled

theorem exec_cowCopyDone {page : Fin 262144} {s : State} (hany : s.heldWrites.any (fun h => h.page == page.val) = true)
    (hwp : (s.pteOf page.val).wp = true) (held : Nat) : exec (.cowCopyDone page held) s =
      .next ((s.copyPage page.val).bumps [(MemCnt.cowCopies, 1), (MemCnt.cowHoldCyc, held)]).settleAcks := by
  show execCowCopyDone page held s = _
  rw [execCowCopyDone, hany, hwp, if_pos (Bool.and_self true)]

/-- COW_COPY_DONE: the page has its copy, its held writes are released, and what waited for them is acknowledged. -/
theorem cowCopyDone_releases (page : Fin 262144) (held : Nat) (s : State) :
    let p := page.val
    let first := !(s.heldWrites.any (fun h => h.page == p))
    first = false → (s.pteOf p).wp = true → ∃ t, exec (.cowCopyDone page held) s = .next t ∧
       (t.pteOf p).copied = true ∧ (t.pteOf p).wp = false ∧ t.heldWrites = s.heldWrites.filter (fun h => h.page != p) ∧
       t.cntGet MemCnt.cowCopies = min (s.cntGet MemCnt.cowCopies + 1) 0xFFFFFFFF ∧
       (∀ a, ¬ (p * 2 ^ 21 ≤ a ∧ a < (p + 1) * 2 ^ 21) →
         ¬ ((s.pteOf p).shadow * 2 ^ 21 ≤ a ∧ a < ((s.pteOf p).shadow + 1) * 2 ^ 21) →
         (∀ h ∈ s.heldWrites, h.page = p → h.offset + h.data.length ≤ 2 ^ 21) → t.stored a = s.stored a) ∧
       (∀ u, s.fab.unacked = [u] → (∀ h ∈ s.heldWrites, h.page = p) →
         t.fab.unacked = [] ∧ t.out = s.out ++ (if u.tell then [OutEvent.ack u.port u.src] else [])) ∧
       (s.fab.unacked = [] → t.out = s.out ∧ t.plan.ctrs = s.plan.ctrs) ∧ { t.fab with unacked := s.fab.unacked } = s.fab ∧
       t.unit = s.unit ∧ t.dev = s.dev ∧ t.time = s.time := by
  intro p first hlater hwp
  obtain ⟨hcount, hsame⟩ := (s.copyPage_copies p).counted held
  exact ⟨_, exec_cowCopyDone (by simpa [first] using hlater) hwp held, (s.copyPage_copies p).settled hcount hsame⟩

/-! ## The patrol scrub (13 R318) -/

/-- A line the scrub finds uncorrectable, or has found so before: it stays so. -/
def State.scrubbed (s : State) (line : Nat) : State := ({ s with lineErr := Tab.set 0 s.lineErr line 2 } : State).eccUe line false

theorem State.eccUe_logsOne (s : State) (line : Nat) : LogsOne s (s.eccUe line false) (3, 0) 0x0080 (pageOf (64 * line)) :=
  ⟨rfl, _, rfl, rfl, rfl, rfl, rfl, rfl⟩

theorem State.plan_eccUe (s : State) (line : Nat) : (s.eccUe line false).plan = s.plan := by
  rw [State.eccUe]
  simp

theorem State.scrubbed_poisons (s : State) (line : Nat) : let t := s.scrubbed line
    Tab.get 0 t.lineErr line = 2 ∧ (t.pteOf (pageOf (64 * line))).poison = true ∧
      t.cntGet MemCnt.eccUe = min (s.cntGet MemCnt.eccUe + 1) 0xFFFFFFFF ∧ LogsOne s t (3, 0) 0x0080 (pageOf (64 * line)) ∧
      OnlyChanges [.lineErr, .pte, .cnt, .trust] s t := by
  refine ⟨?_, State.poison_eccUe _ line false, ?_, State.eccUe_logsOne _ line, ?_⟩
  · simp [State.scrubbed]
  · rw [State.scrubbed, State.cntGet_of_cnt (State.cnt_eccUe _ line false)]
    exact s.cntGet_bump_narrow (by decide) 1
  · simp [onlyChanges_iff, State.scrubbed, State.plan_eccUe]

theorem State.eccCe_corrects (s : State) (line : Nat) : let t := s.eccCe line
    Tab.get 0 t.lineErr line = 0 ∧ t.cntGet MemCnt.eccCe = min (s.cntGet MemCnt.eccCe + 1) 0xFFFFFFFF ∧
      OnlyChanges [.lineErr, .cnt] s t :=
  ⟨Tab.get_set_self _ _ _ _, s.cntGet_bump_narrow (by decide) 1, by simp [onlyChanges_iff]⟩

/-- PATROL_SCRUB of a line, once HBM runs. -/
theorem exec_patrolScrub {line : Nat} {s : State} (hline : line < 2 ^ 33) (hcold : s.dev.state ≠ .cold) (hstep : 5 ≤ s.dev.stepDone)
    (ecc : EccOutcome) : exec (.patrolScrub line ecc) s = .next
      (if ecc = .uncorrectable ∨ Tab.get 0 s.lineErr line = 2 then s.scrubbed line
        else if ecc = .corrected then s.eccCe line else s) := by
  show execPatrolScrub line ecc s = _
  rw [execPatrolScrub, checked_of_wellFormed (by rw [wellFormed]; exact fits_of_lt hline)]
  simp only [hcold, decide_false, Bool.false_or, decide_eq_true_eq, Nat.not_lt.mpr hstep, Bool.false_eq_true, if_false, Bool.or_eq_true]
  rw [apply_ite Host.Outcome.next, apply_ite Host.Outcome.next]
  rfl

/-- PATROL_SCRUB. -/
theorem patrolScrub_scrubs (line : Nat) (ecc : EccOutcome) (s : State) (hline : line < 2 ^ 33) (hcold : s.dev.state ≠ .cold)
    (hstep : 5 ≤ s.dev.stepDone) : ∃ t, exec (.patrolScrub line ecc) s = .next t ∧ t.mem = s.mem ∧
       (ecc = .uncorrectable ∨ Tab.get 0 s.lineErr line = 2 →
         Tab.get 0 t.lineErr line = 2 ∧ (t.pteOf (pageOf (64 * line))).poison = true ∧
         t.cntGet MemCnt.eccUe = min (s.cntGet MemCnt.eccUe + 1) 0xFFFFFFFF ∧ LogsOne s t (3, 0) 0x0080 (pageOf (64 * line)) ∧
         OnlyChanges [.lineErr, .pte, .cnt, .trust] s t) ∧
       (ecc = .corrected → Tab.get 0 s.lineErr line ≠ 2 → Tab.get 0 t.lineErr line = 0 ∧
         t.cntGet MemCnt.eccCe = min (s.cntGet MemCnt.eccCe + 1) 0xFFFFFFFF ∧ OnlyChanges [.lineErr, .cnt] s t) ∧
       (ecc = .clean → Tab.get 0 s.lineErr line ≠ 2 → t = s) := by
  rw [exec_patrolScrub hline hcold hstep]
  by_cases hbad : ecc = .uncorrectable ∨ Tab.get 0 s.lineErr line = 2
  · rw [if_pos hbad]
    exact ⟨_, rfl, by simp [State.scrubbed], fun _ => s.scrubbed_poisons line, fun hecc hgood => by simp [hecc, hgood] at hbad,
      fun hecc hgood => by simp [hecc, hgood] at hbad⟩
  · rw [if_neg hbad]
    cases ecc with
    | uncorrectable => exact absurd (.inl rfl) hbad
    | corrected => exact ⟨_, rfl, by simp, fun h => absurd h hbad, fun _ _ => s.eccCe_corrects line, fun h => by cases h⟩
    | clean => exact ⟨_, rfl, rfl, fun h => absurd h hbad, fun h => (by cases h), fun _ _ => rfl⟩

/-- Settles O41: a write held, a page copied and its messages acknowledged, a line scrubbed. -/
theorem pagesAreCopiedAndScrubbed : Obligations.PagesAreCopiedAndScrubbed := by
  unfold Obligations.PagesAreCopiedAndScrubbed
  exact ⟨fun page off held data s => ⟨cowWriteHold_holds page off data s, cowCopyDone_releases page held s⟩, patrolScrub_scrubs⟩

end Sys2Proof.Machine
end

section
/-! PROOFS. The streams of a checkpoint (17 R428 to R432, Table 17-6): what reading and writing page images leaves alone, and how a stream
starts, fails and closes. -/

namespace Sys2Proof.Machine

/-! ## The ports are told (18 R454) -/

theorem State.raiseVector_countersKept (s : State) (p v : Nat) : CountersKept [MbxCnt.irqs p] s (s.raiseVector p v) := by
  rw [State.raiseVector]
  split
  · exact fun _ _ => rfl
  · exact countersKept_bump (s.emit (.msix p v)) (MbxCnt.irqs p) 1

theorem State.raiseBoth_countersKept (s : State) (v : Nat) : CountersKept [MbxCnt.irqs 0, MbxCnt.irqs 1] s (s.raiseBoth v) :=
  ((s.raiseVector_countersKept 0 v).mono (by simp)).trans ((State.raiseVector_countersKept _ 1 v).mono (by simp))

theorem State.out_prefix_raiseVector (s : State) (p v : Nat) : s.out <+: (s.raiseVector p v).out := by
  rw [State.raiseVector]
  split
  · exact List.prefix_rfl
  · exact ⟨[.msix p v], by simp [State.emit]⟩

theorem State.out_prefix_raiseBoth (s : State) (v : Nat) : s.out <+: (s.raiseBoth v).out :=
  (s.out_prefix_raiseVector 0 v).trans (State.out_prefix_raiseVector _ 1 v)

/-! ## Page images read and written (17 R425, R428, R429) -/

/-- The counters that a read of page images may raise (13 Table 13-8, 17 Table 17-9). -/
def imageCounters : List Nat := CkptCnt.poisonedPages :: accessCounters

/-- What writing page images leaves: the state's checkpoint is as it was but for the mark that a page was poisoned, what left the part
before has left, and the counters are those that a read raises. -/
structure Ships (s t : State) : Prop where
  ck : { t.ck with poisoned := false } = { s.ck with poisoned := false }
  out : s.out <+: t.out
  counters : CountersKept imageCounters s t
  frame : OnlyChanges [.ck, .cnt, .trust, .out, .pte, .lineErr, .plan] s t

theorem Ships.refl (s : State) : Ships s s := ⟨rfl, List.prefix_rfl, fun _ _ => rfl, .refl _ s⟩

theorem Ships.trans {s t r : State} (h : Ships s t) (h' : Ships t r) : Ships s r :=
  ⟨h'.ck.trans h.ck, h.out.trans h'.out, h.counters.trans h'.counters,
    h.frame.trans h'.frame (List.Subset.refl _) (List.Subset.refl _)⟩

theorem foldl_ships {β : Type} {f : State → β → State} (h : ∀ s x, Ships s (f s x)) (xs : List β) (s : State) :
    Ships s (xs.foldl f s) := by
  induction xs generalizing s with
  | nil => exact .refl s
  | cons x xs ih => exact (h s x).trans (ih (f s x))

theorem State.eccUe_ships (s : State) (line : Nat) (flag : Bool) : Ships s (s.eccUe line flag) :=
  ⟨by simp, by simp, (s.eccUe_countersKept line flag).mono (List.subset_cons_self _ _),
    (s.eccUe_onlyChanges line flag).mono (by simp)⟩

theorem State.eccCe_ships (s : State) (line : Nat) : Ships s (s.eccCe line) :=
  ⟨by simp, by simp, (s.eccCe_countersKept line).mono (List.subset_cons_self _ _), by simp [onlyChanges_iff]⟩

theorem State.poisoned_ships (s : State) : Ships s { s.bump CkptCnt.poisonedPages 1 with ck.poisoned := true } :=
  ⟨rfl, by simp, (countersKept_bump s CkptCnt.poisonedPages 1).mono (by simp [imageCounters]), by simp [onlyChanges_iff]⟩

theorem State.noteImages_ships (s : State) (pages : List Nat) : Ships s (s.noteImages pages) := by
  refine foldl_ships (fun r g => ?_) pages s
  have hlines : Ships r ((r.badLines ((if (r.pteOf g).copied then (r.pteOf g).shadow else g) * 2 ^ 21) (2 ^ 21)).foldl
      (fun s l => if l.2 = 2 then s.eccUe l.1 true else s.eccCe l.1) r) := by
    refine foldl_ships (fun q l => ?_) _ r
    split
    · exact q.eccUe_ships _ _
    · exact q.eccCe_ships _
  dsimp only
  split
  · exact hlines.trans (State.poisoned_ships _)
  · exact hlines

theorem State.emitted_ships (s : State) (l : List OutEvent) : Ships s { s with out := s.out ++ l } :=
  ⟨rfl, List.prefix_append _ _, fun _ _ => rfl, by simp [onlyChanges_iff]⟩

theorem State.shipWhole_ships (s : State) (p list : Nat) (full : Bool) (pages : List Nat) :
    Ships s (s.shipWhole p list full pages).1 :=
  ((s.noteImages_ships pages).trans (State.emitted_ships _ _)).trans (State.emitted_ships _ _)

/-! ## A stream cut short, and one that fails (17 R430, Table 17-6) -/

theorem State.shipCut_countersKept (s : State) (p : Nat) : CountersKept imageCounters s (s.shipCut p) := by
  have hcnt : ∃ pages, (s.shipCut p).cnt = (s.drawNat.2.noteImages pages).cnt := ⟨_, rfl⟩
  obtain ⟨pages, hcnt⟩ := hcnt
  have hnote : CountersKept imageCounters s (s.drawNat.2.noteImages pages) := (s.drawNat.2.noteImages_ships pages).counters
  exact hnote.trans (countersKept_of_cnt hcnt _)

theorem State.cutStream_countersKept (s : State) : CountersKept imageCounters s s.cutStream := by
  let s1 : State := { s with ck.bytes := 0 }
  have hcut : CountersKept imageCounters s ((s1.shipCut 0).shipCut 1) :=
    (s1.shipCut_countersKept 0).trans (State.shipCut_countersKept _ 1)
  have hended (r : State) : CountersKept imageCounters r { r with ck.started := false } := countersKept_of_cnt rfl _
  unfold State.cutStream
  split
  · exact hcut.trans (hended _)
  · exact hended s

theorem State.started_cutStream (s : State) : s.cutStream.ck.started = false := by
  unfold State.cutStream
  split <;> rfl

theorem State.cutStream_of_unstarted {s : State} (h : s.ck.started = false) : s.cutStream = { s with ck.started := false } :=
  if_neg (by simp [h])

/-- The stream cut short, with the code it fails by. -/
def State.failing (s : State) (code : Nat) : State := { s.cutStream with ck.state := 4, ck.failCode := code }

section Fails

variable {s : State} (h : s.ck.state = 1) (code : Nat)
include h

theorem State.failStream_eq : s.failStream code =
    (((s.failing code).bump CkptCnt.failed 1).log (s.dog 2) 0x0030 4 s.ck.lastEffective code).raiseBoth 17 := if_pos h

theorem State.ck_failStream : (s.failStream code).ck = { s.cutStream.ck with state := 4, failCode := code } := by
  rw [State.failStream_eq h]
  simp [State.failing]

theorem State.failed_failStream : (s.failStream code).cntGet CkptCnt.failed = min (s.cntGet CkptCnt.failed + 1) 0xFFFFFFFF := by
  have hcut : (s.failing code).cntGet CkptCnt.failed = s.cntGet CkptCnt.failed := s.cutStream_countersKept CkptCnt.failed (by decide)
  rw [State.failStream_eq h, State.raiseBoth_countersKept _ 17 CkptCnt.failed (by decide), ← hcut,
    ← State.cntGet_bump_narrow _ (by decide)]
  exact State.cntGet_of_cnt (by simp) _

/-- A stream that has not started fails without writing anything. -/
theorem State.failStream_of_unstarted (hstarted : s.ck.started = false) : LogsOne s (s.failStream code) (0, 2) 0x0030 4 ∧
    OnlyChanges [.ck, .cnt, .trust, .host, .out] s (s.failStream code) := by
  have hfailing : OnlyChanges [.ck] s (s.failing code) := by
    rw [State.failing, State.cutStream_of_unstarted hstarted]
    simp [onlyChanges_iff]
  rw [State.failStream_eq h]
  have htrust : (s.failing code).trust = s.trust := hfailing .trust (by simp)
  have htime : (s.failing code).time = s.time := hfailing .time (by simp)
  refine ⟨?_, hfailing.trans (m := [.cnt, .trust, .host, .out]) ?_ (by simp) (by simp)⟩
  · exact (State.log_logsOne ((s.failing code).bump CkptCnt.failed 1) (s.dog 2) 0x0030 4 s.ck.lastEffective code).congr
      htrust (congrArg Time.beat htime) (by simp)
  · simp [onlyChanges_iff]

end Fails

/-- The stream started: how much is written at any moment before its end is free (17 R428). -/
def State.streaming (s : State) : State :=
  { s.drawNat.2 with
      ck.started := true
      ck.bytes := s.drawNat.1 % (streamLength (s.ckptPages 0).length + streamLength (s.ckptPages 1).length + 1) }

theorem exec_ckptStreamStart {s : State} (hstate : s.ck.state = 1) (hstarted : s.ck.started = false) : exec .ckptStreamStart s =
    .next (if s.listHolds 0 0 (s.ckptPages 0).length = true ∧ s.listHolds 1 0 (s.ckptPages 1).length = true then s.streaming
      else s.failStream 1) := by
  show execCkptStreamStart s = _
  rw [execCkptStreamStart, if_pos (by simp [hstate, hstarted]), apply_ite Host.Outcome.next]
  simp only [Bool.and_eq_true]
  rfl

/-- CKPT_STREAM_START: both ports start to write, or the checkpoint fails with NO_SPACE. -/
theorem ckptStreamStart_starts {s : State} (hstate : s.ck.state = 1) (hstarted : s.ck.started = false) :
    ∃ t, exec .ckptStreamStart s = .next t ∧
       (if s.listHolds 0 0 (s.ckptPages 0).length = true ∧ s.listHolds 1 0 (s.ckptPages 1).length = true then
         t.ck.started = true ∧ t.ck.state = 1 ∧ t.freeIdx = s.freeIdx + 1 ∧ OnlyChanges [.ck, .free] s t
        else t.ck.state = 4 ∧ t.ck.failCode = 1 ∧ t.ck.started = false ∧ t.ck.lastClosed = s.ck.lastClosed ∧
          LogsOne s t (0, 2) 0x0030 4 ∧ OnlyChanges [.ck, .cnt, .trust, .host, .out] s t) := by
  rw [exec_ckptStreamStart hstate hstarted]
  split
  · exact ⟨_, rfl, rfl, hstate, rfl, by simp [onlyChanges_iff, State.streaming, State.drawNat]⟩
  · obtain ⟨hlog, hframe⟩ := State.failStream_of_unstarted hstate 1 hstarted
    have hck := State.ck_failStream hstate 1
    refine ⟨_, rfl, by rw [hck], by rw [hck], ?_, ?_, hlog, hframe⟩
    · rw [hck]
      exact s.started_cutStream
    · rw [hck, State.cutStream_of_unstarted hstarted]

/-- CKPT_TARGET_ERROR: the open stream fails. -/
theorem ckptTargetError_fails (p : Fin 2) {s : State} (hstate : s.ck.state = 1) (hstarted : s.ck.started = true) :
    ∃ t, exec (.ckptTargetError p) s = .next t ∧ t.ck.state = 4 ∧ t.ck.failCode = 2 ∧
       t.ck.started = false ∧ t.mem = s.mem ∧ t.dev = s.dev ∧ t.cntGet CkptCnt.failed = min (s.cntGet CkptCnt.failed + 1) 0xFFFFFFFF := by
  have hexec : exec (.ckptTargetError p) s = .next (s.failStream 2) := by
    show execCkptTargetError p s = _
    rw [execCkptTargetError, if_pos (by simp [hstate, hstarted, p.isLt])]
  have hck := State.ck_failStream hstate 2
  refine ⟨_, hexec, by rw [hck], by rw [hck], ?_, by simp, by simp, State.failed_failStream hstate 2⟩
  rw [hck]
  exact s.started_cutStream

/-! ## A stream closes, and a snapshot (17 R429, R432) -/

/-- The state after both ports have written their streams. -/
def State.shipped (s : State) : State :=
  ((s.shipWhole 0 0 s.ck.fullCold (s.ckptPages 0)).1.shipWhole 1 0 s.ck.fullCold (s.ckptPages 1)).1

/-- The checkpoint in force is CLOSED, and a snapshot opens if one is due. -/
def State.closed (s : State) (bytes : Nat) : State :=
  { s with
      ck.state := 2
      ck.started := false
      ck.lastClosed := s.ck.lastEffective
      ck.closedCount := s.ck.closedCount + 1
      ck.bytes := bytes
      ck.snapOpen := decide (s.ck.openEvery ≠ 0) && decide ((s.ck.closedCount + 1) % s.ck.openEvery = 0) }

theorem State.shipped_ships (s : State) : Ships s s.shipped :=
  (s.shipWhole_ships _ _ _ _).trans (State.shipWhole_ships _ _ _ _ _)

/-- What closing leaves: the counter, the log's entry and the ports' vectors. -/
def State.closing (s : State) (origin : Nat × Nat) (a b : Nat) : State :=
  ((s.bump CkptCnt.closed 1).log origin 0x0030 2 (fields [(0, mod64 s.ck.lastEffective), (64, mod64 s.ck.step)])
    (fields [(0, a), (64, b)])).raiseBoth 17

theorem exec_ckptClose {s : State} (hstate : s.ck.state = 1) (hstarted : s.ck.started = true) : exec .ckptClose s =
    .next ((s.shipped.closed (streamLength (s.ckptPages 0).length + streamLength (s.ckptPages 1).length)).closing (s.dog 2)
      (s.shipWhole 0 0 s.ck.fullCold (s.ckptPages 0)).2
      ((s.shipWhole 0 0 s.ck.fullCold (s.ckptPages 0)).1.shipWhole 1 0 s.ck.fullCold (s.ckptPages 1)).2) := by
  show execCkptClose s = _
  rw [execCkptClose, if_pos (by simp [hstate, hstarted])]
  rfl

section Closes

variable {s q : State} (h : Ships s q)
include h

theorem Ships.ck_field {α : Type} (g : Ckpt → α) (hg : ∀ c : Ckpt, g { c with poisoned := false } = g c) : g q.ck = g s.ck := by
  rw [← hg q.ck, h.ck, hg]

theorem Ships.closing_onlyChanges (bytes : Nat) (origin : Nat × Nat) (a b : Nat) :
    OnlyChanges [.ck, .cnt, .trust, .host, .out, .pte, .lineErr, .plan] s ((q.closed bytes).closing origin a b) := by
  have hclosed : OnlyChanges [.ck] q (q.closed bytes) := by simp [onlyChanges_iff, State.closed]
  have hclosing : OnlyChanges [.cnt, .trust, .host, .out] (q.closed bytes) ((q.closed bytes).closing origin a b) := by
    simp [onlyChanges_iff, State.closing]
  have hlaid := h.frame.trans hclosed (List.Subset.refl _) (by simp)
  exact hlaid.trans hclosing (by simp) (by simp)

theorem Ships.closed_closing (bytes : Nat) (origin : Nat × Nat) (a b : Nat) :
    ((q.closed bytes).closing origin a b).cntGet CkptCnt.closed = min (s.cntGet CkptCnt.closed + 1) 0xFFFFFFFF := by
  have hq : (q.closed bytes).cntGet CkptCnt.closed = s.cntGet CkptCnt.closed := h.counters CkptCnt.closed (by decide)
  rw [State.closing, State.raiseBoth_countersKept _ 17 CkptCnt.closed (by decide), ← hq, ← State.cntGet_bump_narrow _ (by decide)]
  exact State.cntGet_of_cnt (by simp) _

theorem Ships.out_closing (bytes : Nat) (origin : Nat × Nat) (a b : Nat) :
    s.out <+: ((q.closed bytes).closing origin a b).out := by
  have hlogged (old new : Nat) : (((q.closed bytes).bump CkptCnt.closed 1).log origin 0x0030 2 old new).out = q.out := by
    simp [State.closed]
  obtain ⟨old, new, hclosing⟩ : ∃ old new, (q.closed bytes).closing origin a b =
      (((q.closed bytes).bump CkptCnt.closed 1).log origin 0x0030 2 old new).raiseBoth 17 := ⟨_, _, rfl⟩
  rw [hclosing]
  exact h.out.trans (hlogged old new ▸ State.out_prefix_raiseBoth _ 17)

end Closes

/-- CKPT_CLOSE: every closing read has completed, and a due snapshot opens. -/
theorem ckptClose_closes {s : State} (hstate : s.ck.state = 1) (hstarted : s.ck.started = true) :
    ∃ t, exec .ckptClose s = .next t ∧ t.ck.state = 2 ∧ t.ck.lastClosed = s.ck.lastEffective ∧
       t.ck.started = false ∧ t.ck.closedCount = s.ck.closedCount + 1 ∧
       t.ck.bytes = streamLength (s.ckptPages 0).length + streamLength (s.ckptPages 1).length ∧
       (t.ck.snapOpen = true ↔ s.ck.openEvery ≠ 0 ∧ (s.ck.closedCount + 1) % s.ck.openEvery = 0) ∧
       s.out <+: t.out ∧ t.cntGet CkptCnt.closed = min (s.cntGet CkptCnt.closed + 1) 0xFFFFFFFF ∧ t.mem = s.mem ∧
       OnlyChanges [.ck, .cnt, .trust, .host, .out, .pte, .lineErr, .plan] s t := by
  have hships := s.shipped_ships
  refine ⟨_, exec_ckptClose hstate hstarted, ?_⟩
  generalize streamLength (s.ckptPages 0).length + streamLength (s.ckptPages 1).length = bytes
  generalize (State.shipWhole _ _ _ _ _).2 = a
  generalize (State.shipWhole _ _ _ _ _).2 = b
  generalize s.shipped = q at hships ⊢
  have hck : ((q.closed bytes).closing (s.dog 2) a b).ck = (q.closed bytes).ck := by simp [State.closing]
  have hevery : q.ck.openEvery = s.ck.openEvery := hships.ck_field Ckpt.openEvery fun _ => rfl
  have hcount : q.ck.closedCount = s.ck.closedCount := hships.ck_field Ckpt.closedCount fun _ => rfl
  have heffective : q.ck.lastEffective = s.ck.lastEffective := hships.ck_field Ckpt.lastEffective fun _ => rfl
  have honly := hships.closing_onlyChanges bytes (s.dog 2) a b
  refine ⟨by rw [hck]; rfl, by rw [hck]; exact heffective, by rw [hck]; rfl, by rw [hck]; exact congrArg (· + 1) hcount,
    by rw [hck]; rfl, ?_, hships.out_closing _ _ _ _, hships.closed_closing _ _ _ _, honly .mem (by simp), honly⟩
  rw [hck, State.closed, hevery, hcount, Bool.and_eq_true, decide_eq_true_eq, decide_eq_true_eq]

/-- The snapshot's image written, where the lists hold it. -/
def State.snapShipped (s : State) : State :=
  if s.listHolds 0 1 (s.snapPages 0).length && s.listHolds 1 1 (s.snapPages 1).length then
    ((s.shipWhole 0 1 (bit s.ck.openKinds 2) (s.snapPages 0)).1.shipWhole 1 1 (bit s.ck.openKinds 2) (s.snapPages 1)).1
  else s

/-- The snapshot closed, counted and logged. -/
def State.snapClosed (s : State) (origin : Nat × Nat) : State :=
  (({ s with ck.snapOpen := false } : State).bump CkptCnt.snapsShipped 1).log origin 0x0030 3 s.ck.lastEffective s.ck.step

theorem State.snapShipped_ships (s : State) : Ships s s.snapShipped := by
  rw [State.snapShipped]
  split
  · exact (s.shipWhole_ships _ _ _ _).trans (State.shipWhole_ships _ _ _ _ _)
  · exact .refl s

theorem exec_snapshotClose {s : State} (hopen : s.ck.snapOpen = true) :
    exec .snapshotClose s = .next (s.snapShipped.snapClosed (s.dog 2)) := by
  show execSnapshotClose s = _
  rw [State.snapClosed, State.snapShipped, execSnapshotClose, if_pos hopen]

/-- What the snapshot's close leaves. -/
theorem Ships.snapClosed {s q : State} (h : Ships s q) (origin : Nat × Nat) : let t := q.snapClosed origin
    t.ck.snapOpen = false ∧ t.ck.state = s.ck.state ∧
       t.cntGet CkptCnt.snapsShipped = min (s.cntGet CkptCnt.snapsShipped + 1) 0xFFFFFFFF ∧ t.mem = s.mem ∧ s.out <+: t.out ∧
       OnlyChanges [.ck, .cnt, .trust, .out, .pte, .lineErr, .plan] s t := by
  intro t
  have hck : t.ck.snapOpen = false ∧ t.ck.state = q.ck.state := by simp [t, State.snapClosed]
  obtain ⟨hclose, hstate⟩ := hck
  have hclosed : OnlyChanges [.ck, .cnt, .trust] q t := by simp [t, onlyChanges_iff, State.snapClosed]
  have honly := h.frame.trans hclosed (List.Subset.refl _) (by simp)
  have hout : t.out = q.out := hclosed .out (by simp)
  have hq : ({ q with ck.snapOpen := false } : State).cntGet CkptCnt.snapsShipped = s.cntGet CkptCnt.snapsShipped :=
    h.counters CkptCnt.snapsShipped (by decide)
  refine ⟨hclose, hstate.trans (h.ck_field Ckpt.state fun _ => rfl), ?_, honly .mem (by simp), hout ▸ h.out, honly⟩
  rw [← hq, ← State.cntGet_bump_narrow _ (by decide)]
  exact State.cntGet_of_cnt (by simp [t, State.snapClosed]) _

/-- SNAPSHOT_CLOSE. -/
theorem snapshotClose_closes {s : State} (hopen : s.ck.snapOpen = true) :
    ∃ t, exec .snapshotClose s = .next t ∧ t.ck.snapOpen = false ∧ t.ck.state = s.ck.state ∧
       t.cntGet CkptCnt.snapsShipped = min (s.cntGet CkptCnt.snapsShipped + 1) 0xFFFFFFFF ∧ t.mem = s.mem ∧ s.out <+: t.out ∧
       OnlyChanges [.ck, .cnt, .trust, .out, .pte, .lineErr, .plan] s t :=
  ⟨_, exec_snapshotClose hopen, s.snapShipped_ships.snapClosed (s.dog 2)⟩

end Sys2Proof.Machine
end

section
/-! PROOFS. A checkpoint takes effect, is skipped or is missed (13 R322, 16 R406, 17 R421, R422): what a signal leaves of the plan, which pages
are protected, and the entry that fires. -/

namespace Sys2Proof.Machine

/-! ## What signals and acknowledgements leave of the plan (12 R297, 15 R382) -/

/-- The plan but for its counters and the late contributions that a signal lets go. -/
def State.signalView (s : State) : PlanState := { s.plan with ctrs := [], carries := [], droppedNow := 0 }

theorem State.signalView_discardLate (s : State) (id : Nat) : (s.discardLate id).signalView = s.signalView :=
  foldl_keeps State.signalView _ (fun r y => by cases y.trailer <;> rfl) _ _

theorem State.signalView_applySignal (s : State) (id inc : Nat) (rep : Option Nat) :
    (s.applySignal id inc rep).signalView = s.signalView := by
  rw [State.applySignal_eq]
  split
  · rfl
  · split
    · rfl
    · split
      · rfl
      · split
        · exact State.signalView_discardLate _ id
        · rfl

theorem State.signalView_ackMsg (s : State) (u : Unacked) : (s.ackMsg u).signalView = s.signalView := by
  rw [State.ackMsg]
  split
  · exact s.signalView_applySignal _ _ _
  · exact s.signalView_applySignal _ _ _

theorem State.signalView_settleAcks (s : State) : s.settleAcks.signalView = s.signalView :=
  foldl_keeps State.signalView State.ackMsg State.signalView_ackMsg _ _

/-- A field of the plan that signals leave alone. -/
theorem State.plan_field_of_signalView {α : Type} {s t : State} (h : t.signalView = s.signalView) (g : PlanState → α)
    (hg : ∀ q : PlanState, g { q with ctrs := [], carries := [], droppedNow := 0 } = g q) : g t.plan = g s.plan := by
  rw [← hg t.plan, ← hg s.plan]
  exact congrArg g h

theorem State.settleAcks_onlyChanges (s : State) : OnlyChanges [.plan, .cnt, .out, .fab] s s.settleAcks := by
  simp [onlyChanges_iff]

theorem State.releaseHeld_of_none {s : State} (h : s.heldWrites = []) : s.releaseHeld = s.settleAcks := by
  have hsame : ({ s with heldWrites := [] } : State) = s := by rw [← h]
  rw [State.releaseHeld, h, List.foldl_nil, hsame]

/-! ## Pages protected (13 R322) -/

/-- Protecting a list of pages protects those and no others. -/
theorem State.pteOf_protectAll (s : State) (l : List Nat) (g : Nat) :
    (l.foldl (fun s p => s.setPte p { s.pteOf p with wp := true, copied := false }) s).pteOf g =
      if g ∈ l then { s.pteOf g with wp := true, copied := false } else s.pteOf g := by
  induction l generalizing s with
  | nil => rfl
  | cons p l ih =>
    have hset : (s.setPte p { s.pteOf p with wp := true, copied := false }).pteOf g =
        if g = p then { s.pteOf p with wp := true, copied := false } else s.pteOf g := Tab.get_set _ _ _ _ _
    rw [List.foldl_cons, ih, hset]
    by_cases hg : g = p
    · subst hg
      simp
    · simp [hg]

theorem State.pteOf_protect (s : State) (g : Nat) : s.protect.pteOf g =
    if g ∈ s.pagesOfKind protectedKind then { s.pteOf g with wp := true, copied := false } else s.pteOf g := by
  have hpte : s.protect.pte = ((s.pagesOfKind protectedKind).foldl
      (fun s p => s.setPte p { s.pteOf p with wp := true, copied := false }) s).pte := by
    simp only [State.protect]
  rw [← s.pteOf_protectAll, State.pteOf, hpte, ← State.pteOf]

theorem State.pagesOfKind_congr {s t : State} (hbase : t.plan.base = s.plan.base) (hmem : t.mem = s.mem)
    (hfree : t.freeIdx = s.freeIdx) (ok : Nat → Bool) : t.pagesOfKind ok = s.pagesOfKind ok := by
  rw [State.pagesOfKind, State.pagesOfKind, State.regions_congr hbase hmem hfree]

/-- A checkpoint that takes effect ends an open snapshot (17 R432). -/
def State.snapEnded (s : State) : State := if s.ck.snapOpen then s.bump CkptCnt.snapsAbandoned 1 else s

theorem State.snapEnded_keeps (s : State) : OnlyChanges [.cnt] s s.snapEnded ∧ CountersKept [CkptCnt.snapsAbandoned] s s.snapEnded := by
  rw [State.snapEnded]
  split
  · exact ⟨onlyChanges_bump _ _ _, countersKept_bump _ _ _⟩
  · exact ⟨.refl _ s, fun _ _ => rfl⟩

/-- The pages protected, every message whose bytes waited acknowledged. -/
def State.guarded (s : State) : State := s.snapEnded.releaseHeld.protect

theorem State.signalView_settled (s : State) : s.snapEnded.settleAcks.signalView = s.signalView := by
  have hend : s.snapEnded.plan = s.plan := s.snapEnded_keeps.1 .plan (by simp)
  rw [State.signalView_settleAcks, State.signalView, hend, State.signalView]

section Guarded

variable {s : State} (h : s.heldWrites = [])
include h

theorem State.settled_of_none : s.snapEnded.releaseHeld = s.snapEnded.settleAcks := by
  have hheld : s.snapEnded.heldWrites = s.heldWrites := s.snapEnded_keeps.1 .heldWrites (by simp)
  exact State.releaseHeld_of_none (hheld.trans h)

theorem State.guarded_onlyChanges : OnlyChanges [.plan, .cnt, .out, .fab, .pte, .shadowNext] s s.guarded := by
  have hsettle := s.snapEnded_keeps.1.trans (n := [.plan, .cnt, .out, .fab]) s.snapEnded.settleAcks_onlyChanges (by simp) (by simp)
  rw [State.guarded, State.settled_of_none h]
  exact hsettle.trans (m := [.pte, .shadowNext]) (by simp [onlyChanges_iff]) (by simp) (by simp)

theorem State.signalView_guarded : s.guarded.signalView = s.signalView := by
  have hprotect : s.guarded.plan = s.snapEnded.settleAcks.plan := by
    rw [State.guarded, State.settled_of_none h]
    simp
  rw [← s.signalView_settled, State.signalView, hprotect, State.signalView]

theorem State.guarded_countersKept : CountersKept (CkptCnt.snapsAbandoned :: signalCounters) s s.guarded := by
  have hcnt : s.guarded.cnt = s.snapEnded.settleAcks.cnt := by
    rw [State.guarded, State.settled_of_none h]
    simp
  have hend := s.snapEnded_keeps.2.mono (m := CkptCnt.snapsAbandoned :: signalCounters) (by simp)
  exact hend.trans ((s.snapEnded.settleAcks_countersKept.mono (by simp)).trans (countersKept_of_cnt hcnt _))

/-- Exactly the pages of kinds 1, 6 and 7 are protected, and none of them is copied any more. -/
theorem State.pteOf_guarded (g : Nat) : s.guarded.pteOf g =
    if g ∈ s.pagesOfKind protectedKind then { s.pteOf g with wp := true, copied := false } else s.pteOf g := by
  have hsettle := s.snapEnded_keeps.1.trans (n := [.plan, .cnt, .out, .fab]) s.snapEnded.settleAcks_onlyChanges (by simp) (by simp)
  have hpages : s.snapEnded.settleAcks.pagesOfKind protectedKind = s.pagesOfKind protectedKind :=
    State.pagesOfKind_congr (State.plan_field_of_signalView s.signalView_settled PlanState.base fun _ => rfl)
      (hsettle .mem (by simp)) (hsettle .free (by simp)) _
  have hpte (q : Nat) : s.snapEnded.settleAcks.pteOf q = s.pteOf q := by
    rw [State.pteOf, (hsettle .pte (by simp) : _ = s.pte), State.pteOf]
  rw [State.guarded, State.settled_of_none h, State.pteOf_protect, hpages, hpte]

end Guarded

/-! ## The checkpoint in force (17 R421, R422) -/

/-- The checkpoint in force after one that takes effect, as `k` says, with the ports told. -/
def State.inForce (s : State) (k : Ckpt) : State := (({ s with ck := k } : State).bump CkptCnt.effective 1).raiseBoth 17

theorem State.ckptEffect_eq (s : State) (id : Nat) : ∃ k : Ckpt, s.ckptEffect id = s.guarded.inForce k ∧ k.lastEffective = id ∧
    k.state = (if s.guarded.ck.stream then 1 else 3) ∧ k.poisoned = false ∧ k.snapOpen = false ∧ k.step = s.guarded.plan.step := by
  unfold State.ckptEffect
  extract_lets set ended dev guarded ck forced
  have hguarded : guarded = s.guarded := rfl
  have hforced : (forced.bump CkptCnt.effective 1).raiseBoth 17 = guarded.inForce forced.ck := rfl
  rw [hforced, ← hguarded]
  refine ⟨forced.ck, rfl, ?_⟩
  simp only [forced, and_self]

theorem State.inForce_onlyChanges (s : State) (k : Ckpt) : OnlyChanges [.ck, .cnt, .host, .out] s (s.inForce k) := by
  simp [onlyChanges_iff, State.inForce]

theorem State.ck_inForce (s : State) (k : Ckpt) : (s.inForce k).ck = k := by simp [State.inForce]

theorem State.effective_inForce (s : State) (k : Ckpt) :
    (s.inForce k).cntGet CkptCnt.effective = min (s.cntGet CkptCnt.effective + 1) 0xFFFFFFFF := by
  rw [State.inForce, State.raiseBoth_countersKept _ 17 CkptCnt.effective (by decide)]
  exact State.cntGet_bump_narrow _ (by decide) 1

/-! ## The entry that fires (11 R276, 16 R406) -/

theorem State.entryDone_onlyChanges (s : State) (e : Entry) : OnlyChanges [.plan, .cnt] s (s.entryDone e) := by
  simp [onlyChanges_iff]

theorem State.next_entryDone (s : State) (e : Entry) : (s.entryDone e).plan.next = s.plan.next + 1 :=
  (s.entryDone_fires e rfl rfl rfl rfl).1

/-- What a checkpoint does that takes effect as an entry fires. -/
theorem State.ckptEffect_fires {s : State} (hheld : s.heldWrites = []) (id : Nat) (e : Entry) :
    let t := (s.ckptEffect id).entryDone e
    t.plan.next = s.plan.next + 1 ∧ t.mem = s.mem ∧
      t.ck.lastEffective = id ∧ t.ck.state = (if s.ck.stream = true then 1 else 3) ∧ t.ck.poisoned = false ∧
      t.ck.snapOpen = false ∧ t.ck.step = s.plan.step ∧
      (∀ g, t.pteOf g = if g ∈ s.pagesOfKind protectedKind then { s.pteOf g with wp := true, copied := false } else s.pteOf g) ∧
      t.shadowNext = [] ∧ t.cntGet CkptCnt.effective = min (s.cntGet CkptCnt.effective + 1) 0xFFFFFFFF ∧
      OnlyChanges [.ck, .pte, .shadowNext, .plan, .cnt, .host, .out, .fab] s t := by
  obtain ⟨k, heq, hid, hstate, hpoisoned, hsnap, hstep⟩ := s.ckptEffect_eq id
  have hguarded := State.guarded_onlyChanges hheld
  have hforce := s.guarded.inForce_onlyChanges k
  have hdone := (s.guarded.inForce k).entryDone_onlyChanges e
  have hck : s.guarded.ck = s.ck := hguarded .ck (by simp)
  have hview := State.signalView_guarded hheld
  have hplan : (s.guarded.inForce k).plan = s.guarded.plan := hforce .plan (by simp)
  have hpte : ((s.guarded.inForce k).entryDone e).pte = s.guarded.pte := (hforce.trans hdone (List.subset_append_left _ _)
    (List.subset_append_right _ _)) .pte (by simp)
  have hnext : (s.guarded.inForce k).shadowNext = s.guarded.shadowNext := hforce .shadowNext (by simp)
  have honly := (hguarded.trans (n := [.ck, .pte, .shadowNext, .plan, .cnt, .host, .out, .fab]) hforce (by simp) (by simp)).trans
    (n := [.ck, .pte, .shadowNext, .plan, .cnt, .host, .out, .fab]) hdone (by simp) (by simp)
  have hkeep : ((s.guarded.inForce k).entryDone e).ck = k := by simp [State.ck_inForce]
  intro t
  have ht : t = (s.guarded.inForce k).entryDone e := congrArg (fun r : State => r.entryDone e) heq
  rw [ht, hkeep]
  refine ⟨?_, honly .mem (by simp), hid, by rw [hstate, hck], hpoisoned, hsnap, ?_, fun g => ?_, ?_, ?_, honly⟩
  · rw [State.next_entryDone, hplan]
    exact congrArg (· + 1) (State.plan_field_of_signalView hview PlanState.next fun _ => rfl)
  · rw [hstep]
    exact State.plan_field_of_signalView hview PlanState.step fun _ => rfl
  · rw [State.pteOf, hpte, ← State.pteOf, State.pteOf_guarded hheld]
  · rw [(hdone .shadowNext (by simp) : _ = (s.guarded.inForce k).shadowNext), hnext]
    rfl
  · rw [State.entryDone_countersKept _ e CkptCnt.effective (by decide), State.effective_inForce,
      State.guarded_countersKept hheld CkptCnt.effective (by decide)]

/-- Work missed while its Sheepdog's role moves latches cause SHEEPDOG (16 R406). -/
theorem State.missWork_misses (s : State) (r : Nat) : RoleMissed s (s.missWork r) r := by
  obtain ⟨hpending, -⟩ := s.raiseCause_raises 0x0D (s.flt.holder.getD r r)
  refine ⟨hpending, fun hcause => ?_⟩
  simp [State.missWork, State.raiseCause, hcause, scopeOf]

theorem RoleMissed.of_flt {s t r : State} {n : Nat} (h : RoleMissed s t n) (hflt : r.flt = t.flt) : RoleMissed s r n := by
  unfold RoleMissed at *
  rwa [hflt]

/-- What a checkpoint does that is missed as an entry fires. -/
theorem State.missWork_fires (s : State) (e : Entry) : let t := (s.missWork 2).entryDone e
    t.plan.next = s.plan.next + 1 ∧ t.mem = s.mem ∧ RoleMissed s t 2 ∧ t.ck = s.ck ∧ OnlyChanges [.plan, .cnt, .flt, .trust] s t := by
  have hmiss : OnlyChanges [.flt, .cnt, .trust] s (s.missWork 2) := s.raiseCause_onlyChanges _ _
  have honly := hmiss.trans (n := [.plan, .cnt, .flt, .trust]) ((s.missWork 2).entryDone_onlyChanges e) (by simp) (by simp)
  refine ⟨?_, honly .mem (by simp), (s.missWork_misses 2).of_flt (by simp), honly .ck (by simp), honly⟩
  rw [State.next_entryDone, (hmiss .plan (by simp) : _ = s.plan)]

/-- A checkpoint that fires while FROZEN is counted so (16 R420). -/
def State.frozenNoted (s : State) : State := if s.flt.frozen then s.bump FaultCnt.frozenCkpts 1 else s

theorem State.frozenNoted_keeps (s : State) : OnlyChanges [.cnt] s s.frozenNoted ∧ CountersKept [FaultCnt.frozenCkpts] s s.frozenNoted := by
  rw [State.frozenNoted]
  split
  · exact ⟨onlyChanges_bump _ _ _, countersKept_bump _ _ _⟩
  · exact ⟨.refl _ s, fun _ _ => rfl⟩

/-- What a checkpoint does that is skipped as an entry fires. -/
theorem State.ckptSkip_fires (s : State) (id why : Nat) (o : Nat × Nat) (e : Entry) :
    let t := (s.frozenNoted.ckptSkip id why o).entryDone e
    t.plan.next = s.plan.next + 1 ∧ t.mem = s.mem ∧ t.ck = s.ck ∧
      t.cntGet CkptCnt.skipped = min (s.cntGet CkptCnt.skipped + 1) 0xFFFFFFFF ∧
      t.trust.nextSeq = s.trust.nextSeq + 1 ∧ OnlyChanges [.trust, .plan, .cnt] s t := by
  obtain ⟨hnoted, hkept⟩ := s.frozenNoted_keeps
  have hskip : OnlyChanges [.cnt, .trust] s.frozenNoted (s.frozenNoted.ckptSkip id why o) := by
    simp [onlyChanges_iff, State.ckptSkip]
  have hdone := (s.frozenNoted.ckptSkip id why o).entryDone_onlyChanges e
  have hskipped := hnoted.trans (n := [.trust, .cnt]) hskip (by simp) (by simp)
  have honly := hskipped.trans (n := [.trust, .plan, .cnt]) hdone (by simp) (by simp)
  refine ⟨?_, honly .mem (by simp), honly .ck (by simp), ?_, ?_, honly⟩
  · rw [State.next_entryDone, (hskipped .plan (by simp) : _ = s.plan)]
  · rw [State.entryDone_countersKept _ e CkptCnt.skipped (by decide), ← hkept CkptCnt.skipped (by decide),
      ← State.cntGet_bump_narrow _ (by decide)]
    exact State.cntGet_of_cnt (by simp [State.ckptSkip]) _
  · have hlogged : (s.frozenNoted.ckptSkip id why o).trust.nextSeq = s.frozenNoted.trust.nextSeq + 1 :=
      (State.log_logsOne (s.frozenNoted.bump CkptCnt.skipped 1) o 0x0030 1 id why).1
    rw [(hdone .trust (by simp) : _ = (s.frozenNoted.ckptSkip id why o).trust), hlogged, (hnoted .trust (by simp) : _ = s.trust)]

theorem State.ckptBar_iff (s : State) : s.ckptBar = 0 ↔ s.ck.enable = true ∧ s.flt.frozen = false ∧ s.ck.state ≠ 1 := by
  rw [State.ckptBar]
  cases s.ck.enable <;> cases s.flt.frozen <;> simp

theorem exec_checkpoint {s : State} {i : Nat} {e : Entry} (hdue : s.dueKind 0x05 = some (i, e)) : exec .checkpoint s =
    .next ((if s.ckptBar ≠ 0 then s.frozenNoted.ckptSkip (s.entryBeat e) s.ckptBar (fromPlan i)
      else if s.roleMoving 2 then s.frozenNoted.missWork 2 else s.frozenNoted.ckptEffect (s.entryBeat e)).entryDone e) := by
  show execCheckpoint s = _
  rw [execCheckpoint, hdue, State.frozenNoted]

/-- CHECKPOINT. -/
theorem checkpoint_fires {s : State} {i : Nat} {e : Entry} (hdue : s.dueKind 0x05 = some (i, e)) (hheld : s.heldWrites = []) :
    ∃ t, exec .checkpoint s = .next t ∧ t.plan.next = s.plan.next + 1 ∧ t.mem = s.mem ∧
       (if s.ck.enable = true ∧ s.flt.frozen = false ∧ s.ck.state ≠ 1 ∧ s.roleMoving 2 = true then
         RoleMissed s t 2 ∧ t.ck = s.ck ∧ OnlyChanges [.plan, .cnt, .flt, .trust] s t
        else if s.ck.enable = true ∧ s.flt.frozen = false ∧ s.ck.state ≠ 1 then
         t.ck.lastEffective = s.entryBeat e ∧ t.ck.state = (if s.ck.stream = true then 1 else 3) ∧ t.ck.poisoned = false ∧
         t.ck.snapOpen = false ∧ t.ck.step = s.plan.step ∧
         (∀ g, t.pteOf g = if g ∈ s.pagesOfKind protectedKind then { s.pteOf g with wp := true, copied := false } else s.pteOf g) ∧
         t.shadowNext = [] ∧ t.cntGet CkptCnt.effective = min (s.cntGet CkptCnt.effective + 1) 0xFFFFFFFF ∧
         OnlyChanges [.ck, .pte, .shadowNext, .plan, .cnt, .host, .out, .fab] s t
        else t.ck = s.ck ∧ t.cntGet CkptCnt.skipped = min (s.cntGet CkptCnt.skipped + 1) 0xFFFFFFFF ∧
         t.trust.nextSeq = s.trust.nextSeq + 1 ∧ OnlyChanges [.trust, .plan, .cnt] s t) := by
  have hexec := exec_checkpoint hdue
  by_cases hmay : s.ck.enable = true ∧ s.flt.frozen = false ∧ s.ck.state ≠ 1
  · obtain ⟨henable, hfrozen, hstate⟩ := id hmay
    have hbar : ¬ s.ckptBar ≠ 0 := not_not.mpr (s.ckptBar_iff.mpr hmay)
    have hnoted : s.frozenNoted = s := by simp [State.frozenNoted, hfrozen]
    rw [if_neg hbar, hnoted] at hexec
    by_cases hmoving : s.roleMoving 2 = true
    · rw [if_pos hmoving] at hexec
      obtain ⟨hnext, hmem, hmissed⟩ := s.missWork_fires e
      exact ⟨_, hexec, hnext, hmem, (if_pos ⟨henable, hfrozen, hstate, hmoving⟩).mpr hmissed⟩
    · rw [if_neg hmoving] at hexec
      obtain ⟨hnext, hmem, htakes⟩ := State.ckptEffect_fires hheld (s.entryBeat e) e
      exact ⟨_, hexec, hnext, hmem, (if_neg fun ⟨_, _, _, h⟩ => hmoving h).mpr ((if_pos hmay).mpr htakes)⟩
  · have hbar : s.ckptBar ≠ 0 := fun h => hmay (s.ckptBar_iff.mp h)
    rw [if_pos hbar] at hexec
    obtain ⟨hnext, hmem, hskipped⟩ := s.ckptSkip_fires (s.entryBeat e) s.ckptBar (fromPlan i) e
    exact ⟨_, hexec, hnext, hmem,
      (if_neg fun ⟨henable, hfrozen, hstate, _⟩ => hmay ⟨henable, hfrozen, hstate⟩).mpr ((if_neg hmay).mpr hskipped)⟩

/-- Settles O26: the entry's three ends, and the stream's start, failure and close. -/
theorem checkpointsTakeEffectAndStream : Obligations.CheckpointsTakeEffectAndStream := by
  unfold Obligations.CheckpointsTakeEffectAndStream
  exact ⟨fun _ _ _ hdue hheld => checkpoint_fires hdue hheld, fun p _ => ⟨ckptStreamStart_starts, ckptTargetError_fails p, ckptClose_closes,
    snapshotClose_closes⟩⟩

end Sys2Proof.Machine
end

section
/-! PROOFS. What the slot manager's work leaves alone (13 R316 to R318, R323, 14 R343): whatever its accesses to memory meet, the plan but
for the health word, the counters' values, what each page permits, the open act with its targets, and the counts of other things. -/

namespace Sys2Proof.Machine

/-! ## Work that leaves the rest alone -/

/-- What the page table permits of a page (13 R316, R317, R323): VALID, RO and WP. -/
def State.perms (s : State) (q : Nat) : Bool × Bool × Bool := ((s.pteOf q).valid, (s.pteOf q).ro, (s.pteOf q).wp)

theorem State.perms_congr {s t : State} (h : t.pte = s.pte) (q : Nat) : t.perms q = s.perms q := by
  rw [State.perms, State.perms, State.pteOf, State.pteOf, h]

theorem State.perms_of_pageView {s t : State} {q : Nat} (h : t.pageView q = s.pageView q) : t.perms q = s.perms q :=
  (congrArg (fun e : Pte => (e.valid, e.ro, e.wp)) h :)

/-- A page that takes its shadow permits what it did. -/
theorem State.perms_setPte_shadow (s : State) (p k q : Nat) : (s.setPte p { s.pteOf p with shadow := k }).perms q = s.perms q := by
  rw [State.perms, State.pteOf, State.setPte, Tab.get_set]
  split
  next hq => rw [hq]; rfl
  next => rfl

/-- The act that is open and the targets of the slot manager's triggers (14 R343). -/
def Acts.marks (a : Acts) : Nat × Nat × Nat := (a.act, a.genTarget, a.batTarget)

/-- `t` is `s` after accesses to memory and changes of slots: the plan is the same but for the health word, the map but for the packets
discarded, what each page permits, the open act with its targets, and every counter but those in `l`. -/
structure Works (l : List Nat) (s t : State) : Prop where
  plan : { t.plan with health := 0 } = { s.plan with health := 0 }
  geo : { t.geo with discards := [] } = { s.geo with discards := [] }
  perms : ∀ q, t.perms q = s.perms q
  marks : t.acts.marks = s.acts.marks
  counters : CountersKept l s t

theorem Works.refl (l : List Nat) (s : State) : Works l s s := ⟨rfl, rfl, fun _ => rfl, rfl, fun _ _ => rfl⟩

theorem Works.of_eq (s t : State) (hplan : t.plan = s.plan) (hgeo : t.geo = s.geo) (hpte : t.pte = s.pte)
    (hmarks : t.acts.marks = s.acts.marks) (hcnt : t.cnt = s.cnt) (l : List Nat) : Works l s t :=
  ⟨by rw [hplan], by rw [hgeo], State.perms_congr hpte, hmarks, countersKept_of_cnt hcnt l⟩

theorem Works.trans {l : List Nat} {s t r : State} (h : Works l s t) (h' : Works l t r) : Works l s r :=
  ⟨h'.plan.trans h.plan, h'.geo.trans h.geo, fun q => (h'.perms q).trans (h.perms q), h'.marks.trans h.marks,
    h.counters.trans h'.counters⟩

theorem Works.mono {l m : List Nat} {s t : State} (h : Works l s t) (hl : l ⊆ m) : Works m s t :=
  ⟨h.plan, h.geo, h.perms, h.marks, h.counters.mono hl⟩

theorem foldl_works {β : Type} {f : State → β → State} {l : List Nat} (h : ∀ s x, Works l s (f s x)) (xs : List β) (s : State) :
    Works l s (xs.foldl f s) := by
  induction xs generalizing s with
  | nil => exact .refl l s
  | cons x xs ih => exact (h s x).trans (ih (f s x))

theorem State.eachSlot_works (s : State) {f : State → Nat → State} {l : List Nat} (h : ∀ s i, Works l s (f s i)) :
    Works l s (s.eachSlot f) := foldl_works h _ s

theorem State.bump_works (s : State) {key : Nat} {l : List Nat} (h : key ∈ l) (n : Nat) : Works l s (s.bump key n) :=
  ⟨rfl, rfl, fun _ => rfl, rfl, (countersKept_bump s key n).mono (by simpa using h)⟩

theorem State.setSlot_works (s : State) (i : Nat) (x : Slot) (l : List Nat) : Works l s (s.setSlot i x) :=
  ⟨rfl, rfl, fun _ => rfl, rfl, fun _ _ => rfl⟩

section Works

variable {l : List Nat} {s t : State} (h : Works l s t)
include h

/-- A field of the plan other than the health word. -/
theorem Works.plan_field {α : Type} (g : PlanState → α) (hg : ∀ q : PlanState, g { q with health := 0 } = g q) :
    g t.plan = g s.plan := by
  rw [← hg t.plan, ← hg s.plan]
  exact congrArg g h.plan

theorem Works.ctrAtHole (id : Nat) : t.ctrAtHole id = s.ctrAtHole id := by
  have hsite : t.geo.site = s.geo.site := (congrArg Geometry.site h.geo :)
  have hlogical : t.geo.logical = s.geo.logical := (congrArg Geometry.logical h.geo :)
  rw [State.ctrAtHole, State.ctrAtHole, State.unnumbered, State.unnumbered, hsite, hlogical]

theorem Works.writable {a n : Nat} (hw : s.writable a n) : t.writable a n := by
  refine ⟨hw.1, fun p hp => ?_⟩
  have hperms : ((t.pteOf p).valid, (t.pteOf p).ro, (t.pteOf p).wp) = ((s.pteOf p).valid, (s.pteOf p).ro, (s.pteOf p).wp) := h.perms p
  obtain ⟨hvalid, hro, hwp⟩ := hw.2 p hp
  rw [hvalid, hro, hwp, Prod.mk.injEq, Prod.mk.injEq] at hperms
  exact hperms

theorem Works.act : t.acts.act = s.acts.act := congrArg Prod.fst h.marks

theorem Works.genTarget : t.acts.genTarget = s.acts.genTarget := congrArg (fun m => m.2.1) h.marks

theorem Works.batTarget : t.acts.batTarget = s.acts.batTarget := congrArg (fun m => m.2.2) h.marks

/-- What a counter holds and lacks: its mode, which lies in the plan's bytes, bears on its repetition alone. -/
theorem Works.ctr (id : Nat) : (t.ctr id).value = (s.ctr id).value ∧ (t.ctr id).shortfall = (s.ctr id).shortfall := by
  have hctrs : t.plan.ctrs = s.plan.ctrs := h.plan_field PlanState.ctrs fun _ => rfl
  rw [State.ctr, State.ctr, h.ctrAtHole, hctrs]
  split
  · exact ⟨rfl, rfl⟩
  · dsimp only
    split <;> split <;> exact ⟨rfl, rfl⟩

/-- The signal of the done counter: of the slot manager's signals none is stale (12 R297). -/
theorem Works.ctr_signalled {id : Nat} (hid : id ≠ noCtr) (hhole : s.ctrAtHole id = false) :
    ((t.applySignal id 1 none).ctr id).value = ((s.ctr id).value + (1 - (s.ctr id).shortfall)) % 2 ^ 32 := by
  have hfresh : ¬ t.stale id none = true := by simp [State.stale_iff]
  obtain ⟨hvalue, hshort⟩ := h.ctr id
  rw [(State.applySignal_signalled ((h.ctrAtHole id).trans hhole) hid hfresh).ctr, Ctr.signalled, hvalue, hshort]

end Works

/-! ### Accesses to memory -/

/-- The counters that a write to HBM may raise (12 Table 12-13, 13 Table 13-8, 16 Table 16-10). -/
def writeCounters : List Nat := PlanCnt.planWritesDiscarded :: accessCounters

theorem State.discard_works (s : State) (pos : Nat) (l : List Nat) : Works l s (s.discard pos) :=
  ⟨by simp, rfl, State.perms_congr (by simp), by simp, countersKept_of_cnt (by simp) l⟩

theorem State.hbmNoteRead_works (s : State) (req a n : Nat) : Works accessCounters s (s.hbmNoteRead req a n) :=
  ⟨congrArg Prod.fst (s.runView_hbmNoteRead req a n), by simp, fun q => State.perms_of_pageView (s.pageView_hbmNoteRead req a n q),
    by simp, s.hbmNoteRead_countersKept req a n⟩

theorem State.noteRead_works (s : State) (req key n : Nat) : Works accessCounters s (s.noteRead req key n) := by
  unfold State.noteRead
  split
  · exact .refl _ s
  · split
    · exact s.hbmNoteRead_works req key n
    · split
      · exact (Works.of_eq _ _ (by simp) (by simp) (by simp) (by simp) (by simp) _).trans (State.discard_works _ _ _)
      · exact .refl _ s

theorem State.lineWrite_works (s : State) (req a : Nat) (data : List Byte) : Works accessCounters s (s.lineWrite req a data) :=
  ⟨congrArg Prod.fst (s.runView_lineWrite req a data), by simp, fun q => State.perms_of_pageView (s.pageView_lineWrite req a data q),
    by simp, s.lineWrite_countersKept req a data⟩

theorem State.holdWrite_works (s : State) (base req p off : Nat) (data : List Byte) (l : List Nat) :
    Works l s (s.holdWrite base req p off data) := by
  refine ⟨by simp, by simp, fun q => ?_, by simp, countersKept_of_cnt (by simp) l⟩
  unfold State.holdWrite
  dsimp only
  split
  · exact s.perms_setPte_shadow p _ q
  · rfl

theorem State.addrFault_works (s : State) (req a : Nat) : Works accessCounters s (s.addrFault req a) :=
  ⟨by simp, by simp, State.perms_congr (by simp), by simp, s.addrFault_countersKept req a⟩

theorem State.pageWrite_works (s : State) (base req a : Nat) (data : List Byte) :
    Works writeCounters s (s.pageWrite base req a data) := by
  unfold State.pageWrite
  dsimp only
  split
  · exact (s.addrFault_works req a).mono (by simp [writeCounters])
  · split
    · exact s.bump_works (by simp [writeCounters]) 1
    · split
      · exact s.holdWrite_works base req _ _ data _
      · exact (s.lineWrite_works req a data).mono (by simp [writeCounters])

theorem State.hbmWriteN_works (s : State) (base req fuel a : Nat) (data : List Byte) :
    Works writeCounters s (s.hbmWriteN base req fuel a data) := by
  induction fuel generalizing s a data with
  | zero => exact .refl _ s
  | succ fuel ih =>
    unfold State.hbmWriteN
    split
    · exact .refl _ s
    · exact (s.pageWrite_works base req a _).trans (ih _ _ _)

theorem State.smWrite_works (s : State) (a : Nat) (data : List Byte) : Works writeCounters s (s.smWrite a data) := by
  unfold State.smWrite State.write
  split
  · exact s.hbmWriteN_works _ _ _ _ _
  · split
    · exact s.discard_works _ _
    · exact .of_eq s (s.poke a data) rfl rfl rfl rfl rfl _

/-- A write within a page that permits it lays its bytes, whatever errors its lines hold (13 R316, R318). -/
theorem State.stored_smWrite (s : State) {a : Nat} {data : List Byte} (hw : s.writable a data.length)
    (hpage : a % 2 ^ 21 + data.length ≤ 2 ^ 21) {j : Nat} (hj : j < data.length) :
    (s.smWrite a data).stored (a + j) = data.getD j 0 := by
  obtain ⟨hend, hpages⟩ := hw
  have hspace : spaceSize (a / 2 ^ 48) - a % 2 ^ 48 = 2 ^ 39 - a := by
    rw [Nat.div_eq_of_lt (by omega), Nat.mod_eq_of_lt (by omega)]
    rfl
  obtain ⟨hvalid, hro, hwp⟩ := hpages (pageOf a) (by
    rw [pagesOf, if_neg (by omega)]
    exact List.mem_map.mpr ⟨0, List.mem_range.mpr (Nat.succ_pos _), by rw [Nat.add_zero]⟩)
  have hgood : s.badPage (pageOf a) = false := by
    rw [State.badPage, hvalid, pageOf, decide_eq_false (by omega)]
    rfl
  have hline : s.smWrite a data = s.lineWrite smReq a data := by
    rw [State.smWrite, State.write, if_pos (by omega), State.hbmWrite, State.hbmWriteN,
      if_neg (by rw [List.isEmpty_iff, ← List.length_eq_zero_iff]; omega)]
    dsimp only
    rw [List.drop_eq_nil_of_le (by omega), State.hbmWriteN_nil, List.take_of_length_le (by omega), State.pageWrite]
    simp [hgood, hro, hwp]
  rw [hline, State.lineWrite_eq, State.stored, State.poke, hspace, Tab.get_put, List.take_of_length_le (by omega),
    if_pos (by omega), Nat.add_sub_cancel_left]

end Sys2Proof.Machine
end

section
/-! PROOFS. Slots, and the steps of a boundary (13 R325, 14 R345 to R349): harvest, retire and grow of one slot, and what a whole boundary
leaves alone. -/

namespace Sys2Proof.Machine

/-! ## Slots (14 R345) -/

theorem State.slot_congr {s t : State} (h : t.acts.slots = s.acts.slots) (i : Nat) : t.slot i = s.slot i := by
  rw [State.slot, State.slot, h]

@[simp] theorem State.slot_setSlot_self (s : State) (i : Nat) (x : Slot) : (s.setSlot i x).slot i = x := Tab.get_set_self _ _ _ _

theorem State.slot_setSlot_ne (s : State) {i j : Nat} (h : j ≠ i) (x : Slot) : (s.setSlot i x).slot j = s.slot j :=
  Tab.get_set_ne _ _ _ _ _ h

/-- A step that makes of each slot what `g` does, one slot after another. -/
theorem State.slot_eachSlot {f : State → Nat → State} {g : Slot → Slot} (hself : ∀ s i, (f s i).slot i = g (s.slot i))
    (hother : ∀ s i j, j ≠ i → (f s i).slot j = s.slot j) (s : State) {j : Nat} (hj : j < 64) :
    (s.eachSlot f).slot j = g (s.slot j) := by
  have hrest (l : List Nat) (hl : j ∉ l) (r : State) : (l.foldl f r).slot j = r.slot j := by
    induction l generalizing r with
    | nil => rfl
    | cons i l ih =>
      rw [List.mem_cons, not_or] at hl
      exact (ih hl.2 _).trans (hother r i j hl.1)
  have hall (l : List Nat) (hl : j ∈ l) (hnodup : l.Nodup) (r : State) : (l.foldl f r).slot j = g (r.slot j) := by
    induction l generalizing r with
    | nil => cases hl
    | cons i l ih =>
      obtain ⟨hi, hnodup⟩ := List.nodup_cons.mp hnodup
      by_cases hji : j = i
      · subst hji
        exact (hrest l hi _).trans (hself r j)
      · exact (ih ((List.mem_cons.mp hl).resolve_left hji) hnodup _).trans (congrArg g (hother r i j hji))
  exact hall _ (List.mem_range.mpr hj) List.nodup_range s

/-! ## The steps of a boundary (14 R346) -/

/-- The row of slot `x` is harvested: the token and the log-probability are its newest (14 R346). -/
def Slot.harvested (x : Slot) (tok logp step : Nat) : Slot :=
  { x with lastFed := none, tokens := x.tokens ++ [tok], logps := x.logps ++ [logp], step := if x.logps.isEmpty then step else x.step }

section Harvest

variable {s : State} {i q : Nat} (hfed : (s.slot i).lastFed = some q)
include hfed

theorem State.harvest_discards (hq : q + 1 < (s.slot i).plen) : s.harvest i = s.setSlot i { s.slot i with lastFed := none } := by
  unfold State.harvest
  dsimp only
  rw [hfed]
  exact if_pos hq

/-- A row fed at the last prompt position or later. -/
theorem State.harvest_appends (hq : (s.slot i).plen ≤ q + 1) :
    let r := s.readNat (s.acbAddr 280 + 8 * i) 8
    let x := (s.slot i).harvested (r % 2 ^ 32) (r / 2 ^ 32) s.plan.step
    s.harvest i = (s.noteRead smReq (s.acbAddr 280 + 8 * i) 8).setSlot i
      ((s.finishTest x (r % 2 ^ 32)).elim x fun why => { x with state := 4, finish := why }) := by
  intro r x
  unfold State.harvest
  dsimp only
  rw [hfed]
  dsimp only
  rw [if_neg (by omega)]
  change (match s.finishTest x (r % 2 ^ 32) with | some why => _ | none => _) = _
  cases s.finishTest x (r % 2 ^ 32) <;> rfl

end Harvest

theorem State.harvest_works (s : State) (i : Nat) : Works accessCounters s (s.harvest i) := by
  cases hfed : (s.slot i).lastFed with
  | none =>
    rw [State.harvest, hfed]
    exact .refl _ s
  | some q =>
    by_cases hq : q + 1 < (s.slot i).plen
    · rw [State.harvest_discards hfed hq]
      exact s.setSlot_works i _ _
    · rw [State.harvest_appends hfed (by omega)]
      exact (s.noteRead_works _ _ _).trans (State.setSlot_works _ i _ _)

/-- Harvest of a row fed at the last prompt position or later: the newest token, and DONE exactly if a finish reason holds. -/
theorem State.harvest_result {s : State} {i q : Nat} (hfed : (s.slot i).lastFed = some q) (hq : (s.slot i).plen ≤ q + 1) :
    let x := s.slot i
    let r := s.readNat (s.acbAddr 280 + 8 * i) 8
    let y := (s.harvest i).slot i
    y.tokens = x.tokens ++ [r % 2 ^ 32] ∧ y.logps = x.logps ++ [r / 2 ^ 32] ∧ y.lastFed = none ∧ y.blocks = x.blocks ∧
      (x.state ≠ 4 → (y.state = 4 ↔ s.finishTest { y with state := x.state, finish := x.finish } (r % 2 ^ 32) ≠ none)) ∧
      ∀ j, j ≠ i → (s.harvest i).slot j = s.slot j := by
  intro x r y
  have hnoted (j : Nat) : (s.noteRead smReq (s.acbAddr 280 + 8 * i) 8).slot j = s.slot j := State.slot_congr (by simp) j
  have hother (j : Nat) (hj : j ≠ i) : (s.harvest i).slot j = s.slot j := by
    rw [State.harvest_appends hfed hq, State.slot_setSlot_ne _ hj, hnoted]
  have hy : y = _ := congrArg (fun t => t.slot i) (State.harvest_appends hfed hq)
  rw [State.slot_setSlot_self] at hy
  cases hfinish : s.finishTest (x.harvested (r % 2 ^ 32) (r / 2 ^ 32) s.plan.step) (r % 2 ^ 32) with
  | none =>
    have hy : y = x.harvested (r % 2 ^ 32) (r / 2 ^ 32) s.plan.step := by rw [hy, hfinish]; rfl
    rw [hy]
    exact ⟨rfl, rfl, rfl, rfl, fun hx => ⟨fun h => absurd h hx, fun h => absurd hfinish h⟩, hother⟩
  | some why =>
    have hy : y = { x.harvested (r % 2 ^ 32) (r / 2 ^ 32) s.plan.step with state := 4, finish := why } := by rw [hy, hfinish]; rfl
    rw [hy]
    exact ⟨rfl, rfl, rfl, rfl, fun _ => ⟨fun _ h => Option.some_ne_none why (hfinish.symm.trans h), fun _ => rfl⟩, hother⟩

/-! ### Retire and grow -/

theorem State.writeRollout_eq (s : State) (i : Nat) : ∃ r, Works writeCounters s r ∧ s.writeRollout i = r.bump ActCnt.rollouts 1 := by
  have hdraw (c : Prop) [Decidable c] (n : Nat) : Works writeCounters s (if c then s.drawNat else (n, s)).2 := by
    split
    · exact .of_eq s s.drawNat.2 rfl rfl rfl rfl rfl _
    · exact .refl _ s
  exact ⟨_, (((hdraw _ _).trans (State.smWrite_works _ _ _)).trans (State.smWrite_works _ _ _)).trans (State.smWrite_works _ _ _), rfl⟩

/-- The counters that the slots' blocks freed may raise (13 R325). -/
def freeCounters : List Nat := MemCnt.kvBadFree :: writeCounters

/-- A bad free changes nothing (13 R325). -/
theorem State.kvRelease_bad {s : State} {b : Nat} (h : s.kvBlocks ≤ b ∨ s.acts.kvFree.contains b = true) :
    s.kvRelease b = s.bump MemCnt.kvBadFree 1 := if_pos h

/-- A block freed joins the free list at its tail, and the ring in memory shows it (13 R325). -/
theorem State.kvRelease_good {s : State} {b : Nat} (h : ¬ (s.kvBlocks ≤ b ∨ s.acts.kvFree.contains b = true)) :
    s.kvRelease b = ({ s with acts.kvFree := s.acts.kvFree ++ [b] } : State).smWrite
      (({ s with acts.kvFree := s.acts.kvFree ++ [b] } : State).kvListAt s.acts.kvFree.length) (natLe 4 b) := if_neg h

theorem State.kvRelease_works (s : State) (b : Nat) : Works freeCounters s (s.kvRelease b) := by
  by_cases h : s.kvBlocks ≤ b ∨ s.acts.kvFree.contains b = true
  · rw [State.kvRelease_bad h]
    exact s.bump_works List.mem_cons_self 1
  · rw [State.kvRelease_good h]
    have hlist : Works freeCounters s { s with acts.kvFree := s.acts.kvFree ++ [b] } :=
      ⟨rfl, rfl, fun _ => rfl, rfl, fun _ _ => rfl⟩
    exact hlist.trans ((State.smWrite_works _ _ _).mono (List.subset_cons_self _ _))

theorem State.freeSlot_works (s : State) (i : Nat) : Works freeCounters s (s.freeSlot i) :=
  (foldl_works (fun r b => r.kvRelease_works b) _ s).trans (State.setSlot_works _ i _ _)

theorem State.kvRelease_acts (s : State) (b : Nat) :
    (s.kvRelease b).acts = s.acts ∨ (s.kvRelease b).acts = { s.acts with kvFree := s.acts.kvFree ++ [b] } := by
  by_cases h : s.kvBlocks ≤ b ∨ s.acts.kvFree.contains b = true
  · rw [State.kvRelease_bad h]
    exact .inl rfl
  · rw [State.kvRelease_good h, (State.smWrite_frame _ _ _).2.2.2.2.2.2.1]
    exact .inr rfl

/-- Blocks freed one after another: no slot changes, and the free list grows at its tail by blocks that were freed. -/
theorem State.kvReleases_free (l : List Nat) (s : State) : (l.foldl State.kvRelease s).acts.slots = s.acts.slots ∧
    s.acts.kvFree <+: (l.foldl State.kvRelease s).acts.kvFree ∧
    ∀ b ∈ (l.foldl State.kvRelease s).acts.kvFree, b ∈ s.acts.kvFree ∨ b ∈ l := by
  induction l generalizing s with
  | nil => exact ⟨rfl, List.prefix_rfl, fun _ hb => .inl hb⟩
  | cons a l ih =>
    obtain ⟨hslots, hprefix, hfrom⟩ := ih (s.kvRelease a)
    rw [List.foldl_cons]
    generalize l.foldl State.kvRelease (s.kvRelease a) = t at hslots hprefix hfrom ⊢
    rcases s.kvRelease_acts a with hacts | hacts
    · rw [hacts] at hslots hprefix hfrom
      exact ⟨hslots, hprefix, fun b hb => (hfrom b hb).imp_right (List.mem_cons_of_mem a)⟩
    · rw [hacts] at hslots hprefix hfrom
      refine ⟨hslots, (List.prefix_append _ _).trans hprefix, fun b hb => ?_⟩
      have hb := hfrom b hb
      simp only [List.mem_append, List.mem_singleton] at hb
      rcases hb with (hb | rfl) | hb
      · exact .inl hb
      · exact .inr List.mem_cons_self
      · exact .inr (List.mem_cons_of_mem a hb)

theorem State.slot_freeSlot_self (s : State) (i : Nat) : (s.freeSlot i).slot i = Slot.empty := State.slot_setSlot_self _ _ _

theorem State.slot_freeSlot_ne (s : State) {i j : Nat} (h : j ≠ i) : (s.freeSlot i).slot j = s.slot j :=
  (State.slot_setSlot_ne _ h _).trans (State.slot_congr (s.kvReleases_free _).1 j)

theorem State.kvFree_freeSlot (s : State) (i : Nat) : s.acts.kvFree <+: (s.freeSlot i).acts.kvFree ∧
    ∀ b ∈ (s.freeSlot i).acts.kvFree, b ∈ s.acts.kvFree ∨ b ∈ (s.slot i).blocks := (s.kvReleases_free _).2

section Retire

variable {s : State} {i : Nat}

/-- Retire of a DONE slot with room in the rollout ring (13 R325, 14 R346). -/
theorem State.retire_result (hdone : (s.slot i).state = 4) (hroom : s.rollFull = false) :
    (s.retire i).slot i = Slot.empty ∧ (∀ j, j ≠ i → (s.retire i).slot j = s.slot j) ∧
      s.acts.kvFree <+: (s.retire i).acts.kvFree ∧ (∀ b ∈ (s.retire i).acts.kvFree, b ∈ s.acts.kvFree ∨ b ∈ (s.slot i).blocks) ∧
      (s.retire i).cntGet ActCnt.rollouts = min (s.cntGet ActCnt.rollouts + 1) 0xFFFFFFFF := by
  have hretire : s.retire i = (s.writeRollout i).freeSlot i := by simp [State.retire, hdone, hroom]
  have hacts : (s.writeRollout i).acts = s.acts := by simp
  have hslot (j : Nat) : (s.writeRollout i).slot j = s.slot j := State.slot_congr (by rw [hacts]) j
  obtain ⟨hprefix, hfrom⟩ := (s.writeRollout i).kvFree_freeSlot i
  rw [hacts] at hprefix
  rw [hacts, hslot] at hfrom
  obtain ⟨r, hworks, hwrite⟩ := s.writeRollout_eq i
  rw [hretire]
  refine ⟨State.slot_freeSlot_self _ i, fun j hj => (State.slot_freeSlot_ne _ hj).trans (hslot j), hprefix, hfrom, ?_⟩
  rw [((s.writeRollout i).freeSlot_works i).counters _ (by decide), hwrite, State.cntGet_bump_narrow _ rfl,
    hworks.counters _ (by decide)]

variable (hlive : (s.slot i).state = 2 ∨ (s.slot i).state = 3) (hneed : (s.slot i).blocks.length ≤ (s.slot i).fed / 16)
include hlive hneed

theorem State.grow_takes {b : Nat} {l : List Nat} (hfree : s.acts.kvFree = b :: l) :
    s.grow i = (s.kvTakeN 1).2.setSlot i { s.slot i with state := 2, blocks := (s.slot i).blocks ++ [b] } := by
  unfold State.grow
  dsimp only
  rw [if_pos ⟨hlive, hneed⟩, State.kvTake, hfree]

theorem State.grow_blocks (hfree : s.acts.kvFree = []) :
    s.grow i = (s.bump MemCnt.kvEmpty 1).setSlot i { s.slot i with state := 3 } := by
  unfold State.grow
  dsimp only
  rw [if_pos ⟨hlive, hneed⟩, State.kvTake, hfree]

theorem State.slot_grow_ne {j : Nat} (h : j ≠ i) : (s.grow i).slot j = s.slot j := by
  cases hfree : s.acts.kvFree with
  | nil =>
    rw [State.grow_blocks hlive hneed hfree]
    exact State.slot_setSlot_ne _ h _
  | cons b l =>
    rw [State.grow_takes hlive hneed hfree]
    exact State.slot_setSlot_ne _ h _

end Retire

/-- Grow of a DECODE or BLOCKED slot that needs a block: the head of the free list, or BLOCKED when there is none (13 R325, 14 R346). -/
theorem State.grow_result (s : State) (i : Nat) : let x := s.slot i
    (x.state = 2 ∨ x.state = 3 → x.blocks.length ≤ x.fed / 16 → ∀ j, j ≠ i → (s.grow i).slot j = s.slot j) ∧
    (∀ b l, x.state = 2 ∨ x.state = 3 → x.blocks.length ≤ x.fed / 16 → s.acts.kvFree = b :: l →
      (s.grow i).slot i = { x with state := 2, blocks := x.blocks ++ [b] } ∧ (s.grow i).acts.kvFree = l) ∧
    (x.state = 2 ∨ x.state = 3 → x.blocks.length ≤ x.fed / 16 → s.acts.kvFree = [] →
      (s.grow i).slot i = { x with state := 3 } ∧ (s.grow i).cntGet MemCnt.kvEmpty = min (s.cntGet MemCnt.kvEmpty + 1) 0xFFFFFFFF) := by
  refine ⟨fun hlive hneed j hj => State.slot_grow_ne hlive hneed hj, fun b l hlive hneed hfree => ?_, fun hlive hneed hfree => ?_⟩
  · rw [State.grow_takes hlive hneed hfree]
    exact ⟨State.slot_setSlot_self _ _ _, by simp [State.setSlot, State.kvTakeN, hfree]⟩
  · rw [State.grow_blocks hlive hneed hfree]
    exact ⟨State.slot_setSlot_self _ _ _, s.cntGet_bump_narrow (key := MemCnt.kvEmpty) rfl 1⟩

/-! ## A boundary (14 R346 to R350) -/

/-- The counters that the steps of a boundary and the close of GENERATE may raise (13 Table 13-8, 14 Table 14-12). -/
def smCounters : List Nat :=
  [MemCnt.kvEmpty, ActCnt.rollFull, ActCnt.rollLost, ActCnt.rollouts, ActCnt.kvFull, ActCnt.refills, ActCnt.kvBlocked] ++ freeCounters

theorem Works.ofWrite {s t : State} (h : Works writeCounters s t) : Works smCounters s t := h.mono (by decide)

theorem Works.ofFree {s t : State} (h : Works freeCounters s t) : Works smCounters s t := h.mono (by decide)

theorem Works.ofAccess {s t : State} (h : Works accessCounters s t) : Works smCounters s t := h.mono (by decide)

theorem State.writeRollout_works (s : State) (i : Nat) : Works smCounters s (s.writeRollout i) := by
  obtain ⟨r, hworks, hwrite⟩ := s.writeRollout_eq i
  rw [hwrite]
  exact hworks.ofWrite.trans (r.bump_works (by decide) 1)

theorem State.retire_works (s : State) (i : Nat) : Works smCounters s (s.retire i) := by
  unfold State.retire
  split
  · exact .refl _ s
  · split
    · exact s.bump_works (by decide) 1
    · exact (s.writeRollout_works i).trans (State.freeSlot_works _ i).ofFree

theorem State.kvTakeN_works (s : State) (n : Nat) (l : List Nat) : Works l s (s.kvTakeN n).2 :=
  ⟨rfl, rfl, fun _ => rfl, rfl, fun _ _ => rfl⟩

theorem State.grow_works (s : State) (i : Nat) : Works smCounters s (s.grow i) := by
  by_cases h : ((s.slot i).state = 2 ∨ (s.slot i).state = 3) ∧ (s.slot i).blocks.length ≤ (s.slot i).fed / 16
  · cases hfree : s.acts.kvFree with
    | nil =>
      rw [State.grow_blocks h.1 h.2 hfree]
      exact (s.bump_works (by decide) 1).trans (State.setSlot_works _ i _ _)
    | cons b l =>
      rw [State.grow_takes h.1 h.2 hfree]
      exact (s.kvTakeN_works 1 _).trans (State.setSlot_works _ i _ _)
  · rw [State.grow, if_neg h]
    exact .refl _ s

theorem State.breakStall_works (s : State) : Works smCounters s s.breakStall := by
  unfold State.breakStall
  dsimp only
  split
  · split
    · exact ((s.setSlot_works _ _ _).trans (State.bump_works _ (by decide) 1)).trans (State.retire_works _ _)
    · exact .refl _ s
  · exact .refl _ s

theorem State.setIdx_works (s : State) (a f v : Nat) : Works writeCounters s (s.setIdx a f v) := s.smWrite_works _ _

theorem State.sampleNext_works (s : State) (n : Nat) (l : List Nat) : Works l s { s with acts.sampleNext := n } :=
  ⟨rfl, rfl, fun _ => rfl, rfl, fun _ _ => rfl⟩

theorem State.refill_works (s : State) (prod i : Nat) : Works smCounters s (s.refill prod i).1 := by
  have hfilled (n a k v : Nat) (x : Slot) :
      Works smCounters s { ((s.kvTakeN n).2.noteRead smReq a k).setSlot i x with acts.sampleNext := v } :=
    (((s.kvTakeN_works n _).trans (State.noteRead_works _ _ _ _).ofAccess).trans (State.setSlot_works _ i x _)).trans
      (State.sampleNext_works _ v _)
  unfold State.refill
  extract_lets r a h len bad need t last x s1 acts s2 s3
  have hrefilled : Works smCounters s s3 := by
    by_cases hlast : last = true
    · rw [show s3 = s2.setIdx r.addr 3 ((r.idx1 + 1) % 2 ^ 32) from if_pos hlast]
      exact (hfilled _ _ _ _ _).trans (State.setIdx_works _ _ _ _).ofWrite
    · rw [show s3 = s2 from if_neg hlast]
      exact hfilled _ _ _ _ _
  have hcounted : Works smCounters s (s3.bump ActCnt.refills 1) := hrefilled.trans (s3.bump_works (by decide) 1)
  split
  · exact .refl _ s
  · split
    · exact .refl _ s
    · split
      · exact .refl _ s
      · exact hcounted

theorem State.refillFrom_works (s : State) (prod : Nat) (l : List Nat) : Works smCounters s (s.refillFrom prod l) := by
  induction l generalizing s with
  | nil => exact .refl _ s
  | cons i l ih =>
    unfold State.refillFrom
    dsimp only
    split
    · exact (s.refill_works prod i).trans (ih _)
    · exact s.refill_works prod i

theorem State.packPrefill_works (s : State) (l : List Nat) : Works l s s.packPrefill.2 := by
  have hpacked (xs : List Nat) (f : List (Nat × Nat × Nat) × State → Nat → List (Nat × Nat × Nat) × State)
      (hf : ∀ acc x, Works l acc.2 (f acc x).2) (acc : List (Nat × Nat × Nat) × State) : Works l acc.2 (xs.foldl f acc).2 := by
    induction xs generalizing acc with
    | nil => exact .refl l _
    | cons x xs ih => exact (hf acc x).trans (ih _)
  refine hpacked _ _ (fun acc i => ?_) ([], s)
  dsimp only
  split
  · exact acc.2.setSlot_works i _ l
  · exact .refl l _

theorem State.drawBytes_works (s : State) (n : Nat) (l : List Nat) : Works l s (s.drawBytes n).2 :=
  ⟨rfl, rfl, fun _ => rfl, rfl, fun _ _ => rfl⟩

theorem State.writeIteration_works (s : State) (dec : Nat) (pf : List (Nat × Nat × Nat)) :
    Works writeCounters s (s.writeIteration dec pf) :=
  (((s.drawBytes_works _ _).trans (State.smWrite_works _ _ _)).trans (State.smWrite_works _ _ _)).trans (State.smWrite_works _ _ _)

theorem State.writeTables_works (s : State) : Works writeCounters s s.writeTables :=
  ((s.drawBytes_works _ _).trans (State.smWrite_works _ _ _)).trans (State.smWrite_works _ _ _)

theorem State.feedRows_works (s : State) (l : List Nat) : Works l s s.feedRows := by
  refine s.eachSlot_works fun r i => ?_
  dsimp only
  split
  · exact r.setSlot_works i _ l
  · exact .refl l r

theorem State.publish_works (s : State) (prod : Nat) : Works smCounters s (s.publish prod) := by
  have hdrained (r : State) (b : Bool) : Works smCounters r { r with acts.drained := b } := ⟨rfl, rfl, fun _ => rfl, rfl, fun _ _ => rfl⟩
  exact (((((s.packPrefill_works _).trans (State.writeIteration_works _ _ _).ofWrite).trans (State.writeTables_works _).ofWrite).trans
    (State.feedRows_works _ _)).trans (hdrained _ _)).trans (State.bump_works _ (by decide) _)

/-- A boundary in GENERATE counts itself once, and leaves alone what its steps do. -/
theorem State.boundary_eq (s : State) : ∃ r, Works smCounters s r ∧ s.boundary = r.bump ActCnt.boundaries 1 :=
  ⟨_, (((((((s.noteRead_works _ _ _).ofAccess.trans (State.eachSlot_works _ fun r i => (r.harvest_works i).ofAccess)).trans
    (State.eachSlot_works _ State.retire_works)).trans (State.eachSlot_works _ State.grow_works)).trans
    (State.breakStall_works _)).trans (State.refillFrom_works _ _ _)).trans (State.publish_works _ _)), rfl⟩

end Sys2Proof.Machine
end

section
/-! PROOFS. Generation boundaries, batches and the end of an act (14 R343, R350, R351, R355, R356, 19 R475): what each does, and then a
signal. -/

namespace Sys2Proof.Machine

/-! ## GEN_BOUNDARY (14 R343, R346, R350) -/

/-- The next boundary's target (14 R343). -/
def State.genNext (s : State) : State := { s with acts.genTarget := (s.acts.genTarget + 1) % 2 ^ 32 }

/-- The boundary that has come: under GENERATE its steps, outside it an empty iteration record (14 R346, R350). -/
def State.bounded (s : State) : State :=
  if s.acts.act = 1 then s.genNext.boundary else (s.genNext.writeIteration 0 []).bump ActCnt.boundaryOutside 1

theorem State.bounded_generate {s : State} (h : s.acts.act = 1) : s.bounded = s.genNext.boundary := if_pos h

theorem State.bounded_outside {s : State} (h : s.acts.act ≠ 1) :
    s.bounded = (s.genNext.writeIteration 0 []).bump ActCnt.boundaryOutside 1 := if_neg h

theorem State.bounded_works (s : State) : Works (ActCnt.boundaries :: ActCnt.boundaryOutside :: smCounters) s.genNext s.bounded := by
  by_cases h : s.acts.act = 1
  · obtain ⟨r, hworks, hboundary⟩ := s.genNext.boundary_eq
    rw [State.bounded_generate h, hboundary]
    exact (hworks.mono (by simp)).trans (r.bump_works (by simp) 1)
  · rw [State.bounded_outside h]
    exact ((State.writeIteration_works _ 0 []).ofWrite.mono (by simp)).trans (State.bump_works _ (by simp) 1)

theorem State.bounded_frame (s : State) : s.bounded.dev = s.dev ∧ s.bounded.host = s.host ∧ s.bounded.unit = s.unit := by
  by_cases h : s.acts.act = 1
  · simp [State.bounded_generate h, State.genNext]
  · simp [State.bounded_outside h, State.genNext]

theorem State.boundaries_bounded {s : State} (h : s.acts.act = 1) :
    s.bounded.cntGet ActCnt.boundaries = min (s.cntGet ActCnt.boundaries + 1) 0xFFFFFFFF := by
  obtain ⟨r, hworks, hboundary⟩ := s.genNext.boundary_eq
  rw [State.bounded_generate h, hboundary, State.cntGet_bump_narrow _ rfl, hworks.counters _ (by decide)]
  rfl

/-- Outside GENERATE the boundary is counted and leaves every slot as it is (14 R350). -/
theorem State.bounded_outside_counts {s : State} (h : s.acts.act ≠ 1) : s.bounded.acts = s.genNext.acts ∧
    s.bounded.cntGet ActCnt.boundaryOutside = min (s.cntGet ActCnt.boundaryOutside + 1) 0xFFFFFFFF := by
  rw [State.bounded_outside h]
  refine ⟨by simp, ?_⟩
  rw [State.cntGet_bump_narrow _ rfl, (State.writeIteration_works _ 0 []).counters _ (by decide)]
  rfl

/-- A signal leaves the counts of the slot manager alone. -/
theorem State.cntGet_applySignal (s : State) (id : Nat) {k : Nat} (h : k ∉ signalCounters) :
    (s.applySignal id 1 none).cntGet k = s.cntGet k := s.applySignal_countersKept id 1 none k h

theorem exec_genBoundary {s : State} (hrun : s.planRuns = true) (htrig : s.smReached 384 s.acts.genTarget = true) :
    exec .genBoundary s = .next (s.bounded.applySignal (s.acb 400 15) 1 none) := by
  change execGenBoundary s = _
  rw [execGenBoundary, hrun, htrig]
  rfl

theorem genBoundary_comes {s : State} (hrun : s.planRuns = true) (htrig : s.smReached 384 s.acts.genTarget = true) :
    let id := s.acb 400 15
    let c := s.ctr id
    ∃ t, exec .genBoundary s = .next t ∧ t.acts.genTarget = (s.acts.genTarget + 1) % 2 ^ 32 ∧ t.acts.act = s.acts.act ∧
      t.acts.batTarget = s.acts.batTarget ∧ t.dev = s.dev ∧ t.host = s.host ∧ t.unit = s.unit ∧
      (s.acts.act = 1 → t.cntGet ActCnt.boundaries = min (s.cntGet ActCnt.boundaries + 1) 0xFFFFFFFF) ∧
      (s.acts.act ≠ 1 → t.acts = { s.acts with genTarget := t.acts.genTarget } ∧
        t.cntGet ActCnt.boundaryOutside = min (s.cntGet ActCnt.boundaryOutside + 1) 0xFFFFFFFF) ∧
      (id ≠ noCtr → s.ctrAtHole id = false → (t.ctr id).value = (c.value + (1 - c.shortfall)) % 2 ^ 32) := by
  intro id c
  have hworks := s.bounded_works
  obtain ⟨hdev, hhost, hunit⟩ := s.bounded_frame
  have hacts : (s.bounded.applySignal id 1 none).acts = s.bounded.acts := by simp
  refine ⟨_, exec_genBoundary hrun htrig, ?_⟩
  rw [hacts, State.cntGet_applySignal _ _ (by decide), State.cntGet_applySignal _ _ (by decide)]
  refine ⟨hworks.genTarget, hworks.act, hworks.batTarget, by simpa using hdev, by simpa using hhost, by simpa using hunit,
    State.boundaries_bounded, fun h => ?_, hworks.ctr_signalled⟩
  obtain ⟨hsame, hcount⟩ := State.bounded_outside_counts h
  exact ⟨by rw [hsame]; rfl, hcount⟩

/-! ## BATCH_TAKE (14 R343, R355, R356) -/

/-- The rings lie at multiples of 256 bytes (14 Table 14-2). -/
theorem State.batchRing_aligned {s : State} {r : Ring} {first last f : Nat} (h : s.batchRing = some (r, first, last, f)) :
    r.addr % 256 = 0 := by
  have hroll : (s.ring s.rollRing).addr % 256 = 0 := Nat.mul_mod_right 256 _
  have heval : (s.ring s.evalRing).addr % 256 = 0 := Nat.mul_mod_right 256 _
  unfold State.batchRing at h
  dsimp only at h
  split at h
  · obtain rfl : s.ring s.rollRing = r := congrArg Prod.fst (Option.some.inj h)
    exact hroll
  · obtain rfl : s.ring s.rollRing = r := congrArg Prod.fst (Option.some.inj h)
    exact hroll
  · obtain rfl : s.ring s.evalRing = r := congrArg Prod.fst (Option.some.inj h)
    exact heval
  · cases h

theorem State.writeBatch_works (s : State) (r : Ring) (idx n : Nat) (rewards : Bool) :
    Works writeCounters s (s.writeBatch r idx n rewards) := by
  have hread (q : State) (x : Nat × Nat × Nat × Nat) : Works writeCounters q (q.noteRead smReq x.1 64) :=
    (q.noteRead_works _ _ _).mono (List.subset_cons_self _ _)
  exact (((((foldl_works hread _ s).trans (State.smWrite_works _ _ _)).trans (State.smWrite_works _ _ _)).trans
    (State.smWrite_works _ _ _)).trans (State.smWrite_works _ _ _)).trans (State.smWrite_works _ _ _)

/-- The batch of `n` entries of ring `r` from `first` on is laid out, and the consumer index `f` stands behind them. -/
def State.batchTaken (s : State) (r : Ring) (first n f : Nat) : State :=
  (s.writeBatch r first n (decide (s.acts.act = 3))).setIdx r.addr f ((first + n) % 2 ^ 32)

theorem State.batchTaken_works (s : State) (r : Ring) (first n f : Nat) : Works writeCounters s (s.batchTaken r first n f) :=
  (s.writeBatch_works _ _ _ _).trans (State.setIdx_works _ _ _ _)

/-- The consumer index where the page of the ring's header may be written. -/
theorem State.stored_batchTaken {s : State} {r : Ring} {first n f : Nat} (haddr : r.addr % 256 = 0)
    (hw : s.writable (r.addr + 4 * f) 4) {j : Nat} (hj : j < 4) :
    (s.batchTaken r first n f).stored (r.addr + 4 * f + j) = (natLe 4 ((first + n) % 2 ^ 32)).getD j 0 := by
  have hw := (s.writeBatch_works r first n (decide (s.acts.act = 3))).writable hw
  exact State.stored_smWrite _ (by simpa using hw) (by rw [length_natLe]; omega) (by simpa using hj)

/-- The next batch's target (14 R343). -/
def State.batNext (s : State) : State := { s with acts.batTarget := (s.acts.batTarget + 1) % 2 ^ 32 }

/-- The batch that has come: outside the acts that take batches an empty one (14 R355, R356). -/
def State.batched (s : State) : State :=
  match s.batchRing with
  | some (r, first, last, f) => (s.batNext.batchTaken r first (min (s.acb 512 7) (idxDist last first)) f).bump ActCnt.batches 1
  | none => (s.batNext.writeBatch (s.ring s.rollRing) 0 0 false).bump ActCnt.batchOutside 1

section Batch

variable {s : State}

theorem State.batched_taken {r : Ring} {first last f : Nat} (h : s.batchRing = some (r, first, last, f)) :
    s.batched = (s.batNext.batchTaken r first (min (s.acb 512 7) (idxDist last first)) f).bump ActCnt.batches 1 := by
  rw [State.batched, h]

theorem State.batched_outside (h : s.batchRing = none) :
    s.batched = (s.batNext.writeBatch (s.ring s.rollRing) 0 0 false).bump ActCnt.batchOutside 1 := by
  rw [State.batched, h]

theorem State.batched_works (s : State) : Works (ActCnt.batches :: ActCnt.batchOutside :: writeCounters) s.batNext s.batched := by
  cases h : s.batchRing with
  | none =>
    rw [State.batched_outside h]
    exact ((State.writeBatch_works _ _ 0 0 false).mono (by simp)).trans (State.bump_works _ (by simp) 1)
  | some x =>
    rw [State.batched_taken h]
    exact ((State.batchTaken_works _ _ _ _ _).mono (by simp)).trans (State.bump_works _ (by simp) 1)

theorem State.batched_frame (s : State) : s.batched.acts = s.batNext.acts ∧ s.batched.dev = s.dev ∧ s.batched.host = s.host ∧
    s.batched.unit = s.unit := by
  cases h : s.batchRing with
  | none => simp [State.batched_outside h, State.batNext]
  | some x => simp [State.batched_taken h, State.batchTaken, State.batNext]

/-- A batch taken is counted, and the act's consumer index stands behind its entries. -/
theorem State.batched_taken_counts {r : Ring} {first last f : Nat} (h : s.batchRing = some (r, first, last, f)) :
    let n := min (s.acb 512 7) (idxDist last first)
    s.batched.cntGet ActCnt.batches = min (s.cntGet ActCnt.batches + 1) 0xFFFFFFFF ∧
      (s.writable (r.addr + 4 * f) 4 → ∀ j, j < 4 →
        s.batched.stored (r.addr + 4 * f + j) = (natLe 4 ((first + n) % 2 ^ 32)).getD j 0) := by
  intro n
  rw [State.batched_taken h]
  refine ⟨?_, fun hw j hj => State.stored_batchTaken (s := s.batNext) (State.batchRing_aligned h) hw hj⟩
  rw [State.cntGet_bump_narrow _ rfl, (State.batchTaken_works _ _ _ _ _).counters _ (by decide)]
  rfl

theorem State.batched_outside_counts (h : s.batchRing = none) :
    s.batched.cntGet ActCnt.batchOutside = min (s.cntGet ActCnt.batchOutside + 1) 0xFFFFFFFF := by
  rw [State.batched_outside h, State.cntGet_bump_narrow _ rfl, (State.writeBatch_works _ _ 0 0 false).counters _ (by decide)]
  rfl

variable (hrun : s.planRuns = true) (htrig : s.smReached 416 s.acts.batTarget = true)
include hrun htrig

theorem exec_batchTake : exec .batchTake s = .next (s.batched.applySignal (s.acb 432 15) 1 none) := by
  change execBatchTake s = _
  rw [execBatchTake, hrun, htrig]
  rfl

theorem batchTake_comes : let id := s.acb 432 15
    let c := s.ctr id
    ∃ t, exec .batchTake s = .next t ∧ t.acts = { s.acts with batTarget := (s.acts.batTarget + 1) % 2 ^ 32 } ∧
      t.dev = s.dev ∧ t.host = s.host ∧ t.unit = s.unit ∧
      (∀ r first last f, s.batchRing = some (r, first, last, f) →
        let n := min (s.acb 512 7) (idxDist last first)
        t.cntGet ActCnt.batches = min (s.cntGet ActCnt.batches + 1) 0xFFFFFFFF ∧
        (s.writable (r.addr + 4 * f) 4 → ∀ j, j < 4 → t.stored (r.addr + 4 * f + j) = (natLe 4 ((first + n) % 2 ^ 32)).getD j 0)) ∧
      (s.batchRing = none → t.cntGet ActCnt.batchOutside = min (s.cntGet ActCnt.batchOutside + 1) 0xFFFFFFFF) ∧
      (id ≠ noCtr → s.ctrAtHole id = false → (t.ctr id).value = (c.value + (1 - c.shortfall)) % 2 ^ 32) := by
  intro id c
  obtain ⟨hacts, hdev, hhost, hunit⟩ := s.batched_frame
  have hsame : (s.batched.applySignal id 1 none).acts = s.batched.acts := by simp
  have hmem : (s.batched.applySignal id 1 none).mem = s.batched.mem := by simp
  refine ⟨_, exec_batchTake hrun htrig, hsame.trans hacts, by simpa using hdev, by simpa using hhost, by simpa using hunit,
    fun r first last f h => ?_, fun h => ?_, s.batched_works.ctr_signalled⟩
  · obtain ⟨hcount, hindex⟩ := State.batched_taken_counts h
    exact ⟨(State.cntGet_applySignal _ _ (by decide)).trans hcount, fun hw j hj => by rw [State.stored, hmem]; exact hindex hw j hj⟩
  · exact (State.cntGet_applySignal _ _ (by decide)).trans (State.batched_outside_counts h)

end Batch

/-! ## ACT_END (14 R351, 19 R475) -/

/-- A PREFILL, DECODE or BLOCKED slot at the close of GENERATE (14 R351). -/
def Slot.closed (x : Slot) (reason : Nat) : Slot :=
  if x.state = 1 ∨ x.state = 2 ∨ x.state = 3 then { x with state := 4, finish := reason } else x

/-- A DONE slot, emptied. -/
def Slot.emptied (x : Slot) : Slot := if x.state = 4 then Slot.empty else x

theorem Slot.emptied_closed_state (x : Slot) (reason : Nat) :
    (x.closed reason).emptied.state = 0 ∨ 4 < (x.closed reason).emptied.state := by
  unfold Slot.closed Slot.emptied
  split
  · exact .inl rfl
  · split
    · exact .inl rfl
    · omega

/-- The finish of the slots that generate still, with `reason`. -/
def State.finishSlot (reason : Nat) (s : State) (i : Nat) : State :=
  if (s.slot i).state = 1 ∨ (s.slot i).state = 2 ∨ (s.slot i).state = 3 then
    s.setSlot i { s.slot i with state := 4, finish := reason }
  else s

theorem State.closeSlots_eq (s : State) (reason : Nat) :
    s.closeSlots reason = (s.eachSlot (State.finishSlot reason)).eachSlot State.retireLast := rfl

theorem State.slot_finishSlot_self (reason : Nat) (s : State) (i : Nat) : (s.finishSlot reason i).slot i = (s.slot i).closed reason := by
  unfold State.finishSlot Slot.closed
  split
  · exact State.slot_setSlot_self _ _ _
  · rfl

theorem State.slot_finishSlot_ne (reason : Nat) (s : State) {i j : Nat} (h : j ≠ i) : (s.finishSlot reason i).slot j = s.slot j := by
  unfold State.finishSlot
  split
  · exact s.slot_setSlot_ne h _
  · rfl

/-- The last retirement of a slot: one that is DONE is emptied, whether its entry finds room or is lost (14 R351). -/
theorem State.retireLast_eq (s : State) (i : Nat) : ((s.slot i).state ≠ 4 ∧ s.retireLast i = s) ∨
    ((s.slot i).state = 4 ∧ ∃ r, Works smCounters s r ∧ r.acts = s.acts ∧ s.retireLast i = r.freeSlot i) := by
  unfold State.retireLast
  dsimp only
  split
  next h => exact .inl ⟨h, rfl⟩
  next h =>
    refine .inr ⟨not_not.mp h, ?_⟩
    split
    · have hlost : Works smCounters s (s.bump ActCnt.rollLost 1) := s.bump_works (by decide) 1
      exact ⟨_, hlost.trans (Works.of_eq _ (State.log _ _ _ _ _ _) (by simp) (by simp) (by simp) (by simp) (by simp) _), by simp, rfl⟩
    · exact ⟨_, s.writeRollout_works i, by simp, rfl⟩

theorem State.slot_retireLast_self (s : State) (i : Nat) : (s.retireLast i).slot i = (s.slot i).emptied := by
  rcases s.retireLast_eq i with ⟨h, heq⟩ | ⟨h, r, -, -, heq⟩
  · rw [heq, Slot.emptied, if_neg h]
  · rw [heq, Slot.emptied, if_pos h, State.slot_freeSlot_self]

theorem State.slot_retireLast_ne (s : State) {i j : Nat} (h : j ≠ i) : (s.retireLast i).slot j = s.slot j := by
  rcases s.retireLast_eq i with ⟨-, heq⟩ | ⟨-, r, -, hacts, heq⟩
  · rw [heq]
  · rw [heq, State.slot_freeSlot_ne _ h]
    exact State.slot_congr (by rw [hacts]) j

theorem State.finishSlot_works (reason : Nat) (s : State) (i : Nat) : Works smCounters s (s.finishSlot reason i) := by
  unfold State.finishSlot
  split
  · exact s.setSlot_works i _ _
  · exact .refl _ s

theorem State.retireLast_works (s : State) (i : Nat) : Works smCounters s (s.retireLast i) := by
  rcases s.retireLast_eq i with ⟨-, heq⟩ | ⟨-, r, hworks, -, heq⟩
  · rw [heq]
    exact .refl _ s
  · rw [heq]
    exact hworks.trans (r.freeSlot_works i).ofFree

theorem State.closeSlots_works (s : State) (reason : Nat) : Works smCounters s (s.closeSlots reason) :=
  (s.eachSlot_works (State.finishSlot_works reason)).trans (State.eachSlot_works _ State.retireLast_works)

/-- Every slot of the slot table after GENERATE is closed. -/
theorem State.slot_closeSlots (s : State) (reason : Nat) {j : Nat} (hj : j < 64) :
    (s.closeSlots reason).slot j = ((s.slot j).closed reason).emptied := by
  have hfinished := State.slot_eachSlot (g := fun x => x.closed reason) (State.slot_finishSlot_self reason)
    (fun s i j h => s.slot_finishSlot_ne reason h) s hj
  rw [State.closeSlots_eq, State.slot_eachSlot State.slot_retireLast_self (fun s i j h => s.slot_retireLast_ne h) _ hj, hfinished]

/-! ### EVALUATE (19 R475) -/

section Eval

variable {s : State} {p m : Nat} {c : Command} {rest : List Command}

/-- Outside a reset of its mailbox the command at the head ends in the record of a bulk reply (18 R448, 19 R466). -/
theorem State.box_makeBulkRecord (hq : (s.box p m).queue = c :: rest) (hset : s.settled p m) (t : Bulk) (n : Nat) :
    ∃ r, (s.makeBulkRecord p m t n).box p m =
        { s.box p m with queue := rest, records := (s.box p m).records ++ [r], ackSeq := c.seq, progress := 255 } ∧
      r.status = 0 ∧ r.seq = c.seq ∧ r.len = n := by
  let r : Record :=
    { status := stOk, opcode := c.opcode, seq := c.seq, irq := c.irq, beat := s.time.beat, detail := 0, body := [], len := n,
      wrote := if t.space = 0 then none else some (t.addr, n) }
  refine ⟨r, ?_, rfl, rfl, rfl⟩
  unfold State.makeBulkRecord State.makeRecordLen
  rw [hq]
  dsimp only
  rw [if_neg (by rw [hset]; decide)]
  exact s.box_setBox_self _ _ _

/-- The result of the EVAL_RUN `c` of mailbox (p, m) is copied to where its bulk reply goes. -/
def State.evalCopied (s : State) (p : Nat) (c : Command) : State :=
  ((({ s with acts.evalBox := none } : State).bulkWrite p (c.bulk 40)
    (({ s with acts.evalBox := none } : State).hbmBytes (c.field 24 8) (c.field 32 4))).hbmNoteRead (portRequester p) (c.field 24 8)
    (c.field 32 4))

theorem State.evalFinish_eq (hbox : s.acts.evalBox = some (p, m)) (hhead : s.head p m = some c) :
    s.evalFinish = (s.evalCopied p c).makeBulkRecord p m (c.bulk 40) (c.field 32 4) := by
  unfold State.evalFinish
  rw [hbox]
  dsimp only
  rw [hhead]
  rfl

theorem State.bulkWrite_works (s : State) (p : Nat) (t : Bulk) (data : List Byte) : Works writeCounters s (s.bulkWrite p t data) := by
  unfold State.bulkWrite
  split
  · exact ⟨rfl, rfl, fun _ => rfl, rfl, fun _ _ => rfl⟩
  · exact s.hbmWriteN_works _ _ _ _ _

theorem State.evalCopied_works (s : State) (p : Nat) (c : Command) : Works writeCounters s (s.evalCopied p c) := by
  have hbox : Works writeCounters s { s with acts.evalBox := none } := ⟨rfl, rfl, fun _ => rfl, rfl, fun _ _ => rfl⟩
  exact (hbox.trans (State.bulkWrite_works _ _ _ _)).trans ((State.hbmNoteRead_works _ _ _ _).mono (List.subset_cons_self _ _))

theorem State.evalFinish_works (s : State) : Works writeCounters s s.evalFinish := by
  cases hbox : s.acts.evalBox with
  | none =>
    rw [State.evalFinish, hbox]
    exact .refl _ s
  | some x =>
    cases hhead : s.head x.1 x.2 with
    | none =>
      unfold State.evalFinish
      rw [hbox]
      dsimp only
      rw [hhead]
      exact .refl _ s
    | some c =>
      rw [State.evalFinish_eq hbox hhead]
      exact (s.evalCopied_works x.1 c).trans (.of_eq _ _ (by simp) (by simp) (by simp) (by simp) (by simp) _)

/-- The EVAL_RUN that waited ends OK, with the length of its result. -/
theorem State.evalFinish_answers (hbox : s.acts.evalBox = some (p, m)) (hhead : s.head p m = some c) (hset : s.settled p m) :
    s.evalFinish.acts.evalBox = none ∧ (s.evalFinish.box p m).ackSeq = c.seq ∧
      (s.box p m).queue = c :: (s.evalFinish.box p m).queue ∧
      ∃ r, (s.evalFinish.box p m).records = (s.box p m).records ++ [r] ∧ r.status = 0 ∧ r.seq = c.seq ∧ r.len = c.field 32 4 := by
  have hcopied : (s.evalCopied p c).box p m = s.box p m := State.box_congr (by simp [State.evalCopied]) p m
  obtain ⟨rest, hq⟩ := List.head?_eq_some_iff.mp hhead
  obtain ⟨r, hanswer, hstatus, hseq, hlen⟩ := State.box_makeBulkRecord (s := s.evalCopied p c) (by rw [hcopied]; exact hq)
    (by rw [State.settled, hcopied]; exact hset) (c.bulk 40) (c.field 32 4)
  rw [State.evalFinish_eq hbox hhead, hanswer, hcopied]
  exact ⟨by simp [State.evalCopied], rfl, hq, r, rfl, hstatus, hseq, hlen⟩

end Eval

/-- What the end of the act in hand does (14 R351, 19 R475). -/
def State.actWork (s : State) : State := if s.acts.act = 1 then s.closeSlots 5 else if s.acts.act = 4 then s.evalFinish else s

theorem State.actWork_works (s : State) : Works smCounters s s.actWork := by
  unfold State.actWork
  split
  · exact s.closeSlots_works 5
  · split
    · exact s.evalFinish_works.ofWrite
    · exact .refl _ s

/-- The act is over. -/
def State.actEnded (s : State) : State := { s.actWork with acts.act := 0 }

theorem exec_actEnd {i : Nat} {e : Entry} {s : State} (hdue : s.dueKind 0x09 = some (i, e)) :
    exec .actEnd s = .next (s.actEnded.entryDone e) := by
  change execActEnd s = _
  rw [execActEnd, hdue]
  rfl

theorem actEnd_closes {i : Nat} {e : Entry} {s : State} (hdue : s.dueKind 0x09 = some (i, e)) :
    ∃ t, exec .actEnd s = .next t ∧ t.acts.act = 0 ∧ t.plan.next = s.plan.next + 1 ∧ t.dev = s.dev ∧ t.time = s.time ∧
      (s.acts.act = 1 → ∀ j, j < 64 → (t.slot j).state = 0 ∨ 4 < (t.slot j).state) ∧
      (s.acts.act ≠ 1 → s.acts.act ≠ 4 → t.acts = { s.acts with act := 0 } ∧ OnlyChanges [.acts, .plan, .cnt] s t) ∧
      (∀ p m c, s.acts.act = 4 → s.acts.evalBox = some (p, m) → s.head p m = some c → s.settled p m →
        t.acts.evalBox = none ∧ (t.box p m).ackSeq = c.seq ∧ (s.box p m).queue = c :: (t.box p m).queue ∧
        ∃ r, (t.box p m).records = (s.box p m).records ++ [r] ∧ r.status = 0 ∧ r.seq = c.seq ∧ r.len = c.field 32 4) := by
  have hacts : (s.actEnded.entryDone e).acts = { s.actWork.acts with act := 0 } := by simp [State.actEnded]
  have hframe : s.actWork.dev = s.dev ∧ s.actWork.time = s.time := by
    unfold State.actWork
    split
    · simp
    · split <;> simp
  have hnext : s.actWork.plan.next = s.plan.next := s.actWork_works.plan_field PlanState.next fun _ => rfl
  refine ⟨_, exec_actEnd hdue, by rw [hacts], ?_, by simpa [State.actEnded] using hframe.1, by simpa [State.actEnded] using hframe.2,
    fun hact j hj => ?_, fun hgen heval => ?_, fun p m c hact hbox hhead hset => ?_⟩
  · rw [(s.actEnded.entryDone_fires e rfl rfl rfl rfl).1]
    exact congrArg (· + 1) hnext
  · have hslot : (s.actEnded.entryDone e).slot j = (s.closeSlots 5).slot j :=
      State.slot_congr (by rw [hacts, State.actWork, if_pos hact]) j
    rw [hslot, State.slot_closeSlots _ _ hj]
    exact Slot.emptied_closed_state _ _
  · have hwork : s.actWork = s := by rw [State.actWork, if_neg hgen, if_neg heval]
    rw [hacts, hwork]
    exact ⟨rfl, by simp [onlyChanges_iff, State.actEnded, hwork]⟩
  · have hwork : s.actWork = s.evalFinish := by rw [State.actWork, if_neg (by omega), if_pos hact]
    have hmail : (s.actEnded.entryDone e).box p m = s.evalFinish.box p m :=
      State.box_congr (by simp [State.actEnded, hwork]) p m
    rw [hacts, hmail, hwork]
    exact State.evalFinish_answers hbox hhead hset

/-! ## The statement -/

/-- Settles O59: an act's end, a boundary and a batch are each their work, then a signal, and the work leaves the signalled counter and
what the pages permit alone, whatever errors its accesses meet. The done counter's signal has no repetition and is never stale (log 83);
a slot that is retired is `Slot.empty` (log 31). -/
theorem actsAndBoundaries : Obligations.ActsAndBoundaries := by
  unfold Obligations.ActsAndBoundaries
  refine ⟨fun i e s => actEnd_closes, fun s => genBoundary_comes, fun i q s hi => ⟨State.harvest_result, fun hfed hq => ?_,
    State.retire_result, s.grow_result i⟩, fun s => batchTake_comes⟩
  rw [State.harvest_discards hfed hq]
  exact ⟨State.slot_setSlot_self _ _ _, by simp [onlyChanges_iff]⟩

end Sys2Proof.Machine
end

section
/-! PROOFS. What flits take when they leave a link (15 R367 to R372): the port afterwards, field by field, and the one counter that moves. -/

namespace Sys2Proof.Machine

/-! ## Lists of 24 counts (15 R371) -/

theorem getD_fit (l : List Nat) {i n : Nat} (h : i < n) : (fit 0 n l).getD i 0 = l.getD i 0 := by
  rw [fit, List.getD_eq_getElem?_getD, List.getD_eq_getElem?_getD, List.getElem?_append, List.getElem?_take, List.getElem?_replicate,
    List.length_take]
  by_cases hi : i < l.length
  · rw [if_pos (by omega), if_pos h]
  · rw [if_neg (by omega), List.getElem?_eq_none (by omega), if_pos (by omega)]
    rfl

/-- One entry of a list of 24 counts changed. -/
theorem getD_bump24 (l : List Nat) (j : Nat) (f : Nat → Nat) {i : Nat} (h : i < 24) :
    (bump24 l j f).getD i 0 = if j = i then f (l.getD j 0) else l.getD i 0 := by
  rw [bump24, List.getD_eq_getElem?_getD, List.getElem?_set, length_fit]
  split
  next hj =>
    rw [hj, if_pos h]
    rfl
  · rw [← List.getD_eq_getElem?_getD, getD_fit l h]

/-! ## The port after flits have left -/

/-- `t` is `s` after the flits `sent` have left link `p`, in this order: each is kept for its acknowledgement, takes a slot and a credit
and is counted. Of the link nothing else changes but the flits that wait and whose turn it is. -/
structure Leaves (s t : State) (p : Nat) (sent : List Flit) : Prop where
  out : t.out = s.out ++ sent.map (OutEvent.flit p)
  port : t.port p = { s.port p with
    waiting := (t.port p).waiting, turn := (t.port p).turn, txCount := (t.port p).txCount, used := (t.port p).used,
    unacked := (s.port p).unacked ++ sent, sinceControl := (s.port p).sinceControl + sent.length }
  tx : ∀ n, (s.port p).txCount = n % 2 ^ 16 → (t.port p).txCount = (n + sent.length) % 2 ^ 16
  used : ∀ i, i < 24 → (t.port p).used.getD i 0 =
    (s.port p).used.getD i 0 + (sent.filter (fun f => decide (creditIx f.lane f.dclass = i))).length
  ports : PortsOnly [p] s t
  counters : CountersKept [LinkCnt.flitsTx (p % 8)] s t
  only : OnlyChanges [.fab, .out, .cnt] s t

theorem Leaves.refl (s : State) (p : Nat) : Leaves s s p [] :=
  ⟨by simp, by simp, fun n hn => by simpa using hn, fun _ _ => by simp, .refl _ s, fun _ _ => rfl, .refl _ s⟩

theorem Leaves.trans {s t r : State} {p : Nat} {l m : List Flit} (h : Leaves s t p l) (h' : Leaves t r p m) : Leaves s r p (l ++ m) where
  out := by rw [h'.out, h.out, List.map_append, List.append_assoc]
  port := by
    refine (h'.port.trans (congrArg (fun q : Port => { q with
      waiting := (r.port p).waiting, turn := (r.port p).turn, txCount := (r.port p).txCount, used := (r.port p).used,
      unacked := q.unacked ++ m, sinceControl := q.sinceControl + m.length }) h.port)).trans ?_
    simp [Nat.add_assoc]
  tx n hn := by rw [h'.tx _ (h.tx n hn), List.length_append, Nat.add_assoc]
  used i hi := by rw [h'.used i hi, h.used i hi, List.filter_append, List.length_append, Nat.add_assoc]
  ports := h.ports.trans h'.ports
  counters := h.counters.trans h'.counters
  only := h.only.trans h'.only (by simp) (by simp)

section Fields

variable {s t : State} {p : Nat} {sent : List Flit} (h : Leaves s t p sent)
include h

theorem Leaves.unacked : (t.port p).unacked = (s.port p).unacked ++ sent := (congrArg Port.unacked h.port :)

theorem Leaves.sinceControl : (t.port p).sinceControl = (s.port p).sinceControl + sent.length := (congrArg Port.sinceControl h.port :)

/-- A field of the port that no flit changes. -/
theorem Leaves.port_field {α : Type} (g : Port → α)
    (hg : ∀ (q : Port) w n u a c x, g { q with waiting := w, turn := n, txCount := u, used := a, unacked := c, sinceControl := x } = g q) :
    g (t.port p) = g (s.port p) := by
  rw [h.port]
  exact hg _ _ _ _ _ _ _

end Fields

theorem State.port_setPort_self (s : State) (p : Nat) (q : Port) : (s.setPort p q).port p = q := Tab.get_set_self _ _ _ _

theorem State.setPort_onlyChanges (s : State) (p : Nat) (q : Port) : OnlyChanges [.fab] s (s.setPort p q) := by
  simp [onlyChanges_iff]

/-- Flits that come to wait, or wait no more, have not left. -/
theorem State.setWaiting_leaves (s : State) (p : Nat) (w : List Flit) (turn : Nat × Nat) :
    Leaves s (s.setPort p { s.port p with waiting := w, turn := turn }) p [] where
  out := by simp
  port := by simp [State.port_setPort_self]
  tx n hn := by simpa [State.port_setPort_self] using hn
  used i _ := by simp [State.port_setPort_self]
  ports := portsOnly_setPort s p _
  counters _ _ := rfl
  only := (s.setPort_onlyChanges p _).mono (by simp)

theorem State.port_sendFlit_self (s : State) (p : Nat) (f : Flit) : (s.sendFlit p f).port p = { s.port p with
    unacked := (s.port p).unacked ++ [f], txCount := ((s.port p).txCount + 1) % 2 ^ 16, sinceControl := (s.port p).sinceControl + 1,
    used := bump24 (s.port p).used (creditIx f.lane f.dclass) (fun v => v + 1) } := Tab.get_set_self _ _ _ _

/-- One data flit leaves a link. -/
theorem State.sendFlit_leaves (s : State) (p : Nat) (f : Flit) : Leaves s (s.sendFlit p f) p [f] where
  out := rfl
  port := by simp [State.port_sendFlit_self]
  tx n hn := by
    rw [State.port_sendFlit_self, List.length_singleton]
    show ((s.port p).txCount + 1) % 2 ^ 16 = _
    omega
  used i hi := by
    rw [State.port_sendFlit_self]
    show (bump24 _ _ _).getD i 0 = _
    rw [getD_bump24 _ _ _ hi, List.filter_singleton]
    by_cases hix : creditIx f.lane f.dclass = i <;> simp [hix]
  ports := portsOnly_setPort s p _
  counters := countersKept_bump (s.setPort p _) _ 1
  only := by simp [onlyChanges_iff]

theorem State.pump_leaves (s : State) (p n : Nat) : ∃ sent, Leaves s (s.pump p n) p sent := by
  induction n generalizing s with
  | zero => exact ⟨[], .refl s p⟩
  | succ n ih =>
    rw [State.pump]
    split
    · split
      next f turn _ =>
        let s1 := s.setPort p { s.port p with waiting := (s.port p).waiting.erase f, turn := turn }
        obtain ⟨sent, hrest⟩ := ih (s1.sendFlit p f)
        exact ⟨_, ((s.setWaiting_leaves p _ turn).trans (s1.sendFlit_leaves p f)).trans hrest⟩
      · exact ⟨[], .refl s p⟩
    · exact ⟨[], .refl s p⟩

theorem State.drain_leaves (s : State) (p : Nat) : ∃ sent, Leaves s (s.drain p) p sent := s.pump_leaves p _

/-- Flits handed to a link: they join those that wait, and those that may leave do. -/
theorem State.queueFlits_leaves (s : State) (p : Nat) (l : List Flit) : ∃ sent, Leaves s (s.queueFlits p l) p sent := by
  obtain ⟨sent, hsent⟩ := (s.setPort p { s.port p with waiting := (s.port p).waiting ++ l }).drain_leaves p
  exact ⟨_, (s.setWaiting_leaves p ((s.port p).waiting ++ l) (s.port p).turn).trans hsent⟩

/-! ## Changes of other groups, before and after -/

theorem State.port_of_fab {s t : State} (h : t.fab = s.fab) (p : Nat) : t.port p = s.port p := by
  rw [State.port, State.port, h]

section Groups

variable {s t s' t' : State} (hfab : s'.fab = s.fab) (hfab' : t'.fab = t.fab)
include hfab hfab'

theorem PortsOnly.of_fab {l : List Nat} (h : PortsOnly l s t) : PortsOnly l s' t' := by
  refine ⟨by rw [hfab, hfab']; exact h.1, fun p hp => ?_⟩
  rw [State.port_of_fab hfab, State.port_of_fab hfab', h.2 p hp]

theorem Hands.of_fab {p : Nat} {e : OutEvent} {l : List Flit} (h : Hands s t p e l) (hout : s'.out = s.out) (hout' : t'.out = t.out) :
    Hands s' t' p e l := by
  unfold Hands at *
  rwa [hout, hout', State.port_of_fab hfab, State.port_of_fab hfab']

end Groups

/-! ## Lane-7 management leaves a link (15 R376, R395) -/

section Mgmt

variable (s : State) (p what : Nat) (args : List Nat) (e : OutEvent)

theorem State.sendMgmt_leaves : ∃ sent, Leaves (s.emit e) (s.sendMgmt p what args e) p sent := (s.emit e).queueFlits_leaves p _

theorem State.sendMgmt_hands : Hands s (s.sendMgmt p what args e) p e [cardFlit 7 7 (s.linkDst p) (mgmtPayload what args)] :=
  (s.emit_queueFlits p e _).1

theorem State.sendMgmt_portsOnly : PortsOnly [p] s (s.sendMgmt p what args e) := (s.emit_queueFlits p e _).2

theorem State.sendMgmt_countersKept : CountersKept [LinkCnt.flitsTx (p % 8)] s (s.sendMgmt p what args e) := by
  obtain ⟨sent, hsent⟩ := s.sendMgmt_leaves p what args e
  exact hsent.counters

theorem State.sendMgmt_onlyChanges : OnlyChanges [.fab, .out, .cnt] s (s.sendMgmt p what args e) := by
  simp [onlyChanges_iff]

/-- The outbox after management left: the event that says so, then the flits. -/
theorem State.sendMgmt_out : ∃ sent : List Flit, (s.sendMgmt p what args e).out = s.out ++ e :: sent.map (OutEvent.flit p) := by
  obtain ⟨sent, hout, -⟩ := s.sendMgmt_hands p what args e
  exact ⟨sent, hout⟩

end Mgmt

end Sys2Proof.Machine
end

section
/-! PROOFS. Flits on a link (15 R368 to R372, R377 to R379): received, counted and credited, replayed after a NAK, let go by control
flits, and forwarded. -/

namespace Sys2Proof.Machine

/-! ## A flit received (15 R369) -/

/-- A flit whose FEC or CRC fails is counted, every later one is discarded, and the first is answered by a NAK. -/
def State.refuseFlit (s : State) (p : Nat) (fecOk : Bool) : State :=
  let r := (s.bump (if fecOk then LinkCnt.crcErr (p % 8) else LinkCnt.fecUncorr (p % 8)) 1).setPort p
    { s.port p with discarding := true }
  if (s.port p).discarding then r else r.emit (.nak p (s.port p).rxCount)

/-- A good data flit is counted, and its buffer freed if it ends here. -/
def State.takeFlit (s : State) (p : Nat) (f : Flit) : State :=
  let r := (s.setPort p { s.port p with discarding := false, rxCount := ((s.port p).rxCount + 1) % 2 ^ 16 }).bump
    (LinkCnt.flitsRx (p % 8)) 1
  if r.endsHere f then r.freeBuffer p f.lane f.dclass else r

theorem State.refuseFlit_counts (s : State) (p : Nat) (fecOk : Bool) : let t := s.refuseFlit p fecOk
    t.port p = { s.port p with discarding := true } ∧
      t.out = s.out ++ (if (s.port p).discarding = true then [] else [.nak p (s.port p).rxCount]) ∧
      CountersKept [LinkCnt.crcErr (p % 8), LinkCnt.fecUncorr (p % 8)] s t ∧ (∀ j, j ≠ p → t.port j = s.port j) ∧
      OnlyChanges [.fab, .cnt, .out] s t := by
  let r := s.bump (if fecOk then LinkCnt.crcErr (p % 8) else LinkCnt.fecUncorr (p % 8)) 1
  have hcounters : CountersKept [LinkCnt.crcErr (p % 8), LinkCnt.fecUncorr (p % 8)] s r :=
    (countersKept_bump s _ 1).mono (by cases fecOk <;> simp)
  have hport : (r.setPort p { s.port p with discarding := true }).port p = { s.port p with discarding := true } :=
    State.port_setPort_self _ _ _
  have hothers (j : Nat) (hj : j ≠ p) : (r.setPort p { s.port p with discarding := true }).port j = s.port j := by
    rw [State.port_setPort, if_neg hj]
    rfl
  unfold State.refuseFlit
  dsimp only
  split
  · exact ⟨hport, by simp, hcounters, hothers, by simp [onlyChanges_iff]⟩
  · exact ⟨hport, rfl, hcounters, hothers, by simp [onlyChanges_iff]⟩

theorem State.port_freeBuffer (s : State) (p lane cls j : Nat) : (s.freeBuffer p lane cls).port j =
    if j = p then { s.port p with freed := bump24 (s.port p).freed (creditIx lane cls) (fun v => v + 1) } else s.port j :=
  s.port_setPort p _ j

theorem cntWide_flitsRx {n : Nat} (h : n < 8) : cntWide (LinkCnt.flitsRx n) = true := by
  have hblock : LinkCnt.flitsRx n / 2 ^ 28 = 0x0F0C := by
    unfold LinkCnt.flitsRx cntKey
    omega
  have hfield : LinkCnt.flitsRx n % 2 ^ 8 = 6 := by
    unfold LinkCnt.flitsRx cntKey
    omega
  rw [cntWide, hblock, hfield]
  rfl

/-- A narrow counter is told from its field. -/
theorem cntWide_of_field {key : Nat} (h : ∀ f ∈ [5, 6, 7], key % 2 ^ 8 ≠ f) : cntWide key = false := by
  rw [cntWide, decide_eq_false (h 5 (by simp)), decide_eq_false (h 6 (by simp)), decide_eq_false (h 7 (by simp))]
  simp

theorem State.takeFlit_counts (s : State) (p : Nat) (f : Flit) (hlane : f.lane < 8) : let t := s.takeFlit p f
    (t.port p).rxCount = ((s.port p).rxCount + 1) % 2 ^ 16 ∧
      t.port p = { s.port p with discarding := false, rxCount := (t.port p).rxCount, freed := (t.port p).freed } ∧
      (f.dclass < 3 → (t.port p).freed.getD (3 * f.lane + f.dclass) 0 =
        (s.port p).freed.getD (3 * f.lane + f.dclass) 0 + (if s.endsHere f = true then 1 else 0)) ∧
      t.cntGet (LinkCnt.flitsRx (p % 8)) = min (s.cntGet (LinkCnt.flitsRx (p % 8)) + 1) 0xFFFFFFFFFFFFFFFF ∧
      CountersKept [LinkCnt.flitsRx (p % 8)] s t ∧ (∀ j, j ≠ p → t.port j = s.port j) ∧ OnlyChanges [.fab, .cnt] s t := by
  let counted : Port := { s.port p with discarding := false, rxCount := ((s.port p).rxCount + 1) % 2 ^ 16 }
  let r := (s.setPort p counted).bump (LinkCnt.flitsRx (p % 8)) 1
  have hcount : r.cntGet (LinkCnt.flitsRx (p % 8)) = min (s.cntGet (LinkCnt.flitsRx (p % 8)) + 1) 0xFFFFFFFFFFFFFFFF :=
    (s.setPort p counted).cntGet_bump_wide (cntWide_flitsRx (Nat.mod_lt p (by omega))) 1
  have hcounters : CountersKept [LinkCnt.flitsRx (p % 8)] s r := countersKept_bump (s.setPort p counted) _ 1
  have hport : r.port p = counted := State.port_setPort_self s p counted
  have hothers (j : Nat) (hj : j ≠ p) : r.port j = s.port j := by
    show (s.setPort p counted).port j = _
    rw [State.port_setPort, if_neg hj]
  have hends : r.endsHere f = s.endsHere f := rfl
  have honly : OnlyChanges [.fab, .cnt] s r := by simp [r, onlyChanges_iff]
  unfold State.takeFlit
  dsimp only
  rw [show State.endsHere _ f = s.endsHere f from hends]
  split
  next hhere =>
    have hfreed : (r.freeBuffer p f.lane f.dclass).port p =
        { counted with freed := bump24 counted.freed (creditIx f.lane f.dclass) (fun v => v + 1) } := by
      rw [State.port_freeBuffer, if_pos rfl, hport]
    refine ⟨by rw [hfreed], by rw [hfreed], fun hclass => ?_, hcount, hcounters, fun j hj => ?_, ?_⟩
    · rw [hfreed]
      exact (getD_bump24 _ _ _ (by omega)).trans (if_pos rfl)
    · rw [State.port_freeBuffer, if_neg hj, hothers j hj]
    · exact honly.trans (State.setPort_onlyChanges r p _) (by simp) (by simp)
  next hpasses =>
    exact ⟨by rw [hport], by rw [hport], fun _ => by rw [hport]; rfl, hcount, hcounters, hothers, honly⟩

/-- A good flit at a link that discards nothing, or no more. -/
def State.takeGood (s : State) (p : Nat) (f : Flit) : State :=
  if !isDataFlit f then s.setPort p { s.port p with discarding := false } else s.takeFlit p f

theorem Flit.lane_lt {f : Flit} (h : f.ok = true) : f.lane < 8 := by
  simp only [Flit.ok, fits, Bool.and_eq_true, decide_eq_true_eq] at h
  omega

section Receive

variable {port : Fin 16} {f : Flit} {fecOk : Bool} {s : State} (hok : f.ok = true) (hcarries : s.carries port.val f.lane = true)
include hok hcarries

theorem exec_flitRx_bad (hbad : fecOk = false ∨ f.crc ≠ flitCrc f) :
    exec (.flitRx port f fecOk) s = .next (s.refuseFlit port.val fecOk) := by
  change execFlitRx _ _ _ _ = _
  rw [execFlitRx, checked_of_wellFormed (by simpa [wellFormed] using hok)]
  have hcond : (!fecOk || decide (f.crc ≠ flitCrc f)) = true := by simpa using hbad
  simp only [hcarries, hcond, Bool.not_true, Bool.false_eq_true, if_false, if_true]
  rfl

theorem exec_flitRx_good (hfec : fecOk = true) (hcrc : f.crc = flitCrc f) (hkeeps : (s.port port.val).discarding = false) :
    exec (.flitRx port f fecOk) s = .next (s.takeGood port.val f) := by
  change execFlitRx _ _ _ _ = _
  rw [execFlitRx, checked_of_wellFormed (by simpa [wellFormed] using hok)]
  have hcond : (!fecOk || decide (f.crc ≠ flitCrc f)) = false := by simp [hfec, hcrc]
  simp only [hcarries, hcond, hkeeps, Bool.not_true, Bool.false_eq_true, if_false]
  rw [State.takeGood]
  cases isDataFlit f
  · rfl
  · rfl

/-- A good flit at a link that discards is taken or not, as nothing fixes (log 30). -/
theorem exec_flitRx_discarding (hfec : fecOk = true) (hcrc : f.crc = flitCrc f) (hdiscards : (s.port port.val).discarding = true) :
    exec (.flitRx port f fecOk) s = .next (if s.drawBool.1 then s.drawBool.2.takeGood port.val f else s.drawBool.2) := by
  change execFlitRx _ _ _ _ = _
  rw [execFlitRx, checked_of_wellFormed (by simpa [wellFormed] using hok)]
  have hcond : (!fecOk || decide (f.crc ≠ flitCrc f)) = false := by simp [hfec, hcrc]
  simp only [hcarries, hcond, hdiscards, Bool.not_true, Bool.false_eq_true, if_false, if_true]
  rw [State.takeGood]
  cases s.drawBool.1
  · rfl
  · cases isDataFlit f
    · rfl
    · rfl

/-- FLIT_RX. -/
theorem flitRx_receives : let q := s.port port.val
    ∃ t, exec (.flitRx port f fecOk) s = .next t ∧ (∀ p, p ≠ port.val → t.port p = s.port p) ∧
      (fecOk = false ∨ f.crc ≠ flitCrc f → t.port port.val = { q with discarding := true } ∧
        t.out = s.out ++ (if q.discarding = true then [] else [.nak port.val q.rxCount]) ∧
        CountersKept [LinkCnt.crcErr (port.val % 8), LinkCnt.fecUncorr (port.val % 8)] s t ∧ OnlyChanges [.fab, .cnt, .out] s t) ∧
      (fecOk = true → f.crc = flitCrc f → isDataFlit f = true → q.discarding = false →
        (t.port port.val).rxCount = (q.rxCount + 1) % 2 ^ 16 ∧ (t.port port.val).discarding = false ∧
        t.port port.val = { q with rxCount := (t.port port.val).rxCount, freed := (t.port port.val).freed } ∧
        (f.dclass < 3 → (t.port port.val).freed.getD (3 * f.lane + f.dclass) 0 =
          q.freed.getD (3 * f.lane + f.dclass) 0 + (if s.endsHere f = true then 1 else 0)) ∧
        t.cntGet (LinkCnt.flitsRx (port.val % 8)) = min (s.cntGet (LinkCnt.flitsRx (port.val % 8)) + 1) 0xFFFFFFFFFFFFFFFF ∧
        CountersKept [LinkCnt.flitsRx (port.val % 8)] s t ∧ OnlyChanges [.fab, .cnt] s t) ∧
      (fecOk = true → f.crc = flitCrc f → isDataFlit f = false → q.discarding = false →
        t.port port.val = q ∧ OnlyChanges [.fab] s t) := by
  intro q
  by_cases hbad : fecOk = false ∨ f.crc ≠ flitCrc f
  · obtain ⟨hport, hout, hcounters, hothers, honly⟩ := s.refuseFlit_counts port.val fecOk
    refine ⟨_, exec_flitRx_bad hok hcarries hbad, hothers, fun _ => ⟨hport, hout, hcounters, honly⟩, ?_, ?_⟩
    · exact fun hfec hcrc => (hbad.elim (by simp [hfec]) (fun h => h hcrc)).elim
    · exact fun hfec hcrc => (hbad.elim (by simp [hfec]) (fun h => h hcrc)).elim
  · obtain ⟨hfec, hcrc⟩ : fecOk = true ∧ f.crc = flitCrc f := by simpa using hbad
    have hothers (r : State) (j : Nat) (hj : j ≠ port.val) : (r.takeGood port.val f).port j = r.port j := by
      unfold State.takeGood
      split
      · rw [State.port_setPort, if_neg hj]
      · obtain ⟨-, -, -, -, -, hothers, -⟩ := r.takeFlit_counts port.val f (Flit.lane_lt hok)
        exact hothers j hj
    cases hdiscards : q.discarding with
    | true =>
      refine ⟨_, exec_flitRx_discarding hok hcarries hfec hcrc hdiscards, fun p hp => ?_, fun h => absurd h hbad,
        fun _ _ _ h => (by cases h), fun _ _ _ h => (by cases h)⟩
      split
      · exact hothers s.drawBool.2 p hp
      · rfl
    | false =>
      refine ⟨_, exec_flitRx_good hok hcarries hfec hcrc hdiscards, hothers s, fun h => absurd h hbad, fun _ _ hdata _ => ?_,
        fun _ _ hdata _ => ?_⟩
      · obtain ⟨hrx, hport, hfreed, hcount, hcounters, -, honly⟩ := s.takeFlit_counts port.val f (Flit.lane_lt hok)
        rw [State.takeGood, hdata, Bool.not_true, if_neg Bool.false_ne_true]
        exact ⟨hrx, by rw [hport], hport.trans (by rw [← hdiscards]), hfreed, hcount, hcounters, honly⟩
      · rw [State.takeGood, hdata, Bool.not_false, if_pos rfl]
        exact ⟨(State.port_setPort_self _ _ _).trans (by rw [← hdiscards]), s.setPort_onlyChanges _ _⟩

end Receive

/-! ## Replay (15 R369, R370) -/

/-- The replay buffer loses flits from its front, and the port nothing else. -/
theorem Port.acked_eq (q : Port) (count : Nat) : ∃ kept, kept <:+ q.unacked ∧ q.acked count = { q with unacked := kept } := by
  unfold Port.acked
  dsimp only
  split
  · exact ⟨_, List.drop_suffix _ _, rfl⟩
  · exact ⟨q.unacked, List.suffix_rfl, rfl⟩

/-- The flits that go are those that the peer has counted. -/
theorem Port.acked_counted {q : Port} {count k : Nat} (hcount : count < 2 ^ 16) (hk : k ≤ q.unacked.length)
    (htx : q.txCount = (count + (q.unacked.length - k)) % 2 ^ 16) (hlen : q.unacked.length < 2 ^ 15) :
    (q.acked count).unacked = q.unacked.drop k := by
  have hgone : (count + 2 ^ 16 - (q.txCount + 2 ^ 16 - q.unacked.length % 2 ^ 16) % 2 ^ 16) % 2 ^ 16 = k := by omega
  unfold Port.acked
  dsimp only
  rw [hgone, if_pos hk]

theorem foldl_emit (l : List OutEvent) (s : State) : l.foldl State.emit s = { s with out := s.out ++ l } := by
  induction l generalizing s with
  | nil => simp
  | cons e l ih => rw [List.foldl_cons, ih]; simp [State.emit]

/-- Every flit of the replay buffer goes out again. -/
theorem State.out_replay (s : State) (p : Nat) : (s.replay p).out = s.out ++ (s.port p).unacked.map (OutEvent.flit p) := by
  have hreplay : s.replay p = ((s.port p).unacked.map (OutEvent.flit p)).foldl State.emit s := by
    rw [List.foldl_map]
    rfl
  rw [hreplay, foldl_emit]

theorem State.port_replay (s : State) (p j : Nat) : (s.replay p).port j = s.port j := by
  rw [State.port, State.port, (by simp : (s.replay p).fab = s.fab)]

theorem State.replay_onlyChanges (s : State) (p : Nat) : OnlyChanges [.out] s (s.replay p) := by
  simp [onlyChanges_iff]

theorem State.replay_portsOnly (s : State) (p : Nat) : PortsOnly [p] s (s.replay p) :=
  ⟨by simp, fun j _ => s.port_replay p j⟩

theorem State.replay_countersKept (s : State) (p : Nat) (l : List Nat) : CountersKept l s (s.replay p) :=
  countersKept_of_cnt (by simp) l

theorem cntWide_replays (n : Nat) : cntWide (LinkCnt.replays n) = false := by
  have hfield : LinkCnt.replays n % 2 ^ 8 = 3 := Nat.mul_add_mod' _ _ _
  exact cntWide_of_field (by rw [hfield]; decide)

theorem cntWide_retrains (n : Nat) : cntWide (LinkCnt.retrains n) = false := by
  have hfield : LinkCnt.retrains n % 2 ^ 8 = 4 := Nat.mul_add_mod' _ _ _
  exact cntWide_of_field (by rw [hfield]; decide)

theorem State.port_retrain_self (s : State) (p : Nat) : (s.retrain p).port p = { s.port p with
    state := 3, retrains := ((s.port p).retrains.filter (fun b => decide (s.time.beat < b + 1000000))) ++ [s.time.beat],
    retrainBeat := s.time.beat, nakTimes := 0 } := State.port_setPort_self _ _ _

theorem State.retrain_portsOnly (s : State) (p : Nat) : PortsOnly [p] s (s.retrain p) := portsOnly_setPort s p _

theorem State.retrain_countersKept (s : State) (p : Nat) : CountersKept [LinkCnt.retrains (p % 8)] s (s.retrain p) :=
  countersKept_bump (s.setPort p _) _ 1

/-- How often in a row the port has had a NAK of a count, with the one at hand. -/
def Port.nakRun (q : Port) (count : Nat) : Nat := if q.nakCount = count ∧ 0 < q.nakTimes then q.nakTimes + 1 else 1

/-- A NAK noted: what the peer has counted leaves the replay buffer, and the replay is counted. -/
def State.noteNak (s : State) (p count : Nat) : State :=
  (s.setPort p { (s.port p).acked count with nakCount := count, nakTimes := (s.port p).nakRun count }).bump (LinkCnt.replays (p % 8)) 1

theorem State.takeNak_eq (s : State) (p count : Nat) : s.takeNak p count =
    if 8 ≤ (s.port p).nakRun count then (s.noteNak p count).retrain p else ((s.noteNak p count).replay p).drain p := by
  obtain ⟨kept, -, hacked⟩ := (s.port p).acked_eq count
  have hrun : (if ((s.port p).acked count).nakCount = count && decide (0 < ((s.port p).acked count).nakTimes) then
      ((s.port p).acked count).nakTimes + 1 else 1) = (s.port p).nakRun count := by
    rw [hacked, Port.nakRun]
    simp only [Bool.and_eq_true, decide_eq_true_eq]
  unfold State.takeNak
  dsimp only
  rw [hrun]
  rfl

theorem State.noteNak_counts (s : State) (p count : Nat) : let r := s.noteNak p count
    r.cntGet (LinkCnt.replays (p % 8)) = min (s.cntGet (LinkCnt.replays (p % 8)) + 1) 0xFFFFFFFF ∧
      CountersKept [LinkCnt.replays (p % 8)] s r ∧ PortsOnly [p] s r ∧ OnlyChanges [.fab, .cnt] s r :=
  ⟨State.cntGet_bump_narrow _ (cntWide_replays _) 1, countersKept_bump (s.setPort p _) _ 1, portsOnly_setPort s p _,
    by simp [onlyChanges_iff, State.noteNak]⟩

theorem LinkCnt.replays_ne_flitsTx (m n : Nat) : LinkCnt.replays m ≠ LinkCnt.flitsTx n := by
  unfold LinkCnt.replays LinkCnt.flitsTx cntKey
  omega

theorem LinkCnt.replays_ne_retrains (m n : Nat) : LinkCnt.replays m ≠ LinkCnt.retrains n := by
  unfold LinkCnt.replays LinkCnt.retrains cntKey
  omega

theorem State.noteNak_port (s : State) {p count : Nat} (hcount : count < 2 ^ 16) : let q := s.port p
    ∃ kept, kept <:+ q.unacked ∧
      (∀ k, k ≤ q.unacked.length → q.txCount = (count + (q.unacked.length - k)) % 2 ^ 16 → q.unacked.length < 2 ^ 15 →
        kept = q.unacked.drop k) ∧
      (s.noteNak p count).port p = { q with unacked := kept, nakCount := count, nakTimes := q.nakRun count } := by
  intro q
  obtain ⟨kept, hsuffix, hacked⟩ := q.acked_eq count
  refine ⟨kept, hsuffix, fun k hk htx hlen => ?_, ?_⟩
  · rw [← Port.acked_counted hcount hk htx hlen, hacked]
  · exact (State.port_setPort_self _ _ _).trans
      (congrArg (fun a : Port => { a with nakCount := count, nakTimes := q.nakRun count }) hacked)

/-- A NAK acted on, NAK_RX's part: up to the seventh of one count in a row the flits kept are sent again, at the eighth the link
retrains. -/
theorem State.takeNak_replays (s : State) {p count : Nat} (hcount : count < 2 ^ 16) : let q := s.port p
    let t := s.takeNak p count
    ∃ (kept sent : List Flit), kept <:+ q.unacked ∧
      (∀ k, k ≤ q.unacked.length → q.txCount = (count + (q.unacked.length - k)) % 2 ^ 16 → q.unacked.length < 2 ^ 15 →
        kept = q.unacked.drop k) ∧
      (t.port p).unacked = kept ++ sent ∧
      (q.nakRun count < 8 → t.out = s.out ++ kept.map (OutEvent.flit p) ++ sent.map (OutEvent.flit p) ∧
        (t.port p).nakTimes = q.nakRun count ∧ (t.port p).state = q.state) ∧
      (8 ≤ q.nakRun count → sent = [] ∧ t.out = s.out ∧ (t.port p).state = 3 ∧ (t.port p).nakTimes = 0) ∧
      t.cntGet (LinkCnt.replays (p % 8)) = min (s.cntGet (LinkCnt.replays (p % 8)) + 1) 0xFFFFFFFF ∧
      CountersKept [LinkCnt.replays (p % 8), LinkCnt.retrains (p % 8), LinkCnt.flitsTx (p % 8)] s t ∧
      PortsOnly [p] s t ∧ OnlyChanges [.fab, .cnt, .out] s t := by
  intro q t
  obtain ⟨kept, hsuffix, hdrop, hnoted⟩ := s.noteNak_port (p := p) hcount
  obtain ⟨hreplays, hcounters, hports, honly⟩ := s.noteNak_counts p count
  have ht := s.takeNak_eq p count
  have hframe : OnlyChanges [.fab, .cnt, .out] s t := by simp [onlyChanges_iff, t]
  generalize s.noteNak p count = r at hnoted hreplays hcounters hports honly ht
  have hbuffer : (r.port p).unacked = kept := congrArg Port.unacked hnoted
  have hout : r.out = s.out := honly .out (by simp)
  by_cases h8 : 8 ≤ q.nakRun count
  · replace ht : t = r.retrain p := ht.trans (if_pos h8)
    have hretrain := r.retrain_countersKept p
    refine ⟨kept, [], hsuffix, hdrop, ?_, fun h => absurd h8 (by omega), fun _ => ⟨rfl, ?_, ?_, ?_⟩, ?_, ?_, ?_, hframe⟩
    · rw [ht, State.port_retrain_self, List.append_nil]
      exact hbuffer
    · rw [ht, ← hout]
      simp
    · rw [ht, State.port_retrain_self]
    · rw [ht, State.port_retrain_self]
    · rw [ht, hretrain _ (by simpa using LinkCnt.replays_ne_retrains _ _), hreplays]
    · rw [ht]
      exact (hcounters.mono (by simp)).trans (hretrain.mono (by simp))
    · rw [ht]
      exact hports.trans (r.retrain_portsOnly p)
  · replace ht : t = (r.replay p).drain p := ht.trans (if_neg h8)
    obtain ⟨sent, hsent⟩ := (r.replay p).drain_leaves p
    rw [← ht] at hsent
    refine ⟨kept, sent, hsuffix, hdrop, ?_, fun _ => ⟨?_, ?_, ?_⟩, fun h => absurd h h8, ?_, ?_, ?_, hframe⟩
    · rw [hsent.unacked, State.port_replay, hbuffer]
    · rw [hsent.out, State.out_replay, hbuffer, hout]
    · rw [hsent.port_field Port.nakTimes fun _ _ _ _ _ _ _ => rfl, State.port_replay, hnoted]
    · rw [hsent.port_field Port.state fun _ _ _ _ _ _ _ => rfl, State.port_replay, hnoted]
    · rw [hsent.counters _ (by simpa using LinkCnt.replays_ne_flitsTx _ _), r.replay_countersKept p [] _ (by simp), hreplays]
    · exact (hcounters.mono (by simp)).trans ((r.replay_countersKept p _).trans (hsent.counters.mono (by simp)))
    · exact hports.trans ((r.replay_portsOnly p).trans hsent.ports)

/-! ## Control flits (15 R368) -/

/-- Idle flits fill the slots that no flit took since the last control flit. -/
def State.idleFilled (s : State) (p : Nat) : State :=
  if (s.port p).sinceControl < 40 then s.emit (.idleFlits p (40 - (s.port p).sinceControl)) else s

theorem State.out_idleFilled (s : State) (p : Nat) : (s.idleFilled p).out = s.out ++
    (if (s.port p).sinceControl < 40 then [.idleFlits p (40 - (s.port p).sinceControl)] else []) := by
  unfold State.idleFilled
  split
  · rfl
  · rw [List.append_nil]

theorem State.idleFilled_onlyChanges (s : State) (p : Nat) : OnlyChanges [.out] s (s.idleFilled p) := by
  simp [onlyChanges_iff, State.idleFilled]

/-- A control flit leaves: what it carries starts its next count at 0. -/
def State.controlled (s : State) (p : Nat) : State :=
  ((s.idleFilled p).setPort p { s.port p with freed := [], sinceControl := 0 }).emit
    (.controlFlit p (fit 0 24 (s.port p).freed) (s.port p).rxCount (s.port p).discarding)

theorem State.controlled_port (s : State) (p : Nat) : (s.controlled p).port p = { s.port p with freed := [], sinceControl := 0 } :=
  State.port_setPort_self _ _ _

theorem State.controlled_portsOnly (s : State) (p : Nat) : PortsOnly [p] s (s.controlled p) := by
  have hfab : (s.idleFilled p).fab = s.fab := s.idleFilled_onlyChanges p .fab (by simp)
  have hidle : PortsOnly [p] s (s.idleFilled p) := ⟨by rw [hfab], fun j _ => by rw [State.port, State.port, hfab]⟩
  exact hidle.trans (portsOnly_setPort (s.idleFilled p) p _)

theorem State.controlled_onlyChanges (s : State) (p : Nat) : OnlyChanges [.fab, .out] s (s.controlled p) :=
  (s.idleFilled_onlyChanges p).trans (m := [.fab, .out]) (by simp [onlyChanges_iff, State.controlled]) (by simp) (by simp)

/-- The credits of a control flit come back and the flits that it counts leave the replay buffer. -/
def State.credited (s : State) (p : Nat) (credits : List Nat) (count : Nat) : State :=
  s.setPort p { (s.port p).acked count with used := (List.range 24).map (fun i => (s.port p).used.getD i 0 - credits.getD i 0) }

section Commands

variable {port : Fin 16} {count : Nat} {s : State} (hcarries : s.carries port.val 7 = true)
include hcarries

theorem exec_controlFlitSend : exec (.controlFlitSend port) s = .next ((s.controlled port.val).drain port.val) := by
  change execControlFlitSend _ _ = _
  rw [execControlFlitSend]
  exact if_pos hcarries

theorem controlFlitSend_sends : let q := s.port port.val
    ∃ (t : State) (sent : List Flit), exec (.controlFlitSend port) s = .next t ∧
      t.out = s.out ++ (if q.sinceControl < 40 then [.idleFlits port.val (40 - q.sinceControl)] else []) ++
        [.controlFlit port.val (fit 0 24 q.freed) q.rxCount q.discarding] ++ sent.map (OutEvent.flit port.val) ∧
      (t.port port.val).freed = [] ∧ (t.port port.val).sinceControl = sent.length ∧
      (t.port port.val).unacked = q.unacked ++ sent ∧ (t.port port.val).rxCount = q.rxCount ∧
      CountersKept [LinkCnt.flitsTx (port.val % 8)] s t ∧ PortsOnly [port.val] s t ∧ OnlyChanges [.fab, .cnt, .out] s t := by
  intro q
  have hport := s.controlled_port port.val
  have honly := s.controlled_onlyChanges port.val
  obtain ⟨sent, hsent⟩ := (s.controlled port.val).drain_leaves port.val
  refine ⟨_, sent, exec_controlFlitSend hcarries, ?_, ?_, ?_, ?_, ?_, ?_, (s.controlled_portsOnly port.val).trans hsent.ports,
    honly.trans hsent.only (by simp) (by simp)⟩
  · rw [hsent.out, ← s.out_idleFilled]
    rfl
  · rw [hsent.port_field Port.freed fun _ _ _ _ _ _ _ => rfl, hport]
  · rw [hsent.sinceControl, hport, Nat.zero_add]
  · rw [hsent.unacked, hport]
  · rw [hsent.port_field Port.rxCount fun _ _ _ _ _ _ _ => rfl, hport]
  · exact (countersKept_of_cnt (honly .cnt (by simp)) _).trans hsent.counters

variable (hcount : count < 2 ^ 16)
include hcount

theorem exec_nakRx : exec (.nakRx port count) s = .next (s.takeNak port.val count) := by
  change execNakRx _ _ _ = _
  rw [execNakRx, checked_of_wellFormed (by simp [wellFormed, fits_of_lt hcount])]
  exact if_pos hcarries

variable {credits : List Nat} (hlen : credits.length = 24)
include hlen

theorem exec_controlFlitRx (nak : Bool) : exec (.controlFlitRx port credits count nak) s = .next
    (if nak then (s.credited port.val credits count).takeNak port.val count
      else (s.credited port.val credits count).drain port.val) := by
  change execControlFlitRx _ _ _ _ _ = _
  rw [execControlFlitRx, checked_of_wellFormed (by simp [wellFormed, hlen, fits_of_lt hcount])]
  exact if_pos hcarries

theorem controlFlitRx_credits : let q := s.port port.val
    ∃ (t : State) (kept sent : List Flit), exec (.controlFlitRx port credits count false) s = .next t ∧
      kept <:+ q.unacked ∧ (t.port port.val).unacked = kept ++ sent ∧ t.out = s.out ++ sent.map (OutEvent.flit port.val) ∧
      (∀ i, i < 24 → (t.port port.val).used.getD i 0 =
        q.used.getD i 0 - credits.getD i 0 + (sent.filter (fun f => decide (creditIx f.lane f.dclass = i))).length) ∧
      CountersKept [LinkCnt.flitsTx (port.val % 8)] s t ∧ PortsOnly [port.val] s t ∧ OnlyChanges [.fab, .cnt, .out] s t := by
  intro q
  obtain ⟨kept, hsuffix, hacked⟩ := q.acked_eq count
  let used := (List.range 24).map (fun i => q.used.getD i 0 - credits.getD i 0)
  let r := s.credited port.val credits count
  have hport : r.port port.val = { q with unacked := kept, used := used } :=
    (State.port_setPort_self _ _ _).trans (congrArg (fun a : Port => { a with used := used }) hacked)
  obtain ⟨sent, hsent⟩ := r.drain_leaves port.val
  refine ⟨_, kept, sent, exec_controlFlitRx hcarries hcount hlen false, hsuffix, ?_, hsent.out, fun i hi => ?_, hsent.counters,
    (portsOnly_setPort s _ _).trans hsent.ports, (s.setPort_onlyChanges _ _).trans hsent.only (by simp) (by simp)⟩
  · exact hsent.unacked.trans (by rw [hport])
  · refine (hsent.used i hi).trans ?_
    rw [hport]
    simp [used, hi]

theorem controlFlitRx_naks :
    exec (.controlFlitRx port credits count true) s = exec (.nakRx port count) (s.credited port.val credits count) := by
  rw [exec_controlFlitRx hcarries hcount hlen true, exec_nakRx _ hcount]
  · rfl
  · obtain ⟨kept, -, hacked⟩ := (s.port port.val).acked_eq count
    rw [State.carries, State.credited, State.port_setPort_self, hacked]
    exact hcarries

end Commands

/-! ## FLIT_FORWARD (15 R369, R377 to R379, R393) -/

theorem sealFlit_crc (f : Flit) : (sealFlit f).crc = flitCrc (sealFlit f) := rfl

section Forward

variable {ingress : Fin 16} {src : Nat} {f : Flit} {s : State} {e : Nat × Nat} (hsrc : src < 2 ^ 13) (hok : f.ok = true)
  (hcarries : s.carries ingress.val f.lane = true) (hhop : s.forwardHop src f = some e)
include hsrc hok hcarries hhop

theorem exec_flitForward : exec (.flitForward ingress src f) s = .next
    (if s.bareSpare = false ∧ (s.port e.1).open f.lane e.2 = true then
      if s.endsHere f then s.sendFlit e.1 (sealFlit { f with dclass := e.2 })
      else (s.sendFlit e.1 (sealFlit { f with dclass := e.2 })).freeBuffer ingress.val f.lane f.dclass
    else s) := by
  change execFlitForward _ _ _ _ = _
  rw [execFlitForward, checked_of_wellFormed (by simp [wellFormed, fits_of_lt hsrc, hok])]
  dsimp only
  rw [hcarries, hhop]
  cases s.bareSpare
  · by_cases hopen : (s.port e.1).open f.lane e.2 = true
    · simp [hopen]
    · simp [hopen]
  · simp

theorem flitForward_passes : ∃ t, exec (.flitForward ingress src f) s = .next t ∧
    (if s.bareSpare = false ∧ (s.port e.1).open f.lane e.2 = true then
      ∃ g, Emits s t (.flit e.1 g) ∧ g.crc = flitCrc g ∧ { g with crc := f.crc } = { f with dclass := e.2 } ∧
        (t.port e.1).unacked = (s.port e.1).unacked ++ [g] ∧ (t.port e.1).txCount = ((s.port e.1).txCount + 1) % 2 ^ 16 ∧
        PortsOnly [e.1, ingress.val] s t ∧ (s.endsHere f = true → PortsOnly [e.1] s t) ∧
        CountersKept [LinkCnt.flitsTx (e.1 % 8)] s t ∧ OnlyChanges [.fab, .cnt, .out] s t
      else t = s) := by
  refine ⟨_, exec_flitForward hsrc hok hcarries hhop, ?_⟩
  split
  · let g := sealFlit { f with dclass := e.2 }
    have hsent := s.sendFlit_leaves e.1 g
    have hport := s.port_sendFlit_self e.1 g
    generalize s.sendFlit e.1 g = r at hsent hport
    refine ⟨g, ?_⟩
    show Emits _ (if _ then r else r.freeBuffer _ _ _) _ ∧ _
    split
    next hhere =>
      exact ⟨hsent.out, sealFlit_crc _, rfl, hsent.unacked, by rw [hport], hsent.ports.mono (by simp), fun _ => hsent.ports,
        hsent.counters, hsent.only.mono (by simp)⟩
    next hgoes =>
      have hfreed (j : Nat) : ∃ l, (r.freeBuffer ingress.val f.lane f.dclass).port j = { r.port j with freed := l } := by
        rw [State.port_freeBuffer]
        split
        next h => exact ⟨_, by rw [h]⟩
        next => exact ⟨_, rfl⟩
      obtain ⟨l, hl⟩ := hfreed e.1
      have hbuffer : PortsOnly [ingress.val] r (r.freeBuffer ingress.val f.lane f.dclass) := portsOnly_setPort r _ _
      refine ⟨hsent.out, sealFlit_crc _, rfl, ?_, ?_, (hsent.ports.mono (by simp)).trans (hbuffer.mono (by simp)),
        fun hhere => absurd hhere hgoes, hsent.counters, ?_⟩
      · rw [hl, ← hsent.unacked]
      · rw [hl, hport]
      · exact hsent.only.trans (r.setPort_onlyChanges _ _) (by simp) (by simp)
  · rfl

end Forward

/-! ## The statement -/

/-- Settles O28: a port after flits have left it is known field by field, and every command here is a change of one port and then that. -/
theorem flitsMove : Obligations.FlitsMove := by
  unfold Obligations.FlitsMove
  refine ⟨fun port f fecOk s hok hcarries => flitRx_receives hok hcarries, fun port credits count s hcount hcarries => ?_,
    fun ingress src f s e hsrc hok hcarries hhop => flitForward_passes hsrc hok hcarries hhop⟩
  obtain ⟨kept, sent, hnak⟩ := s.takeNak_replays (p := port.val) hcount
  exact ⟨⟨_, kept, sent, exec_nakRx hcarries hcount, hnak⟩, controlFlitSend_sends hcarries,
    controlFlitRx_credits hcarries hcount, controlFlitRx_naks hcarries hcount⟩

end Sys2Proof.Machine
end

section
/-! PROOFS. Fences (02 R34) and the spare's takeover (15 R395, 19 R476): which mesh stops a fence closes, and commands that wait at the
head of the device queue. -/

namespace Sys2Proof.Machine

/-! ## Mesh stops closed (02 R34, Table 02-4) -/

/-- A fence closes the mesh stop of its position, may change a site's state, and leaves the rest of the die's map alone. -/
theorem State.geo_fencePos (s : State) (pos : Nat) : ∃ fence site, (s.fencePos pos).geo = { s.geo with fence := fence, site := site } ∧
    ∀ x, Tab.get false fence x = (decide (x = pos) || Tab.get false s.geo.fence x) := by
  unfold State.fencePos
  split
  next hclosed =>
    refine ⟨s.geo.fence, s.geo.site, rfl, fun x => ?_⟩
    by_cases hx : x = pos
    · rw [hx, hclosed, Bool.or_true]
    · rw [decide_eq_false hx, Bool.false_or]
  next hopen =>
    refine ⟨Tab.set false s.geo.fence pos true, if Tab.get 1 s.geo.site pos = 0 then Tab.set 1 s.geo.site pos 5 else s.geo.site, ?_,
      fun x => ?_⟩
    · dsimp only
      split
      · split
        · exact (State.fenceUnit_frame _ _ _).2.2.2.2.1
        · rfl
      · rfl
    · rw [Tab.get_set]
      by_cases hx : x = pos <;> simp [hx]

theorem State.geo_foldl_fencePos (l : List Nat) (s : State) : ∃ fence site,
    (l.foldl State.fencePos s).geo = { s.geo with fence := fence, site := site } ∧
      ∀ x, Tab.get false fence x = (decide (x ∈ l) || Tab.get false s.geo.fence x) := by
  induction l generalizing s with
  | nil => exact ⟨_, _, rfl, fun x => by simp⟩
  | cons pos l ih =>
    obtain ⟨fence, site, hgeo, hfence⟩ := s.geo_fencePos pos
    obtain ⟨fence', site', hgeo', hfence'⟩ := ih (s.fencePos pos)
    refine ⟨fence', site', by rw [List.foldl_cons, hgeo', hgeo], fun x => ?_⟩
    rw [hfence', hgeo, hfence, ← Bool.or_assoc]
    by_cases hx : x = pos <;> simp [hx]

/-- A fence of a core's site, recorded. -/
theorem State.geo_fenceCore (s : State) (o : Nat × Nat) (kind n pos : Nat) :
    (∀ x, Tab.get false (s.fenceCore o kind n pos).geo.fence x = (decide (x ∈ sitePositions pos) || Tab.get false s.geo.fence x)) ∧
      (s.fenceCore o kind n pos).geo.fences = s.geo.fences ++ [{ pos := pos, beat := s.time.beat }] ∧
      (s.fenceCore o kind n pos).geo.fenced = s.geo.fenced := by
  obtain ⟨fence, site, hgeo, hfence⟩ := State.geo_foldl_fencePos (sitePositions pos) s
  have hsite : (s.fenceSite pos).geo = { s.geo with fence := fence, site := site } := hgeo
  have hcore : (s.fenceCore o kind n pos).geo =
      { s.geo with fence := fence, site := site, fences := s.geo.fences ++ [{ pos := pos, beat := s.time.beat }] } := by
    simp [State.fenceCore, hsite]
  rw [hcore]
  exact ⟨hfence, rfl, rfl⟩

/-! ## Commands that wait (19 R465) -/

/-- A changing command in execution is at the head of the device queue. -/
theorem State.hostQueue_of_changing {s : State} {p m op : Nat} {c : Command} (h : s.changing p m op = some c) :
    ∃ q rest, s.host.queue = q :: rest := by
  cases hq : s.host.queue with
  | nil => simp [State.changing, State.queueHead, hq] at h
  | cons q rest => exact ⟨q, rest, rfl⟩

/-- A command that waits for an object is marked so in the device queue; nothing else changes. -/
theorem State.awaitObject_cons {s : State} {q : Queued} {rest : List Queued} (h : s.host.queue = q :: rest) (arg : Nat) :
    s.awaitObject arg = { s with host.queue := { q with waiting := true, waitBeat := 0, arg := arg } :: rest } := by
  rw [State.awaitObject, h]

/-- A command that waits for a beat is marked so in the device queue, and its mailbox shows that it does. -/
theorem State.await_cons {s : State} {q : Queued} {rest : List Queued} (h : s.host.queue = q :: rest) (p m beat arg : Nat) :
    (s.await p m beat arg).host.queue = { q with waiting := true, waitBeat := beat, arg := arg } :: rest ∧
      (s.await p m beat arg).box p m = { s.box p m with progress := 128 } ∧ OnlyChanges [.host] s (s.await p m beat arg) := by
  have hawait : s.await p m beat arg = { s.setProgress p m 128 with
      host.queue := { q with waiting := true, waitBeat := beat, arg := arg } :: rest } := by
    rw [State.await]
    dsimp only
    rw [show (s.setProgress p m 128).host.queue = q :: rest from h]
  rw [hawait]
  exact ⟨rfl, s.box_setBox_self p m _, by simp [onlyChanges_iff]⟩

/-! ## SPARE_TAKEOVER (15 R395, 19 R476) -/

section Commands

variable {p : Fin 2} {m : Fin 16} {s : State} {c : Command} (hbody : c.bodyOk = true)
include hbody

/-- The takeover that SPARE_TAKEOVER begins. -/
def State.takeoverOf (s : State) (c : Command) : Takeover :=
  { ident := c.field 0 2, effective := c.field 8 8, port := wiredLink s.fab.fold (c.field 0 2), echoBeat := s.time.beat, entry := none }

theorem exec_spareTakeover (hc : s.changing p.val m.val 0x41 = some c) (henlisted : s.dev.enlisted = true)
    (hbare : s.bareSpare = true) (hserves : s.servable (c.field 0 2) = true) (hbeat : c.accepted + 2048 ≤ c.field 8 8)
    (hroom : s.remapFull = false) : exec (.spareTakeover p m) s = .next
      ((({ s with fab.takeover := some (s.takeoverOf c) } : State).sendMgmt (s.takeoverOf c).port 1 [c.field 0 2]
        (.echo (s.takeoverOf c).port (c.field 0 2))).await p.val m.val (c.field 8 8) 0) := by
  change execSpareTakeover p m s = _
  rw [execSpareTakeover, State.runChanging_of_body hc hbody]
  simp only [henlisted, hbare, hserves, hroom, decide_eq_false (Nat.not_lt.mpr hbeat), Bool.and_self, Bool.not_true, Bool.or_self,
    Bool.false_eq_true, if_false]
  rfl

theorem spareTakeover_echoes (hc : s.changing p.val m.val 0x41 = some c) (henlisted : s.dev.enlisted = true)
    (hbare : s.bareSpare = true) (hserves : s.servable (c.field 0 2) = true) (hbeat : c.accepted + 2048 ≤ c.field 8 8)
    (hroom : s.remapFull = false) :
    let l := wiredLink s.fab.fold (c.field 0 2)
    ∃ t q rest, exec (.spareTakeover p m) s = .next t ∧
      PortsOnly [l] { s with fab.takeover := t.fab.takeover } t ∧ t.fab.takeover = some
        { ident := c.field 0 2, effective := c.field 8 8, port := l, echoBeat := s.time.beat, entry := none } ∧
      Hands s t l (.echo l (c.field 0 2)) [cardFlit 7 7 (s.linkDst l) (mgmtPayload 1 [c.field 0 2])] ∧
      s.host.queue = q :: rest ∧ t.host.queue = { q with waiting := true, waitBeat := c.field 8 8, arg := 0 } :: rest ∧
      (t.box p.val m.val).queue = (s.box p.val m.val).queue ∧ (t.box p.val m.val).progress = 128 ∧
      CountersKept [LinkCnt.flitsTx (l % 8)] s t ∧ OnlyChanges [.host, .fab, .out, .cnt] s t := by
  intro l
  obtain ⟨q, rest, hqueue⟩ := State.hostQueue_of_changing hc
  let r : State := { s with fab.takeover := some (s.takeoverOf c) }
  let sentEcho := r.sendMgmt l 1 [c.field 0 2] (.echo l (c.field 0 2))
  obtain ⟨hwaits, hbox, honly⟩ := State.await_cons (s := sentEcho) (q := q) (rest := rest) (by simpa [sentEcho] using hqueue)
    p.val m.val (c.field 8 8) 0
  have hexec : exec (.spareTakeover p m) s = .next (sentEcho.await p.val m.val (c.field 8 8) 0) :=
    exec_spareTakeover hbody hc henlisted hbare hserves hbeat hroom
  generalize sentEcho.await p.val m.val (c.field 8 8) 0 = t at hwaits hbox honly hexec
  have hfab := honly .fab (by simp)
  have hout := honly .out (by simp)
  have hsent := r.sendMgmt_countersKept l 1 [c.field 0 2] (.echo l (c.field 0 2))
  have hports : PortsOnly [l] r t := (r.sendMgmt_portsOnly l 1 _ _).of_fab rfl hfab
  have htakeover : t.fab.takeover = some (s.takeoverOf c) := (congrArg Fabric.takeover hports.1 :)
  have hbegun : ({ s with fab.takeover := t.fab.takeover } : State) = r := by rw [htakeover]
  have hmail : sentEcho.box p.val m.val = s.box p.val m.val := State.box_congr (by simp [sentEcho, r]) _ _
  have htaken : OnlyChanges [.fab] s r := by simp [onlyChanges_iff, r]
  exact ⟨t, q, rest, hexec, by rw [hbegun]; exact hports, htakeover, (r.sendMgmt_hands l 1 _ _).of_fab rfl hfab rfl hout, hqueue,
    hwaits, by rw [hbox, hmail], by rw [hbox], hsent.trans (countersKept_of_cnt (honly .cnt (by simp)) _),
    (htaken.trans (r.sendMgmt_onlyChanges l 1 _ _) (n := [.fab, .out, .cnt]) (by simp) (by simp)).trans honly (by simp) (by simp)⟩

/-! ## FENCE_CORE (02 R34, 19 R477) -/

theorem exec_fenceCore (hc : s.changing p.val m.val 0x42 = some c) : exec (.fenceCore p m) s = .next
    (match (mapIndex (c.field 0 1) (c.field 1 1)).map s.physOf with
    | some pos =>
      if 240 ≤ pos then s.reject p.val m.val stBadArg 0
      else if Tab.get false s.geo.fence pos then s.makeRecord p.val m.val stOk pos []
      else (s.fenceCore (fromMailbox p.val m.val) (c.field 0 1) (c.field 1 1) pos).awaitObject pos
    | none => s.reject p.val m.val stBadArg 0) := by
  change execFenceCore p m s = _
  rw [execFenceCore, State.runChanging_of_body hc hbody]
  rfl

theorem fenceCore_fences (hset : s.settled p.val m.val) (hc : s.changing p.val m.val 0x42 = some c) :
    ∃ t, exec (.fenceCore p m) s = .next t ∧
      match mapIndex (c.field 0 1) (c.field 1 1) with
      | none => Answers s t p.val m.val 3 0 [] ∧ t.geo = s.geo
      | some i =>
        (240 ≤ s.physOf i → Answers s t p.val m.val 3 0 [] ∧ t.geo = s.geo) ∧
        (s.physOf i < 240 → Tab.get false s.geo.fence (s.physOf i) = true →
          Answers s t p.val m.val 0 (s.physOf i) [] ∧ OnlyChanges [.host] s t) ∧
        (s.physOf i < 240 → Tab.get false s.geo.fence (s.physOf i) = false →
          (∀ x, Tab.get false t.geo.fence x = (decide (x ∈ sitePositions (s.physOf i)) || Tab.get false s.geo.fence x)) ∧
          t.geo.fences = s.geo.fences ++ [{ pos := s.physOf i, beat := s.time.beat }] ∧ t.geo.fenced = s.geo.fenced ∧
          (∃ q rest, s.host.queue = q :: rest ∧
            t.host.queue = { q with waiting := true, waitBeat := 0, arg := s.physOf i } :: rest) ∧
          t.dev = s.dev ∧ t.host.steward = s.host.steward ∧ t.fab = s.fab ∧ t.time = s.time ∧ t.pwr = s.pwr) := by
  obtain ⟨hrejects, honly, -⟩ := State.reject_answers hc hset stBadArg
  have hbad : Answers s (s.reject p.val m.val stBadArg 0) p.val m.val 3 0 [] ∧ (s.reject p.val m.val stBadArg 0).geo = s.geo :=
    ⟨hrejects, honly .geo (by simp)⟩
  refine ⟨_, exec_fenceCore hbody hc, ?_⟩
  cases mapIndex (c.field 0 1) (c.field 1 1) with
  | none => exact hbad
  | some i =>
    dsimp only [Option.map_some]
    by_cases hpos : 240 ≤ s.physOf i
    · rw [if_pos hpos]
      exact ⟨fun _ => hbad, fun h => absurd h (by omega), fun h => absurd h (by omega)⟩
    · rw [if_neg hpos]
      refine ⟨fun h => absurd h hpos, fun _ hclosed => ?_, fun _ hopen => ?_⟩
      · obtain ⟨rest, hq⟩ := State.queue_of_changing hc
        rw [hclosed, if_pos rfl]
        exact ⟨State.makeRecord_answers hq hset _ _ _, State.makeRecord_onlyChanges _ _ _ _ _ _⟩
      · obtain ⟨q, rest, hqueue⟩ := State.hostQueue_of_changing hc
        obtain ⟨hfence, hfences, hfenced⟩ :=
          s.geo_fenceCore (fromMailbox p.val m.val) (c.field 0 1) (c.field 1 1) (s.physOf i)
        have hhost := (s.fenceCore_frame (fromMailbox p.val m.val) (c.field 0 1) (c.field 1 1) (s.physOf i)).2.2.2.2.2.2.2.2
        rw [hopen, if_neg Bool.false_ne_true, State.awaitObject_cons (by rw [hhost, hqueue])]
        exact ⟨hfence, hfences, hfenced, ⟨q, rest, hqueue, rfl⟩, by simp, by simp, by simp, by simp, by simp⟩

end Commands

/-- Settles O16: SPARE_TAKEOVER is a message and then a wait; a fence sets FENCE of its positions alone, whatever it stops. -/
theorem takeoverAndFenceCommands : Obligations.TakeoverAndFenceCommands := by
  unfold Obligations.TakeoverAndFenceCommands
  exact ⟨fun p m s c hbody hc henlisted hbare hserves hbeat hroom =>
      spareTakeover_echoes hbody hc henlisted hbare hserves hbeat hroom,
    fun p m s c hset hbody hc => fenceCore_fences hbody hset hc⟩

end Sys2Proof.Machine
end

section
/-! PROOFS. Links that train, hear from their peer, retrain and fail (15 R365, R366, R370, R376). -/

namespace Sys2Proof.Machine

/-! ## A link trained (15 R366, R376) -/

/-- The port of a link that has reached a width: one that retrained keeps its replay buffer and its counts, a fresh one starts anew. -/
def State.trainedPort (s : State) (l width : Nat) : Port :=
  let up : Port := { s.port l with
    state := 2, width := width, degraded := s.dueWide l && decide (width ≠ 3), split := s.isSplit }
  if (s.port l).state = 3 then up else { up with unacked := [], txCount := 0, rxCount := 0, used := [], freed := [], sinceControl := 0 }

/-- The link trained, before anything leaves it: its delay is to be measured, and a torus port at ×8 is logged. -/
def State.trained (s : State) (l width : Nat) : State :=
  let r : State := { s.setPort l (s.trainedPort l width) with time.delaySent := Tab.set 0 s.time.delaySent l 0 }
  if s.dueWide l && decide (width ≠ 3) && s.isTorusPort l then r.log (fromHardware l) 0x0080 l 0 l else r

theorem State.trainedPort_up (s : State) (l width : Nat) : let q := s.trainedPort l width
    q.state = 2 ∧ q.width = width ∧ q.split = s.isSplit ∧ q.degraded = (s.dueWide l && decide (width ≠ 3)) ∧
      q.unacked = (if (s.port l).state = 3 then (s.port l).unacked else []) ∧
      ((s.port l).state ≠ 3 → q.rxCount = 0 ∧ q.txCount = 0) := by
  unfold State.trainedPort
  dsimp only
  split
  next hre => exact ⟨rfl, rfl, rfl, rfl, rfl, fun h => absurd hre h⟩
  next => exact ⟨rfl, rfl, rfl, rfl, rfl, fun _ => ⟨rfl, rfl⟩⟩

/-- All that training changes but the log. -/
theorem State.trained_fields (s : State) (l width : Nat) : let r := s.trained l width
    r.fab = (s.setPort l (s.trainedPort l width)).fab ∧ r.out = s.out ∧
      r.time = { s.time with delaySent := Tab.set 0 s.time.delaySent l 0 } ∧ r.cnt = s.cnt ∧
      OnlyChanges [.fab, .trust, .time] s r := by
  unfold State.trained
  dsimp only
  split
  · exact ⟨by simp, by simp, by simp, by simp, by simp [onlyChanges_iff]⟩
  · exact ⟨rfl, rfl, rfl, rfl, by simp [onlyChanges_iff]⟩

theorem State.trained_trust (s : State) (l width : Nat) :
    if s.dueWide l = true ∧ width ≠ 3 ∧ s.isTorusPort l = true then LogsOne s (s.trained l width) (3, 0) 0x0080 l
    else (s.trained l width).trust = s.trust := by
  have hdec : (s.dueWide l && decide (width ≠ 3) && s.isTorusPort l) =
      decide (s.dueWide l = true ∧ width ≠ 3 ∧ s.isTorusPort l = true) := by simp [Bool.and_assoc]
  unfold State.trained
  rw [hdec]
  by_cases hlog : s.dueWide l = true ∧ width ≠ 3 ∧ s.isTorusPort l = true
  · rw [if_pos hlog, decide_eq_true hlog]
    have hlogged := State.log_logsOne
      { s.setPort l (s.trainedPort l width) with time.delaySent := Tab.set 0 s.time.delaySent l 0 } (fromHardware l) 0x0080 l 0 l
    exact hlogged.congr (s' := s) rfl rfl rfl
  · rw [if_neg hlog, decide_eq_false hlog]
    rfl

theorem State.setOut_onlyChanges (s : State) (out : List OutEvent) : OnlyChanges [.out] s { s with out := out } := by
  simp [onlyChanges_iff]

/-- What a link sends as it comes up: its replay buffer, its identity, then the flits that waited. -/
theorem State.replay_sendIdentity_leaves (s : State) (l : Nat) : ∃ sent,
    Leaves { s with out := s.out ++ (s.port l).unacked.map (OutEvent.flit l) ++ [.identity l s.fab.modId s.fab.role s.fab.fold] }
      (((s.replay l).sendIdentity l).drain l) l sent := by
  have hreplay : s.replay l = { s with out := s.out ++ (s.port l).unacked.map (OutEvent.flit l) } := by
    rw [← foldl_emit, List.foldl_map]
    rfl
  rw [hreplay]
  obtain ⟨named, hnamed⟩ := State.sendMgmt_leaves { s with out := s.out ++ (s.port l).unacked.map (OutEvent.flit l) } l 0
    [s.fab.modId, s.fab.role, s.fab.fold, l % 8] (.identity l s.fab.modId s.fab.role s.fab.fold)
  obtain ⟨drained, hdrained⟩ := State.drain_leaves _ l
  exact ⟨_, hnamed.trans hdrained⟩

section Train

variable {s : State} {p : Fin 8} {width : Fin 4} {second : Bool} {l : Nat} (hlink : l = linkOf p second)
  (hon : s.dev.state ≠ .cold) (htrain : s.inTraining l = true) (hwidth : s.widthOk l width.val = true)
include hlink hon htrain hwidth

theorem exec_linkTrainDone : exec (.linkTrainDone p width second) s =
    .next ((((s.trained l width.val).replay l).sendIdentity l).drain l) := by
  subst hlink
  change execLinkTrainDone _ _ _ _ = _
  rw [execLinkTrainDone]
  simp only [hon, htrain, hwidth, decide_false, Bool.not_true, Bool.or_self, Bool.false_eq_true, if_false]
  rfl

/-- LINK_TRAIN_DONE. -/
theorem linkTrainDone_comes_up : let q := s.port l
    ∃ (t : State) (sent : List Flit), exec (.linkTrainDone p width second) s = .next t ∧
      (t.port l).state = 2 ∧ (t.port l).width = width.val ∧ (t.port l).split = s.isSplit ∧
      (t.port l).degraded = (s.dueWide l && decide (width.val ≠ 3)) ∧
      (t.port l).unacked = (if q.state = 3 then q.unacked else []) ++ sent ∧
      (q.state ≠ 3 → (t.port l).rxCount = 0 ∧ (t.port l).txCount = sent.length % 2 ^ 16) ∧
      t.out = s.out ++ (if q.state = 3 then q.unacked.map (OutEvent.flit l) else []) ++
        .identity l s.fab.modId s.fab.role s.fab.fold :: sent.map (OutEvent.flit l) ∧
      (if s.dueWide l = true ∧ width.val ≠ 3 ∧ s.isTorusPort l = true then LogsOne s t (3, 0) 0x0080 l
       else t.trust = s.trust) ∧
      t.time = { s.time with delaySent := t.time.delaySent } ∧ Tab.get 0 t.time.delaySent l = 0 ∧
      CountersKept [LinkCnt.flitsTx (l % 8)] s t ∧ PortsOnly [l] s t ∧ OnlyChanges [.fab, .trust, .out, .time, .cnt] s t := by
  intro q
  let r := s.trained l width.val
  obtain ⟨hstate, hwide, hsplit, hdegraded, hunacked, hfresh⟩ := s.trainedPort_up l width.val
  obtain ⟨hfab, hout, htime, hcnt, honly⟩ := s.trained_fields l width.val
  have hport : r.port l = s.trainedPort l width.val := by rw [State.port_of_fab hfab, State.port_setPort_self]
  have hlog := s.trained_trust l width.val
  have hexec := exec_linkTrainDone hlink hon htrain hwidth
  obtain ⟨sent, hsent⟩ := r.replay_sendIdentity_leaves l
  generalize ((r.replay l).sendIdentity l).drain l = t at hexec hsent
  have hkept {α : Type} (g : Port → α) (hg : ∀ (q : Port) w n u a c x,
      g { q with waiting := w, turn := n, txCount := u, used := a, unacked := c, sinceControl := x } = g q) :
      g (t.port l) = g (s.trainedPort l width.val) := (hsent.port_field g hg).trans (congrArg g hport)
  have htrust : t.trust = r.trust := hsent.only .trust (by simp)
  have htimes : t.time = _ := Eq.trans (hsent.only .time (by simp)) htime
  refine ⟨t, sent, hexec, ?_, ?_, ?_, ?_, ?_, fun hnew => ⟨?_, ?_⟩, ?_, ?_, by rw [htimes], ?_,
    (countersKept_of_cnt hcnt _).trans hsent.counters,
    ((portsOnly_setPort s l (s.trainedPort l width.val)).of_fab rfl hfab).trans hsent.ports, ?_⟩
  · rw [hkept Port.state fun _ _ _ _ _ _ _ => rfl, hstate]
  · rw [hkept Port.width fun _ _ _ _ _ _ _ => rfl, hwide]
  · rw [hkept Port.split fun _ _ _ _ _ _ _ => rfl, hsplit]
  · rw [hkept Port.degraded fun _ _ _ _ _ _ _ => rfl, hdegraded]
  · rw [hsent.unacked, ← hunacked, ← hport]
    rfl
  · rw [hkept Port.rxCount fun _ _ _ _ _ _ _ => rfl, (hfresh hnew).1]
  · have htx := hsent.tx 0 ((congrArg Port.txCount hport).trans (hfresh hnew).2)
    rwa [Nat.zero_add] at htx
  · have hreplayed : (r.port l).unacked.map (OutEvent.flit l) =
        if q.state = 3 then q.unacked.map (OutEvent.flit l) else [] := by
      rw [hport, hunacked]
      split <;> rfl
    rw [hsent.out, ← hreplayed, ← hout, List.append_assoc _ [_], hfab]
    rfl
  · split at hlog
    next h => rw [if_pos h]; exact hlog.congr rfl rfl htrust
    next h => rw [if_neg h]; exact htrust.trans hlog
  · rw [htimes]
    exact Tab.get_set_self _ _ _ _
  · exact (honly.trans (r.setOut_onlyChanges _) (n := [.fab, .trust, .time, .out]) (by simp) (by simp)).trans hsent.only
      (by simp) (by simp)

end Train

/-! ## Who the peer is (15 R364, R376) -/

section Peer

variable {port : Fin 16} {peerPort : Fin 8} {modId role fold : Nat} {s : State}

/-- The port once its peer has said who it is. -/
def State.identifiedPort (s : State) (p modId role fold peerPort : Nat) : Port :=
  { s.port p with
    state := if (s.expectedPeers p).contains (role, if role = 0 then modId else fold, peerPort) then 2 else 5
    peer := peerAddr modId role fold, peerPort := peerPort }

theorem exec_peerIdentityRx (hmod : modId < 2 ^ 12) (hrole : role < 2) (hfold : fold < 2 ^ 9)
    (hup : (s.port port.val).state = 2 ∨ (s.port port.val).state = 5) : exec (.peerIdentityRx port modId role fold peerPort) s =
      .next ((s.setPort port.val (s.identifiedPort port.val modId role fold peerPort.val)).drain port.val) := by
  change execPeerIdentityRx _ _ _ _ _ _ = _
  rw [execPeerIdentityRx, checked_of_wellFormed (by
    simp [wellFormed, fits_of_lt hmod, fits_of_lt (w := 1) hrole, fits_of_lt hfold])]
  exact if_pos (by simpa using hup)

/-- PEER_IDENTITY_RX. -/
theorem peerIdentityRx_compares (hmod : modId < 2 ^ 12) (hrole : role < 2) (hfold : fold < 2 ^ 9)
    (hup : (s.port port.val).state = 2 ∨ (s.port port.val).state = 5) : let q := s.port port.val
    ∃ (t : State) (sent : List Flit), exec (.peerIdentityRx port modId role fold peerPort) s = .next t ∧
      (t.port port.val).state =
        (if (role, if role = 0 then modId else fold, peerPort.val) ∈ s.expectedPeers port.val then 2 else 5) ∧
      (t.port port.val).peer = (if role = 0 ∨ modId ≠ 0xFFF then modId else 0x1000 + fold) ∧
      (t.port port.val).peerPort = peerPort.val ∧ (t.port port.val).width = q.width ∧
      (t.port port.val).unacked = q.unacked ++ sent ∧ t.out = s.out ++ sent.map (OutEvent.flit port.val) ∧
      CountersKept [LinkCnt.flitsTx (port.val % 8)] s t ∧ PortsOnly [port.val] s t ∧ OnlyChanges [.fab, .cnt, .out] s t := by
  intro q
  let r := s.setPort port.val (s.identifiedPort port.val modId role fold peerPort.val)
  have hport : r.port port.val = s.identifiedPort port.val modId role fold peerPort.val := State.port_setPort_self _ _ _
  obtain ⟨sent, hsent⟩ := r.drain_leaves port.val
  refine ⟨_, sent, exec_peerIdentityRx hmod hrole hfold hup, ?_, ?_, ?_, ?_, ?_, hsent.out, hsent.counters,
    (portsOnly_setPort s _ _).trans hsent.ports, (s.setPort_onlyChanges _ _).trans hsent.only (by simp) (by simp)⟩
  · rw [hsent.port_field Port.state fun _ _ _ _ _ _ _ => rfl, hport, State.identifiedPort]
    simp only [List.contains_iff_mem]
  · rw [hsent.port_field Port.peer fun _ _ _ _ _ _ _ => rfl, hport, State.identifiedPort, peerAddr]
    simp only [Bool.or_eq_true, decide_eq_true_eq]
  · rw [hsent.port_field Port.peerPort fun _ _ _ _ _ _ _ => rfl, hport, State.identifiedPort]
  · rw [hsent.port_field Port.width fun _ _ _ _ _ _ _ => rfl, hport, State.identifiedPort]
  · rw [hsent.unacked, hport, State.identifiedPort]

end Peer

/-! ## Retrains and failures (15 R370) -/

section Retrain

variable {port : Fin 16} {s : State}

theorem exec_portRetrain (hup : (s.port port.val).state = 2 ∨ (s.port port.val).state = 5) :
    exec (.portRetrain port) s = .next (s.retrain port.val) := by
  change execPortRetrain _ _ = _
  rw [execPortRetrain]
  exact if_pos (by simpa [State.carries, Port.carries] using hup)

/-- PORT_RETRAIN. -/
theorem portRetrain_retrains (hup : (s.port port.val).state = 2 ∨ (s.port port.val).state = 5) : let q := s.port port.val
    ∃ t, exec (.portRetrain port) s = .next t ∧
      t.port port.val = { q with state := 3, retrainBeat := s.time.beat, nakTimes := 0, retrains := (t.port port.val).retrains } ∧
      (t.port port.val).retrains = (q.retrains.filter (fun b => decide (s.time.beat < b + 1000000))) ++ [s.time.beat] ∧
      t.cntGet (LinkCnt.retrains (port.val % 8)) = min (s.cntGet (LinkCnt.retrains (port.val % 8)) + 1) 0xFFFFFFFF ∧
      CountersKept [LinkCnt.retrains (port.val % 8)] s t ∧ PortsOnly [port.val] s t ∧ OnlyChanges [.fab, .cnt] s t := by
  have hport := s.port_retrain_self port.val
  exact ⟨_, exec_portRetrain hup, by rw [hport], by rw [hport],
    State.cntGet_bump_narrow _ (cntWide_retrains _) 1, s.retrain_countersKept _, s.retrain_portsOnly _, by simp [onlyChanges_iff]⟩

/-- A link failed: a spare without an identity whose parent's link it is has no parent any more (11 R266). -/
def State.failedLink (s : State) (p : Nat) : State :=
  { s.setPort p { s.port p with state := 4 } with time.parent := if s.bareSpare && decide (s.time.parent = p) then 8 else s.time.parent }

theorem exec_portFailed (hre : (s.port port.val).state = 3)
    (hlimit : (s.port port.val).retrainBeat + 10000 ≤ s.time.beat ∨ 6 ≤ (s.port port.val).retrains.length) :
    exec (.portFailed port) s = .next ((s.failedLink port.val).raiseCause 0x08 (port.val % 8)) := by
  change execPortFailed _ _ = _
  rw [execPortFailed]
  refine (if_pos (by simpa [hre] using hlimit)).trans ?_
  rw [State.failedLink]
  cases s.bareSpare && decide (s.time.parent = port.val) <;> rfl

theorem State.raiseCause_detail (s : State) (cause detail : Nat) :
    (s.flt.cause = 0 → (s.raiseCause cause detail).flt.detail = detail % 2 ^ 16) ∧
      (s.flt.cause ≠ 0 → (s.raiseCause cause detail).flt.cause = s.flt.cause ∧
        (s.raiseCause cause detail).flt.detail = s.flt.detail) := by
  unfold State.raiseCause
  dsimp only
  simp only [State.log_frame]
  refine ⟨fun h => ?_, fun h => ?_⟩
  · rw [if_pos h]
  · rw [if_neg h]
    exact ⟨rfl, rfl⟩

/-- PORT_FAILED. -/
theorem portFailed_faults (hre : (s.port port.val).state = 3)
    (hlimit : (s.port port.val).retrainBeat + 10000 ≤ s.time.beat ∨ 6 ≤ (s.port port.val).retrains.length) :
    ∃ t, exec (.portFailed port) s = .next t ∧
      t.port port.val = { s.port port.val with state := 4 } ∧ t.flt.pendingEntry = true ∧
      (s.flt.cause = 0 → t.flt.cause = 8 ∧ t.flt.detail = port.val % 8) ∧
      (s.flt.cause ≠ 0 → t.flt.cause = s.flt.cause ∧ t.flt.detail = s.flt.detail) ∧
      t.time = { s.time with parent := if s.bareSpare = true ∧ s.time.parent = port.val then 8 else s.time.parent } ∧
      PortsOnly [port.val] s t ∧ OnlyChanges [.fab, .flt, .trust, .cnt, .time] s t := by
  let r := s.failedLink port.val
  have honly := r.raiseCause_onlyChanges 0x08 (port.val % 8)
  have hfab := honly .fab (by simp)
  obtain ⟨hentry, hcause⟩ := r.raiseCause_raises 0x08 (port.val % 8)
  obtain ⟨hdetail, hlatched⟩ := r.raiseCause_detail 0x08 (port.val % 8)
  have hset : OnlyChanges [.fab, .time] s r := by simp [onlyChanges_iff, r, State.failedLink]
  refine ⟨_, exec_portFailed hre hlimit, ?_, hentry, fun h => ⟨hcause h, ?_⟩, hlatched, ?_,
    (portsOnly_setPort s port.val { s.port port.val with state := 4 }).of_fab rfl hfab, hset.trans honly (by simp) (by simp)⟩
  · exact (State.port_of_fab hfab _).trans (s.port_setPort_self _ _)
  · exact (hdetail h).trans (by omega)
  · refine Eq.trans (honly .time (by simp)) ?_
    simp only [r, State.failedLink, Bool.and_eq_true, decide_eq_true_eq]
    rfl

end Retrain

/-- Settles O29: one command at a time; what a link sends when it comes up is its replay buffer, its identity and then what waited. -/
theorem portsTrainAndFail : Obligations.PortsTrainAndFail := by
  unfold Obligations.PortsTrainAndFail
  exact fun port peerPort width modId role fold s => ⟨fun p second hlink hon htrain hwidth =>
      linkTrainDone_comes_up hlink hon htrain hwidth,
    fun hmod hrole hfold hup => peerIdentityRx_compares hmod hrole hfold hup, portRetrain_retrains, portFailed_faults⟩

end Sys2Proof.Machine
end

section
/-! PROOFS. What routes and the time tree are a function of (15 R380, 11 R266): the link unit's identity, configuration and remap table. -/

namespace Sys2Proof.Machine

/-- The link unit without its ports and without what waits in it: the part of it that routes are a function of. -/
def Fabric.map (f : Fabric) : Fabric := { f with ports := [], pendingRemap := [], takeover := none, unacked := [] }

theorem Fabric.map_of_ports {f g : Fabric} (h : { g with ports := f.ports } = f) : g.map = f.map :=
  (congrArg Fabric.map h :)

section Map

variable {s t : State} (hmap : t.fab.map = s.fab.map)
include hmap

theorem State.legs_of_map (src fuel at_ goal last cls : Nat) :
    t.legs src fuel at_ goal last cls = s.legs src fuel at_ goal last cls := by
  have hring (d : Nat) : t.ringOf d = s.ringOf d := (congrArg (fun f => State.ringOf { s with fab := f } d) hmap :)
  have hnext (id d : Nat) (plus : Bool) : t.neighbour id d plus = s.neighbour id d plus :=
    (congrArg (fun f => State.neighbour { s with fab := f } id d plus) hmap :)
  have hhole (id : Nat) : t.isHole id = s.isHole id := (congrArg (fun f => State.isHole { s with fab := f } id) hmap :)
  have hdetour (d : Nat) : t.detourDim d = s.detourDim d := (congrArg (fun f => State.detourDim { s with fab := f } d) hmap :)
  have hport (a b d : Nat) (plus : Bool) : t.hopPort a b d plus = s.hopPort a b d plus :=
    (congrArg (fun f => State.hopPort { s with fab := f } a b d plus) hmap :)
  induction fuel generalizing at_ last cls with
  | zero => rfl
  | succ fuel ih => simp only [State.legs, hring, hnext, hhole, hdetour, hport, ih]

theorem State.path_of_map (src dst : Nat) : t.path src dst = s.path src dst := by
  have hentry : t.entryOf src dst = s.entryOf src dst := (congrArg (fun f => State.entryOf { s with fab := f } src dst) hmap :)
  have hexit (at_ : Nat) : t.exitOf dst at_ = s.exitOf dst at_ := (congrArg (fun f => State.exitOf { s with fab := f } dst at_) hmap :)
  simp only [State.path, hentry, hexit, State.legs_of_map hmap]

theorem State.fabricAddr_of_map : t.fabricAddr = s.fabricAddr := (congrArg (fun f => State.fabricAddr { s with fab := f }) hmap :)

theorem State.ownId_of_map : t.ownId = s.ownId := (congrArg (fun f => State.ownId { s with fab := f }) hmap :)

theorem State.remapOf_of_map (id : Nat) : t.remapOf id = s.remapOf id := (congrArg (fun f => State.remapOf { s with fab := f } id) hmap :)

theorem State.onward_of_map (p n : Nat) : t.onward p n = s.onward p n := (congrArg (fun f => State.onward { s with fab := f } p n) hmap :)

theorem State.bareSpare_of_map : t.bareSpare = s.bareSpare := (congrArg (fun f => State.bareSpare { s with fab := f }) hmap :)

theorem State.role_of_map : t.fab.role = s.fab.role := (congrArg Fabric.role hmap :)

theorem State.ringExit_of_map (src p next : Nat) : t.ringExit src p next = s.ringExit src p next := by
  have hhole : t.isHole next = s.isHole next := (congrArg (fun f => State.isHole { s with fab := f } next) hmap :)
  have hclass : t.ringClass src p next = s.ringClass src p next :=
    (congrArg (fun f => State.ringClass { s with fab := f } src p next) hmap :)
  simp only [State.ringExit, State.role_of_map hmap, hhole, hclass, State.path_of_map hmap, State.fabricAddr_of_map hmap]

theorem State.arrival_of_map (src : Nat) : t.arrival src = s.arrival src := by
  have hfold : t.fab.fold = s.fab.fold := (congrArg Fabric.fold hmap :)
  have hmod : t.fab.modId = s.fab.modId := (congrArg Fabric.modId hmap :)
  simp only [State.arrival, State.path_of_map hmap, State.fabricAddr_of_map hmap, State.role_of_map hmap, hfold, hmod]

/-- The links of the time tree are the same where the tree's Rooster is the same and so are the states of the links. -/
theorem State.treeLinks_of_map (htime : t.time = s.time) (hlinks : ∀ p, (t.port p).state = (s.port p).state) :
    t.treeLinks = s.treeLinks := by
  have hrings : t.treeRings = s.treeRings :=
    (congrArg₂ (fun f tm => State.treeRings { s with fab := f, time := tm }) hmap htime :)
  have hspare (f : Nat) : t.spareAddr f = s.spareAddr f := (congrArg (fun g => State.spareAddr { s with fab := g } f) hmap :)
  have hmod : t.fab.modId = s.fab.modId := (congrArg Fabric.modId hmap :)
  have hsends : t.treeSends = s.treeSends := by
    simp only [State.treeSends, State.bareSpare_of_map hmap, hrings, State.ringExit_of_map hmap, State.fabricAddr_of_map hmap,
      State.onward_of_map hmap, State.role_of_map hmap, hspare, hmod]
  have hup (p : Nat) : t.portUp p = s.portUp p := by simp only [State.portUp, hlinks]
  have hdown (p : Nat) : t.linkDown p = s.linkDown p := by simp only [State.linkDown, hlinks]
  have hparent (me r : Nat) : t.treeParent me r = s.treeParent me r :=
    (congrArg (fun f => State.treeParent { s with fab := f } me r) hmap :)
  have hport (r : Nat) : t.parentPort r = s.parentPort r := by
    simp only [State.parentPort, State.bareSpare_of_map hmap, htime, hdown, State.lowestUp, hup, hparent, State.ownId_of_map hmap,
      State.onward_of_map hmap, State.role_of_map hmap, State.remapOf_of_map hmap, State.arrival_of_map hmap]
  simp only [State.treeLinks, hsends, hport, hup, htime]

end Map

end Sys2Proof.Machine
end

section
/-! PROOFS. The takeover by a spare (15 R395 to R398): the ECHO and its answer, the entry on its way along the time tree, the adoption. -/

namespace Sys2Proof.Machine

/-! ## A remap entry goes along the tree (15 R395, R397) -/

/-- `t` is `s` after `e` has left over every link of `l`: the outbox says so, and the flits are those that left. -/
structure Spreads (s t : State) (e : RemapEntry) (l : List Nat) : Prop where
  out : ∃ new, t.out = s.out ++ new ∧ (∀ p ∈ l, OutEvent.remapEntry p e ∈ new) ∧
    ∀ x ∈ new, (∃ p ∈ l, x = .remapEntry p e) ∨ ∃ p f, x = .flit p f
  fab : { t.fab with ports := s.fab.ports } = s.fab
  only : OnlyChanges [.fab, .out, .cnt] s t

theorem State.foldl_remapEntry (e : RemapEntry) (l : List Nat) (s : State) :
    Spreads s (l.foldl (fun s p => s.sendMgmt p 4 [remapBits e] (.remapEntry p e)) s) e l := by
  induction l generalizing s with
  | nil => exact ⟨⟨[], by simp⟩, rfl, .refl _ s⟩
  | cons p l ih =>
    obtain ⟨sent, hsent⟩ := s.sendMgmt_out p 4 [remapBits e] (.remapEntry p e)
    have hfab := (s.sendMgmt_portsOnly p 4 [remapBits e] (.remapEntry p e)).1
    have honly := s.sendMgmt_onlyChanges p 4 [remapBits e] (.remapEntry p e)
    obtain ⟨⟨new, hout, hall, hnew⟩, hfab', honly'⟩ := ih (s.sendMgmt p 4 [remapBits e] (.remapEntry p e))
    refine ⟨⟨.remapEntry p e :: sent.map (OutEvent.flit p) ++ new, ?_, ?_, ?_⟩, ?_, honly.trans honly' (by simp) (by simp)⟩
    · rw [List.foldl_cons, hout, hsent, List.append_assoc]
    · simp only [List.mem_cons, List.cons_append, List.mem_append]
      rintro q (rfl | hq)
      · exact .inl rfl
      · exact .inr (.inr (hall q hq))
    · simp only [List.cons_append, List.mem_cons, List.mem_append, List.mem_map]
      rintro x (rfl | ⟨f, -, rfl⟩ | hx)
      · exact .inl ⟨p, .inl rfl, rfl⟩
      · exact .inr ⟨p, f, rfl⟩
      · exact (hnew x hx).imp (fun ⟨q, hq, hxq⟩ => ⟨q, .inr hq, hxq⟩) id
    · exact (congrArg (fun f : Fabric => { f with ports := s.fab.ports }) hfab').trans hfab

/-- An entry known to the module waits for its beat, and leaves over the links of the tree but the one it came by. -/
theorem State.spreadEntry_spreads (s : State) (e : RemapEntry) (from_ : Nat) :
    Spreads { s with fab.pendingRemap := s.fab.pendingRemap ++ [e] } (s.spreadEntry e from_) e
      (s.treeLinks.filter (fun p => decide (p ≠ from_))) := by
  have htree : ({ s with fab.pendingRemap := s.fab.pendingRemap ++ [e] } : State).treeLinks = s.treeLinks :=
    State.treeLinks_of_map rfl rfl (fun _ => rfl)
  unfold State.spreadEntry
  dsimp only
  rw [htree]
  exact State.foldl_remapEntry e _ _

theorem State.treeLinks_lt {s : State} {p : Nat} (h : p ∈ s.treeLinks) : p < 16 := by
  unfold State.treeLinks at h
  simp only [List.mem_filter, Bool.and_eq_true, decide_eq_true_eq] at h
  exact h.2.1

/-- No link of the tree is link 16. -/
theorem State.treeLinks_filter (s : State) : s.treeLinks.filter (fun p => decide (p ≠ 16)) = s.treeLinks :=
  List.filter_eq_self.mpr fun p hp => decide_eq_true (by have := State.treeLinks_lt hp; omega)

/-- The entry of a takeover known: it is the takeover's, and goes over every link of the tree. -/
theorem State.spreadEntry_takeover {s r : State} {tko : Option Takeover} (hfab : { r.fab with ports := s.fab.ports } =
    { s.fab with takeover := tko }) (hlinks : ∀ p, (r.port p).state = (s.port p).state) (honly : OnlyChanges [.fab, .out, .cnt] s r)
    (hout : s.out <+: r.out) (e : RemapEntry) :
    let t := r.spreadEntry e 16
    { t.fab with ports := s.fab.ports } = { s.fab with takeover := tko, pendingRemap := s.fab.pendingRemap ++ [e] } ∧
      s.out <+: t.out ∧ (∀ p ∈ s.treeLinks, OutEvent.remapEntry p e ∈ t.out) ∧ OnlyChanges [.fab, .out, .cnt] s t := by
  have hmap : r.fab.map = s.fab.map := (congrArg Fabric.map hfab :)
  have htree : r.treeLinks = s.treeLinks := State.treeLinks_of_map hmap (honly .time (by simp)) hlinks
  have hpending : r.fab.pendingRemap = s.fab.pendingRemap := (congrArg Fabric.pendingRemap hfab :)
  obtain ⟨⟨new, hnew, hall, -⟩, hfab', honly'⟩ := r.spreadEntry_spreads e 16
  rw [State.treeLinks_filter, htree] at hall
  refine ⟨?_, ?_, fun p hp => ?_, ?_⟩
  · have hports := congrArg (fun f : Fabric => { f with ports := s.fab.ports }) hfab'
    refine Eq.trans hports ?_
    exact (congrArg₂ (fun (f : Fabric) l => { f with pendingRemap := l ++ [e] }) hfab hpending :)
  · rw [hnew]
    exact hout.trans (List.prefix_append _ _)
  · rw [hnew]
    exact List.mem_append_right _ (hall p hp)
  · have hadd : OnlyChanges [.fab] r { r with fab.pendingRemap := r.fab.pendingRemap ++ [e] } := by simp [onlyChanges_iff]
    exact (honly.trans hadd (n := [.fab, .out, .cnt]) (by simp) (by simp)).trans honly' (by simp) (by simp)

/-! ## The command that waits at the head of the device queue -/

/-- A takeover that ends makes the record of the command that waits, if one does. -/
def State.endWaiting (s : State) (status detail : Nat) : State :=
  match s.host.queue with
  | q :: _ => if q.waiting then s.makeRecord q.port q.mbox status detail [] else s
  | [] => s

theorem State.endWaiting_onlyChanges (s : State) (status detail : Nat) : OnlyChanges [.host] s (s.endWaiting status detail) := by
  unfold State.endWaiting
  split
  · split
    · exact State.makeRecord_onlyChanges _ _ _ _ _ _
    · exact .refl _ s
  · exact .refl _ s

theorem State.endWaiting_answers {s r : State} (hhost : r.host = s.host) (hbeat : r.time.beat = s.time.beat) (status detail : Nat) :
    ∀ q rest, s.host.queue = q :: rest → q.waiting = true → s.settled q.port q.mbox → (s.box q.port q.mbox).queue ≠ [] →
      Answers s (r.endWaiting status detail) q.port q.mbox status detail [] := by
  intro q rest hqueue hwaiting hset hbox
  obtain ⟨c, rest', hc⟩ := List.exists_cons_of_ne_nil hbox
  have hmail := State.box_congr hhost q.port q.mbox
  unfold State.endWaiting
  rw [hhost, hqueue]
  dsimp only
  rw [if_pos hwaiting]
  have hset' : r.settled q.port q.mbox := by
    unfold State.settled
    rw [hmail]
    exact hset
  exact (State.makeRecord_answers (by rw [hmail, hc]) hset' status detail []).of_host hhost hbeat

/-! ## The commands -/

section Commands

variable {port : Fin 16} {src ident : Nat} {e : RemapEntry} {ix : Fin 64} {tk : Takeover} {s : State}

theorem exec_echoRx (hsrc : src < 2 ^ 13) (hcarries : s.carries port.val 7 = true) :
    exec (.echoRx port src) s = .next (s.sendMgmt port.val 2 [src] (.echoAnswer port.val src)) := by
  change execEchoRx _ _ _ = _
  rw [execEchoRx, checked_of_wellFormed (by simp [wellFormed, fits_of_lt hsrc])]
  exact if_pos hcarries

/-- The module that an ECHO found alive: the takeover has its entry, and the old holder is told to redirect. -/
def State.answered (s : State) (tk : Takeover) : State :=
  ({ s with fab.takeover := some { tk with entry := some (s.takeoverEntry tk false) } } : State).sendMgmt tk.port 3 [tk.ident]
    (.redirectSet tk.port tk.ident)

theorem exec_echoAnswerRx (htk : s.fab.takeover = some tk) (hnone : tk.entry = none) (hbeat : s.time.beat ≤ tk.echoBeat + 100) :
    exec .echoAnswerRx s = .next ((s.answered tk).spreadEntry (s.takeoverEntry tk false) 16) := by
  change execEchoAnswerRx _ = _
  rw [execEchoAnswerRx, htk]
  exact if_pos (by simp [hnone, hbeat])

theorem State.answered_told (s : State) (tk : Takeover) : let t := s.answered tk
    { t.fab with ports := s.fab.ports } =
        { s.fab with takeover := some { tk with entry := some (s.takeoverEntry tk false) } } ∧
      (∀ p, (t.port p).state = (s.port p).state) ∧ OnlyChanges [.fab, .out, .cnt] s t ∧
      ∃ sent : List Flit, t.out = s.out ++ .redirectSet tk.port tk.ident :: sent.map (OutEvent.flit tk.port) := by
  let known : State := { s with fab.takeover := some { tk with entry := some (s.takeoverEntry tk false) } }
  have hports : PortsOnly [tk.port] known (s.answered tk) := State.sendMgmt_portsOnly _ _ _ _ _
  obtain ⟨sent, hsent⟩ := known.sendMgmt_leaves tk.port 3 [tk.ident] (.redirectSet tk.port tk.ident)
  refine ⟨hports.1, fun p => ?_, by simp [onlyChanges_iff, State.answered], known.sendMgmt_out _ _ _ _⟩
  by_cases hp : p = tk.port
  · rw [hp]
    exact hsent.port_field Port.state fun _ _ _ _ _ _ _ => rfl
  · exact congrArg Port.state (hports.2 p (by simpa using hp))

theorem echoAnswerRx_spreads (htk : s.fab.takeover = some tk) (hnone : tk.entry = none) (hbeat : s.time.beat ≤ tk.echoBeat + 100) :
    let r := s.takeoverEntry tk false
    ∃ t, exec .echoAnswerRx s = .next t ∧
      ({ t.fab with ports := s.fab.ports } =
          { s.fab with takeover := some { tk with entry := some r }, pendingRemap := s.fab.pendingRemap ++ [r] } ∧
        s.out <+: t.out ∧ (∀ p ∈ s.treeLinks, OutEvent.remapEntry p r ∈ t.out) ∧ OnlyChanges [.fab, .out, .cnt] s t) ∧
      OutEvent.redirectSet tk.port tk.ident ∈ t.out := by
  intro r
  obtain ⟨hfab, hlinks, honly, sent, hout⟩ := s.answered_told tk
  obtain ⟨hfab', hprefix, hall, honly'⟩ := State.spreadEntry_takeover hfab hlinks honly ⟨_, hout.symm⟩ r
  obtain ⟨⟨new, hnew, -⟩, -⟩ := (s.answered tk).spreadEntry_spreads r 16
  have hexec : exec .echoAnswerRx s = .next ((s.answered tk).spreadEntry r 16) := exec_echoAnswerRx htk hnone hbeat
  have htold : OutEvent.redirectSet tk.port tk.ident ∈ (s.answered tk).out := by
    rw [hout]
    simp
  generalize (s.answered tk).spreadEntry r 16 = t at hfab' hprefix hall honly' hnew hexec
  exact ⟨t, hexec, ⟨hfab', hprefix, hall, honly'⟩, hnew ▸ List.mem_append_left new htold⟩

theorem exec_echoTimeout (htk : s.fab.takeover = some tk) (hnone : tk.entry = none) (hbeat : tk.echoBeat + 100 ≤ s.time.beat) :
    exec .echoTimeout s = .next (if s.deadClash tk.ident then ({ s with fab.takeover := none } : State).endWaiting stNoSpace 0
      else ({ s with fab.takeover := some { tk with entry := some (s.takeoverEntry tk true) } } : State).spreadEntry
        (s.takeoverEntry tk true) 16) := by
  change execEchoTimeout _ = _
  rw [execEchoTimeout, htk]
  refine (if_pos (by simp [hnone, hbeat])).trans ?_
  cases s.deadClash tk.ident <;> rfl

theorem echoTimeout_spreads (htk : s.fab.takeover = some tk) (hnone : tk.entry = none) (hbeat : tk.echoBeat + 100 ≤ s.time.beat)
    (hclash : s.deadClash tk.ident = false) :
    let r := s.takeoverEntry tk true
    ∃ t, exec .echoTimeout s = .next t ∧
      { t.fab with ports := s.fab.ports } =
        { s.fab with takeover := some { tk with entry := some r }, pendingRemap := s.fab.pendingRemap ++ [r] } ∧
      s.out <+: t.out ∧ (∀ p ∈ s.treeLinks, OutEvent.remapEntry p r ∈ t.out) ∧ OnlyChanges [.fab, .out, .cnt] s t := by
  intro r
  refine ⟨_, exec_echoTimeout htk hnone hbeat, ?_⟩
  rw [hclash, if_neg Bool.false_ne_true]
  exact State.spreadEntry_takeover (tko := some { tk with entry := some r }) (s := s)
    (r := { s with fab.takeover := some { tk with entry := some r } }) rfl (fun _ => rfl) (by simp [onlyChanges_iff])
    (List.prefix_refl _) r

theorem echoTimeout_refuses (htk : s.fab.takeover = some tk) (hnone : tk.entry = none) (hbeat : tk.echoBeat + 100 ≤ s.time.beat)
    (hclash : s.deadClash tk.ident = true) :
    ∃ t, exec .echoTimeout s = .next t ∧ t.fab = { s.fab with takeover := none } ∧
      (∀ q rest, s.host.queue = q :: rest → q.waiting = true → s.settled q.port q.mbox → (s.box q.port q.mbox).queue ≠ [] →
        Answers s t q.port q.mbox 6 0 []) ∧ OnlyChanges [.fab, .host] s t := by
  let r : State := { s with fab.takeover := none }
  have honly := r.endWaiting_onlyChanges stNoSpace 0
  refine ⟨_, exec_echoTimeout htk hnone hbeat, ?_⟩
  rw [hclash, if_pos rfl]
  have hset : OnlyChanges [.fab] s r := by simp [onlyChanges_iff, r]
  exact ⟨honly .fab (by simp), State.endWaiting_answers (r := r) rfl rfl _ _, hset.trans honly (by simp) (by simp)⟩

/-- The mesh stops of the cores `l` closed, one after another. -/
def State.fenceCores (s : State) (l : List Nat) : State :=
  l.foldl (fun s i => if s.physOf i < 240 then s.fencePos (s.physOf i) else s) s

theorem State.fenceCores_fences (l : List Nat) (s : State) : let t := s.fenceCores l
    (∀ i, t.physOf i = s.physOf i) ∧ (∀ x, Tab.get false s.geo.fence x = true → Tab.get false t.geo.fence x = true) ∧
      ∀ i ∈ l, s.physOf i < 240 → Tab.get false t.geo.fence (s.physOf i) = true := by
  induction l generalizing s with
  | nil => exact ⟨fun _ => rfl, fun _ h => h, fun i hi => by simp at hi⟩
  | cons j l ih =>
    let r := if s.physOf j < 240 then s.fencePos (s.physOf j) else s
    have hr : (∀ i, r.physOf i = s.physOf i) ∧ (∀ x, Tab.get false s.geo.fence x = true → Tab.get false r.geo.fence x = true) ∧
        (s.physOf j < 240 → Tab.get false r.geo.fence (s.physOf j) = true) := by
      obtain ⟨fence, site, hgeo, hfence⟩ := s.geo_fencePos (s.physOf j)
      dsimp only [r]
      split
      · refine ⟨fun i => by rw [State.physOf, hgeo]; rfl, fun x hx => ?_, fun _ => ?_⟩
        · rw [hgeo, hfence, hx, Bool.or_true]
        · rw [hgeo, hfence, decide_eq_true rfl, Bool.true_or]
      next hpos => exact ⟨fun _ => rfl, fun _ h => h, fun h => absurd h hpos⟩
    obtain ⟨hphys, hkeeps, hcloses⟩ := hr
    obtain ⟨hphys', hkeeps', hcloses'⟩ := ih r
    refine ⟨fun i => (hphys' i).trans (hphys i), fun x hx => hkeeps' x (hkeeps x hx), fun i hi hpos => ?_⟩
    rcases List.mem_cons.mp hi with rfl | hi
    · exact hkeeps' _ (hcloses hpos)
    · exact hphys i ▸ hcloses' i hi (by rwa [hphys i])

theorem State.fenceCores_frame (s : State) (l : List Nat) : (s.fenceCores l).fab = s.fab ∧ (s.fenceCores l).dev = s.dev ∧
    (s.fenceCores l).time = s.time ∧ (s.fenceCores l).host = s.host := by
  simp [State.fenceCores]

theorem exec_redirectSet (hsrc : src < 2 ^ 13) (hrole : s.fab.role = 0) (hlo : 6 ≤ port.val) (hhi : port.val < 8)
    (hcarries : s.carries port.val 7 = true) : exec (.redirectSet port src) s =
      .next (({ s with fab.redirect := some port.val } : State).fenceCores (List.range 210)) := by
  change execRedirectSet _ _ _ = _
  rw [execRedirectSet, checked_of_wellFormed (by simp [wellFormed, fits_of_lt hsrc])]
  exact if_pos (by simp [hrole, hlo, hhi, hcarries])

theorem redirectSet_fences (hsrc : src < 2 ^ 13) (hrole : s.fab.role = 0) (hlo : 6 ≤ port.val) (hhi : port.val < 8)
    (hcarries : s.carries port.val 7 = true) : ∃ t, exec (.redirectSet port src) s = .next t ∧
      t.fab = { s.fab with redirect := some port.val } ∧
      (∀ i, i < 210 → s.physOf i < 240 → Tab.get false t.geo.fence (s.physOf i) = true) ∧ t.dev = s.dev ∧ t.time = s.time ∧
      t.host = s.host := by
  have hexec := exec_redirectSet hsrc hrole hlo hhi hcarries
  have hcores (i : Nat) (hi : i < 210) : i ∈ List.range 210 := List.mem_range.mpr hi
  generalize List.range 210 = cores at hexec hcores
  obtain ⟨-, -, hcloses⟩ := State.fenceCores_fences cores { s with fab.redirect := some port.val }
  obtain ⟨hfab, hdev, htime, hhost⟩ := State.fenceCores_frame { s with fab.redirect := some port.val } cores
  exact ⟨_, hexec, hfab, fun i hi hpos => hcloses i (hcores i hi) hpos, hdev, htime, hhost⟩

theorem exec_remapEntryRx (hok : e.ok = true) (hvalid : e.valid = true) (hcarries : s.carries port.val 7 = true)
    (hpending : e ∉ s.fab.pendingRemap) (hremaps : e ∉ s.remaps) :
    exec (.remapEntryRx port e) s = .next (s.spreadEntry e port.val) := by
  change execRemapEntryRx _ _ _ = _
  rw [execRemapEntryRx, checked_of_wellFormed (by simpa [wellFormed] using hok)]
  exact if_pos (by simp [hvalid, hcarries, hpending, hremaps])

theorem remapEntryRx_spreads (hok : e.ok = true) (hvalid : e.valid = true) (hcarries : s.carries port.val 7 = true)
    (hpending : e ∉ s.fab.pendingRemap) (hremaps : e ∉ s.remaps) : ∃ t, exec (.remapEntryRx port e) s = .next t ∧
      ({ t.fab with ports := s.fab.ports } =
          { s.fab with takeover := s.fab.takeover, pendingRemap := s.fab.pendingRemap ++ [e] } ∧
        s.out <+: t.out ∧ (∀ p ∈ s.treeLinks.filter (fun p => decide (p ≠ port.val)), OutEvent.remapEntry p e ∈ t.out) ∧
        OnlyChanges [.fab, .out, .cnt] s t) ∧
      ∀ x ∈ t.out.drop s.out.length, (∃ p, p ≠ port.val ∧ x = .remapEntry p e) ∨ ∃ p f, x = .flit p f := by
  obtain ⟨⟨new, hout, hall, hnew⟩, hfab, honly⟩ := s.spreadEntry_spreads e port.val
  have hadd : OnlyChanges [.fab] s { s with fab.pendingRemap := s.fab.pendingRemap ++ [e] } := by simp [onlyChanges_iff]
  refine ⟨_, exec_remapEntryRx hok hvalid hcarries hpending hremaps, ⟨hfab, ?_, fun p hp => ?_,
    hadd.trans honly (by simp) (by simp)⟩, fun x hx => ?_⟩
  · rw [hout]
    exact List.prefix_append _ _
  · rw [hout]
    exact List.mem_append_right _ (hall p hp)
  · rw [hout, List.drop_left] at hx
    exact (hnew x hx).imp (fun ⟨p, hp, hxp⟩ => ⟨p, by simpa using (List.mem_filter.mp hp).2, hxp⟩) id

/-- The entry `r` in force in table entry `ix`. -/
def State.adopted (s : State) (ix : Nat) (r : RemapEntry) : State :=
  ({ s with fab.pendingRemap := s.fab.pendingRemap.erase r, fab.remap := Tab.set emptyRemap s.fab.remap ix r } : State).log
    (fromHardware ix) 0x0040 ix 0 (remapBits r)

theorem exec_remapAdopt (hident : ident < 2 ^ 12) (hfree : (Tab.get emptyRemap s.fab.remap ix.val).valid = false)
    (hidle : s.dev.state.fromIdle = true) (hnew : s.remapOf ident = none) :
    exec (.remapAdopt { index := ix, ident := ident }) s = .next
      (match s.fab.pendingRemap.find? (fun e => e.ident == ident) with
      | none => s.raiseCause 0x0A ix.val
      | some r => if r.effective ≤ s.time.beat ∧ s.dev.state ≠ .running ∧ s.lanesEmpty = true then s.adopted ix.val r else s) := by
  change execRemapAdopt _ _ = _
  rw [execRemapAdopt, checked_of_wellFormed (by simp [wellFormed, fits_of_lt hident])]
  simp only [hfree, hidle, hnew, Option.isSome_none, Bool.not_true, Bool.or_self, Bool.false_eq_true, if_false]
  cases s.fab.pendingRemap.find? (fun e => e.ident == ident) with
  | none => rfl
  | some r =>
    dsimp only
    by_cases hdue : r.effective ≤ s.time.beat ∧ s.dev.state ≠ .running ∧ s.lanesEmpty = true
    · obtain ⟨hbeat, hrun, hempty⟩ := hdue
      simp only [hbeat, hrun, hempty, ne_eq, not_false_eq_true, decide_true, Bool.and_self, and_self, if_true]
      rfl
    · rw [if_neg hdue, if_neg (by simpa [and_assoc] using hdue)]

theorem remapAdopt_adopts (hident : ident < 2 ^ 12) (hfree : (Tab.get emptyRemap s.fab.remap ix.val).valid = false)
    (hidle : s.dev.state.fromIdle = true) (hnew : s.remapOf ident = none) :
    ∃ t, exec (.remapAdopt { index := ix, ident := ident }) s = .next t ∧
      (s.fab.pendingRemap.find? (fun e => e.ident == ident) = none → t.flt.pendingEntry = true ∧
        (s.flt.cause = 0 → t.flt.cause = 0x0A) ∧ OnlyChanges [.flt, .trust, .cnt] s t) ∧
      (∀ r, s.fab.pendingRemap.find? (fun e => e.ident == ident) = some r →
        if r.effective ≤ s.time.beat ∧ s.dev.state ≠ .running ∧ s.lanesEmpty = true then
          t.fab = { s.fab with pendingRemap := s.fab.pendingRemap.erase r, remap := Tab.set emptyRemap s.fab.remap ix.val r } ∧
          LogsOne s t (3, 0) 0x0040 ix.val ∧ OnlyChanges [.fab, .trust] s t
        else t = s) := by
  refine ⟨_, exec_remapAdopt hident hfree hidle hnew, fun hnone => ?_, fun r hr => ?_⟩
  · rw [hnone]
    obtain ⟨hentry, hcause⟩ := s.raiseCause_raises 0x0A ix.val
    exact ⟨hentry, hcause, (s.raiseCause_onlyChanges 0x0A ix.val).mono (by simp)⟩
  · rw [hr]
    dsimp only
    split
    · have hlog : LogsOne s (s.adopted ix.val r) (fromHardware ix.val) 0x0040 ix.val := by
        unfold State.adopted
        exact (State.log_logsOne _ _ _ _ _ _).congr rfl rfl rfl
      exact ⟨by simp [State.adopted], hlog, by simp [onlyChanges_iff, State.adopted]⟩
    · rfl

/-- The spare holds the identity of its takeover, and the log says so. -/
def State.takenOver (s : State) (tk : Takeover) (r : RemapEntry) : State :=
  ({ s with fab.identity := tk.ident, fab.modId := tk.ident, fab.takeover := none, dev.enlisted := false } : State).log
    (fromHardware tk.port) 0x0040 tk.ident 0 (remapBits r)

theorem exec_takeoverEffective {r : RemapEntry} (htk : s.fab.takeover = some tk) (hr : tk.entry = some r)
    (hbeat : tk.effective ≤ s.time.beat) (hremaps : r ∈ s.remaps) : exec .takeoverEffective s = .next
      ((s.takenOver tk r).endWaiting stOk (fields [(0, b2n r.dead), (1, r.home)])) := by
  change execTakeoverEffective _ = _
  rw [execTakeoverEffective, htk]
  dsimp only
  rw [hr]
  exact if_pos (by simp [hbeat, hremaps])

theorem takeoverEffective_holds {r : RemapEntry} (htk : s.fab.takeover = some tk) (hr : tk.entry = some r)
    (hbeat : tk.effective ≤ s.time.beat) (hremaps : r ∈ s.remaps) : ∃ t, exec .takeoverEffective s = .next t ∧
      t.fab = { s.fab with identity := tk.ident, modId := tk.ident, takeover := none } ∧ t.dev = { s.dev with enlisted := false } ∧
      (∀ q rest, s.host.queue = q :: rest → q.waiting = true → s.settled q.port q.mbox → (s.box q.port q.mbox).queue ≠ [] →
        Answers s t q.port q.mbox 0 (b2n r.dead + 2 * r.home) []) ∧ OnlyChanges [.fab, .dev, .host, .trust] s t := by
  have hdetail : fields [(0, b2n r.dead), (1, r.home)] = b2n r.dead + 2 * r.home := by
    simp [fields, Nat.shiftLeft_eq, Nat.mul_comm]
  have honly := (s.takenOver tk r).endWaiting_onlyChanges stOk (b2n r.dead + 2 * r.home)
  have hheld : OnlyChanges [.fab, .dev, .trust] s (s.takenOver tk r) := by simp [onlyChanges_iff, State.takenOver]
  have hexec := exec_takeoverEffective htk hr hbeat hremaps
  rw [hdetail] at hexec
  exact ⟨_, hexec, Eq.trans (honly .fab (by simp)) (by simp [State.takenOver]),
    Eq.trans (honly .dev (by simp)) (by simp [State.takenOver]),
    State.endWaiting_answers (hheld .host (by simp)) (congrArg Time.beat (hheld .time (by simp))) _ _,
    hheld.trans honly (by simp) (by simp)⟩

end Commands

/-- Settles O30: routes and the time tree do not depend on the takeover or on entries that wait, so an entry goes to the links of the
tree as they were before it came. -/
theorem takeoverRuns : Obligations.TakeoverRuns := by
  unfold Obligations.TakeoverRuns
  intro port src ident e ix tk s hsrc hident spread answers
  refine ⟨fun hcarries => ?_, echoAnswerRx_spreads, echoTimeout_spreads, echoTimeout_refuses, redirectSet_fences hsrc,
    remapEntryRx_spreads, remapAdopt_adopts hident, fun r => takeoverEffective_holds⟩
  exact ⟨_, exec_echoRx hsrc hcarries, s.sendMgmt_hands _ _ _ _, s.sendMgmt_portsOnly _ _ _ _, s.sendMgmt_countersKept _ _ _ _,
    s.sendMgmt_onlyChanges _ _ _ _⟩

end Sys2Proof.Machine
end

section
/-! PROOFS. XSEND and XSIGNAL (15 R382): the message on its first link, or delivered in the module that sends it. -/

namespace Sys2Proof.Machine

/-! ## The command at the head of a port's stream -/

theorem State.readyLink_op {s : State} {p op d : Nat} (h : s.readyLink p op = some d) : (linkCmd d).xop = op := by
  unfold State.readyLink at h
  split at h
  · unfold State.readyExec at h
    split at h
    · split at h
      next hop =>
        cases h
        simp only [Bool.and_eq_true, decide_eq_true_eq] at hop
        exact hop.2
      · cases h
    · cases h
  · cases h

theorem State.linkCycles_congr {s t : State} (hpwr : t.pwr = s.pwr) (hfab : t.fab = s.fab) (p : Nat) (c : LinkCmd) (h : Nat) :
    t.linkCycles p c h = s.linkCycles p c h :=
  (congrArg₂ (fun w f => State.linkCycles { s with pwr := w, fab := f } p c h) hpwr hfab :)

/-! ## A message delivered here -/

/-- A message written here, as the link unit keeps it until its bytes have landed. -/
def notedMsg (link : Nat) (m : LinkMsg) : Unacked :=
  { port := link, src := m.src, key := locKey m.addr m.num m.space, len := m.data.length, sigId := m.sigId, sigInc := m.sigInc,
    tell := decide (link < 16) }

theorem State.deliver_eq (s : State) (link : Nat) (m : LinkMsg) : s.deliver link m = (s.place link m).received (notedMsg link m) := rfl

theorem State.deliver_out (s : State) (link : Nat) (m : LinkMsg) : s.out <+: (s.deliver link m).out := by
  have hout : (s.place link m).out = s.out := by simp
  rw [← hout]
  exact State.out_prefix_received _ _

theorem State.deliver_fab (s : State) (link : Nat) (m : LinkMsg) :
    { (s.deliver link m).fab with unacked := s.fab.unacked } = s.fab := by
  have hfab : (s.place link m).fab = s.fab := by simp
  have hdelivered := (s.place link m).fab_received (notedMsg link m)
  rwa [hfab, ← State.deliver_eq] at hdelivered

theorem State.place_lays (s : State) (link : Nat) (m : LinkMsg) :
    Lays [(locKey m.addr m.num m.space, m.data.length)] s (s.place link m) := by
  unfold State.place
  split
  · exact .refl _ s
  · exact s.write_lays _ _ _

theorem State.deliver_lays (s : State) (link : Nat) (m : LinkMsg) :
    Lays [(locKey m.addr m.num m.space, m.data.length)] s (s.deliver link m) :=
  (s.place_lays link m).trans (.of_mem (by simp [State.deliver]) (by simp [State.deliver]) _)

/-! ## The message leaves -/

/-- A message of the module on its route: on the first link in that hop's class, or delivered here. -/
def State.sendRouted (s : State) (route : List Hop) (m : LinkMsg) : State :=
  match route with
  | [] => s.deliver loopback m
  | h :: _ => s.sendMsg h.port h.cls m

theorem State.sendRouted_frame (s : State) (route : List Hop) (m : LinkMsg) : let t := s.sendRouted route m
    t.dev = s.dev ∧ t.unit = s.unit ∧ t.time = s.time ∧ t.acts = s.acts ∧ t.ck = s.ck ∧ t.host = s.host := by
  unfold State.sendRouted
  cases route with
  | nil => simp
  | cons h l => simp

/-- The state once port `p` has read the `n` bytes of a command's source. -/
def State.sourceRead (s : State) (p n : Nat) (c : LinkCmd) : State := s.noteRead (226 + p) (locOfWord c.src) n

theorem State.sendTo_eq (s : State) (p d : Nat) {c : LinkCmd} {kind n : Nat} (hn : (if c.xop = 2 then 0 else c.bytes) = n)
    (hkind : (if c.xop = 2 then 2 else 1) = kind) : let route := s.path s.fabricAddr c.dstMod
    s.sendTo p d c = ((s.sourceRead p n c).sendRouted route (s.linkMsg c kind c.dstMod (s.read (locOfWord c.src) n))).startCmd
      (linkStream p) ((s.sourceRead p n c).linkFlight p d c route.length 0 false n []) := by
  intro route
  have hfab : (s.sourceRead p n c).fab = s.fab := by simp [State.sourceRead]
  have hmap : (s.sourceRead p n c).fab.map = s.fab.map := congrArg Fabric.map hfab
  have hroute : (s.sourceRead p n c).path (s.sourceRead p n c).fabricAddr c.dstMod = route := by
    rw [State.path_of_map hmap, State.fabricAddr_of_map hmap]
  have hmsg : (s.sourceRead p n c).linkMsg c kind c.dstMod (s.read (locOfWord c.src) n) =
      s.linkMsg c kind c.dstMod (s.read (locOfWord c.src) n) := by
    rw [State.linkMsg, State.fabricAddr_of_map hmap]
    rfl
  rw [← hroute, ← hmsg]
  subst hn hkind
  rfl

section Send

variable {port : Fin 8} {d kind n : Nat} {s : State}

/-- The command in progress and the message on its way. -/
theorem State.sendTo_sends (hn : (if (linkCmd d).xop = 2 then 0 else (linkCmd d).bytes) = n)
    (hkind : (if (linkCmd d).xop = 2 then 2 else 1) = kind) :
    let c := linkCmd d
    let route := s.path s.fabricAddr c.dstMod
    let m := s.linkMsg c kind c.dstMod (s.read (locOfWord c.src) n)
    let t := s.sendTo port.val d c
    (∃ f, StartsWith s t (218 + port.val) d f ∧ f.cycles = s.linkCycles port.val c route.length ∧ f.planCyc = c.planCyc ∧
        f.slackCyc = c.slackCyc ∧ f.statKey = some (spaceKey linkSpace (256 * c.stat)) ∧ f.outs = []) ∧
      (∀ h l, route = h :: l → Hands s t h.port (.link h.port m) (flitsOf m h.cls) ∧ t.mem = s.mem ∧ PortsOnly [h.port] s t) ∧
      (route = [] → s.out <+: t.out ∧ { t.fab with unacked := s.fab.unacked } = s.fab ∧ BytesKept [(locOfWord c.dst, n)] s t) ∧
      t.dev = s.dev ∧ t.time = s.time ∧ t.acts = s.acts ∧ t.ck = s.ck ∧ t.host = s.host := by
  intro c route m t
  let r := s.sourceRead port.val n c
  have hfab : r.fab = s.fab := by simp [r, State.sourceRead]
  have hout : r.out = s.out := by simp [r, State.sourceRead]
  obtain ⟨hdev, hunit, htime, hacts, hck, hhost⟩ := r.sendRouted_frame route m
  have hunit' : (r.sendRouted route m).unit = s.unit := hunit.trans (by simp [r, State.sourceRead])
  have ht : t = (r.sendRouted route m).startCmd (linkStream port.val) (r.linkFlight port.val d c route.length 0 false n []) :=
    s.sendTo_eq port.val d hn hkind
  rw [ht]
  refine ⟨⟨r.linkFlight port.val d c route.length 0 false n [], ?_, ?_, rfl, rfl, rfl, rfl⟩, fun h l hroute => ?_, fun hroute => ?_,
    ?_, ?_, ?_, ?_, ?_⟩
  · refine startsWith_startCmd_of_streams (by rw [hunit']) _ d rfl rfl ?_ ?_ rfl rfl rfl
    · exact congrArg (fun u => (State.stream { s with unit := u } (linkStream port.val)).rep)
        (by simp [r, State.sourceRead] : r.unit = s.unit)
    · exact congrArg Time.beat (by simp [r, State.sourceRead] : r.time = s.time)
  · exact State.linkCycles_congr (by simp [r, State.sourceRead]) hfab _ _ _
  · rw [hroute]
    let sentOn := r.sendMsg h.port h.cls m
    have hfab' : (sentOn.startCmd (linkStream port.val) (r.linkFlight port.val d c (h :: l).length 0 false n [])).fab = sentOn.fab := by
      simp
    refine ⟨(r.sendMsg_hands h.port h.cls m).of_fab hfab.symm hfab' hout.symm (by simp), ?_,
      (r.sendMsg_portsOnly h.port h.cls m).of_fab hfab.symm hfab'⟩
    simp [State.sendRouted, r, State.sourceRead]
  · rw [hroute]
    have hlen : m.data.length = n := s.length_read _ _
    have hlays := (s.noteRead_lays (226 + port.val) (locOfWord c.src) n _).trans (r.deliver_lays loopback m)
    rw [hlen] at hlays
    refine ⟨?_, ?_, (hlays.startCmd _ _).kept⟩
    · simpa [State.sendRouted, hout] using r.deliver_out loopback m
    · simpa [State.sendRouted, hfab] using r.deliver_fab loopback m
  · simpa [r, State.sourceRead] using hdev
  · simpa [r, State.sourceRead] using htime
  · simpa [r, State.sourceRead] using hacts
  · simpa [r, State.sourceRead] using hck
  · simpa [r, State.sourceRead] using hhost

theorem exec_xsend (h : s.readyLink port.val 1 = some d) : exec (.xsend port) s = .next (s.sendTo port.val d (linkCmd d)) := by
  change execXsend port s = _
  rw [execXsend, h]

theorem exec_xsignal (h : s.readyLink port.val 2 = some d) : exec (.xsignal port) s = .next (s.sendTo port.val d (linkCmd d)) := by
  change execXsignal port s = _
  rw [execXsignal, h]

end Send

/-- Settles O31: a read of the source leaves the link unit as it is, so the message and its route are those of the state before it. -/
theorem linkCommandsSend : Obligations.LinkCommandsSend := by
  unfold Obligations.LinkCommandsSend
  refine fun port d s => ⟨fun h => ⟨_, exec_xsend h, State.sendTo_sends ?_ ?_⟩, fun h => ⟨_, exec_xsignal h, State.sendTo_sends ?_ ?_⟩⟩
  · rw [State.readyLink_op h, if_neg (by decide)]
  · rw [State.readyLink_op h, if_neg (by decide)]
  · rw [State.readyLink_op h, if_pos rfl]
  · rw [State.readyLink_op h, if_pos rfl]

end Sys2Proof.Machine
end

section
/-! PROOFS. Messages and multicasts arrive (15 R382, R383, R393, R395): what lands where it is addressed, when it is acknowledged, and
where it goes on to. -/

namespace Sys2Proof.Machine

/-! ## What lands at once and what is held (13 R316, R323) -/

theorem mem_pagesOf {a n p : Nat} : p ∈ pagesOf a n ↔ n ≠ 0 ∧ pageOf a ≤ p ∧ p ≤ pageOf (a + n - 1) := by
  unfold pagesOf
  split
  next hn => simp [hn]
  next hn =>
    simp only [List.mem_map, List.mem_range]
    have hends : pageOf a ≤ pageOf (a + n - 1) := Nat.div_le_div_right (by omega)
    refine ⟨fun ⟨i, hi, hp⟩ => ⟨hn, by omega, by omega⟩, fun ⟨_, hlo, hhi⟩ => ⟨p - pageOf a, by omega, by omega⟩⟩

theorem State.heldWrites_pageWrite {s : State} {a : Nat} (hwp : (s.pteOf (pageOf a)).wp = false) (base req : Nat) (data : List Byte) :
    (s.pageWrite base req a data).heldWrites = s.heldWrites := by
  unfold State.pageWrite
  dsimp only
  rw [hwp, if_neg Bool.false_ne_true]
  split
  · simp
  · split
    · simp
    · simp

/-- A write to pages without WP holds nothing. -/
theorem State.heldWrites_hbmWriteN {s : State} {a : Nat} {data : List Byte}
    (hwp : ∀ p ∈ pagesOf a data.length, (s.pteOf p).wp = false) (base req fuel : Nat) :
    (s.hbmWriteN base req fuel a data).heldWrites = s.heldWrites := by
  induction fuel generalizing s a data with
  | zero => rfl
  | succ fuel ih =>
    unfold State.hbmWriteN
    split
    · rfl
    next hdata =>
      have hlen : data.length ≠ 0 := by simpa using hdata
      let n := 2 ^ 21 - a % 2 ^ 21
      have hfirst : (s.pteOf (pageOf a)).wp = false := hwp _ (mem_pagesOf.mpr ⟨hlen, Nat.le_refl _, Nat.div_le_div_right (by omega)⟩)
      have hkeeps (p : Nat) : ((s.pageWrite base req a (data.take n)).pteOf p).wp = (s.pteOf p).wp :=
        congrArg (fun e : Bool × Bool × Bool => e.2.2) ((s.pageWrite_works base req a (data.take n)).perms p)
      refine (ih fun p hp => ?_).trans (State.heldWrites_pageWrite hfirst base req _)
      obtain ⟨hne, hlo, hhi⟩ := mem_pagesOf.mp hp
      rw [List.length_drop] at hne hhi
      rw [hkeeps]
      refine hwp p (mem_pagesOf.mpr ⟨hlen, ?_, ?_⟩)
      · exact Nat.le_trans (Nat.div_le_div_right (by omega)) hlo
      · exact hhi.trans (Nat.div_le_div_right (by omega))

/-- A write that lands at once, in a space or in pages that permit it. -/
theorem State.heldWrites_write {s : State} {key : Nat} {data : List Byte} (h : 2 ^ 48 ≤ key ∨ s.writable key data.length) (req : Nat) :
    (s.write req key data).heldWrites = s.heldWrites := by
  unfold State.write
  split
  next hkey =>
    rcases h with h | ⟨-, hpages⟩
    · omega
    · exact State.heldWrites_hbmWriteN (fun p hp => (hpages p hp).2.2) _ _ _
  · split
    · simp
    · rfl

theorem State.heldWrites_place {s : State} {m : LinkMsg}
    (h : m.data = [] ∨ 2 ^ 48 ≤ locKey m.addr m.num m.space ∨ s.writable (locKey m.addr m.num m.space) m.data.length) (link : Nat) :
    (s.place link m).heldWrites = s.heldWrites := by
  unfold State.place
  split
  · rfl
  next hdata => exact State.heldWrites_write (h.resolve_left (by simpa using hdata)) _

/-- A write within a valid page that is write-protected and not read-only is held. -/
theorem State.write_held {s : State} {key : Nat} {data : List Byte} (hdata : data ≠ []) (hkey : key < 2 ^ 39)
    (hpage : key % 2 ^ 21 + data.length ≤ 2 ^ 21) (hvalid : (s.pteOf (pageOf key)).valid = true)
    (hro : (s.pteOf (pageOf key)).ro = false) (hwp : (s.pteOf (pageOf key)).wp = true) (req : Nat) :
    s.write req key data = s.holdWrite s.shadowBase req (pageOf key) (key % 2 ^ 21) data := by
  have hgood : s.badPage (pageOf key) = false := by
    rw [State.badPage, hvalid, pageOf, decide_eq_false (by omega)]
    rfl
  rw [State.write, if_pos (by omega), State.hbmWrite, State.hbmWriteN, if_neg (by simpa using hdata)]
  dsimp only
  rw [List.drop_eq_nil_of_le (by omega), State.hbmWriteN_nil, List.take_of_length_le (by omega), State.pageWrite]
  simp [hgood, hro, hwp]

/-- Bytes written inside an open space lie there. -/
theorem State.stored_write_space {s : State} {key : Nat} {data : List Byte} (hspace : 2 ^ 48 ≤ key)
    (hopen : s.spaceFenced (key / 2 ^ 48) = false) (hsize : key % 2 ^ 48 + data.length ≤ spaceSize (key / 2 ^ 48)) (req : Nat) {i : Nat}
    (hi : i < data.length) : (s.write req key data).stored (key + i) = data.getD i 0 := by
  rw [State.write, if_neg (by omega), hopen, if_neg Bool.false_ne_true, State.stored_poke, if_pos (by omega), Nat.add_sub_cancel_left]

/-! ## A message for this module (15 R382) -/

/-- In `t` the bytes of message `m`, and no others, have been written since `s`; in an open space they lie at its location. -/
def LiesAt (s t : State) (m : LinkMsg) : Prop :=
  let key := locKey m.addr m.num m.space
  BytesKept [(key, m.data.length)] s t ∧
    (2 ^ 48 ≤ key → s.spaceFenced (key / 2 ^ 48) = false → key % 2 ^ 48 + m.data.length ≤ spaceSize (key / 2 ^ 48) →
      ∀ i, i < m.data.length → t.stored (key + i) = m.data.getD i 0)

theorem LiesAt.of_mem {s t r : State} {m : LinkMsg} (h : LiesAt s t m) (hmem : r.mem = t.mem) : LiesAt s r m := by
  have hstored (k : Nat) : r.stored k = t.stored k := by rw [State.stored, State.stored, hmem]
  exact ⟨fun k hout hline => (hstored k).trans (h.1 k hout hline),
    fun hspace hopen hsize i hi => (hstored _).trans (h.2 hspace hopen hsize i hi)⟩

/-- Nothing holds message `m` up: no message waits, no write is held, and its bytes land at once. -/
def State.landsAtOnce (s : State) (m : LinkMsg) : Prop :=
  let key := locKey m.addr m.num m.space
  s.fab.unacked = [] ∧ s.heldWrites = [] ∧ (m.data = [] ∨ 2 ^ 48 ≤ key ∨ s.writable key m.data.length)

/-- `t` is `s` after message `m` has gone on over link `w`. -/
def PassedOn (s t : State) (w : Nat) (m : LinkMsg) : Prop :=
  (∃ cls, Hands s t w (.link w m) (flitsOf m cls)) ∧ PortsOnly [w] s t ∧ OnlyChanges [.fab, .out, .cnt] s t

section Deliver

variable {s : State} {link : Nat} {m : LinkMsg} (hlink : link < 16)

theorem State.deliver_lies (s : State) (link : Nat) (m : LinkMsg) : LiesAt s (s.deliver link m) m := by
  refine ⟨(s.deliver_lays link m).kept, fun hspace hopen hsize i hi => ?_⟩
  have hmem : (s.deliver link m).mem = (s.place link m).mem := by rw [State.deliver_eq]; simp
  have hplace : s.place link m = s.write (226 + link % 8) (locKey m.addr m.num m.space) m.data :=
    if_neg fun h => by simp [List.isEmpty_iff.mp h] at hi
  rw [State.stored, hmem, ← State.stored, hplace]
  exact State.stored_write_space hspace hopen hsize _ hi

include hlink

/-- A message whose bytes have landed is signalled and acknowledged, and the link unit is as it was. -/
theorem State.deliver_lands (hlands : s.landsAtOnce m) :
    Emits s (s.deliver link m) (.ack link m.src) ∧ (s.deliver link m).fab = s.fab := by
  obtain ⟨hnone, hheld, hbytes⟩ := hlands
  have hfab : (s.place link m).fab = s.fab := by simp
  have hout : (s.place link m).out = s.out := by simp
  rw [State.deliver_eq, State.received_of_none (by rw [hfab, hnone]),
    State.ackHeld_of_none (by rw [State.heldWrites_place hbytes, hheld]), if_neg Bool.false_ne_true]
  refine ⟨?_, by simp⟩
  rw [Emits, State.out_ackMsg, hout, notedMsg, decide_eq_true hlink]
  rfl

omit hlink in
/-- While a page copy holds a message's bytes, it waits. -/
theorem State.deliver_waits {key : Nat} (hloc : key = locKey m.addr m.num m.space) (hnone : s.fab.unacked = []) (hdata : m.data ≠ [])
    (hkey : key < 2 ^ 39) (hpage : key % 2 ^ 21 + m.data.length ≤ 2 ^ 21) (hvalid : (s.pteOf (pageOf key)).valid = true)
    (hro : (s.pteOf (pageOf key)).ro = false) (hwp : (s.pteOf (pageOf key)).wp = true) :
    (s.deliver link m).out = s.out ∧ (s.deliver link m).mem = s.mem ∧ (s.deliver link m).fab.unacked.length = 1 := by
  let r := s.holdWrite s.shadowBase (226 + link % 8) (pageOf key) (key % 2 ^ 21) m.data
  have hplace : s.place link m = r := by
    rw [State.place, if_neg (by simpa using hdata), ← hloc]
    exact State.write_held hdata hkey hpage hvalid hro hwp _
  have hlen : 0 < m.data.length := List.length_pos_iff.mpr hdata
  have hbytes : 2 ^ 21 * pageOf key + key % 2 ^ 21 = key := Nat.div_add_mod _ _
  have hheld : r.ackHeld (notedMsg link m) = true := by
    rw [State.ackHeld, State.heldWrites_holdWrite, List.any_append, Bool.or_eq_true]
    refine .inr ?_
    simp only [notedMsg, ← hloc, List.any_cons, List.any_nil, Bool.or_false, Bool.and_eq_true, decide_eq_true_eq, true_and]
    omega
  rw [State.deliver_eq, hplace, State.received_of_none (by simpa [r] using hnone), hheld, if_pos rfl]
  exact ⟨by simp [r], by simp [r], rfl⟩

end Deliver

/-! ## The commands -/

section Arrive

variable {port : Fin 16} {m : LinkMsg} {s : State} (hok : m.ok = true) (hup : s.portUp port.val = true)

theorem State.passOn_passes (s : State) (w : Nat) (m : LinkMsg) : PassedOn s (s.passOn w m) w m :=
  ⟨⟨_, s.sendMsg_hands _ _ _⟩, s.sendMsg_portsOnly _ _ _, s.sendMsg_onlyChanges _ _ _⟩

include hok hup

theorem exec_messageRx : exec (.messageRx port m) s = .next (match s.redirectOf m.dst with
    | some w => s.passOn w m
    | none => if m.dst = s.fabricAddr then s.deliver port.val m else s) := by
  change execMessageRx _ _ _ = _
  rw [execMessageRx, checked_of_wellFormed (by simpa [wellFormed] using hok)]
  dsimp only
  rw [hup, Bool.not_true, if_neg Bool.false_ne_true]
  cases s.redirectOf m.dst with
  | some w => rfl
  | none => exact (apply_ite _ _ _ _).symm

/-- MESSAGE_RX. -/
theorem messageRx_arrives : let key := locKey m.addr m.num m.space
    ∃ t, exec (.messageRx port m) s = .next t ∧
      (∀ w, s.redirectOf m.dst = some w → PassedOn s t w m) ∧
      (s.redirectOf m.dst = none → m.dst = s.fabricAddr → LiesAt s t m ∧ { t.fab with unacked := s.fab.unacked } = s.fab ∧
        (s.landsAtOnce m → Emits s t (.ack port.val m.src) ∧ t.fab = s.fab) ∧
        (s.fab.unacked = [] → m.data ≠ [] → key < 2 ^ 39 → key % 2 ^ 21 + m.data.length ≤ 2 ^ 21 →
          (s.pteOf (pageOf key)).valid = true → (s.pteOf (pageOf key)).ro = false → (s.pteOf (pageOf key)).wp = true →
          t.out = s.out ∧ t.mem = s.mem ∧ t.fab.unacked.length = 1) ∧
        t.dev = s.dev ∧ t.time = s.time ∧ t.unit = s.unit) ∧
      (s.redirectOf m.dst = none → m.dst ≠ s.fabricAddr → t = s) := by
  intro key
  refine ⟨_, exec_messageRx hok hup, fun w hw => ?_, fun hnone hhere => ?_, fun hnone hother => ?_⟩
  · rw [hw]
    exact s.passOn_passes w m
  · rw [hnone]
    dsimp only
    rw [if_pos hhere]
    exact ⟨s.deliver_lies _ _, s.deliver_fab _ _, State.deliver_lands port.isLt, State.deliver_waits rfl, by simp, by simp, by simp⟩
  · rw [hnone]
    exact if_neg hother

omit hup in
theorem exec_mcastRx_refused (hbare : s.bareSpare = true) : exec (.mcastRx port m) s = .next s := by
  change execMcastRx _ _ _ = _
  rw [execMcastRx, checked_of_wellFormed (by simpa [wellFormed] using hok)]
  exact if_pos (by simp [hbare])

/-- A multicast on its way to its last receiver, sent on in its direction. -/
def State.castOn (s : State) (m : LinkMsg) : State :=
  let e := s.ringExit m.src (s.mcastPort m.src m.dst) (s.onward (s.mcastPort m.src m.dst) 1)
  s.sendMsg e.1 e.2 m

theorem exec_mcastRx (hbare : s.bareSpare = false) : exec (.mcastRx port m) s = .next (match s.fab.redirect with
    | some w => if w = port.val then s else s.passOn w m
    | none => if m.dst = s.fabricAddr then s.deliver port.val m else (s.deliver port.val m).castOn m) := by
  change execMcastRx _ _ _ = _
  rw [execMcastRx, checked_of_wellFormed (by simpa [wellFormed] using hok)]
  refine (if_neg (by simp [hup, hbare])).trans ?_
  cases s.fab.redirect with
  | some w => exact (apply_ite _ _ _ _).symm
  | none => exact (apply_ite _ _ _ _).symm

omit hok hup

/-- A multicast delivered here goes on as it would have before. -/
theorem State.castOn_goes (s : State) (link : Nat) (m : LinkMsg) :
    let r := s.deliver link m
    let t := r.castOn m
    let p := s.mcastPort m.src m.dst
    let e := s.ringExit m.src p (s.onward p 1)
    Hands r t e.1 (.link e.1 m) (flitsOf m e.2) ∧ PortsOnly [e.1] r t ∧ OnlyChanges [.fab, .out, .cnt] r t := by
  intro r t p e
  have hmap : r.fab.map = s.fab.map := (congrArg Fabric.map (s.deliver_fab link m) :)
  have hport : r.mcastPort m.src m.dst = p := (congrArg (fun f => State.mcastPort { s with fab := f } m.src m.dst) hmap :)
  have hexit : r.ringExit m.src (r.mcastPort m.src m.dst) (r.onward (r.mcastPort m.src m.dst) 1) = e := by
    rw [hport, State.ringExit_of_map hmap, State.onward_of_map hmap]
  have ht : t = r.sendMsg e.1 e.2 m := by
    dsimp only [t, State.castOn]
    rw [hexit]
  rw [ht]
  exact ⟨r.sendMsg_hands _ _ _, r.sendMsg_portsOnly _ _ _, r.sendMsg_onlyChanges _ _ _⟩

include hok hup

/-- MCAST_RX. -/
theorem mcastRx_arrives : ∃ t, exec (.mcastRx port m) s = .next t ∧
      (s.bareSpare = true → t = s) ∧
      (∀ w, s.bareSpare = false → s.fab.redirect = some w → if w = port.val then t = s else PassedOn s t w m) ∧
      (s.bareSpare = false → s.fab.redirect = none → LiesAt s t m ∧ { t.fab with unacked := s.fab.unacked, ports := s.fab.ports } = s.fab ∧
        (m.dst = s.fabricAddr → s.landsAtOnce m → Emits s t (.ack port.val m.src) ∧ t.fab = s.fab) ∧
        (m.dst ≠ s.fabricAddr →
          let p := s.mcastPort m.src m.dst
          let e := s.ringExit m.src p (s.onward p 1)
          OutEvent.link e.1 m ∈ t.out ∧ (s.landsAtOnce m → OutEvent.ack port.val m.src ∈ t.out) ∧ (∀ q, q ≠ e.1 → t.port q = s.port q)) ∧
        t.dev = s.dev ∧ t.time = s.time ∧ t.unit = s.unit) := by
  cases hbare : s.bareSpare with
  | true =>
    exact ⟨s, exec_mcastRx_refused hok hbare, fun _ => rfl, fun _ h => (by cases h), fun h => (by cases h)⟩
  | false =>
    refine ⟨_, exec_mcastRx hok hup hbare, fun h => (by cases h), fun w _ hw => ?_, fun _ hnone => ?_⟩
    · rw [hw]
      dsimp only
      split
      · rfl
      · exact s.passOn_passes w m
    · rw [hnone]
      dsimp only
      have hfab := s.deliver_fab port.val m
      have hlies := s.deliver_lies port.val m
      by_cases hlast : m.dst = s.fabricAddr
      · rw [if_pos hlast]
        exact ⟨hlies, (congrArg (fun f : Fabric => { f with ports := s.fab.ports }) hfab :),
          fun _ => State.deliver_lands port.isLt, fun h => absurd hlast h, by simp, by simp, by simp⟩
      · rw [if_neg hlast]
        obtain ⟨⟨sent, hout, -⟩, hports, honly⟩ := s.castOn_goes port.val m
        have hmem : ((s.deliver port.val m).castOn m).mem = _ := honly .mem (by simp)
        refine ⟨hlies.of_mem hmem, ?_, fun h => absurd h hlast, fun _ => ⟨?_, fun hlands => ?_, fun q hq => ?_⟩, ?_, ?_, ?_⟩
        · exact (congrArg (fun f : Fabric => { f with unacked := s.fab.unacked, ports := s.fab.ports }) hports.1 :).trans
            (congrArg (fun f : Fabric => { f with ports := s.fab.ports }) hfab :)
        · rw [hout]
          simp
        · obtain ⟨hack, -⟩ := State.deliver_lands port.isLt hlands
          rw [hout, show (s.deliver port.val m).out = _ from hack]
          simp
        · rw [hports.2 q (by simpa using hq)]
          exact (congrArg (fun f => State.port { s with fab := f } q) hfab :)
        · exact Eq.trans (honly .dev (by simp)) (by simp)
        · exact Eq.trans (honly .time (by simp)) (by simp)
        · exact Eq.trans (honly .unit (by simp)) (by simp)

end Arrive

end Sys2Proof.Machine
end

section
/-! PROOFS. Partials arrive (15 R384, R385) and late contributions are carried (15 R386): what is laid where, which counters count, and what
is left in the plan's lists. -/

namespace Sys2Proof.Machine

/-! ## Counters of the link unit (15 Table 15-12) -/

/-- A counter of the link unit is none of the counters of other blocks. -/
theorem linkCnt_not_mem {n f : Nat} (hn : n < 8) (hf : f < 2 ^ 8) {l : List Nat} (hl : ∀ k ∈ l, k / 2 ^ 28 ≠ 0x0F0C) :
    cntKey 0x0F0C n f ∉ l := by
  intro hmem
  refine hl _ hmem ?_
  unfold cntKey
  omega

theorem lateIn_not_mem {n : Nat} (hn : n < 8) {l : List Nat} (hl : ∀ k ∈ l, k / 2 ^ 28 ≠ 0x0F0C) : LinkCnt.lateIn n ∉ l :=
  linkCnt_not_mem hn (by decide) hl

theorem carries_not_mem {n : Nat} (hn : n < 8) {l : List Nat} (hl : ∀ k ∈ l, k / 2 ^ 28 ≠ 0x0F0C) : LinkCnt.carries n ∉ l :=
  linkCnt_not_mem hn (by decide) hl

theorem cntWide_lateIn (n : Nat) : cntWide (LinkCnt.lateIn n) = false := by
  have hfield : LinkCnt.lateIn n % 2 ^ 8 = 8 := Nat.mul_add_mod' _ _ _
  exact cntWide_of_field (by rw [hfield]; decide)

theorem cntWide_carries (n : Nat) : cntWide (LinkCnt.carries n) = false := by
  have hfield : LinkCnt.carries n % 2 ^ 8 = 9 := Nat.mul_add_mod' _ _ _
  exact cntWide_of_field (by rw [hfield]; decide)

/-! ## The port of a partial's direction (15 R384) -/

theorem oppositePort_lt {p : Nat} (h : p < 8) : oppositePort p < 8 := Nat.xor_lt_two_pow (n := 3) h (by decide)

theorem State.ringEntry_lt (s : State) (link src : Nat) : s.ringEntry link src < 8 := by
  unfold State.ringEntry
  split
  · exact Nat.mod_lt _ (by decide)
  · split
    next d hd =>
      have hdim : d < 3 := by
        have := List.mem_of_find?_eq_some hd
        simp only [List.mem_cons, List.not_mem_nil, or_false] at this
        omega
      dsimp only
      split <;> exact oppositePort_lt (by omega)
    · exact Nat.mod_lt _ (by decide)

/-- The reduction buffer of a port (15 R384). -/
theorem spaceSize_redSpace {p : Nat} (h : p < 8) : spaceSize (redSpace p) = 0x400000 := by
  have hspace : 0x5100 ≤ redSpace p ∧ redSpace p < 0x5108 := ⟨by unfold redSpace; omega, by unfold redSpace; omega⟩
  unfold spaceSize
  rw [if_neg (by omega), if_neg (by omega), if_neg (by omega), if_neg (by omega), if_neg (by omega), if_pos (by omega)]

/-- Bytes laid inside a reduction buffer lie there. -/
theorem State.stored_poke_red (s : State) {p addr : Nat} {data : List Byte} (hp : p < 8) (hsize : addr + data.length ≤ 0x400000) {i : Nat}
    (hi : i < data.length) : (s.poke (spaceKey (redSpace p) addr) data).stored (spaceKey (redSpace p) addr + i) = data.getD i 0 := by
  have hspace : spaceKey (redSpace p) addr / 2 ^ 48 = redSpace p := by unfold spaceKey; omega
  have hoffset : spaceKey (redSpace p) addr % 2 ^ 48 = addr := by unfold spaceKey; omega
  rw [State.stored_poke, hspace, hoffset, spaceSize_redSpace hp, if_pos (by omega), Nat.add_sub_cancel_left]

/-! ## A late partial (15 R385, 12 R310) -/

/-- The hop that has started without the partial at `addr` of port `p`'s reduction buffer. -/
def State.shortHop (s : State) (p addr : Nat) : Option (Nat × Nat × Bool) :=
  s.plan.shortHops.find? (fun e => e.1 == p && e.2.1 == addr)

theorem State.latePartial_counts (s : State) {p : Nat} (hp : p < 8) (addr : Nat) : let t := s.latePartial p addr
    t.plan.shortHops = (match s.shortHop p addr with
      | some e => s.plan.shortHops.erase e
      | none => s.plan.shortHops) ∧
    t.cntGet (LinkCnt.lateIn (oppositePort p)) = (if (s.shortHop p addr).isSome then
      min (s.cntGet (LinkCnt.lateIn (oppositePort p)) + 1) 0xFFFFFFFF else s.cntGet (LinkCnt.lateIn (oppositePort p))) ∧
    OnlyChanges [.plan, .cnt] s t := by
  have honly : OnlyChanges [.plan, .cnt] s (s.latePartial p addr) := by simp [onlyChanges_iff]
  unfold State.latePartial at honly ⊢
  unfold State.shortHop
  cases hhop : s.plan.shortHops.find? (fun e => e.1 == p && e.2.1 == addr) with
  | none => exact ⟨rfl, rfl, .refl _ s⟩
  | some e =>
    rw [hhop] at honly
    dsimp only at honly ⊢
    let r : State := ({ s with plan.shortHops := s.plan.shortHops.erase e } : State).bump (LinkCnt.lateIn (oppositePort p)) 1
    refine ⟨?_, ?_, honly⟩
    · cases e.2.2 <;> rfl
    · refine Eq.trans (r.dropLate_countersKept e.2.2 _ (lateIn_not_mem (oppositePort_lt hp) (by decide))) ?_
      exact State.cntGet_bump_narrow _ (cntWide_lateIn _) 1

/-! ## A partial received (15 R384) -/

/-- A partial waits for no bytes of its own. -/
def notedPartial (link : Nat) (m : LinkMsg) : Unacked :=
  { port := link, src := m.src, key := 0, len := 0, sigId := m.sigId, sigInc := m.sigInc, tell := true }

theorem State.received_countersKept (s : State) (u : Unacked) : CountersKept signalCounters s (s.received u) :=
  State.settleAcks_countersKept { s with fab.unacked := s.fab.unacked ++ [u] }

theorem State.signalView_received (s : State) (u : Unacked) : (s.received u).signalView = s.signalView :=
  State.signalView_settleAcks { s with fab.unacked := s.fab.unacked ++ [u] }

theorem State.ackHeld_notedPartial (s : State) (link : Nat) (m : LinkMsg) : s.ackHeld (notedPartial link m) = false := by
  simp [State.ackHeld, notedPartial]

section Partial

variable {port : Fin 16} {m : LinkMsg} {s : State} (hok : m.ok = true) (hup : s.portUp port.val = true)

/-- A partial for this module laid in the buffer of its direction's port `p` and noted. -/
def State.takePartial (s : State) (link p : Nat) (m : LinkMsg) : State :=
  ((s.poke (spaceKey (redSpace p) m.addr) m.data).latePartial p m.addr).received (notedPartial link m)

theorem State.takePartial_lies (s : State) (link : Nat) {p : Nat} (hp : p < 8) (m : LinkMsg) : let t := s.takePartial link p m
    (s.fab.unacked = [] → Emits s t (.ack link m.src) ∧ t.fab = s.fab) ∧
      (m.addr + m.data.length ≤ 0x400000 → ∀ i, i < m.data.length → t.stored (spaceKey (redSpace p) m.addr + i) = m.data.getD i 0) ∧
      (∀ k, ¬ InRanges [(spaceKey (redSpace p) m.addr, m.data.length)] k → t.stored k = s.stored k) ∧
      t.plan.shortHops = (match s.shortHop p m.addr with
        | some e => s.plan.shortHops.erase e
        | none => s.plan.shortHops) ∧
      t.cntGet (LinkCnt.lateIn (oppositePort p)) = (if (s.shortHop p m.addr).isSome then
        min (s.cntGet (LinkCnt.lateIn (oppositePort p)) + 1) 0xFFFFFFFF else s.cntGet (LinkCnt.lateIn (oppositePort p))) ∧
      OnlyChanges [.mem, .plan, .cnt, .out, .fab] s t := by
  intro t
  let laid := s.poke (spaceKey (redSpace p) m.addr) m.data
  let r := laid.latePartial p m.addr
  obtain ⟨hhops, hcount, hlate⟩ := laid.latePartial_counts hp m.addr
  have hlaid : OnlyChanges [.mem] s laid := by simp [onlyChanges_iff, laid]
  have hreceived := r.received_onlyChanges (notedPartial link m)
  have hmem : t.mem = laid.mem := Eq.trans (hreceived .mem (by simp)) (hlate .mem (by simp))
  have hstored (k : Nat) : t.stored k = laid.stored k := by rw [State.stored, State.stored, hmem]
  have hfab : r.fab = s.fab := Eq.trans (hlate .fab (by simp)) (hlaid .fab (by simp))
  have hout : r.out = s.out := Eq.trans (hlate .out (by simp)) (hlaid .out (by simp))
  refine ⟨fun hnone => ?_, fun hsize i hi => ?_, fun k hk => ?_, ?_, ?_, ?_⟩
  · have hacked : t = r.ackMsg (notedPartial link m) := by
      rw [show t = r.received (notedPartial link m) from rfl, State.received_of_none (by rw [hfab, hnone]), State.ackHeld_notedPartial,
        if_neg Bool.false_ne_true]
    rw [hacked]
    refine ⟨?_, (by simp : _ = r.fab).trans hfab⟩
    rw [Emits, State.out_ackMsg, hout]
    rfl
  · exact (hstored _).trans (s.stored_poke_red hp hsize hi)
  · refine (hstored k).trans (State.stored_poke_of_disjoint s ?_)
    by_contra hin
    exact hk ⟨_, List.mem_singleton.mpr rfl, by dsimp only; omega, by dsimp only; omega⟩
  · exact Eq.trans (State.plan_field_of_signalView (r.signalView_received _) PlanState.shortHops fun _ => rfl) hhops
  · exact Eq.trans (r.received_countersKept _ _ (lateIn_not_mem (oppositePort_lt hp) (by decide))) hcount
  · exact (hlaid.trans hlate (n := [.mem, .plan, .cnt]) (by simp) (by simp)).trans hreceived (by simp) (by simp)

include hok hup

theorem exec_partialRx : exec (.partialRx port m) s = .next (match s.redirectOf m.dst with
    | some w => s.passOn w m
    | none => if m.dst = s.fabricAddr then s.takePartial port.val (s.ringEntry port.val m.src) m else s) := by
  change execPartialRx _ _ _ = _
  rw [execPartialRx, checked_of_wellFormed (by simpa [wellFormed] using hok)]
  dsimp only
  rw [hup, Bool.not_true, if_neg Bool.false_ne_true]
  cases s.redirectOf m.dst with
  | some w => rfl
  | none => exact (apply_ite _ _ _ _).symm

/-- PARTIAL_RX. -/
theorem partialRx_arrives : ∃ t, exec (.partialRx port m) s = .next t ∧
    (∀ w, s.redirectOf m.dst = some w → PassedOn s t w m) ∧
    (s.redirectOf m.dst = none → m.dst = s.fabricAddr →
      let p := s.ringEntry port.val m.src
      let late := s.plan.shortHops.find? (fun e => e.1 == p && e.2.1 == m.addr)
      (s.fab.unacked = [] → Emits s t (.ack port.val m.src) ∧ t.fab = s.fab) ∧
      (m.addr + m.data.length ≤ 0x400000 → ∀ i, i < m.data.length → t.stored (spaceKey (redSpace p) m.addr + i) = m.data.getD i 0) ∧
      (∀ k, ¬ InRanges [(spaceKey (redSpace p) m.addr, m.data.length)] k → t.stored k = s.stored k) ∧
      t.plan.shortHops = (match late with
        | some e => s.plan.shortHops.erase e
        | none => s.plan.shortHops) ∧
      t.cntGet (LinkCnt.lateIn (oppositePort p)) = (if late.isSome then min (s.cntGet (LinkCnt.lateIn (oppositePort p)) + 1) 0xFFFFFFFF
        else s.cntGet (LinkCnt.lateIn (oppositePort p))) ∧
      OnlyChanges [.mem, .plan, .cnt, .out, .fab] s t) ∧
    (s.redirectOf m.dst = none → m.dst ≠ s.fabricAddr → t = s) := by
  refine ⟨_, exec_partialRx hok hup, fun w hw => ?_, fun hnone hhere => ?_, fun hnone hother => ?_⟩
  · rw [hw]
    exact s.passOn_passes w m
  · rw [hnone]
    dsimp only
    rw [if_pos hhere]
    exact s.takePartial_lies port.val (s.ringEntry_lt port.val m.src) m
  · rw [hnone]
    exact if_neg hother

end Partial

/-! ## A late contribution carried (15 R386) -/

/-- A signal lets go of late contributions that are to be dropped, and of no others. -/
theorem State.carries_applySignal (s : State) (id inc : Nat) (rep : Option Nat) :
    (s.applySignal id inc rep).plan.carries = s.plan.carries ∨
      (s.applySignal id inc rep).plan.carries = s.plan.carries.filter (fun y => !(y.drop && y.wait == id)) := by
  have hdrop (r : State) (trailer : Bool) : (r.dropLate trailer).plan.carries = r.plan.carries := by cases trailer <;> rfl
  have hdiscard (r : State) : (r.discardLate id).plan.carries = r.plan.carries.filter (fun y => !(y.drop && y.wait == id)) :=
    foldl_keeps (fun r => r.plan.carries) (fun r (y : Carry) => r.dropLate y.trailer) (fun r y => hdrop r y.trailer) _ _
  rw [State.applySignal_eq]
  split
  · exact .inl rfl
  · split
    · exact .inl rfl
    · split
      · exact .inl rfl
      · split
        · exact .inr (hdiscard _)
        · exact .inl rfl

theorem State.mem_carries_applySignal {s : State} {id inc : Nat} {rep : Option Nat} :
    (∀ x ∈ s.plan.carries, x.drop = false → x ∈ (s.applySignal id inc rep).plan.carries) ∧
      ∀ x ∈ (s.applySignal id inc rep).plan.carries, x ∈ s.plan.carries := by
  rcases s.carries_applySignal id inc rep with h | h
  · rw [h]
    exact ⟨fun _ hx _ => hx, fun _ hx => hx⟩
  · rw [h]
    exact ⟨fun x hx hdrop => List.mem_filter.mpr ⟨hx, by simp [hdrop]⟩, fun x hx => (List.mem_filter.mp hx).1⟩

/-- The contribution that port `p` may copy next. -/
def State.carryDue (s : State) (p : Nat) : Option Carry :=
  s.plan.carries.find? (fun y => y.port == p && !y.copied && !y.drop && !y.lost && !s.ctrShort y.wait)

/-- Contribution `y` marked as copied in the list of those that wait. -/
def markCopied (l : List Carry) (y : Carry) : List Carry := l.map (fun x => if x = y then { x with copied := true } else x)

theorem mem_markCopied {l : List Carry} {y : Carry} (hy : y.copied = false) :
    (y ∈ l → { y with copied := true } ∈ markCopied l y) ∧ (∀ x ∈ l, x ≠ y → x ∈ markCopied l y) ∧ y ∉ markCopied l y := by
  refine ⟨fun hmem => List.mem_map.mpr ⟨y, hmem, if_pos rfl⟩, fun x hx hne => List.mem_map.mpr ⟨x, hx, if_neg hne⟩, fun hmem => ?_⟩
  obtain ⟨x, -, hx⟩ := List.mem_map.mp hmem
  split at hx
  next hxy =>
    have : true = y.copied := congrArg Carry.copied hx
    rw [hy] at this
    cases this
  next hxy => exact hxy hx

/-- The contribution read and marked. -/
def State.carryRead (s : State) (p : Nat) (y : Carry) : State :=
  let r := s.noteRead (226 + p) y.src y.bytes
  { r with plan.carries := markCopied r.plan.carries y }

/-- The contribution in its carry area. -/
def State.carryStored (s : State) (p : Nat) (y : Carry) : State := (s.carryRead p y).hbmWrite (226 + p) y.addr (s.read y.src y.bytes)

/-- The contribution counted. -/
def State.carryCounted (s : State) (p : Nat) (y : Carry) : State :=
  (s.carryStored p y).bumps [(LinkCnt.carries p, 1), (PlanCnt.carried, b2n (!y.trailer)),
    (HealthCnt.carriedFlags, b2n (y.trailer && decide (trHealth (s.read y.src y.bytes) ≠ 0)))]

theorem State.carryStored_lays (s : State) (p : Nat) (y : Carry) : Lays [(y.addr, y.bytes)] s (s.carryStored p y) := by
  have hmarked : Lays [(y.addr, y.bytes)] (s.noteRead (226 + p) y.src y.bytes) (s.carryRead p y) :=
    .of_mem (s := s.noteRead (226 + p) y.src y.bytes) (t := s.carryRead p y) rfl (List.Subset.refl _) _
  have hread := (s.noteRead_lays (226 + p) y.src y.bytes _).trans hmarked
  have hwrite := (s.carryRead p y).hbmWriteN_lays (s.carryRead p y).shadowBase (226 + p)
    ((s.read y.src y.bytes).length / 2 ^ 21 + 2) y.addr (s.read y.src y.bytes)
  rw [s.length_read y.src y.bytes] at hwrite
  refine hread.trans ?_
  rw [State.carryStored, State.hbmWrite, s.length_read y.src y.bytes]
  exact hwrite

theorem State.carryStored_plan (s : State) (p : Nat) (y : Carry) : (s.carryStored p y).plan.carries = markCopied s.plan.carries y := by
  have hread : (s.noteRead (226 + p) y.src y.bytes).plan.carries = s.plan.carries :=
    (s.noteRead_works _ _ _).plan_field PlanState.carries fun _ => rfl
  have hwrite : (s.carryStored p y).plan.carries = (s.carryRead p y).plan.carries :=
    (State.hbmWriteN_works _ _ _ _ _ _).plan_field PlanState.carries fun _ => rfl
  rw [hwrite, ← hread]
  rfl

theorem State.carryStored_countersKept (s : State) (p : Nat) (y : Carry) : CountersKept writeCounters s (s.carryStored p y) := by
  have hread : CountersKept writeCounters s (s.carryRead p y) :=
    ((s.noteRead_works (226 + p) y.src y.bytes).counters.trans (countersKept_of_cnt rfl _)).mono (by simp [writeCounters])
  exact hread.trans (State.hbmWriteN_works _ _ _ _ _ _).counters

theorem State.carryCounted_counts (s : State) {p : Nat} (hp : p < 8) (y : Carry) : let t := s.carryCounted p y
    t.cntGet (LinkCnt.carries p) = min (s.cntGet (LinkCnt.carries p) + 1) 0xFFFFFFFF ∧
      t.cntGet PlanCnt.carried = min (s.cntGet PlanCnt.carried + (if y.trailer then 0 else 1)) 0xFFFFFFFF := by
  have hkept := s.carryStored_countersKept p y
  have hcarried : LinkCnt.carries p ≠ PlanCnt.carried := by simpa using carries_not_mem hp (l := [PlanCnt.carried]) (by decide)
  have hflags : LinkCnt.carries p ≠ HealthCnt.carriedFlags := by
    simpa using carries_not_mem hp (l := [HealthCnt.carriedFlags]) (by decide)
  have hplan : PlanCnt.carried ≠ HealthCnt.carriedFlags := by decide
  unfold State.carryCounted State.bumps
  simp only [List.foldl_cons, List.foldl_nil]
  refine ⟨?_, ?_⟩
  · rw [State.cntGet_bump_ne _ hflags, State.cntGet_bump_ne _ hcarried, State.cntGet_bump_narrow _ (cntWide_carries p),
      hkept _ (carries_not_mem hp (by decide))]
  · rw [State.cntGet_bump_ne _ hplan, State.cntGet_bump_narrow _ (by decide), State.cntGet_bump_ne _ hcarried.symm,
      hkept _ (by decide)]
    cases y.trailer <;> rfl

section CarryCopy

variable {port : Fin 8} {s : State} {y : Carry} (hdue : s.carryDue port.val = some y)
include hdue

theorem exec_carryCopy : exec (.carryCopy port) s = .next ((s.carryCounted port.val y).applySignal y.ctr 1 none) := by
  change execCarryCopy _ _ = _
  unfold State.carryDue at hdue
  rw [execCarryCopy, hdue]
  rfl

/-- CARRY_COPY. -/
theorem carryCopy_copies : ∃ t, exec (.carryCopy port) s = .next t ∧ { y with copied := true } ∈ t.plan.carries ∧
    (∀ x ∈ s.plan.carries, x ≠ y → x.drop = false → x ∈ t.plan.carries) ∧ y ∉ t.plan.carries ∧ BytesKept [(y.addr, y.bytes)] s t ∧
    t.cntGet (LinkCnt.carries port.val) = min (s.cntGet (LinkCnt.carries port.val) + 1) 0xFFFFFFFF ∧
    t.cntGet PlanCnt.carried = min (s.cntGet PlanCnt.carried + (if y.trailer then 0 else 1)) 0xFFFFFFFF ∧
    t.unit = s.unit ∧ t.out = s.out ∧ t.dev = s.dev ∧ t.time = s.time ∧ t.fab = s.fab := by
  let r := s.carryCounted port.val y
  have hfound := List.find?_some hdue
  simp only [Bool.and_eq_true, Bool.not_eq_true'] at hfound
  obtain ⟨⟨⟨⟨-, hcopied⟩, hdrop⟩, -⟩, -⟩ := hfound
  obtain ⟨hself, hothers, hgone⟩ := mem_markCopied (l := s.plan.carries) hcopied
  have hcarries : r.plan.carries = markCopied s.plan.carries y := by
    rw [← s.carryStored_plan port.val y, show r.plan = (s.carryStored port.val y).plan by simp [r, State.carryCounted]]
  rw [← hcarries] at hself hothers hgone
  obtain ⟨hstay, hfrom⟩ := State.mem_carries_applySignal (s := r) (id := y.ctr) (inc := 1) (rep := none)
  obtain ⟨hcount, hplan⟩ := s.carryCounted_counts port.isLt y
  have hsignal := r.applySignal_countersKept y.ctr 1 none
  have hlays : Lays [(y.addr, y.bytes)] s (r.applySignal y.ctr 1 none) :=
    (s.carryStored_lays port.val y).trans (.of_mem (by simp [r, State.carryCounted]) (by simp [r, State.carryCounted]) _)
  refine ⟨_, exec_carryCopy hdue, hstay _ (hself (List.mem_of_find?_eq_some hdue)) hdrop, fun x hx hne hxdrop => hstay x (hothers x hx hne)
    hxdrop, fun hmem => hgone (hfrom y hmem), hlays.kept, ?_, ?_, ?_, ?_, ?_, ?_, ?_⟩
  · exact (hsignal _ (carries_not_mem port.isLt (by decide))).trans hcount
  · exact (hsignal _ (by decide)).trans hplan
  all_goals simp [State.carryCounted, State.carryStored, State.carryRead]

end CarryCopy

/-- Settles O33: messages and multicasts are a write and then a wait for its bytes; a partial has no bytes to wait for; a carry moves one
contribution of the plan's list. -/
theorem linkMessagesArrive : Obligations.LinkMessagesArrive := by
  unfold Obligations.LinkMessagesArrive
  exact ⟨fun port m s hok hup => ⟨messageRx_arrives hok hup, mcastRx_arrives hok hup, partialRx_arrives hok hup⟩,
    fun port s y hdue => carryCopy_copies hdue⟩

end Sys2Proof.Machine
end
